-- ==== Sys2Proof/Word.lean ====
section
/-! DEFINITION.  Word types of the KY5120 and the plain records its register map is written in.
Rules R6, R7 and R9 of spec/00_scope.md give the widths and the numeric identifiers. -/

namespace Sys2Proof

/-- A byte of a record, a descriptor or host memory (R6). -/
abbrev Byte := BitVec 8
/-- A 32-bit register (R8). -/
abbrev Reg := BitVec 32
/-- A 64-bit data word (R7). -/
abbrev Word := BitVec 64

/-- Physical or logical mat id: column index for L1, 256 + column index for L3 (R9). -/
abbrev MatId := Fin 512
/-- Column index 16y + x (R9). -/
abbrev ColId := Fin 256
/-- Bank id: 8 × column + b for b0 to b7, 2,048 + column for b8 (R9). -/
abbrev BankId := Fin 2304
/-- Queue id: 4 × bank id + local (R9). -/
abbrev QueueId := Fin 8192
/-- Swap group, pacer or track number (R9). -/
abbrev Id64 := Fin 64
/-- Resident slot S0 to S3 (R9). -/
abbrev SlotId := Fin 4
/-- Control core number (R9). -/
abbrev CoreId := Fin 8
/-- Field port number (R9). -/
abbrev PortId := Fin 128
/-- General lane number XL00 to XL31 (R9). -/
abbrev LaneId := Fin 32
/-- Tether number TH0 to TH7 (R9). -/
abbrev TetherId := Fin 8
/-- Tally engine number TE0 to TE7 (R9). -/
abbrev EngineId := Fin 8
/-- Station number ST0000 to ST1023 (R9). -/
abbrev StationId := Fin 1024
/-- Ring number: 0 to 63 of PF0, 64 to 1,023 of PF1 (R287). -/
abbrev RingId := Fin 1024

/-- A field of a register: the register's key in the register file, its lowest bit and its width. -/
structure Fld where
  reg : Nat
  lo : Nat
  w : Nat
  deriving DecidableEq, Repr

/-- One dimension of an array of registers: byte stride and number of instances. -/
structure Dim where
  stride : Nat
  count : Nat
  deriving DecidableEq, Repr

/-- A class of registers of one shape, as one register table of the spec describes it: the key of
its first instance, its dimensions, the reset value, and by access type (R8) the mask of bits. -/
structure RegClass where
  base : Nat
  dims : List Dim
  reset : Nat
  rw : Nat
  w1c : Nat
  w1s : Nat
  rc : Nat
  wo : Nat
  /-- fields whose reset value lies in NV or in fuses: no reset reaches them -/
  kept : Nat
  /-- for a statistics counter (R33): base key of its SAT register, its bit, and the strides of that
  register and of the bit, one for each dimension of the counter -/
  sat : Option (Nat × Nat × List (Nat × Nat))
  deriving DecidableEq, Repr

end Sys2Proof
end

