-- ==== Sys2Proof/Config.lean ====
section
/-! DEFINITION.  What an implementation fixes and the free values.  Every constant here is opaque:
nothing in Lean can see a value of it, so a statement holds whatever the value is. -/

namespace Sys2Proof

/-- Free words (log entry 6): the n-th value that the spec leaves open.  The model applies it to the
counter State.free, which it advances at each use. -/
opaque Config.freeWord : Nat → BitVec 64

/-- Use of a rhizoid group (column, interface, group), fixed in silicon (R95, COL_RHZ_GRP.USE). -/
opaque Config.rhzUse : Nat → Nat → Nat → BitVec 3

/-- A configuration or I/O rhizoid group (column, interface, group) carries wires of the L1 mat (0) or of the L3 mat
(1): the dependencies of every group are listed in the device database (R97). -/
opaque Config.groupCarries : Nat → Nat → Nat → Nat → Bool

/-- The test pattern of a free b8, by word (R113). -/
opaque Config.testPattern : Nat → BitVec 64

/-- Which of the 16 trunk lanes of a trunk group a working position carries (R96), fixed in silicon. -/
opaque Config.rhzLane : Nat → Fin 16

/-- What a switch of a mat, or the tuft crossbar behind it, can select: every source that the spec gives a
mat (R63, R68, R72, R78, R80, R103, R109, R133, R180, R310). -/
inductive WireSrc where
  /-- output of a frond of the mat -/
  | frond (f : Nat)
  /-- mat-local track -/
  | track (k : Nat)
  /-- bit j of inbound channel h -/
  | inBit (h j : Nat)
  /-- acknowledge that comes back on outbound channel h -/
  | outAck (h : Nat)
  /-- trunk lane k as this mat's end buffer presents it -/
  | lane (k : Nat)
  /-- acknowledge of this mat's end buffer for a token driven into lane k -/
  | laneAck (k : Nat)
  /-- bit j of the result of a MAC tile -/
  | macBit (tile j : Nat)
  /-- acknowledge of the inputs of a MAC tile -/
  | macAck (tile : Nat)
  /-- bit j of memory-port response channel b -/
  | portBit (b j : Nat)
  /-- acknowledge of memory-port request channel q -/
  | portAck (q : Nat)
  /-- bit j of the register channel's token: word offset, write flag, data -/
  | regBit (j : Nat)
  /-- endpoint of the I/O path of a pin, 0 to 351 -/
  | pin (v : Nat)
  deriving DecidableEq, Repr

/-- The source that a code selects on switch k of a routing class, none for a reserved code: the source set of
each multiplexer is fixed in silicon and listed in the device database (R65). -/
opaque Config.switchSource : Nat → Nat → Nat → Option WireSrc

/-- The source within a context (its frond words) that acknowledges the tokens it takes from trunk lane k: the
track endpoints of the lanes are listed in the device database (R65, R103). -/
opaque Config.laneTaker : List (Nat × BitVec 256) → Nat → Option WireSrc

/-- The customer root and image key 0 that Boryr provisions into a -EP part from the customer's submission (R2, R379). -/
opaque Config.submittedRoot : BitVec 512
opaque Config.submittedKey : BitVec 256

/-- The fronds of a context (its frond words) that make the bridges of its clocked islands: Elvif inserts the bridges, and
no bit of a frond word tells them (R83, R271). -/
opaque Config.bridgeFronds : List (Nat × BitVec 256) → List Nat

/-- A context (its frond words) drives the I/O path of a unit: pin 0 to 351, or 352 + general lane.  The
track endpoints of the I/O paths are listed in the device database (R173, R310). -/
opaque Config.drivesPath : List (Nat × BitVec 256) → Nat → Bool

/-- A context (its frond words) reaches bank b0 to b7 of its column by its memory port, and takes trunk lane
k of its column: the relocation and bank sets of each mat are recorded in the device database (R453). -/
opaque Config.reachesBank : List (Nat × BitVec 256) → Nat → Bool
opaque Config.takesLane : List (Nat × BitVec 256) → Nat → Bool

/-- SHA-512 as the security engine computes it over bytes (R384, R398, R509).  The model leaves it
uninterpreted. -/
opaque Config.sha512 : List (BitVec 8) → BitVec 512

/-- Coefficients of an L2 region's triangulation (R416), as made: A_r, B_r in °C per G accesses/s, C_r in °C.
They are the device's own and held in NV. -/
opaque Config.triA : Nat → Rat
opaque Config.triB : Nat → Rat
opaque Config.triC : Nat → Rat

end Sys2Proof
end

