-- ==== Sys2Proof/Syntax.lean ====
section
/-! DEFINITION.  The commands of the KY5120: one constructor of Instr for each row of
spec/opcode_table.json, with the row's operands, and the records that the operands carry.  Operands
hold what comes from outside the block: arguments of host commands, written data, tokens, and the
findings of sensors, error correction, pattern tests and cryptographic checks. -/

namespace Sys2Proof

/-- Who makes a register access: the requesters of R38.  A steward pair reads as one requester. -/
inductive Requester where
  | host
  | pair (b : Fin 2)
  | service (k : Fin 4)
  | debug
  deriving DecidableEq, Repr

/-- The header of a host command (R292), as far as the command itself is concerned: the command ring
it was fetched from, the host's command id, the session tag, and whether a reserved byte or bit of
ARGS is not 0. -/
structure Hdr where
  ring : Fin 64
  id : BitVec 32
  session : BitVec 16
  rsv : Bool
  deriving DecidableEq, Repr

/-- What error correction finds in a word as it is read (R112): nothing, a correctable error, or an
uncorrectable error with the word as read; with the SECDED syndrome (COL_BANK_LAST). -/
inductive Ecc where
  | clean
  | ce (syndrome : Byte)
  | ue (asRead : Word) (syndrome : Byte)
  deriving DecidableEq, Repr

/-- A request that arrives at the bank controllers on a request channel of a mat's memory port (R109): what error
correction finds in the word, and whether the parity of the request's or of the response's crossing mismatches. -/
structure PortArrival where
  mat : MatId
  rq : Fin 2
  request : BitVec 93
  ecc : Ecc
  parityBad : Bool
  respParityBad : Bool
  deriving DecidableEq, Repr

/-- An end of a queue (R200): a mat of the bank's column (0 L1, 1 L3), a data ring, a field port, a
general lane, or a control-core end (the debug port acts as one). -/
inductive QEnd where
  | mat (g : Fin 2)
  | ring (n : RingId)
  | port (p : PortId)
  | lane (x : LaneId)
  | core (r : Requester)
  deriving DecidableEq, Repr

/-- The part of a data ring entry that the host writes (R298); rsv: a reserved field is not 0. -/
structure DEntry where
  addr : Word
  len : BitVec 32
  hflags : Byte
  rsv : Bool
  deriving DecidableEq, Repr

/-- Which part of a queue's QUE_DATA a requester accesses (R202). -/
inductive QPart where
  | lo
  | hi
  | whole
  deriving DecidableEq, Repr


/-- The register that a pin's function is written to (R329). -/
inductive FnReg where
  | cfg (p : PortId)
  | owner (p : PortId)
  | gpio (n : Fin 96)
  deriving DecidableEq, Repr

/-- A port or GPIO pin whose function switches. -/
inductive FnUnit where
  | port (p : PortId)
  | gpio (n : Fin 96)
  deriving DecidableEq, Repr

/-- What a survey measures (R317 to R320): each part is used only where it was requested. -/
structure Survey where
  lenCm : BitVec 16
  term : BitVec 4
  load : BitVec 4
  partner : Byte
  rOhm : BitVec 32
  rho : BitVec 16
  ticks : BitVec 32
  vfpMv : BitVec 16
  deriving DecidableEq, Repr


/-- What a 64b/66b block is to its frame, as the lane's PCS decodes it (R342, R343). -/
inductive LaneBlock where
  | start
  | terminate
  | other
  deriving DecidableEq, Repr

/-- A token or item that a lane receives (R341 to R343): its 72 bits, for 8b/10b the valid characters, the
block it is, whether a comma or idle stood before or follows, the code errors seen since the previous
one, and whether the owner can take it and has taken the previous receive timestamp. -/
structure LaneRx where
  bits : BitVec 72
  count : BitVec 6
  block : LaneBlock
  gapBefore : Bool
  gapAfter : Bool
  errors : BitVec 16
  ready : Bool
  stampTaken : Bool
  deriving DecidableEq, Repr

/-- What a lane's transmit side has (R341 to R343): the owner mat's token, if it presents one, the block it
is, what error correction finds in a queue item, and whether the previous transmit timestamp was taken. -/
structure LaneTx where
  token : Option (BitVec 72)
  block : LaneBlock
  ecc : Ecc
  stampTaken : Bool
  deriving DecidableEq, Repr


/-- Destination of a CONTEXT, TRUNK_HOLD or PIN_CHOICE frame (R361, R362): the logical mats (one, or those of
the bitmap), the slot, LIB with its entry, ACTIVE and ALSO_LIB. -/
structure MatDest where
  mats : List Nat
  slot : Fin 4
  lib : Bool
  entry : Fin 16
  active : Bool
  alsoLib : Bool
  deriving DecidableEq, Repr

/-- The body of a frame as its bytes spell it (R361); `malformed` is a frame that is no frame of R360 to R362. -/
inductive Frame where
  | pad
  | context (dest : MatDest) (words : List (Nat × BitVec 256)) (check : Word)
  | trunkHold (dest : MatDest) (lanes : List Nat)
  | pinChoice (dest : MatDest) (pins : List Nat)
  | bankInit (banks : List Nat) (first : Nat) (words : List Word)
  | column (col : ColId) (thru : List Reg) (group0 group1 : Option Id64) (timeout : Reg)
  | region (pacer : Id64) (slackPct flags : Byte) (period phase margin : BitVec 32) (at_ : Word)
      (anchor : MatId) (mats : List Nat)
  | schedule (group : Id64) (pacer mode count : Byte) (first : Word) (phases : List (BitVec 32)) (tether : Bool)
  | queue (queue : QueueId) (sizeLog2 flags prod cons : Byte) (base : BitVec 16)
  | track (track op b10 b11 b12 b13 : Byte) (h14 h16 h18 : BitVec 16) (w20 w24 : BitVec 32)
  | station (station : BitVec 16) (kind track trigger flags zone field value pin : Byte)
      (offset : BitVec 32) (win holdoff : BitVec 16)
  | regs (block : Nat) (pairs : List (Nat × Reg))
  | ax (inst : Fin 4) (host : MatId) (key : BitVec 512) (permit : List Nat)
  | tether (ctl : List (BitVec 6))
  | start (mv : BitVec 16)
  | malformed
  deriving DecidableEq, Repr

/-- A frame with its DEVMASK and the segment it lies in (R360). -/
structure FrameRec where
  devmask : Byte
  segment : Nat
  body : Frame
  deriving DecidableEq, Repr

/-- An image or context pack as its bytes spell it (R355 to R362), with what the cryptographic engines find:
the first segment whose SHA-512 differs from the hash list, the SHA-512 of the public key, the signature
check, the image key that the segments are encrypted under, the first segment whose tag fails under
that key, and the measurement of R398. -/
structure Image where
  magic : BitVec 32
  format : BitVec 16
  kind : Byte
  keysel : Byte
  family : BitVec 16
  part : BitVec 16
  fpclass : BitVec 32
  arv : BitVec 32
  devmask : Byte
  n : BitVec 16
  total : BitVec 32
  charterOff : BitVec 32
  segtabOff : BitVec 32
  trailerOff : BitVec 32
  /-- reserved header bytes, bytes between segments and charter padding are 0 -/
  reservedZero : Bool
  /-- OFFSET and LENGTH of each segment -/
  segments : List (BitVec 32 × BitVec 32)
  /-- the 352 bytes of the pin charter; none in a pack -/
  charter : List Byte
  badHash : Option Nat
  keyHash : BitVec 512
  sigOk : Bool
  imageKey : BitVec 256
  badTag : Option Nat
  frames : List FrameRec
  measure : BitVec 512
  deriving DecidableEq, Repr


/-- A key response (R392, R516): SHA-512 of the holder's key, MAX_CLASS, FLAGS, and whether the certificate
signature and the proof verify. -/
structure KeyResp where
  holder : BitVec 512
  maxClass : Byte
  flags : Byte
  reservedZero : Bool
  certOk : Bool
  proofOk : Bool
  deriving DecidableEq, Repr

/-- A password record: salt and SHA-512 of salt and password (R384). -/
structure PwdRec where
  salt : BitVec 256
  hash : BitVec 512
  deriving DecidableEq, Repr

/-- A provisioning record (R384) with what the security engine finds (R385): SHA-512 of ROOTKEY, its
signature check, and the image keys that WRAPPED spells, none where it cannot be decrypted. -/
structure ProvRecord where
  magic : BitVec 32
  format : BitVec 16
  ops : Byte
  reservedZero : Bool
  serial : Word
  nonce : BitVec 512
  rootKey : BitVec 512
  keyMask : Byte
  wrapped : Option (List (BitVec 256))
  passwords : List (Option PwdRec)
  sigOk : Bool
  deriving DecidableEq, Repr


/-- A program table entry of the service bundle (R509). -/
structure Prog where
  present : Bool
  autostart : Bool
  offset : Nat
  length : Nat
  entry : Word
  wdMs : Nat
  sramKib : Nat
  sha : BitVec 512
  deriving DecidableEq, Repr

/-- A firmware image as its bytes spell it (R466, R509), how many bytes arrive, and what the security engine
finds. -/
structure Firmware where
  magic : BitVec 32
  format : BitVec 16
  target : Byte
  version : BitVec 32
  total : BitVec 32
  reservedZero : Bool
  arrived : BitVec 32
  keyHash : BitVec 512
  sigOk : Bool
  progs : List Prog
  measure : BitVec 512
  deriving DecidableEq, Repr

/-- Chains of through-paths that the configuration engine can compute for a target (R454 item 6): the target
physical mat, and each relaying gate's path with its register value. -/
structure Chain where
  target : MatId
  paths : List (MatId × Fin 32 × Reg)
  deriving DecidableEq, Repr


/-- The registers of a core as it halts: pc and x1 to x31. -/
structure CoreRegs where
  pc : Word
  gpr : List Word
  deriving DecidableEq, Repr


/-- The commands, in the table's order. -/
inductive Instr where
  /-- SESSION_OPEN, R389: Host command that opens a session by identity read, password, key challenge, key response or BLANK method. -/
  | sessionOpen (h : Hdr) (method cls len : Byte) (password : List Byte) (addr : Word) (length : BitVec 32) (resp : KeyResp)
  /-- SESSION_CLOSE, R393: Host command that closes the issuing session or, for ADMIN, a named session. -/
  | sessionClose (h : Hdr) (tag : BitVec 16)
  /-- ATTEST, R397: Host command that writes a signed 896-byte attestation report to host memory. -/
  | attest (h : Hdr) (addr : Word) (nonce : BitVec 256)
  /-- IMAGE_STAGE, R367: Host command that fetches one piece of an image into the staging buffer by DMA. -/
  | imageStage (h : Hdr) (addr : Word) (length offset : BitVec 32) (image : Image)
  /-- IMAGE_COMMIT, R369: Host command that submits writing the verified staged image into an NV slot. -/
  | imageCommit (h : Hdr) (slot : Byte)
  /-- BOOT_SELECT, R370: Host command that selects, trials or confirms the boot slot and may raise the anti-rollback counter. -/
  | bootSelect (h : Hdr) (op slot : Byte)
  /-- PACK_LOAD, R373: Host command that stages and verifies a context pack and submits its library writes. -/
  | packLoad (h : Hdr) (addr : Word) (length offset : BitVec 32) (image : Image)
  /-- CTX_LOAD, R129: Host command that loads a library entry into a slot of one mat or of every mat of a group. -/
  | ctxLoad (h : Hdr) (mat : BitVec 16) (scope group slot entry waitMs : Byte)
  /-- CTX_SWAP, R134: Host command that requests a swap of a group to a slot, at once, at a time or at a period start. -/
  | ctxSwap (h : Hdr) (group slot when_ tether : Byte) (at_ : Word)
  /-- SCHEDULE_SET, R148: Host command that sets, replaces or clears a group's phase schedule. -/
  | scheduleSet (h : Hdr) (group pacer mode count : Byte) (first : Word) (phases : List (BitVec 32))
  /-- CROSIER_LOAD, R155: Host command that starts a crosier load rewriting the active slot of a mat or group. -/
  | crosierLoad (h : Hdr) (mat : BitVec 16) (scope group entry : Byte)
  /-- PACER_SET, R170: Host command that starts, stops or changes a pacer. -/
  | pacerSet (h : Hdr) (pacer op slackPct flags : Byte) (period phase margin : BitVec 32) (at_ : Word)
  /-- REGION_BIND, R174: Host command that binds or unbinds mats to a pacer's paced region. -/
  | regionBind (h : Hdr) (pacer op scope group : Byte) (mat anchor : BitVec 16)
  /-- QUEUE_CREATE, R215: Host command that creates a queue in its engine's bank. -/
  | queueCreate (h : Hdr) (queue : BitVec 16) (sizeLog2 flags prod cons : Byte) (base : BitVec 16)
  /-- QUEUE_BIND_RING, R216: Host command that binds or unbinds a data ring to a queue. -/
  | queueBindRing (h : Hdr) (queue ring : BitVec 16) (op : Byte)
  /-- QUEUE_RESET, R217: Host command that resets or deletes a queue. -/
  | queueReset (h : Hdr) (queue : BitVec 16) (op : Byte)
  /-- TRACK_SET, R240: Host command that configures a track, writes a rule, flushes a track or selects a rule bank. -/
  | trackSet (h : Hdr) (track op b10 b11 b12 b13 : Byte) (h14 h16 h18 : BitVec 16) (w20 w24 : BitVec 32)
  /-- STATION_SET, R241: Host command that configures a station. -/
  | stationSet (h : Hdr) (station : BitVec 16) (kind track trigger flags zone field value pin : Byte) (offset : BitVec 32) (win holdoff : BitVec 16)
  /-- TALLY_QUERY, R242: Host command that writes one tally record to host memory. -/
  | tallyQuery (h : Hdr) (track mode : Byte) (station : BitVec 16) (id : BitVec 32) (addr : Word)
  /-- SURVEY, R317: Host command that requests a survey of a field port. -/
  | survey (h : Hdr) (port what : Byte) (vf : BitVec 16) (pins flags : Byte)
  /-- BIST_RUN, R484: Host command that runs a slice on a unit or releases it without a test. -/
  | bistRun (h : Hdr) (op kind : Byte) (inst : BitVec 16)
  /-- REPAIR, R118: Host command that requests a bank remap, a group sounding or a trunk lane re-test. -/
  | repair (h : Hdr) (kind : Byte) (column : BitVec 16) (unit group : Byte)
  /-- RELOCATE, R461: Host command that relocates a mat's relocation set, optionally to a named target. -/
  | relocate (h : Hdr) (mat : BitVec 16) (flags : Byte) (target : BitVec 16) (chains : List Chain)
  /-- FIELDBOOK_READ, R493: Host command that writes the field-book ring or a page to host memory. -/
  | fieldbookRead (h : Hdr) (source : Byte) (addr : Word) (length : BitVec 32)
  /-- FIELDBOOK_MARK, R492: Host command that raises FB_MARK and starts a field-book commit. -/
  | fieldbookMark (h : Hdr) (mark : BitVec 16) (data : BitVec 96)
  /-- POWER_DOWN, R485: Host command that puts pins under charter, stops pacers and starts a commit before the traverse. -/
  | powerDown (h : Hdr)
  /-- FW_UPDATE, R467: Host command that fetches and verifies a firmware image and submits its update. -/
  | fwUpdate (h : Hdr) (target : Byte) (addr : Word) (length : BitVec 32) (fw : Firmware)
  /-- COMMAND_FETCH, R293: Device fetches the next command of a command ring and checks opcode, session and arguments. -/
  | commandFetch (ring : Fin 64) (opcode flags : Byte) (session : BitVec 16) (id : BitVec 32)
  /-- COMPLETION_FLUSH, R295: Held completions are written once the completion ring has room. -/
  | completionFlush (ring : Fin 64)
  /-- DOORBELL_WRITE, R289: Host writes its index of a ring to the ring's doorbell. -/
  | doorbellWrite (ring : RingId) (value : Word)
  /-- RING_ENABLE, R290: Write of EN 1 to a ring's CFG checks the set-up and starts the ring. -/
  | ringEnable (ring : RingId) (cfg : Reg)
  /-- RING_DISABLE, R290: Write of EN 0 to a ring's CFG stops it after the transfer in progress. -/
  | ringDisable (ring : RingId) (cfg : Reg)
  /-- DMA_ERROR, R290: A DMA request of a ring receives an error completion or times out, putting the ring in FAULT. -/
  | dmaError (ring : RingId) (index : BitVec 32)
  /-- DATA_RING_WRITEBACK, R299: Device writes queue items into a posted buffer and writes back the entry. -/
  | dataRingWriteback (ring : RingId) (entries : List DEntry) (found : List (Nat × Ecc))
  /-- DATA_RING_COAL_TIMEOUT, R299: COAL.US passes with no new item and the partly filled entry is written back. -/
  | dataRingCoalTimeout (ring : RingId) (entry : DEntry) (found : List (Nat × Ecc))
  /-- DATA_RING_FETCH, R300: Device fetches a host-to-device entry's buffer and pushes its words as space permits. -/
  | dataRingFetch (ring : RingId) (entry : DEntry) (words : List Word)
  /-- MSIX_COALESCE_TIMEOUT, R291: COAL.US elapses since the first unsignalled entry and an MSI-X message is raised. -/
  | msixCoalesceTimeout (ring : RingId)
  /-- HEARTBEAT_WRITE, R301: Host write of HIF_HEARTBEAT restarts the heartbeat timer and ends host-absent mode. -/
  | heartbeatWrite (value : Reg)
  /-- HEARTBEAT_ENABLE, R301: Write of HIF_HB_CTL.EN 1 starts heartbeat supervision. -/
  | heartbeatEnable (value : Reg)
  /-- HEARTBEAT_TIMEOUT, R301: The heartbeat timer expires and the device enters host-absent mode. -/
  | heartbeatTimeout
  /-- PERST, R279: Host PERST# resets the host link, rings, HIF and HDR registers and DMA. -/
  | perst (asserted : Bool)
  /-- FLR_PF0, R280: Function Level Reset of PF0 resets rings 0 to 63, HIF registers, heartbeat and the host latch. -/
  | flrPf0
  /-- FLR_PF1, R280: Function Level Reset of PF1 resets rings 64 to 1,023 and HDR registers. -/
  | flrPf1
  /-- LINK_DOWN, R281: The PCIe link goes down without PERST#; DMA stops and host-absent mode may begin. -/
  | linkDown
  /-- LINK_UP, R281: The link retrains and DMA resumes from the kept indices. -/
  | linkUp (width : BitVec 5) (rate : BitVec 3) (reversed degraded : Bool)
  /-- BAD_ACCESS, R42: A host access to PF0 BAR0 of wrong size, alignment or offset is ignored or returns 0. -/
  | badAccess (req : Requester) (offset : BitVec 32) (size : Byte) (write : Bool) (data : Word)
  /-- HOST_BAD_ACCESS, R284: A bad host access to PF0 BAR2, PF1 BAR0 or PF1 BAR2 is ignored and counted. -/
  | hostBadAccess (bar : Fin 3) (offset : BitVec 32) (size : Byte) (write : Bool)
  /-- GATED_ACCESS, R266: An access to a gated block's registers is not performed. -/
  | gatedAccess (req : Requester) (offset : BitVec 32) (size : Byte) (write : Bool)
  /-- WINDOW_ACCESS, R285: A host access to the PF1 BAR2 window becomes a register-channel token to a mat. -/
  | windowAccess (offset : BitVec 24) (size : Byte) (write : Bool) (data : Word)
  /-- REGCH_RESPONSE, R78: The design acknowledges and answers a register-channel access. -/
  | regchResponse (mat : MatId) (value : Word) (late : Bool)
  /-- REGCH_TIMEOUT, R79: A register-channel access is not answered within TIMEOUT_US and completes without the design. -/
  | regchTimeout (mat : MatId)
  /-- REGISTER_WRITE, R8: Write to a register that has no row of its own. -/
  | registerWrite (req : Requester) (offset : BitVec 32) (value : Reg)
  /-- COUNTER_CLEAR, R33: Any write to a statistics counter clears it and its SAT bit. -/
  | counterClear (req : Requester) (offset : BitVec 32)
  /-- RC_READ, R8: Read of an RC register returns its value and clears it. -/
  | rcRead (req : Requester) (offset : BitVec 32)
  /-- LOW_WORD_READ, R38: Read of a 64-bit register's low word latches its high word for the requester. -/
  | lowWordRead (req : Requester) (offset : BitVec 32)
  /-- HREF_LOST, R247: HREF absence detected; PLLs hold over or unlock, device time stops and pacers freeze. -/
  | hrefLost
  /-- HREF_RESTORED, R247: After HREF is present 100 µs the PLLs relock and device time resumes. -/
  | hrefRestored (absentUs : BitVec 32)
  /-- PLL_UNLOCK, R273: A PLL loses lock with HREF present. -/
  | pllUnlock (pll : Fin 7)
  /-- PLL_LOCK, R251: PLLs lock in P5; device time starts and root and FPD move to their PLLs. -/
  | pllLock (pll : Fin 7)
  /-- SSC_DETECTED, R250: Measured HREF modulation exceeds 1,000 ppm; SSC_SEEN set and Ethernet lanes and tethers stopped. -/
  | sscDetected
  /-- CLK_DIV_WRITE, R254: Write to CLK_DIV or CLK_FDIV changes a divider when both clocks are low. -/
  | clkDivWrite (req : Requester) (fabric : Bool) (value : Reg)
  /-- OP_ENTRY_WRITE, R256: Write to an operating-point entry, ignored when it would be unrated. -/
  | opEntryWrite (req : Requester) (entry : Fin 4) (value : Reg)
  /-- OP_REQUEST, R257: Write of REQ to CLK_OP_CTL starts or queues an operating-point transition. -/
  | opRequest (req : Requester) (value : Reg)
  /-- SET_POINT_REACHED, R405: The PMU reports a requested VDD_F or VDD_B set point reached. -/
  | setPointReached (rail : Fin 2)
  /-- TREE_SOURCE_SWITCH, R262: Write changing a tree's SRC starts a glitch-free source switch. -/
  | treeSourceSwitch (req : Requester) (tree : Fin 32) (value : Reg)
  /-- TREE_FORCED_SWITCH, R263: Write with FORCE 1 switches a tree's source at once and resets its bridges. -/
  | treeForcedSwitch (req : Requester) (tree : Fin 32) (value : Reg)
  /-- TREE_DIVIDER_CHANGE, R265: Write changing only a tree's DIV. -/
  | treeDividerChange (req : Requester) (tree : Fin 32) (value : Reg)
  /-- SWITCH_HUNG, R262: A tree switch has been pending 1 µs; HUNG set. -/
  | switchHung (tree : Fin 32)
  /-- TREE_SOURCE_LOST, R264: A tree's source in use becomes absent and its output stops. -/
  | treeSourceLost (tree : Fin 32) (source : Fin 4)
  /-- TREE_SOURCE_RESTORED, R264: A tree source is present again after 10 µs of edges and the output resumes. -/
  | treeSourceRestored (tree : Fin 32) (source : Fin 4)
  /-- CLK_EN_WRITE, R267: Write to CLK_EN0 or CLK_EN1 gates or ungates blocks, refusing bits whose condition fails. -/
  | clkEnWrite (req : Requester) (second : Bool) (value : Reg)
  /-- CLK_GRP_WRITE, R269: Write to CLK_GRP turns gate groups on or off subject to the tree rules. -/
  | clkGrpWrite (req : Requester) (value : Reg)
  /-- TIME_ADJ_WRITE, R167: Host write of a correction to CLK_TIME_ADJ is applied by slewing or stepping. -/
  | timeAdjWrite (req : Requester) (value : BitVec 32)
  /-- PTM_EXCHANGE, R166: Periodic PTM exchange records the host-device offset and applies it. -/
  | ptmExchange (offset : Word)
  /-- PTM_LOST, R166: No PTM exchange succeeded for four intervals; PTM_VALID cleared. -/
  | ptmLost
  /-- POWER_ON, R426: VAUX rises through its reset level and start-up begins at P1. -/
  | powerOn
  /-- VAUX_LOST, R412: VAUX falls below its reset level and the device stops as in P0. -/
  | vauxLost
  /-- RAIL_GOOD, R404: A rail has been good 50 µs and the sequencer releases the next enable. -/
  | railGood (rail : Fin 8)
  /-- SEQUENCER_FAIL, R404: A rail is not good within 20 ms; the sequencer stops and FAULT_N is asserted. -/
  | sequencerFail
  /-- RAIL_WARN, R408: A rail stays below its warning level 200 ns; NV writes suspend and a commit starts. -/
  | railWarn (rail : Fin 8) (mv : BitVec 16)
  /-- RAIL_RECOVERED, R410: A rail stays above warning plus 20 mV for 50 µs and its warning actions end. -/
  | railRecovered (rail : Fin 8) (mv lowest : BitVec 16)
  /-- RAIL_RESET, R412: A rail below its reset level 100 ns triggers the protective actions of its row. -/
  | railReset (rail : Fin 8) (mv : BitVec 16)
  /-- VDD_F_RESTART, R412: After SEQ_EN4 was held 10 ms the PMU re-enables VDD_F at the set point in force. -/
  | vddFRestart
  /-- AVS_FAULT, R405: Three successive AVSBus transaction failures; governor and sequencer hold. -/
  | avsFault (rail : Fin 2) (status : Byte)
  /-- POWER_MEASUREMENT, R406: Package power average is updated and the power cap state evaluated. -/
  | powerMeasurement (rails : List (BitVec 16 × BitVec 16))
  /-- POWER_CAP_EXCEEDED, R191: The cap stays active 100 ms at the lower bound and critical actions are taken. -/
  | powerCapExceeded
  /-- IR_DROP, R407: A column's local rail stays below the L0 measurement beyond LIMIT_MV for 10 µs. -/
  | irDrop (layer : Fin 4) (col : ColId) (localMv l0Mv : BitVec 16)
  /-- GOVERNOR_INTERVAL, R189: Each governor interval evaluates slack and raises, lowers or holds VDD_F. -/
  | governorInterval
  /-- SENSOR_SAMPLE, R419: A thermal sensor sample is checked for plausibility and compared with the thermal levels. -/
  | sensorSample (layer : Fin 5) (index : Byte) (reading : Option (BitVec 16))
  /-- TRIANGULATION, R416: Every 1 ms the L2 supervisor estimates each L2 region's temperature. -/
  | triangulation (activity : List (BitVec 32 × BitVec 32))
  /-- SENSOR_RELEASED, R417: A SUSPECT sensor is released after 10 s of agreement. -/
  | sensorReleased (layer : Fin 5) (index : Byte)
  /-- CRITICAL_RESTART, R421: With AUTO_RESTART, temperatures below 100 °C for 1 s start the warm reset leaving critical. -/
  | criticalRestart
  /-- TRIANGULATION_RECAL, R418: Granted recalibration moves each region's C_r and writes it to NV. -/
  | triangulationRecal (means : List (Int × Bool))
  /-- ILLEGAL_CODE, R89: A completion detector sees the illegal code; the mat gate records it and may disable a channel. -/
  | illegalCode (mat : MatId) (where_ : Fin 5) (index : BitVec 10)
  /-- CHANNEL_RETEST, R90: At quiescence a disabled inbound channel's wire sets are sounded and relocation requested. -/
  | channelRetest (mat : MatId) (channel : Fin 64) (failed : List (MatId × Fin 64 × Fin 4))
  /-- CLOCKED_NULL, R60: A CLOCKED hold sees NULL at its edge and keeps its code. -/
  | clockedNull (mat : MatId) (frond : Fin 1024)
  /-- CLOCK_HELD, R86: VDD_F below the greatest floor stops the CLOCKED holds of affected mats. -/
  | clockHeld (mv : BitVec 16)
  /-- CLOCK_RELEASED, R86: VDD_F has recovered above the floor and CLOCKED holds resume. -/
  | clockReleased (mv : BitVec 16)
  /-- MAC_OPERATION, R80: A MAC tile takes an input token, performs its operation and offers the result. -/
  | macOperation (mat : MatId) (tile : Fin 8) (input : BitVec 122)
  /-- DRAIN_TOKEN, R142: A token arriving at a DRAIN border is acknowledged and discarded. -/
  | drainToken (mat : MatId) (lane : Bool) (wire : Fin 256)
  /-- SOUNDING_STEP, R98: The column agent sounds one rhizoid while its channel is quiescent. -/
  | soundingStep (col : ColId) (ifc : Fin 4) (group : Fin 56) (index : Fin 66) (quiet pass : Bool)
  /-- SOUND_MISS, R98: A rhizoid unvisited for four periods sets SOUND_MISS for its group. -/
  | soundMiss (col : ColId) (ifc : Fin 4) (group : Fin 56) (index : Fin 64)
  /-- SPARE_SWAP, R100: At the owning channel's quiescence a failed position moves to a spare. -/
  | spareSwap (col : ColId) (ifc : Fin 4) (group : Fin 56) (position : Fin 64) (pass0 pass1 : Bool)
  /-- TRUNK_TIMEOUT, R101: A trunk lane acknowledge does not follow within TIMEOUT_NS; the lane is recovered. -/
  | trunkTimeout (col : ColId) (lane : Fin 256) (g : Fin 2) (nullPhase : Bool) (failed : List (Fin 2 × Fin 66))
  /-- TRUNK_CONTENTION, R106: An illegal code on a trunk lane disables it and triggers a commit. -/
  | trunkContention (col : ColId) (lane : Fin 256) (g : Fin 2)
  /-- LANE_RETEST, R107: At quiescence a disabled trunk lane is sounded and its drive enables checked. -/
  | laneRetest (col : ColId) (lane : Fin 256) (g : Fin 2) (failed : List (Fin 2 × Fin 66)) (strayEnd : Option (Fin 2))
  /-- MPORT_REQUEST, R109: A memory-port request is taken by a bank controller, performed and answered. -/
  | mportRequest (first : PortArrival) (beside : List PortArrival)
  /-- MPORT_RESPONSE_ACK, R109: The design acknowledges a response, letting the bank accept the next request. -/
  | mportResponseAck (mat : MatId) (bank : Fin 8)
  /-- CE_REREAD, R99: After a corrected port read the column agent re-reads the word in the management class. -/
  | ceReread (mat : MatId) (bank : Fin 8) (word : BitVec 13) (again : Option Byte)
  /-- SCRUB_PASS, R113: A granted scrub pass reads each word of a bank in address order. -/
  | scrubPass (bank : BankId) (ces : List (BitVec 13 × Byte)) (ues : List (BitVec 13 × Word × Byte))
  /-- BANK_REMAP, R115: A granted remap mirrors writes and copies bank b to b8. -/
  | bankRemap (bank : Fin 2048)
  /-- BANK_REMAPPED, R115: The copy ends and address decoding moves to b8. -/
  | bankRemapped (bank : Fin 2048) (ces : List (BitVec 13 × Byte)) (ues : List (BitVec 13 × Word × Byte)) (spareFails : Bool) (copyNs : BitVec 32)
  /-- SLOT_LOAD_DONE, R127: A 256 ns slot write ends and the check code is compared. -/
  | slotLoadDone (mat : MatId) (slot : SlotId) (match1 match2 : Bool) (failed : List (Fin 4 × Fin 56 × Fin 66))
  /-- CTX_LOAD_WAIT_TIMEOUT, R129: WAIT_FLOOR_MS passes and CTX_LOAD completes with TIMEOUT. -/
  | ctxLoadWaitTimeout (ring : Fin 64) (id : BitVec 32)
  /-- SWAP, R135: A swap trigger is taken; members are tested and inputs withdrawn. -/
  | swap (group : Id64) (slot : SlotId) (trigger : Fin 4)
  /-- SWAP_FLIP, R135: The last member is quiet; all members flip slot and re-enable inputs. -/
  | swapFlip (group : Id64) (quiet : List (MatId × BitVec 32))
  /-- SWAP_TIMEOUT, R135: The group timer expires before quiescence and the swap is abandoned. -/
  | swapTimeout (group : Id64) (quiet : List (MatId × BitVec 32))
  /-- SWAP_REQUEST_TOKEN, R133: The design presents a swap request on auxiliary drivers 81–83. -/
  | swapRequestToken (mat : MatId) (valid : Bool) (slot : SlotId)
  /-- SCHEDULE_PHASE, R145: A phase of a group's schedule falls due and triggers a swap. -/
  | schedulePhase (group : Id64) (phase : Fin 8)
  /-- CROSIER_DRAINED, R152: Border transfers end; holds go NULL and the active slot is written. -/
  | crosierDrained (mat : MatId) (quiet : List (MatId × BitVec 32))
  /-- CROSIER_WRITE_DONE, R152: Write and check of a crosier region end; the region is released or kept. -/
  | crosierWriteDone (mat : MatId) (failing : List MatId)
  /-- CROSIER_TIMEOUT, R152: Transfers not ended before the timeout; nothing written and inputs re-enabled. -/
  | crosierTimeout (mat : MatId) (quiet : List (MatId × BitVec 32))
  /-- AX_STREAM_WORD, R158: An AX instance stages a stream word, verifying and writing at the last word. -/
  | axStreamWord (inst : Fin 4) (word : BitVec 32) (tagOk : Bool)
  /-- AX_TRUNCATED, R159: No AX word arrives for 1 ms in an incomplete stream. -/
  | axTruncated (inst : Fin 4)
  /-- PERIOD_BOUNDARY, R181: At B(n) pins sampled, boundary swap, checkpoint copy, pointers copied and input record offered. -/
  | periodBoundary (pacer : Id64)
  /-- PERIOD_DEADLINE, R181: At D(n) the period commits or ends LATE with a flush. -/
  | periodDeadline (pacer : Id64)
  /-- LATE_RESTORE, R151: The LATE flush ends and hold state is restored from checkpoint shadows. -/
  | lateRestore (pacer : Id64)
  /-- DONE_TOKEN, R180: A mat presents a done token on auxiliary driver 80. -/
  | doneToken (mat : MatId)
  /-- REGION_QUIESCENT, R181: A done region reaches quiescence and commit time tc is recorded. -/
  | regionQuiescent (pacer : Id64)
  /-- OUTPUT_LATCH_WRITE, R176: The design writes a word of the working output latch. -/
  | outputLatchWrite (mat : MatId) (token : BitVec 76)
  /-- QUEUE_PUSH, R201: A producer's item is written at W of a queue. -/
  | queuePush (queue : QueueId) (src : QEnd) (item : Word) (start last : Bool) (mismatch : Bool)
  /-- QUEUE_POP, R201: A consumer's pop reads the item at R of a queue. -/
  | queuePop (queue : QueueId) (dst : QEnd) (ecc : Ecc) (mismatch : Bool)
  /-- QUE_DATA_READ, R202: A core reads QUE_DATA and pops an item. -/
  | queDataRead (req : Requester) (queue : QueueId) (part : QPart) (ecc : Ecc)
  /-- QUE_DATA_WRITE, R202: A core writes QUE_DATA and pushes an item. -/
  | queDataWrite (req : Requester) (queue : QueueId) (part : QPart) (value : Word)
  /-- QUE_PKT_OPEN, R207: Core write of PKT 1 opens a packet. -/
  | quePktOpen (req : Requester) (queue : QueueId)
  /-- QUE_PKT_CLOSE, R208: Core write of PKT 2 closes the open packet. -/
  | quePktClose (req : Requester) (queue : QueueId)
  /-- ENCODER_EDGE, R223: A taken encoder edge updates a track position and runs its position points. -/
  | encoderEdge (track : Id64) (a b : Bool)
  /-- PULSE_END, R233: A pulse-mode gate action's ACT_LEN µs elapse and the pin is released. -/
  | pulseEnd (track : Id64) (station : StationId) (tally : BitVec 32)
  /-- AXIS_TOKEN, R237: An axis token replaces the positions of VIRTUAL tracks. -/
  | axisToken (mat : MatId) (pos : BitVec 48)
  /-- EDGE_STIMULUS, R227: An EDGE station's pin edge is taken into the engine's buffer. -/
  | edgeStimulus (station : StationId)
  /-- NOTE_TOKEN, R237: A fabric note token is taken as a FABRIC stimulus. -/
  | noteToken (mat : MatId) (token : BitVec 96)
  /-- TAL_STIM_WRITE, R239: A core write of TAL_STIM issues a CORE stimulus. -/
  | talStimWrite (req : Requester) (value : Reg)
  /-- BIRTH, R230: The engine serves an INFEED stimulus and creates a tally. -/
  | birth (engine : EngineId)
  /-- NOTE, R230: The engine serves a SENSE or DISCHARGE stimulus and writes the matching tally. -/
  | note (engine : EngineId)
  /-- FP_INPUT_CHANGE, R311: A pad level held 10 ns is offered on a mat owner's input channel. -/
  | fpInputChange (pin : Fin 352) (level : Bool)
  /-- FP_OUTPUT_TOKEN, R311: A mat owner's output token sets a pad level. -/
  | fpOutputToken (pin : Fin 352) (level : Bool)
  /-- FP_RX_ITEM, R312: A port's serialiser pushes a received item into its RXQ. -/
  | fpRxItem (port : PortId) (bits : BitVec 56) (count : BitVec 6) (idleBefore gapBefore gapAfter : Bool)
  /-- FP_TX_ITEM, R312: A port pops a TXQ item and sends it on the line. -/
  | fpTxItem (port : PortId) (ecc : Ecc)
  /-- FP_CODE_ERROR, R333: A code, disparity or Manchester error is received. -/
  | fpCodeError (port : PortId) (lostSync : Bool)
  /-- FP_FOLDBACK, R315: A driver at its current limit for 1 ms turns off. -/
  | fpFoldback (port : PortId) (pin : Fin 3)
  /-- FP_RETRY, R315: Write of RETRY to FP_CTL clears FOLDED and turns the driver on. -/
  | fpRetry (req : Requester) (port : PortId) (value : Reg)
  /-- FUNCTION_SWITCH, R329: A change of a pin's function releases the old driver and starts the keeper. -/
  | functionSwitch (req : Requester) (target : FnReg) (value : Reg)
  /-- FUNCTION_SWITCH_END, R329: Two PBUS cycles of keeper end and the new function is enabled. -/
  | functionSwitchEnd (target : FnUnit)
  /-- VIO_LOST, R307: A bank or group supply falls below detection; drivers off, inputs 0. -/
  | vioLost (gpio : Bool) (index : Fin 8)
  /-- VIO_RESTORED, R307: A bank or group supply returns and pins resume their precedence state. -/
  | vioRestored (gpio : Bool) (index : Fin 8) (code : BitVec 2)
  /-- SURVEY_RUN, R321: A granted survey takes the port and starts measuring. -/
  | surveyRun (port : PortId)
  /-- SURVEY_DONE, R323: A survey's measurements end; record written and port returned. -/
  | surveyDone (port : PortId) (found : Survey)
  /-- PIN_PORT_WRITE, R327: A core's pin-port CSR write sets levels of pins it owns. -/
  | pinPortWrite (core : CoreId) (fieldPorts : Bool) (index : Fin 8) (value : Word)
  /-- EXTL_EDGE, R328: A taken edge or level on an EXTL line sets PEND. -/
  | extlEdge (line : Fin 16) (level : Bool)
  /-- LANE_ENABLE, R339: Write of XL_CFG.EN 1 assigns a synthesiser and coding or is refused. -/
  | laneEnable (req : Requester) (lane : LaneId) (value : Reg)
  /-- LANE_DISABLE, R479: Write of XL_CFG.EN 0 frees the lane and starts its slice. -/
  | laneDisable (req : Requester) (lane : LaneId) (value : Reg)
  /-- LANE_DOWN, R350: An enabled lane loses lock, alignment or enters HI_BER. -/
  | laneDown (lane : LaneId) (cause : Fin 3)
  /-- LANE_UP, R350: A lane regains alignment. -/
  | laneUp (lane : LaneId)
  /-- LANE_RX_TOKEN, R342: A lane delivers a received token or item to its owner. -/
  | laneRxToken (lane : LaneId) (rx : LaneRx)
  /-- TETHER_ENABLE, R346: Write of TH_CTL enables a tether with a role. -/
  | tetherEnable (req : Requester) (tether : TetherId) (value : Reg)
  /-- TETHER_UP, R347: Tether bring-up completes and latency is measured. -/
  | tetherUp (tether : TetherId) (peer : Fin 8) (peerRole : BitVec 2) (latNs : BitVec 10) (lanes : BitVec 4)
  /-- TETHER_DOWN, R347: A tether loses all lanes or HREF. -/
  | tetherDown (tether : TetherId)
  /-- TETHER_DEGRADED, R347: A tether lane loses block lock. -/
  | tetherDegraded (tether : TetherId) (lane : Fin 4)
  /-- TETHER_STROBE, R348: A follower receives STROBE and runs swap steps 1 to 4 at W. -/
  | tetherStrobe (tether : TetherId) (group : Id64) (slot : SlotId) (at_ : Word)
  /-- TETHER_REPORT, R149: The lead receives a follower's QUIET or failure report. -/
  | tetherReport (tether : TetherId) (group : Id64) (status : Byte)
  /-- TETHER_FLIP, R149: A follower receives FLIP and flips. -/
  | tetherFlip (tether : TetherId) (group : Id64)
  /-- TETHER_ABANDON, R149: A follower receives ABANDON and abandons the swap. -/
  | tetherAbandon (tether : TetherId) (group : Id64) (status : Byte)
  /-- TETHER_FLIP_ACK, R348: The lead receives FLIP_ACK. -/
  | tetherFlipAck (tether : TetherId) (group : Id64)
  /-- TETHER_TIME, R349: A follower receives TIME and steps or slews device time. -/
  | tetherTime (tether : TetherId) (lead : Word)
  /-- TETHER_TIME_SEND, R349: Every 100 µs the lead sends TIME on each UP tether. -/
  | tetherTimeSend (resent : List (BitVec 16))
  /-- TETHER_CONFIG, R374: A follower receives configuration stream blocks. -/
  | tetherConfig (tether : TetherId) (bytes : BitVec 32) (image : Image)
  /-- TETHER_CREDIT, R347: The lead receives credits for freed blocks. -/
  | tetherCredit (tether : TetherId) (blocks : BitVec 16)
  /-- TETHER_STREAM_TIMEOUT, R374: No stream begins 100 ms after PLL_S lock and the follower boots from its own NV. -/
  | tetherStreamTimeout
  /-- IMAGE_VERIFY, R364: Verification of a fully staged image or pack ends. -/
  | imageVerify
  /-- STAGING_ABANDON, R367: A staging receives no piece for 10 s and is discarded. -/
  | stagingAbandon
  /-- NV_IMAGE_WRITE, R369: A granted IMAGE_COMMIT writes the slot and reads it back. -/
  | nvImageWrite (slot : Fin 3) (pass : Bool)
  /-- IMAGE_APPLY, R372: After boot verification the apply pass writes the image in order (P4). -/
  | imageApply (failed : List MatId) (chains : List Chain)
  /-- LIBRARY_LOAD, R373: A granted library write of a pack entry. -/
  | libraryLoad (mat : MatId) (entry : Fin 16) (pass : Bool)
  /-- PROVISIONING_GO, R385: Write of GO to SEC_PROV_CTL fetches, checks and applies a provisioning record. -/
  | provisioningGo (req : Requester) (record : ProvRecord)
  /-- SESSION_IDLE_TIMEOUT, R393: A session carries no command for IDLE_S seconds and closes. -/
  | sessionIdleTimeout (tag : BitVec 16)
  /-- LOCKOUT_END, R391: The password lockout time runs out. -/
  | lockoutEnd
  /-- STACK_MANAGER_READY, R426: A steward pair loads Jenulo and the stack manager sets CMD_READY. -/
  | stackManagerReady (pair : Fin 2)
  /-- WAKE, R427: P6: trees run, holds release, pins hand over, pacers arm and RDY is released. -/
  | wake (bootUs : BitVec 32)
  /-- DEVICE_WARM_RESET, R441: DEV_RESET_REQ KIND 1: RDY low, pacers stop, holds NULL, pins to charter. -/
  | deviceWarmReset (req : Requester) (value : Reg)
  /-- WARM_RESET_CONTINUE, R441: After the field-book commit ends the warm reset clears HIF state and enters P3. -/
  | warmResetContinue
  /-- SWAP_GROUP_FABRIC_RESET, R442: DEV_RESET_REQ KIND 2 resets holds and shadows of a group's mats. -/
  | swapGroupFabricReset (req : Requester) (value : Reg)
  /-- CORE_RESET, R443: DEV_RESET_REQ KIND 3 holds a service core in reset. -/
  | coreReset (req : Requester) (value : Reg)
  /-- CORE_RESET_RELEASE, R443: A core reset is released and the core restarts at its entry point. -/
  | coreResetRelease (core : Fin 4)
  /-- RELOCATION_REQUEST, R456: The stack manager chooses a target and submits a relocation to the arbiter. -/
  | relocationRequest (mat : MatId) (chains : List Chain)
  /-- GROUP_STOP, R462: A deferred stop takes effect after the group's swap ends. -/
  | groupStop (mat : MatId)
  /-- RELOCATION, R457: A granted relocation copies library, banks and chains to the target. -/
  | relocation (mat : MatId) (bad : List (MatId × Fin 16))
  /-- RELOCATION_PREPARED, R457: Library copy, slot loads, bank copy and chains are done; the cut is awaited. -/
  | relocationPrepared (mat : MatId) (failed : Bool) (lost : List (MatId × SlotId)) (chains : List Chain)
  /-- RELOCATION_CUT, R458: At the cut point holds are moved and maps switched. -/
  | relocationCut (mat : MatId) (intact : Bool)
  /-- MNT_TIMEOUT, R474: A waiting activity exceeds its limit and completes with TIMEOUT. -/
  | mntTimeout (place : Fin 32)
  /-- STEWARD_FAILOVER, R464: Lockstep mismatch, watchdog, TCM error or plan hands work to the standby pair. -/
  | stewardFailover (cause : Fin 4) (us : BitVec 32)
  /-- STANDBY_READY, R463: The standby pair's journal replay catches up and it becomes READY. -/
  | standbyReady
  /-- FIRMWARE_UPDATE_RUN, R469: A granted firmware update writes and reads back the unused copy. -/
  | firmwareUpdateRun (pass : Bool)
  /-- FW_STANDBY_TIMEOUT, R469: The standby is not READY within 200 ms and the update reverts. -/
  | fwStandbyTimeout
  /-- SLICE, R479: A granted slice tests one unit. -/
  | slice (kind : Fin 8) (inst : BitVec 12)
  /-- SLICE_DONE, R480: A slice ends and its signature is compared with the benchmark. -/
  | sliceDone (kind : Fin 8) (inst : BitVec 12) (sig : Word) (us : BitVec 16) (overrun : Bool)
  /-- TRAVERSE, R486: After the POWER_DOWN commit the traverse runs all slice kinds in order. -/
  | traverse
  /-- TRAVERSE_DONE, R485: The traverse ends; clean record written and POWER_DOWN completes. -/
  | traverseDone (us : BitVec 32)
  /-- FIELD_BOOK_COMMIT, R489: A trigger copies the newest 512 entries and starts writing a page. -/
  | fieldBookCommit
  /-- FB_COMMITTED, R490: A page write ends with its header written last. -/
  | fbCommitted
  /-- PROGRAM_LOAD, R510: A service program is copied into TCM and checked. -/
  | programLoad (core : Fin 4) (code : List Byte) (pass : Bool)
  /-- CORE_WATCHDOG, R511: A core watchdog expires; core reset or steward failover. -/
  | coreWatchdog (core : CoreId)
  /-- CORE_FAULT, R512: An uncorrectable TCM or SRAM error is read by a core. -/
  | coreFault (core : CoreId) (sram : Bool)
  /-- KWDKICK_WRITE, R511: A write to kwdkick restarts the core's watchdog. -/
  | kwdkickWrite (core : CoreId)
  /-- KACK_WRITE, R508: A write to kack clears the core's latch of a source. -/
  | kackWrite (core : CoreId) (value : Word)
  /-- KDOORBELL_WRITE, R507: A write to kdoorbell raises a doorbell source for a target core. -/
  | kdoorbellWrite (core : CoreId) (value : Word)
  /-- PBUS_LOCK_TAKE, R506: Setting kpbuslock.HELD waits for and takes the PBUS lock. -/
  | pbusLockTake (core : CoreId)
  /-- PBUS_LOCK_RELEASE, R506: Clearing HELD releases the PBUS lock. -/
  | pbusLockRelease (core : CoreId) (reserved : Bool) (regs : CoreRegs)
  /-- PBUS_LOCK_EXPIRY, R506: A lock held 4,096 core cycles is released and BROKEN set. -/
  | pbusLockExpiry
  /-- BUS_TIMEOUT, R502: A core access waits kbusto and ends as a bus error. -/
  | busTimeout (core : CoreId)
  /-- EXTEST, R513: TAP instruction EXTEST, at level 2 in permitted phases. -/
  | extest
  /-- IDCODE, R513: TAP instruction returning the IDCODE. -/
  | idcode
  /-- SAMPLE_PRELOAD, R513: TAP instruction SAMPLE/PRELOAD. -/
  | samplePreload
  /-- CLAMP, R513: TAP instruction CLAMP, as EXTEST. -/
  | clamp
  /-- HIGHZ, R513: TAP instruction HIGHZ, as EXTEST. -/
  | highz
  /-- BYPASS, R513: TAP instruction BYPASS. -/
  | bypass
  /-- DBG_REG, R514: Update-DR of DBG_REG performs an access to the DBG block. -/
  | dbgReg (request : BitVec 48)
  /-- TAP_RESET, R513: TRST_N resets the TAP controller. -/
  | tapReset
  /-- DBG_AUTH_CHALLENGE, R516: DBG_AUTH OP 1 draws a fresh challenge. -/
  | dbgAuthChallenge (value : Reg)
  /-- DBG_AUTH_PASSWORD, R516: DBG_AUTH OP 2 checks a password to open a debug level. -/
  | dbgAuthPassword (value : Reg)
  /-- DBG_AUTH_KEY, R516: DBG_AUTH OP 3 checks a key response, including vendor debug. -/
  | dbgAuthKey (value : Reg) (resp : KeyResp)
  /-- DBG_AUTH_CLOSE, R518: DBG_AUTH OP 4 closes the debug level. -/
  | dbgAuthClose (value : Reg)
  /-- DBG_AUTH_NO_CREDENTIAL, R516: DBG_AUTH OP 5 opens a level where no credential is needed. -/
  | dbgAuthNoCredential (value : Reg)
  /-- SECRETS_ERASED, R517: Erasure of user secrets ends; counter incremented and DEBUG_OPEN entered. -/
  | secretsErased (us : BitVec 32)
  /-- DEBUG_IDLE_CLOSE, R518: IDLE_S seconds pass without a DBG_REG access and the level closes. -/
  | debugIdleClose
  /-- DBG_ACCESS_READ, R519: DBG_ACCESS OP 1 reads the debug address space, peeking when SIDE is 0. -/
  | dbgAccessRead (value : Reg) (ecc : Ecc)
  /-- DBG_ACCESS_WRITE, R519: DBG_ACCESS OP 2 writes the debug address space. -/
  | dbgAccessWrite (value : Reg)
  /-- DBG_CORE_HALT, R521: HALT in DBG_CORE_CTLn halts a core or defers the halt. -/
  | dbgCoreHalt (core : CoreId) (reserved : Bool) (regs : CoreRegs)
  /-- DBG_CORE_RESUME, R523: RESUME resumes a halted core and restarts a frozen watchdog. -/
  | dbgCoreResume (core : CoreId)
  /-- DBG_CORE_STEP, R521: STEP executes one instruction and halts again. -/
  | dbgCoreStep (core : CoreId) (regs : CoreRegs)
  /-- HALT_DEFERRED_EXPIRY, R522: 512 cycles after a deferred halt the core halts and breaks its lock. -/
  | haltDeferredExpiry (core : CoreId) (regs : CoreRegs)
  /-- DBG_REG_DATA_WRITE, R521: Write of DBG_REG_DATA_HI writes a register of a halted core. -/
  | dbgRegDataWrite (value : Reg)
  /-- CMP_HIT, R525: An address comparator matches and halts, raises an event or counts. -/
  | cmpHit (core : CoreId) (comparator : Fin 8) (addr : Word) (reserved : Bool) (regs : CoreRegs)
  /-- TIME_TICK, R224: A TIME tick advances device time, applying slew or spread correction, and moves the positions of TIME-source tracks, running their position points and gate windows. -/
  | timeTick
  /-- FP_SYNC, R309: A field port's 8b/10b receiver sets FP_STATUS.SYNC after three commas at consistent positions. -/
  | fpSync (port : PortId)
  /-- AT_LIMIT, R315: A field-port driver reaches or leaves its current limit, setting or clearing AT_LIMIT and starting or breaking the 1 ms fold-back count. -/
  | atLimit (port : PortId) (reached : Bool)
  /-- LANE_TX_TOKEN, R342: An XL lane takes a transmit token or TXQ item and sends it, or sends idle or an error block when none is present. -/
  | laneTxToken (lane : LaneId) (tx : LaneTx)
  /-- PHASE_SHED, R479: AVSBus status reports a phase shed on VDD_F or VDD_B and a rail-monitor slice is submitted. -/
  | phaseShed (rail : Fin 2)
  /-- FBK_RD_DATA7_READ, R496: A read of FBK_RD_DATA7 returns word 7 of the selected field-book entry and advances INDEX. -/
  | fbkRdData7Read (req : Requester)
  deriving DecidableEq, Repr

end Sys2Proof
end

