-- ==== Sys2Proof/Decode.lean ====
section
/-! DEFINITION.  Reading a command from a word.  The rows of spec/opcode_table.json give no row any bits:
a command reaches the device as a ring entry, a register access, a token or an event, never as one word.
So no word spells a command (log entry 2). -/

namespace Sys2Proof

/-- The command that a word spells by the table's bits: none, as no row has bits. -/
def decodeTableWord (_nbits _w : Nat) : Option Instr := none

end Sys2Proof
end

