-- ==== Sys2Proof/Machine/Tab.lean ====
section
/-! DEFINITION.  Sparse tables in one canonical form.  A table is a list of (key, value) pairs with
strictly rising keys and no entry equal to what an unlisted key reads as (the default of the key),
so that equal tables are equal lists.  Every array of the machine's state is such a table. -/

namespace Sys2Proof.Machine

/-- A table by numeric key. -/
abbrev Tab (α : Type) := List (Nat × α)

/-- The entry listed under a key, if any. -/
def Tab.find {α : Type} : Tab α → Nat → Option α
  | [], _ => none
  | (k, v) :: t, q => if q = k then some v else Tab.find t q

/-- The value under a key: the listed one, else the key's default. -/
def Tab.get {α : Type} (d : Nat → α) (t : Tab α) (q : Nat) : α := (Tab.find t q).getD (d q)

/-- The table without the key's entry. -/
def Tab.erase {α : Type} (t : Tab α) (q : Nat) : Tab α := t.filter (fun e => decide (e.1 ≠ q))

/-- The table with an entry for the key, replacing the one it had. -/
def Tab.insert {α : Type} : Tab α → Nat → α → Tab α
  | [], q, x => [(q, x)]
  | (k, v) :: t, q, x =>
    if q = k then (q, x) :: t else if q < k then (q, x) :: (k, v) :: t
    else (k, v) :: Tab.insert t q x

/-- Store a value under a key; storing the key's default removes its entry. -/
def Tab.put {α : Type} [DecidableEq α] (d : Nat → α) (t : Tab α) (q : Nat) (x : α) : Tab α :=
  if x = d q then Tab.erase t q else Tab.insert t q x

/-- Change the value under a key. -/
def Tab.upd {α : Type} [DecidableEq α] (d : Nat → α) (t : Tab α) (q : Nat) (f : α → α) : Tab α :=
  Tab.put d t q (f (Tab.get d t q))

/-- Every listed key lies above a bound, and the keys rise strictly. -/
def Tab.sortedFrom {α : Type} : Option Nat → Tab α → Bool
  | _, [] => true
  | lo, (k, _) :: t => (match lo with | none => true | some b => decide (b < k)) && Tab.sortedFrom (some k) t

/-- No listed entry is the default of its key. -/
def Tab.proper {α : Type} [DecidableEq α] (d : Nat → α) : Tab α → Bool
  | [] => true
  | (k, v) :: t => decide (v ≠ d k) && Tab.proper d t

/-- The canonical form of a table. -/
def Tab.wf {α : Type} [DecidableEq α] (d : Nat → α) (t : Tab α) : Bool :=
  Tab.sortedFrom none t && Tab.proper d t

/-- The entries whose key a test keeps; the other keys return to their defaults. -/
def Tab.keep {α : Type} (p : Nat → Bool) (t : Tab α) : Tab α := t.filter (fun e => p e.1)

/-- Change every listed entry. -/
def Tab.mapAll {α : Type} [DecidableEq α] (d : Nat → α) (f : Nat → α → α) (t : Tab α) : Tab α :=
  (t.map (fun e => (e.1, f e.1 e.2))).filter (fun e => decide (e.2 ≠ d e.1))

end Sys2Proof.Machine
end

