-- ==== Sys2Proof/Machine/RegMap.lean ====
section
/-! DEFINITION.  The register map: every register of the spec's register tables, its key in the
register file, its fields, its reset value and its access types (R8).  A register of PF0 BAR0 has
its byte offset as its key (R40); a register of PF1 BAR0 (HDR, R305) has 0x100_0000 plus its offset.
Index letters: c column, g mat of the column (0 L1, 1 L3), q bank, l local queue, p port or pacer,
h HL lane, x XL lane, y layer supervisor; the others are those of the register's own name. -/

namespace Sys2Proof.Machine

/-! Block LSUP. -/

/-- LSUP_ID, R43 of spec/01_stack.md. -/
def LSUP_ID (y : Nat) : Nat := 0x300000 + 0x1000 * y
def LSUP_ID_LAYER (y : Nat) : Fld := ⟨(LSUP_ID y), 0, 3⟩
def LSUP_ID_STEPPING (y : Nat) : Fld := ⟨(LSUP_ID y), 8, 8⟩
/-- LSUP_STATUS, R43 of spec/01_stack.md. -/
def LSUP_STATUS (y : Nat) : Nat := 0x300004 + 0x1000 * y
def LSUP_STATUS_ALIVE (y : Nat) : Fld := ⟨(LSUP_STATUS y), 0, 1⟩
def LSUP_STATUS_THROTTLE (y : Nat) : Fld := ⟨(LSUP_STATUS y), 1, 1⟩
def LSUP_STATUS_RAIL_WARN (y : Nat) : Fld := ⟨(LSUP_STATUS y), 2, 1⟩
def LSUP_STATUS_SENSOR_SUSPECT (y : Nat) : Fld := ⟨(LSUP_STATUS y), 3, 1⟩
def LSUP_STATUS_POWER_DEGRADED (y : Nat) : Fld := ⟨(LSUP_STATUS y), 4, 1⟩
def LSUP_STATUS_OPEN_FAULTS (y : Nat) : Fld := ⟨(LSUP_STATUS y), 8, 9⟩
/-- LSUP_LAST, R43 of spec/01_stack.md. -/
def LSUP_LAST (y : Nat) : Nat := 0x300008 + 0x1000 * y
def LSUP_LAST_SOURCE (y : Nat) : Fld := ⟨(LSUP_LAST y), 0, 16⟩
def LSUP_LAST_CODE (y : Nat) : Fld := ⟨(LSUP_LAST y), 16, 16⟩
/-- LSUP_FAULTS, R43 of spec/01_stack.md. -/
def LSUP_FAULTS (y : Nat) : Nat := 0x300010 + 0x1000 * y
def LSUP_FAULTS_COUNT (y : Nat) : Fld := ⟨(LSUP_FAULTS y), 0, 32⟩
/-- LSUP_CONFLICTS, R43 of spec/01_stack.md. -/
def LSUP_CONFLICTS (y : Nat) : Nat := 0x300014 + 0x1000 * y
def LSUP_CONFLICTS_COUNT (y : Nat) : Fld := ⟨(LSUP_CONFLICTS y), 0, 32⟩
/-- LSUP_SAT, R43 of spec/01_stack.md. -/
def LSUP_SAT (y : Nat) : Nat := 0x30001c + 0x1000 * y
def LSUP_SAT_FAULTS (y : Nat) : Fld := ⟨(LSUP_SAT y), 0, 1⟩
def LSUP_SAT_CONFLICTS (y : Nat) : Fld := ⟨(LSUP_SAT y), 1, 1⟩
/-- LSUP_DEGRADEDj, R43 of spec/01_stack.md. -/
def LSUP_DEGRADED (y j : Nat) : Nat := 0x300040 + 0x1000 * y + 0x4 * j
def LSUP_DEGRADED_COLUMNS (y j : Nat) : Fld := ⟨(LSUP_DEGRADED y j), 0, 32⟩

/-! Block COL. -/

/-- COL_GATE_STATUS, R93 of spec/02_fronds_and_mats.md. -/
def COL_GATE_STATUS (c g : Nat) : Nat := 0x200800 + 0x1000 * c + 0x100 * g
def COL_GATE_STATUS_ACTIVE_SLOT (c g : Nat) : Fld := ⟨(COL_GATE_STATUS c g), 0, 2⟩
def COL_GATE_STATUS_QUIET (c g : Nat) : Fld := ⟨(COL_GATE_STATUS c g), 2, 1⟩
def COL_GATE_STATUS_CROSIER (c g : Nat) : Fld := ⟨(COL_GATE_STATUS c g), 3, 1⟩
def COL_GATE_STATUS_ILLEGAL (c g : Nat) : Fld := ⟨(COL_GATE_STATUS c g), 4, 1⟩
def COL_GATE_STATUS_CLK_HELD (c g : Nat) : Fld := ⟨(COL_GATE_STATUS c g), 5, 1⟩
def COL_GATE_STATUS_REGCH_BUSY (c g : Nat) : Fld := ⟨(COL_GATE_STATUS c g), 6, 1⟩
def COL_GATE_STATUS_FLOOR (c g : Nat) : Fld := ⟨(COL_GATE_STATUS c g), 8, 8⟩
/-- COL_GATE_ILLEGAL, R93 of spec/02_fronds_and_mats.md. -/
def COL_GATE_ILLEGAL (c g : Nat) : Nat := 0x200804 + 0x1000 * c + 0x100 * g
def COL_GATE_ILLEGAL_WHERE (c g : Nat) : Fld := ⟨(COL_GATE_ILLEGAL c g), 0, 3⟩
def COL_GATE_ILLEGAL_INDEX (c g : Nat) : Fld := ⟨(COL_GATE_ILLEGAL c g), 4, 10⟩
def COL_GATE_ILLEGAL_SLOT (c g : Nat) : Fld := ⟨(COL_GATE_ILLEGAL c g), 14, 2⟩
/-- COL_GATE_CHDIS_LO, R93 of spec/02_fronds_and_mats.md. -/
def COL_GATE_CHDIS_LO (c g : Nat) : Nat := 0x200808 + 0x1000 * c + 0x100 * g
def COL_GATE_CHDIS_LO_CHANNELS (c g : Nat) : Fld := ⟨(COL_GATE_CHDIS_LO c g), 0, 32⟩
/-- COL_GATE_CHDIS_HI, R93 of spec/02_fronds_and_mats.md. -/
def COL_GATE_CHDIS_HI (c g : Nat) : Nat := 0x20080c + 0x1000 * c + 0x100 * g
def COL_GATE_CHDIS_HI_CHANNELS (c g : Nat) : Fld := ⟨(COL_GATE_CHDIS_HI c g), 0, 32⟩
/-- COL_GATE_REGCH, R93 of spec/02_fronds_and_mats.md. -/
def COL_GATE_REGCH (c g : Nat) : Nat := 0x200810 + 0x1000 * c + 0x100 * g
def COL_GATE_REGCH_TIMEOUT_US (c g : Nat) : Fld := ⟨(COL_GATE_REGCH c g), 0, 16⟩
/-- COL_GATE_ILLEGALS, R93 of spec/02_fronds_and_mats.md. -/
def COL_GATE_ILLEGALS (c g : Nat) : Nat := 0x200820 + 0x1000 * c + 0x100 * g
def COL_GATE_ILLEGALS_COUNT (c g : Nat) : Fld := ⟨(COL_GATE_ILLEGALS c g), 0, 32⟩
/-- COL_GATE_CLKNULLS, R93 of spec/02_fronds_and_mats.md. -/
def COL_GATE_CLKNULLS (c g : Nat) : Nat := 0x200824 + 0x1000 * c + 0x100 * g
def COL_GATE_CLKNULLS_COUNT (c g : Nat) : Fld := ⟨(COL_GATE_CLKNULLS c g), 0, 32⟩
/-- COL_GATE_OVFS, R93 of spec/02_fronds_and_mats.md. -/
def COL_GATE_OVFS (c g : Nat) : Nat := 0x200828 + 0x1000 * c + 0x100 * g
def COL_GATE_OVFS_COUNT (c g : Nat) : Fld := ⟨(COL_GATE_OVFS c g), 0, 32⟩
/-- COL_GATE_REGTOS, R93 of spec/02_fronds_and_mats.md. -/
def COL_GATE_REGTOS (c g : Nat) : Nat := 0x20082c + 0x1000 * c + 0x100 * g
def COL_GATE_REGTOS_COUNT (c g : Nat) : Fld := ⟨(COL_GATE_REGTOS c g), 0, 32⟩
/-- COL_GATE_SAT, R93 of spec/02_fronds_and_mats.md. -/
def COL_GATE_SAT (c g : Nat) : Nat := 0x20083c + 0x1000 * c + 0x100 * g
def COL_GATE_SAT_ILLEGALS (c g : Nat) : Fld := ⟨(COL_GATE_SAT c g), 0, 1⟩
def COL_GATE_SAT_CLKNULLS (c g : Nat) : Fld := ⟨(COL_GATE_SAT c g), 1, 1⟩
def COL_GATE_SAT_OVFS (c g : Nat) : Fld := ⟨(COL_GATE_SAT c g), 2, 1⟩
def COL_GATE_SAT_REGTOS (c g : Nat) : Fld := ⟨(COL_GATE_SAT c g), 3, 1⟩
/-- COL_GATE_THRUk, R93 of spec/02_fronds_and_mats.md. -/
def COL_GATE_THRU (c g k : Nat) : Nat := 0x200880 + 0x1000 * c + 0x100 * g + 0x4 * k
def COL_GATE_THRU_EN (c g k : Nat) : Fld := ⟨(COL_GATE_THRU c g k), 0, 1⟩
def COL_GATE_THRU_IN_SIDE (c g k : Nat) : Fld := ⟨(COL_GATE_THRU c g k), 1, 2⟩
def COL_GATE_THRU_IN_LANE (c g k : Nat) : Fld := ⟨(COL_GATE_THRU c g k), 3, 4⟩
def COL_GATE_THRU_IN_SPAN (c g k : Nat) : Fld := ⟨(COL_GATE_THRU c g k), 7, 2⟩
def COL_GATE_THRU_OUT_SIDE (c g k : Nat) : Fld := ⟨(COL_GATE_THRU c g k), 9, 2⟩
def COL_GATE_THRU_OUT_LANE (c g k : Nat) : Fld := ⟨(COL_GATE_THRU c g k), 11, 4⟩
def COL_GATE_THRU_OUT_SPAN (c g k : Nat) : Fld := ⟨(COL_GATE_THRU c g k), 15, 2⟩
/-- COL_RHZ_STATUS, R120 of spec/03_rhizoids_and_memory_layer.md. -/
def COL_RHZ_STATUS (c : Nat) : Nat := 0x200400 + 0x1000 * c
def COL_RHZ_STATUS_EXHAUSTED (c : Nat) : Fld := ⟨(COL_RHZ_STATUS c), 0, 4⟩
def COL_RHZ_STATUS_SOUND_MISS (c : Nat) : Fld := ⟨(COL_RHZ_STATUS c), 4, 4⟩
def COL_RHZ_STATUS_SPARES_USED (c : Nat) : Fld := ⟨(COL_RHZ_STATUS c), 8, 8⟩
/-- COL_RHZ_CTL, R120 of spec/03_rhizoids_and_memory_layer.md. -/
def COL_RHZ_CTL (c : Nat) : Nat := 0x200404 + 0x1000 * c
def COL_RHZ_CTL_SOUND_PERIOD_US (c : Nat) : Fld := ⟨(COL_RHZ_CTL c), 0, 16⟩
def COL_RHZ_CTL_SOUND_EN (c : Nat) : Fld := ⟨(COL_RHZ_CTL c), 16, 1⟩
/-- COL_RHZ_SEL, R120 of spec/03_rhizoids_and_memory_layer.md. -/
def COL_RHZ_SEL (c : Nat) : Nat := 0x200408 + 0x1000 * c
def COL_RHZ_SEL_INTERFACE (c : Nat) : Fld := ⟨(COL_RHZ_SEL c), 0, 2⟩
def COL_RHZ_SEL_GROUP (c : Nat) : Fld := ⟨(COL_RHZ_SEL c), 2, 6⟩
/-- COL_RHZ_GRP, R120 of spec/03_rhizoids_and_memory_layer.md. -/
def COL_RHZ_GRP (c : Nat) : Nat := 0x20040c + 0x1000 * c
def COL_RHZ_GRP_SPARES_USED (c : Nat) : Fld := ⟨(COL_RHZ_GRP c), 0, 2⟩
def COL_RHZ_GRP_EXHAUSTED (c : Nat) : Fld := ⟨(COL_RHZ_GRP c), 2, 1⟩
def COL_RHZ_GRP_SOUND_MISS (c : Nat) : Fld := ⟨(COL_RHZ_GRP c), 3, 1⟩
def COL_RHZ_GRP_FAILED_A (c : Nat) : Fld := ⟨(COL_RHZ_GRP c), 4, 7⟩
def COL_RHZ_GRP_FAILED_B (c : Nat) : Fld := ⟨(COL_RHZ_GRP c), 11, 7⟩
def COL_RHZ_GRP_USE (c : Nat) : Fld := ⟨(COL_RHZ_GRP c), 18, 3⟩
/-- COL_RHZ_FAILS, R120 of spec/03_rhizoids_and_memory_layer.md. -/
def COL_RHZ_FAILS (c : Nat) : Nat := 0x200410 + 0x1000 * c
def COL_RHZ_FAILS_COUNT (c : Nat) : Fld := ⟨(COL_RHZ_FAILS c), 0, 32⟩
/-- COL_RHZ_SWAPS, R120 of spec/03_rhizoids_and_memory_layer.md. -/
def COL_RHZ_SWAPS (c : Nat) : Nat := 0x200414 + 0x1000 * c
def COL_RHZ_SWAPS_COUNT (c : Nat) : Fld := ⟨(COL_RHZ_SWAPS c), 0, 32⟩
/-- COL_TRUNK_TO, R120 of spec/03_rhizoids_and_memory_layer.md. -/
def COL_TRUNK_TO (c : Nat) : Nat := 0x200420 + 0x1000 * c
def COL_TRUNK_TO_TIMEOUT_NS (c : Nat) : Fld := ⟨(COL_TRUNK_TO c), 0, 8⟩
/-- COL_TRUNK_SEL, R120 of spec/03_rhizoids_and_memory_layer.md. -/
def COL_TRUNK_SEL (c : Nat) : Nat := 0x200424 + 0x1000 * c
def COL_TRUNK_SEL_LANE (c : Nat) : Fld := ⟨(COL_TRUNK_SEL c), 0, 8⟩
/-- COL_TRUNK_OWN, R120 of spec/03_rhizoids_and_memory_layer.md. -/
def COL_TRUNK_OWN (c : Nat) : Nat := 0x200428 + 0x1000 * c
def COL_TRUNK_OWN_DRIVER (c : Nat) : Fld := ⟨(COL_TRUNK_OWN c), 0, 32⟩
/-- COL_TRUNK_HOLD, R120 of spec/03_rhizoids_and_memory_layer.md. -/
def COL_TRUNK_HOLD (c : Nat) : Nat := 0x20042c + 0x1000 * c
def COL_TRUNK_HOLD_HOLD (c : Nat) : Fld := ⟨(COL_TRUNK_HOLD c), 0, 16⟩
def COL_TRUNK_HOLD_DISABLED (c : Nat) : Fld := ⟨(COL_TRUNK_HOLD c), 16, 1⟩
/-- COL_TRUNK_DISj, R120 of spec/03_rhizoids_and_memory_layer.md. -/
def COL_TRUNK_DIS (c j : Nat) : Nat := 0x200440 + 0x1000 * c + 0x4 * j
def COL_TRUNK_DIS_LANES (c j : Nat) : Fld := ⟨(COL_TRUNK_DIS c j), 0, 32⟩
/-- COL_TRUNK_FAULTS, R120 of spec/03_rhizoids_and_memory_layer.md. -/
def COL_TRUNK_FAULTS (c : Nat) : Nat := 0x200460 + 0x1000 * c
def COL_TRUNK_FAULTS_COUNT (c : Nat) : Fld := ⟨(COL_TRUNK_FAULTS c), 0, 32⟩
/-- COL_MPORT_PARA, R120 of spec/03_rhizoids_and_memory_layer.md. -/
def COL_MPORT_PARA (c : Nat) : Nat := 0x200464 + 0x1000 * c
def COL_MPORT_PARA_COUNT (c : Nat) : Fld := ⟨(COL_MPORT_PARA c), 0, 32⟩
/-- COL_MPORT_PARB, R120 of spec/03_rhizoids_and_memory_layer.md. -/
def COL_MPORT_PARB (c : Nat) : Nat := 0x200468 + 0x1000 * c
def COL_MPORT_PARB_COUNT (c : Nat) : Fld := ⟨(COL_MPORT_PARB c), 0, 32⟩
/-- COL_MPORT_CESA, R120 of spec/03_rhizoids_and_memory_layer.md. -/
def COL_MPORT_CESA (c : Nat) : Nat := 0x20046c + 0x1000 * c
def COL_MPORT_CESA_COUNT (c : Nat) : Fld := ⟨(COL_MPORT_CESA c), 0, 32⟩
/-- COL_MPORT_CESB, R120 of spec/03_rhizoids_and_memory_layer.md. -/
def COL_MPORT_CESB (c : Nat) : Nat := 0x200470 + 0x1000 * c
def COL_MPORT_CESB_COUNT (c : Nat) : Fld := ⟨(COL_MPORT_CESB c), 0, 32⟩
/-- COL_RHZ_SAT, R120 of spec/03_rhizoids_and_memory_layer.md. -/
def COL_RHZ_SAT (c : Nat) : Nat := 0x20047c + 0x1000 * c
def COL_RHZ_SAT_RHZ_FAILS (c : Nat) : Fld := ⟨(COL_RHZ_SAT c), 0, 1⟩
def COL_RHZ_SAT_RHZ_SWAPS (c : Nat) : Fld := ⟨(COL_RHZ_SAT c), 1, 1⟩
def COL_RHZ_SAT_TRUNK_FAULTS (c : Nat) : Fld := ⟨(COL_RHZ_SAT c), 2, 1⟩
def COL_RHZ_SAT_MPORT_PARA (c : Nat) : Fld := ⟨(COL_RHZ_SAT c), 3, 1⟩
def COL_RHZ_SAT_MPORT_PARB (c : Nat) : Fld := ⟨(COL_RHZ_SAT c), 4, 1⟩
def COL_RHZ_SAT_MPORT_CESA (c : Nat) : Fld := ⟨(COL_RHZ_SAT c), 5, 1⟩
def COL_RHZ_SAT_MPORT_CESB (c : Nat) : Fld := ⟨(COL_RHZ_SAT c), 6, 1⟩
/-- COL_BANK_STATUS, R120 of spec/03_rhizoids_and_memory_layer.md. -/
def COL_BANK_STATUS (c b : Nat) : Nat := 0x200500 + 0x1000 * c + 0x20 * b
def COL_BANK_STATUS_STATE (c b : Nat) : Fld := ⟨(COL_BANK_STATUS c b), 0, 2⟩
def COL_BANK_STATUS_SERVES (c b : Nat) : Fld := ⟨(COL_BANK_STATUS c b), 2, 4⟩
def COL_BANK_STATUS_SCRUB_ACTIVE (c b : Nat) : Fld := ⟨(COL_BANK_STATUS c b), 6, 1⟩
def COL_BANK_STATUS_SUSPECT (c b : Nat) : Fld := ⟨(COL_BANK_STATUS c b), 7, 1⟩
/-- COL_BANK_CES, R120 of spec/03_rhizoids_and_memory_layer.md. -/
def COL_BANK_CES (c b : Nat) : Nat := 0x200504 + 0x1000 * c + 0x20 * b
def COL_BANK_CES_COUNT (c b : Nat) : Fld := ⟨(COL_BANK_CES c b), 0, 32⟩
/-- COL_BANK_UES, R120 of spec/03_rhizoids_and_memory_layer.md. -/
def COL_BANK_UES (c b : Nat) : Nat := 0x200508 + 0x1000 * c + 0x20 * b
def COL_BANK_UES_COUNT (c b : Nat) : Fld := ⟨(COL_BANK_UES c b), 0, 32⟩
/-- COL_BANK_LAST, R120 of spec/03_rhizoids_and_memory_layer.md. -/
def COL_BANK_LAST (c b : Nat) : Nat := 0x20050c + 0x1000 * c + 0x20 * b
def COL_BANK_LAST_WORD (c b : Nat) : Fld := ⟨(COL_BANK_LAST c b), 0, 13⟩
def COL_BANK_LAST_UE (c b : Nat) : Fld := ⟨(COL_BANK_LAST c b), 13, 1⟩
def COL_BANK_LAST_SYNDROME (c b : Nat) : Fld := ⟨(COL_BANK_LAST c b), 14, 8⟩
/-- COL_BANK_CTL, R120 of spec/03_rhizoids_and_memory_layer.md. -/
def COL_BANK_CTL (c b : Nat) : Nat := 0x200510 + 0x1000 * c + 0x20 * b
def COL_BANK_CTL_CE_LIMIT (c b : Nat) : Fld := ⟨(COL_BANK_CTL c b), 0, 8⟩
/-- COL_SCRUB_CTL, R120 of spec/03_rhizoids_and_memory_layer.md. -/
def COL_SCRUB_CTL (c : Nat) : Nat := 0x200640 + 0x1000 * c
def COL_SCRUB_CTL_PASS_S (c : Nat) : Fld := ⟨(COL_SCRUB_CTL c), 0, 8⟩
def COL_SCRUB_CTL_EN (c : Nat) : Fld := ⟨(COL_SCRUB_CTL c), 8, 1⟩
/-- COL_BANK_SAT, R120 of spec/03_rhizoids_and_memory_layer.md. -/
def COL_BANK_SAT (c : Nat) : Nat := 0x200644 + 0x1000 * c
def COL_BANK_SAT_SAT (c : Nat) : Fld := ⟨(COL_BANK_SAT c), 0, 18⟩
/-- COL_CTX_STATE, R162 of spec/04_contexts.md. -/
def COL_CTX_STATE (c g : Nat) : Nat := 0x200000 + 0x1000 * c + 0x80 * g
def COL_CTX_STATE_SLOTS (c g : Nat) : Fld := ⟨(COL_CTX_STATE c g), 0, 16⟩
def COL_CTX_STATE_GROUP (c g : Nat) : Fld := ⟨(COL_CTX_STATE c g), 16, 6⟩
def COL_CTX_STATE_GROUPED (c g : Nat) : Fld := ⟨(COL_CTX_STATE c g), 22, 1⟩
/-- COL_CTX_SRCk, R162 of spec/04_contexts.md. -/
def COL_CTX_SRC (c g k : Nat) : Nat := 0x200010 + 0x1000 * c + 0x80 * g + 0x4 * k
def COL_CTX_SRC_ENTRY (c g k : Nat) : Fld := ⟨(COL_CTX_SRC c g k), 0, 4⟩
def COL_CTX_SRC_CROSIER (c g k : Nat) : Fld := ⟨(COL_CTX_SRC c g k), 4, 1⟩
def COL_CTX_SRC_AX (c g k : Nat) : Fld := ⟨(COL_CTX_SRC c g k), 5, 1⟩
def COL_CTX_SRC_FLOOR (c g k : Nat) : Fld := ⟨(COL_CTX_SRC c g k), 8, 8⟩
def COL_CTX_SRC_LOADS (c g k : Nat) : Fld := ⟨(COL_CTX_SRC c g k), 16, 16⟩
/-- COL_CTX_LIB, R162 of spec/04_contexts.md. -/
def COL_CTX_LIB (c g : Nat) : Nat := 0x200020 + 0x1000 * c + 0x80 * g
def COL_CTX_LIB_VALID (c g : Nat) : Fld := ⟨(COL_CTX_LIB c g), 0, 16⟩
/-- COL_CTX_SWAPRES, R162 of spec/04_contexts.md. -/
def COL_CTX_SWAPRES (c g : Nat) : Nat := 0x200024 + 0x1000 * c + 0x80 * g
def COL_CTX_SWAPRES_STATUS (c g : Nat) : Fld := ⟨(COL_CTX_SWAPRES c g), 0, 8⟩
def COL_CTX_SWAPRES_SLOT (c g : Nat) : Fld := ⟨(COL_CTX_SWAPRES c g), 8, 2⟩
def COL_CTX_SWAPRES_TRIGGER (c g : Nat) : Fld := ⟨(COL_CTX_SWAPRES c g), 10, 2⟩
def COL_CTX_SWAPRES_NOT_QUIET (c g : Nat) : Fld := ⟨(COL_CTX_SWAPRES c g), 12, 1⟩
/-- COL_CTX_QUIETNS, R162 of spec/04_contexts.md. -/
def COL_CTX_QUIETNS (c g : Nat) : Nat := 0x200028 + 0x1000 * c + 0x80 * g
def COL_CTX_QUIETNS_TIME (c g : Nat) : Fld := ⟨(COL_CTX_QUIETNS c g), 0, 32⟩
/-- COL_CTX_DRAINED, R162 of spec/04_contexts.md. -/
def COL_CTX_DRAINED (c g : Nat) : Nat := 0x200030 + 0x1000 * c + 0x80 * g
def COL_CTX_DRAINED_COUNT (c g : Nat) : Fld := ⟨(COL_CTX_DRAINED c g), 0, 32⟩
/-- COL_CTX_SWAPS, R162 of spec/04_contexts.md. -/
def COL_CTX_SWAPS (c g : Nat) : Nat := 0x200034 + 0x1000 * c + 0x80 * g
def COL_CTX_SWAPS_COUNT (c g : Nat) : Fld := ⟨(COL_CTX_SWAPS c g), 0, 32⟩
/-- COL_CTX_SWAPTOS, R162 of spec/04_contexts.md. -/
def COL_CTX_SWAPTOS (c g : Nat) : Nat := 0x200038 + 0x1000 * c + 0x80 * g
def COL_CTX_SWAPTOS_COUNT (c g : Nat) : Fld := ⟨(COL_CTX_SWAPTOS c g), 0, 32⟩
/-- COL_CTX_SAT, R162 of spec/04_contexts.md. -/
def COL_CTX_SAT (c g : Nat) : Nat := 0x20003c + 0x1000 * c + 0x80 * g
def COL_CTX_SAT_DRAINED (c g : Nat) : Fld := ⟨(COL_CTX_SAT c g), 0, 1⟩
def COL_CTX_SAT_SWAPS (c g : Nat) : Fld := ⟨(COL_CTX_SAT c g), 1, 1⟩
def COL_CTX_SAT_SWAPTOS (c g : Nat) : Fld := ⟨(COL_CTX_SAT c g), 2, 1⟩
/-- COL_SWAP_TIMEOUT, R162 of spec/04_contexts.md. -/
def COL_SWAP_TIMEOUT (c : Nat) : Nat := 0x200100 + 0x1000 * c
def COL_SWAP_TIMEOUT_TIMEOUT_NS (c : Nat) : Fld := ⟨(COL_SWAP_TIMEOUT c), 0, 17⟩
/-- COL_CTX_PINSEL, R162 of spec/04_contexts.md. -/
def COL_CTX_PINSEL (c : Nat) : Nat := 0x200104 + 0x1000 * c
def COL_CTX_PINSEL_MAT (c : Nat) : Fld := ⟨(COL_CTX_PINSEL c), 0, 1⟩
def COL_CTX_PINSEL_INDEX (c : Nat) : Fld := ⟨(COL_CTX_PINSEL c), 1, 6⟩
/-- COL_CTX_PIN, R162 of spec/04_contexts.md. -/
def COL_CTX_PIN (c : Nat) : Nat := 0x200108 + 0x1000 * c
def COL_CTX_PIN_PIN (c : Nat) : Fld := ⟨(COL_CTX_PIN c), 0, 8⟩
def COL_CTX_PIN_FP (c : Nat) : Fld := ⟨(COL_CTX_PIN c), 8, 1⟩
def COL_CTX_PIN_CHARTER (c : Nat) : Fld := ⟨(COL_CTX_PIN c), 16, 4⟩
def COL_CTX_PIN_VALID (c : Nat) : Fld := ⟨(COL_CTX_PIN c), 20, 1⟩

/-! Block CFG. -/

/-- CFG_AXn_STATUS, R163 of spec/04_contexts.md. -/
def CFG_AX_STATUS (n : Nat) : Nat := 0x7e00 + 0x40 * n
def CFG_AX_STATUS_STATE (n : Nat) : Fld := ⟨(CFG_AX_STATUS n), 0, 2⟩
def CFG_AX_STATUS_EN (n : Nat) : Fld := ⟨(CFG_AX_STATUS n), 2, 1⟩
def CFG_AX_STATUS_LAST_STATUS (n : Nat) : Fld := ⟨(CFG_AX_STATUS n), 8, 8⟩
/-- CFG_AXn_WORDS, R163 of spec/04_contexts.md. -/
def CFG_AX_WORDS (n : Nat) : Nat := 0x7e04 + 0x40 * n
def CFG_AX_WORDS_WORDS (n : Nat) : Fld := ⟨(CFG_AX_WORDS n), 0, 22⟩
/-- CFG_AXn_HOSTMAT, R163 of spec/04_contexts.md. -/
def CFG_AX_HOSTMAT (n : Nat) : Nat := 0x7e08 + 0x40 * n
def CFG_AX_HOSTMAT_MAT (n : Nat) : Fld := ⟨(CFG_AX_HOSTMAT n), 0, 10⟩
/-- CFG_ID, R376 of spec/12_images.md. -/
def CFG_ID : Nat := 0x7000
def CFG_ID_FPCLASS : Fld := ⟨CFG_ID, 0, 5⟩
def CFG_ID_DEVNUM : Fld := ⟨CFG_ID, 5, 3⟩
def CFG_ID_FORMAT : Fld := ⟨CFG_ID, 8, 8⟩
/-- CFG_BOOT, R376 of spec/12_images.md. -/
def CFG_BOOT : Nat := 0x7004
def CFG_BOOT_SEL : Fld := ⟨CFG_BOOT, 0, 1⟩
def CFG_BOOT_TRIAL_PENDING : Fld := ⟨CFG_BOOT, 1, 1⟩
def CFG_BOOT_TRIAL_SLOT : Fld := ⟨CFG_BOOT, 2, 1⟩
def CFG_BOOT_SRC : Fld := ⟨CFG_BOOT, 3, 2⟩
def CFG_BOOT_TRIAL_RUNNING : Fld := ⟨CFG_BOOT, 5, 1⟩
def CFG_BOOT_FALLBACK : Fld := ⟨CFG_BOOT, 6, 1⟩
def CFG_BOOT_NO_IMAGE : Fld := ⟨CFG_BOOT, 7, 1⟩
def CFG_BOOT_STREAMED : Fld := ⟨CFG_BOOT, 8, 1⟩
/-- CFG_STAGE, R376 of spec/12_images.md. -/
def CFG_STAGE : Nat := 0x7008
def CFG_STAGE_STATE : Fld := ⟨CFG_STAGE, 0, 3⟩
def CFG_STAGE_KIND : Fld := ⟨CFG_STAGE, 3, 1⟩
/-- CFG_STAGE_BYTES, R376 of spec/12_images.md. -/
def CFG_STAGE_BYTES : Nat := 0x700c
def CFG_STAGE_BYTES_BYTES : Fld := ⟨CFG_STAGE_BYTES, 0, 28⟩
/-- CFG_LAST, R376 of spec/12_images.md. -/
def CFG_LAST : Nat := 0x7010
def CFG_LAST_STATUS : Fld := ⟨CFG_LAST, 0, 8⟩
def CFG_LAST_SOURCE : Fld := ⟨CFG_LAST, 8, 2⟩
def CFG_LAST_SLOT : Fld := ⟨CFG_LAST, 10, 2⟩
def CFG_LAST_NOKEY : Fld := ⟨CFG_LAST, 12, 1⟩
def CFG_LAST_SEGMENT : Fld := ⟨CFG_LAST, 16, 10⟩
def CFG_LAST_SEG_VALID : Fld := ⟨CFG_LAST, 26, 1⟩
/-- CFG_SLOTk_STATE, R376 of spec/12_images.md. -/
def CFG_SLOT_STATE (k : Nat) : Nat := 0x7020 + 0x10 * k
def CFG_SLOT_STATE_VALID (k : Nat) : Fld := ⟨(CFG_SLOT_STATE k), 0, 1⟩
def CFG_SLOT_STATE_WRITING (k : Nat) : Fld := ⟨(CFG_SLOT_STATE k), 1, 1⟩
def CFG_SLOT_STATE_WRITES (k : Nat) : Fld := ⟨(CFG_SLOT_STATE k), 16, 16⟩
/-- CFG_SLOTk_ARV, R376 of spec/12_images.md. -/
def CFG_SLOT_ARV (k : Nat) : Nat := 0x7024 + 0x10 * k
def CFG_SLOT_ARV_VALUE (k : Nat) : Fld := ⟨(CFG_SLOT_ARV k), 0, 32⟩
/-- CFG_SLOTk_SIZE, R376 of spec/12_images.md. -/
def CFG_SLOT_SIZE (k : Nat) : Nat := 0x7028 + 0x10 * k
def CFG_SLOT_SIZE_VALUE (k : Nat) : Fld := ⟨(CFG_SLOT_SIZE k), 0, 32⟩
/-- CFG_REJECTS, R376 of spec/12_images.md. -/
def CFG_REJECTS : Nat := 0x7050
def CFG_REJECTS_COUNT : Fld := ⟨CFG_REJECTS, 0, 32⟩
/-- CFG_FALLBACKS, R376 of spec/12_images.md. -/
def CFG_FALLBACKS : Nat := 0x7054
def CFG_FALLBACKS_COUNT : Fld := ⟨CFG_FALLBACKS, 0, 32⟩
/-- CFG_SAT, R376 of spec/12_images.md. -/
def CFG_SAT : Nat := 0x705c
def CFG_SAT_REJECTS : Fld := ⟨CFG_SAT, 0, 1⟩
def CFG_SAT_FALLBACKS : Fld := ⟨CFG_SAT, 1, 1⟩

/-! Block PACE. -/

/-- PACE_STATUS, R193 of spec/05_pacing.md. -/
def PACE_STATUS (p : Nat) : Nat := 0x30000 + 0x100 * p
def PACE_STATUS_STATE (p : Nat) : Fld := ⟨(PACE_STATUS p), 0, 2⟩
def PACE_STATUS_GOV_EXCLUDE (p : Nat) : Fld := ⟨(PACE_STATUS p), 2, 1⟩
def PACE_STATUS_HAS_DONE (p : Nat) : Fld := ⟨(PACE_STATUS p), 3, 1⟩
def PACE_STATUS_LAST_LATE (p : Nat) : Fld := ⟨(PACE_STATUS p), 4, 1⟩
def PACE_STATUS_SLACK_PCT (p : Nat) : Fld := ⟨(PACE_STATUS p), 8, 6⟩
def PACE_STATUS_MATS (p : Nat) : Fld := ⟨(PACE_STATUS p), 16, 10⟩
/-- PACE_PERIOD, R193 of spec/05_pacing.md. -/
def PACE_PERIOD (p : Nat) : Nat := 0x30004 + 0x100 * p
def PACE_PERIOD_PERIOD_NS (p : Nat) : Fld := ⟨(PACE_PERIOD p), 0, 30⟩
/-- PACE_PHASE, R193 of spec/05_pacing.md. -/
def PACE_PHASE (p : Nat) : Nat := 0x30008 + 0x100 * p
def PACE_PHASE_PHASE_NS (p : Nat) : Fld := ⟨(PACE_PHASE p), 0, 30⟩
/-- PACE_MARGIN, R193 of spec/05_pacing.md. -/
def PACE_MARGIN (p : Nat) : Nat := 0x3000c + 0x100 * p
def PACE_MARGIN_MARGIN_NS (p : Nat) : Fld := ⟨(PACE_MARGIN p), 0, 20⟩
/-- PACE_NUM_LO, R193 of spec/05_pacing.md. -/
def PACE_NUM_LO (p : Nat) : Nat := 0x30010 + 0x100 * p
def PACE_NUM_LO_NUM (p : Nat) : Fld := ⟨(PACE_NUM_LO p), 0, 32⟩
/-- PACE_NUM_HI, R193 of spec/05_pacing.md. -/
def PACE_NUM_HI (p : Nat) : Nat := 0x30014 + 0x100 * p
def PACE_NUM_HI_NUM (p : Nat) : Fld := ⟨(PACE_NUM_HI p), 0, 32⟩
/-- PACE_START_LO, R193 of spec/05_pacing.md. -/
def PACE_START_LO (p : Nat) : Nat := 0x30018 + 0x100 * p
def PACE_START_LO_TIME (p : Nat) : Fld := ⟨(PACE_START_LO p), 0, 32⟩
/-- PACE_START_HI, R193 of spec/05_pacing.md. -/
def PACE_START_HI (p : Nat) : Nat := 0x3001c + 0x100 * p
def PACE_START_HI_TIME (p : Nat) : Fld := ⟨(PACE_START_HI p), 0, 32⟩
/-- PACE_COMMITS, R193 of spec/05_pacing.md. -/
def PACE_COMMITS (p : Nat) : Nat := 0x30020 + 0x100 * p
def PACE_COMMITS_COMMITS (p : Nat) : Fld := ⟨(PACE_COMMITS p), 0, 32⟩
/-- PACE_LATE, R193 of spec/05_pacing.md. -/
def PACE_LATE (p : Nat) : Nat := 0x30024 + 0x100 * p
def PACE_LATE_COUNT (p : Nat) : Fld := ⟨(PACE_LATE p), 0, 32⟩
/-- PACE_LATECAUSE, R193 of spec/05_pacing.md. -/
def PACE_LATECAUSE (p : Nat) : Nat := 0x30028 + 0x100 * p
def PACE_LATECAUSE_CAUSE (p : Nat) : Fld := ⟨(PACE_LATECAUSE p), 0, 2⟩
/-- PACE_SLACK_LAST, R193 of spec/05_pacing.md. -/
def PACE_SLACK_LAST (p : Nat) : Nat := 0x3002c + 0x100 * p
def PACE_SLACK_LAST_SLACK (p : Nat) : Fld := ⟨(PACE_SLACK_LAST p), 0, 14⟩
/-- PACE_SLACK_MIN, R193 of spec/05_pacing.md. -/
def PACE_SLACK_MIN (p : Nat) : Nat := 0x30030 + 0x100 * p
def PACE_SLACK_MIN_SLACK (p : Nat) : Fld := ⟨(PACE_SLACK_MIN p), 0, 14⟩
/-- PACE_RUN_NS, R193 of spec/05_pacing.md. -/
def PACE_RUN_NS (p : Nat) : Nat := 0x30034 + 0x100 * p
def PACE_RUN_NS_RUN (p : Nat) : Fld := ⟨(PACE_RUN_NS p), 0, 30⟩
/-- PACE_AFTERDONE, R193 of spec/05_pacing.md. -/
def PACE_AFTERDONE (p : Nat) : Nat := 0x30038 + 0x100 * p
def PACE_AFTERDONE_COUNT (p : Nat) : Fld := ⟨(PACE_AFTERDONE p), 0, 32⟩
/-- PACE_SAT, R193 of spec/05_pacing.md. -/
def PACE_SAT (p : Nat) : Nat := 0x3003c + 0x100 * p
def PACE_SAT_LATE (p : Nat) : Fld := ⟨(PACE_SAT p), 0, 1⟩
def PACE_SAT_AFTERDONE (p : Nat) : Fld := ⟨(PACE_SAT p), 1, 1⟩
/-- PACE_TRACKSEL0, R193 of spec/05_pacing.md. -/
def PACE_TRACKSEL0 (p : Nat) : Nat := 0x30040 + 0x100 * p
def PACE_TRACKSEL0_SEL (p : Nat) : Fld := ⟨(PACE_TRACKSEL0 p), 0, 28⟩
/-- PACE_TRACKSEL1, R193 of spec/05_pacing.md. -/
def PACE_TRACKSEL1 (p : Nat) : Nat := 0x30044 + 0x100 * p
def PACE_TRACKSEL1_SEL (p : Nat) : Fld := ⟨(PACE_TRACKSEL1 p), 0, 21⟩
/-- PACE_ANCHOR, R193 of spec/05_pacing.md. -/
def PACE_ANCHOR (p : Nat) : Nat := 0x30048 + 0x100 * p
def PACE_ANCHOR_MAT (p : Nat) : Fld := ⟨(PACE_ANCHOR p), 0, 10⟩
/-- PACE_OUTk_LO, R193 of spec/05_pacing.md. -/
def PACE_OUT_LO (p k : Nat) : Nat := 0x30080 + 0x100 * p + 0x8 * k
def PACE_OUT_LO_DATA (p k : Nat) : Fld := ⟨(PACE_OUT_LO p k), 0, 32⟩
/-- PACE_OUTk_HI, R193 of spec/05_pacing.md. -/
def PACE_OUT_HI (p k : Nat) : Nat := 0x30084 + 0x100 * p + 0x8 * k
def PACE_OUT_HI_DATA (p k : Nat) : Fld := ⟨(PACE_OUT_HI p k), 0, 32⟩

/-! Block PMU. -/

/-- PMU_GOV_CTL, R194 of spec/05_pacing.md. -/
def PMU_GOV_CTL : Nat := 0x4800
def PMU_GOV_CTL_EN : Fld := ⟨PMU_GOV_CTL, 0, 1⟩
def PMU_GOV_CTL_INTERVAL : Fld := ⟨PMU_GOV_CTL, 8, 8⟩
def PMU_GOV_CTL_HYST_PCT : Fld := ⟨PMU_GOV_CTL, 16, 5⟩
/-- PMU_GOV_STATUS, R194 of spec/05_pacing.md. -/
def PMU_GOV_STATUS : Nat := 0x4804
def PMU_GOV_STATUS_SETPOINT_MV : Fld := ⟨PMU_GOV_STATUS, 0, 10⟩
def PMU_GOV_STATUS_CAP_ACTIVE : Fld := ⟨PMU_GOV_STATUS, 16, 1⟩
def PMU_GOV_STATUS_THROTTLE : Fld := ⟨PMU_GOV_STATUS, 17, 1⟩
def PMU_GOV_STATUS_AT_FLOOR : Fld := ⟨PMU_GOV_STATUS, 18, 1⟩
def PMU_GOV_STATUS_AT_MAX : Fld := ⟨PMU_GOV_STATUS, 19, 1⟩
def PMU_GOV_STATUS_CAP_HELD : Fld := ⟨PMU_GOV_STATUS, 20, 1⟩
/-- PMU_GOV_FLOOR, R194 of spec/05_pacing.md. -/
def PMU_GOV_FLOOR : Nat := 0x4808
def PMU_GOV_FLOOR_FLOOR_MV : Fld := ⟨PMU_GOV_FLOOR, 0, 10⟩
/-- PMU_GOV_WORST, R194 of spec/05_pacing.md. -/
def PMU_GOV_WORST : Nat := 0x480c
def PMU_GOV_WORST_SLACK : Fld := ⟨PMU_GOV_WORST, 0, 14⟩
def PMU_GOV_WORST_PACER : Fld := ⟨PMU_GOV_WORST, 16, 6⟩
def PMU_GOV_WORST_VALID : Fld := ⟨PMU_GOV_WORST, 22, 1⟩
/-- PMU_GOV_UPS, R194 of spec/05_pacing.md. -/
def PMU_GOV_UPS : Nat := 0x4810
def PMU_GOV_UPS_COUNT : Fld := ⟨PMU_GOV_UPS, 0, 32⟩
/-- PMU_GOV_DOWNS, R194 of spec/05_pacing.md. -/
def PMU_GOV_DOWNS : Nat := 0x4814
def PMU_GOV_DOWNS_COUNT : Fld := ⟨PMU_GOV_DOWNS, 0, 32⟩
/-- PMU_GOV_SAT, R194 of spec/05_pacing.md. -/
def PMU_GOV_SAT : Nat := 0x481c
def PMU_GOV_SAT_UPS : Fld := ⟨PMU_GOV_SAT, 0, 1⟩
def PMU_GOV_SAT_DOWNS : Fld := ⟨PMU_GOV_SAT, 1, 1⟩
/-- PMU_STATUS, R423 of spec/14_power_and_heat.md. -/
def PMU_STATUS : Nat := 0x4000
def PMU_STATUS_ANY_WARN : Fld := ⟨PMU_STATUS, 0, 1⟩
def PMU_STATUS_AVS_FAULT : Fld := ⟨PMU_STATUS, 1, 1⟩
def PMU_STATUS_FB_HELD : Fld := ⟨PMU_STATUS, 2, 1⟩
/-- PMU_RAIL_WARN, R423 of spec/14_power_and_heat.md. -/
def PMU_RAIL_WARN : Nat := 0x4004
def PMU_RAIL_WARN_WARN : Fld := ⟨PMU_RAIL_WARN, 0, 8⟩
def PMU_RAIL_WARN_PRESENT : Fld := ⟨PMU_RAIL_WARN, 8, 22⟩
/-- PMU_RAIL_SEL, R423 of spec/14_power_and_heat.md. -/
def PMU_RAIL_SEL : Nat := 0x4010
def PMU_RAIL_SEL_RAIL : Fld := ⟨PMU_RAIL_SEL, 0, 5⟩
/-- PMU_RAIL_V, R423 of spec/14_power_and_heat.md. -/
def PMU_RAIL_V : Nat := 0x4014
def PMU_RAIL_V_MV : Fld := ⟨PMU_RAIL_V, 0, 16⟩
def PMU_RAIL_V_SET_MV : Fld := ⟨PMU_RAIL_V, 16, 16⟩
/-- PMU_RAIL_I, R423 of spec/14_power_and_heat.md. -/
def PMU_RAIL_I : Nat := 0x4018
def PMU_RAIL_I_CURRENT : Fld := ⟨PMU_RAIL_I, 0, 16⟩
/-- PMU_RAIL_LEVELS, R423 of spec/14_power_and_heat.md. -/
def PMU_RAIL_LEVELS : Nat := 0x401c
def PMU_RAIL_LEVELS_WARN_MV : Fld := ⟨PMU_RAIL_LEVELS, 0, 16⟩
def PMU_RAIL_LEVELS_RESET_MV : Fld := ⟨PMU_RAIL_LEVELS, 16, 16⟩
/-- PMU_RAIL_MIN, R423 of spec/14_power_and_heat.md. -/
def PMU_RAIL_MIN : Nat := 0x4020
def PMU_RAIL_MIN_MV : Fld := ⟨PMU_RAIL_MIN, 0, 16⟩
/-- PMU_DIPSr, R423 of spec/14_power_and_heat.md. -/
def PMU_DIPS (r : Nat) : Nat := 0x4040 + 0x4 * r
def PMU_DIPS_COUNT (r : Nat) : Fld := ⟨(PMU_DIPS r), 0, 32⟩
/-- PMU_IRS, R423 of spec/14_power_and_heat.md. -/
def PMU_IRS : Nat := 0x4060
def PMU_IRS_COUNT : Fld := ⟨PMU_IRS, 0, 32⟩
/-- PMU_SAT, R423 of spec/14_power_and_heat.md. -/
def PMU_SAT : Nat := 0x407c
def PMU_SAT_SAT : Fld := ⟨PMU_SAT, 0, 9⟩
/-- PMU_POWER, R423 of spec/14_power_and_heat.md. -/
def PMU_POWER : Nat := 0x4080
def PMU_POWER_AVG : Fld := ⟨PMU_POWER, 0, 16⟩
def PMU_POWER_PEAK : Fld := ⟨PMU_POWER, 16, 16⟩
/-- PMU_DIP_CTL, R423 of spec/14_power_and_heat.md. -/
def PMU_DIP_CTL : Nat := 0x4090
def PMU_DIP_CTL_FB_HOLDOFF_MS : Fld := ⟨PMU_DIP_CTL, 0, 16⟩
/-- PMU_IR_CTL, R423 of spec/14_power_and_heat.md. -/
def PMU_IR_CTL : Nat := 0x4094
def PMU_IR_CTL_LIMIT_MV : Fld := ⟨PMU_IR_CTL, 0, 8⟩
/-- PMU_SEQ, R423 of spec/14_power_and_heat.md. -/
def PMU_SEQ : Nat := 0x40a0
def PMU_SEQ_STEP : Fld := ⟨PMU_SEQ, 0, 3⟩
def PMU_SEQ_FAIL : Fld := ⟨PMU_SEQ, 3, 1⟩
def PMU_SEQ_FAIL_STEP : Fld := ⟨PMU_SEQ, 4, 3⟩

/-! Block CLK. -/

/-- CLK_TIME_LO, R195 of spec/05_pacing.md. -/
def CLK_TIME_LO : Nat := 0x6800
def CLK_TIME_LO_TIME : Fld := ⟨CLK_TIME_LO, 0, 32⟩
/-- CLK_TIME_HI, R195 of spec/05_pacing.md. -/
def CLK_TIME_HI : Nat := 0x6804
def CLK_TIME_HI_TIME : Fld := ⟨CLK_TIME_HI, 0, 32⟩
/-- CLK_TIME_CTL, R195 of spec/05_pacing.md. -/
def CLK_TIME_CTL : Nat := 0x6808
def CLK_TIME_CTL_PTM_EN : Fld := ⟨CLK_TIME_CTL, 0, 1⟩
def CLK_TIME_CTL_PTM_INTERVAL_MS : Fld := ⟨CLK_TIME_CTL, 8, 8⟩
def CLK_TIME_CTL_STEP_LIMIT_US : Fld := ⟨CLK_TIME_CTL, 16, 16⟩
/-- CLK_TIME_STATUS, R195 of spec/05_pacing.md. -/
def CLK_TIME_STATUS : Nat := 0x680c
def CLK_TIME_STATUS_PTM_VALID : Fld := ⟨CLK_TIME_STATUS, 0, 1⟩
def CLK_TIME_STATUS_SLEWING : Fld := ⟨CLK_TIME_STATUS, 1, 1⟩
def CLK_TIME_STATUS_STEPPED : Fld := ⟨CLK_TIME_STATUS, 2, 1⟩
def CLK_TIME_STATUS_GAP : Fld := ⟨CLK_TIME_STATUS, 3, 1⟩
/-- CLK_TIME_OFFSET, R195 of spec/05_pacing.md. -/
def CLK_TIME_OFFSET : Nat := 0x6810
def CLK_TIME_OFFSET_OFFSET : Fld := ⟨CLK_TIME_OFFSET, 0, 32⟩
/-- CLK_TIME_ADJ, R195 of spec/05_pacing.md. -/
def CLK_TIME_ADJ : Nat := 0x6814
def CLK_TIME_ADJ_ADJ : Fld := ⟨CLK_TIME_ADJ, 0, 32⟩
/-- CLK_STATUS, R274 of spec/08_clocks_and_crossings.md. -/
def CLK_STATUS : Nat := 0x6000
def CLK_STATUS_HREF_PRESENT : Fld := ⟨CLK_STATUS, 0, 1⟩
def CLK_STATUS_SSC_SEEN : Fld := ⟨CLK_STATUS, 1, 1⟩
def CLK_STATUS_HOLDOVER : Fld := ⟨CLK_STATUS, 2, 1⟩
def CLK_STATUS_HALVED : Fld := ⟨CLK_STATUS, 3, 1⟩
def CLK_STATUS_OP_BUSY : Fld := ⟨CLK_STATUS, 4, 1⟩
def CLK_STATUS_OP_CUR : Fld := ⟨CLK_STATUS, 5, 2⟩
def CLK_STATUS_PLL_LOCK : Fld := ⟨CLK_STATUS, 8, 7⟩
/-- CLK_SSC, R274 of spec/08_clocks_and_crossings.md. -/
def CLK_SSC : Nat := 0x6004
def CLK_SSC_SSC_DECL : Fld := ⟨CLK_SSC, 0, 1⟩
def CLK_SSC_MEAN_PPM : Fld := ⟨CLK_SSC, 1, 13⟩
/-- CLK_DIV, R274 of spec/08_clocks_and_crossings.md. -/
def CLK_DIV : Nat := 0x6040
def CLK_DIV_MIC_DIV : Fld := ⟨CLK_DIV, 0, 4⟩
def CLK_DIV_PBUS_DIV : Fld := ⟨CLK_DIV, 4, 5⟩
def CLK_DIV_FPD_DIV : Fld := ⟨CLK_DIV, 16, 6⟩
/-- CLK_FDIV, R274 of spec/08_clocks_and_crossings.md. -/
def CLK_FDIV : Nat := 0x6044
def CLK_FDIV_CKA_DIV : Fld := ⟨CLK_FDIV, 0, 8⟩
def CLK_FDIV_CKB_DIV : Fld := ⟨CLK_FDIV, 8, 8⟩
/-- CLK_OPk, R274 of spec/08_clocks_and_crossings.md. -/
def CLK_OP (k : Nat) : Nat := 0x6050 + 0x4 * k
def CLK_OP_ROOT_DIV (k : Nat) : Fld := ⟨(CLK_OP k), 0, 6⟩
def CLK_OP_VDDB_MV (k : Nat) : Fld := ⟨(CLK_OP k), 16, 10⟩
/-- CLK_OP_CTL, R274 of spec/08_clocks_and_crossings.md. -/
def CLK_OP_CTL : Nat := 0x6060
def CLK_OP_CTL_REQ : Fld := ⟨CLK_OP_CTL, 0, 2⟩
def CLK_OP_CTL_PENDING : Fld := ⟨CLK_OP_CTL, 2, 1⟩
def CLK_OP_CTL_REFUSED : Fld := ⟨CLK_OP_CTL, 3, 1⟩
/-- CLK_EN0, R274 of spec/08_clocks_and_crossings.md. -/
def CLK_EN0 : Nat := 0x6080
def CLK_EN0_EN : Fld := ⟨CLK_EN0, 0, 20⟩
/-- CLK_EN1, R274 of spec/08_clocks_and_crossings.md. -/
def CLK_EN1 : Nat := 0x6084
def CLK_EN1_EN : Fld := ⟨CLK_EN1, 0, 20⟩
/-- CLK_GRP, R274 of spec/08_clocks_and_crossings.md. -/
def CLK_GRP : Nat := 0x6088
def CLK_GRP_GRP : Fld := ⟨CLK_GRP, 0, 6⟩
/-- CLK_GATE_STATUS, R274 of spec/08_clocks_and_crossings.md. -/
def CLK_GATE_STATUS : Nat := 0x608c
def CLK_GATE_STATUS_REFUSED : Fld := ⟨CLK_GATE_STATUS, 0, 1⟩
def CLK_GATE_STATUS_REFUSED_REG : Fld := ⟨CLK_GATE_STATUS, 8, 2⟩
def CLK_GATE_STATUS_REFUSED_BIT : Fld := ⟨CLK_GATE_STATUS, 10, 5⟩
/-- CLK_GATEDS, R274 of spec/08_clocks_and_crossings.md. -/
def CLK_GATEDS : Nat := 0x6090
def CLK_GATEDS_COUNT : Fld := ⟨CLK_GATEDS, 0, 32⟩
/-- CLK_SAT, R274 of spec/08_clocks_and_crossings.md. -/
def CLK_SAT : Nat := 0x609c
def CLK_SAT_GATEDS : Fld := ⟨CLK_SAT, 0, 1⟩
/-- CLK_TREEn_CTL, R274 of spec/08_clocks_and_crossings.md. -/
def CLK_TREE_CTL (n : Nat) : Nat := 0x6100 + 0x8 * n
def CLK_TREE_CTL_SRC (n : Nat) : Fld := ⟨(CLK_TREE_CTL n), 0, 2⟩
def CLK_TREE_CTL_DIV (n : Nat) : Fld := ⟨(CLK_TREE_CTL n), 2, 8⟩
def CLK_TREE_CTL_EXT_PORT (n : Nat) : Fld := ⟨(CLK_TREE_CTL n), 10, 7⟩
def CLK_TREE_CTL_RUN (n : Nat) : Fld := ⟨(CLK_TREE_CTL n), 17, 1⟩
def CLK_TREE_CTL_FORCE (n : Nat) : Fld := ⟨(CLK_TREE_CTL n), 31, 1⟩
/-- CLK_TREEn_STATUS, R274 of spec/08_clocks_and_crossings.md. -/
def CLK_TREE_STATUS (n : Nat) : Nat := 0x6104 + 0x8 * n
def CLK_TREE_STATUS_SRC_CUR (n : Nat) : Fld := ⟨(CLK_TREE_STATUS n), 0, 2⟩
def CLK_TREE_STATUS_PRESENT (n : Nat) : Fld := ⟨(CLK_TREE_STATUS n), 4, 4⟩
def CLK_TREE_STATUS_SWITCH_PENDING (n : Nat) : Fld := ⟨(CLK_TREE_STATUS n), 8, 1⟩
def CLK_TREE_STATUS_STOPPED (n : Nat) : Fld := ⟨(CLK_TREE_STATUS n), 9, 1⟩
def CLK_TREE_STATUS_IGNORED (n : Nat) : Fld := ⟨(CLK_TREE_STATUS n), 10, 1⟩
def CLK_TREE_STATUS_HUNG (n : Nat) : Fld := ⟨(CLK_TREE_STATUS n), 11, 1⟩
def CLK_TREE_STATUS_FMAX_MHZ (n : Nat) : Fld := ⟨(CLK_TREE_STATUS n), 16, 9⟩

/-! Block QUE. -/

/-- QUE_CFG, R219 of spec/06_queues.md. -/
def QUE_CFG (q l : Nat) : Nat := 0x100000 + 0x40 * q + 0x10 * l
def QUE_CFG_BASE (q l : Nat) : Fld := ⟨(QUE_CFG q l), 0, 13⟩
def QUE_CFG_SIZE_LOG2 (q l : Nat) : Fld := ⟨(QUE_CFG q l), 13, 4⟩
def QUE_CFG_EN (q l : Nat) : Fld := ⟨(QUE_CFG q l), 17, 1⟩
def QUE_CFG_PACKET (q l : Nat) : Fld := ⟨(QUE_CFG q l), 18, 1⟩
def QUE_CFG_PACED (q l : Nat) : Fld := ⟨(QUE_CFG q l), 19, 1⟩
def QUE_CFG_PROD (q l : Nat) : Fld := ⟨(QUE_CFG q l), 20, 3⟩
def QUE_CFG_CONS (q l : Nat) : Fld := ⟨(QUE_CFG q l), 23, 3⟩
def QUE_CFG_RING (q l : Nat) : Fld := ⟨(QUE_CFG q l), 26, 1⟩
/-- QUE_COUNT, R219 of spec/06_queues.md. -/
def QUE_COUNT (q l : Nat) : Nat := 0x100004 + 0x40 * q + 0x10 * l
def QUE_COUNT_COUNT (q l : Nat) : Fld := ⟨(QUE_COUNT q l), 0, 14⟩
def QUE_COUNT_OPEN (q l : Nat) : Fld := ⟨(QUE_COUNT q l), 14, 1⟩
def QUE_COUNT_FULL (q l : Nat) : Fld := ⟨(QUE_COUNT q l), 15, 1⟩
def QUE_COUNT_EPOCH (q l : Nat) : Fld := ⟨(QUE_COUNT q l), 16, 4⟩
def QUE_COUNT_UE (q l : Nat) : Fld := ⟨(QUE_COUNT q l), 20, 1⟩
def QUE_COUNT_DISCARDING (q l : Nat) : Fld := ⟨(QUE_COUNT q l), 21, 1⟩
def QUE_COUNT_PKT (q l : Nat) : Fld := ⟨(QUE_COUNT q l), 30, 2⟩
/-- QUE_DATA_LO, R219 of spec/06_queues.md. -/
def QUE_DATA_LO (q l : Nat) : Nat := 0x100008 + 0x40 * q + 0x10 * l
def QUE_DATA_LO_DATA (q l : Nat) : Fld := ⟨(QUE_DATA_LO q l), 0, 32⟩
/-- QUE_DATA_HI, R219 of spec/06_queues.md. -/
def QUE_DATA_HI (q l : Nat) : Nat := 0x10000c + 0x40 * q + 0x10 * l
def QUE_DATA_HI_DATA (q l : Nat) : Fld := ⟨(QUE_DATA_HI q l), 0, 32⟩

/-! Block TAL. -/

/-- TAL_ENG_STATUS, R244 of spec/07_tallies.md. -/
def TAL_ENG_STATUS (k : Nat) : Nat := 0x40000 + 0x40 * k
def TAL_ENG_STATUS_LIVE (k : Nat) : Fld := ⟨(TAL_ENG_STATUS k), 0, 14⟩
def TAL_ENG_STATUS_SLOW (k : Nat) : Fld := ⟨(TAL_ENG_STATUS k), 14, 1⟩
def TAL_ENG_STATUS_ACTS (k : Nat) : Fld := ⟨(TAL_ENG_STATUS k), 16, 11⟩
/-- TAL_ENG_STIMDROPS, R244 of spec/07_tallies.md. -/
def TAL_ENG_STIMDROPS (k : Nat) : Nat := 0x40004 + 0x40 * k
def TAL_ENG_STIMDROPS_COUNT (k : Nat) : Fld := ⟨(TAL_ENG_STIMDROPS k), 0, 32⟩
/-- TAL_ENG_SAT, R244 of spec/07_tallies.md. -/
def TAL_ENG_SAT (k : Nat) : Nat := 0x4000c + 0x40 * k
def TAL_ENG_SAT_STIMDROPS (k : Nat) : Fld := ⟨(TAL_ENG_SAT k), 0, 1⟩
/-- TAL_STIM, R244 of spec/07_tallies.md. -/
def TAL_STIM : Nat := 0x40800
def TAL_STIM_STATION : Fld := ⟨TAL_STIM, 0, 10⟩
def TAL_STIM_VALUE : Fld := ⟨TAL_STIM, 10, 4⟩
/-- TAL_TRK_CFG, R244 of spec/07_tallies.md. -/
def TAL_TRK_CFG (t : Nat) : Nat := 0x41000 + 0x80 * t
def TAL_TRK_CFG_SOURCE (t : Nat) : Fld := ⟨(TAL_TRK_CFG t), 0, 3⟩
def TAL_TRK_CFG_SRC_ARG (t : Nat) : Fld := ⟨(TAL_TRK_CFG t), 3, 7⟩
def TAL_TRK_CFG_EN (t : Nat) : Fld := ⟨(TAL_TRK_CFG t), 10, 1⟩
def TAL_TRK_CFG_DIR (t : Nat) : Fld := ⟨(TAL_TRK_CFG t), 11, 1⟩
def TAL_TRK_CFG_POLICY (t : Nat) : Fld := ⟨(TAL_TRK_CFG t), 12, 1⟩
def TAL_TRK_CFG_ENGINE (t : Nat) : Fld := ⟨(TAL_TRK_CFG t), 13, 3⟩
def TAL_TRK_CFG_BANK (t : Nat) : Fld := ⟨(TAL_TRK_CFG t), 16, 1⟩
/-- TAL_TRK_MATS, R244 of spec/07_tallies.md. -/
def TAL_TRK_MATS (t : Nat) : Nat := 0x41004 + 0x80 * t
def TAL_TRK_MATS_NOTE_MAT (t : Nat) : Fld := ⟨(TAL_TRK_MATS t), 0, 10⟩
def TAL_TRK_MATS_NOTE_EN (t : Nat) : Fld := ⟨(TAL_TRK_MATS t), 10, 1⟩
def TAL_TRK_MATS_REC_MAT (t : Nat) : Fld := ⟨(TAL_TRK_MATS t), 16, 10⟩
def TAL_TRK_MATS_REC_EN (t : Nat) : Fld := ⟨(TAL_TRK_MATS t), 26, 1⟩
/-- TAL_TRK_POS_LO, R244 of spec/07_tallies.md. -/
def TAL_TRK_POS_LO (t : Nat) : Nat := 0x41008 + 0x80 * t
def TAL_TRK_POS_LO_POS (t : Nat) : Fld := ⟨(TAL_TRK_POS_LO t), 0, 32⟩
/-- TAL_TRK_POS_HI, R244 of spec/07_tallies.md. -/
def TAL_TRK_POS_HI (t : Nat) : Nat := 0x4100c + 0x80 * t
def TAL_TRK_POS_HI_POS (t : Nat) : Fld := ⟨(TAL_TRK_POS_HI t), 0, 32⟩
/-- TAL_TRK_TRAVEL, R244 of spec/07_tallies.md. -/
def TAL_TRK_TRAVEL (t : Nat) : Nat := 0x41010 + 0x80 * t
def TAL_TRK_TRAVEL_COUNTS (t : Nat) : Fld := ⟨(TAL_TRK_TRAVEL t), 0, 32⟩
/-- TAL_TRK_DECIDE, R244 of spec/07_tallies.md. -/
def TAL_TRK_DECIDE (t : Nat) : Nat := 0x41014 + 0x80 * t
def TAL_TRK_DECIDE_COUNTS (t : Nat) : Fld := ⟨(TAL_TRK_DECIDE t), 0, 32⟩
/-- TAL_TRK_STATUS, R244 of spec/07_tallies.md. -/
def TAL_TRK_STATUS (t : Nat) : Nat := 0x41018 + 0x80 * t
def TAL_TRK_STATUS_LIVE (t : Nat) : Fld := ⟨(TAL_TRK_STATUS t), 0, 14⟩
def TAL_TRK_STATUS_POS_GAP (t : Nat) : Fld := ⟨(TAL_TRK_STATUS t), 14, 1⟩
def TAL_TRK_STATUS_FULL (t : Nat) : Fld := ⟨(TAL_TRK_STATUS t), 15, 1⟩
def TAL_TRK_STATUS_MAX_TALLIES (t : Nat) : Fld := ⟨(TAL_TRK_STATUS t), 16, 14⟩
/-- TAL_TRK_NEXTID, R244 of spec/07_tallies.md. -/
def TAL_TRK_NEXTID (t : Nat) : Nat := 0x4101c + 0x80 * t
def TAL_TRK_NEXTID_ID (t : Nat) : Fld := ⟨(TAL_TRK_NEXTID t), 0, 32⟩
/-- TAL_TRK_CNT, R244 of spec/07_tallies.md. -/
def TAL_TRK_CNT (t i : Nat) : Nat := 0x41020 + 0x80 * t + 0x4 * i
def TAL_TRK_CNT_COUNT (t i : Nat) : Fld := ⟨(TAL_TRK_CNT t i), 0, 32⟩
/-- TAL_TRK_SAT, R244 of spec/07_tallies.md. -/
def TAL_TRK_SAT (t : Nat) : Nat := 0x4104c + 0x80 * t
def TAL_TRK_SAT_SAT (t : Nat) : Fld := ⟨(TAL_TRK_SAT t), 0, 9⟩
/-- TAL_ST_CFG, R244 of spec/07_tallies.md. -/
def TAL_ST_CFG (s : Nat) : Nat := 0x44000 + 0x10 * s
def TAL_ST_CFG_KIND (s : Nat) : Fld := ⟨(TAL_ST_CFG s), 0, 3⟩
def TAL_ST_CFG_TRIGGER (s : Nat) : Fld := ⟨(TAL_ST_CFG s), 3, 2⟩
def TAL_ST_CFG_TRACK (s : Nat) : Fld := ⟨(TAL_ST_CFG s), 5, 6⟩
def TAL_ST_CFG_ZONE (s : Nat) : Fld := ⟨(TAL_ST_CFG s), 11, 8⟩
def TAL_ST_CFG_FIELD (s : Nat) : Fld := ⟨(TAL_ST_CFG s), 19, 5⟩
def TAL_ST_CFG_VALUE (s : Nat) : Fld := ⟨(TAL_ST_CFG s), 24, 4⟩
def TAL_ST_CFG_FALLING (s : Nat) : Fld := ⟨(TAL_ST_CFG s), 28, 1⟩
def TAL_ST_CFG_DECIDE (s : Nat) : Fld := ⟨(TAL_ST_CFG s), 29, 1⟩
def TAL_ST_CFG_TIME_ACT (s : Nat) : Fld := ⟨(TAL_ST_CFG s), 30, 1⟩
def TAL_ST_CFG_ACT_LEVEL (s : Nat) : Fld := ⟨(TAL_ST_CFG s), 31, 1⟩
/-- TAL_ST_OFFSET, R244 of spec/07_tallies.md. -/
def TAL_ST_OFFSET (s : Nat) : Nat := 0x44004 + 0x10 * s
def TAL_ST_OFFSET_OFFSET (s : Nat) : Fld := ⟨(TAL_ST_OFFSET s), 0, 32⟩
/-- TAL_ST_WIN, R244 of spec/07_tallies.md. -/
def TAL_ST_WIN (s : Nat) : Nat := 0x44008 + 0x10 * s
def TAL_ST_WIN_TOL (s : Nat) : Fld := ⟨(TAL_ST_WIN s), 0, 16⟩
def TAL_ST_WIN_HOLDOFF (s : Nat) : Fld := ⟨(TAL_ST_WIN s), 16, 16⟩
/-- TAL_ST_PIN, R244 of spec/07_tallies.md. -/
def TAL_ST_PIN (s : Nat) : Nat := 0x4400c + 0x10 * s
def TAL_ST_PIN_PIN (s : Nat) : Fld := ⟨(TAL_ST_PIN s), 0, 8⟩
def TAL_ST_PIN_GPIO (s : Nat) : Fld := ⟨(TAL_ST_PIN s), 8, 1⟩
def TAL_ST_PIN_PIN_B (s : Nat) : Fld := ⟨(TAL_ST_PIN s), 9, 1⟩
/-- TAL_RULE_LO, R244 of spec/07_tallies.md. -/
def TAL_RULE_LO (t a r : Nat) : Nat := 0x48000 + 0x200 * t + 0x100 * a + 0x8 * r
def TAL_RULE_LO_WORD (t a r : Nat) : Fld := ⟨(TAL_RULE_LO t a r), 0, 32⟩
/-- TAL_RULE_HI, R244 of spec/07_tallies.md. -/
def TAL_RULE_HI (t a r : Nat) : Nat := 0x48004 + 0x200 * t + 0x100 * a + 0x8 * r
def TAL_RULE_HI_WORD (t a r : Nat) : Fld := ⟨(TAL_RULE_HI t a r), 0, 32⟩

/-! Block HIF. -/

/-- HIF_STATUS, R304 of spec/09_host_rings.md. -/
def HIF_STATUS : Nat := 0x1000
def HIF_STATUS_CMD_READY : Fld := ⟨HIF_STATUS, 0, 1⟩
def HIF_STATUS_HOST_ABSENT : Fld := ⟨HIF_STATUS, 1, 1⟩
def HIF_STATUS_LINK_UP : Fld := ⟨HIF_STATUS, 2, 1⟩
def HIF_STATUS_ABSENT_CAUSE : Fld := ⟨HIF_STATUS, 3, 2⟩
/-- HIF_LINK, R304 of spec/09_host_rings.md. -/
def HIF_LINK : Nat := 0x1004
def HIF_LINK_WIDTH : Fld := ⟨HIF_LINK, 0, 5⟩
def HIF_LINK_RATE : Fld := ⟨HIF_LINK, 5, 3⟩
def HIF_LINK_DEGRADED : Fld := ⟨HIF_LINK, 8, 1⟩
def HIF_LINK_REVERSED : Fld := ⟨HIF_LINK, 9, 1⟩
/-- HIF_HB_CTL, R304 of spec/09_host_rings.md. -/
def HIF_HB_CTL : Nat := 0x1010
def HIF_HB_CTL_EN : Fld := ⟨HIF_HB_CTL, 0, 1⟩
def HIF_HB_CTL_TIMEOUT_MS : Fld := ⟨HIF_HB_CTL, 16, 16⟩
/-- HIF_HEARTBEAT, R304 of spec/09_host_rings.md. -/
def HIF_HEARTBEAT : Nat := 0x1014
def HIF_HEARTBEAT_VALUE : Fld := ⟨HIF_HEARTBEAT, 0, 32⟩
/-- HIF_RINGFAULTS, R304 of spec/09_host_rings.md. -/
def HIF_RINGFAULTS : Nat := 0x1020
def HIF_RINGFAULTS_COUNT : Fld := ⟨HIF_RINGFAULTS, 0, 32⟩
/-- HIF_EVDROPS, R304 of spec/09_host_rings.md. -/
def HIF_EVDROPS : Nat := 0x1024
def HIF_EVDROPS_COUNT : Fld := ⟨HIF_EVDROPS, 0, 32⟩
/-- HIF_WINBAD, R304 of spec/09_host_rings.md. -/
def HIF_WINBAD : Nat := 0x1028
def HIF_WINBAD_COUNT : Fld := ⟨HIF_WINBAD, 0, 32⟩
/-- HIF_SAT, R304 of spec/09_host_rings.md. -/
def HIF_SAT : Nat := 0x102c
def HIF_SAT_RINGFAULTS : Fld := ⟨HIF_SAT, 0, 1⟩
def HIF_SAT_EVDROPS : Fld := ⟨HIF_SAT, 1, 1⟩
def HIF_SAT_WINBAD : Fld := ⟨HIF_SAT, 2, 1⟩
/-- HIF_RINGn_BASE_LO, R304 of spec/09_host_rings.md. -/
def HIF_RING_BASE_LO (n : Nat) : Nat := 0x1800 + 0x20 * n
def HIF_RING_BASE_LO_ADDR (n : Nat) : Fld := ⟨(HIF_RING_BASE_LO n), 0, 32⟩
/-- HIF_RINGn_BASE_HI, R304 of spec/09_host_rings.md. -/
def HIF_RING_BASE_HI (n : Nat) : Nat := 0x1804 + 0x20 * n
def HIF_RING_BASE_HI_ADDR (n : Nat) : Fld := ⟨(HIF_RING_BASE_HI n), 0, 32⟩
/-- HIF_RINGn_MIRROR_LO, R304 of spec/09_host_rings.md. -/
def HIF_RING_MIRROR_LO (n : Nat) : Nat := 0x1808 + 0x20 * n
def HIF_RING_MIRROR_LO_ADDR (n : Nat) : Fld := ⟨(HIF_RING_MIRROR_LO n), 0, 32⟩
/-- HIF_RINGn_MIRROR_HI, R304 of spec/09_host_rings.md. -/
def HIF_RING_MIRROR_HI (n : Nat) : Nat := 0x180c + 0x20 * n
def HIF_RING_MIRROR_HI_ADDR (n : Nat) : Fld := ⟨(HIF_RING_MIRROR_HI n), 0, 32⟩
/-- HIF_RINGn_CFG, R304 of spec/09_host_rings.md. -/
def HIF_RING_CFG (n : Nat) : Nat := 0x1810 + 0x20 * n
def HIF_RING_CFG_EN (n : Nat) : Fld := ⟨(HIF_RING_CFG n), 0, 1⟩
def HIF_RING_CFG_KIND (n : Nat) : Fld := ⟨(HIF_RING_CFG n), 1, 2⟩
def HIF_RING_CFG_SIZE_LOG2 (n : Nat) : Fld := ⟨(HIF_RING_CFG n), 3, 5⟩
def HIF_RING_CFG_VECTOR (n : Nat) : Fld := ⟨(HIF_RING_CFG n), 8, 11⟩
def HIF_RING_CFG_VEC_EN (n : Nat) : Fld := ⟨(HIF_RING_CFG n), 19, 1⟩
def HIF_RING_CFG_MIN_SEV (n : Nat) : Fld := ⟨(HIF_RING_CFG n), 20, 2⟩
/-- HIF_RINGn_AUX, R304 of spec/09_host_rings.md. -/
def HIF_RING_AUX (n : Nat) : Nat := 0x1814 + 0x20 * n
def HIF_RING_AUX_AUX (n : Nat) : Fld := ⟨(HIF_RING_AUX n), 0, 32⟩
/-- HIF_RINGn_COAL, R304 of spec/09_host_rings.md. -/
def HIF_RING_COAL (n : Nat) : Nat := 0x1818 + 0x20 * n
def HIF_RING_COAL_COUNT (n : Nat) : Fld := ⟨(HIF_RING_COAL n), 0, 16⟩
def HIF_RING_COAL_US (n : Nat) : Fld := ⟨(HIF_RING_COAL n), 16, 16⟩
/-- HIF_RINGn_STATUS, R304 of spec/09_host_rings.md. -/
def HIF_RING_STATUS (n : Nat) : Nat := 0x181c + 0x20 * n
def HIF_RING_STATUS_STATE (n : Nat) : Fld := ⟨(HIF_RING_STATUS n), 0, 2⟩
def HIF_RING_STATUS_CAUSE (n : Nat) : Fld := ⟨(HIF_RING_STATUS n), 2, 2⟩
def HIF_RING_STATUS_REFUSED (n : Nat) : Fld := ⟨(HIF_RING_STATUS n), 4, 1⟩
def HIF_RING_STATUS_DEV_INDEX (n : Nat) : Fld := ⟨(HIF_RING_STATUS n), 16, 16⟩

/-! Block HDR. -/

/-- HDR_DISCARDS, R305 of spec/09_host_rings.md. -/
def HDR_DISCARDS : Nat := 0x1040000
def HDR_DISCARDS_COUNT : Fld := ⟨HDR_DISCARDS, 0, 32⟩
/-- HDR_SAT, R305 of spec/09_host_rings.md. -/
def HDR_SAT : Nat := 0x104000c
def HDR_SAT_DISCARDS : Fld := ⟨HDR_SAT, 0, 1⟩
/-- HDR_RINGn_BASE_LO, R305 of spec/09_host_rings.md. -/
def HDR_RING_BASE_LO (n : Nat) : Nat := 0x1080000 + 0x20 * n
def HDR_RING_BASE_LO_ADDR (n : Nat) : Fld := ⟨(HDR_RING_BASE_LO n), 0, 32⟩
/-- HDR_RINGn_BASE_HI, R305 of spec/09_host_rings.md. -/
def HDR_RING_BASE_HI (n : Nat) : Nat := 0x1080004 + 0x20 * n
def HDR_RING_BASE_HI_ADDR (n : Nat) : Fld := ⟨(HDR_RING_BASE_HI n), 0, 32⟩
/-- HDR_RINGn_MIRROR_LO, R305 of spec/09_host_rings.md. -/
def HDR_RING_MIRROR_LO (n : Nat) : Nat := 0x1080008 + 0x20 * n
def HDR_RING_MIRROR_LO_ADDR (n : Nat) : Fld := ⟨(HDR_RING_MIRROR_LO n), 0, 32⟩
/-- HDR_RINGn_MIRROR_HI, R305 of spec/09_host_rings.md. -/
def HDR_RING_MIRROR_HI (n : Nat) : Nat := 0x108000c + 0x20 * n
def HDR_RING_MIRROR_HI_ADDR (n : Nat) : Fld := ⟨(HDR_RING_MIRROR_HI n), 0, 32⟩
/-- HDR_RINGn_CFG, R305 of spec/09_host_rings.md. -/
def HDR_RING_CFG (n : Nat) : Nat := 0x1080010 + 0x20 * n
def HDR_RING_CFG_EN (n : Nat) : Fld := ⟨(HDR_RING_CFG n), 0, 1⟩
def HDR_RING_CFG_KIND (n : Nat) : Fld := ⟨(HDR_RING_CFG n), 1, 2⟩
def HDR_RING_CFG_SIZE_LOG2 (n : Nat) : Fld := ⟨(HDR_RING_CFG n), 3, 5⟩
def HDR_RING_CFG_VECTOR (n : Nat) : Fld := ⟨(HDR_RING_CFG n), 8, 11⟩
def HDR_RING_CFG_VEC_EN (n : Nat) : Fld := ⟨(HDR_RING_CFG n), 19, 1⟩
def HDR_RING_CFG_MIN_SEV (n : Nat) : Fld := ⟨(HDR_RING_CFG n), 20, 2⟩
/-- HDR_RINGn_AUX, R305 of spec/09_host_rings.md. -/
def HDR_RING_AUX (n : Nat) : Nat := 0x1080014 + 0x20 * n
def HDR_RING_AUX_QUEUE (n : Nat) : Fld := ⟨(HDR_RING_AUX n), 0, 13⟩
def HDR_RING_AUX_BOUND (n : Nat) : Fld := ⟨(HDR_RING_AUX n), 13, 1⟩
/-- HDR_RINGn_COAL, R305 of spec/09_host_rings.md. -/
def HDR_RING_COAL (n : Nat) : Nat := 0x1080018 + 0x20 * n
def HDR_RING_COAL_COUNT (n : Nat) : Fld := ⟨(HDR_RING_COAL n), 0, 16⟩
def HDR_RING_COAL_US (n : Nat) : Fld := ⟨(HDR_RING_COAL n), 16, 16⟩
/-- HDR_RINGn_STATUS, R305 of spec/09_host_rings.md. -/
def HDR_RING_STATUS (n : Nat) : Nat := 0x108001c + 0x20 * n
def HDR_RING_STATUS_STATE (n : Nat) : Fld := ⟨(HDR_RING_STATUS n), 0, 2⟩
def HDR_RING_STATUS_CAUSE (n : Nat) : Fld := ⟨(HDR_RING_STATUS n), 2, 2⟩
def HDR_RING_STATUS_REFUSED (n : Nat) : Fld := ⟨(HDR_RING_STATUS n), 4, 1⟩
def HDR_RING_STATUS_DEV_INDEX (n : Nat) : Fld := ⟨(HDR_RING_STATUS n), 16, 16⟩

/-! Block FP. -/

/-- FP_CFG, R334 of spec/10_field_ports_and_pins.md. -/
def FP_CFG (p : Nat) : Nat := 0x10000 + 0x100 * p
def FP_CFG_EN (p : Nat) : Fld := ⟨(FP_CFG p), 0, 1⟩
def FP_CFG_MODE (p : Nat) : Fld := ⟨(FP_CFG p), 1, 3⟩
def FP_CFG_CODE (p : Nat) : Fld := ⟨(FP_CFG p), 4, 2⟩
def FP_CFG_ENERGY (p : Nat) : Fld := ⟨(FP_CFG p), 6, 1⟩
def FP_CFG_ILIM (p : Nat) : Fld := ⟨(FP_CFG p), 7, 3⟩
def FP_CFG_TERM (p : Nat) : Fld := ⟨(FP_CFG p), 10, 1⟩
def FP_CFG_PULL (p : Nat) : Fld := ⟨(FP_CFG p), 11, 2⟩
def FP_CFG_PACED (p : Nat) : Fld := ⟨(FP_CFG p), 13, 1⟩
def FP_CFG_DIR_A (p : Nat) : Fld := ⟨(FP_CFG p), 14, 1⟩
def FP_CFG_DIR_B (p : Nat) : Fld := ⟨(FP_CFG p), 15, 1⟩
def FP_CFG_ENC_DIFF (p : Nat) : Fld := ⟨(FP_CFG p), 16, 1⟩
def FP_CFG_IDLE (p : Nat) : Fld := ⟨(FP_CFG p), 17, 1⟩
/-- FP_OWNER, R334 of spec/10_field_ports_and_pins.md. -/
def FP_OWNER (p : Nat) : Nat := 0x10004 + 0x100 * p
def FP_OWNER_KIND (p : Nat) : Fld := ⟨(FP_OWNER p), 0, 3⟩
def FP_OWNER_ID (p : Nat) : Fld := ⟨(FP_OWNER p), 3, 13⟩
/-- FP_QUEUES, R334 of spec/10_field_ports_and_pins.md. -/
def FP_QUEUES (p : Nat) : Nat := 0x10008 + 0x100 * p
def FP_QUEUES_RXQ (p : Nat) : Fld := ⟨(FP_QUEUES p), 0, 13⟩
def FP_QUEUES_RX_EN (p : Nat) : Fld := ⟨(FP_QUEUES p), 13, 1⟩
def FP_QUEUES_TXQ (p : Nat) : Fld := ⟨(FP_QUEUES p), 16, 13⟩
def FP_QUEUES_TX_EN (p : Nat) : Fld := ⟨(FP_QUEUES p), 29, 1⟩
/-- FP_RATE, R334 of spec/10_field_ports_and_pins.md. -/
def FP_RATE (p : Nat) : Nat := 0x1000c + 0x100 * p
def FP_RATE_RATE_KBPS (p : Nat) : Fld := ⟨(FP_RATE p), 0, 21⟩
/-- FP_STATUS, R334 of spec/10_field_ports_and_pins.md. -/
def FP_STATUS (p : Nat) : Nat := 0x10010 + 0x100 * p
def FP_STATUS_LEVEL_A (p : Nat) : Fld := ⟨(FP_STATUS p), 0, 1⟩
def FP_STATUS_LEVEL_B (p : Nat) : Fld := ⟨(FP_STATUS p), 1, 1⟩
def FP_STATUS_AT_LIMIT (p : Nat) : Fld := ⟨(FP_STATUS p), 2, 1⟩
def FP_STATUS_FOLDED (p : Nat) : Fld := ⟨(FP_STATUS p), 3, 1⟩
def FP_STATUS_SWITCHING (p : Nat) : Fld := ⟨(FP_STATUS p), 4, 1⟩
def FP_STATUS_SURVEYING (p : Nat) : Fld := ⟨(FP_STATUS p), 5, 1⟩
def FP_STATUS_CHARTER (p : Nat) : Fld := ⟨(FP_STATUS p), 6, 1⟩
def FP_STATUS_KEEP (p : Nat) : Fld := ⟨(FP_STATUS p), 7, 1⟩
def FP_STATUS_SYNC (p : Nat) : Fld := ⟨(FP_STATUS p), 8, 1⟩
def FP_STATUS_REFUSED (p : Nat) : Fld := ⟨(FP_STATUS p), 9, 1⟩
/-- FP_CTL, R334 of spec/10_field_ports_and_pins.md. -/
def FP_CTL (p : Nat) : Nat := 0x10014 + 0x100 * p
def FP_CTL_RETRY (p : Nat) : Fld := ⟨(FP_CTL p), 0, 1⟩
/-- FP_SENSE, R334 of spec/10_field_ports_and_pins.md. -/
def FP_SENSE (p : Nat) : Nat := 0x10018 + 0x100 * p
def FP_SENSE_MV_A (p : Nat) : Fld := ⟨(FP_SENSE p), 0, 13⟩
def FP_SENSE_MV_B (p : Nat) : Fld := ⟨(FP_SENSE p), 16, 13⟩
/-- FP_SURV_LO, R334 of spec/10_field_ports_and_pins.md. -/
def FP_SURV_LO (p : Nat) : Nat := 0x10020 + 0x100 * p
def FP_SURV_LO_RESULT (p : Nat) : Fld := ⟨(FP_SURV_LO p), 0, 32⟩
/-- FP_SURV_HI, R334 of spec/10_field_ports_and_pins.md. -/
def FP_SURV_HI (p : Nat) : Nat := 0x10024 + 0x100 * p
def FP_SURV_HI_RESULT (p : Nat) : Fld := ⟨(FP_SURV_HI p), 0, 32⟩
/-- FP_FOLDS, R334 of spec/10_field_ports_and_pins.md. -/
def FP_FOLDS (p : Nat) : Nat := 0x10030 + 0x100 * p
def FP_FOLDS_COUNT (p : Nat) : Fld := ⟨(FP_FOLDS p), 0, 32⟩
/-- FP_OVERRUNS, R334 of spec/10_field_ports_and_pins.md. -/
def FP_OVERRUNS (p : Nat) : Nat := 0x10034 + 0x100 * p
def FP_OVERRUNS_COUNT (p : Nat) : Fld := ⟨(FP_OVERRUNS p), 0, 32⟩
/-- FP_CODEERRS, R334 of spec/10_field_ports_and_pins.md. -/
def FP_CODEERRS (p : Nat) : Nat := 0x10038 + 0x100 * p
def FP_CODEERRS_COUNT (p : Nat) : Fld := ⟨(FP_CODEERRS p), 0, 32⟩
/-- FP_SAT, R334 of spec/10_field_ports_and_pins.md. -/
def FP_SAT (p : Nat) : Nat := 0x1003c + 0x100 * p
def FP_SAT_FOLDS (p : Nat) : Fld := ⟨(FP_SAT p), 0, 1⟩
def FP_SAT_OVERRUNS (p : Nat) : Fld := ⟨(FP_SAT p), 1, 1⟩
def FP_SAT_CODEERRS (p : Nat) : Fld := ⟨(FP_SAT p), 2, 1⟩

/-! Block GPIO. -/

/-- GPIO_INk, R335 of spec/10_field_ports_and_pins.md. -/
def GPIO_IN (k : Nat) : Nat := 0xa000 + 0x4 * k
def GPIO_IN_LEVEL (k : Nat) : Fld := ⟨(GPIO_IN k), 0, 32⟩
/-- GPIO_OUTk, R335 of spec/10_field_ports_and_pins.md. -/
def GPIO_OUT (k : Nat) : Nat := 0xa010 + 0x4 * k
def GPIO_OUT_OUT (k : Nat) : Fld := ⟨(GPIO_OUT k), 0, 32⟩
/-- GPIO_OEk, R335 of spec/10_field_ports_and_pins.md. -/
def GPIO_OE (k : Nat) : Nat := 0xa020 + 0x4 * k
def GPIO_OE_OE (k : Nat) : Fld := ⟨(GPIO_OE k), 0, 32⟩
/-- GPIO_SUPPLY, R335 of spec/10_field_ports_and_pins.md. -/
def GPIO_SUPPLY : Nat := 0xa040
def GPIO_SUPPLY_VCCIO : Fld := ⟨GPIO_SUPPLY, 0, 12⟩
def GPIO_SUPPLY_VFP : Fld := ⟨GPIO_SUPPLY, 16, 16⟩
/-- GPIO_DENIED, R335 of spec/10_field_ports_and_pins.md. -/
def GPIO_DENIED : Nat := 0xa050
def GPIO_DENIED_DENIED : Fld := ⟨GPIO_DENIED, 0, 1⟩
def GPIO_DENIED_REFUSED : Fld := ⟨GPIO_DENIED, 1, 1⟩
def GPIO_DENIED_PIN : Fld := ⟨GPIO_DENIED, 8, 9⟩
def GPIO_DENIED_CORE : Fld := ⟨GPIO_DENIED, 17, 3⟩
/-- GPIO_DENIEDS, R335 of spec/10_field_ports_and_pins.md. -/
def GPIO_DENIEDS : Nat := 0xa054
def GPIO_DENIEDS_COUNT : Fld := ⟨GPIO_DENIEDS, 0, 32⟩
/-- GPIO_SAT, R335 of spec/10_field_ports_and_pins.md. -/
def GPIO_SAT : Nat := 0xa05c
def GPIO_SAT_DENIEDS : Fld := ⟨GPIO_SAT, 0, 1⟩
/-- GPIO_OWNERn, R335 of spec/10_field_ports_and_pins.md. -/
def GPIO_OWNER (n : Nat) : Nat := 0xa100 + 0x4 * n
def GPIO_OWNER_KIND (n : Nat) : Fld := ⟨(GPIO_OWNER n), 0, 4⟩
def GPIO_OWNER_MAT (n : Nat) : Fld := ⟨(GPIO_OWNER n), 4, 10⟩
def GPIO_OWNER_PULL (n : Nat) : Fld := ⟨(GPIO_OWNER n), 14, 2⟩
def GPIO_OWNER_DRIVE (n : Nat) : Fld := ⟨(GPIO_OWNER n), 16, 2⟩
def GPIO_OWNER_SWITCHING (n : Nat) : Fld := ⟨(GPIO_OWNER n), 18, 1⟩
def GPIO_OWNER_CHARTER (n : Nat) : Fld := ⟨(GPIO_OWNER n), 19, 1⟩
/-- GPIO_EXTLn, R335 of spec/10_field_ports_and_pins.md. -/
def GPIO_EXTL (n : Nat) : Nat := 0xa300 + 0x4 * n
def GPIO_EXTL_GROUP (n : Nat) : Fld := ⟨(GPIO_EXTL n), 0, 3⟩
def GPIO_EXTL_MODE (n : Nat) : Fld := ⟨(GPIO_EXTL n), 3, 3⟩
def GPIO_EXTL_PEND (n : Nat) : Fld := ⟨(GPIO_EXTL n), 6, 1⟩
def GPIO_EXTL_LEVEL (n : Nat) : Fld := ⟨(GPIO_EXTL n), 7, 1⟩

/-! Block HL. -/

/-- HL_STATUS, R351 of spec/11_serial_lanes.md. -/
def HL_STATUS (h : Nat) : Nat := 0x18000 + 0x400 * h
def HL_STATUS_ACTIVE (h : Nat) : Fld := ⟨(HL_STATUS h), 0, 1⟩
def HL_STATUS_RATE (h : Nat) : Fld := ⟨(HL_STATUS h), 1, 3⟩

/-! Block XL. -/

/-- XL_CFG, R351 of spec/11_serial_lanes.md. -/
def XL_CFG (x : Nat) : Nat := 0x1c000 + 0x400 * x
def XL_CFG_EN (x : Nat) : Fld := ⟨(XL_CFG x), 0, 1⟩
def XL_CFG_RATE (x : Nat) : Fld := ⟨(XL_CFG x), 1, 4⟩
def XL_CFG_CODE (x : Nat) : Fld := ⟨(XL_CFG x), 5, 3⟩
def XL_CFG_LOOP (x : Nat) : Fld := ⟨(XL_CFG x), 8, 2⟩
def XL_CFG_TS (x : Nat) : Fld := ⟨(XL_CFG x), 10, 1⟩
/-- XL_OWNER, R351 of spec/11_serial_lanes.md. -/
def XL_OWNER (x : Nat) : Nat := 0x1c004 + 0x400 * x
def XL_OWNER_KIND (x : Nat) : Fld := ⟨(XL_OWNER x), 0, 2⟩
def XL_OWNER_MAT (x : Nat) : Fld := ⟨(XL_OWNER x), 2, 10⟩
/-- XL_QUEUES, R351 of spec/11_serial_lanes.md. -/
def XL_QUEUES (x : Nat) : Nat := 0x1c008 + 0x400 * x
def XL_QUEUES_RXQ (x : Nat) : Fld := ⟨(XL_QUEUES x), 0, 13⟩
def XL_QUEUES_RX_EN (x : Nat) : Fld := ⟨(XL_QUEUES x), 13, 1⟩
def XL_QUEUES_TXQ (x : Nat) : Fld := ⟨(XL_QUEUES x), 16, 13⟩
def XL_QUEUES_TX_EN (x : Nat) : Fld := ⟨(XL_QUEUES x), 29, 1⟩
/-- XL_STATUS, R351 of spec/11_serial_lanes.md. -/
def XL_STATUS (x : Nat) : Nat := 0x1c010 + 0x400 * x
def XL_STATUS_RX_LOCK (x : Nat) : Fld := ⟨(XL_STATUS x), 0, 1⟩
def XL_STATUS_ALIGNED (x : Nat) : Fld := ⟨(XL_STATUS x), 1, 1⟩
def XL_STATUS_HI_BER (x : Nat) : Fld := ⟨(XL_STATUS x), 2, 1⟩
def XL_STATUS_SYNTH (x : Nat) : Fld := ⟨(XL_STATUS x), 3, 1⟩
def XL_STATUS_REFUSED (x : Nat) : Fld := ⟨(XL_STATUS x), 4, 1⟩
def XL_STATUS_REASON (x : Nat) : Fld := ⟨(XL_STATUS x), 5, 3⟩
/-- XL_CODEERRS, R351 of spec/11_serial_lanes.md. -/
def XL_CODEERRS (x : Nat) : Nat := 0x1c020 + 0x400 * x
def XL_CODEERRS_COUNT (x : Nat) : Fld := ⟨(XL_CODEERRS x), 0, 32⟩
/-- XL_OVERRUNS, R351 of spec/11_serial_lanes.md. -/
def XL_OVERRUNS (x : Nat) : Nat := 0x1c024 + 0x400 * x
def XL_OVERRUNS_COUNT (x : Nat) : Fld := ⟨(XL_OVERRUNS x), 0, 32⟩
/-- XL_UNDERRUNS, R351 of spec/11_serial_lanes.md. -/
def XL_UNDERRUNS (x : Nat) : Nat := 0x1c028 + 0x400 * x
def XL_UNDERRUNS_COUNT (x : Nat) : Fld := ⟨(XL_UNDERRUNS x), 0, 32⟩
/-- XL_SAT, R351 of spec/11_serial_lanes.md. -/
def XL_SAT (x : Nat) : Nat := 0x1c02c + 0x400 * x
def XL_SAT_SAT (x : Nat) : Fld := ⟨(XL_SAT x), 0, 3⟩
/-- TH_CTL, R351 of spec/11_serial_lanes.md. -/
def TH_CTL (k : Nat) : Nat := 0x1c200 + 0x1000 * k
def TH_CTL_EN (k : Nat) : Fld := ⟨(TH_CTL k), 0, 1⟩
def TH_CTL_ROLE (k : Nat) : Fld := ⟨(TH_CTL k), 1, 2⟩
def TH_CTL_DEVNUM (k : Nat) : Fld := ⟨(TH_CTL k), 3, 3⟩
/-- TH_STATUS, R351 of spec/11_serial_lanes.md. -/
def TH_STATUS (k : Nat) : Nat := 0x1c204 + 0x1000 * k
def TH_STATUS_STATE (k : Nat) : Fld := ⟨(TH_STATUS k), 0, 2⟩
def TH_STATUS_LANES_UP (k : Nat) : Fld := ⟨(TH_STATUS k), 2, 4⟩
def TH_STATUS_PEER (k : Nat) : Fld := ⟨(TH_STATUS k), 6, 3⟩
def TH_STATUS_TIME_ALIGNED (k : Nat) : Fld := ⟨(TH_STATUS k), 9, 1⟩
def TH_STATUS_LAT_NS (k : Nat) : Fld := ⟨(TH_STATUS k), 10, 10⟩
/-- TH_RETRIES, R351 of spec/11_serial_lanes.md. -/
def TH_RETRIES (k : Nat) : Nat := 0x1c208 + 0x1000 * k
def TH_RETRIES_COUNT (k : Nat) : Fld := ⟨(TH_RETRIES k), 0, 32⟩
/-- TH_SAT, R351 of spec/11_serial_lanes.md. -/
def TH_SAT (k : Nat) : Nat := 0x1c20c + 0x1000 * k
def TH_SAT_RETRIES (k : Nat) : Fld := ⟨(TH_SAT k), 0, 1⟩

/-! Block SEC. -/

/-- SEC_LIFE, R400 of spec/13_trust_and_sessions.md. -/
def SEC_LIFE : Nat := 0x2000
def SEC_LIFE_STATE : Fld := ⟨SEC_LIFE, 0, 3⟩
def SEC_LIFE_ROOT_SET : Fld := ⟨SEC_LIFE, 3, 1⟩
def SEC_LIFE_KEYS : Fld := ⟨SEC_LIFE, 4, 4⟩
def SEC_LIFE_PWDS : Fld := ⟨SEC_LIFE, 8, 4⟩
def SEC_LIFE_EP : Fld := ⟨SEC_LIFE, 12, 1⟩
def SEC_LIFE_DEBUG_LEVEL : Fld := ⟨SEC_LIFE, 13, 3⟩
def SEC_LIFE_DEBUG_OPENS : Fld := ⟨SEC_LIFE, 16, 8⟩
/-- SEC_SERIAL_LO, R400 of spec/13_trust_and_sessions.md. -/
def SEC_SERIAL_LO : Nat := 0x2008
def SEC_SERIAL_LO_SERIAL : Fld := ⟨SEC_SERIAL_LO, 0, 32⟩
/-- SEC_SERIAL_HI, R400 of spec/13_trust_and_sessions.md. -/
def SEC_SERIAL_HI : Nat := 0x200c
def SEC_SERIAL_HI_SERIAL : Fld := ⟨SEC_SERIAL_HI, 0, 32⟩
/-- SEC_ARV, R400 of spec/13_trust_and_sessions.md. -/
def SEC_ARV : Nat := 0x2010
def SEC_ARV_COUNTER : Fld := ⟨SEC_ARV, 0, 32⟩
/-- SEC_SESS, R400 of spec/13_trust_and_sessions.md. -/
def SEC_SESS : Nat := 0x2020
def SEC_SESS_OPEN : Fld := ⟨SEC_SESS, 0, 5⟩
/-- SEC_SESS_CTL, R400 of spec/13_trust_and_sessions.md. -/
def SEC_SESS_CTL : Nat := 0x2024
def SEC_SESS_CTL_IDLE_S : Fld := ⟨SEC_SESS_CTL, 0, 16⟩
/-- SEC_LOCK, R400 of spec/13_trust_and_sessions.md. -/
def SEC_LOCK : Nat := 0x2028
def SEC_LOCK_FAILS : Fld := ⟨SEC_LOCK, 0, 4⟩
def SEC_LOCK_LEVEL : Fld := ⟨SEC_LOCK, 4, 3⟩
def SEC_LOCK_LOCKED : Fld := ⟨SEC_LOCK, 7, 1⟩
def SEC_LOCK_REMAIN_S : Fld := ⟨SEC_LOCK, 8, 12⟩
/-- SEC_AUTHFAILS, R400 of spec/13_trust_and_sessions.md. -/
def SEC_AUTHFAILS : Nat := 0x2030
def SEC_AUTHFAILS_COUNT : Fld := ⟨SEC_AUTHFAILS, 0, 32⟩
/-- SEC_KEYFAILS, R400 of spec/13_trust_and_sessions.md. -/
def SEC_KEYFAILS : Nat := 0x2034
def SEC_KEYFAILS_COUNT : Fld := ⟨SEC_KEYFAILS, 0, 32⟩
/-- SEC_SAT, R400 of spec/13_trust_and_sessions.md. -/
def SEC_SAT : Nat := 0x203c
def SEC_SAT_AUTHFAILS : Fld := ⟨SEC_SAT, 0, 1⟩
def SEC_SAT_KEYFAILS : Fld := ⟨SEC_SAT, 1, 1⟩
/-- SEC_PROV_ADDR_LO, R400 of spec/13_trust_and_sessions.md. -/
def SEC_PROV_ADDR_LO : Nat := 0x2040
def SEC_PROV_ADDR_LO_ADDR : Fld := ⟨SEC_PROV_ADDR_LO, 0, 32⟩
/-- SEC_PROV_ADDR_HI, R400 of spec/13_trust_and_sessions.md. -/
def SEC_PROV_ADDR_HI : Nat := 0x2044
def SEC_PROV_ADDR_HI_ADDR : Fld := ⟨SEC_PROV_ADDR_HI, 0, 32⟩
/-- SEC_PROV_CTL, R400 of spec/13_trust_and_sessions.md. -/
def SEC_PROV_CTL : Nat := 0x2048
def SEC_PROV_CTL_GO : Fld := ⟨SEC_PROV_CTL, 0, 1⟩
/-- SEC_PROV_STATUS, R400 of spec/13_trust_and_sessions.md. -/
def SEC_PROV_STATUS : Nat := 0x204c
def SEC_PROV_STATUS_STATE : Fld := ⟨SEC_PROV_STATUS, 0, 2⟩
def SEC_PROV_STATUS_STATUS : Fld := ⟨SEC_PROV_STATUS, 8, 8⟩
/-- SEC_ERASED, R400 of spec/13_trust_and_sessions.md. -/
def SEC_ERASED : Nat := 0x2050
def SEC_ERASED_ERASING : Fld := ⟨SEC_ERASED, 0, 1⟩
def SEC_ERASED_CAUSE : Fld := ⟨SEC_ERASED, 1, 2⟩
/-- SEC_PROV_NONCEk, R400 of spec/13_trust_and_sessions.md. -/
def SEC_PROV_NONCE (k : Nat) : Nat := 0x2080 + 0x4 * k
def SEC_PROV_NONCE_NONCE (k : Nat) : Fld := ⟨(SEC_PROV_NONCE k), 0, 32⟩
/-- SEC_SECRET_BANKj, R400 of spec/13_trust_and_sessions.md. -/
def SEC_SECRET_BANK (j : Nat) : Nat := 0x2100 + 0x4 * j
def SEC_SECRET_BANK_SECRET (j : Nat) : Fld := ⟨(SEC_SECRET_BANK j), 0, 32⟩

/-! Block THM. -/

/-- THM_STATUS, R424 of spec/14_power_and_heat.md. -/
def THM_STATUS : Nat := 0x5000
def THM_STATUS_WARNING : Fld := ⟨THM_STATUS, 0, 1⟩
def THM_STATUS_THROTTLE : Fld := ⟨THM_STATUS, 1, 1⟩
def THM_STATUS_CRITICAL : Fld := ⟨THM_STATUS, 2, 1⟩
def THM_STATUS_PACING : Fld := ⟨THM_STATUS, 3, 1⟩
def THM_STATUS_SUSPECTS : Fld := ⟨THM_STATUS, 4, 10⟩
/-- THM_HOT, R424 of spec/14_power_and_heat.md. -/
def THM_HOT : Nat := 0x5004
def THM_HOT_TEMP : Fld := ⟨THM_HOT, 0, 16⟩
def THM_HOT_LAYER : Fld := ⟨THM_HOT, 16, 3⟩
def THM_HOT_INDEX : Fld := ⟨THM_HOT, 19, 8⟩
/-- THM_SEL, R424 of spec/14_power_and_heat.md. -/
def THM_SEL : Nat := 0x5010
def THM_SEL_LAYER : Fld := ⟨THM_SEL, 0, 3⟩
def THM_SEL_INDEX : Fld := ⟨THM_SEL, 3, 8⟩
/-- THM_READ, R424 of spec/14_power_and_heat.md. -/
def THM_READ : Nat := 0x5014
def THM_READ_READING : Fld := ⟨THM_READ, 0, 16⟩
def THM_READ_EFFECTIVE : Fld := ⟨THM_READ, 16, 16⟩
/-- THM_EST, R424 of spec/14_power_and_heat.md. -/
def THM_EST : Nat := 0x5018
def THM_EST_EST : Fld := ⟨THM_EST, 0, 16⟩
def THM_EST_REQ : Fld := ⟨THM_EST, 16, 16⟩
/-- THM_SENSTAT, R424 of spec/14_power_and_heat.md. -/
def THM_SENSTAT : Nat := 0x501c
def THM_SENSTAT_SUSPECT : Fld := ⟨THM_SENSTAT, 0, 1⟩
def THM_SENSTAT_LEVEL : Fld := ⟨THM_SENSTAT, 1, 2⟩
def THM_SENSTAT_PACED : Fld := ⟨THM_SENSTAT, 3, 1⟩
/-- THM_CTL, R424 of spec/14_power_and_heat.md. -/
def THM_CTL : Nat := 0x5080
def THM_CTL_AUTO_RESTART : Fld := ⟨THM_CTL, 0, 1⟩
def THM_CTL_RECAL_EN : Fld := ⟨THM_CTL, 1, 1⟩
def THM_CTL_RECAL_H : Fld := ⟨THM_CTL, 8, 8⟩
/-- THM_SUSPECTN, R424 of spec/14_power_and_heat.md. -/
def THM_SUSPECTN : Nat := 0x5084
def THM_SUSPECTN_COUNT : Fld := ⟨THM_SUSPECTN, 0, 32⟩
/-- THM_THROTTLES, R424 of spec/14_power_and_heat.md. -/
def THM_THROTTLES : Nat := 0x5088
def THM_THROTTLES_COUNT : Fld := ⟨THM_THROTTLES, 0, 32⟩
/-- THM_SAT, R424 of spec/14_power_and_heat.md. -/
def THM_SAT : Nat := 0x508c
def THM_SAT_SUSPECTN : Fld := ⟨THM_SAT, 0, 1⟩
def THM_SAT_THROTTLES : Fld := ⟨THM_SAT, 1, 1⟩
/-- THM_TRI, R424 of spec/14_power_and_heat.md. -/
def THM_TRI : Nat := 0x5090
def THM_TRI_VALID : Fld := ⟨THM_TRI, 0, 1⟩
def THM_TRI_MOVED : Fld := ⟨THM_TRI, 8, 8⟩
def THM_TRI_RECALS : Fld := ⟨THM_TRI, 16, 16⟩

/-! Block DEV. -/

/-- DEV_STATUS, R446 of spec/15_start_up.md. -/
def DEV_STATUS : Nat := 0x0
def DEV_STATUS_PHASE : Fld := ⟨DEV_STATUS, 0, 3⟩
def DEV_STATUS_RDY : Fld := ⟨DEV_STATUS, 3, 1⟩
def DEV_STATUS_FAULT : Fld := ⟨DEV_STATUS, 4, 1⟩
def DEV_STATUS_WAIT_HREF : Fld := ⟨DEV_STATUS, 5, 1⟩
def DEV_STATUS_WARM_BUSY : Fld := ⟨DEV_STATUS, 6, 1⟩
/-- DEV_FAULT, R446 of spec/15_start_up.md. -/
def DEV_FAULT : Nat := 0x4
def DEV_FAULT_CAUSES : Fld := ⟨DEV_FAULT, 0, 5⟩
/-- DEV_RESET_CAUSE, R446 of spec/15_start_up.md. -/
def DEV_RESET_CAUSE : Nat := 0x8
def DEV_RESET_CAUSE_CAUSE : Fld := ⟨DEV_RESET_CAUSE, 0, 4⟩
def DEV_RESET_CAUSE_RAIL : Fld := ⟨DEV_RESET_CAUSE, 8, 5⟩
/-- DEV_BOOT_US, R446 of spec/15_start_up.md. -/
def DEV_BOOT_US : Nat := 0xc
def DEV_BOOT_US_TIME : Fld := ⟨DEV_BOOT_US, 0, 32⟩
/-- DEV_RESET_REQ, R446 of spec/15_start_up.md. -/
def DEV_RESET_REQ : Nat := 0x10
def DEV_RESET_REQ_KIND : Fld := ⟨DEV_RESET_REQ, 0, 2⟩
def DEV_RESET_REQ_TARGET : Fld := ⟨DEV_RESET_REQ, 2, 6⟩
def DEV_RESET_REQ_KEY : Fld := ⟨DEV_RESET_REQ, 8, 8⟩
def DEV_RESET_REQ_TAG : Fld := ⟨DEV_RESET_REQ, 16, 16⟩
/-- DEV_RESET_STATUS, R446 of spec/15_start_up.md. -/
def DEV_RESET_STATUS : Nat := 0x14
def DEV_RESET_STATUS_REFUSED : Fld := ⟨DEV_RESET_STATUS, 0, 1⟩
def DEV_RESET_STATUS_LAST_STATUS : Fld := ⟨DEV_RESET_STATUS, 8, 8⟩
/-- DEV_WARMS, R446 of spec/15_start_up.md. -/
def DEV_WARMS : Nat := 0x20
def DEV_WARMS_COUNT : Fld := ⟨DEV_WARMS, 0, 32⟩
/-- DEV_GRPRESETS, R446 of spec/15_start_up.md. -/
def DEV_GRPRESETS : Nat := 0x24
def DEV_GRPRESETS_COUNT : Fld := ⟨DEV_GRPRESETS, 0, 32⟩
/-- DEV_SAT, R446 of spec/15_start_up.md. -/
def DEV_SAT : Nat := 0x2c
def DEV_SAT_WARMS : Fld := ⟨DEV_SAT, 0, 1⟩
def DEV_SAT_GRPRESETS : Fld := ⟨DEV_SAT, 1, 1⟩
/-- EVR_ROUTEs, R508 of spec/18_control_cores_and_debug.md. -/
def EVR_ROUTE (s : Nat) : Nat := 0x400 + 0x4 * s
def EVR_ROUTE_CORES (s : Nat) : Fld := ⟨(EVR_ROUTE s), 0, 6⟩
def EVR_ROUTE_VECTOR (s : Nat) : Fld := ⟨(EVR_ROUTE s), 6, 6⟩
def EVR_ROUTE_VEC_EN (s : Nat) : Fld := ⟨(EVR_ROUTE s), 12, 1⟩
def EVR_ROUTE_MIN_SEV (s : Nat) : Fld := ⟨(EVR_ROUTE s), 13, 2⟩
def EVR_ROUTE_PEND (s : Nat) : Fld := ⟨(EVR_ROUTE s), 15, 1⟩

/-! Block MNT. -/

/-- MNT_STATUS, R477 of spec/16_staying_up.md. -/
def MNT_STATUS : Nat := 0xb000
def MNT_STATUS_RUNNING : Fld := ⟨MNT_STATUS, 0, 6⟩
def MNT_STATUS_WAITING : Fld := ⟨MNT_STATUS, 8, 6⟩
def MNT_STATUS_SUSPENDED : Fld := ⟨MNT_STATUS, 16, 6⟩
def MNT_STATUS_UNPLACED : Fld := ⟨MNT_STATUS, 24, 1⟩
def MNT_STATUS_RESERVE_LOW : Fld := ⟨MNT_STATUS, 25, 1⟩
/-- MNT_QUEUEDS, R477 of spec/16_staying_up.md. -/
def MNT_QUEUEDS : Nat := 0xb020
def MNT_QUEUEDS_COUNT : Fld := ⟨MNT_QUEUEDS, 0, 32⟩
/-- MNT_PREEMPTS, R477 of spec/16_staying_up.md. -/
def MNT_PREEMPTS : Nat := 0xb024
def MNT_PREEMPTS_COUNT : Fld := ⟨MNT_PREEMPTS, 0, 32⟩
/-- MNT_TIMEOUTS, R477 of spec/16_staying_up.md. -/
def MNT_TIMEOUTS : Nat := 0xb028
def MNT_TIMEOUTS_COUNT : Fld := ⟨MNT_TIMEOUTS, 0, 32⟩
/-- MNT_RELOCS, R477 of spec/16_staying_up.md. -/
def MNT_RELOCS : Nat := 0xb02c
def MNT_RELOCS_COUNT : Fld := ⟨MNT_RELOCS, 0, 32⟩
/-- MNT_FAILOVERS, R477 of spec/16_staying_up.md. -/
def MNT_FAILOVERS : Nat := 0xb030
def MNT_FAILOVERS_COUNT : Fld := ⟨MNT_FAILOVERS, 0, 32⟩
/-- MNT_SAT, R477 of spec/16_staying_up.md. -/
def MNT_SAT : Nat := 0xb03c
def MNT_SAT_SAT : Fld := ⟨MNT_SAT, 0, 5⟩
/-- MNT_RESERVE1, R477 of spec/16_staying_up.md. -/
def MNT_RESERVE1 : Nat := 0xb040
def MNT_RESERVE1_COUNT : Fld := ⟨MNT_RESERVE1, 0, 32⟩
/-- MNT_RESERVE3, R477 of spec/16_staying_up.md. -/
def MNT_RESERVE3 : Nat := 0xb044
def MNT_RESERVE3_COUNT : Fld := ⟨MNT_RESERVE3, 0, 32⟩
/-- MNT_UNPLACED_LO, R477 of spec/16_staying_up.md. -/
def MNT_UNPLACED_LO : Nat := 0xb048
def MNT_UNPLACED_LO_GROUPS : Fld := ⟨MNT_UNPLACED_LO, 0, 32⟩
/-- MNT_UNPLACED_HI, R477 of spec/16_staying_up.md. -/
def MNT_UNPLACED_HI : Nat := 0xb04c
def MNT_UNPLACED_HI_GROUPS : Fld := ⟨MNT_UNPLACED_HI, 0, 32⟩
/-- MNT_STEWARD, R477 of spec/16_staying_up.md. -/
def MNT_STEWARD : Nat := 0xb050
def MNT_STEWARD_ACTIVE : Fld := ⟨MNT_STEWARD, 0, 1⟩
def MNT_STEWARD_STANDBY : Fld := ⟨MNT_STEWARD, 1, 2⟩
def MNT_STEWARD_FW_COPY : Fld := ⟨MNT_STEWARD, 3, 1⟩
def MNT_STEWARD_SVC_COPY : Fld := ⟨MNT_STEWARD, 4, 1⟩
def MNT_STEWARD_UPDATING : Fld := ⟨MNT_STEWARD, 5, 1⟩
/-- MNT_FW_VER, R477 of spec/16_staying_up.md. -/
def MNT_FW_VER : Nat := 0xb054
def MNT_FW_VER_VERSION : Fld := ⟨MNT_FW_VER, 0, 32⟩
/-- MNT_SVC_VER, R477 of spec/16_staying_up.md. -/
def MNT_SVC_VER : Nat := 0xb058
def MNT_SVC_VER_VERSION : Fld := ⟨MNT_SVC_VER, 0, 32⟩
/-- MNT_MAP_SEL, R477 of spec/16_staying_up.md. -/
def MNT_MAP_SEL : Nat := 0xb060
def MNT_MAP_SEL_MAT : Fld := ⟨MNT_MAP_SEL, 0, 10⟩
/-- MNT_MAP, R477 of spec/16_staying_up.md. -/
def MNT_MAP : Nat := 0xb064
def MNT_MAP_PHYS : Fld := ⟨MNT_MAP, 0, 10⟩
def MNT_MAP_MOVED : Fld := ⟨MNT_MAP, 10, 1⟩
def MNT_MAP_STOPPED : Fld := ⟨MNT_MAP, 11, 1⟩
def MNT_MAP_STATE_LOST : Fld := ⟨MNT_MAP, 12, 1⟩
/-- MNT_BANK_SEL, R477 of spec/16_staying_up.md. -/
def MNT_BANK_SEL : Nat := 0xb068
def MNT_BANK_SEL_BANK : Fld := ⟨MNT_BANK_SEL, 0, 11⟩
/-- MNT_BANK, R477 of spec/16_staying_up.md. -/
def MNT_BANK : Nat := 0xb06c
def MNT_BANK_PHYS : Fld := ⟨MNT_BANK, 0, 11⟩
def MNT_BANK_MOVED : Fld := ⟨MNT_BANK, 11, 1⟩
/-- MNT_SLOTn, R477 of spec/16_staying_up.md. -/
def MNT_SLOT (n : Nat) : Nat := 0xb100 + 0x4 * n
def MNT_SLOT_ACTIVITY (n : Nat) : Fld := ⟨(MNT_SLOT n), 0, 4⟩
def MNT_SLOT_STATE (n : Nat) : Fld := ⟨(MNT_SLOT n), 4, 3⟩
def MNT_SLOT_REQUESTER (n : Nat) : Fld := ⟨(MNT_SLOT n), 7, 3⟩
def MNT_SLOT_RESOURCE (n : Nat) : Fld := ⟨(MNT_SLOT n), 16, 16⟩
/-- MNT_LIMITk, R477 of spec/16_staying_up.md. -/
def MNT_LIMIT (k : Nat) : Nat := 0xb200 + 0x4 * k
def MNT_LIMIT_LIMIT_MS (k : Nat) : Fld := ⟨(MNT_LIMIT k), 0, 16⟩

/-! Block BIST. -/

/-- BIST_STATUS, R495 of spec/17_traverse_and_field_book.md. -/
def BIST_STATUS : Nat := 0x9000
def BIST_STATUS_RUNNING : Fld := ⟨BIST_STATUS, 0, 5⟩
def BIST_STATUS_TRAVERSE : Fld := ⟨BIST_STATUS, 5, 1⟩
def BIST_STATUS_MISSING : Fld := ⟨BIST_STATUS, 6, 1⟩
def BIST_STATUS_DOWN : Fld := ⟨BIST_STATUS, 7, 1⟩
def BIST_STATUS_SUSPECTS : Fld := ⟨BIST_STATUS, 8, 12⟩
/-- BIST_SEL, R495 of spec/17_traverse_and_field_book.md. -/
def BIST_SEL : Nat := 0x9010
def BIST_SEL_KIND : Fld := ⟨BIST_SEL, 0, 4⟩
def BIST_SEL_INSTANCE : Fld := ⟨BIST_SEL, 4, 12⟩
/-- BIST_UNIT, R495 of spec/17_traverse_and_field_book.md. -/
def BIST_UNIT : Nat := 0x9014
def BIST_UNIT_OUTCOME : Fld := ⟨BIST_UNIT, 0, 3⟩
def BIST_UNIT_SUSPECT : Fld := ⟨BIST_UNIT, 3, 1⟩
def BIST_UNIT_CAL_KEPT : Fld := ⟨BIST_UNIT, 4, 1⟩
def BIST_UNIT_DURATION_US : Fld := ⟨BIST_UNIT, 16, 16⟩
/-- BIST_SIG_LO, R495 of spec/17_traverse_and_field_book.md. -/
def BIST_SIG_LO : Nat := 0x9018
def BIST_SIG_LO_VALUE : Fld := ⟨BIST_SIG_LO, 0, 32⟩
/-- BIST_SIG_HI, R495 of spec/17_traverse_and_field_book.md. -/
def BIST_SIG_HI : Nat := 0x901c
def BIST_SIG_HI_VALUE : Fld := ⟨BIST_SIG_HI, 0, 32⟩
/-- BIST_BENCH_LO, R495 of spec/17_traverse_and_field_book.md. -/
def BIST_BENCH_LO : Nat := 0x9020
def BIST_BENCH_LO_VALUE : Fld := ⟨BIST_BENCH_LO, 0, 32⟩
/-- BIST_BENCH_HI, R495 of spec/17_traverse_and_field_book.md. -/
def BIST_BENCH_HI : Nat := 0x9024
def BIST_BENCH_HI_VALUE : Fld := ⟨BIST_BENCH_HI, 0, 32⟩
/-- BIST_FAILS, R495 of spec/17_traverse_and_field_book.md. -/
def BIST_FAILS : Nat := 0x9030
def BIST_FAILS_COUNT : Fld := ⟨BIST_FAILS, 0, 32⟩
/-- BIST_SAT, R495 of spec/17_traverse_and_field_book.md. -/
def BIST_SAT : Nat := 0x903c
def BIST_SAT_FAILS : Fld := ⟨BIST_SAT, 0, 1⟩

/-! Block FBK. -/

/-- FBK_STATUS, R496 of spec/17_traverse_and_field_book.md. -/
def FBK_STATUS : Nat := 0x8000
def FBK_STATUS_COMMITTING : Fld := ⟨FBK_STATUS, 0, 1⟩
def FBK_STATUS_WORN : Fld := ⟨FBK_STATUS, 1, 1⟩
def FBK_STATUS_LAST_PAGE : Fld := ⟨FBK_STATUS, 2, 3⟩
def FBK_STATUS_VALID : Fld := ⟨FBK_STATUS, 8, 8⟩
/-- FBK_CTL, R496 of spec/17_traverse_and_field_book.md. -/
def FBK_CTL : Nat := 0x8004
def FBK_CTL_MIN_SEV : Fld := ⟨FBK_CTL, 0, 2⟩
/-- FBK_COMMITS, R496 of spec/17_traverse_and_field_book.md. -/
def FBK_COMMITS : Nat := 0x8008
def FBK_COMMITS_COUNT : Fld := ⟨FBK_COMMITS, 0, 32⟩
/-- FBK_HEAD, R496 of spec/17_traverse_and_field_book.md. -/
def FBK_HEAD : Nat := 0x800c
def FBK_HEAD_NEXT : Fld := ⟨FBK_HEAD, 0, 12⟩
def FBK_HEAD_COUNT : Fld := ⟨FBK_HEAD, 16, 13⟩
/-- FBK_RD_SEL, R496 of spec/17_traverse_and_field_book.md. -/
def FBK_RD_SEL : Nat := 0x8010
def FBK_RD_SEL_SOURCE : Fld := ⟨FBK_RD_SEL, 0, 4⟩
def FBK_RD_SEL_INDEX : Fld := ⟨FBK_RD_SEL, 16, 12⟩
/-- FBK_RD_DATAk, R496 of spec/17_traverse_and_field_book.md. -/
def FBK_RD_DATA (k : Nat) : Nat := 0x8020 + 0x4 * k
def FBK_RD_DATA_DATA (k : Nat) : Fld := ⟨(FBK_RD_DATA k), 0, 32⟩
/-- FBK_PAGEn, R496 of spec/17_traverse_and_field_book.md. -/
def FBK_PAGE (n : Nat) : Nat := 0x8080 + 0x4 * n
def FBK_PAGE_COMMIT (n : Nat) : Fld := ⟨(FBK_PAGE n), 0, 32⟩

/-! Block DBG. -/

/-- DBG_STATUS, R527 of spec/18_control_cores_and_debug.md. -/
def DBG_STATUS : Nat := 0x3000
def DBG_STATUS_LEVEL : Fld := ⟨DBG_STATUS, 0, 2⟩
def DBG_STATUS_VENDOR : Fld := ⟨DBG_STATUS, 2, 1⟩
def DBG_STATUS_HALTED : Fld := ⟨DBG_STATUS, 8, 8⟩
/-- DBG_AUTH, R527 of spec/18_control_cores_and_debug.md. -/
def DBG_AUTH : Nat := 0x3004
def DBG_AUTH_OP : Fld := ⟨DBG_AUTH, 0, 3⟩
def DBG_AUTH_LEVEL : Fld := ⟨DBG_AUTH, 3, 2⟩
def DBG_AUTH_LEN : Fld := ⟨DBG_AUTH, 5, 6⟩
/-- DBG_AUTH_STATUS, R527 of spec/18_control_cores_and_debug.md. -/
def DBG_AUTH_STATUS : Nat := 0x3008
def DBG_AUTH_STATUS_STATUS : Fld := ⟨DBG_AUTH_STATUS, 0, 8⟩
def DBG_AUTH_STATUS_BUSY : Fld := ⟨DBG_AUTH_STATUS, 8, 1⟩
/-- DBG_CTL, R527 of spec/18_control_cores_and_debug.md. -/
def DBG_CTL : Nat := 0x300c
def DBG_CTL_IDLE_S : Fld := ⟨DBG_CTL, 0, 16⟩
/-- DBG_ACCESS, R527 of spec/18_control_cores_and_debug.md. -/
def DBG_ACCESS : Nat := 0x3010
def DBG_ACCESS_SIDE : Fld := ⟨DBG_ACCESS, 0, 1⟩
def DBG_ACCESS_CORE : Fld := ⟨DBG_ACCESS, 1, 3⟩
def DBG_ACCESS_SIZE : Fld := ⟨DBG_ACCESS, 4, 2⟩
def DBG_ACCESS_OP : Fld := ⟨DBG_ACCESS, 6, 2⟩
def DBG_ACCESS_STATUS : Fld := ⟨DBG_ACCESS, 8, 8⟩
/-- DBG_ADDR, R527 of spec/18_control_cores_and_debug.md. -/
def DBG_ADDR : Nat := 0x3014
def DBG_ADDR_VALUE : Fld := ⟨DBG_ADDR, 0, 32⟩
/-- DBG_DATA_LO, R527 of spec/18_control_cores_and_debug.md. -/
def DBG_DATA_LO : Nat := 0x3018
def DBG_DATA_LO_VALUE : Fld := ⟨DBG_DATA_LO, 0, 32⟩
/-- DBG_DATA_HI, R527 of spec/18_control_cores_and_debug.md. -/
def DBG_DATA_HI : Nat := 0x301c
def DBG_DATA_HI_VALUE : Fld := ⟨DBG_DATA_HI, 0, 32⟩
/-- DBG_REG_SEL, R527 of spec/18_control_cores_and_debug.md. -/
def DBG_REG_SEL : Nat := 0x3020
def DBG_REG_SEL_CORE : Fld := ⟨DBG_REG_SEL, 0, 3⟩
def DBG_REG_SEL_REG : Fld := ⟨DBG_REG_SEL, 16, 12⟩
/-- DBG_REG_DATA_LO, R527 of spec/18_control_cores_and_debug.md. -/
def DBG_REG_DATA_LO : Nat := 0x3024
def DBG_REG_DATA_LO_DATA : Fld := ⟨DBG_REG_DATA_LO, 0, 32⟩
/-- DBG_REG_DATA_HI, R527 of spec/18_control_cores_and_debug.md. -/
def DBG_REG_DATA_HI : Nat := 0x3028
def DBG_REG_DATA_HI_DATA : Fld := ⟨DBG_REG_DATA_HI, 0, 32⟩
/-- DBG_CORE_CTLn, R527 of spec/18_control_cores_and_debug.md. -/
def DBG_CORE_CTL (n : Nat) : Nat := 0x3040 + 0x4 * n
def DBG_CORE_CTL_HALT (n : Nat) : Fld := ⟨(DBG_CORE_CTL n), 0, 1⟩
def DBG_CORE_CTL_RESUME (n : Nat) : Fld := ⟨(DBG_CORE_CTL n), 1, 1⟩
def DBG_CORE_CTL_STEP (n : Nat) : Fld := ⟨(DBG_CORE_CTL n), 2, 1⟩
def DBG_CORE_CTL_FREEZE (n : Nat) : Fld := ⟨(DBG_CORE_CTL n), 3, 1⟩
/-- DBG_CORE_STATUSn, R527 of spec/18_control_cores_and_debug.md. -/
def DBG_CORE_STATUS (n : Nat) : Nat := 0x3060 + 0x4 * n
def DBG_CORE_STATUS_STATE (n : Nat) : Fld := ⟨(DBG_CORE_STATUS n), 0, 2⟩
def DBG_CORE_STATUS_DEFERRED (n : Nat) : Fld := ⟨(DBG_CORE_STATUS n), 2, 1⟩
def DBG_CORE_STATUS_LOCK_BROKEN (n : Nat) : Fld := ⟨(DBG_CORE_STATUS n), 3, 1⟩
def DBG_CORE_STATUS_REFUSED (n : Nat) : Fld := ⟨(DBG_CORE_STATUS n), 4, 1⟩
def DBG_CORE_STATUS_CAUSE (n : Nat) : Fld := ⟨(DBG_CORE_STATUS n), 8, 4⟩
/-- DBG_CMP_CTL, R527 of spec/18_control_cores_and_debug.md. -/
def DBG_CMP_CTL (n c : Nat) : Nat := 0x3200 + 0x40 * n + 0x8 * c
def DBG_CMP_CTL_EN (n c : Nat) : Fld := ⟨(DBG_CMP_CTL n c), 0, 1⟩
def DBG_CMP_CTL_KIND (n c : Nat) : Fld := ⟨(DBG_CMP_CTL n c), 1, 2⟩
def DBG_CMP_CTL_MASK_BITS (n c : Nat) : Fld := ⟨(DBG_CMP_CTL n c), 3, 5⟩
def DBG_CMP_CTL_ACTION (n c : Nat) : Fld := ⟨(DBG_CMP_CTL n c), 8, 2⟩
def DBG_CMP_CTL_HIT (n c : Nat) : Fld := ⟨(DBG_CMP_CTL n c), 10, 1⟩
def DBG_CMP_CTL_HITS (n c : Nat) : Fld := ⟨(DBG_CMP_CTL n c), 16, 16⟩
/-- DBG_CMP_ADDR, R527 of spec/18_control_cores_and_debug.md. -/
def DBG_CMP_ADDR (n c : Nat) : Nat := 0x3204 + 0x40 * n + 0x8 * c
def DBG_CMP_ADDR_ADDR (n c : Nat) : Fld := ⟨(DBG_CMP_ADDR n c), 0, 32⟩
/-- DBG_CHALLENGEk, R527 of spec/18_control_cores_and_debug.md. -/
def DBG_CHALLENGE (k : Nat) : Nat := 0x3400 + 0x4 * k
def DBG_CHALLENGE_CHALLENGE (k : Nat) : Fld := ⟨(DBG_CHALLENGE k), 0, 32⟩
/-- DBG_AUTH_DATA, R527 of spec/18_control_cores_and_debug.md. -/
def DBG_AUTH_DATA (k : Nat) : Nat := 0x3800 + 0x4 * k
def DBG_AUTH_DATA_DATA (k : Nat) : Fld := ⟨(DBG_AUTH_DATA k), 0, 32⟩

/-- Register classes of block LSUP. -/
def classesLSUP : List RegClass := [
  ⟨0x300000, [⟨0x1000, 5⟩], 0xb100, 0x0, 0x0, 0x0, 0x0, 0x0, 0x0, none⟩,
  ⟨0x300004, [⟨0x1000, 5⟩], 0x1, 0x0, 0x0, 0x0, 0x0, 0x0, 0x0, none⟩,
  ⟨0x300008, [⟨0x1000, 5⟩], 0x0, 0x0, 0x0, 0x0, 0x0, 0x0, 0x0, none⟩,
  ⟨0x300010, [⟨0x1000, 5⟩], 0x0, 0xffffffff, 0x0, 0x0, 0x0, 0x0, 0x0, some (0x30001c, 0, [(4096, 0)])⟩,
  ⟨0x300014, [⟨0x1000, 5⟩], 0x0, 0xffffffff, 0x0, 0x0, 0x0, 0x0, 0x0, some (0x30001c, 1, [(4096, 0)])⟩,
  ⟨0x30001c, [⟨0x1000, 5⟩], 0x0, 0x0, 0x0, 0x0, 0x0, 0x0, 0x0, none⟩,
  ⟨0x300040, [⟨0x1000, 5⟩, ⟨0x4, 8⟩], 0x0, 0x0, 0x0, 0x0, 0x0, 0x0, 0x0, none⟩]

/-- Register classes of block COL. -/
def classesCOL : List RegClass := [
  ⟨0x200800, [⟨0x1000, 256⟩, ⟨0x100, 2⟩], 0x4, 0x0, 0x0, 0x0, 0x0, 0x0, 0x0, none⟩,
  ⟨0x200804, [⟨0x1000, 256⟩, ⟨0x100, 2⟩], 0x0, 0x0, 0x0, 0x0, 0x0, 0x0, 0x0, none⟩,
  ⟨0x200808, [⟨0x1000, 256⟩, ⟨0x100, 2⟩], 0x0, 0x0, 0x0, 0x0, 0x0, 0x0, 0x0, none⟩,
  ⟨0x20080c, [⟨0x1000, 256⟩, ⟨0x100, 2⟩], 0x0, 0x0, 0x0, 0x0, 0x0, 0x0, 0x0, none⟩,
  ⟨0x200810, [⟨0x1000, 256⟩, ⟨0x100, 2⟩], 0xa, 0xffff, 0x0, 0x0, 0x0, 0x0, 0x0, none⟩,
  ⟨0x200820, [⟨0x1000, 256⟩, ⟨0x100, 2⟩], 0x0, 0xffffffff, 0x0, 0x0, 0x0, 0x0, 0x0, some (0x20083c, 0, [(4096, 0), (256, 0)])⟩,
  ⟨0x200824, [⟨0x1000, 256⟩, ⟨0x100, 2⟩], 0x0, 0xffffffff, 0x0, 0x0, 0x0, 0x0, 0x0, some (0x20083c, 1, [(4096, 0), (256, 0)])⟩,
  ⟨0x200828, [⟨0x1000, 256⟩, ⟨0x100, 2⟩], 0x0, 0xffffffff, 0x0, 0x0, 0x0, 0x0, 0x0, some (0x20083c, 2, [(4096, 0), (256, 0)])⟩,
  ⟨0x20082c, [⟨0x1000, 256⟩, ⟨0x100, 2⟩], 0x0, 0xffffffff, 0x0, 0x0, 0x0, 0x0, 0x0, some (0x20083c, 3, [(4096, 0), (256, 0)])⟩,
  ⟨0x20083c, [⟨0x1000, 256⟩, ⟨0x100, 2⟩], 0x0, 0x0, 0x0, 0x0, 0x0, 0x0, 0x0, none⟩,
  ⟨0x200880, [⟨0x1000, 256⟩, ⟨0x100, 2⟩, ⟨0x4, 32⟩], 0x0, 0x0, 0x0, 0x0, 0x0, 0x0, 0x0, none⟩,
  ⟨0x200400, [⟨0x1000, 256⟩], 0x0, 0x0, 0x0, 0x0, 0x0, 0x0, 0x0, none⟩,
  ⟨0x200404, [⟨0x1000, 256⟩], 0x103e8, 0x1ffff, 0x0, 0x0, 0x0, 0x0, 0x0, none⟩,
  ⟨0x200408, [⟨0x1000, 256⟩], 0x0, 0xff, 0x0, 0x0, 0x0, 0x0, 0x0, none⟩,
  ⟨0x20040c, [⟨0x1000, 256⟩], 0x3fff0, 0x0, 0x0, 0x0, 0x0, 0x0, 0x0, none⟩,
  ⟨0x200410, [⟨0x1000, 256⟩], 0x0, 0xffffffff, 0x0, 0x0, 0x0, 0x0, 0x0, some (0x20047c, 0, [(4096, 0)])⟩,
  ⟨0x200414, [⟨0x1000, 256⟩], 0x0, 0xffffffff, 0x0, 0x0, 0x0, 0x0, 0x0, some (0x20047c, 1, [(4096, 0)])⟩,
  ⟨0x200420, [⟨0x1000, 256⟩], 0x28, 0xff, 0x0, 0x0, 0x0, 0x0, 0x0, none⟩,
  ⟨0x200424, [⟨0x1000, 256⟩], 0x0, 0xff, 0x0, 0x0, 0x0, 0x0, 0x0, none⟩,
  ⟨0x200428, [⟨0x1000, 256⟩], 0x0, 0x0, 0x0, 0x0, 0x0, 0x0, 0x0, none⟩,
  ⟨0x20042c, [⟨0x1000, 256⟩], 0x0, 0x0, 0x0, 0x0, 0x0, 0x0, 0x0, none⟩,
  ⟨0x200440, [⟨0x1000, 256⟩, ⟨0x4, 8⟩], 0x0, 0x0, 0x0, 0x0, 0x0, 0x0, 0x0, none⟩,
  ⟨0x200460, [⟨0x1000, 256⟩], 0x0, 0xffffffff, 0x0, 0x0, 0x0, 0x0, 0x0, some (0x20047c, 2, [(4096, 0)])⟩,
  ⟨0x200464, [⟨0x1000, 256⟩], 0x0, 0xffffffff, 0x0, 0x0, 0x0, 0x0, 0x0, some (0x20047c, 3, [(4096, 0)])⟩,
  ⟨0x200468, [⟨0x1000, 256⟩], 0x0, 0xffffffff, 0x0, 0x0, 0x0, 0x0, 0x0, some (0x20047c, 4, [(4096, 0)])⟩,
  ⟨0x20046c, [⟨0x1000, 256⟩], 0x0, 0xffffffff, 0x0, 0x0, 0x0, 0x0, 0x0, some (0x20047c, 5, [(4096, 0)])⟩,
  ⟨0x200470, [⟨0x1000, 256⟩], 0x0, 0xffffffff, 0x0, 0x0, 0x0, 0x0, 0x0, some (0x20047c, 6, [(4096, 0)])⟩,
  ⟨0x20047c, [⟨0x1000, 256⟩], 0x0, 0x0, 0x0, 0x0, 0x0, 0x0, 0x0, none⟩,
  ⟨0x200500, [⟨0x1000, 256⟩, ⟨0x20, 9⟩], 0x3c, 0x0, 0x0, 0x0, 0x0, 0x0, 0x0, none⟩,
  ⟨0x200504, [⟨0x1000, 256⟩, ⟨0x20, 9⟩], 0x0, 0xffffffff, 0x0, 0x0, 0x0, 0x0, 0x0, some (0x200644, 0, [(4096, 0), (0, 2)])⟩,
  ⟨0x200508, [⟨0x1000, 256⟩, ⟨0x20, 9⟩], 0x0, 0xffffffff, 0x0, 0x0, 0x0, 0x0, 0x0, some (0x200644, 1, [(4096, 0), (0, 2)])⟩,
  ⟨0x20050c, [⟨0x1000, 256⟩, ⟨0x20, 9⟩], 0x0, 0x0, 0x0, 0x0, 0x0, 0x0, 0x0, none⟩,
  ⟨0x200510, [⟨0x1000, 256⟩, ⟨0x20, 9⟩], 0x10, 0xff, 0x0, 0x0, 0x0, 0x0, 0x0, none⟩,
  ⟨0x200640, [⟨0x1000, 256⟩], 0x10a, 0x1ff, 0x0, 0x0, 0x0, 0x0, 0x0, none⟩,
  ⟨0x200644, [⟨0x1000, 256⟩], 0x0, 0x0, 0x0, 0x0, 0x0, 0x0, 0x0, none⟩,
  ⟨0x200000, [⟨0x1000, 256⟩, ⟨0x80, 2⟩], 0x0, 0x0, 0x0, 0x0, 0x0, 0x0, 0x0, none⟩,
  ⟨0x200010, [⟨0x1000, 256⟩, ⟨0x80, 2⟩, ⟨0x4, 4⟩], 0x0, 0x0, 0x0, 0x0, 0x0, 0x0, 0x0, none⟩,
  ⟨0x200020, [⟨0x1000, 256⟩, ⟨0x80, 2⟩], 0x0, 0x0, 0x0, 0x0, 0x0, 0x0, 0x0, none⟩,
  ⟨0x200024, [⟨0x1000, 256⟩, ⟨0x80, 2⟩], 0x0, 0x0, 0x0, 0x0, 0x0, 0x0, 0x0, none⟩,
  ⟨0x200028, [⟨0x1000, 256⟩, ⟨0x80, 2⟩], 0x0, 0x0, 0x0, 0x0, 0x0, 0x0, 0x0, none⟩,
  ⟨0x200030, [⟨0x1000, 256⟩, ⟨0x80, 2⟩], 0x0, 0xffffffff, 0x0, 0x0, 0x0, 0x0, 0x0, some (0x20003c, 0, [(4096, 0), (128, 0)])⟩,
  ⟨0x200034, [⟨0x1000, 256⟩, ⟨0x80, 2⟩], 0x0, 0xffffffff, 0x0, 0x0, 0x0, 0x0, 0x0, some (0x20003c, 1, [(4096, 0), (128, 0)])⟩,
  ⟨0x200038, [⟨0x1000, 256⟩, ⟨0x80, 2⟩], 0x0, 0xffffffff, 0x0, 0x0, 0x0, 0x0, 0x0, some (0x20003c, 2, [(4096, 0), (128, 0)])⟩,
  ⟨0x20003c, [⟨0x1000, 256⟩, ⟨0x80, 2⟩], 0x0, 0x0, 0x0, 0x0, 0x0, 0x0, 0x0, none⟩,
  ⟨0x200100, [⟨0x1000, 256⟩], 0x7d0, 0x1ffff, 0x0, 0x0, 0x0, 0x0, 0x0, none⟩,
  ⟨0x200104, [⟨0x1000, 256⟩], 0x0, 0x7f, 0x0, 0x0, 0x0, 0x0, 0x0, none⟩,
  ⟨0x200108, [⟨0x1000, 256⟩], 0x0, 0x0, 0x0, 0x0, 0x0, 0x0, 0x0, none⟩]

/-- Register classes of block CFG. -/
def classesCFG : List RegClass := [
  ⟨0x7e00, [⟨0x40, 4⟩], 0x0, 0x0, 0x0, 0x0, 0x0, 0x0, 0x0, none⟩,
  ⟨0x7e04, [⟨0x40, 4⟩], 0x0, 0x0, 0x0, 0x0, 0x0, 0x0, 0x0, none⟩,
  ⟨0x7e08, [⟨0x40, 4⟩], 0x0, 0x0, 0x0, 0x0, 0x0, 0x0, 0x0, none⟩,
  ⟨0x7000, [], 0x100, 0x0, 0x0, 0x0, 0x0, 0x0, 0x1f, none⟩,
  ⟨0x7004, [], 0x18, 0x0, 0x0, 0x0, 0x0, 0x0, 0x7, none⟩,
  ⟨0x7008, [], 0x0, 0x0, 0x0, 0x0, 0x0, 0x0, 0x0, none⟩,
  ⟨0x700c, [], 0x0, 0x0, 0x0, 0x0, 0x0, 0x0, 0x0, none⟩,
  ⟨0x7010, [], 0x0, 0x0, 0x0, 0x0, 0x0, 0x0, 0x0, none⟩,
  ⟨0x7020, [⟨0x10, 3⟩], 0x0, 0x0, 0x0, 0x0, 0x0, 0x0, 0xffff0001, none⟩,
  ⟨0x7024, [⟨0x10, 3⟩], 0x0, 0x0, 0x0, 0x0, 0x0, 0x0, 0xffffffff, none⟩,
  ⟨0x7028, [⟨0x10, 3⟩], 0x0, 0x0, 0x0, 0x0, 0x0, 0x0, 0xffffffff, none⟩,
  ⟨0x7050, [], 0x0, 0xffffffff, 0x0, 0x0, 0x0, 0x0, 0x0, some (0x705c, 0, [])⟩,
  ⟨0x7054, [], 0x0, 0xffffffff, 0x0, 0x0, 0x0, 0x0, 0x0, some (0x705c, 1, [])⟩,
  ⟨0x705c, [], 0x0, 0x0, 0x0, 0x0, 0x0, 0x0, 0x0, none⟩]

/-- Register classes of block PACE. -/
def classesPACE : List RegClass := [
  ⟨0x30000, [⟨0x100, 64⟩], 0xf00, 0x0, 0x0, 0x0, 0x0, 0x0, 0x0, none⟩,
  ⟨0x30004, [⟨0x100, 64⟩], 0x0, 0x0, 0x0, 0x0, 0x0, 0x0, 0x0, none⟩,
  ⟨0x30008, [⟨0x100, 64⟩], 0x0, 0x0, 0x0, 0x0, 0x0, 0x0, 0x0, none⟩,
  ⟨0x3000c, [⟨0x100, 64⟩], 0x64, 0x0, 0x0, 0x0, 0x0, 0x0, 0x0, none⟩,
  ⟨0x30010, [⟨0x100, 64⟩], 0x0, 0x0, 0x0, 0x0, 0x0, 0x0, 0x0, none⟩,
  ⟨0x30014, [⟨0x100, 64⟩], 0x0, 0x0, 0x0, 0x0, 0x0, 0x0, 0x0, none⟩,
  ⟨0x30018, [⟨0x100, 64⟩], 0x0, 0x0, 0x0, 0x0, 0x0, 0x0, 0x0, none⟩,
  ⟨0x3001c, [⟨0x100, 64⟩], 0x0, 0x0, 0x0, 0x0, 0x0, 0x0, 0x0, none⟩,
  ⟨0x30020, [⟨0x100, 64⟩], 0x0, 0x0, 0x0, 0x0, 0x0, 0x0, 0x0, none⟩,
  ⟨0x30024, [⟨0x100, 64⟩], 0x0, 0xffffffff, 0x0, 0x0, 0x0, 0x0, 0x0, some (0x3003c, 0, [(256, 0)])⟩,
  ⟨0x30028, [⟨0x100, 64⟩], 0x0, 0x0, 0x0, 0x0, 0x0, 0x0, 0x0, none⟩,
  ⟨0x3002c, [⟨0x100, 64⟩], 0x0, 0x0, 0x0, 0x0, 0x0, 0x0, 0x0, none⟩,
  ⟨0x30030, [⟨0x100, 64⟩], 0x3fff, 0x0, 0x0, 0x0, 0x3fff, 0x0, 0x0, none⟩,
  ⟨0x30034, [⟨0x100, 64⟩], 0x0, 0x0, 0x0, 0x0, 0x0, 0x0, 0x0, none⟩,
  ⟨0x30038, [⟨0x100, 64⟩], 0x0, 0xffffffff, 0x0, 0x0, 0x0, 0x0, 0x0, some (0x3003c, 1, [(256, 0)])⟩,
  ⟨0x3003c, [⟨0x100, 64⟩], 0x0, 0x0, 0x0, 0x0, 0x0, 0x0, 0x0, none⟩,
  ⟨0x30040, [⟨0x100, 64⟩], 0x0, 0xfffffff, 0x0, 0x0, 0x0, 0x0, 0x0, none⟩,
  ⟨0x30044, [⟨0x100, 64⟩], 0x0, 0x1fffff, 0x0, 0x0, 0x0, 0x0, 0x0, none⟩,
  ⟨0x30048, [⟨0x100, 64⟩], 0x0, 0x0, 0x0, 0x0, 0x0, 0x0, 0x0, none⟩,
  ⟨0x30080, [⟨0x100, 64⟩, ⟨0x8, 16⟩], 0x0, 0x0, 0x0, 0x0, 0x0, 0x0, 0x0, none⟩,
  ⟨0x30084, [⟨0x100, 64⟩, ⟨0x8, 16⟩], 0x0, 0x0, 0x0, 0x0, 0x0, 0x0, 0x0, none⟩]

/-- Register classes of block PMU. -/
def classesPMU : List RegClass := [
  ⟨0x4800, [], 0x50a01, 0x1fff01, 0x0, 0x0, 0x0, 0x0, 0x0, none⟩,
  ⟨0x4804, [], 0x0, 0x0, 0x0, 0x0, 0x0, 0x0, 0x0, none⟩,
  ⟨0x4808, [], 0x226, 0x0, 0x0, 0x0, 0x0, 0x0, 0x0, none⟩,
  ⟨0x480c, [], 0x0, 0x0, 0x0, 0x0, 0x0, 0x0, 0x0, none⟩,
  ⟨0x4810, [], 0x0, 0xffffffff, 0x0, 0x0, 0x0, 0x0, 0x0, some (0x481c, 0, [])⟩,
  ⟨0x4814, [], 0x0, 0xffffffff, 0x0, 0x0, 0x0, 0x0, 0x0, some (0x481c, 1, [])⟩,
  ⟨0x481c, [], 0x0, 0x0, 0x0, 0x0, 0x0, 0x0, 0x0, none⟩,
  ⟨0x4000, [], 0x0, 0x0, 0x0, 0x0, 0x0, 0x0, 0x0, none⟩,
  ⟨0x4004, [], 0x0, 0x0, 0x0, 0x0, 0x0, 0x0, 0x0, none⟩,
  ⟨0x4010, [], 0x0, 0x1f, 0x0, 0x0, 0x0, 0x0, 0x0, none⟩,
  ⟨0x4014, [], 0x0, 0x0, 0x0, 0x0, 0x0, 0x0, 0x0, none⟩,
  ⟨0x4018, [], 0x0, 0x0, 0x0, 0x0, 0x0, 0x0, 0x0, none⟩,
  ⟨0x401c, [], 0x0, 0x0, 0x0, 0x0, 0x0, 0x0, 0x0, none⟩,
  ⟨0x4020, [], 0xffff, 0x0, 0x0, 0x0, 0xffff, 0x0, 0x0, none⟩,
  ⟨0x4040, [⟨0x4, 8⟩], 0x0, 0xffffffff, 0x0, 0x0, 0x0, 0x0, 0x0, some (0x407c, 0, [(0, 1)])⟩,
  ⟨0x4060, [], 0x0, 0xffffffff, 0x0, 0x0, 0x0, 0x0, 0x0, some (0x407c, 8, [])⟩,
  ⟨0x407c, [], 0x0, 0x0, 0x0, 0x0, 0x0, 0x0, 0x0, none⟩,
  ⟨0x4080, [], 0x0, 0x0, 0x0, 0x0, 0xffff0000, 0x0, 0x0, none⟩,
  ⟨0x4090, [], 0x3e8, 0xffff, 0x0, 0x0, 0x0, 0x0, 0x0, none⟩,
  ⟨0x4094, [], 0x2d, 0xff, 0x0, 0x0, 0x0, 0x0, 0x0, none⟩,
  ⟨0x40a0, [], 0x0, 0x0, 0x0, 0x0, 0x0, 0x0, 0x0, none⟩]

/-- Register classes of block CLK. -/
def classesCLK : List RegClass := [
  ⟨0x6800, [], 0x0, 0x0, 0x0, 0x0, 0x0, 0x0, 0x0, none⟩,
  ⟨0x6804, [], 0x0, 0x0, 0x0, 0x0, 0x0, 0x0, 0x0, none⟩,
  ⟨0x6808, [], 0x3e80a01, 0xffffff01, 0x0, 0x0, 0x0, 0x0, 0x0, none⟩,
  ⟨0x680c, [], 0x0, 0x0, 0xc, 0x0, 0x0, 0x0, 0x0, none⟩,
  ⟨0x6810, [], 0x0, 0x0, 0x0, 0x0, 0x0, 0x0, 0x0, none⟩,
  ⟨0x6814, [], 0x0, 0x0, 0x0, 0x0, 0x0, 0xffffffff, 0x0, none⟩,
  ⟨0x6000, [], 0x60, 0x0, 0x0, 0x0, 0x0, 0x0, 0x0, none⟩,
  ⟨0x6004, [], 0x0, 0x3fff, 0x0, 0x0, 0x0, 0x0, 0x0, none⟩,
  ⟨0x6040, [], 0x100042, 0x3f01ff, 0x0, 0x0, 0x0, 0x0, 0x0, none⟩,
  ⟨0x6044, [], 0x4020, 0xffff, 0x0, 0x0, 0x0, 0x0, 0x0, none⟩,
  ⟨0x6050, [⟨0x4, 4⟩], 0x0, 0x3ff003f, 0x0, 0x0, 0x0, 0x0, 0x0, none⟩,
  ⟨0x6060, [], 0x3, 0x3, 0x8, 0x0, 0x0, 0x0, 0x0, none⟩,
  ⟨0x6080, [], 0x0, 0xfffff, 0x0, 0x0, 0x0, 0x0, 0x0, none⟩,
  ⟨0x6084, [], 0x0, 0xfffff, 0x0, 0x0, 0x0, 0x0, 0x0, none⟩,
  ⟨0x6088, [], 0x3f, 0x3f, 0x0, 0x0, 0x0, 0x0, 0x0, none⟩,
  ⟨0x608c, [], 0x0, 0x0, 0x1, 0x0, 0x0, 0x0, 0x0, none⟩,
  ⟨0x6090, [], 0x0, 0xffffffff, 0x0, 0x0, 0x0, 0x0, 0x0, some (0x609c, 0, [])⟩,
  ⟨0x609c, [], 0x0, 0x0, 0x0, 0x0, 0x0, 0x0, 0x0, none⟩,
  ⟨0x6100, [⟨0x8, 32⟩], 0x0, 0x3ffff, 0x0, 0x0, 0x0, 0x80000000, 0x0, none⟩,
  ⟨0x6104, [⟨0x8, 32⟩], 0x200, 0x0, 0x400, 0x0, 0x0, 0x0, 0x0, none⟩]

/-- Register classes of block QUE. -/
def classesQUE : List RegClass := [
  ⟨0x100000, [⟨0x40, 2048⟩, ⟨0x10, 4⟩], 0x0, 0x0, 0x0, 0x0, 0x0, 0x0, 0x0, none⟩,
  ⟨0x100004, [⟨0x40, 2048⟩, ⟨0x10, 4⟩], 0x0, 0x0, 0x100000, 0x0, 0x0, 0xc0000000, 0x0, none⟩,
  ⟨0x100008, [⟨0x40, 2048⟩, ⟨0x10, 4⟩], 0x0, 0x0, 0x0, 0x0, 0x0, 0x0, 0x0, none⟩,
  ⟨0x10000c, [⟨0x40, 2048⟩, ⟨0x10, 4⟩], 0x0, 0xffffffff, 0x0, 0x0, 0x0, 0x0, 0x0, none⟩]

/-- Register classes of block TAL. -/
def classesTAL : List RegClass := [
  ⟨0x40000, [⟨0x40, 8⟩], 0x0, 0x0, 0x0, 0x0, 0x0, 0x0, 0x0, none⟩,
  ⟨0x40004, [⟨0x40, 8⟩], 0x0, 0xffffffff, 0x0, 0x0, 0x0, 0x0, 0x0, some (0x4000c, 0, [(64, 0)])⟩,
  ⟨0x4000c, [⟨0x40, 8⟩], 0x0, 0x0, 0x0, 0x0, 0x0, 0x0, 0x0, none⟩,
  ⟨0x40800, [], 0x0, 0x0, 0x0, 0x0, 0x0, 0x3fff, 0x0, none⟩,
  ⟨0x41000, [⟨0x80, 64⟩], 0x0, 0x0, 0x0, 0x0, 0x0, 0x0, 0x0, none⟩,
  ⟨0x41004, [⟨0x80, 64⟩], 0x0, 0x0, 0x0, 0x0, 0x0, 0x0, 0x0, none⟩,
  ⟨0x41008, [⟨0x80, 64⟩], 0x0, 0x0, 0x0, 0x0, 0x0, 0x0, 0x0, none⟩,
  ⟨0x4100c, [⟨0x80, 64⟩], 0x0, 0x0, 0x0, 0x0, 0x0, 0x0, 0x0, none⟩,
  ⟨0x41010, [⟨0x80, 64⟩], 0x0, 0x0, 0x0, 0x0, 0x0, 0x0, 0x0, none⟩,
  ⟨0x41014, [⟨0x80, 64⟩], 0x0, 0x0, 0x0, 0x0, 0x0, 0x0, 0x0, none⟩,
  ⟨0x41018, [⟨0x80, 64⟩], 0x0, 0x0, 0x4000, 0x0, 0x0, 0x0, 0x0, none⟩,
  ⟨0x4101c, [⟨0x80, 64⟩], 0x1, 0x0, 0x0, 0x0, 0x0, 0x0, 0x0, none⟩,
  ⟨0x41020, [⟨0x80, 64⟩, ⟨0x4, 9⟩], 0x0, 0xffffffff, 0x0, 0x0, 0x0, 0x0, 0x0, some (0x4104c, 0, [(128, 0), (0, 1)])⟩,
  ⟨0x4104c, [⟨0x80, 64⟩], 0x0, 0x0, 0x0, 0x0, 0x0, 0x0, 0x0, none⟩,
  ⟨0x44000, [⟨0x10, 1024⟩], 0x0, 0x0, 0x0, 0x0, 0x0, 0x0, 0x0, none⟩,
  ⟨0x44004, [⟨0x10, 1024⟩], 0x0, 0x0, 0x0, 0x0, 0x0, 0x0, 0x0, none⟩,
  ⟨0x44008, [⟨0x10, 1024⟩], 0x0, 0x0, 0x0, 0x0, 0x0, 0x0, 0x0, none⟩,
  ⟨0x4400c, [⟨0x10, 1024⟩], 0x0, 0x0, 0x0, 0x0, 0x0, 0x0, 0x0, none⟩,
  ⟨0x48000, [⟨0x200, 64⟩, ⟨0x100, 2⟩, ⟨0x8, 32⟩], 0x0, 0x0, 0x0, 0x0, 0x0, 0x0, 0x0, none⟩,
  ⟨0x48004, [⟨0x200, 64⟩, ⟨0x100, 2⟩, ⟨0x8, 32⟩], 0x0, 0x0, 0x0, 0x0, 0x0, 0x0, 0x0, none⟩]

/-- Register classes of block HIF. -/
def classesHIF : List RegClass := [
  ⟨0x1000, [], 0x0, 0x0, 0x0, 0x0, 0x0, 0x0, 0x0, none⟩,
  ⟨0x1004, [], 0x0, 0x0, 0x0, 0x0, 0x0, 0x0, 0x0, none⟩,
  ⟨0x1010, [], 0x3e80000, 0xffff0001, 0x0, 0x0, 0x0, 0x0, 0x0, none⟩,
  ⟨0x1014, [], 0x0, 0xffffffff, 0x0, 0x0, 0x0, 0x0, 0x0, none⟩,
  ⟨0x1020, [], 0x0, 0xffffffff, 0x0, 0x0, 0x0, 0x0, 0x0, some (0x102c, 0, [])⟩,
  ⟨0x1024, [], 0x0, 0xffffffff, 0x0, 0x0, 0x0, 0x0, 0x0, some (0x102c, 1, [])⟩,
  ⟨0x1028, [], 0x0, 0xffffffff, 0x0, 0x0, 0x0, 0x0, 0x0, some (0x102c, 2, [])⟩,
  ⟨0x102c, [], 0x0, 0x0, 0x0, 0x0, 0x0, 0x0, 0x0, none⟩,
  ⟨0x1800, [⟨0x20, 64⟩], 0x0, 0xffffffff, 0x0, 0x0, 0x0, 0x0, 0x0, none⟩,
  ⟨0x1804, [⟨0x20, 64⟩], 0x0, 0xffffffff, 0x0, 0x0, 0x0, 0x0, 0x0, none⟩,
  ⟨0x1808, [⟨0x20, 64⟩], 0x0, 0xffffffff, 0x0, 0x0, 0x0, 0x0, 0x0, none⟩,
  ⟨0x180c, [⟨0x20, 64⟩], 0x0, 0xffffffff, 0x0, 0x0, 0x0, 0x0, 0x0, none⟩,
  ⟨0x1810, [⟨0x20, 64⟩], 0x0, 0x3fffff, 0x0, 0x0, 0x0, 0x0, 0x0, none⟩,
  ⟨0x1814, [⟨0x20, 64⟩], 0x0, 0xffffffff, 0x0, 0x0, 0x0, 0x0, 0x0, none⟩,
  ⟨0x1818, [⟨0x20, 64⟩], 0x1, 0xffffffff, 0x0, 0x0, 0x0, 0x0, 0x0, none⟩,
  ⟨0x181c, [⟨0x20, 64⟩], 0x0, 0x0, 0x10, 0x0, 0x0, 0x0, 0x0, none⟩]

/-- Register classes of block HDR. -/
def classesHDR : List RegClass := [
  ⟨0x1040000, [], 0x0, 0xffffffff, 0x0, 0x0, 0x0, 0x0, 0x0, some (0x104000c, 0, [])⟩,
  ⟨0x104000c, [], 0x0, 0x0, 0x0, 0x0, 0x0, 0x0, 0x0, none⟩,
  ⟨0x1080000, [⟨0x20, 1024⟩], 0x0, 0xffffffff, 0x0, 0x0, 0x0, 0x0, 0x0, none⟩,
  ⟨0x1080004, [⟨0x20, 1024⟩], 0x0, 0xffffffff, 0x0, 0x0, 0x0, 0x0, 0x0, none⟩,
  ⟨0x1080008, [⟨0x20, 1024⟩], 0x0, 0xffffffff, 0x0, 0x0, 0x0, 0x0, 0x0, none⟩,
  ⟨0x108000c, [⟨0x20, 1024⟩], 0x0, 0xffffffff, 0x0, 0x0, 0x0, 0x0, 0x0, none⟩,
  ⟨0x1080010, [⟨0x20, 1024⟩], 0x0, 0x3fffff, 0x0, 0x0, 0x0, 0x0, 0x0, none⟩,
  ⟨0x1080014, [⟨0x20, 1024⟩], 0x0, 0x0, 0x0, 0x0, 0x0, 0x0, 0x0, none⟩,
  ⟨0x1080018, [⟨0x20, 1024⟩], 0x1, 0xffffffff, 0x0, 0x0, 0x0, 0x0, 0x0, none⟩,
  ⟨0x108001c, [⟨0x20, 1024⟩], 0x0, 0x0, 0x10, 0x0, 0x0, 0x0, 0x0, none⟩]

/-- Register classes of block FP. -/
def classesFP : List RegClass := [
  ⟨0x10000, [⟨0x100, 128⟩], 0x0, 0x3ffff, 0x0, 0x0, 0x0, 0x0, 0x0, none⟩,
  ⟨0x10004, [⟨0x100, 128⟩], 0x0, 0xffff, 0x0, 0x0, 0x0, 0x0, 0x0, none⟩,
  ⟨0x10008, [⟨0x100, 128⟩], 0x0, 0x3fff3fff, 0x0, 0x0, 0x0, 0x0, 0x0, none⟩,
  ⟨0x1000c, [⟨0x100, 128⟩], 0x0, 0x1fffff, 0x0, 0x0, 0x0, 0x0, 0x0, none⟩,
  ⟨0x10010, [⟨0x100, 128⟩], 0x0, 0x0, 0x200, 0x0, 0x0, 0x0, 0x0, none⟩,
  ⟨0x10014, [⟨0x100, 128⟩], 0x0, 0x0, 0x0, 0x0, 0x0, 0x1, 0x0, none⟩,
  ⟨0x10018, [⟨0x100, 128⟩], 0x0, 0x0, 0x0, 0x0, 0x0, 0x0, 0x0, none⟩,
  ⟨0x10020, [⟨0x100, 128⟩], 0x0, 0x0, 0x0, 0x0, 0x0, 0x0, 0x0, none⟩,
  ⟨0x10024, [⟨0x100, 128⟩], 0x0, 0x0, 0x0, 0x0, 0x0, 0x0, 0x0, none⟩,
  ⟨0x10030, [⟨0x100, 128⟩], 0x0, 0xffffffff, 0x0, 0x0, 0x0, 0x0, 0x0, some (0x1003c, 0, [(256, 0)])⟩,
  ⟨0x10034, [⟨0x100, 128⟩], 0x0, 0xffffffff, 0x0, 0x0, 0x0, 0x0, 0x0, some (0x1003c, 1, [(256, 0)])⟩,
  ⟨0x10038, [⟨0x100, 128⟩], 0x0, 0xffffffff, 0x0, 0x0, 0x0, 0x0, 0x0, some (0x1003c, 2, [(256, 0)])⟩,
  ⟨0x1003c, [⟨0x100, 128⟩], 0x0, 0x0, 0x0, 0x0, 0x0, 0x0, 0x0, none⟩]

/-- Register classes of block GPIO. -/
def classesGPIO : List RegClass := [
  ⟨0xa000, [⟨0x4, 3⟩], 0x0, 0x0, 0x0, 0x0, 0x0, 0x0, 0x0, none⟩,
  ⟨0xa010, [⟨0x4, 3⟩], 0x0, 0xffffffff, 0x0, 0x0, 0x0, 0x0, 0x0, none⟩,
  ⟨0xa020, [⟨0x4, 3⟩], 0x0, 0xffffffff, 0x0, 0x0, 0x0, 0x0, 0x0, none⟩,
  ⟨0xa040, [], 0x0, 0x0, 0x0, 0x0, 0x0, 0x0, 0x0, none⟩,
  ⟨0xa050, [], 0x0, 0x0, 0x3, 0x0, 0x0, 0x0, 0x0, none⟩,
  ⟨0xa054, [], 0x0, 0xffffffff, 0x0, 0x0, 0x0, 0x0, 0x0, some (0xa05c, 0, [])⟩,
  ⟨0xa05c, [], 0x0, 0x0, 0x0, 0x0, 0x0, 0x0, 0x0, none⟩,
  ⟨0xa100, [⟨0x4, 96⟩], 0x0, 0x3ffff, 0x0, 0x0, 0x0, 0x0, 0x0, none⟩,
  ⟨0xa300, [⟨0x4, 16⟩], 0x0, 0x3f, 0x40, 0x0, 0x0, 0x0, 0x0, none⟩]

/-- Register classes of block HL. -/
def classesHL : List RegClass := [
  ⟨0x18000, [⟨0x400, 16⟩], 0x0, 0x0, 0x0, 0x0, 0x0, 0x0, 0x0, none⟩]

/-- Register classes of block XL. -/
def classesXL : List RegClass := [
  ⟨0x1c000, [⟨0x400, 32⟩], 0x0, 0x7ff, 0x0, 0x0, 0x0, 0x0, 0x0, none⟩,
  ⟨0x1c004, [⟨0x400, 32⟩], 0x0, 0xfff, 0x0, 0x0, 0x0, 0x0, 0x0, none⟩,
  ⟨0x1c008, [⟨0x400, 32⟩], 0x0, 0x3fff3fff, 0x0, 0x0, 0x0, 0x0, 0x0, none⟩,
  ⟨0x1c010, [⟨0x400, 32⟩], 0x0, 0x0, 0x10, 0x0, 0x0, 0x0, 0x0, none⟩,
  ⟨0x1c020, [⟨0x400, 32⟩], 0x0, 0xffffffff, 0x0, 0x0, 0x0, 0x0, 0x0, some (0x1c02c, 0, [(1024, 0)])⟩,
  ⟨0x1c024, [⟨0x400, 32⟩], 0x0, 0xffffffff, 0x0, 0x0, 0x0, 0x0, 0x0, some (0x1c02c, 1, [(1024, 0)])⟩,
  ⟨0x1c028, [⟨0x400, 32⟩], 0x0, 0xffffffff, 0x0, 0x0, 0x0, 0x0, 0x0, some (0x1c02c, 2, [(1024, 0)])⟩,
  ⟨0x1c02c, [⟨0x400, 32⟩], 0x0, 0x0, 0x0, 0x0, 0x0, 0x0, 0x0, none⟩,
  ⟨0x1c200, [⟨0x1000, 8⟩], 0x0, 0x3f, 0x0, 0x0, 0x0, 0x0, 0x0, none⟩,
  ⟨0x1c204, [⟨0x1000, 8⟩], 0x0, 0x0, 0x0, 0x0, 0x0, 0x0, 0x0, none⟩,
  ⟨0x1c208, [⟨0x1000, 8⟩], 0x0, 0xffffffff, 0x0, 0x0, 0x0, 0x0, 0x0, some (0x1c20c, 0, [(4096, 0)])⟩,
  ⟨0x1c20c, [⟨0x1000, 8⟩], 0x0, 0x0, 0x0, 0x0, 0x0, 0x0, 0x0, none⟩]

/-- Register classes of block SEC. -/
def classesSEC : List RegClass := [
  ⟨0x2000, [], 0x0, 0x0, 0x0, 0x0, 0x0, 0x0, 0xff1fff, none⟩,
  ⟨0x2008, [], 0x0, 0x0, 0x0, 0x0, 0x0, 0x0, 0xffffffff, none⟩,
  ⟨0x200c, [], 0x0, 0x0, 0x0, 0x0, 0x0, 0x0, 0xffffffff, none⟩,
  ⟨0x2010, [], 0x0, 0x0, 0x0, 0x0, 0x0, 0x0, 0xffffffff, none⟩,
  ⟨0x2020, [], 0x0, 0x0, 0x0, 0x0, 0x0, 0x0, 0x0, none⟩,
  ⟨0x2024, [], 0x258, 0xffff, 0x0, 0x0, 0x0, 0x0, 0x0, none⟩,
  ⟨0x2028, [], 0x0, 0x0, 0x0, 0x0, 0x0, 0x0, 0xfffff, none⟩,
  ⟨0x2030, [], 0x0, 0xffffffff, 0x0, 0x0, 0x0, 0x0, 0x0, some (0x203c, 0, [])⟩,
  ⟨0x2034, [], 0x0, 0xffffffff, 0x0, 0x0, 0x0, 0x0, 0x0, some (0x203c, 1, [])⟩,
  ⟨0x203c, [], 0x0, 0x0, 0x0, 0x0, 0x0, 0x0, 0x0, none⟩,
  ⟨0x2040, [], 0x0, 0xffffffff, 0x0, 0x0, 0x0, 0x0, 0x0, none⟩,
  ⟨0x2044, [], 0x0, 0xffffffff, 0x0, 0x0, 0x0, 0x0, 0x0, none⟩,
  ⟨0x2048, [], 0x0, 0x0, 0x0, 0x0, 0x0, 0x1, 0x0, none⟩,
  ⟨0x204c, [], 0x0, 0x0, 0x0, 0x0, 0x0, 0x0, 0x0, none⟩,
  ⟨0x2050, [], 0x0, 0x0, 0x0, 0x0, 0x0, 0x0, 0x6, none⟩,
  ⟨0x2080, [⟨0x4, 16⟩], 0x0, 0x0, 0x0, 0x0, 0x0, 0x0, 0x0, none⟩,
  ⟨0x2100, [⟨0x4, 64⟩], 0x0, 0x0, 0x0, 0xffffffff, 0x0, 0x0, 0x0, none⟩]

/-- Register classes of block THM. -/
def classesTHM : List RegClass := [
  ⟨0x5000, [], 0x0, 0x0, 0x0, 0x0, 0x0, 0x0, 0x0, none⟩,
  ⟨0x5004, [], 0x0, 0x0, 0x0, 0x0, 0x0, 0x0, 0x0, none⟩,
  ⟨0x5010, [], 0x0, 0x7ff, 0x0, 0x0, 0x0, 0x0, 0x0, none⟩,
  ⟨0x5014, [], 0x0, 0x0, 0x0, 0x0, 0x0, 0x0, 0x0, none⟩,
  ⟨0x5018, [], 0x0, 0x0, 0x0, 0x0, 0x0, 0x0, 0x0, none⟩,
  ⟨0x501c, [], 0x0, 0x0, 0x0, 0x0, 0x0, 0x0, 0x0, none⟩,
  ⟨0x5080, [], 0x1803, 0xff03, 0x0, 0x0, 0x0, 0x0, 0x0, none⟩,
  ⟨0x5084, [], 0x0, 0xffffffff, 0x0, 0x0, 0x0, 0x0, 0x0, some (0x508c, 0, [])⟩,
  ⟨0x5088, [], 0x0, 0xffffffff, 0x0, 0x0, 0x0, 0x0, 0x0, some (0x508c, 1, [])⟩,
  ⟨0x508c, [], 0x0, 0x0, 0x0, 0x0, 0x0, 0x0, 0x0, none⟩,
  ⟨0x5090, [], 0x0, 0x0, 0x0, 0x0, 0x0, 0x0, 0x1, none⟩]

/-- Register classes of block DEV. -/
def classesDEV : List RegClass := [
  ⟨0x0, [], 0x1, 0x0, 0x0, 0x0, 0x0, 0x0, 0x0, none⟩,
  ⟨0x4, [], 0x0, 0x0, 0x0, 0x0, 0x0, 0x0, 0x0, none⟩,
  ⟨0x8, [], 0x0, 0x0, 0x0, 0x0, 0x0, 0x0, 0x0, none⟩,
  ⟨0xc, [], 0x0, 0x0, 0x0, 0x0, 0x0, 0x0, 0x0, none⟩,
  ⟨0x10, [], 0x0, 0x0, 0x0, 0x0, 0x0, 0xffffffff, 0x0, none⟩,
  ⟨0x14, [], 0x0, 0x0, 0x1, 0x0, 0x0, 0x0, 0x0, none⟩,
  ⟨0x20, [], 0x0, 0xffffffff, 0x0, 0x0, 0x0, 0x0, 0x0, some (0x2c, 0, [])⟩,
  ⟨0x24, [], 0x0, 0xffffffff, 0x0, 0x0, 0x0, 0x0, 0x0, some (0x2c, 1, [])⟩,
  ⟨0x2c, [], 0x0, 0x0, 0x0, 0x0, 0x0, 0x0, 0x0, none⟩,
  ⟨0x400, [⟨0x4, 128⟩], 0x0, 0x7fff, 0x0, 0x0, 0x0, 0x0, 0x0, none⟩]

/-- Register classes of block MNT. -/
def classesMNT : List RegClass := [
  ⟨0xb000, [], 0x0, 0x0, 0x0, 0x0, 0x0, 0x0, 0x0, none⟩,
  ⟨0xb020, [], 0x0, 0xffffffff, 0x0, 0x0, 0x0, 0x0, 0x0, some (0xb03c, 0, [])⟩,
  ⟨0xb024, [], 0x0, 0xffffffff, 0x0, 0x0, 0x0, 0x0, 0x0, some (0xb03c, 1, [])⟩,
  ⟨0xb028, [], 0x0, 0xffffffff, 0x0, 0x0, 0x0, 0x0, 0x0, some (0xb03c, 2, [])⟩,
  ⟨0xb02c, [], 0x0, 0xffffffff, 0x0, 0x0, 0x0, 0x0, 0x0, some (0xb03c, 3, [])⟩,
  ⟨0xb030, [], 0x0, 0xffffffff, 0x0, 0x0, 0x0, 0x0, 0x0, some (0xb03c, 4, [])⟩,
  ⟨0xb03c, [], 0x0, 0x0, 0x0, 0x0, 0x0, 0x0, 0x0, none⟩,
  ⟨0xb040, [], 0x0, 0x0, 0x0, 0x0, 0x0, 0x0, 0x0, none⟩,
  ⟨0xb044, [], 0x0, 0x0, 0x0, 0x0, 0x0, 0x0, 0x0, none⟩,
  ⟨0xb048, [], 0x0, 0x0, 0x0, 0x0, 0x0, 0x0, 0x0, none⟩,
  ⟨0xb04c, [], 0x0, 0x0, 0x0, 0x0, 0x0, 0x0, 0x0, none⟩,
  ⟨0xb050, [], 0x0, 0x0, 0x0, 0x0, 0x0, 0x0, 0x18, none⟩,
  ⟨0xb054, [], 0x0, 0x0, 0x0, 0x0, 0x0, 0x0, 0xffffffff, none⟩,
  ⟨0xb058, [], 0x0, 0x0, 0x0, 0x0, 0x0, 0x0, 0xffffffff, none⟩,
  ⟨0xb060, [], 0x0, 0x3ff, 0x0, 0x0, 0x0, 0x0, 0x0, none⟩,
  ⟨0xb064, [], 0x0, 0x0, 0x0, 0x0, 0x0, 0x0, 0x0, none⟩,
  ⟨0xb068, [], 0x0, 0x7ff, 0x0, 0x0, 0x0, 0x0, 0x0, none⟩,
  ⟨0xb06c, [], 0x0, 0x0, 0x0, 0x0, 0x0, 0x0, 0x0, none⟩,
  ⟨0xb100, [⟨0x4, 32⟩], 0x0, 0x0, 0x0, 0x0, 0x0, 0x0, 0x0, none⟩,
  ⟨0xb204, [⟨0x4, 11⟩], 0x0, 0xffff, 0x0, 0x0, 0x0, 0x0, 0x0, none⟩]

/-- Register classes of block BIST. -/
def classesBIST : List RegClass := [
  ⟨0x9000, [], 0x0, 0x0, 0x0, 0x0, 0x0, 0x0, 0xfff00, none⟩,
  ⟨0x9010, [], 0x0, 0xffff, 0x0, 0x0, 0x0, 0x0, 0x0, none⟩,
  ⟨0x9014, [], 0x0, 0x0, 0x0, 0x0, 0x0, 0x0, 0xf, none⟩,
  ⟨0x9018, [], 0x0, 0x0, 0x0, 0x0, 0x0, 0x0, 0xffffffff, none⟩,
  ⟨0x901c, [], 0x0, 0x0, 0x0, 0x0, 0x0, 0x0, 0xffffffff, none⟩,
  ⟨0x9020, [], 0x0, 0x0, 0x0, 0x0, 0x0, 0x0, 0xffffffff, none⟩,
  ⟨0x9024, [], 0x0, 0x0, 0x0, 0x0, 0x0, 0x0, 0xffffffff, none⟩,
  ⟨0x9030, [], 0x0, 0xffffffff, 0x0, 0x0, 0x0, 0x0, 0x0, some (0x903c, 0, [])⟩,
  ⟨0x903c, [], 0x0, 0x0, 0x0, 0x0, 0x0, 0x0, 0x0, none⟩]

/-- Register classes of block FBK. -/
def classesFBK : List RegClass := [
  ⟨0x8000, [], 0x0, 0x0, 0x0, 0x0, 0x0, 0x0, 0xff1e, none⟩,
  ⟨0x8004, [], 0x1, 0x3, 0x0, 0x0, 0x0, 0x0, 0x0, none⟩,
  ⟨0x8008, [], 0x0, 0x0, 0x0, 0x0, 0x0, 0x0, 0xffffffff, none⟩,
  ⟨0x800c, [], 0x0, 0x0, 0x0, 0x0, 0x0, 0x0, 0x0, none⟩,
  ⟨0x8010, [], 0x0, 0xfff000f, 0x0, 0x0, 0x0, 0x0, 0x0, none⟩,
  ⟨0x8020, [⟨0x4, 8⟩], 0x0, 0x0, 0x0, 0x0, 0x0, 0x0, 0x0, none⟩,
  ⟨0x8080, [⟨0x4, 8⟩], 0x0, 0x0, 0x0, 0x0, 0x0, 0x0, 0xffffffff, none⟩]

/-- Register classes of block DBG. -/
def classesDBG : List RegClass := [
  ⟨0x3000, [], 0x0, 0x0, 0x0, 0x0, 0x0, 0x0, 0x0, none⟩,
  ⟨0x3004, [], 0x0, 0x0, 0x0, 0x0, 0x0, 0x7ff, 0x0, none⟩,
  ⟨0x3008, [], 0x0, 0x0, 0x0, 0x0, 0x0, 0x0, 0x0, none⟩,
  ⟨0x300c, [], 0x258, 0xffff, 0x0, 0x0, 0x0, 0x0, 0x0, none⟩,
  ⟨0x3010, [], 0x38, 0x3f, 0x0, 0x0, 0x0, 0xc0, 0x0, none⟩,
  ⟨0x3014, [], 0x0, 0xffffffff, 0x0, 0x0, 0x0, 0x0, 0x0, none⟩,
  ⟨0x3018, [], 0x0, 0xffffffff, 0x0, 0x0, 0x0, 0x0, 0x0, none⟩,
  ⟨0x301c, [], 0x0, 0xffffffff, 0x0, 0x0, 0x0, 0x0, 0x0, none⟩,
  ⟨0x3020, [], 0x4, 0xfff0007, 0x0, 0x0, 0x0, 0x0, 0x0, none⟩,
  ⟨0x3024, [], 0x0, 0xffffffff, 0x0, 0x0, 0x0, 0x0, 0x0, none⟩,
  ⟨0x3028, [], 0x0, 0xffffffff, 0x0, 0x0, 0x0, 0x0, 0x0, none⟩,
  ⟨0x3040, [⟨0x4, 8⟩], 0x8, 0x8, 0x0, 0x7, 0x0, 0x0, 0x0, none⟩,
  ⟨0x3060, [⟨0x4, 8⟩], 0x0, 0x0, 0x18, 0x0, 0x0, 0x0, 0x0, none⟩,
  ⟨0x3200, [⟨0x40, 8⟩, ⟨0x8, 8⟩], 0x0, 0x3ff, 0x400, 0x0, 0x0, 0x0, 0x0, none⟩,
  ⟨0x3204, [⟨0x40, 8⟩, ⟨0x8, 8⟩], 0x0, 0xffffffff, 0x0, 0x0, 0x0, 0x0, 0x0, none⟩,
  ⟨0x3400, [⟨0x4, 16⟩], 0x0, 0x0, 0x0, 0x0, 0x0, 0x0, 0x0, none⟩,
  ⟨0x3800, [⟨0x4, 512⟩], 0x0, 0x0, 0x0, 0x0, 0x0, 0xffffffff, 0x0, none⟩]

/-- The block a key lies in (the table of R40), as the list of its register classes. -/
def blockClasses (k : Nat) : List RegClass :=
  if 0x100_0000 ≤ k then classesHDR
  else if k < 0x1000 then classesDEV
  else if k < 0x2000 then classesHIF
  else if k < 0x3000 then classesSEC
  else if k < 0x4000 then classesDBG
  else if k < 0x5000 then classesPMU
  else if k < 0x6000 then classesTHM
  else if k < 0x7000 then classesCLK
  else if k < 0x8000 then classesCFG
  else if k < 0x9000 then classesFBK
  else if k < 0xA000 then classesBIST
  else if k < 0xB000 then classesGPIO
  else if k < 0xC000 then classesMNT
  else if k < 0x10000 then []
  else if k < 0x18000 then classesFP
  else if k < 0x1C000 then classesHL
  else if k < 0x24000 then classesXL
  else if k < 0x30000 then []
  else if k < 0x34000 then classesPACE
  else if k < 0x40000 then []
  else if k < 0x50000 then classesTAL
  else if k < 0x100000 then []
  else if k < 0x120000 then classesQUE
  else if k < 0x200000 then []
  else if k < 0x300000 then classesCOL
  else if k < 0x305000 then classesLSUP
  else []

/-- The instance numbers of a displacement from the first register of a class, dimension by
dimension (greatest stride first); none where it is no instance. -/
def dimIndex : List Dim → Nat → Option (List Nat)
  | [], d => if d = 0 then some [] else none
  | m :: ms, d =>
    if d / m.stride < m.count then (dimIndex ms (d % m.stride)).map (d / m.stride :: ·) else none

/-- The instance of a class that a key names. -/
def regIndex (c : RegClass) (k : Nat) : Option (List Nat) :=
  if c.base ≤ k then dimIndex c.dims (k - c.base) else none

/-- The class of the register at a key, none for a reserved offset. -/
def regClass (k : Nat) : Option RegClass :=
  (blockClasses k).find? (fun c => (regIndex c k).isSome)

/-- Default limit in ms of activity k (R470). -/
def mntDefaultLimit (k : Nat) : Nat :=
  [0, 0, 100, 10, 100, 1000, 1000, 10000, 10000, 0, 60000, 60000].getD k 0

/-- Reset value of CLK_OPk: root divider and VDD_B in mV (R255). -/
def clkOpDefault (k : Nat) : Nat :=
  [0x2BC0010, 0x2E4000A, 0x30C0009, 0x3340008].getD k 0

/-- The value a register has at reset, before anything has written it. -/
def regReset (k : Nat) : Reg :=
  if 0x300000 ≤ k ∧ k < 0x305000 ∧ (k - 0x300000) % 0x1000 = 0 then
    -- LSUP_ID.LAYER is the layer of the supervisor (R43)
    BitVec.ofNat 32 (0xB100 + (k - 0x300000) / 0x1000)
  else if 0xB204 ≤ k ∧ k < 0xB230 then
    -- MNT_LIMITk: the default limits of R470
    BitVec.ofNat 32 (mntDefaultLimit ((k - 0xB200) / 4))
  else if 0x6050 ≤ k ∧ k < 0x6060 then
    -- CLK_OPk: the operating points of R255
    BitVec.ofNat 32 (clkOpDefault ((k - 0x6050) / 4))
  else match regClass k with
    | some c => BitVec.ofNat 32 c.reset
    | none => 0

end Sys2Proof.Machine
end

