-- ==== Sys2Proof/Machine/State.lean ====
section
/-! DEFINITION.  The state of the KY5120: plain data, one structure for each of the device's
sub-systems, and the queue of waiting commands.  The register file `regs` is the one home of every
register field that is not a view of a structured part (the views are computed in Access.lean). -/

namespace Sys2Proof.Machine

/-- Fault outcomes.  No command of the spec stops the machine: faults of the device are events and
register bits of the next state.  The one constructor is raised by nobody. -/
inductive Fault where
  /-- never raised; safe -/
  | none
  deriving DecidableEq, Repr

/-- Refusal outcomes. -/
inductive Refusal where
  /-- an arm of Dispatch whose command has no meaning yet; safe -/
  | notModelled (mnemonic : String)
  deriving DecidableEq, Repr

/-! ### Events (R28 to R32) and what the device sends out -/

/-- An event record (R28). DATA holds bytes [18:31], byte 18 in the low bits. -/
structure Event where
  time : Word
  source : BitVec 16
  code : BitVec 16
  seq : BitVec 32
  status : Byte
  data : BitVec 112
  deriving DecidableEq, Repr

/-- What a channel to the design carries. -/
inductive Chan where
  | popChannel (queue : Nat)
  | pushAck (queue : Nat)
  | mport (bank : Nat)
  | regch (write : Bool) (word : Nat)
  | mac (tile : Nat)
  | inputRecord
  | stim
  | tallyRecord
  | action
  | pin (line : Nat)
  | lane (lane : Nat)
  | laneStamp (lane : Nat) (tx : Bool)
  | ax (inst : Nat)
  | auxAck (driver : Nat)
  deriving DecidableEq, Repr

/-- One thing the device sends to the outside, in the order it is sent. -/
inductive Out where
  /-- bytes written to host memory by DMA -/
  | hostWrite (addr : Word) (bytes : List Byte)
  /-- an MSI-X message of a function's vector (R291) -/
  | msix (function vector : Nat)
  /-- the answer of a register or window access -/
  | answer (req : Requester) (value : Word)
  /-- an access of a core ends with a bus error -/
  | busError (req : Requester)
  /-- a debug access is refused -/
  | debugRefused
  /-- a token offered to the design of a physical mat -/
  | token (mat : Nat) (chan : Chan) (bits : Nat)
  /-- an item or character sent on a field port's line -/
  | portItem (port : Nat) (bits : Nat)
  /-- a token or item, idle (none) or an error block sent on a lane -/
  | laneItem (lane : Nat) (item : Option Nat) (errBlock : Bool)
  /-- a message sent on a tether -/
  | tether (th : Nat) (kind : Nat) (value : Nat)
  /-- what a TAP data register shifts out -/
  | tdo (value : Nat)
  deriving DecidableEq, Repr

/-- The event router and the event counter (R32, R507, R508, R547). -/
structure EvState where
  /-- the device-wide SEQ counter, on VAUX (R32) -/
  seq : BitVec 32
  /-- R547: for each pair code × 65,536 + source, 1 + the interval in which it was last raised -/
  limit : Tab Nat
  /-- latches of each router source: bit t for target t (R508) -/
  latch : Tab (BitVec 6)
  deriving DecidableEq, Repr

/-! ### Host link, rings and commands (chapter 09) -/

/-- A completion waiting to be written or written (R294). -/
structure Compl where
  ring : Nat
  id : BitVec 32
  status : Nat
  final : Bool
  opcode : Nat
  result : Word
  deriving DecidableEq, Repr

/-- A command accepted without a final completion (R293). -/
structure Cmd where
  ring : Nat
  id : BitVec 32
  opcode : Nat
  session : BitVec 16
  /-- the command has started: its own row has run -/
  started : Bool
  /-- PERST# or an FLR discards its completion (R279) -/
  discard : Bool
  deriving DecidableEq, Repr

/-- Names an accepted command in the activity that works for it. -/
structure CmdRef where
  ring : Nat
  id : BitVec 32
  opcode : Nat
  deriving DecidableEq, Repr

/-- What a ring holds beside its registers (R288). -/
structure Ring where
  /-- producer index P -/
  p : Nat
  /-- consumer index C -/
  c : Nat
  /-- entries produced or written back since the last message (R291) -/
  unsig : Nat
  /-- host-to-device ring: words of the present entry already pushed (R300) -/
  pushed : Nat
  /-- completion ring: completions held while it is full, in order (R295) -/
  held : List Compl
  /-- device time of the first entry not yet signalled (R291) -/
  since : Word
  deriving DecidableEq, Repr

/-- One register-window access waiting at a mat's register channel (R78, R286). -/
structure WinAcc where
  write : Bool
  word : Nat
  data : Word
  /-- which half a 4-byte read returns; none for an 8-byte access -/
  half : Option Bool
  /-- when it came to the front -/
  since : Word
  deriving DecidableEq, Repr

/-- The identification that a function carries in its configuration space (R277). -/
structure FnConfig where
  vendor : BitVec 16
  device : BitVec 16
  revision : Byte
  classCode : BitVec 24
  subVendor : BitVec 16
  subDevice : BitVec 16
  deriving DecidableEq, Repr

/-- PF0 and PF1 carry the same identification but for the device and the subsystem id (R277). -/
def fnConfig (device : BitVec 16) : FnConfig :=
  { vendor := 0x1F9B, device := device, revision := 0xB1, classCode := 0x120000, subVendor := 0x1F9B, subDevice := device }

/-- The host interface beside its registers. -/
structure HostState where
  rings : Tab Ring
  cmds : List Cmd
  /-- device time of the last heartbeat -/
  hbAt : Word
  /-- the heartbeat timer runs (R301) -/
  hbRun : Bool
  /-- device time of the entry into host-absent mode -/
  absentAt : Word
  /-- PERST# is asserted (R279) -/
  perst : Bool
  /-- the shared high-word latch of each requester (R38) -/
  latch : Tab Reg
  /-- register-window accesses of each physical mat, oldest first (R285, R286) -/
  window : Tab (List WinAcc)
  /-- hardwired identification in configuration space: PF0, PF1 (R277) -/
  pf0 : FnConfig
  pf1 : FnConfig
  deriving DecidableEq, Repr

/-! ### Hard queues (chapter 06) -/

/-- What a paced queue keeps from the boundary (R210). -/
structure QCopy where
  w : Nat
  slot : Option Nat
  len : Nat
  disc : Nat
  seq : BitVec 16
  deriving DecidableEq, Repr

/-- A queue (R198 to R211). -/
structure Queue where
  base : Nat
  sizeLog2 : Nat
  packet : Bool
  prod : Nat
  cons : Nat
  ring : Option Nat
  /-- read pointer R, SIZE_LOG2 + 1 bits -/
  r : Nat
  /-- actual write pointer W -/
  w : Nat
  /-- published write pointer (R178, R205) -/
  pw : Nat
  /-- an open packet: the pointer of its length slot (R207) -/
  slot : Option Nat
  /-- data words of the open packet -/
  len : Nat
  /-- pushed words are being discarded: 1 per R209, 2 per R211 step 4; 0 not -/
  disc : Nat
  seq : BitVec 16
  ue : Bool
  /-- data words of the packet under the read pointer that are still to be popped -/
  left : Nat
  copy : Option QCopy
  /-- device time at which the newest item became visible to the consumer (R299) -/
  freshAt : Word
  deriving DecidableEq, Repr

/-- The queue engines beside their bank words. -/
structure QueState where
  /-- by queue id: the queue, none where it does not exist -/
  queues : Tab (Option Queue)
  /-- by queue id: EPOCH, which outlives the queue (R212) -/
  epoch : Tab (BitVec 4)
  /-- by requester × 8,192 + queue: the queue latch of R202 -/
  latch : Tab Reg
  /-- by requester × 8,192 + queue: the held low word of R202 -/
  held : Tab Reg
  deriving DecidableEq, Repr

/-! ### Memory layer and rhizoids (chapter 03) -/

/-- A bank word of 72 bits (R108): 64 data bits and 8 SECDED check bits.  The check bits are kept as their
difference from the code that is generated over the data, which is the word's syndrome: 0 for a word as written.  A
poisoned check code is marked beside it (R112; log entry 8). -/
structure MemWord where
  data : Word
  syn : Byte
  poison : Bool
  deriving DecidableEq, Repr

/-- A memory-port response that the design has not yet acknowledged (R109). -/
structure MResp where
  rdata : Word
  write : Bool
  corr : Bool
  uncorr : Bool
  parity : Bool
  tag : BitVec 4
  deriving DecidableEq, Repr

/-- The banks.  A word's key is physical bank id × 8,192 + word (R9, R108). -/
structure MemState where
  words : Tab MemWord
  /-- by physical mat × 8 + bank: the response not yet acknowledged -/
  resp : Tab (Option MResp)
  /-- by column: words of b8 written by mirrored writes while its copy runs (R116) -/
  mirrored : Tab (List Nat)
  deriving DecidableEq, Repr

/-- A rhizoid group (R95 to R102), by (column × 4 + interface) × 56 + group. -/
structure Rhz where
  /-- rhizoids found failed, in order of finding -/
  failed : List Nat
  /-- rhizoids that failed their last sounding step once (R99) -/
  strikes : List Nat
  /-- working positions moved to a spare -/
  moved : List (Nat × Nat)
  /-- spares that can no longer be used: in use or failed (R100) -/
  used : List Nat
  exhausted : Bool
  /-- rhizoids not visited within four periods (R98); SOUND_MISS while there is one -/
  missed : List Nat
  deriving DecidableEq, Repr

/-- What a fault reported to a layer supervisor lies in, within its column: its repair closes it (R23, R43). -/
inductive FaultItem where
  /-- a rhizoid of an interface and group -/
  | rhizoid (i g x : Nat)
  /-- an exhausted group -/
  | group (i g : Nat)
  | bank (b : Nat)
  /-- the inside of a mat -/
  | mat (g : Nat)
  /-- an inbound channel of a mat -/
  | channel (g h : Nat)
  | lane (l : Nat)
  /-- the supply of a mat of the column, as the alarm's layer sees it -/
  | supply (g : Nat)
  deriving DecidableEq, Repr

/-- Column agents beside their registers. -/
structure ColState where
  groups : Tab Rhz
  /-- by physical mat: uses taken out of service on exhaustion (R102): bit 0 memory port,
  bit 1 configuration path, bit 2 control rhizoids, bit 3 an I/O path -/
  out : Tab (BitVec 4)
  /-- by physical mat × 256 + lane: code of a token that this end keeps to send again (R101) -/
  kept : Tab (BitVec 2)
  /-- by column × 256 + lane: receiving end of a lane whose re-test has found a failed rhizoid that is being
  spared (R107) -/
  restoring : Tab (Option Nat)
  /-- trunk ownership table, by physical mat × 4 + slot: the lanes that the slot drives, and its HOLD bits (R104) -/
  own : Tab (List Nat × List Nat)
  /-- by column: queue of words to be re-read after a corrected port read (R99): mat, bank, word -/
  reread : Tab (List (Nat × Nat × Nat))
  /-- by (column × 4 + interface) × 56 + group: to be sounded ahead of the regular order, with the
  found-by code of RHIZOID_FAIL (R99): 2 parity, 3 port correctable error, 4 configuration check -/
  ahead : Tab Nat
  /-- REPAIR commands of kind 1, by group as above, and of kind 2, by column × 256 + lane (R118) -/
  repairs : List (Nat × CmdRef)
  retests : List (Nat × CmdRef)
  /-- by layer × 256 + column: faults reported to the layer's supervisor whose repair is not complete
  (LSUP_STATUS.OPEN_FAULTS) -/
  open_ : Tab (List FaultItem)
  /-- physical banks b0 to b7 found failing and not yet remapped (R114, R117) -/
  failing : Tab Bool
  /-- departing wire sets of gates that the sounding pattern of a re-test failed on (R90): by (mat × 64 + side and
  lane) × 4 + span -/
  badWires : Tab Bool
  /-- by physical bank: uncorrectable errors found in it since it came into service (R117) -/
  ues : Tab Nat
  /-- by column: b8 is free and its last pass found no error (R113) -/
  spareClean : Tab Bool
  deriving DecidableEq, Repr

/-! ### Contexts (chapters 02 and 04) -/

/-- Dual-rail codes (R45). -/
inductive Code where
  | null
  | data0
  | data1
  | illegal
  deriving DecidableEq, Repr

/-- What stands on the wires of a mat, beside the holds of its slots (R45 to R48, R56, R72). -/
structure MatFab where
  /-- output of each frond -/
  out : Tab Code
  /-- carry out of a CARRY frond (R61); joined acknowledges of a FORK frond (R55) -/
  aux : Tab Code
  /-- input that a wide multiplexer has passed on, by its result frond (R71) -/
  sel : Tab Nat
  /-- wires driven by switches: 8,192 × class + switch (R64, R65) -/
  wires : Tab Code
  /-- what the gate presents on bit j of outbound channel h, by 16h + j -/
  gate : Tab Code
  /-- inbound channels whose present token the gate itself acknowledges, under DRAIN (R142) -/
  gateAck : Tab Bool
  /-- MAC tiles and memory-port request channels (8, 9) that hold their acknowledge up (R80, R109) -/
  ackUp : Tab Bool
  /-- places that see the illegal code: WHERE and INDEX of COL_GATE_ILLEGAL (R89) -/
  bad : List (Nat × Nat)
  deriving DecidableEq, Repr

/-- A mat context: the frond words that differ from the idle word, by frond number (R62). -/
structure Ctx where
  words : Tab (BitVec 256)
  deriving DecidableEq, Repr

/-- The hold state of a slot (R122): frond holds (0 NULL, 1 DATA-0, 2 DATA-1), MAC accumulators, MAC
result buffers not yet acknowledged, this end's trunk lane buffers, and the border state that the mat gate parked
at the last flip out (R137): codes of outbound bits by 16h + j, and by 1,024 + h 2 where the acknowledge of inbound
channel h is up. -/
structure Holds where
  fronds : Tab (BitVec 2)
  acc : List Word
  res : Tab (Option (BitVec 65))
  lanes : Tab (BitVec 2)
  border : Tab (BitVec 2)
  deriving DecidableEq, Repr

/-- A resident slot (R122) beside its state in COL_CTX_STATE and COL_CTX_SRC. -/
structure Slot where
  ctx : Ctx
  holds : Holds
  shadow : Holds
  /-- the slot has been active since it was loaded (R58, R138) -/
  activated : Bool
  /-- lanes whose HOLD bit the context's trunk-table frame sets (R104) -/
  laneHold : List Nat
  /-- pins whose border choice is CHARTER (R144): 2 × port + pin, or 256 + GPIO pin id -/
  charter : List Nat
  /-- check code recorded at the write (R124, R457) -/
  check : Word
  deriving DecidableEq, Repr

/-- A library entry with its directory record (R124); VALID is COL_CTX_LIB.VALID. -/
structure LibEntry where
  ctx : Ctx
  check : Word
  laneHold : List Nat
  charter : List Nat
  deriving DecidableEq, Repr

/-- A swap in progress (R135): the members taking part by logical mat id, from withdrawal to the flip
or the abandonment. -/
structure SwapRun where
  slot : Nat
  trigger : Nat
  ref : Option CmdRef
  mats : List Nat
  withdrawnAt : Word
  /-- value of the group's timer in ns (R135 step 2) -/
  limit : Nat
  /-- tether of the lead this device follows -/
  lead : Option Nat
  /-- tethers of followers that this device leads, and those whose report is still awaited (R149) -/
  strobed : List Nat
  awaiting : List Nat
  /-- the last member here is quiet, with each member's time from withdrawal to quiescence -/
  quiet : Option (List (Nat × Nat))
  /-- phase retry count of a ONCE schedule, 0xFF otherwise (R146) -/
  retries : Nat
  /-- a period boundary waits for this swap (R147) -/
  boundary : Option Nat
  /-- number of the schedule whose phase it is (R146) -/
  no : Nat
  /-- logical mat whose design asked for the swap (R133) -/
  asker : Option Nat
  deriving DecidableEq, Repr

/-- A swap trigger waiting for the swap in progress to end (R132), or a timed CTX_SWAP (R134). -/
structure SwapReq where
  slot : Nat
  trigger : Nat
  ref : Option CmdRef
  /-- 0 at once, 1 at device time `at_`, 2 at the start of period `at_` -/
  when_ : Nat
  at_ : Word
  /-- this device is to lead a tethered swap and has not sent STROBE yet -/
  tether : Bool
  lead : Option Nat
  strobed : List Nat
  retries : Nat
  boundary : Option Nat
  no : Nat
  asker : Option Nat
  deriving DecidableEq, Repr

/-- A phase schedule (R145). -/
structure Sched where
  pacer : Nat
  every : Bool
  first : Word
  /-- slot and offset of each phase -/
  phases : List (Nat × Nat)
  /-- ONCE: the phase to run next, the retries it has left, and the period it runs in (R146) -/
  idx : Nat
  left : Nat
  run : Nat
  /-- the phase that falls next in the present period; the number of phases when none does -/
  due : Nat
  /-- tells it from the schedules that it follows in its group (R148) -/
  no : Nat
  deriving DecidableEq, Repr

/-- A swap group beside the membership bits of its mats (R126). -/
structure Group where
  /-- logical mats of the group, rising -/
  mats : List Nat
  run : Option SwapRun
  waiting : List SwapReq
  timed : List SwapReq
  sched : Option Sched
  /-- a pending schedule, or a pending clear, with the period at whose start it takes effect and its PACER -/
  pending : Option (Word × Nat × Option Sched)
  /-- schedules taken so far -/
  schedNo : Nat
  /-- a swap of the group is tethered when its schedule asks for it (R149) -/
  tetherFlag : Bool
  /-- a stop per R462 waits for the swap in progress -/
  stopWaits : Bool
  deriving DecidableEq, Repr

/-- A CTX_LOAD that has begun (R129). -/
structure LoadRun where
  ref : CmdRef
  mats : List Nat
  slot : Nat
  entry : Nat
  /-- logical mats whose write has not ended -/
  writing : List Nat
  failed : List Nat
  /-- it waits for the relocation of a named mat (R129, R473) -/
  held : Bool
  /-- WAIT_FLOOR_MS, and when the writes ended -/
  waitMs : Nat
  endedAt : Word
  deriving DecidableEq, Repr

/-- A crosier region (R152). -/
structure Crosier where
  mats : List Nat
  /-- entry of CROSIER_LOAD, none for an AX stream -/
  entry : Option Nat
  /-- AX instance, none for CROSIER_LOAD -/
  inst : Option Nat
  ref : Option CmdRef
  /-- 0 waiting for the border (step 1), 1 writing (steps 3, 4), 2 staying in crosier state -/
  stage : Nat
  enteredAt : Word
  /-- value of the entry's timer in ns (R152 step 2) -/
  limit : Nat
  /-- the active slot of each logical mat as it was latched at entry: its gate record gives the policy (R141) -/
  latched : List (Nat × Slot)
  /-- slot that a deferred LATE restore selects at release, by logical mat (R151, R154) -/
  back : List (Nat × Nat)
  deriving DecidableEq, Repr

/-- An AX frame port instance beside its registers (R156, R157). -/
structure Ax where
  hostMat : Nat
  permit : List Nat
  key : Option (BitVec 512)
  words : List (BitVec 32)
  /-- words of a rejected stream are discarded until the status has been returned (R160) -/
  rejecting : Bool
  /-- device time of the last word (R159) -/
  wordAt : Word
  deriving DecidableEq, Repr

/-- Contexts. -/
structure CtxState where
  /-- by physical mat × 4 + slot -/
  slots : Tab Slot
  /-- by physical mat: the codes on its wires -/
  fab : Tab MatFab
  /-- by regional tree: its clock is high -/
  clkHigh : Tab Bool
  /-- by physical mat × 16 + entry -/
  lib : Tab LibEntry
  groups : Tab Group
  loads : List LoadRun
  crosiers : List Crosier
  ax : Tab Ax
  /-- physical mats whose holds have been released; those of every other mat are held NULL (R59) -/
  released : Tab Bool
  /-- by physical mat: which mat's CLOCKED holds are stopped since device time (R86) -/
  clkHeldAt : Tab Word
  /-- VDD_F is below the greatest floor: CLOCKED holds are stopped (R86) -/
  clkStopped : Bool
  /-- FLIP sent and FLIP_ACK not yet received: tether, group, target slot (R348) -/
  acks : List (Nat × Nat × Nat)
  deriving DecidableEq, Repr

/-! ### Pacing (chapter 05) -/

/-- A PACER_SET taken and not yet in effect (R170). -/
structure PaceOp where
  ref : CmdRef
  /-- 0 stop, 1 start, 2 change -/
  op : Nat
  at_ : Word
  slackPct : Nat
  excl : Bool
  period : Nat
  margin : Nat
  deriving DecidableEq, Repr

/-- A REGION_BIND waiting for a boundary (R174). -/
structure BindOp where
  ref : CmdRef
  bind : Bool
  mats : List Nat
  anchor : Nat
  deriving DecidableEq, Repr

/-- A pacer and its region beside the PACE registers (R168 to R187). -/
structure Pacer where
  /-- logical mats of the region, rising -/
  mats : List Nat
  anchor : Option Nat
  /-- device time of the next boundary -/
  next : Word
  /-- logical mats whose done token has been taken in this period -/
  done : List Nat
  isDone : Bool
  /-- commit time (R181 step 4) -/
  tc : Option Word
  /-- the period has committed (some true) or ended LATE (some false) -/
  ended : Option Bool
  /-- its mats have withdrawn their inputs at the region's border (R180, R181, R185) -/
  withdrawn : Bool
  /-- a flush and restore runs (R181 steps 5' and 6') -/
  flushing : Bool
  /-- the boundary actions of B(n) are held or wait for the boundary swap (R147, R182) -/
  boundaryHeld : Bool
  /-- the swaps of the held boundary have not been triggered yet (R147, R182) -/
  swapsDue : Bool
  /-- the PACER_SET, REGION_BIND and bank selections of the boundary wait for the restore (R182) -/
  actsDue : Bool
  /-- FORCED conditions seen in this period (R185) -/
  forced : Bool
  first : Bool
  /-- LATE periods since the previous PERIOD_LATE -/
  lateSince : Nat
  /-- working and committed output latch (R176); PACE_OUT holds what drives the pins -/
  work : Tab Word
  committed : Tab Word
  /-- slot active at the period start, by logical mat (R151) -/
  startSlot : Tab Nat
  /-- slack of the region in the last interval in which it committed, since its pacer last started (R189) -/
  slackVal : Option Nat
  /-- least slack of the governor interval, and whether a LATE of cause 0 or 1 fell in it -/
  ivSlack : Option Nat
  ivLate : Bool
  ops : List PaceOp
  binds : List BindOp
  /-- pins of the region have left their charter after start (R428) -/
  handedOver : Bool
  /-- sampled input record words of the present period -/
  record : Tab Word
  /-- HREF was lost in this period: some true before D(n) (R169) -/
  lostBefore : Bool
  deriving DecidableEq, Repr

structure PaceState where
  pacers : Tab Pacer
  /-- device time still to be slewed, in ns, signed, and TIME ticks until the next slewed one (R167) -/
  slew : Int
  slewWait : Nat
  /-- device time runs: PLL_S has locked in P5 and HREF is present (R165) -/
  timeOn : Bool
  /-- progress towards the next tick of 4 ns of the spread correction, in millionths (R249) -/
  spread : Nat
  /-- device time of the last PTM exchange that succeeded (R166) -/
  ptmAt : Word
  deriving DecidableEq, Repr

/-! ### Maintenance (chapter 16) -/

/-- A resource lock of the maintenance arbiter (R470). -/
inductive Lock where
  | mat (m : Nat)
  /-- a mat gate as the relay of a chain -/
  | gate (m : Nat)
  | bank (b : Nat)
  | rgroup (c i g : Nat)
  | lib (m : Nat) (e : Option Nat)
  | port (p : Nat)
  | lane (x : Nat)
  | sensor (i : Option Nat)
  | rail (r : Nat)
  | pll (n : Nat)
  | pair (p : Nat)
  | nvSlot (k : Nat)
  | nvPath
  | fbPages
  | fwArea
  | triModel
  deriving DecidableEq, Repr

/-- A relocation in progress (R457). -/
structure Reloc where
  /-- source and target physical mats, in the same order (one or two) -/
  src : List Nat
  dst : List Nat
  /-- bank indices of the bank set -/
  banks : List Nat
  /-- 0 submitted, 1 running (steps 2, 3), 2 prepared (step 4), waiting for the cut, 3 at the cut point
  (steps 5 to 7) -/
  stage : Nat
  /-- words of the source banks written since the copy began are mirrored (R457 step 2) -/
  mirroring : Bool
  grantedAt : Word
  /-- device time of its cut point (R458) -/
  cutAt : Word
  axLost : Bool
  /-- through-path chains: gate × 32 + path, and the register value -/
  chains : List (Nat × Reg)
  deriving DecidableEq, Repr

/-- What an activity of the arbiter does (R470). -/
inductive Task where
  | scrub (bank : Nat)
  | remap (bank : Nat)
  | spareSwap (c i g p : Nat)
  | reloc (r : Reloc)
  | slice (kind inst : Nat) (traverse : Bool)
  | survey (port : Nat)
  | nvImage (slot : Fin 3)
  | libLoad (mat entry : Nat)
  | commit
  | fwUpdate (target : Nat)
  | recal
  deriving DecidableEq, Repr

/-- State of an activity: waiting 1, running 2, suspended 3 (MNT_SLOTn.STATE). -/
inductive ActSt where
  | waiting
  | running
  | suspended (by_ : Nat)
  deriving DecidableEq, Repr

/-- An activity held by the arbiter (R471); place 32 is the one kept for the field-book commit. -/
structure Act where
  place : Nat
  task : Task
  locks : List Lock
  st : ActSt
  requester : Nat
  ref : Option CmdRef
  since : Word
  resource : Nat
  deriving DecidableEq, Repr

/-- Maintenance beside the MNT registers. -/
structure MntState where
  acts : List Act
  /-- activities refused with NO_SPACE whose owner submits them again 1 ms later: the time due, the
  task, its locks, requester and resource (R471) -/
  again : List (Word × Task × List Lock × Nat × Nat)
  /-- physical mats whose relocation is requested and not yet chosen (R23, R456) -/
  wanted : List Nat
  /-- relocation map: logical to physical mat (R459) -/
  matMap : Tab Nat
  /-- bank map: logical to physical bank, before remap to b8 -/
  bankMap : Tab Nat
  /-- by physical mat -/
  retired : Tab Bool
  stopped : Tab Bool
  /-- by logical mat: STATE_LOST of its last relocation -/
  lost : Tab Bool
  /-- a steward update's phase: 0 none or writing, 2 standby restarting, 3 planned failover due (R469) -/
  fwPhase : Nat
  /-- device time of the restart of the standby (R469) -/
  fwAt : Word
  /-- versions and measurements of the four copies: 0, 1 steward; 2, 3 service bundle (R466, R398); NV -/
  fwCopies : List (BitVec 32 × BitVec 512)
  /-- the firmware image in the staging buffer (R467) -/
  fwStaged : Option Firmware
  /-- chains of relocated mats, by target physical mat: through-paths (gate × 32 + path) and register values
  (R478); NV -/
  chains : List (Nat × List (Nat × Reg))
  deriving DecidableEq, Repr

/-! ### Control cores (chapter 18) -/

/-- What a core's access waits for (R204, R502, R506). -/
inductive BusWait where
  | queuePop (q : Nat)
  | queuePush (q : Nat)
  | lock
  | crossing
  deriving DecidableEq, Repr

/-- A control core (R498 to R512, R521 to R524). -/
structure Core where
  /-- held in core reset -/
  inReset : Bool
  /-- a program has been loaded since its last start and not erased (R510) -/
  program : Bool
  halted : Bool
  /-- a halt request held for a core in reset, or deferred (R522, R524): its cause -/
  haltReq : Option Nat
  deferred : Bool
  haltedAt : Word
  /-- device time of a deferred halt's request (R522) -/
  askedAt : Word
  /-- the core holds an LR/SC reservation (R522) -/
  resv : Bool
  wdRun : Bool
  /-- device time of the watchdog's last restart (R511) -/
  wdAt : Word
  wdFrozen : Bool
  pc : Word
  /-- general registers x1 to x31, by number -/
  gpr : Tab Word
  wait : Option BusWait
  /-- device time at which the wait began (R502) -/
  waitAt : Word
  /-- measurement of the program loaded (R398); 0 none -/
  measure : BitVec 512
  /-- a core reset is in progress: its cause, 0 request, 1 watchdog (R443, R445) -/
  resetBy : Option Nat
  /-- device time at which core reset was entered (R443) -/
  resetAt : Word
  /-- a program load is due (R510) -/
  loadDue : Bool
  deriving DecidableEq, Repr

structure CoreState where
  cores : Tab Core
  /-- by core × 4,096 + CSR number: the device-specific CSRs of R503 and, for the debug port, the others -/
  csr : Tab Word
  /-- by core × 262,144 + address (R500) -/
  tcm : Tab Byte
  /-- shared SRAM by address − 0x1000_0000 (R500) -/
  sram : Tab Byte
  /-- core that holds PBUS_LOCK (R506) -/
  lock : Option Nat
  /-- device time at which PBUS_LOCK was taken (R506) -/
  lockAt : Word
  /-- programs of the service bundle copies 0 and 1: by copy × 4 + service core (R509) -/
  progs : Tab (Option Prog)
  deriving DecidableEq, Repr

/-! ### Sessions and trust (chapter 13) -/

/-- An open session (R388, R389). -/
structure Session where
  tag : BitVec 16
  cls : Nat
  /-- device time of the last command bearing the tag -/
  used : Word
  deriving DecidableEq, Repr

structure SecState where
  sessions : List Session
  /-- customer root hash (R378); fuses -/
  root : Option (BitVec 512)
  /-- Boryr root and vendor debug key hash (R378, R516); fuses -/
  boryr : BitVec 512
  vendor : BitVec 512
  /-- image keys 0 to 3 (R379); NV -/
  keys : Tab (Option (BitVec 256))
  /-- password records by class (R384, R390); NV -/
  pwds : Tab (Option PwdRec)
  /-- the identity private key is held (R378, R382) -/
  identity : Bool
  /-- the identity certificates (R380) -/
  cert : List Byte
  /-- the service cores' key store (R394) -/
  keyStore : Tab Byte
  /-- the latest key challenge and when it was issued (R392) -/
  challenge : Option (BitVec 512 × Word)
  /-- device time at which the password lockout ends (R391) -/
  lockEnd : Word
  deriving DecidableEq, Repr
/-! ### Images (chapter 12) -/

/-- An image chosen at a boot (R371, R374): its source 0 A, 1 B, 2 datum, 3 tether stream. -/
structure Boot where
  source : Nat
  trial : Bool
  /-- slot that failed first -/
  failed : Option Nat
  /-- it has passed R364 and is to be applied -/
  passed : Bool
  deriving DecidableEq, Repr

/-- A verified pack being written (R373): library entries by logical mat still to be written. -/
structure PackRun where
  ref : CmdRef
  image : Image
  left : List (Nat × Nat)
  written : Nat
  /-- its QUEUED has been reported -/
  queued : Bool
  deriving DecidableEq, Repr

structure ImgState where
  /-- the image or pack in the staging buffer, the command of its last piece, and when that came (R367) -/
  staged : Option Image
  ref : Option CmdRef
  stagedAt : Word
  /-- the staging was abandoned after 10 s (R367) -/
  abandoned : Bool
  /-- image slots A, B and datum (R353, R354); NV -/
  slots : Tab (Option Image)
  boot : Option Boot
  /-- ARV and measurement of the running image (R397) -/
  running : Option (BitVec 32 × BitVec 512)
  /-- pacers that the image starts at wake (R372 step 9) -/
  starts : List Nat
  pack : Option PackRun
  /-- packs loaded since boot and the library chain (R397, R398) -/
  packs : Nat
  libChain : BitVec 512
  /-- copy of the pin charter and tether record (R353); NV -/
  charterCopy : List Byte
  tetherRecord : List (BitVec 6)
  /-- bytes of a configuration stream received (R374) -/
  streamed : Nat
  deriving DecidableEq, Repr


/-! ### Power and heat (chapter 14) -/

/-- The supplies beside the PMU registers. -/
structure PowState where
  /-- measured voltage of rail r in mV (PMU_RAIL_V) -/
  mv : Tab Nat
  /-- current of rail r in 10 mA (PMU_RAIL_I) -/
  cur : Tab Nat
  /-- lowest voltage of rail r since the last read (PMU_RAIL_MIN) -/
  low : Tab Nat
  /-- entry of rail r into warning, and its lowest voltage since -/
  warnAt : Tab Word
  warnLow : Tab Nat
  /-- VDD_B: set point in force and one requested and not yet reached, in mV (R255, R257) -/
  setB : Nat
  reqB : Option Nat
  /-- VDD_F: a set point requested and not yet reported as reached (R189) -/
  reqF : Option Nat
  /-- VDD_F is turned off by SEQ_EN4 (R412, R421) -/
  fOff : Bool
  /-- the enables that the sequencer has released: bit k - 1 for SEQ_ENk (R404) -/
  enables : BitVec 5
  /-- end of the last field-book commit started by a rail warning (R408) -/
  railCommitEnd : Option Word
  /-- NV image writes and library loads are suspended (R408) -/
  nvHeld : Bool
  /-- entry of the power cap, and since when it is active at the lower bound (R191) -/
  capAt : Option Word
  heldAt : Option Word
  /-- rails that are good in the supply sequence (R404) -/
  good : Byte
  /-- package power of the last ten 100 µs in mW, newest first (R406) -/
  samples : List Nat
  /-- POWER_DEGRADED marks by layer × 256 + column (R23, R44), and the IR-drop records of NV (R407) -/
  degraded : Tab Bool
  irRecords : Tab Bool
  deriving DecidableEq, Repr

/-- A thermal sensor (R414 to R419), or the L2 estimate's side of it. -/
structure Sensor where
  /-- it has been sampled since power-on -/
  sampled : Bool
  /-- reading and the value used, in 0.1 °C -/
  reading : BitVec 16
  used : BitVec 16
  suspect : Bool
  /-- thermal level 0 to 3 -/
  level : Nat
  /-- consecutive samples or evaluations below the level's threshold - 3 °C, for levels 1 to 3 -/
  below : List Nat
  /-- L2: consecutive evaluations within 4 °C of the estimate; else samples without a case of R415 -/
  agree : Nat
  /-- L2: T_est and T_req in 0.1 °C -/
  est : BitVec 16
  req : BitVec 16
  paced : Bool
  /-- device time of the sensor's last case of R415 (R417) -/
  caseAt : Word
  deriving DecidableEq, Repr

structure ThmState where
  /-- by layer × 256 + index -/
  sensors : Tab Sensor
  throttleAt : Word
  criticalAt : Word
  /-- device time at which an effective temperature was last seen at or above 100 °C (R421) -/
  hotAt : Word
  /-- device time at which the last recalibration was granted (R418) -/
  recalAt : Word
  /-- C_r of region r in 0.1 °C, moved from its factory value by recalibrations (R418) -/
  moved : Tab Int
  deriving DecidableEq, Repr
/-! ### Field ports and pins (chapter 10)

A pin is numbered 2 × port + 0 (pin A) or 1 (pin B) for a field port, 256 + id for a GPIO pin. -/

/-- A survey record of NV (R322). -/
structure SurveyRec where
  time : Word
  what : Nat
  pins : Nat
  changed : Bool
  result : Word
  vf : Nat
  rho : BitVec 16
  ticks : Nat
  vfpMv : Nat
  seq : Byte
  deriving DecidableEq, Repr

/-- A SURVEY that waits or runs (R317, R321). -/
structure SurveyRun where
  port : Nat
  ref : CmdRef
  what : Nat
  vf : Nat
  pins : Nat
  take : Bool
  running : Bool
  deriving DecidableEq, Repr

structure PinState where
  /-- charter state of each pin (R330) -/
  charter : Tab (BitVec 3)
  /-- causes by pin: bits 0 to 5 put it under charter (R331): 0 start-up, 1 HREF, 2 critical
  temperature, 3 UNPLACEABLE, 4 border policy CHARTER, 5 POWER_DOWN or warm reset; bit 6 border policy
  KEEP (R144) -/
  cause : Tab Byte
  /-- level that a mat's output token or a core's pin port last presented, none before the first -/
  out : Tab (Option Bool)
  /-- function writes held during a switch (R329): FP_CFG and FP_OWNER by port, GPIO_OWNER by pin id -/
  heldCfg : Tab (Option Reg)
  heldOwner : Tab (Option Reg)
  heldGpio : Tab (Option Reg)
  surveys : List SurveyRun
  /-- by port × 16 + slot; NV -/
  records : Tab (Option SurveyRec)
  /-- number of the next survey record of a port; NV -/
  recSeq : Tab Byte
  /-- bits or characters, and code errors, since a port's previous event (R333) -/
  lost : Tab Nat
  errs : Tab Nat
  /-- by port: since when its driver has been at its limit, and when it last left it (R315) -/
  limitAt : Tab Word
  limitEnd : Tab (Option Word)
  /-- by interrupt line: device time of its pad's last level change (R328) -/
  extAt : Tab (Option Word)
  /-- by field port, or by 256 + GPIO pin id: start of the function switch in progress (R329) -/
  switchAt : Tab Word
  deriving DecidableEq, Repr

/-! ### Tallies (chapter 07) -/

/-- A tally (R228); its FLAGS but for ACT_PENDING, which tells whether an action is pending. -/
structure Tally where
  id : BitVec 32
  zone : Nat
  flags : BitVec 16
  verdict : Word
  meas : List (BitVec 32)
  birthPos : BitVec 48
  birthTime : Word
  lastUs : Nat
  /-- how far behind BIRTH_POS the track position has come so far: points up to there have fallen (R231) -/
  reached : Int
  deriving DecidableEq, Repr

/-- A pending gate action (R233). -/
structure Action where
  track : Nat
  engine : Nat
  station : Nat
  /-- tally id, 0 for an untracked item -/
  tally : Nat
  pin : Nat
  level : Bool
  pon : BitVec 48
  len : Nat
  pulse : Bool
  asserted : Bool
  /-- it has asserted its pin at some time -/
  acted : Bool
  /-- device time of its assertion -/
  since : Word
  deriving DecidableEq, Repr

/-- A stimulus with its station's settings as they were when it was taken (R229, R241). -/
structure Stim where
  station : Nat
  track : Nat
  cfg : Reg
  offset : Reg
  win : Reg
  pos : BitVec 48
  /-- verdict value of the token or write -/
  value : Nat
  meas : BitVec 32
  /-- the 5 ns period of FPD in which it was taken, and its place among the stimuli of that period: its trigger, then
  its station (R229) -/
  at_ : Nat
  rank : Nat
  deriving DecidableEq, Repr

/-- A token of a paced mat kept until its period commits (R238). -/
inductive PacedTok where
  | note (mat : Nat) (token : BitVec 96) (pos : BitVec 48)
  | axis (mat : Nat) (pos : BitVec 48)
  deriving DecidableEq, Repr

/-- A TRACK_SET OP 3 that waits for a boundary (R240). -/
structure BankOp where
  ref : CmdRef
  track : Nat
  bank : Nat
  pacer : Nat
  at_ : Word
  deriving DecidableEq, Repr

structure TalState where
  /-- live tallies of a track in birth order -/
  tallies : Tab (List Tally)
  acts : List Action
  /-- stimulus buffer of an engine, oldest first (R229) -/
  stims : Tab (List Stim)
  /-- record buffer of an engine: track and record (R237) -/
  recs : Tab (List (Nat × Tally))
  /-- tokens taken in the period of a pacer, oldest first (R238) -/
  paced : Tab (List PacedTok)
  /-- tokens of a pacer's committed periods that wait for room in a stimulus buffer, oldest first (R229, R238) -/
  committed : Tab (List PacedTok)
  bankOps : List BankOp
  /-- position of the last edge that a station took (R227) -/
  lastEdge : Tab (Option (BitVec 48))
  /-- levels of A and B last taken for a track's encoder (R223) -/
  enc : Tab (BitVec 2)
  deriving DecidableEq, Repr

/-! ### Lanes and tethers (chapter 11) -/

structure LaneState where
  /-- by lane: when an enabled lane went down (R350) -/
  downAt : Tab (Option Word)
  /-- by lane: tokens lost since the previous LANE_OVERRUN (R350) -/
  lost : Tab Nat
  /-- by lane: between a start block and its terminate block on the transmit side (R342) -/
  inFrame : Tab Bool
  /-- by 2 × lane + direction (0 receive, 1 transmit): start blocks so far (R343) -/
  starts : Tab Byte
  /-- by tether: blocks freed by the follower (R347) -/
  credits : Tab Nat
  /-- by tether: consecutive offsets within ± 4 ns (R349) -/
  aligned : Tab Nat
  /-- by lane in a near-end loopback: what it has sent and not yet received, oldest first (R344) -/
  looped : Tab (List (BitVec 72 × LaneBlock))
  /-- device time of the lead's last TIME (R349) -/
  sentAt : Option Word
  deriving DecidableEq, Repr

/-! ### Clocks (chapter 08) -/

/-- An operating-point transition (R257): entry entered and left; whether VDD_B is raised; whether its set
point has been requested. -/
structure OpRun where
  dest : Nat
  orig : Nat
  raising : Bool
  requested : Bool
  deriving DecidableEq, Repr

structure ClkState where
  op : Option OpRun
  /-- entry into HALVED (R258) -/
  halvedAt : Word
  /-- by regional tree: a switch in progress has released the old source (R262 step 2) -/
  released : Tab Bool
  /-- by regional tree: the bridges of its islands are flushed and refuse traffic (R272) -/
  refusing : Tab Bool
  /-- by regional tree: device time at which the switch in progress was started (R262) -/
  switchAt : Tab Word
  deriving DecidableEq, Repr

/-! ### Start-up (chapter 15) -/

structure DevState where
  /-- phase P0: VAUX is below its reset level -/
  off : Bool
  /-- a device warm reset in progress: its requester code (R445), and whether P3 has been entered -/
  warm : Option (Nat × Bool)
  /-- VDD_F after its reset level (R412): 0 in service, 1 SEQ_EN4 held, 2 released, 3 good -/
  fRestart : Nat
  /-- device time of the entry into that phase -/
  fAt : Word
  /-- device time at which PLL_S locked (R374) -/
  lockAt : Word
  /-- rail at its reset level whose recovery restarts start-up from P2 (R412) -/
  restart : Option Nat
  deriving DecidableEq, Repr

/-! ### Debug (chapter 18) -/

structure DbgState where
  /-- TAP instruction, and what the next Capture-DR of DBG_REG loads (R513, R514) -/
  ir : BitVec 6
  capture : BitVec 48
  /-- when the challenge of DBG_CHALLENGEk was drawn, while it is held (R516) -/
  challengeAt : Option Word
  /-- device time of the last DBG_REG access (R518) -/
  lastAt : Word
  /-- erasure-pending mark: the method of the opening (R517); NV -/
  pendingErase : Option Nat
  deriving DecidableEq, Repr


/-! ### Self-test and the field book (chapter 17) -/

/-- What NV keeps of a unit's slices (R480, R481, R497). -/
structure BistUnit where
  outcome : Nat
  suspect : Bool
  calKept : Bool
  duration : Nat
  sig : Word
  bench : Option Word
  deriving DecidableEq, Repr

structure BistState where
  /-- by kind × 4,096 + instance -/
  units : Tab BistUnit
  /-- POWER_DOWN: 0 none, 1 steps 1 and 2 (commit), 3 traverse, 4 done or given up (R485) -/
  down : Nat
  downRef : Option CmdRef
  /-- slices run and failed in the traverse -/
  ran : Nat
  bad : Nat
  /-- units of the traverse whose slice has not been submitted yet, in its order (R486) -/
  left : List (Nat × Nat)
  /-- the clean record of NV (R485, R487) -/
  clean : Bool
  deriving DecidableEq, Repr

/-- A field-book commit (R489, R490) and the page it makes. -/
structure Page where
  commit : BitVec 32
  cause : Nat
  extras : List (Nat × BitVec 32)
  seq : BitVec 32
  time : Word
  entries : List Event
  deriving DecidableEq, Repr

structure FbState where
  /-- the ring, oldest first, at most 4,096 entries (R488) -/
  ring : List Event
  /-- the commit that runs, its page number and the FIELDBOOK_MARK that waits for its end -/
  run : Option (Nat × Page)
  markRef : Option CmdRef
  pages : Tab (Option Page)
  wearRaised : Bool
  deriving DecidableEq, Repr

/-! ### The whole state -/

/-- The state of the KY5120. -/
structure State where
  /-- commands waiting, first in, first out (the model's own) -/
  pending : List Instr
  /-- the register file (R8, R40, R305) -/
  regs : Tab Reg
  /-- device time in ns (R36, R165) -/
  time : Word
  ev : EvState
  host : HostState
  que : QueState
  mem : MemState
  col : ColState
  ctx : CtxState
  pace : PaceState
  mnt : MntState
  bist : BistState
  fb : FbState
  core : CoreState
  sec : SecState
  img : ImgState
  pow : PowState
  thm : ThmState
  pins : PinState
  tal : TalState
  lane : LaneState
  clk : ClkState
  dev : DevState
  dbg : DbgState
  /-- what the device has sent to the outside, in order (the model's own) -/
  out : List Out
  /-- free values used so far (the model's own, log entry 6) -/
  free : Nat
  deriving DecidableEq, Repr

/-- Device state right after power-on, when VAUX has become good: phase P1 (R404, R426).  Every table is
empty, which is every entry at its default (Flags.lean); registers stand at their reset values.  What NV and
fuses hold is a device that nothing has been provisioned into (log entry 9). -/
def State.reset : State :=
  { pending := [], regs := [], time := 0,
    ev := { seq := 0, limit := [], latch := [] },
    host := { rings := [], cmds := [], hbAt := 0, hbRun := false, absentAt := 0, perst := false, latch := [],
              window := [], pf0 := fnConfig 0x5120, pf1 := fnConfig 0x5121 },
    que := { queues := [], epoch := [], latch := [], held := [] },
    mem := { words := [], resp := [], mirrored := [] },
    col := { groups := [], out := [], kept := [], restoring := [], own := [], reread := [], ahead := [], repairs := [], retests := [],
             open_ := [], failing := [], badWires := [], ues := [], spareClean := [] },
    ctx := { slots := [], fab := [], clkHigh := [], lib := [], groups := [], loads := [], crosiers := [], ax := [], released := [],
             clkHeldAt := [], clkStopped := false, acks := [] },
    pace := { pacers := [], slew := 0, slewWait := 0, timeOn := false, spread := 0, ptmAt := 0 },
    mnt := { acts := [], again := [], wanted := [], matMap := [], bankMap := [], retired := [], stopped := [],
             lost := [], fwPhase := 0, fwAt := 0, fwCopies := [(0, 0), (0, 0), (0, 0), (0, 0)],
             fwStaged := none, chains := [] },
    bist := { units := [], down := 0, downRef := none, ran := 0, bad := 0, left := [], clean := false },
    fb := { ring := [], run := none, markRef := none, pages := [], wearRaised := false },
    core := { cores := [], csr := [], tcm := [], sram := [], lock := none, lockAt := 0, progs := [] },
    sec := { sessions := [], root := none, boryr := 0, vendor := 0, keys := [], pwds := [], identity := true,
             cert := [], keyStore := [], challenge := none, lockEnd := 0 },
    img := { staged := none, ref := none, stagedAt := 0, abandoned := false, slots := [], boot := none,
             running := none, starts := [], pack := none, packs := 0, libChain := 0, charterCopy := [],
             tetherRecord := [], streamed := 0 },
    pow := { mv := [], cur := [], low := [], warnAt := [], warnLow := [], setB := 820, reqB := none,
             reqF := none, fOff := false, enables := 0, railCommitEnd := none, nvHeld := false, capAt := none,
             heldAt := none, good := 0, samples := [], degraded := [], irRecords := [] },
    thm := { sensors := [], throttleAt := 0, criticalAt := 0, hotAt := 0, recalAt := 0, moved := [] },
    pins := { charter := [], cause := [], out := [], heldCfg := [], heldOwner := [], heldGpio := [],
              surveys := [], records := [], recSeq := [], lost := [], errs := [], limitAt := [], limitEnd := [], extAt := [], switchAt := [] },
    tal := { tallies := [], acts := [], stims := [], recs := [], paced := [], committed := [], bankOps := [], lastEdge := [],
             enc := [] },
    lane := { downAt := [], lost := [], inFrame := [], starts := [], credits := [], aligned := [], looped := [], sentAt := none },
    clk := { op := none, halvedAt := 0, released := [], refusing := [], switchAt := [] },
    dev := { off := false, warm := none, fRestart := 0, fAt := 0, lockAt := 0, restart := none },
    dbg := { ir := 1, capture := 0, challengeAt := none, lastAt := 0, pendingErase := none },
    out := [], free := 0 }

end Sys2Proof.Machine
end

