-- ==== Sys2Proof/Machine/Operands.lean ====
section
/-! DEFINITION.  Operand forms: status codes, identifiers, source ids, event codes, record layouts and
the bit-field helpers that the meanings use (R6, R9, R12, R28 to R31, R292, R294). -/

namespace Sys2Proof.Machine

open Sys2Proof

/-! Status codes (R12). -/

def stOK : Nat := 0x00
def stQUEUED : Nat := 0x01
def stBUSY : Nat := 0x02
def stREFUSED : Nat := 0x03
def stAUTH : Nat := 0x04
def stBAD_ARG : Nat := 0x05
def stNO_SPACE : Nat := 0x06
def stTIMEOUT : Nat := 0x07
def stTRUNCATED : Nat := 0x10
def stWRONG_DEVICE : Nat := 0x11
def stSIGNATURE : Nat := 0x12
def stTAG : Nat := 0x13
def stROLLBACK : Nat := 0x14
def stFORMAT : Nat := 0x15
def stCONTENTION : Nat := 0x20
def stSWAP_TIMEOUT : Nat := 0x21
def stUNPLACEABLE : Nat := 0x22
def stQUEUE_FAULT : Nat := 0x30
def stTALLY_FULL : Nat := 0x31
def stHW_FAULT : Nat := 0x40

/-! Numbers and bytes (R6). -/

/-- n bytes of a number, least significant first. -/
def leBytes : Nat → Nat → List Byte
  | 0, _ => []
  | n + 1, v => BitVec.ofNat 8 v :: leBytes n (v / 256)

/-- The number that bytes spell, least significant first. -/
def ofLeBytes : List Byte → Nat
  | [] => 0
  | b :: bs => b.toNat + 256 * ofLeBytes bs

/-- Bit i of a number. -/
def bitAt (v i : Nat) : Bool := v / 2 ^ i % 2 = 1

/-- w bits of a number from bit lo. -/
def bitsAt (v lo w : Nat) : Nat := v / 2 ^ lo % 2 ^ w

/-- A number with the w bits from bit lo replaced. -/
def setBits (v lo w x : Nat) : Nat :=
  v - bitsAt v lo w * 2 ^ lo + x % 2 ^ w * 2 ^ lo

/-- A Bool as a bit. -/
def b2n (b : Bool) : Nat := if b then 1 else 0

/-- A number limited to w bits by saturation. -/
def satBits (w v : Nat) : Nat := if v < 2 ^ w then v else 2 ^ w - 1

/-- A w-bit number as a signed integer. -/
def signedOf (w v : Nat) : Int := if v % 2 ^ w < 2 ^ (w - 1) then (v % 2 ^ w : Nat) else (v % 2 ^ w : Nat) - (2 ^ w : Nat)

/-- An integer as a w-bit two's complement number. -/
def toBits (w : Nat) (v : Int) : Nat := (v % (2 ^ w : Nat)).toNat

/-! Lists of numbers kept rising without repeats. -/

def insNat (x : Nat) : List Nat → List Nat
  | [] => [x]
  | y :: ys => if x < y then x :: y :: ys else if x = y then y :: ys else y :: insNat x ys

def delNat (x : Nat) (l : List Nat) : List Nat := l.filter (fun y => decide (y ≠ x))

/-- 0, 1, ..., n - 1. -/
def upto (n : Nat) : List Nat := List.range n

/-! Identifiers (R9). -/

/-- Column of a physical mat id. -/
def matCol (m : Nat) : Nat := m % 256
/-- 0 for an L1 mat, 1 for an L3 mat. -/
def matG (m : Nat) : Nat := m / 256 % 2
/-- Layer number of a mat. -/
def matLayer (m : Nat) : Nat := if matG m = 0 then 1 else 3
/-- The mat of a column in a logic layer. -/
def matOf (c g : Nat) : Nat := 256 * g + c
/-- Regional clock tree of a mat: one for each 4 × 4 mats of a logic layer (R18, R83). -/
def matTree (m : Nat) : Nat := 4 * (matCol m / 16 / 4) + matCol m % 16 / 4 + 16 * matG m

/-- Column of a physical bank id (R9). -/
def bankCol (b : Nat) : Nat := if b < 2048 then b / 8 else b - 2048
/-- Bank number b0 to b8 of a physical bank id. -/
def bankIdx (b : Nat) : Nat := if b < 2048 then b % 8 else 8
/-- Physical bank id of bank b of a column. -/
def bankId (c b : Nat) : Nat := if b < 8 then 8 * c + b else 2048 + c
/-- Quadrant of a column: which 8 × 8 quarter of the grid it lies in (R18). -/
def colQuad (c : Nat) : Nat := (c % 16) / 8 + 2 * (c / 128)
/-- Number of a requester, for latches kept by requester (R38, R202). -/
def reqNo : Requester → Nat
  | .host => 0
  | .pair b => 1 + b.val
  | .service k => 3 + k.val
  | .debug => 7
/-- First core number of a requester that is a control core. -/
def reqCore : Requester → Option Nat
  | .pair b => some (2 * b.val)
  | .service k => some (4 + k.val)
  | _ => none

/-- Error correction finds an uncorrectable error. -/
def eccUe : Ecc → Bool
  | .ue _ _ => true
  | _ => false

/-! Source ids (R29, R30). -/

def srcId (layer idx sub : Nat) : Nat := layer * 8192 + idx % 256 * 32 + sub % 32
/-- A source with an id spread over block indices: base + id div 32, sub-unit id mod 32. -/
def srcSpread (layer base id : Nat) : Nat := srcId layer (base + id / 32) (id % 32)
def srcMat (m sub : Nat) : Nat := srcId (matLayer m) (matCol m) sub
def srcBank (c b : Nat) : Nat := srcId 2 c b
def srcQueueEngine (c b : Nat) : Nat := srcId 2 c (9 + b)
def srcAgent (c sub : Nat) : Nat := srcId 4 c sub
def srcDev : Nat := srcId 0 0x00 0
def srcHif (f : Nat) : Nat := srcId 0 0x01 f
def srcSec : Nat := srcId 0 0x02 0
def srcDbg : Nat := srcId 0 0x03 0
def srcPmu (rail : Nat) : Nat := srcId 0 0x04 rail
def srcThm0 (i : Nat) : Nat := srcId 0 0x05 i
def srcPll (n : Nat) : Nat := srcId 0 0x06 n
def srcFbk : Nat := srcId 0 0x07 0
def srcBist : Nat := srcId 0 0x08 0
def srcGpio (pin : Nat) : Nat := srcSpread 0 0x10 pin
def srcExtl (l : Nat) : Nat := srcId 0 0x14 l
def srcPort (p : Nat) : Nat := srcSpread 0 0x20 p
def srcXl (x : Nat) : Nat := srcId 0 0x29 x
def srcTether (t : Nat) : Nat := srcId 0 0x2A t
def srcCore (n : Nat) : Nat := srcId 0 0x30 n
def srcStack : Nat := srcId 7 0x00 0
def srcArbiter : Nat := srcId 7 0x01 0
def srcPair (p : Nat) : Nat := srcId 7 0x02 p
def srcPacer (p : Nat) : Nat := srcSpread 7 0x08 p
def srcGroup (g : Nat) : Nat := srcSpread 7 0x0A g
def srcTrack (t : Nat) : Nat := srcSpread 7 0x0C t
def srcEngine (e : Nat) : Nat := srcId 7 0x0F e
def srcSuper (y : Nat) : Nat := srcId 7 0x10 y
def srcGovernor : Nat := srcId 7 0x11 0
def srcSessions : Nat := srcId 7 0x12 0
def srcConfig : Nat := srcId 7 0x20 0
def srcNv : Nat := srcId 7 0x21 0
def srcStation (st : Nat) : Nat := srcSpread 7 0x40 st

/-! Event codes (R31): severity of a code, its group. -/

def evSeverity (code : Nat) : Nat := code / 16384 % 4
def evGroup (code : Nat) : Nat := code / 256 % 64

/-- DATA bytes [18:31] of an event from (byte, length, value) fields (R28). -/
def evData (fs : List (Nat × Nat × Nat)) : BitVec 112 :=
  BitVec.ofNat 112 (fs.foldl (fun a f => a + f.2.2 % 256 ^ f.2.1 * 256 ^ (f.1 - 18)) 0)

/-- The 32 bytes of an event record (R28). -/
def eventBytes (e : Event) : List Byte :=
  leBytes 8 e.time.toNat ++ leBytes 2 e.source.toNat ++ leBytes 2 e.code.toNat ++
  leBytes 4 e.seq.toNat ++ [e.status, 0] ++ leBytes 14 e.data.toNat

/-- The 16 bytes of a completion entry (R294). -/
def complBytes (c : Compl) : List Byte :=
  leBytes 4 c.id.toNat ++ [BitVec.ofNat 8 c.status, BitVec.ofNat 8 (b2n c.final),
    BitVec.ofNat 8 c.opcode, BitVec.ofNat 8 c.ring] ++ leBytes 8 c.result.toNat

/-! Commands (R296): the least session class of an opcode, none where it is reserved.  Classes are
0 OBSERVE, 1 OPERATE, 2 MAINTAIN, 3 ADMIN. -/

inductive Need where
  | noSession
  | anyClass
  | atLeast (cls : Nat)
  deriving DecidableEq, Repr

def opcodeNeed (op : Nat) : Option Need :=
  match op with
  | 0x01 => some .noSession
  | 0x02 => some .anyClass
  | 0x03 | 0x52 | 0x70 => some (.atLeast 0)
  | 0x13 | 0x20 | 0x21 | 0x22 | 0x30 | 0x31 | 0x40 | 0x41 | 0x42 | 0x50 | 0x51 | 0x71 =>
    some (.atLeast 1)
  | 0x10 | 0x11 | 0x23 | 0x60 | 0x61 | 0x62 | 0x63 => some (.atLeast 2)
  | 0x12 | 0x80 | 0x81 => some (.atLeast 3)
  | _ => none

end Sys2Proof.Machine
end

