-- ==== Sys2Proof/Machine/Flags.lean ====
section
/-! DEFINITION.  Registers, fields and flags: the one read and the one write of the register file,
statistics counters with their SAT bits (R33), and the defaults of the state's tables. -/

namespace Sys2Proof.Machine

open Sys2Proof

/-! Bit fields of a register. -/

/-- The mask of w bits from bit lo. -/
def fldMask (lo w : Nat) : Reg := BitVec.ofNat 32 (2 ^ w - 1) <<< lo

/-- A field of a register value. -/
def fldGet (v : Reg) (lo w : Nat) : Nat := (v.extractLsb' lo w).toNat

/-- A register value with one field replaced. -/
def fldPut (v : Reg) (lo w x : Nat) : Reg :=
  (v &&& ~~~fldMask lo w) ||| ((BitVec.ofNat 32 x <<< lo) &&& fldMask lo w)

/-- A register of the register file. -/
def State.rd (s : State) (k : Nat) : Reg := Tab.get regReset s.regs k

/-- Write a register of the register file. -/
def State.wr (s : State) (k : Nat) (v : Reg) : State :=
  { s with regs := Tab.put regReset s.regs k v }

/-- A field of the register file. -/
def State.get (s : State) (f : Fld) : Nat := fldGet (s.rd f.reg) f.lo f.w

/-- Write a field of the register file. -/
def State.set (s : State) (f : Fld) (x : Nat) : State := s.wr f.reg (fldPut (s.rd f.reg) f.lo f.w x)

/-- A field that is one bit. -/
def State.flag (s : State) (f : Fld) : Bool := s.get f ≠ 0

/-- Write one bit. -/
def State.setFlag (s : State) (f : Fld) (b : Bool) : State := s.set f (b2n b)

/-- Bit i of a register. -/
def State.bit (s : State) (k i : Nat) : Bool := s.flag ⟨k, i, 1⟩

/-- Write bit i of a register. -/
def State.setBit (s : State) (k i : Nat) (b : Bool) : State := s.setFlag ⟨k, i, 1⟩ b

/-- Write a 64-bit value to a low and a high word. -/
def State.wr64 (s : State) (lo hi : Nat) (v : Word) : State :=
  (s.wr lo (v.setWidth 32)).wr hi ((v >>> 32).setWidth 32)

/-- A 64-bit value of a low and a high word. -/
def State.rd64 (s : State) (lo hi : Nat) : Word :=
  (s.rd lo).setWidth 64 ||| ((s.rd hi).setWidth 64 <<< 32)

/-- Add to a statistics counter; at 0xFFFF_FFFF it stops and its SAT bit is set (R33). -/
def State.count (s : State) (k : Nat) (sat : Fld) (n : Nat) : State :=
  if n = 0 then s
  else if (s.rd k).toNat + n < 0xFFFF_FFFF then s.wr k (BitVec.ofNat 32 ((s.rd k).toNat + n))
  else (s.wr k 0xFFFF_FFFF).setFlag sat true

/-- The SAT bit of a statistics counter, from its register class (R33). -/
def satOf (k : Nat) : Option Fld :=
  match regClass k with
  | none => none
  | some c =>
    match c.sat, regIndex c k with
    | some (base, bit, ms), some ix =>
      some ⟨(ix.zip ms).foldl (fun a p => a + p.1 * p.2.1) base,
        (ix.zip ms).foldl (fun a p => a + p.1 * p.2.2) bit, 1⟩
    | _, _ => none

/-- Clear a statistics counter and its SAT bit (R33). -/
def State.countClear (s : State) (k : Nat) : State :=
  match satOf k with
  | none => s
  | some f => (s.wr k 0).setFlag f false

/-- A fresh free value (log entry 6). -/
def State.fresh (s : State) : Word × State := (Config.freeWord s.free, { s with free := s.free + 1 })

/-- The register file with the registers that a test on keys names back at their reset values; bits
that lie in NV or in fuses stay (`kept`). -/
def resetRegs (p : Nat → Bool) (t : Tab Reg) : Tab Reg :=
  Tab.mapAll regReset (fun k v =>
    if p k then
      match regClass k with
      | some c => (v &&& BitVec.ofNat 32 c.kept) ||| (regReset k &&& ~~~BitVec.ofNat 32 c.kept)
      | none => regReset k
    else v) t

/-- Return registers to their reset values, all but the bits kept in NV or fuses. -/
def State.resetRegs (s : State) (p : Nat → Bool) : State :=
  { s with regs := Sys2Proof.Machine.resetRegs p s.regs }

/-! Defaults of the state's tables. -/

def ring0 (_ : Nat) : Ring := { p := 0, c := 0, unsig := 0, pushed := 0, held := [], since := 0 }
def nat0 (_ : Nat) : Nat := 0
def natId (k : Nat) : Nat := k
def reg0 (_ : Nat) : Reg := 0
def word0 (_ : Nat) : Word := 0
def bool0 (_ : Nat) : Bool := false
def latch0 (_ : Nat) : BitVec 6 := 0
def epoch0 (_ : Nat) : BitVec 4 := 0
def code0 (_ : Nat) : BitVec 2 := 0
def none0 {α : Type} (_ : Nat) : Option α := none
def nil0 {α : Type} (_ : Nat) : List α := []
/-- A bank word that nothing has written reads as 0 without poison (log entry 3); a word of a b8 that serves nothing
holds the test pattern (R113). -/
def memWord0 (k : Nat) : MemWord :=
  { data := if k < 2048 * 8192 then 0 else Config.testPattern (k % 8192), syn := 0, poison := false }
def own0 (_ : Nat) : List Nat × List Nat := ([], [])
def rhz0 (_ : Nat) : Rhz :=
  { failed := [], strikes := [], moved := [], used := [], exhausted := false, missed := [] }
def out0 (_ : Nat) : BitVec 4 := 0

/-- The idle frond word: inputs and switches select no source, everything else 0 (R63, R65). -/
def idleWord (_ : Nat) : BitVec 256 :=
  BitVec.ofNat 256 ((2 ^ 48 - 1) * 2 ^ 64 + (2 ^ 126 - 1) * 2 ^ 120)
def null0 (_ : Nat) : Code := .null
def fab0 (_ : Nat) : MatFab :=
  { out := [], aux := [], sel := [], wires := [], gate := [], gateAck := [], ackUp := [], bad := [] }
def ctx0 : Ctx := { words := [] }
def holds0 : Holds := { fronds := [], acc := [], res := [], lanes := [], border := [] }
def slot0 (_ : Nat) : Slot :=
  { ctx := ctx0, holds := holds0, shadow := holds0, activated := false, laneHold := [],
    charter := [], check := 0 }
def lib0 (_ : Nat) : LibEntry := { ctx := ctx0, check := 0, laneHold := [], charter := [] }
def group0 (_ : Nat) : Group :=
  { mats := [], run := none, waiting := [], timed := [], sched := none, pending := none, schedNo := 0,
    tetherFlag := false, stopWaits := false }
def ax0 (_ : Nat) : Ax := { hostMat := 0, permit := [], key := none, words := [], rejecting := false, wordAt := 0 }
def pacer0 (_ : Nat) : Pacer :=
  { mats := [], anchor := none, next := 0, done := [], isDone := false, tc := none, ended := none,
    withdrawn := false, flushing := false, boundaryHeld := false, swapsDue := false, actsDue := false, forced := false, first := false, lateSince := 0,
    work := [], committed := [], startSlot := [], slackVal := none, ivSlack := none,
    ivLate := false, ops := [], binds := [], handedOver := false, record := [], lostBefore := false }
/-- Device-specific CSRs at core reset: kbusto is 1,000 (R503). -/
def csr0 (k : Nat) : Word := if k % 4096 = 0x7C1 then 1000 else 0
def slist0 (_ : Nat) : List Stim := []
def charter0 (_ : Nat) : BitVec 3 := 0
def enc0 (_ : Nat) : BitVec 2 := 0
def byte0 (_ : Nat) : Byte := 0
/-- Before the start of its firmware or program a core stands in core reset (R510). -/
def core0 (_ : Nat) : Core :=
  { inReset := true, program := false, halted := false, haltReq := none, deferred := false,
    haltedAt := 0, askedAt := 0, resv := false, wdRun := false, wdAt := 0, wdFrozen := false, pc := 0, gpr := [],
    wait := none, waitAt := 0, measure := 0, resetBy := none, resetAt := 0, loadDue := false }
def unit0 (_ : Nat) : BistUnit :=
  { outcome := 0, suspect := false, calKept := false, duration := 0, sig := 0, bench := none }
/-- No reading yet: 0 degrees, without suspicion. -/
def sensor0 (_ : Nat) : Sensor :=
  { sampled := false, reading := 0, used := 0, suspect := false, level := 0, below := [0, 0, 0], agree := 0, est := 0, req := 0,
    paced := false, caseAt := 0 }
def int0 (_ : Nat) : Int := 0
/-- No rail has been measured: its lowest voltage reads 0xFFFF (PMU_RAIL_MIN). -/
def low0 (_ : Nat) : Nat := 0xFFFF

end Sys2Proof.Machine
end

