-- ==== Sys2Proof/Machine/Fabric.lean ====
section
/-! DEFINITION.  The fabric as the design sees it (spec/02_fronds_and_mats.md, R45 to R82): dual-rail
codes, frond functions, frond words, routing class strings, the mat gate record, first-activation codes,
format errors of a context, and MAC tiles.  Only the functions stand here: Machine/Wires.lean and Machine/FabricStep.lean
apply them. -/

namespace Sys2Proof.Machine

open Sys2Proof

/-- Rail 1 and rail 0 of a code (R45). -/
def Code.rails : Code → Bool × Bool
  | .null => (false, false)
  | .data0 => (false, true)
  | .data1 => (true, false)
  | .illegal => (true, true)

/-- The code that stands on a pair of rails (R45). -/
def Code.ofRails : Bool × Bool → Code
  | (false, false) => .null
  | (false, true) => .data0
  | (true, false) => .data1
  | (true, true) => .illegal

/-- A single-rail signal with rail 0 high is a fault (R46). -/
def Code.singleFault (c : Code) : Bool := c.rails.2

/-- Level of a single-rail signal (R46). -/
def Code.ofLevel (b : Bool) : Code := if b then .data1 else .null

def Code.isData : Code → Bool
  | .data0 | .data1 => true
  | _ => false

def Code.ofBool (b : Bool) : Code := if b then .data1 else .data0

/-- Codes as the hold state keeps them (R58): 0 NULL, 1 DATA-0, 2 DATA-1. -/
def Code.ofHold (c : BitVec 2) : Code :=
  if c = 1 then .data0 else if c = 2 then .data1 else .null

/-- The hold state of a code; a hold never captures the illegal one (R89). -/
def Code.toHold : Code → BitVec 2
  | .data0 => 1
  | .data1 => 2
  | _ => 0

/-- A code that changes by way of NULL: a driver is break-before-make, so that no DATA code follows the other one
directly (R48). -/
def Code.toward (present next : Code) : Code :=
  if present.isData ∧ next.isData ∧ present ≠ next then .null else next

/-- An input of a frond: its code, or none with the constant that a non-participating input counts as
(R54, R63). -/
structure FrondIn where
  part : Bool
  const : Bool
  code : Code
  deriving DecidableEq, Repr

/-- The value m of R54: inputs in order, DATA-1 as 1. -/
def lutIndex : List FrondIn → Nat
  | [] => 0
  | i :: is => b2n (if i.part then i.code = .data1 else i.const) + 2 * lutIndex is

def allData (is : List FrondIn) : Bool := is.all (fun i => !i.part || i.code.isData)
def allNull (is : List FrondIn) : Bool := is.all (fun i => !i.part || decide (i.code = .null))
def anyNull (is : List FrondIn) : Bool := is.any (fun i => i.part && decide (i.code = .null))

/-- Next output of an input-complete function (R54). -/
def inputComplete (is : List FrondIn) (present value : Code) : Code :=
  if allData is then value else if allNull is then .null else present

/-- LOGIC mode (R54): an island frond is not input-complete. -/
def logicOut (lut : Word) (island : Bool) (is : List FrondIn) (present : Code) : Code :=
  let v := Code.ofBool (bitAt lut.toNat (lutIndex is))
  if island then (if anyNull is then .null else if allData is then v else present)
  else inputComplete is present v

/-- JOIN mode (R55). -/
def joinOut (is : List FrondIn) (present : Code) : Code := inputComplete is present .data1

/-- STAGE mode (R55): the hold captures DATA while the acknowledge a5 is NULL, NULL while it is DATA-1. -/
def stageOut (lut : Word) (is : List FrondIn) (ack present : Code) : Code :=
  let f := inputComplete is present (Code.ofBool (bitAt lut.toNat (lutIndex is)))
  if ack = .null ∧ f.isData then f
  else if ack = .data1 ∧ f = .null then .null
  else present

/-- CARRY mode (R55, R61): output and carry out, both input-complete in a0 to a4 and the carry in.  Propagate is
LUT[31:0], generate LUT[63:32]. -/
def carryOut (lut : Word) (is : List FrondIn) (cin : FrondIn) (present carry : Code) : Code × Code :=
  let m := lutIndex is
  let c := if cin.part then decide (cin.code = .data1) else cin.const
  let p := bitAt lut.toNat m
  let g := bitAt lut.toNat (32 + m)
  (inputComplete (is ++ [cin]) present (Code.ofBool (p != c)),
   inputComplete (is ++ [cin]) carry (Code.ofBool (g || (p && c))))

/-- FORK mode (R55): copies a0, with the JOIN of the consumers' acknowledges. -/
def forkOut (a0 ack present : Code) : Code :=
  if ack = .null ∧ a0.isData then a0 else if ack = .data1 ∧ a0 = .null then .null else present

/-- CLOCKED mode at a selected edge (R60): a NULL function output leaves the hold. -/
def clockedOut (f present : Code) : Code := if f.isData then f else present

/-! ### The frond word (R62 to R68) -/

def fwLUT (w : BitVec 256) : Word := w.extractLsb' 0 64
def fwINSEL (w : BitVec 256) (i : Nat) : Nat := (w.extractLsb' (64 + 8 * i) 8).toNat
def fwMODE (w : BitVec 256) : Nat := (w.extractLsb' 112 3).toNat
def fwINIT (w : BitVec 256) : Nat := (w.extractLsb' 115 2).toNat
def fwEDGE (w : BitVec 256) : Bool := w.getLsbD 117
def fwISLAND (w : BitVec 256) : Bool := w.getLsbD 118
def fwCB (w : BitVec 256) : Nat := (w.extractLsb' 246 8).toNat

/-- The word of a frond of a context. -/
def Ctx.word (c : Ctx) (f : Nat) : BitVec 256 := Tab.get idleWord c.words f

/-- A routing class (R64): its lowest routing bit and its bits per frond. -/
structure RouteClass where
  base : Nat
  n : Nat
  deriving DecidableEq, Repr

def clsTL : RouteClass := ⟨0, 48⟩
def clsMT : RouteClass := ⟨48, 56⟩
def clsOB : RouteClass := ⟨104, 8⟩
def clsAX : RouteClass := ⟨112, 2⟩
def clsTK : RouteClass := ⟨114, 2⟩
def clsMP : RouteClass := ⟨116, 2⟩
def clsMC : RouteClass := ⟨118, 8⟩
def clsGT : RouteClass := ⟨134, 2⟩

/-- Bit i of a class string (R64). -/
def Ctx.clsBit (c : Ctx) (k : RouteClass) (i : Nat) : Bool :=
  (c.word (i / k.n)).getLsbD (120 + k.base + i % k.n)

/-- w bits of a class string from bit i. -/
def Ctx.clsBits (c : Ctx) (k : RouteClass) (i : Nat) : Nat → Nat
  | 0 => 0
  | w + 1 => b2n (c.clsBit k i) + 2 * c.clsBits k (i + 1) w

/-- Code of switch s of an 8-bit class. -/
def Ctx.switch (c : Ctx) (k : RouteClass) (s : Nat) : Nat := c.clsBits k (8 * s) 8

/-- The context drives trunk lane k (R104). -/
def Ctx.drivesLane (c : Ctx) (lane : Nat) : Bool := c.switch clsTK lane ≠ 0xFF

/-! Mat gate record (R69). -/

def Ctx.outSpan (c : Ctx) (h : Nat) : Nat := c.clsBits clsGT (2 * h) 2
def Ctx.inSpan (c : Ctx) (h : Nat) : Nat := c.clsBits clsGT (128 + 2 * h) 2
def Ctx.inHold (c : Ctx) (h : Nat) : Bool := c.clsBit clsGT (256 + h)
def Ctx.floor (c : Ctx) : Nat := c.clsBits clsGT 320 8
def Ctx.regchEn (c : Ctx) : Bool := c.clsBit clsGT 328
def Ctx.doneEn (c : Ctx) : Bool := c.clsBit clsGT 329
def Ctx.swapreqEn (c : Ctx) : Bool := c.clsBit clsGT 330

/-- The context has a CLOCKED frond. -/
def Ctx.clocked (c : Ctx) : Bool := c.words.any (fun e => decide (fwMODE e.2 = 5))

/-- The context reaches the banks by its memory port: some request bit has a source (R65, R453). -/
def Ctx.usesPort (c : Ctx) : Bool := (upto 256).any (fun k => decide (c.switch clsMP k ≠ 0xFF))

/-- First-activation code of a frond's hold (R58): 0 NULL, 1 DATA-0, 2 DATA-1. Fronds without a hold keep
none. -/
def firstCode (w : BitVec 256) : BitVec 2 :=
  match fwMODE w with
  | 1 | 4 => if fwINIT w = 1 then 1 else if fwINIT w = 2 then 2 else 0
  | 5 => if fwINIT w = 2 then 2 else 1
  | _ => 0

/-- First-activation codes of all frond holds of a context (R58, R127). -/
def Ctx.firstFronds (c : Ctx) : Tab (BitVec 2) :=
  (c.words.map (fun e => (e.1, firstCode e.2))).filter (fun e => decide (e.2 ≠ 0))

/-- Where an outbound channel ends (R72, R73): the mat and inbound channel at distance d in its direction,
none outside the 16 × 16 grid (R74). -/
def channelEnd (m h span : Nat) : Option (Nat × Nat) :=
  let d := if span = 1 then 1 else if span = 2 then 3 else 15
  let x := matCol m % 16
  let y := matCol m / 16
  let e := 16 * ((h / 16 + 2) % 4) + h % 16
  match h / 16 with
  | 0 => if y + d < 16 then some (matOf (x + 16 * (y + d)) (matG m), e) else none
  | 1 => if x + d < 16 then some (matOf (x + d + 16 * y) (matG m), e) else none
  | 2 => if d ≤ y then some (matOf (x + 16 * (y - d)) (matG m), e) else none
  | _ => if d ≤ x then some (matOf (x - d + 16 * y) (matG m), e) else none

/-- A context fits a mat: no used outbound channel ends outside the grid (R74). -/
def Ctx.fits (c : Ctx) (m : Nat) : Bool :=
  (upto 64).all (fun h => decide (c.outSpan h = 0) || (channelEnd m h (c.outSpan h)).isSome)

/-! Format errors (R54, R61 to R70). -/

def inselOk (c : Nat) : Bool := decide (c ≤ 0x6F ∨ c = 0xF0 ∨ c = 0xF1 ∨ c = 0xFF)

def cbOk (frond cb : Nat) : Bool :=
  decide (cb / 32 = 0) && !(bitAt cb 0 && decide (frond = 0)) &&
    (!bitAt cb 1 || decide (1 ≤ bitsAt cb 2 3 ∧ bitsAt cb 2 3 ≤ 4))

def frondWordOk (frond : Nat) (w : BitVec 256) : Bool :=
  (upto 6).all (fun i => inselOk (fwINSEL w i)) && decide (fwMODE w ≤ 5) && decide (fwINIT w ≤ 2) &&
  (!fwEDGE w || decide (fwMODE w = 5)) && (!fwISLAND w || decide (fwMODE w = 0)) && !w.getLsbD 119 &&
  cbOk frond (fwCB w)

/-- The bits of a frond word that are reserved, without those of codes: bit 119, CB[7:5], and what the word holds of the
gate record's bits from 331 on (R62, R64, R67, R69). -/
def frondReservedOk (frond : Nat) (w : BitVec 256) : Bool :=
  !w.getLsbD 119 && decide (fwCB w / 32 = 0) &&
    [0, 1].all (fun j => decide (2 * frond + j < 331) || !w.getLsbD (254 + j))

/-- A switch code is no reserved code: 0xFF, or a source of the multiplexer (R65). -/
def switchOk (cls k code : Nat) : Bool := code = 0xFF || (Config.switchSource cls k code).isSome

/-- Switches of each class with their codes in range; reserved port and MAC bits select 0xFF (R64, R80,
R109). -/
def Ctx.switchesOk (c : Ctx) : Bool :=
  (upto 6144).all (fun k => switchOk 0 k (c.switch clsTL k)) &&
  (upto 7168).all (fun k => switchOk 1 k (c.switch clsMT k)) &&
  (upto 1024).all (fun k => switchOk 2 k (c.switch clsOB k)) &&
  (upto 256).all (fun k => switchOk 3 k (c.switch clsAX k)) &&
  (upto 256).all (fun k => switchOk 4 k (c.switch clsTK k)) &&
  (upto 256).all (fun k => if 93 ≤ k % 128 then decide (c.switch clsMP k = 0xFF) else switchOk 5 k (c.switch clsMP k)) &&
  (upto 1024).all (fun k => if 122 ≤ k % 128 then decide (c.switch clsMC k = 0xFF) else switchOk 6 k (c.switch clsMC k))

/-- The gate record: FLOOR to 80, reserved bits 0 (R69). -/
def Ctx.gateOk (c : Ctx) : Bool :=
  decide (c.floor ≤ 80) && (upto 1717).all (fun i => !c.clsBit clsGT (331 + i))

/-- A context without a format error of this chapter (R66), on the given mat (R74). -/
def Ctx.formatOk (c : Ctx) (m : Nat) : Bool :=
  c.words.all (fun e => frondWordOk e.1 e.2) && c.switchesOk && c.gateOk && c.fits m

/-! ### Wide multiplexers (R67, R70, R71) -/

/-- A multiplexer's output: complete on its select bits and on the selected data input only (R71).  Once all are
DATA it takes the selected input's code and keeps which one it was; it returns to NULL when the select bits and
that input have.  Answers the output and the input kept, 0 none, n + 1 input n. -/
def muxOut (sel : List FrondIn) (data : Nat → FrondIn) (present : Code) (kept : Nat) : Code × Nat :=
  let i := lutIndex sel
  let value (x : FrondIn) : Code := if x.part then x.code else Code.ofBool x.const
  if allData sel ∧ allData [data i] then (value (data i), i + 1)
  else if allNull sel ∧ (kept = 0 ∨ allNull [data (kept - 1)]) then (.null, 0)
  else (present, kept)

/-- The selected input of a wide multiplexer from its select value: tuft, frond and data input.  s0 and s1 choose
within a frond, s2 to s4 the frond, s5 to s7 the tuft (R70). -/
def wideMuxIndex (sel : Nat) : Nat × Nat × Nat := (bitsAt sel 5 3, bitsAt sel 2 3, bitsAt sel 0 2)

def fwCOMB (w : BitVec 256) : Bool := bitAt (fwCB w) 1
def fwCHAIN (w : BitVec 256) : Bool := bitAt (fwCB w) 0

/-- Tufts of the multiplexer that a frond takes part in (R67). -/
def fwCombTufts (w : BitVec 256) : Nat := 2 ^ (bitsAt (fwCB w) 2 3 - 1)

/-! ### MAC tiles (R80, R81) -/

/-- What an operation of a MAC tile leaves and answers: the accumulator after, the result, OVF. -/
structure MacOut where
  acc : Word
  result : Word
  ovf : Bool
  deriving DecidableEq, Repr

/-- The exact signed value of the operation and whether the accumulator takes it. -/
def macExact (op : Nat) (a b acc : Int) : Int :=
  match op with
  | 1 => a * b
  | 2 => acc + a * b
  | 3 => acc - a * b
  | 5 => acc + a * b
  | _ => acc

def fits64 (x : Int) : Bool := decide (-(2 ^ 63 : Int) ≤ x ∧ x < 2 ^ 63)

/-- One operation of a MAC tile (R80, R81). -/
def macOp (input : BitVec 122) (acc : Word) : MacOut :=
  let a := (input.extractLsb' 0 27).toInt
  let b := (input.extractLsb' 27 27).toInt
  let c : Word := input.extractLsb' 54 64
  let op := (input.extractLsb' 118 4).toNat
  let x := macExact op a b acc.toInt
  match op with
  | 1 | 2 | 3 => { acc := BitVec.ofInt 64 x, result := BitVec.ofInt 64 x, ovf := !fits64 x }
  | 4 => { acc := c, result := c, ovf := false }
  | 5 => { acc := 0, result := BitVec.ofInt 64 x, ovf := !fits64 x }
  | _ => { acc := acc, result := acc, ovf := false }

end Sys2Proof.Machine
end

