-- ==== Sys2Proof/Machine/Ops.lean ====
section
/-! DEFINITION.  The shared operations: rings and what is sent to the host (R288 to R295), the
maintenance arbiter (R470 to R475), field-book commits (R488 to R490), events (R28 to R33, R297,
R505 to R508, R547), completions and the frame of every host command (R293, R296), and the maps of
mats and banks (R459). -/

namespace Sys2Proof.Machine

open Sys2Proof

/-- Send something to the outside. -/
def State.emit (s : State) (o : Out) : State := { s with out := s.out ++ [o] }

/-- A timer that was started at a device time has run for some ns.  Timers of the fabric and of commands run on
their own when device time stands still (R51), so that then any wait may have ended. -/
def State.elapsed (s : State) (since : Word) (ns : Nat) : Bool :=
  !s.pace.timeOn || decide (ns ≤ (s.time - since).toNat)

/-- Nanoseconds of n core cycles at the operating point in force: the core clock is 8,000 MHz / ROOT_DIV, halved with
the root (R251, R252, R255, R258). -/
def State.coreCycles (s : State) (n : Nat) : Nat :=
  n * s.get (CLK_OP_ROOT_DIV (s.get CLK_STATUS_OP_CUR)) / 8 * (if s.flag CLK_STATUS_HALVED then 2 else 1)

/-- Nanoseconds of n cycles of the PBUS clock in force: root / PBUS_DIV (R252, R329). -/
def State.pbusCycles (s : State) (n : Nat) : Nat := s.coreCycles (n * s.get CLK_DIV_PBUS_DIV)

/-- Whether a mat's holds are held NULL: its outputs are NULL, so it presents no token (R48, R59). -/
def State.heldNull (s : State) (m : Nat) : Bool := !Tab.get bool0 s.ctx.released m

/-! ### Rings -/

/-- Key of a ring's register: HIF for rings 0 to 63, HDR for data rings (R304, R305). -/
def ringKey (n off : Nat) : Nat := if n < 64 then 0x1800 + 0x20 * n + off else 0x1080000 + 0x20 * n + off

def ringBaseLo (n : Nat) : Nat := ringKey n 0x00
def ringMirrorLo (n : Nat) : Nat := ringKey n 0x08
def ringCfg (n : Nat) : Nat := ringKey n 0x10
def ringAux (n : Nat) : Nat := ringKey n 0x14
def ringEN (n : Nat) : Fld := ⟨ringKey n 0x10, 0, 1⟩
def ringKIND (n : Nat) : Fld := ⟨ringKey n 0x10, 1, 2⟩
def ringSIZE (n : Nat) : Fld := ⟨ringKey n 0x10, 3, 5⟩
def ringVECTOR (n : Nat) : Fld := ⟨ringKey n 0x10, 8, 11⟩
def ringVEC_EN (n : Nat) : Fld := ⟨ringKey n 0x10, 19, 1⟩
def ringMIN_SEV (n : Nat) : Fld := ⟨ringKey n 0x10, 20, 2⟩
def ringCOUNT (n : Nat) : Fld := ⟨ringKey n 0x18, 0, 16⟩
def ringUS (n : Nat) : Fld := ⟨ringKey n 0x18, 16, 16⟩
def ringSTATE (n : Nat) : Fld := ⟨ringKey n 0x1C, 0, 2⟩
def ringCAUSE (n : Nat) : Fld := ⟨ringKey n 0x1C, 2, 2⟩
def ringREFUSED (n : Nat) : Fld := ⟨ringKey n 0x1C, 4, 1⟩

/-- Entries of a ring. -/
def State.ringSize (s : State) (n : Nat) : Nat := 2 ^ s.get (ringSIZE n)

/-- The dynamic part of a ring. -/
def State.ring (s : State) (n : Nat) : Ring := Tab.get ring0 s.host.rings n

def State.setRing (s : State) (n : Nat) (r : Ring) : State :=
  { s with host := { s.host with rings := Tab.put ring0 s.host.rings n r } }

/-- The ring is RUNNING with the given KIND. -/
def State.ringRuns (s : State) (n kind : Nat) : Bool :=
  s.get (ringSTATE n) = 1 ∧ s.get (ringKIND n) = kind

/-- The ring is full (R288). -/
def State.ringFull (s : State) (n : Nat) : Bool :=
  ((s.ring n).p + 2 * s.ringSize n - (s.ring n).c) % (2 * s.ringSize n) = s.ringSize n

/-- The ring is empty (R288). -/
def State.ringEmpty (s : State) (n : Nat) : Bool := (s.ring n).p = (s.ring n).c

/-- Host-facing DMA runs: the link is up and PERST# is not asserted (R279, R281). -/
def State.dmaOn (s : State) : Bool := s.flag HIF_STATUS_LINK_UP && !s.host.perst

/-- Host address of an entry (R288); the low bits of BASE are ignored. -/
def State.entryAddr (s : State) (n idx size : Nat) : Word :=
  BitVec.ofNat 64 ((s.rd64 (ringBaseLo n) (ringBaseLo n + 4)).toNat / 4096 * 4096
    + idx % s.ringSize n * size)

/-- The mirror write of a ring's device-side index (R288). -/
def State.mirror (s : State) (n idx : Nat) : State :=
  s.emit (.hostWrite (BitVec.ofNat 64 ((s.rd64 (ringMirrorLo n) (ringMirrorLo n + 4)).toNat / 8 * 8))
    (leBytes 8 idx))

/-- Raise the ring's MSI-X message and start counting anew (R291). -/
def State.ringMsg (s : State) (n : Nat) : State :=
  let s := s.setRing n { s.ring n with unsig := 0 }
  if s.flag (ringVEC_EN n) then s.emit (.msix (if n < 64 then 0 else 1) (s.get (ringVECTOR n))) else s

/-- Count one produced or written-back entry towards the ring's message (R291). -/
def State.ringSignal (s : State) (n : Nat) : State :=
  let r := s.ring n
  let s := s.setRing n { r with unsig := r.unsig + 1, since := if r.unsig = 0 then s.time else r.since }
  if s.flag (ringVEC_EN n) ∧ max 1 (s.get (ringCOUNT n)) ≤ r.unsig + 1 then s.ringMsg n else s

/-- Produce one entry of a completion or event ring: entry, mirror, message (R288). -/
def State.produce (s : State) (n size : Nat) (bytes : List Byte) : State :=
  let r := s.ring n
  let s := s.emit (.hostWrite (s.entryAddr n r.p size) bytes)
  let p := (r.p + 1) % (2 * s.ringSize n)
  let s := s.setRing n { r with p := p }
  (s.mirror n p).ringSignal n

/-! ### Arbiter -/

/-- Activity code of a task (R470). -/
def taskCode : Task → Nat
  | .scrub _ => 1
  | .remap _ => 2
  | .spareSwap _ _ _ _ => 3
  | .reloc _ => 4
  | .slice _ _ _ => 5
  | .survey _ => 6
  | .nvImage _ => 7
  | .libLoad _ _ => 8
  | .commit => 9
  | .fwUpdate _ => 10
  | .recal => 11

/-- Two locks name a common resource.  A rhizoid group lies in its column: it meets a mat of that
column (log entry 21). -/
def Lock.meets : Lock → Lock → Bool
  | .rgroup c _ _, .mat m => matCol m = c
  | .mat m, .rgroup c _ _ => matCol m = c
  | .lib m none, .lib m' _ => m = m'
  | .lib m _, .lib m' none => m = m'
  | .sensor none, .sensor _ => true
  | .sensor _, .sensor none => true
  | a, b => a = b

/-- Two lock sets intersect (R471). -/
def locksMeet (a b : List Lock) : Bool := a.any (fun x => b.any (fun y => x.meets y))

/-- Outcomes of the conflict matrix (R472). -/
inductive Meeting where
  | both
  | waits
  | preempts
  | joins
  deriving DecidableEq, Repr

/-- The conflict matrix, request by holder, codes 1 to 11 (R472). -/
def conflict (req holder : Nat) : Meeting :=
  match req, holder with
  | 1, 1 | 1, 2 | 1, 4 | 1, 5 => .waits
  | 2, 1 | 2, 5 => .preempts
  | 2, 2 | 2, 4 => .waits
  | 3, 3 | 3, 4 | 3, 5 => .waits
  | 4, 1 | 4, 5 | 4, 8 => .preempts
  | 4, 2 | 4, 3 | 4, 4 => .waits
  | 5, 1 | 5, 2 | 5, 3 | 5, 4 | 5, 5 | 5, 6 | 5, 10 | 5, 11 => .waits
  | 6, 5 | 6, 6 => .waits
  | 7, 7 | 7, 9 | 7, 10 => .waits
  | 8, 4 | 8, 8 => .waits
  | 9, 7 | 9, 10 => .preempts
  | 9, 9 => .joins
  | 10, 4 | 10, 5 | 10, 7 | 10, 9 | 10, 10 => .waits
  | 11, 5 | 11, 11 => .waits
  | _, _ => .both

/-- A request against one holder: waiting requests hold nothing (R471), a suspended activity is not
pre-empted again (R473). -/
def meetHolder (a h : Act) : Meeting :=
  if h.st = .waiting ∨ locksMeet a.locks h.locks = false then .both
  else match conflict (taskCode a.task) (taskCode h.task), h.st with
    | .preempts, .suspended _ => .waits
    | m, _ => m

/-- Whether an activity is a slice that runs. -/
def Act.runsSlice (a : Act) : Bool := a.st = .running ∧ taskCode a.task = 5

/-- The request can be granted now. At most 16 slices run at once (R479). -/
def grantable (acts : List Act) (a : Act) : Bool :=
  (acts.all (fun h => h.place = a.place ∨ meetHolder a h = .both ∨ meetHolder a h = .preempts)) &&
  (taskCode a.task ≠ 5 || (acts.filter Act.runsSlice).length < 16)

/-- Grant a request: it runs, and every holder it pre-empts is suspended (R471, R473). -/
def grantIn (acts : List Act) (a : Act) : List Act :=
  acts.map (fun h =>
    if h.place = a.place then { h with st := .running }
    else if meetHolder a h = .preempts then { h with st := .suspended a.place }
    else h)

/-- How many holders a grant would pre-empt. -/
def preempted (acts : List Act) (a : Act) : Nat :=
  (acts.filter (fun h => h.place ≠ a.place ∧ meetHolder a h = .preempts)).length

def State.setActs (s : State) (acts : List Act) : State := { s with mnt := { s.mnt with acts := acts } }

/-- Physical mat of a logical mat (R459). -/
def State.physMat (s : State) (m : Nat) : Nat := Tab.get natId s.mnt.matMap m

/-- A slot under write, or whose write is cut off, has no valid header (R369). -/
def State.blankSlot (s : State) (k : Nat) : State :=
  let s := ((s.setFlag (CFG_SLOT_STATE_VALID k) false).wr (CFG_SLOT_ARV k) 0).wr (CFG_SLOT_SIZE k) 0
  { s with img := { s.img with slots := Tab.put none0 s.img.slots k none } }

/-- What begins with a grant: an NV image write erases its slot's header, a library write clears its entry's
VALID (R369, R373); a recalibration's second begins (R418). -/
def State.onGrant (s : State) : Task → State
  | .nvImage k => s.blankSlot k.val
  | .libLoad m e => s.setBit (COL_CTX_LIB (matCol (s.physMat m)) (matG (s.physMat m))) e false
  | .recal => { s with thm := { s.thm with recalAt := s.time } }
  | _ => s

/-- Grant a request that can be granted, counting pre-emptions (R473). -/
def State.grant (s : State) (a : Act) : State :=
  let n := preempted s.mnt.acts a
  ((s.setActs (grantIn s.mnt.acts a)).count MNT_PREEMPTS ⟨MNT_SAT, 1, 1⟩ n).onGrant a.task

/-- Grant waiting requests in order of submission, each as soon as it can be (R471). -/
def State.grantAll (s : State) : List Act → State
  | [] => s
  | a :: as =>
    (if a.st = .waiting ∧ grantable s.mnt.acts a then s.grant a else s).grantAll as

/-- The lowest free place of 0 to 31; place 32 is kept for a field-book commit (R471). -/
def freePlace (acts : List Act) (t : Task) : Option Nat :=
  let used := acts.map Act.place
  match t with
  | .commit => if 32 ∈ used then none else some 32
  | _ => (upto 32).find? (fun p => decide (p ∉ used))

/-- What becomes of a submission. -/
inductive Submitted where
  | noSpace
  | running (place : Nat)
  | waiting (place : Nat)
  deriving DecidableEq, Repr

/-- Submit an activity to the arbiter (R470, R471). -/
def State.submitRaw (s : State) (t : Task) (locks : List Lock) (requester resource : Nat)
    (ref : Option CmdRef) : State × Submitted :=
  match freePlace s.mnt.acts t with
  | none => (s, .noSpace)
  | some p =>
    let a : Act := { place := p, task := t, locks := locks, st := .waiting, requester := requester,
                     ref := ref, since := s.time, resource := resource }
    let s := s.setActs (s.mnt.acts ++ [a])
    if grantable s.mnt.acts a then (s.grant a, .running p)
    else (s.count MNT_QUEUEDS ⟨MNT_SAT, 0, 1⟩ 1, .waiting p)

/-- An activity ends: its locks are free, what it pre-empted resumes, waiting requests are granted
(R471, R473). -/
def State.release (s : State) (place : Nat) : State :=
  let rest := s.mnt.acts.filter (fun a => decide (a.place ≠ place))
  let rest := rest.map (fun a => if a.st = .suspended place then { a with st := .running } else a)
  let s := s.setActs rest
  s.grantAll rest

/-- The activity of a task that runs now. -/
def State.runningTask (s : State) (p : Task → Bool) : Option Act :=
  s.mnt.acts.find? (fun a => a.st = .running && p a.task)

/-- Some activity, running, waiting or suspended, has such a task. -/
def State.hasTask (s : State) (p : Task → Bool) : Bool := s.mnt.acts.any (fun a => p a.task)

/-- Replace the task of an activity. -/
def State.setTask (s : State) (place : Nat) (t : Task) : State :=
  s.setActs (s.mnt.acts.map (fun a => if a.place = place then { a with task := t } else a))

/-! ### The field book -/

/-- Take an event into the field-book ring, overwriting the oldest entry of a full one (R488). -/
def State.fbTake (s : State) (e : Event) : State :=
  let ring := s.fb.ring ++ [e]
  let ring := if 4096 < ring.length then ring.drop 1 else ring
  let s := { s with fb := { s.fb with ring := ring } }
  (s.set FBK_HEAD_NEXT (s.get FBK_HEAD_NEXT + 1)).set FBK_HEAD_COUNT ring.length

/-- The page a commit writes: the lowest-numbered invalid one, else the one with the lowest commit
number (R490). -/
def State.commitPage (s : State) : Nat :=
  match (upto 8).find? (fun n => (Tab.get none0 s.fb.pages n).isNone) with
  | some n => n
  | none =>
    ((upto 8).foldl (fun (b : Nat × Nat) n =>
      match Tab.get none0 s.fb.pages n with
      | some pg => if pg.commit.toNat < b.2 then (n, pg.commit.toNat) else b
      | none => b) (0, 2 ^ 32)).1

/-- A commit trigger (R489): start a commit with this cause, or be served by the commit that runs. -/
def State.commitTrigger (s : State) (cause : Nat) (seq : BitVec 32) : State :=
  match s.fb.run with
  | some (n, pg) =>
    if pg.extras.length < 8 then
      { s with fb := { s.fb with run := some (n, { pg with extras := pg.extras ++ [(cause, seq)] }) } }
    else s
  | none =>
    let n := s.commitPage
    let pg : Page := { commit := BitVec.ofNat 32 ((s.rd FBK_COMMITS).toNat + 1), cause := cause,
                       extras := [], seq := seq, time := s.time,
                       entries := s.fb.ring.drop (s.fb.ring.length - 512) }
    let s := { s with fb := { s.fb with run := some (n, pg) } }
    let s := s.setFlag FBK_STATUS_COMMITTING true
    (s.submitRaw .commit [.fbPages, .nvPath] 4 n none).1

/-! ### Events -/

/-- Assert a latched event-router source: latch it for every target, raise its message (R508). -/
def State.assertSource (s : State) (src : Nat) : State :=
  let cores := s.get (EVR_ROUTE_CORES src)
  let l := Tab.get latch0 s.ev.latch src ||| BitVec.ofNat 6 cores
  let s := { s with ev := { s.ev with latch := Tab.put latch0 s.ev.latch src l } }
  if s.flag (EVR_ROUTE_VEC_EN src) ∧ s.dmaOn then s.emit (.msix 0 (s.get (EVR_ROUTE_VECTOR src))) else s

/-- Deliver an event to one event ring: severity and group must be selected; a full ring drops its
copy (R297).  While DMA is stopped the copy is dropped likewise (log entry 22). -/
def State.toEventRing (e : Event) (s : State) (n : Nat) : State :=
  if s.ringRuns n 2 ∧ s.get (ringMIN_SEV n) ≤ evSeverity e.code.toNat ∧
      s.bit (ringAux n) (evGroup e.code.toNat) then
    if s.ringFull n ∨ s.dmaOn = false then s.count HIF_EVDROPS HIF_SAT_EVDROPS 1
    else s.produce n 32 (eventBytes e)
  else s

/-- The core that takes an event-router target's interrupts: 0 pair A, 1 pair B, 2 to 5 SC0 to SC3
(R499, R507). -/
def targetCore (t : Nat) : Nat := if t < 2 then 2 * t else t + 2

/-- A device-specific CSR of a core (R503). -/
def State.csr (s : State) (core n : Nat) : Word := Tab.get csr0 s.core.csr (core * 4096 + n)

def State.setCsr (s : State) (core n : Nat) (v : Word) : State :=
  { s with core := { s.core with csr := Tab.put csr0 s.core.csr (core * 4096 + n) v } }

/-- Write bytes into a sparse byte memory. -/
def putBytes (t : Tab Byte) (base : Nat) : List Byte → Tab Byte
  | [] => t
  | b :: bs => putBytes (Tab.put byte0 t base b) (base + 1) bs

/-- Read n bytes of a sparse byte memory. -/
def getBytes (t : Tab Byte) (base n : Nat) : List Byte :=
  (upto n).map (fun i => Tab.get byte0 t (base + i))

/-- Deliver a record to a target's event ring in its TCM; a full or disabled ring drops it (R505). -/
def State.toCoreRing (e : Event) (s : State) (target : Nat) : State :=
  let c := targetCore target
  let lg := (s.csr c 0x7C6).toNat % 16
  let size := 2 ^ lg
  let p := (s.csr c 0xFC2).toNat
  if lg < 4 ∨ 10 < lg then s
  else if (p + 2 * size - (s.csr c 0x7C7).toNat % (2 * size)) % (2 * size) = size then s
  else
    let addr := ((s.csr c 0x7C5).toNat + p % size * 32) % 262144
    let s := { s with core := { s.core with
      tcm := putBytes s.core.tcm (c * 262144 + addr) (eventBytes e) } }
    s.setCsr c 0xFC2 (BitVec.ofNat 64 ((p + 1) % (2 * size)))

/-- Create an event record: assign SEQ, deliver to event rings, event router and field book, and
start a commit for a fatal event (R32, R31, R297, R488, R489, R508). -/
def State.raiseRaw (s : State) (code src : Nat) (status : Nat) (data : BitVec 112)
    (trigger : Option Nat) : State :=
  let e : Event := { time := s.time, source := BitVec.ofNat 16 src, code := BitVec.ofNat 16 code,
                     seq := s.ev.seq, status := BitVec.ofNat 8 status, data := data }
  let s := { s with ev := { s.ev with seq := s.ev.seq + 1 } }
  let s := (upto 64).foldl (State.toEventRing e) s
  let g := evGroup code
  let s := if g < 32 ∧ s.get (EVR_ROUTE_MIN_SEV g) ≤ evSeverity code then s.assertSource g else s
  let s := if g < 32 then
      (upto 6).foldl (fun s t => if bitAt (s.get (EVR_ROUTE_CORES g)) t then s.toCoreRing e t else s) s
    else s
  let trig := if evSeverity code = 3 then some 0 else trigger
  let s := if s.get FBK_CTL_MIN_SEV ≤ evSeverity code ∨ trig.isSome then s.fbTake e else s
  match trig with
  | some cause => s.commitTrigger cause e.seq
  | none => s

/-- Raise an event. -/
def State.raise (s : State) (code src : Nat) (data : List (Nat × Nat × Nat)) : State :=
  s.raiseRaw code src 0 (evData data) none

/-- Raise an event with a STATUS byte. -/
def State.raiseSt (s : State) (code src status : Nat) (data : List (Nat × Nat × Nat)) : State :=
  s.raiseRaw code src status (evData data) none

/-- Raise an event that is a field-book trigger of the given cause (R489). -/
def State.raiseTrig (s : State) (code src cause : Nat) (data : List (Nat × Nat × Nat)) : State :=
  s.raiseRaw code src 0 (evData data) (some cause)

/-- The 1 ms interval of device time (R547). -/
def State.interval (s : State) : Nat := s.time.toNat / 1000000

/-- The event of this code and source may be raised in the present interval (R547). -/
def State.mayRaise (s : State) (code src : Nat) : Bool :=
  Tab.get nat0 s.ev.limit (code * 65536 + src) ≠ s.interval + 1

/-- Raise an event for the first occurrence in each 1 ms interval only (R547). -/
def State.raiseLim (s : State) (code src : Nat) (data : List (Nat × Nat × Nat)) : State :=
  if s.mayRaise code src then
    ({ s with ev := { s.ev with
        limit := Tab.put nat0 s.ev.limit (code * 65536 + src) (s.interval + 1) } }).raise code src data
  else s

/-- Faults of a column that await repair at a layer supervisor, and how many columns have one (R43). -/
def State.setOpen (s : State) (layer col : Nat) (l : List FaultItem) : State :=
  let t := Tab.put nil0 s.col.open_ (layer * 256 + col) l
  let s := { s with col := { s.col with open_ := t } }
  s.set (LSUP_STATUS_OPEN_FAULTS layer) ((t.filter (fun e => decide (e.1 / 256 = layer))).length)

def State.openFaults (s : State) (layer col : Nat) : List FaultItem := Tab.get nil0 s.col.open_ (layer * 256 + col)

/-- Repairs in a column are complete: the faults that a test names are closed at a layer's supervisor (R43). -/
def State.closeFaults (s : State) (layer col : Nat) (p : FaultItem → Bool) : State :=
  s.setOpen layer col ((s.openFaults layer col).filter (fun x => !p x))

/-- The repair of one fault of a column is complete (R43). -/
def State.closeFault (s : State) (layer col : Nat) (x : FaultItem) : State :=
  s.closeFaults layer col (fun y => decide (y = x))

/-- The layer supervisor that a fault is reported to notes and counts it (R21, R23, R43). -/
def State.noteFault (s : State) (layer code src : Nat) : State :=
  let s := (s.set (LSUP_LAST_SOURCE layer) src).set (LSUP_LAST_CODE layer) code
  s.count (LSUP_FAULTS layer) (LSUP_SAT_FAULTS layer) 1

/-- A fault of an element of a column is reported to its two owners: one event, the supervisor's last
fault and its counter, and an open fault until its repair is complete (R21, R23, R43). -/
def State.reportFault (s : State) (layer col : Nat) (x : FaultItem) (code src : Nat) (data : List (Nat × Nat × Nat)) :
    State :=
  let s := (s.raise code src data).noteFault layer code src
  let l := s.openFaults layer col
  s.setOpen layer col (if x ∈ l then l else l ++ [x])

/-- Submit an activity; a conflict between a column agent and a layer supervisor is counted and raises
OWNER_CONFLICT (R25, R471). -/
def State.submit (s : State) (t : Task) (locks : List Lock) (requester resource : Nat)
    (ref : Option CmdRef) : State × Submitted :=
  let probe : Act := { place := 33, task := t, locks := locks, st := .waiting, requester := requester,
                       ref := ref, since := s.time, resource := resource }
  let met := s.mnt.acts.find? (fun h => meetHolder probe h ≠ .both ∧
    ((requester = 0 ∧ h.requester = 1) ∨ (requester = 1 ∧ h.requester = 0)))
  let s := match met with
    | some h =>
      let s := s.count (LSUP_CONFLICTS 2) (LSUP_SAT_CONFLICTS 2) 1
      s.raise 0x4101 (srcSuper 2) [(18, 1, resource % 256), (19, 1, 2), (20, 1, taskCode t),
        (21, 1, taskCode h.task)]
    | none => s
  s.submitRaw t locks requester resource ref

/-! ### Completions and host commands -/

/-- Write a completion to its ring, or hold it while the ring cannot take it (R294, R295). -/
def State.post (s : State) (c : Compl) : State :=
  let t := s.get ⟨ringAux c.ring, 0, 6⟩
  let r := s.ring t
  if s.ringRuns t 1 ∧ s.dmaOn ∧ s.ringFull t = false ∧ r.held = [] then s.produce t 16 (complBytes c)
  else s.setRing t { r with held := r.held ++ [c] }

/-- The accepted command a reference names. -/
def State.cmdOf (s : State) (ring : Nat) (id : BitVec 32) (op : Nat) : Option Cmd :=
  s.host.cmds.find? (fun c => c.ring = ring ∧ c.id = id ∧ c.opcode = op)

/-- The final completion of a command (R293, R294); it is discarded for a command that PERST# or an
FLR has overtaken (R279). -/
def State.finish (s : State) (r : CmdRef) (status : Nat) (result : Word) : State :=
  let c := s.cmdOf r.ring r.id r.opcode
  let s := { s with host := { s.host with
    cmds := s.host.cmds.filter (fun c => decide (¬ (c.ring = r.ring ∧ c.id = r.id ∧ c.opcode = r.opcode))) } }
  match c with
  | some c => if c.discard then s else
      s.post { ring := r.ring, id := r.id, status := status, final := true, opcode := r.opcode, result := result }
  | none => s.post { ring := r.ring, id := r.id, status := status, final := true, opcode := r.opcode, result := result }

/-- The final completion of a command that an activity may carry. -/
def State.finishRef (s : State) (r : Option CmdRef) (status : Nat) (result : Word) : State :=
  match r with
  | some r => s.finish r status result
  | none => s

/-- The interim completion QUEUED of a command that must wait (R294). -/
def State.interim (s : State) (r : CmdRef) : State :=
  let discard := match s.cmdOf r.ring r.id r.opcode with
    | some c => c.discard
    | none => false
  if discard then s else
    s.post { ring := r.ring, id := r.id, status := stQUEUED, final := false, opcode := r.opcode, result := 0 }

/-- Class of an open session by its tag (R293). -/
def State.sessionClass (s : State) (tag : BitVec 16) : Option Nat :=
  (s.sec.sessions.find? (fun x => x.tag = tag)).map (fun x => x.cls)

/-- The session check of R293: SESSION_OPEN is exempt. -/
def State.mayIssue (s : State) (op : Nat) (tag : BitVec 16) : Bool :=
  match opcodeNeed op with
  | none => false
  | some .noSession => true
  | some .anyClass => (s.sessionClass tag).isSome
  | some (.atLeast k) => match s.sessionClass tag with
    | some c => k ≤ c
    | none => false

/-- A command bears a session's tag (R393). -/
def State.useSession (s : State) (tag : BitVec 16) : State :=
  { s with sec := { s.sec with sessions := s.sec.sessions.map (fun (x : Session) =>
      if x.tag = tag then { x with used := s.time } else x) } }

/-- Outcome of a command's own part: a final status and result, or none while it waits. -/
structure CmdRes where
  st : State
  fin : Option (Nat × Word)

/-- End a command with a status and no result. -/
def State.ends (s : State) (status : Nat) : CmdRes := ⟨s, some (status, 0)⟩
/-- End a command with a status and a result. -/
def State.endsWith (s : State) (status result : Nat) : CmdRes :=
  ⟨s, some (status, BitVec.ofNat 64 result)⟩
/-- The command goes on; its final completion comes later. -/
def State.goesOn (s : State) : CmdRes := ⟨s, none⟩

/-- End of a submission made for a command: QUEUED first when it must wait, NO_SPACE when the arbiter
holds no more (R118, R471). -/
def Submitted.report (x : State × Submitted) (r : CmdRef) : CmdRes :=
  match x.2 with
  | .noSpace => x.1.ends stNO_SPACE
  | .running _ => x.1.goesOn
  | .waiting _ => (x.1.interim r).goesOn

/-- Note that an accepted command has started. -/
def State.markStarted (s : State) (r : CmdRef) : State :=
  { s with host := { s.host with cmds := s.host.cmds.map (fun c =>
      if c.ring = r.ring ∧ c.id = r.id ∧ c.opcode = r.opcode then { c with started := true } else c) } }

/-- The reference of a host command. -/
def hdrRef (h : Hdr) (op : Nat) : CmdRef := { ring := h.ring.val, id := h.id, opcode := op }

/-- The frame of every host command (R293, R485).  A command accepted by COMMAND_FETCH has had its
session checked and runs to its end; otherwise the session is checked here (log entry 7).  After
POWER_DOWN only FIELDBOOK_READ is served.  A reserved argument that is not 0 is malformed. -/
def State.hostCmd (s : State) (h : Hdr) (op : Nat) (body : State → CmdRes) : State :=
  let r := hdrRef h op
  let known := (s.cmdOf r.ring r.id op).isSome
  if known = false ∧ s.mayIssue op h.session = false then s.finish r stAUTH 0
  else if 0 < s.bist.down ∧ op ≠ 0x70 then s.finish r stREFUSED 0
  else if h.rsv then s.finish r stBAD_ARG 0
  else
    let s := if known then s.markStarted r else
      let s := s.useSession h.session
      { s with host := { s.host with cmds := s.host.cmds ++
          [{ ring := r.ring, id := r.id, opcode := op, session := h.session, started := true, discard := false }] } }
    let x := body s
    match x.fin with
    | some (st, res) => x.st.finish r st res
    | none => x.st

/-! ### Maps of mats and banks (R459) -/

/-- Logical mat served by a physical mat; one that has been vacated serves none, which an id outside 0 to 511
says. -/
def State.logMat (s : State) (p : Nat) : Nat :=
  match s.mnt.matMap.find? (fun e => decide (e.2 = p)) with
  | some e => e.1
  | none => if s.physMat p = p then p else 512 + p

/-- Physical bank that holds the contents of a logical bank, before a remap to b8. -/
def State.physBank (s : State) (b : Nat) : Nat := Tab.get natId s.mnt.bankMap b

/-- The bank that serves the addresses of physical bank b0 to b7: itself, or b8 once remapped (R115). -/
def State.serving (s : State) (b : Nat) : Nat :=
  let c := bankCol b
  if b < 2048 ∧ s.get (COL_BANK_STATUS_STATE c (bankIdx b)) = 2 ∧
      s.get (COL_BANK_STATUS_SERVES c 8) = bankIdx b then 2048 + c
  else b

/-- The physical bank that serves a logical bank now. -/
def State.bankAt (s : State) (b : Nat) : Nat := s.serving (s.physBank b)

/-- A bank word. -/
def State.word (s : State) (bank w : Nat) : MemWord := Tab.get memWord0 s.mem.words (bank * 8192 + w)

def State.putWord (s : State) (bank w : Nat) (x : MemWord) : State :=
  { s with mem := { s.mem with words := Tab.put memWord0 s.mem.words (bank * 8192 + w) x } }

/-- Write a word of a physical bank b0 to b7 at the bank that serves it; while its copy to b8 runs the
write is mirrored and the word's bit is set (R115, R116); while a relocation copies it, the write is
mirrored to the target column's bank (R457). -/
def State.writeBank (s : State) (b w : Nat) (x : MemWord) : State :=
  let c := bankCol b
  let i := bankIdx b
  let s := s.putWord (s.serving b) w x
  let s := if s.get (COL_BANK_STATUS_STATE c i) = 1 then
      let l := Tab.get nil0 s.mem.mirrored c
      { s.putWord (2048 + c) w x with
        mem := { (s.putWord (2048 + c) w x).mem with mirrored := Tab.put nil0 s.mem.mirrored c (insNat w l) } }
    else s
  s.mnt.acts.foldl (fun s a =>
    match a.task with
    | .reloc r =>
      if r.mirroring ∧ i ∈ r.banks ∧ r.src.any (fun m => matCol m = c) then
        match r.dst.head? with
        | some d => s.putWord (s.serving (bankId (matCol d) i)) w x
        | none => s
      else s
    | _ => s) s

end Sys2Proof.Machine
end

