-- ==== Sys2Proof/Machine/QueueOps.lean ====
section
/-! DEFINITION.  The queue of a bank as data: pointers, packets, faults and epochs (R197 to R212). -/

namespace Sys2Proof.Machine

open Sys2Proof

/-- The queue of an id, none where it does not exist. -/
def State.queue (s : State) (q : Nat) : Option Queue := Tab.get none0 s.que.queues q

def State.setQueue (s : State) (q : Nat) (x : Option Queue) : State :=
  { s with que := { s.que with queues := Tab.put none0 s.que.queues q x } }

/-- EPOCH of a queue id (R212). -/
def State.epochOf (s : State) (q : Nat) : BitVec 4 := Tab.get epoch0 s.que.epoch q

def State.setEpoch (s : State) (q : Nat) (e : BitVec 4) : State :=
  { s with que := { s.que with epoch := Tab.put epoch0 s.que.epoch q e } }

/-- Words of a queue's buffer (R198). -/
def Queue.size (q : Queue) : Nat := 2 ^ q.sizeLog2

/-- A pointer advanced by n; pointers have SIZE_LOG2 + 1 bits (R199). -/
def Queue.adv (q : Queue) (p n : Nat) : Nat := (p + n) % (2 * q.size)

/-- Words between the read pointer and a write pointer (R199). -/
def Queue.upTo (q : Queue) (w : Nat) : Nat := (w + 2 * q.size - q.r) % (2 * q.size)

/-- Published words present: QUE_COUNT.COUNT (R205). -/
def Queue.count (q : Queue) : Nat := q.upTo q.pw

/-- Words free by the actual write pointer (R205). -/
def Queue.free (q : Queue) : Nat := q.size - q.upTo q.w

/-- QUE_COUNT.FULL. -/
def Queue.full (q : Queue) : Bool := q.upTo q.w = q.size

/-- Bank word of a pointer (R199). -/
def Queue.pos (q : Queue) (p : Nat) : Nat := q.base + p % q.size

/-- The head is the slot of a packet whose closing the consumer cannot see yet (R209, R210). A queue has
a period copy only while a paced period runs. -/
def Queue.sealed (q : Queue) : Bool :=
  q.packet && decide (q.left = 0) &&
    (decide (q.slot = some q.r) || match q.copy with
      | some c => decide (c.slot = some q.r)
      | none => false)

/-- The consumer finds an item at the head (R199, R204). -/
def Queue.ready (q : Queue) : Bool := decide (0 < q.count) && !q.sealed

/-- The item under the read pointer is a packet's length word (R201). -/
def Queue.headIsLength (q : Queue) : Bool := q.packet && decide (q.left = 0)

/-- Logical bank of a queue. -/
def queueBank (q : Nat) : Nat := q / 4

/-- Physical bank whose engine serves a queue (R197). -/
def State.engineBank (s : State) (q : Nat) : Nat := s.physBank (queueBank q)

/-- The bank is retired and serves nothing (R117). -/
def State.bankRetired (s : State) (b : Nat) : Bool := s.get (COL_BANK_STATUS_STATE (bankCol b) (bankIdx b)) = 3

/-- The pacer whose region a logical mat belongs to (R172). -/
def State.regionOf (s : State) (m : Nat) : Option Nat :=
  (s.pace.pacers.find? (fun e => decide (m ∈ e.2.mats))).map Prod.fst

/-- The pacer of a queue whose producer is a mat of a paced region: a paced queue (R178). -/
def State.queuePacer (s : State) (q : Nat) : Option Nat :=
  match s.queue q with
  | some x =>
    if x.prod = 1 ∨ x.prod = 2 then
      s.regionOf (s.logMat (matOf (bankCol (s.engineBank q)) (x.prod - 1)))
    else none
  | none => none

/-- Items pushed now stay unpublished until the period commits: a paced queue whose pacer is RUNNING or
FROZEN (R169, R171, R178). -/
def State.heldBack (s : State) (q : Nat) : Bool :=
  match s.queuePacer q with
  | some p => decide (2 ≤ s.get (PACE_STATUS_STATE p))
  | none => false

/-- Published words of a queue id. -/
def State.published (s : State) (q : Nat) : Nat :=
  match s.queue q with
  | some x => x.count
  | none => 0

/-- The item i places behind the read pointer, as it lies in the bank. -/
def State.itemAt (s : State) (q i : Nat) : MemWord :=
  match s.queue q with
  | some x => s.word (s.serving (s.engineBank q)) (x.pos (x.r + i))
  | none => { data := 0, syn := 0, poison := false }

def State.headReady (s : State) (q : Nat) : Bool :=
  match s.queue q with
  | some x => x.ready
  | none => false

/-- The read pointer passes one word. In packet mode it notes how many data words of the packet follow
(R207, R208). -/
def State.advanceR (s : State) (q : Nat) : State :=
  match s.queue q with
  | none => s
  | some x =>
    let left := if x.packet then
        if x.left = 0 then bitsAt (s.itemAt q 0).data.toNat 0 16 else x.left - 1
      else 0
    s.setQueue q (some { x with r := x.adv x.r 1, left := left })

/-- A period copy of 0 (R211 step 1, R217): a LATE restore brings back nothing. -/
def QCopy.zero : QCopy := { w := 0, slot := none, len := 0, disc := 0, seq := 0 }

/-- Steps 1, 2 and 4 of R211: pointers, period copy and open packet cleared, EPOCH incremented, SEQ 0, words
discarded until the next START when a packet was open.  QUE_COUNT.UE is kept: the rules do not say what a reset does
to it (DESIGN CHOICE, log entry 69). -/
def Queue.cleared (x : Queue) : Queue :=
  { x with r := 0, w := 0, pw := 0, slot := none, len := 0, seq := 0, left := 0, copy := x.copy.map (fun _ => QCopy.zero),
           disc := if x.packet ∧ x.slot.isSome then 2 else x.disc }

/-- A queue reset (R211, R217), without its event. -/
def State.queueClear (s : State) (q : Nat) : State :=
  match s.queue q with
  | none => s
  | some x => (s.setQueue q (some x.cleared)).setEpoch q (s.epochOf q + 1)

/-- A queue fault: the reset with QUEUE_FAULT (R211, R218). Causes: 0 pointer mismatch, 1 uncorrectable
length word, 2 bank retired. -/
def State.queueFault (s : State) (q cause : Nat) : State :=
  match s.queue q with
  | none => s
  | some x =>
    let lost := x.upTo x.w
    let s := s.queueClear q
    let b := s.engineBank q
    let s := s.raiseSt 0x8601 (srcQueueEngine (bankCol b) (bankIdx b)) stQUEUE_FAULT
      [(18, 2, q), (20, 1, cause), (21, 1, (s.epochOf q).toNat), (22, 2, lost)]
    s.noteFault 2 0x8601 (srcQueueEngine (bankCol b) (bankIdx b))

/-- Queues whose contents lie in a physical bank b0 to b7: the four ids of its logical bank. -/
def State.queuesIn (s : State) (b : Nat) : List Nat :=
  (s.que.queues.filter (fun e => e.2.isSome && decide (s.engineBank e.1 = b))).map Prod.fst

/-! Packets (R207 to R209). -/

/-- Close the open packet: write its length word (R208). -/
def State.closePacket (s : State) (q : Nat) (oversize : Bool) : State :=
  match s.queue q with
  | none => s
  | some x =>
    match x.slot with
    | none => s
    | some p =>
      let v := x.len + x.seq.toNat * 65536 + b2n oversize * 2 ^ 32
      let s := s.writeBank (s.engineBank q) (x.pos p) { data := BitVec.ofNat 64 v, syn := 0, poison := false }
      s.setQueue q (some { x with slot := none, len := 0, seq := x.seq + 1 })

/-- Open a packet at W, closing the one that is open (R207). -/
def State.openPacket (s : State) (q : Nat) : State :=
  let s := s.closePacket q false
  match s.queue q with
  | none => s
  | some x =>
    let w := x.adv x.w 1
    s.setQueue q (some { x with slot := some x.w, len := 0, disc := 0, w := w,
                                pw := if s.heldBack q then x.pw else w })

/-- Free words that a push needs before anything is written (R204, R207, R209). -/
def Queue.need (x : Queue) (start : Bool) : Nat :=
  if x.packet = false then 1
  else if x.disc ≠ 0 ∧ start = false then 0
  else if start ∨ x.slot = none then 2 else 1

/-- A pushed word is taken now; otherwise it waits (R204). A retired bank takes nothing (R117). -/
def State.canPush (s : State) (q : Nat) (start : Bool) : Bool :=
  match s.queue q with
  | none => true
  | some x => decide (x.need start ≤ x.free) && !s.bankRetired (s.engineBank q)

/-- Write one word at W (R199). -/
def State.putItem (s : State) (q : Nat) (w : Word) : State :=
  match s.queue q with
  | none => s
  | some x =>
    let s := s.writeBank (s.engineBank q) (x.pos x.w) { data := w, syn := 0, poison := false }
    let w' := x.adv x.w 1
    s.setQueue q (some { x with w := w', pw := if s.heldBack q then x.pw else w',
                                freshAt := if s.heldBack q then x.freshAt else s.time,
                                len := if x.packet then x.len + 1 else 0 })

/-- Push a word that is taken, with its packet marks (R207 to R209). -/
def State.pushItem (s : State) (q : Nat) (w : Word) (start last : Bool) : State :=
  match s.queue q with
  | none => s
  | some x =>
    if x.packet = false then s.putItem q w
    else if x.disc ≠ 0 ∧ start = false then
      if last ∧ x.disc = 1 then s.setQueue q (some { x with disc := 0 }) else s
    else
      let s := if start ∨ x.slot = none then s.openPacket q else s
      let s := s.putItem q w
      match s.queue q with
      | none => s
      | some y =>
        if last then s.closePacket q false
        else if y.size - 1 ≤ y.len then
          let s := s.closePacket q true
          match s.queue q with
          | some z => s.setQueue q (some { z with disc := 1 })
          | none => s
        else s

/-- Close an open packet as R209 closes an oversize one (R279). -/
def State.cutPacket (s : State) (q : Nat) : State :=
  match s.queue q with
  | none => s
  | some x =>
    if x.slot = none then s
    else
      let s := s.closePacket q true
      match s.queue q with
      | some z => s.setQueue q (some { z with disc := 1 })
      | none => s

/-- The end of a queue that a producer or consumer has (R200, R201): mats are those of the column whose
physical bank holds the contents. -/
def endKind : QEnd → Nat
  | .mat g => 1 + g.val
  | .ring _ => 3
  | .port _ => 4
  | .lane _ => 5
  | .core _ => 6

end Sys2Proof.Machine
end

