-- ==== Sys2Proof/Machine/Banks.lean ====
section
/-! DEFINITION.  Banks: errors found in them, failing and retired banks, remap to b8, requests for
relocation, and the one read that the bank controllers make (R108, R112 to R117). -/

namespace Sys2Proof.Machine

open Sys2Proof

/-! Registers of the controller of a bank, by physical bank id. -/

def bankState (b : Nat) : Fld := COL_BANK_STATUS_STATE (bankCol b) (bankIdx b)
def bankSuspect (b : Nat) : Fld := COL_BANK_STATUS_SUSPECT (bankCol b) (bankIdx b)
/-- COL_BANK_STATUS.SERVES of b8: the bank that b8 serves or is copying, 0xF none. -/
def spareServes (c : Nat) : Fld := COL_BANK_STATUS_SERVES c 8

def State.countCE (s : State) (b n : Nat) : State :=
  s.count (COL_BANK_CES (bankCol b) (bankIdx b)) ⟨COL_BANK_SAT (bankCol b), 2 * bankIdx b, 1⟩ n

def State.countUE (s : State) (b n : Nat) : State :=
  s.count (COL_BANK_UES (bankCol b) (bankIdx b)) ⟨COL_BANK_SAT (bankCol b), 2 * bankIdx b + 1, 1⟩ n

/-- COL_BANK_LAST: the last error found. -/
def State.lastError (s : State) (b w : Nat) (ue : Bool) (syndrome : Nat) : State :=
  ((s.set (COL_BANK_LAST_WORD (bankCol b) (bankIdx b)) w).setFlag
    (COL_BANK_LAST_UE (bankCol b) (bankIdx b)) ue).set (COL_BANK_LAST_SYNDROME (bankCol b) (bankIdx b)) syndrome

/-- A column agent requests relocation of a physical mat (R23); the stack manager chooses the target
in RELOCATION_REQUEST. -/
def State.wantReloc (s : State) (m : Nat) : State :=
  { s with mnt := { s.mnt with wanted := insNat m s.mnt.wanted } }

/-- Submit an activity raised inside the device; refused with NO_SPACE it is submitted again 1 ms later
(R471). -/
def State.submitOwn (s : State) (t : Task) (locks : List Lock) (requester resource : Nat) : State :=
  match s.submit t locks requester resource none with
  | (s, .noSpace) => { s with mnt := { s.mnt with
      again := s.mnt.again ++ [(s.time + 1000000, t, locks, requester, resource)] } }
  | (s, _) => s

/-- b8 of a column can be the target of a remap: not failed, serving nothing, clean (R115 step 1). -/
def State.spareReady (s : State) (c : Nat) : Bool :=
  s.get (COL_BANK_STATUS_STATE c 8) = 0 && decide (s.get (spareServes c) = 15) &&
    Tab.get bool0 s.col.spareClean c

/-- b8 of a column serves nothing: it is free and holds the test pattern (R113). -/
def State.freeSpare (s : State) (c : Nat) : State :=
  let s := s.set (spareServes c) 15
  { s with mem := { s.mem with words := Tab.keep (fun k => decide (k / 8192 ≠ 2048 + c)) s.mem.words,
                               mirrored := Tab.put nil0 s.mem.mirrored c [] } }

/-- Locks of a bank remap (R470). -/
def remapLocks (b : Nat) : List Lock := [.bank b, .bank (bankId (bankCol b) 8)]

/-- Retire a bank (R117): it serves nothing until power-on and its queues are reset. -/
def State.retireBank (s : State) (b : Nat) : State :=
  let s := s.set (bankState b) 3
  let s := { s with col := { s.col with failing := Tab.put bool0 s.col.failing b false } }
  let s := s.reportFault 2 (bankCol b) (.bank (bankIdx b)) 0x830B (srcBank (bankCol b) (bankIdx b)) [(18, 1, bankIdx b)]
  (s.queuesIn b).foldl (fun s q => s.queueFault q 2) s

/-- The bank that serves through b8, for a fault of b8 itself; else the bank. -/
def State.servedBy (s : State) (b : Nat) : Nat :=
  if b < 2048 then b
  else if s.get (spareServes (bankCol b)) < 8 then bankId (bankCol b) (s.get (spareServes (bankCol b))) else b

/-- A failing bank b0 to b7 in service: a remap is submitted, or, when b8 is not available, relocation of
both mats of the column is requested (R114, R115, R117). -/
def State.startRemap (s : State) (b : Nat) : State :=
  let c := bankCol b
  let s := { s with col := { s.col with failing := Tab.put bool0 s.col.failing b true } }
  if s.spareReady c then
    (s.set (spareServes c) (bankIdx b)).submitOwn (.remap b) (remapLocks b) 0 c
  else (s.wantReloc (matOf c 0)).wantReloc (matOf c 1)

/-- Uncorrectable errors found in a bank since it came into service. -/
def State.bankUes (s : State) (b : Nat) : Nat := Tab.get nat0 s.col.ues b

def State.setBankUes (s : State) (b n : Nat) : State :=
  { s with col := { s.col with ues := Tab.put nat0 s.col.ues b n } }

/-- A physical bank becomes failing (R114); a free b8 is marked failed (R113); a bank that suffers a second
uncorrectable error while it waits for relocation is retired (R117).  `ue`: it fails by one. -/
def State.bankFailing (s : State) (b : Nat) (ue : Bool) : State :=
  let c := bankCol b
  if b < 2048 then
    if s.get (bankState b) ≠ 0 then s
    else if s.get (spareServes c) = bankIdx b then s
    else if Tab.get bool0 s.col.failing b then (if ue ∧ 2 ≤ s.bankUes b then s.retireBank b else s)
    else s.startRemap b
  else if s.get (spareServes c) < 8 then
    -- b8 serves or copies a bank
    if Tab.get bool0 s.col.failing b then (if ue ∧ 2 ≤ s.bankUes b then s.retireBank (s.servedBy b) else s)
    else if s.get (bankState (s.servedBy b)) = 2 then
      let s := { s with col := { s.col with failing := Tab.put bool0 s.col.failing b true } }
      (s.wantReloc (matOf c 0)).wantReloc (matOf c 1)
    else s
  else
    { s.set (bankState b) 3 with
      col := { s.col with spareClean := Tab.put bool0 s.col.spareClean c false } }

/-- A correctable error that a bank controller found (R112); the word is written back corrected, so the
model's word does not change. -/
def State.foundCE (s : State) (b w syndrome : Nat) : State :=
  (s.countCE b 1).lastError b w false syndrome

/-- An uncorrectable error that is not a known poisoned word (R112, R114): the word keeps a poisoned
check code and BANK_UE is raised. Found by 0 port A, 1 port B, 2 queue engine, 3 scrub, 4 copy. -/
def State.foundUE (s : State) (b w : Nat) (asRead : Word) (syndrome by_ : Nat) : State :=
  let s := s.putWord b w { data := asRead, syn := BitVec.ofNat 8 syndrome, poison := true }
  let s := ((s.countUE b 1).lastError b w true syndrome).setBankUes b (s.bankUes b + 1)
  let s := s.reportFault 2 (bankCol b) (.bank (bankIdx (s.servedBy b))) 0x8309 (srcBank (bankCol b) (bankIdx b))
    [(18, 1, bankIdx b), (19, 2, w), (21, 1, by_)]
  s.bankFailing b true

/-- What a bank controller reads from a word of a bank b0 to b7 at the bank that serves it, and whether
it is uncorrectable (R112, R116). -/
def State.readBank (s : State) (b w : Nat) (ecc : Ecc) (by_ : Nat) : State × Word × Bool :=
  let p := s.serving b
  let x := s.word p w
  if x.poison then (s, x.data, true)
  else match ecc with
    | .clean => (s, x.data, false)
    | .ce syn => (s.foundCE p w syn.toNat, x.data, false)
    | .ue v syn => (s.foundUE p w v syn.toNat by_, v, true)

/-! Remap copy (R115, R116). -/

/-- Copy the words of bank b whose bit is not set to b8: what b8 held there is replaced. -/
def remapCopy (b c : Nat) (skip : List Nat) (t : Tab MemWord) : Tab MemWord :=
  let p := 2048 + c
  let t' := t.filter (fun e => decide (¬ (e.1 / 8192 = p ∧ e.1 % 8192 ∉ skip)))
  (t.filter (fun e => decide (e.1 / 8192 = b ∧ e.1 % 8192 ∉ skip))).foldl
    (fun t e => Tab.put memWord0 t (p * 8192 + e.1 % 8192) e.2) t'

end Sys2Proof.Machine
end

