-- ==== Sys2Proof/Machine/Rhizoids.lean ====
section
/-! DEFINITION.  Signal rhizoids and their sparing as data: groups, uses out of service, failed rhizoids (R95 to R102,
R118).  The dependents of a group (R97) are an argument here; State.dependents in Trunks.lean computes them. -/

namespace Sys2Proof.Machine

open Sys2Proof

/-- Key of a group: column, interface, group. -/
def groupKey (c i g : Nat) : Nat := (c * 4 + i) * 56 + g

def State.rhz (s : State) (c i g : Nat) : Rhz := Tab.get rhz0 s.col.groups (groupKey c i g)

def State.setRhz (s : State) (c i g : Nat) (r : Rhz) : State :=
  { s with col := { s.col with groups := Tab.put rhz0 s.col.groups (groupKey c i g) r } }

/-- Use of a group (COL_RHZ_GRP.USE): groups 0 to 15 of L1–L2 and L2–L3 carry the trunk (R96); the
others are fixed in silicon. -/
def groupUse (c i g : Nat) : Nat :=
  if (i = 1 ∨ i = 2) ∧ g < 16 then 0 else (Config.rhzUse c i g).toNat

/-- Trunk lane of a working position of a trunk group (R96). -/
def positionLane (g p : Nat) : Nat := 16 * g + (Config.rhzLane p).val

/-- Spares that can still be used: unused, not failed, and passed in their last sounding (R100). -/
def Rhz.usable (r : Rhz) : List Nat :=
  [64, 65].filter (fun x => decide (x ∉ r.used ∧ x ∉ r.failed ∧ x ∉ r.strikes))

def aheadOf (s : State) (c i g : Nat) : Nat := Tab.get nat0 s.col.ahead (groupKey c i g)

def State.setAhead (s : State) (c i g n : Nat) : State :=
  { s with col := { s.col with ahead := Tab.put nat0 s.col.ahead (groupKey c i g) n } }

/-- A trunk lane's disabled bit (COL_TRUNK_DISj). -/
def laneDis (c lane : Nat) : Fld := ⟨COL_TRUNK_DIS c (lane / 32), lane % 32, 1⟩

/-- A use of a mat is out of service (R102): 0 memory port, 1 configuration, 2 control, 3 I/O. -/
def State.useOut (s : State) (m use : Nat) : Bool := (Tab.get out0 s.col.out m).getLsbD use

def State.setUseOut (s : State) (m use : Nat) : State :=
  { s with col := { s.col with out := Tab.put out0 s.col.out m (Tab.get out0 s.col.out m ||| (1#4 <<< use)) } }

/-- Apply to the physical mats of a column that depend on a group (R97): L1, L3. -/
def State.onDependents (s : State) (c : Nat) (d : Bool × Bool) (f : State → Nat → State) : State :=
  let s := if d.1 then f s (matOf c 0) else s
  if d.2 then f s (matOf c 1) else s

/-- A failed working position without a usable spare: the group is exhausted (R102). -/
def State.exhaust (s : State) (c i g p : Nat) (depends : Bool × Bool) : State :=
  let s := s.setRhz c i g { s.rhz c i g with exhausted := true }
  let use := groupUse c i g
  let s := s.reportFault i c (.group i g) 0x8303 (srcAgent c (8 + i))
    [(18, 1, i), (19, 1, g), (20, 1, use), (21, 1, b2n depends.1 + 2 * b2n depends.2)]
  let s := match use with
    | 0 => s.setFlag (laneDis c (positionLane g p)) true
    | 1 => s.setUseOut (matOf c (i / 2)) 0
    | 2 => s.onDependents c depends (fun s m => s.setUseOut m 1)
    | 3 => (s.setUseOut (matOf c 0) 2).setUseOut (matOf c 1) 2
    | 4 => s.onDependents c depends (fun s m => s.setUseOut m 3)
    | _ => s
  s.onDependents c depends State.wantReloc

/-- RHIZOID_FAIL (R99): count and report one failed rhizoid. Found by 0 sounding, 1 trunk timeout,
2 parity, 3 port correctable error, 4 configuration check. -/
def State.rhizoidFails (s : State) (c i g idx by_ : Nat) : State :=
  let r := s.rhz c i g
  let s := s.setRhz c i g { r with failed := r.failed ++ [idx],
                                   strikes := delNat idx r.strikes,
                                   used := if 64 ≤ idx then insNat idx r.used else r.used,
                                   moved := r.moved.filter (fun e => decide (e.2 ≠ idx)) }
  let s := s.count (COL_RHZ_FAILS c) (COL_RHZ_SAT_RHZ_FAILS c) 1
  s.reportFault i c (.rhizoid i g idx) 0x8301 (srcAgent c (8 + i)) [(18, 1, i), (19, 1, g), (20, 1, idx), (21, 1, by_)]

/-- The position is back on a working rhizoid: the faults of its own rhizoid and of the failed spares that served it
are repaired. -/
def State.closePosition (s : State) (c i g p : Nat) : State :=
  s.closeFaults i c (fun x => match x with
    | .rhizoid i' g' x' => decide (i' = i ∧ g' = g ∧ (x' = p ∨ 64 ≤ x'))
    | _ => false)

/-- Move a position to the lowest usable spare whose sounding passes; a spare that fails is marked used;
with none left the group is exhausted (R100 steps 2 to 4′). -/
def State.moveToSpare (s : State) (c i g p : Nat) (depends : Bool × Bool) : List Nat → List Bool → State
  | sp :: sps, ok :: oks =>
    let r := s.rhz c i g
    let s := s.setRhz c i g { r with used := insNat sp r.used }
    if ok then
      let r := s.rhz c i g
      let s := s.setRhz c i g { r with moved := r.moved ++ [(p, sp)] }
      let s := s.raise 0x0302 (srcAgent c (8 + i)) [(18, 1, i), (19, 1, g), (20, 1, p), (21, 1, sp)]
      (s.count (COL_RHZ_SWAPS c) (COL_RHZ_SAT_RHZ_SWAPS c) 1).closePosition c i g p
    else s.moveToSpare c i g p depends sps oks
  | _, _ => s.exhaust c i g p depends

/-- The position is failed and not on a spare. -/
def State.needsSpare (s : State) (c i g p : Nat) : Bool :=
  let r := s.rhz c i g
  decide (p ∈ r.failed) && !r.moved.any (fun e => decide (e.1 = p))

/-- Task of a spare swap. -/
def isSwapOf (c i g p : Nat) (t : Task) : Bool := t = .spareSwap c i g p

/-- A spare swap is submitted, or, without a usable spare, the group is exhausted (R100, R102). -/
def State.spareOrExhaust (s : State) (c i g p : Nat) (depends : Bool × Bool) : State :=
  if (s.rhz c i g).usable = [] then s.exhaust c i g p depends
  else if s.hasTask (isSwapOf c i g p) then s
  else s.submitOwn (.spareSwap c i g p) [.rgroup c i g] 0 c

/-- A rhizoid fails (R99): a working position is to be spared; so is the position of a spare in use;
an unused spare only counts as used. -/
def State.failRhizoid (s : State) (c i g idx by_ : Nat) (depends : Bool × Bool) : State :=
  let served := (s.rhz c i g).moved.find? (fun e => decide (e.2 = idx))
  let s := s.rhizoidFails c i g idx by_
  if idx < 64 then s.spareOrExhaust c i g idx depends
  else match served with
    | some e => s.spareOrExhaust c i g e.1 depends
    | none => s.closeFault i c (.rhizoid i g idx)

/-- A spare swap of the group, or the sounding that a REPAIR of kind 1 asked for (position 66 of the task), is not
over. -/
def isGroupTask (c i g : Nat) : Task → Bool
  | .spareSwap c' i' g' _ => c' = c && i' = i && g' = g
  | _ => false

/-- A REPAIR of kind 1 ends once the group has been sounded and no spare swap of it is left (R118). -/
def State.endRepair (s : State) (c i g : Nat) : State :=
  let k := groupKey c i g
  if s.hasTask (isGroupTask c i g) then s
  else match s.col.repairs.find? (fun e => decide (e.1 = k)) with
    | none => s
    | some e =>
      let s := { s with col := { s.col with repairs := s.col.repairs.filter (fun x => decide (x.1 ≠ k)) } }
      s.finish e.2 (if (s.rhz c i g).exhausted then stHW_FAULT else stOK) 0

/-- The place of the arbiter that a REPAIR of kind 1 holds for a group while it sounds it. -/
def State.releaseRepair (s : State) (c i g : Nat) : State :=
  match s.runningTask (isSwapOf c i g 66) with
  | some a => s.release a.place
  | none => s

/-- What a group is being sounded for ahead of the regular order: a re-test (R99), 5 a REPAIR that has been granted
(R118), 0 nothing. -/
def State.aheadNow (s : State) (c i g : Nat) : Nat :=
  if aheadOf s c i g ≠ 0 then aheadOf s c i g
  else if (s.runningTask (isSwapOf c i g 66)).isSome then 5 else 0

/-- A rhizoid has been visited: it is not missed any more (R98). -/
def State.visited (s : State) (c i g x : Nat) : State :=
  s.setRhz c i g { s.rhz c i g with missed := delNat x (s.rhz c i g).missed }

/-- A working position stands on this rhizoid now: its own one, or the spare it was moved to. -/
def Rhz.carries (r : Rhz) (p x : Nat) : Bool :=
  match r.moved.find? (fun e => decide (e.1 = p)) with
  | some e => decide (e.2 = x)
  | none => decide (p = x)

/-- Positions of a trunk group that a lane uses (R96). -/
def lanePositions (lane : Nat) : List Nat := (upto 64).filter (fun p => decide (positionLane (lane / 16) p = lane))

/-- A lane with a failed position of an exhausted group: no repair re-admits it (R102). -/
def State.laneDead (s : State) (c lane : Nat) : Bool :=
  [1, 2].any (fun i => (s.rhz c i (lane / 16)).exhausted &&
    (lanePositions lane).any (fun p => s.needsSpare c i (lane / 16) p))

/-- A lane with a failed rhizoid that is not yet spared: out of service until it is (R100, R101). -/
def State.laneOut (s : State) (c lane : Nat) : Bool :=
  [1, 2].any (fun i => (lanePositions lane).any (fun p => s.needsSpare c i (lane / 16) p))

/-- Failed rhizoids that the sounding of a lane finds (R101, R107): each is reported and its position's spare swap
submitted.  In the list: 0 for interface L1–L2, 1 for L2–L3, and a rhizoid that carries a position of the lane. -/
def State.failLane (s : State) (c lane by_ : Nat) (depends : Bool × Bool) : List (Fin 2 × Fin 66) → State
  | [] => s
  | (j, x) :: l =>
    let r := s.rhz c (1 + j.val) (lane / 16)
    (if x.val ∉ r.failed ∧ (lanePositions lane).any (fun p => r.carries p x.val) then
        s.failRhizoid c (1 + j.val) (lane / 16) x.val by_ depends
      else s).failLane c lane by_ depends l

/-- Active slots of a column: L1 in [1:0], L3 in [3:2]. -/
def State.activePair (s : State) (c : Nat) : Nat :=
  s.get (COL_GATE_STATUS_ACTIVE_SLOT c 0) + 4 * s.get (COL_GATE_STATUS_ACTIVE_SLOT c 1)

/-- Source id of a mat's trunk end (R119). -/
def srcTrunk (c g : Nat) : Nat := srcMat (matOf c g) 3

/-- A REPAIR of kind 2 that waits for the re-test of a lane ends (R118). -/
def State.endRetest (s : State) (c lane : Nat) (status : Nat) : State :=
  match s.col.retests.find? (fun e => decide (e.1 = c * 256 + lane)) with
  | none => s
  | some e =>
    let s := { s with col := { s.col with
      retests := s.col.retests.filter (fun x => decide (x.1 ≠ c * 256 + lane)) } }
    s.finish e.2 status 0

end Sys2Proof.Machine
end

