-- ==== Sys2Proof/Machine/SliceOps.lean ====
section
/-! DEFINITION.  Traverse slices as activities: their units, locks and outcomes kept in NV (R479 to R483). -/

namespace Sys2Proof.Machine

open Sys2Proof

/-- What NV keeps of a unit (R480, R481). -/
def State.unit (s : State) (kind inst : Nat) : BistUnit := Tab.get unit0 s.bist.units (kind * 4096 + inst)

def State.setUnit (s : State) (kind inst : Nat) (u : BistUnit) : State :=
  { s with bist := { s.bist with units := Tab.put unit0 s.bist.units (kind * 4096 + inst) u } }

/-- The unit is marked SUSPECT (R483). -/
def State.unitSuspect (s : State) (kind inst : Nat) : Bool := (s.unit kind inst).suspect

/-! ### Thermal sensors as units (R414, R479) -/

/-- Sensors of a layer. -/
def sensorCount (layer : Nat) : Nat :=
  match layer with
  | 1 | 3 => 256
  | 2 => 64
  | 0 | 4 => 16
  | _ => 0

def sensorKey (layer i : Nat) : Nat := layer * 256 + i

/-- Instance number of a sensor as a unit of slices: in order L0 to L4, by index (R479). -/
def sensorInst (layer i : Nat) : Nat := ((upto layer).map sensorCount).foldl (fun a n => a + n) 0 + i

/-- Layer and index of a sensor by its instance number. -/
def instSensor (n : Nat) : Nat × Nat :=
  if n < 16 then (0, n) else if n < 272 then (1, n - 16) else if n < 336 then (2, n - 272)
  else if n < 592 then (3, n - 336) else (4, n - 592)

/-! ### Slices as activities -/

/-- The lock of a slice on its unit (R470, R479). -/
def sliceLocks (kind inst : Nat) : List Lock :=
  match kind with
  | 0 => [.port inst]
  | 1 => [.lane inst]
  | 2 => [.sensor (some inst)]
  | 3 => [.rail inst]
  | 4 => [.pll inst]
  | 5 => [.mat inst]
  | 6 => [.bank inst]
  | _ => [.pair inst]

def isSlice (kind inst : Nat) (t : Task) : Bool :=
  match t with
  | .slice k i _ => decide (k = kind ∧ i = inst)
  | _ => false

/-- Submit the slice that an occasion in service starts (R479): once for a unit.  Until it passes the unit would start
from its factory values (R481). -/
def State.submitSlice (s : State) (kind inst : Nat) : State :=
  let s := s.setUnit kind inst { s.unit kind inst with calKept := false }
  if s.hasTask (isSlice kind inst) then s
  else s.submitOwn (.slice kind inst false) (sliceLocks kind inst) 2 inst

/-- A slice ends early with ABORTED and no mark (R482). -/
def State.abortSlice (s : State) (kind inst : Nat) : State :=
  match s.mnt.acts.find? (fun a => isSlice kind inst a.task) with
  | none => s
  | some a =>
    let s := s.setUnit kind inst { s.unit kind inst with outcome := 3 }
    (s.finishRef a.ref stOK 3).release a.place

end Sys2Proof.Machine
end

