-- ==== Sys2Proof/Machine/Memory.lean ====
section
/-! DEFINITION.  Memory ports, scrub, remap to b8 and the REPAIR command (R108 to R118). -/

namespace Sys2Proof.Machine

open Sys2Proof

/-- Fields of a memory port request (R109). -/
structure PortReq where
  word : Nat
  bank : Nat
  write : Bool
  be : Nat
  wdata : Word
  tag : BitVec 4
  deriving DecidableEq, Repr

def portReq (r : BitVec 93) : PortReq :=
  { word := bitsAt r.toNat 0 13, bank := bitsAt r.toNat 13 3, write := bitAt r.toNat 16,
    be := bitsAt r.toNat 17 8, wdata := r.extractLsb' 25 64, tag := r.extractLsb' 89 4 }

/-- The 72 bits of a response (R109). -/
def respBits (r : MResp) : Nat :=
  r.rdata.toNat + b2n r.write * 2 ^ 64 + b2n r.corr * 2 ^ 65 + b2n r.uncorr * 2 ^ 66 +
    b2n r.parity * 2 ^ 67 + r.tag.toNat * 2 ^ 68

/-- The response a bank has given a port and the design has not acknowledged. -/
def State.portResp (s : State) (m b : Nat) : Option MResp := Tab.get none0 s.mem.resp (m * 8 + b)

def State.setPortResp (s : State) (m b : Nat) (r : Option MResp) : State :=
  { s with mem := { s.mem with resp := Tab.put none0 s.mem.resp (m * 8 + b) r } }

/-- A word lies in the buffer of a created queue of a bank: it is fenced (R198). -/
def State.fenced (s : State) (b w : Nat) : Bool :=
  (s.queuesIn b).any (fun q => match s.queue q with
    | some x => decide (x.base ≤ w ∧ w < x.base + x.size)
    | none => false)

/-- A word with the bytes that the enables name taken from new data (R109). -/
def mergeBytes (be : Nat) (old new : Word) : Word :=
  (upto 8).foldl (fun (v : Word) i =>
    if bitAt be i then (v &&& ~~~(0xFF#64 <<< (8 * i))) ||| (new &&& (0xFF#64 <<< (8 * i))) else v) old

/-- The groups of a memory port are to be sounded ahead of the regular order (R99). -/
def State.soundPort (s : State) (c g code : Nat) : State :=
  (upto 56).foldl (fun s k => if groupUse c (1 + g) k = 1 then s.setAhead c (1 + g) k code else s) s

/-- MPORT_PARITY (R99, R119): g 0 port A, 1 port B. -/
def State.portParity (s : State) (m b : Nat) (response : Bool) : State :=
  let c := matCol m
  let g := matG m
  let s := if g = 0 then s.count (COL_MPORT_PARA c) (COL_RHZ_SAT_MPORT_PARA c) 1
    else s.count (COL_MPORT_PARB c) (COL_RHZ_SAT_MPORT_PARB c) 1
  let s := (s.raise 0x4307 (srcMat m 6) [(18, 1, g), (19, 1, b2n response), (20, 1, b)]).noteFault
    (matLayer m) 0x4307 (srcMat m 6)
  s.soundPort c g 2

/-- A read through a port: the data with its CORR and UNCORR bits. An error corrected at the mat gate is
to be re-read (R99); an uncorrectable one is found by the port (R112). -/
def State.portRead (s : State) (m b w : Nat) (ecc : Ecc) : State × Word × Bool × Bool :=
  let p := s.serving b
  let x := s.word p w
  if x.poison then (s, x.data, false, true)
  else match ecc with
    | .clean => (s, x.data, false, false)
    | .ce _ =>
      let l := Tab.get nil0 s.col.reread (matCol m)
      ({ s with col := { s.col with reread := Tab.put nil0 s.col.reread (matCol m) (l ++ [(m, bankIdx b, w)]) } },
        x.data, true, false)
    | .ue v syn => (s.foundUE p w v syn.toNat (matG m), v, false, true)

/-- A write through a port: with all byte enables it clears poison; with fewer it is a read-modify-write,
not performed on an uncorrectable word (R108, R112). Answers whether it was performed. -/
def State.portWrite (s : State) (m b w be : Nat) (v : Word) (ecc : Ecc) : State × Bool :=
  if be = 255 then (s.writeBank b w { data := v, syn := 0, poison := false }, true)
  else match s.readBank b w ecc (matG m) with
    | (s, old, bad) =>
      if bad then (s, false) else (s.writeBank b w { data := mergeBytes be old v, syn := 0, poison := false }, true)

/-- What a bank answers to a request taken by its controller. -/
def State.portServe (s : State) (m b : Nat) (r : PortReq) (ecc : Ecc) : State × MResp :=
  let none_ : MResp := { rdata := 0, write := r.write, corr := false, uncorr := true, parity := false, tag := r.tag }
  if s.fenced b r.word ∨ s.bankRetired b then (s, none_)
  else if r.write then
    match s.portWrite m b r.word r.be r.wdata ecc with
    | (s, ok) => (s, { none_ with uncorr := !ok })
  else
    match s.portRead m b r.word ecc with
    | (s, v, corr, bad) => (s, { none_ with rdata := v, corr := corr, uncorr := bad })

/-- CE_REREAD (R99): the re-read is clean (none), or shows the error again with a syndrome. -/
def execCeReread (mat : MatId) (bank : Fin 8) (word : BitVec 13) (again : Option Byte) (s : State) :
    Host.Outcome State Fault Refusal :=
  let m := mat.val
  let c := matCol m
  let g := matG m
  let l := Tab.get nil0 s.col.reread c
  if (m, bank.val, word.toNat) ∉ l then .next s
  else
    let s := { s with col := { s.col with
      reread := Tab.put nil0 s.col.reread c (l.erase (m, bank.val, word.toNat)) } }
    match again with
    | some syn => .next (s.foundCE (s.serving (bankId c bank.val)) word.toNat syn.toNat)
    | none =>
      let s := if g = 0 then s.count (COL_MPORT_CESA c) (COL_RHZ_SAT_MPORT_CESA c) 1
        else s.count (COL_MPORT_CESB c) (COL_RHZ_SAT_MPORT_CESB c) 1
      .next (s.soundPort c g 3)

/-! ### Scrub and remap -/

/-- Errors that a pass or a copy finds in words of a bank. -/
def State.foundCEs (s : State) (b : Nat) (l : List (BitVec 13 × Byte)) : State :=
  l.foldl (fun s e => if (s.word b e.1.toNat).poison then s else s.foundCE b e.1.toNat e.2.toNat) s

def State.foundUEs (s : State) (b by_ : Nat) (l : List (BitVec 13 × Word × Byte)) : State :=
  l.foldl (fun s e => if (s.word b e.1.toNat).poison then s
    else s.foundUE b e.1.toNat e.2.1 e.2.2.toNat by_) s

/-- A scrub pass can be granted now: nothing it would wait for holds the bank (R470 to R472). -/
def State.scrubFree (s : State) (b : Nat) : Bool :=
  grantable s.mnt.acts { place := 33, task := .scrub b, locks := [.bank b], st := .waiting, requester := 0,
                         ref := none, since := s.time, resource := bankCol b }

/-- What a pass over a free b8 finds: counted, with the last error in COL_BANK_LAST; the words keep the test pattern
(R113, R120). -/
def State.foundSpare (s : State) (b : Nat) (ces : List (BitVec 13 × Byte)) (ues : List (BitVec 13 × Word × Byte)) :
    State :=
  let s := ces.foldl (fun s e => s.lastError b e.1.toNat false e.2.toNat) s
  let s := ues.foldl (fun s e => s.lastError b e.1.toNat true e.2.2.toNat) s
  (s.countCE b ces.length).countUE b ues.length

/-- SCRUB_PASS (R113, R114): one whole pass as one step. `ces` and `ues`: the words found correctable,
with syndromes, and uncorrectable, as read.  R113 starts with COL_SCRUB_CTL.EN and says of b8 that its scrub runs at all
times; the model takes this as "serving or free" and lets EN 0 stop the scrub of b8 too (DESIGN CHOICE, log entry
67). -/
def execScrubPass (bank : BankId) (ces : List (BitVec 13 × Byte)) (ues : List (BitVec 13 × Word × Byte))
    (s : State) : Host.Outcome State Fault Refusal :=
  let b := bank.val
  let c := bankCol b
  if s.flag (COL_SCRUB_CTL_EN c) = false ∨ s.get (bankState b) ≠ 0 ∨ s.scrubFree b = false then .next s
  else if bankIdx b = 8 ∧ s.get (spareServes c) = 15 then
    -- a free b8 against its test pattern
    let lim := s.get (COL_BANK_CTL_CE_LIMIT c 8)
    let s := s.foundSpare b ces ues
    let s := { s with col := { s.col with
      spareClean := Tab.put bool0 s.col.spareClean c (decide (ces = [] ∧ ues = [])) } }
    if ues ≠ [] ∨ (lim ≠ 0 ∧ lim ≤ (ces.map Prod.fst).eraseDups.length) then .next (s.bankFailing b (decide (ues ≠ [])))
    else .next s
  else
    let s := (s.foundCEs b ces).foundUEs b 3 ues
    let n := (ces.map Prod.fst).eraseDups.length
    let lim := s.get (COL_BANK_CTL_CE_LIMIT c (bankIdx b))
    if lim ≠ 0 ∧ lim ≤ n then
      let s := s.reportFault 2 c (.bank (bankIdx (s.servedBy b))) 0x4308 (srcBank c (bankIdx b)) [(18, 1, bankIdx b), (19, 2, n)]
      .next (s.bankFailing b false)
    else .next s

/-- BANK_REMAP (R115 step 2): the granted remap starts; writes are mirrored from now on. -/
def execBankRemap (bank : Fin 2048) (s : State) : Host.Outcome State Fault Refusal :=
  let b := bank.val
  match s.runningTask (fun t => t = .remap b) with
  | none => .next s
  | some _ =>
    if s.get (bankState b) ≠ 0 then .next s
    else
      let s := s.set (bankState b) 1
      .next { s with mem := { s.mem with mirrored := Tab.put nil0 s.mem.mirrored (bankCol b) [] } }

/-- A remap that ends without a switch: b keeps serving (R117). -/
def State.dropRemap (s : State) (b : Nat) : State :=
  let c := bankCol b
  let s := (if s.get (bankState b) = 1 then s.set (bankState b) 0 else s).freeSpare c
  { s with col := { s.col with failing := Tab.put bool0 s.col.failing b false } }

/-- BANK_REMAPPED (R115 steps 3 to 5, R116, R117). `ces`, `ues`: what the copy found in words of b;
`spareFails`: b8 failed during the copy. -/
def execBankRemapped (bank : Fin 2048) (ces : List (BitVec 13 × Byte)) (ues : List (BitVec 13 × Word × Byte))
    (spareFails : Bool) (copyNs : BitVec 32) (s : State) : Host.Outcome State Fault Refusal :=
  let b := bank.val
  let c := bankCol b
  match s.runningTask (fun t => t = .remap b) with
  | none => .next s
  | some a =>
    if s.get (bankState b) ≠ 1 then .next s
    else if spareFails then
      let s := (s.dropRemap b).set (bankState (2048 + c)) 3
      let s := { s with col := { s.col with spareClean := Tab.put bool0 s.col.spareClean c false } }
      .next (((s.startRemap b).release a.place).finishRef a.ref stHW_FAULT 0)
    else
      let skip := Tab.get nil0 s.mem.mirrored c
      let s := (s.foundCEs b (ces.filter (fun e => decide (e.1.toNat ∉ skip)))).foundUEs b 4
        (ues.filter (fun e => decide (e.1.toNat ∉ skip)))
      let s := { s with mem := { s.mem with words := remapCopy b c skip s.mem.words,
                                            mirrored := Tab.put nil0 s.mem.mirrored c [] },
                        col := { s.col with failing := Tab.put bool0 s.col.failing b false,
                                            spareClean := Tab.put bool0 s.col.spareClean c false } }
      let s := (s.set (bankState b) 2).setFlag (bankSuspect b) true
      let s := s.raise 0x030A (srcBank c (bankIdx b)) [(18, 1, bankIdx b), (19, 4, copyNs.toNat)]
      let s := ((s.closeFault 2 c (.bank (bankIdx b))).release a.place).finishRef a.ref stOK 0
      .next ((s.setUnit 6 b { s.unit 6 b with suspect := true }).submitSlice 6 b)

/-! ### REPAIR (R118) -/

/-- Control rhizoids of the column are out of service (R102). -/
def State.controlOut (s : State) (c : Nat) : Bool := s.useOut (matOf c 0) 2

/-- REPAIR of a bank: it becomes failing and its remap is submitted for the command (R114, R118). -/
def State.repairBank (s : State) (c b : Nat) (r : CmdRef) : CmdRes :=
  let p := bankId c b
  if s.spareReady c = false then s.ends stNO_SPACE
  else if s.get (bankState p) ≠ 0 then s.ends stREFUSED
  else
    let s' := s.reportFault 2 c (.bank b) 0x4308 (srcBank c b) [(18, 1, b), (19, 2, 0)]
    let s' := { s'.set (spareServes c) b with
      col := { s'.col with failing := Tab.put bool0 s'.col.failing p true } }
    match s'.submit (.remap p) (remapLocks p) 3 c (some r) with
    | (_, .noSpace) => s.ends stNO_SPACE
    | x => Submitted.report x r

/-- REPAIR of kind 1: the group is sounded ahead of the regular order once its lock is granted
(State.aheadNow). -/
def State.repairGroup (s : State) (c i g : Nat) (r : CmdRef) : CmdRes :=
  match s.submit (.spareSwap c i g 66) [.rgroup c i g] 3 c (some r) with
  | (_, .noSpace) => s.ends stNO_SPACE
  | (s, x) =>
    let s := { s with col := { s.col with repairs := s.col.repairs ++ [(groupKey c i g, r)] } }
    Submitted.report (s, x) r

/-- REPAIR of kind 2: an enabled lane is done at once; a disabled one awaits its re-test. -/
def State.repairLane (s : State) (c lane : Nat) (r : CmdRef) : CmdRes :=
  if s.flag (laneDis c lane) = false then s.ends stOK
  else if s.laneDead c lane then s.ends stHW_FAULT
  else { s with col := { s.col with retests := s.col.retests ++ [(c * 256 + lane, r)] } }.goesOn

/-- Arguments of REPAIR in range (R118). -/
def repairArgsOk (kind column unit group : Nat) : Bool :=
  decide (column < 256) &&
  match kind with
  | 0 => decide (unit < 8 ∧ group = 0)
  | 1 => decide (unit < 4 ∧ group < 56)
  | 2 => decide (group = 0)
  | _ => false

/-- REPAIR (R118). -/
def execRepair (h : Hdr) (kind : Byte) (column : BitVec 16) (unit group : Byte) (s : State) :
    Host.Outcome State Fault Refusal :=
  .next (s.hostCmd h 0x62 (fun s =>
    let c := column.toNat
    let r := hdrRef h 0x62
    if repairArgsOk kind.toNat c unit.toNat group.toNat = false then s.ends stBAD_ARG
    else if s.controlOut c then s.ends stHW_FAULT
    else
      match kind.toNat with
      | 0 => s.repairBank c unit.toNat r
      | 1 => s.repairGroup c unit.toNat group.toNat r
      | _ => s.repairLane c unit.toNat r))

end Sys2Proof.Machine
end

