-- ==== Sys2Proof/Machine/Supply.lean ====
section
/-! DEFINITION.  The VDD_F set point as the speed governor and the slot loads see it (R85, R189, R190). -/

namespace Sys2Proof.Machine

open Sys2Proof

/-- VDD_F that a FLOOR code demands, in mV (R69). -/
def floorMv (code : Nat) : Nat := if code = 0 then 0 else 500 + 5 * code

/-- The greatest FLOOR among the gate records of all resident slots (R85). -/
def State.greatestFloor (s : State) : Nat :=
  s.ctx.slots.foldl (fun a e =>
    let m := e.1 / 4
    max a (s.get (COL_CTX_SRC_FLOOR (matCol m) (matG m) (e.1 % 4)))) 0

/-- Lower bound of the governor (R190). -/
def State.lowerBound (s : State) : Nat := max 550 (floorMv s.greatestFloor)

/-- VDD_F set point in force, as the PMU has reported it reached. -/
def State.vddF (s : State) : Nat := s.get PMU_GOV_STATUS_SETPOINT_MV

/-- Request a VDD_F set point (R189). -/
def State.requestF (s : State) (mv : Nat) : State := { s with pow := { s.pow with reqF := some mv } }

/-- 5 mV steps raised and lowered are counted as VDD_F reaches a requested set point (R194).  The first set point after
power-on is no step (log entry 44). -/
def State.countSteps (s : State) (mv : Nat) : State :=
  let now := s.vddF
  if now = 0 then s
  else if now < mv then s.count PMU_GOV_UPS PMU_GOV_SAT_UPS ((mv - now + 4) / 5)
  else s.count PMU_GOV_DOWNS PMU_GOV_SAT_DOWNS ((now - mv + 4) / 5)

/-- CAP_HELD: the cap is active and VDD_F at its lower bound; POWER_CAP_HELD is raised as it begins (R191). -/
def State.showCapHeld (s : State) : State :=
  let lb := s.lowerBound
  let held := s.flag PMU_GOV_STATUS_CAP_ACTIVE && decide (s.vddF ≤ lb)
  let before := s.flag PMU_GOV_STATUS_CAP_HELD
  let s := s.setFlag PMU_GOV_STATUS_CAP_HELD held
  if held = before then s
  else if held then
    ({ s with pow := { s.pow with heldAt := some s.time } } : State).raise 0x8505 srcGovernor [(18, 2, lb)]
  else { s with pow := { s.pow with heldAt := none } }

/-- Show the lower bound in force, and whether the set point is at it. -/
def State.showBound (s : State) : State :=
  let lb := s.lowerBound
  ((s.set PMU_GOV_FLOOR_FLOOR_MV lb).setFlag PMU_GOV_STATUS_AT_FLOOR (decide (s.vddF ≤ lb))).showCapHeld

/-- After a change of the floors: a floor above the set point in force, or above the one requested, is
requested at once and replaces the pending request (R85, R189). -/
def State.raiseToFloor (s : State) : State :=
  let s := s.showBound
  let lb := s.lowerBound
  match s.pow.reqF with
  | some r => if r < lb then s.requestF lb else s
  | none => if s.vddF < lb then s.requestF lb else s

end Sys2Proof.Machine
end

