-- ==== Sys2Proof/Machine/Slots.lean ====
section
/-! DEFINITION.  Resident slots, the library, the trunk ownership table and swap groups as data
(R104, R105, R122 to R130, R145). -/

namespace Sys2Proof.Machine

open Sys2Proof

/-! Slot states (R123). -/

def slEMPTY : Nat := 0
def slLOADING : Nat := 1
def slWAIT_FLOOR : Nat := 2
def slREADY : Nat := 3
def slACTIVE : Nat := 4
def slCROSIER : Nat := 5

/-- Slot k of a physical mat. -/
def State.slot (s : State) (m k : Nat) : Slot := Tab.get slot0 s.ctx.slots (m * 4 + k)

def State.setSlot (s : State) (m k : Nat) (x : Slot) : State :=
  { s with ctx := { s.ctx with slots := Tab.put slot0 s.ctx.slots (m * 4 + k) x } }

/-- COL_CTX_STATE.SLOTS of slot k. -/
def slotFld (m k : Nat) : Fld := ⟨COL_CTX_STATE (matCol m) (matG m), 4 * k, 4⟩
def State.slotState (s : State) (m k : Nat) : Nat := s.get (slotFld m k)
def State.setSlotState (s : State) (m k st : Nat) : State := s.set (slotFld m k) st

/-! Mat gate registers by physical mat. -/

def gACTIVE (m : Nat) : Fld := COL_GATE_STATUS_ACTIVE_SLOT (matCol m) (matG m)
def gQUIET (m : Nat) : Fld := COL_GATE_STATUS_QUIET (matCol m) (matG m)
def gCROSIER (m : Nat) : Fld := COL_GATE_STATUS_CROSIER (matCol m) (matG m)
def gILLEGAL (m : Nat) : Fld := COL_GATE_STATUS_ILLEGAL (matCol m) (matG m)
def gCLK_HELD (m : Nat) : Fld := COL_GATE_STATUS_CLK_HELD (matCol m) (matG m)
def gREGCH_BUSY (m : Nat) : Fld := COL_GATE_STATUS_REGCH_BUSY (matCol m) (matG m)
def gFLOOR (m : Nat) : Fld := COL_GATE_STATUS_FLOOR (matCol m) (matG m)

/-- Active slot of a physical mat (R122). -/
def State.activeSlot (s : State) (m : Nat) : Nat := s.get (gACTIVE m)

/-- Context of the active slot: the gate record in force. -/
def State.activeCtx (s : State) (m : Nat) : Ctx := (s.slot m (s.activeSlot m)).ctx

/-- Library entry e of a mat position. -/
def State.entry (s : State) (m e : Nat) : LibEntry := Tab.get lib0 s.ctx.lib (m * 16 + e)

def State.entryValid (s : State) (m e : Nat) : Bool := bitAt (s.get (COL_CTX_LIB_VALID (matCol m) (matG m))) e

def State.setEntry (s : State) (m e : Nat) (x : LibEntry) (valid : Bool) : State :=
  let s := { s with ctx := { s.ctx with lib := Tab.put lib0 s.ctx.lib (m * 16 + e) x } }
  s.setFlag ⟨COL_CTX_LIB (matCol m) (matG m), e, 1⟩ valid

def State.setHeld (s : State) (m : Nat) (b : Bool) : State :=
  { s with ctx := { s.ctx with released := Tab.put bool0 s.ctx.released m (!b) } }

/-! ### First activation and writes of slots -/

/-- n fresh words: MAC accumulators at first activation, for which the spec gives no code (log 6). -/
def State.freshN : Nat → State → State × List Word
  | 0, s => (s, [])
  | n + 1, s =>
    match s.fresh with
    | (v, s) => match State.freshN n s with
      | (s, l) => (s, v :: l)

/-- Hold state of a context at first activation (R58, R127). -/
def State.firstHolds (s : State) (c : Ctx) : State × Holds :=
  match State.freshN 8 s with
  | (s, acc) => (s, { fronds := c.firstFronds, acc := acc, res := [], lanes := [], border := [] })

/-- GATE_STATUS.FLOOR and the bound that follows it (R85, R93). -/
def State.noteFloor (s : State) (m : Nat) : State :=
  let c := matCol m
  let g := matG m
  let f := (upto 4).foldl (fun a k => max a (s.get (COL_CTX_SRC_FLOOR c g k))) 0
  (s.set (gFLOOR m) f).raiseToFloor

/-- The trunk ownership entries of a slot are recomputed from its context (R104). -/
def State.recomputeOwn (s : State) (m k : Nat) : State :=
  let x := s.slot m k
  let lanes := (upto 256).filter (fun l => x.ctx.drivesLane l)
  { s with col := { s.col with own := Tab.put own0 s.col.own (m * 4 + k) (lanes, x.laneHold) } }

/-- The lanes that the ownership table names a slot's end as the driver of, and its HOLD bits. -/
def State.ownOf (s : State) (m k : Nat) : List Nat × List Nat := Tab.get own0 s.col.own (m * 4 + k)

/-- What a write puts into a slot, and how COL_CTX_SRC shows it. -/
structure SlotWrite where
  ctx : Ctx
  check : Word
  laneHold : List Nat
  charter : List Nat
  entry : Nat
  crosier : Bool
  ax : Bool

/-- Write a slot: frond words and gate record, holds and shadow at first-activation codes (R127 step 2). -/
def State.writeSlot (s : State) (m k : Nat) (w : SlotWrite) : State :=
  let c := matCol m
  let g := matG m
  match s.firstHolds w.ctx with
  | (s, h) =>
    let s := s.setSlot m k { ctx := w.ctx, holds := h, shadow := h, activated := false,
                             laneHold := w.laneHold, charter := w.charter, check := w.check }
    let s := s.recomputeOwn m k
    let s := s.set (COL_CTX_SRC_ENTRY c g k) w.entry
    let s := (s.setFlag (COL_CTX_SRC_CROSIER c g k) w.crosier).setFlag (COL_CTX_SRC_AX c g k) w.ax
    let s := s.set (COL_CTX_SRC_FLOOR c g k) w.ctx.floor
    let s := s.set (COL_CTX_SRC_LOADS c g k) (s.get (COL_CTX_SRC_LOADS c g k) + 1)
    s.noteFloor m

/-- The write of a library entry. -/
def entryWrite (e : LibEntry) (n : Nat) (crosier : Bool) : SlotWrite :=
  { ctx := e.ctx, check := e.check, laneHold := e.laneHold, charter := e.charter, entry := n,
    crosier := crosier, ax := false }

/-- A slot that holds no context. -/
def State.emptySlot (s : State) (m k : Nat) : State :=
  let s := ((s.setSlot m k (slot0 0)).recomputeOwn m k).set (COL_CTX_SRC_FLOOR (matCol m) (matG m) k) 0
  (s.setSlotState m k slEMPTY).noteFloor m

/-- A written and checked slot: READY, or WAIT_FLOOR while its FLOOR lies above the VDD_F that the PMU
reports (R127 steps 4 and 4′). -/
def State.settleSlot (s : State) (m k : Nat) : State :=
  if floorMv (s.get (COL_CTX_SRC_FLOOR (matCol m) (matG m) k)) ≤ s.vddF then s.setSlotState m k slREADY
  else s.setSlotState m k slWAIT_FLOOR

/-- First-activation codes in all four slots of a mat (R164). -/
def State.reinitSlot (s : State) (m k : Nat) : State :=
  let x := s.slot m k
  match s.firstHolds x.ctx with
  | (s, h) => s.setSlot m k { x with holds := h, shadow := h }

/-! ### Trunk ownership (R104, R105) -/

/-- Contexts of the two mats of a column by (g, slot). -/
def State.colCtx (s : State) (c : Nat) : Nat → Nat → Ctx := fun g k => (s.slot (matOf c g) k).ctx

/-- The same with one slot replaced. -/
def withCtx (f : Nat → Nat → Ctx) (g k : Nat) (x : Ctx) : Nat → Nat → Ctx :=
  fun g' k' => if g' = g ∧ k' = k then x else f g' k'

/-- Driver code of a lane in a combination: 0 NONE, 1 L1, 2 L3, 3 CONFLICT (R104). -/
def driverCode (f : Nat → Nat → Ctx) (a b lane : Nat) : Nat :=
  b2n ((f 0 a).drivesLane lane) + 2 * b2n ((f 1 b).drivesLane lane)

/-- Driver code of a lane in a combination as the column agent's table holds it (R104, R121). -/
def State.ownCode (s : State) (c a b lane : Nat) : Nat :=
  b2n (decide (lane ∈ (s.ownOf (matOf c 0) a).1)) + 2 * b2n (decide (lane ∈ (s.ownOf (matOf c 1) b).1))

/-- Some lane of the combination is in CONFLICT. -/
def comboConflict (f : Nat → Nat → Ctx) (ab : Nat × Nat) : Bool :=
  (upto 256).any (fun l => decide (driverCode f ab.1 ab.2 l = 3))

/-- A context uses an I/O path of its mat. -/
def Ctx.usesPath (c : Ctx) : Bool := (upto 384).any (fun v => Config.drivesPath c.words v)

/-- Some resident context of a mat. -/
def State.anyCtx (s : State) (m : Nat) (p : Ctx → Bool) : Bool := (upto 4).any (fun k => p (s.slot m k).ctx)

/-- The mats (L1, L3) of a column that depend on a group (R97): by a trunk lane that any combination of the resident
slots drives, the memory port on the interface, configuration and I/O wires as the device database lists them, the
control rhizoids. -/
def State.dependents (s : State) (c i g : Nat) : Bool × Bool :=
  let p1 := matOf c 0
  let p3 := matOf c 1
  match groupUse c i g with
  | 0 =>
    let d := (upto 16).any (fun j => s.anyCtx p1 (fun x => x.drivesLane (16 * g + j)) ||
      s.anyCtx p3 (fun x => x.drivesLane (16 * g + j)))
    (d, d)
  | 1 => (decide (i / 2 = 0), decide (i / 2 = 1))
  | 2 => (Config.groupCarries c i g 0, Config.groupCarries c i g 1)
  | 3 => (true, true)
  | 4 => (Config.groupCarries c i g 0 && s.anyCtx p1 Ctx.usesPath, Config.groupCarries c i g 1 && s.anyCtx p3 Ctx.usesPath)
  | _ => (false, false)

/-! ### Swap groups -/

def State.group (s : State) (g : Nat) : Group := Tab.get group0 s.ctx.groups g

def State.setGroup (s : State) (g : Nat) (x : Group) : State :=
  { s with ctx := { s.ctx with groups := Tab.put group0 s.ctx.groups g x } }

/-- Swap group of a logical mat (R126). -/
def State.groupOf (s : State) (m : Nat) : Option Nat :=
  (s.ctx.groups.find? (fun e => decide (m ∈ e.2.mats))).map Prod.fst

/-- The group is stopped for want of a reserve mat (R462). -/
def State.groupStopped (s : State) (g : Nat) : Bool :=
  if g < 32 then s.bit MNT_UNPLACED_LO g else s.bit MNT_UNPLACED_HI (g - 32)

/-- Lead column: the lowest-indexed column that holds a mat of a list of logical mats (R130). -/
def State.leadCol (s : State) (mats : List Nat) : Nat :=
  mats.foldl (fun a m => min a (matCol (s.physMat m))) 255

/-- Slots that the phases of a schedule name. -/
def Sched.slots (x : Sched) : List Nat := x.phases.map Prod.fst

/-- Slots named by a group's armed schedules: the one in force and the pending one (R148). -/
def Group.armedSlots (x : Group) : List Nat :=
  (match x.sched with
    | some c => c.slots
    | none => []) ++
  (match x.pending with
    | some (_, _, some c) => c.slots
    | _ => [])

/-- Pacer of a group's schedule in force, else of its pending one. -/
def Group.schedPacer (x : Group) : Option Nat :=
  match x.sched, x.pending with
  | some c, _ => some c.pacer
  | none, some (_, p, some _) => some p
  | _, _ => none

/-- Slots that the armed schedules of a mat's group name, with extra ones for a group under test. -/
def State.namedSlots (s : State) (m : Nat) (extra : Option (Nat × List Nat)) : List Nat :=
  match s.groupOf m with
  | none => []
  | some g => (s.group g).armedSlots ++ (match extra with
      | some (g', l) => if g' = g then l else []
      | none => [])

/-- Combinations that two mats of a column can be in: logical mats m1 and m3 with active slots a and b, under
the armed schedules (R105). -/
def State.combos (s : State) (m1 a m3 b : Nat) (extra : Option (Nat × List Nat)) : List (Nat × Nat) :=
  let l1 := s.namedSlots m1 extra
  if s.groupOf m1 ≠ none ∧ s.groupOf m1 = s.groupOf m3 then (a, b) :: l1.map (fun k => (k, k))
  else
    let l3 := s.namedSlots m3 extra
    (a :: l1).foldr (fun a l => (b :: l3).map (fun b => (a, b)) ++ l) []

/-- Combinations that a column can be in under its active slots and the armed schedules (R105). -/
def State.produced (s : State) (c : Nat) (extra : Option (Nat × List Nat)) : List (Nat × Nat) :=
  let p1 := matOf c 0
  let p3 := matOf c 1
  s.combos (s.logMat p1) (s.activeSlot p1) (s.logMat p3) (s.activeSlot p3) extra

/-- The contexts of a column give no CONFLICT in any produced combination (R105). -/
def State.columnClear (s : State) (c : Nat) (f : Nat → Nat → Ctx) (extra : Option (Nat × List Nat)) : Bool :=
  (s.produced c extra).all (fun ab => !comboConflict f ab)

/-! ### Tests of mats -/

/-- A relocation holds its lock on a physical mat (R135, R457). -/
def State.relocLocked (s : State) (p : Nat) : Bool :=
  s.mnt.acts.any (fun a => decide (a.st ≠ .waiting) && decide (taskCode a.task = 4) && decide (Lock.mat p ∈ a.locks))

/-- The swap in progress of a logical mat's group (R135). -/
def State.swapOf (s : State) (m : Nat) : Option SwapRun :=
  match s.groupOf m with
  | some g => (s.group g).run
  | none => none

/-- The crosier region that a logical mat belongs to (R152). -/
def State.crosierOf (s : State) (m : Nat) : Option Crosier :=
  s.ctx.crosiers.find? (fun c => decide (m ∈ c.mats))

/-- The slot that was active at the start of the mat's period in progress: a load into it waits for the
period's end (R128). -/
def State.restoreTarget (s : State) (m k : Nat) : Bool :=
  match s.regionOf m with
  | none => false
  | some p =>
    let x := Tab.get pacer0 s.pace.pacers p
    decide (2 ≤ s.get (PACE_STATUS_STATE p)) && (x.ended.isNone || x.flushing) &&
      decide (Tab.find x.startSlot m = some k)

/-- A context needs a use that is out of service on a physical mat (R102). -/
def State.needsOut (s : State) (p : Nat) (c : Ctx) : Bool :=
  s.useOut p 1 || s.useOut p 2 || (s.useOut p 0 && c.usesPort) || (s.useOut p 3 && c.usesPath) ||
    (upto 256).any (fun l => s.laneDead (matCol p) l && c.drivesLane l)

/-- The contexts of a column once a load of an entry into slot k of logical mats has been written. -/
def State.colCtxAfter (s : State) (c k e : Nat) (mats : List Nat) : Nat → Nat → Ctx := fun g j =>
  let p := matOf c g
  if j = k ∧ s.logMat p ∈ mats then (s.entry p e).ctx else (s.slot p j).ctx

/-- Test of one mat before a load of the named mats (R128, R462).  The combinations are those that the whole load
produces. -/
def State.loadTest (s : State) (mats : List Nat) (m k e : Nat) : Nat :=
  let p := s.physMat m
  let stopped := match s.groupOf m with
    | some g => s.groupStopped g
    | none => Tab.get bool0 s.mnt.stopped p
  let st := s.slotState p k
  if stopped then stREFUSED
  else if s.activeSlot p = k then stREFUSED
  else if (s.swapOf m).any (fun r => decide (r.slot = k)) then stBUSY
  else if s.entryValid p e = false then stREFUSED
  else if st = slLOADING ∨ st = slWAIT_FLOOR then stBUSY
  else if s.restoreTarget m k then stBUSY
  else if k ∈ s.namedSlots m none ∧
      s.columnClear (matCol p) (s.colCtxAfter (matCol p) k e mats) none = false then stCONTENTION
  else stOK

/-! ### Stopped CLOCKED holds across flips (R86) -/

/-- Microseconds between two device times, saturating at 32 bits. -/
def usBetween (a b : Word) : Nat := satBits 32 ((b - a).toNat / 1000)

/-- Measured VDD_F in mV. -/
def State.measuredF (s : State) : Nat := Tab.get nat0 s.pow.mv 0

def State.holdClocks (s : State) (m : Nat) : State :=
  let s := { s.setFlag (gCLK_HELD m) true with
    ctx := { s.ctx with clkHeldAt := Tab.put word0 s.ctx.clkHeldAt m s.time } }
  s.raise 0x4203 (srcMat m 0) [(18, 2, s.measuredF), (20, 1, s.greatestFloor)]

def State.releaseClocks (s : State) (m : Nat) : State :=
  let t := Tab.get word0 s.ctx.clkHeldAt m
  let s := { s.setFlag (gCLK_HELD m) false with
    ctx := { s.ctx with clkHeldAt := Tab.put word0 s.ctx.clkHeldAt m 0 } }
  s.raise 0x0204 (srcMat m 0) [(18, 2, s.measuredF), (20, 4, usBetween t s.time)]

/-- CLK_HELD follows the slot that has just become active (R86). -/
def State.clocksAfterFlip (s : State) (m : Nat) : State :=
  let c := (s.activeCtx m).clocked
  if s.flag (gCLK_HELD m) ∧ c = false then s.releaseClocks m
  else if s.ctx.clkStopped ∧ c ∧ s.flag (gCLK_HELD m) = false then s.holdClocks m
  else s

end Sys2Proof.Machine
end

