-- ==== Sys2Proof/Machine/AccessOps.lean ====
section
/-! DEFINITION.  Who may access which register block, and what becomes of an access to a gated block or
across a held PBUS lock (R41, R42, R266 to R268, R501, R506). -/

namespace Sys2Proof.Machine

open Sys2Proof

/-- A bad host access to PF0 BAR0 (R42). -/
def State.badAccess (s : State) (offset size : Nat) (write : Bool) : State :=
  s.raise 0x4102 (srcHif 0) [(18, 4, offset), (22, 1, size), (23, 1, b2n write)]

/-- A control core waits in a load or store (R204, R502). -/
def State.coreWaits (s : State) (r : Requester) (w : Option BusWait) : State :=
  match reqCore r with
  | some n => { s with core := { s.core with
      cores := Tab.upd core0 s.core.cores n (fun c =>
        { c with wait := w, waitAt := if c.wait.isSome && w.isSome then c.waitAt else s.time }) } }
  | none => s

/-- A core's access ends with a bus error. -/
def State.coreBusError (s : State) (r : Requester) : State := s.emit (.busError r)

/-- The enable bit of the gateable block that an offset of PF0 BAR0 lies in (R267, R268). -/
def gateBit (k : Nat) : Option Fld :=
  if 0x10000 ≤ k ∧ k < 0x18000 then some ⟨CLK_EN0, (k - 0x10000) / 0x1000, 1⟩
  else if 0xA100 ≤ k ∧ k < 0xA280 then some ⟨CLK_EN0, 8 + (k - 0xA100) / 64, 1⟩
  else if 0x9000 ≤ k ∧ k < 0xA000 then some ⟨CLK_EN0, 14, 1⟩
  else if 0x1C000 ≤ k ∧ k < 0x24000 then some ⟨CLK_EN1, (k - 0x1C000) / 0x1000, 1⟩
  else if 0x40000 ≤ k ∧ k < 0x40200 then some ⟨CLK_EN1, 8 + (k - 0x40000) / 0x40, 1⟩
  else none

/-- The rail of the domain in which a block's registers lie, of the rails whose reset level leaves the host link and
the security block running (R402): 1 the queue engines and the tally engines, 2 field ports, GPIO, column agents,
supervisors and configuration engine, 5 or 6 (VXA, VXH) the transceivers. -/
def onRail (r k : Nat) : Bool :=
  match r with
  | 1 => decide ((0x40000 ≤ k ∧ k < 0x50000) ∨ (0x100000 ≤ k ∧ k < 0x120000))
  | 2 => decide ((0x10000 ≤ k ∧ k < 0x18000) ∨ (0xA000 ≤ k ∧ k < 0xB000) ∨ (0x200000 ≤ k ∧ k < 0x300000))
  | 5 | 6 => decide (0x18000 ≤ k ∧ k < 0x24000)
  | _ => false

/-- The crossing to a block refuses: the block's domain is held in reset (R272, R412). -/
def State.crossingRefuses (s : State) (k : Nat) : Bool := s.dev.restart.any (fun r => onRail r k)

/-- An access at an offset is not performed: stopped by its block's clock gate (R266, R268), or by the crossing to it
(R272). -/
def State.gated (s : State) (k : Nat) : Bool :=
  s.crossingRefuses k || match gateBit k with
  | some f => !s.flag f
  | none => false

/-- A host access to a gated block is counted and reported (R266). -/
def State.noteGated (s : State) (k size : Nat) (write : Bool) : State :=
  (s.count CLK_GATEDS CLK_SAT_GATEDS 1).raiseLim 0x480B (srcHif 0) [(18, 4, k), (22, 1, size), (23, 1, b2n write)]

/-- An access to a gated block's registers (R266). -/
def State.gatedAccess (s : State) (req : Requester) (k size : Nat) (write : Bool) : State :=
  match req with
  | .host =>
    let s := s.noteGated k size write
    if write then s else s.emit (.answer .host (BitVec.ofNat 64 (256 ^ size - 1)))
  | .debug => s.emit .debugRefused
  | r => s.coreBusError r

/-- What service cores may write: FP, GPIO, XL, PACE, TAL and QUE (R501), and their own bit of the EVR_ROUTEs
(R508). -/
def serviceWrites (k : Nat) : Bool :=
  decide ((0x400 ≤ k ∧ k < 0x600) ∨ (0x10000 ≤ k ∧ k < 0x18000) ∨ (0xA000 ≤ k ∧ k < 0xB000) ∨ (0x1C000 ≤ k ∧ k < 0x24000) ∨
    (0x30000 ≤ k ∧ k < 0x34000) ∨ (0x40000 ≤ k ∧ k < 0x50000) ∨ (0x100000 ≤ k ∧ k < 0x120000))

/-- Blocks on the PBUS: FP, GPIO, XL, HL, PACE and TAL (R501). -/
def onPbus (k : Nat) : Bool :=
  decide ((0x10000 ≤ k ∧ k < 0x24000) ∨ (0xA000 ≤ k ∧ k < 0xB000) ∨ (0x30000 ≤ k ∧ k < 0x34000) ∨
    (0x40000 ≤ k ∧ k < 0x50000))

/-- The PBUS lock keeps a requester from an offset (R506). -/
def State.lockedOut (s : State) (req : Requester) (k : Nat) : Bool :=
  match s.core.lock with
  | none => false
  | some c => onPbus k && decide (reqCore req ≠ some c) && decide (req ≠ .debug)

/-- A register access by a requester: held while another core has the PBUS lock, not performed in a
gated block, a bus error where a service core may not write, nothing in P0; otherwise performed. -/
def State.regAccess (s : State) (req : Requester) (k size : Nat) (write : Bool) (body : State → State) : State :=
  if s.dev.off then s
  else if s.lockedOut req k then s.coreWaits req (some .lock)
  else
    let s := s.coreWaits req none
    if s.gated k then s.gatedAccess req k size write
    else match req with
      | .service _ => if write && !serviceWrites k then s.coreBusError req else body s
      | _ => body s

/-- A 4-byte register write. -/
def State.regWrite (s : State) (req : Requester) (k : Nat) (body : State → State) : State :=
  s.regAccess req k 4 true body

/-- A register's value after a plain write: RW bits take the written value, W1C bits are cleared and W1S bits
set where a 1 is written, every other bit stays (R8). -/
def regAfter (k : Nat) (old v : Reg) : Reg :=
  match regClass k with
  | none => old
  | some c =>
    let rw := BitVec.ofNat 32 c.rw
    (((old &&& ~~~rw) ||| (v &&& rw)) &&& ~~~(v &&& BitVec.ofNat 32 c.w1c)) ||| (v &&& BitVec.ofNat 32 c.w1s)

/-- A plain write of a register (R8). -/
def State.plainWrite (s : State) (k : Nat) (v : Reg) : State := s.wr k (regAfter k (s.rd k) v)

end Sys2Proof.Machine
end

