-- ==== Sys2Proof/Machine/PinOps.lean ====
section
/-! DEFINITION.  Pins as data: levels, owners, charter, function switches, and which control a pin follows
(R307 to R332, R428).  A pin is numbered 2 × port + pin of the port, or 256 + GPIO pin id. -/

namespace Sys2Proof.Machine

open Sys2Proof

/-! ### Levels and supplies -/

def pinLevelFld (v : Nat) : Fld :=
  if v < 256 then ⟨FP_STATUS (v / 2), v % 2, 1⟩ else ⟨GPIO_IN ((v - 256) / 32), (v - 256) % 32, 1⟩

/-- Pad level of a pin (R310, R325). -/
def State.pinLevel (s : State) (v : Nat) : Bool := s.flag (pinLevelFld v)

def State.setPinLevel (s : State) (v : Nat) (b : Bool) : State := s.setFlag (pinLevelFld v) b

/-- Supply of a pin's bank or group in GPIO_SUPPLY (R307, R324). -/
def supplyFld (v : Nat) : Fld :=
  if v < 256 then ⟨GPIO_SUPPLY, 16 + 2 * (v / 32), 2⟩ else ⟨GPIO_SUPPLY, 2 * ((v - 256) / 16), 2⟩

/-! ### Owners and functions -/

def fpEN (v : Nat) : Fld := FP_CFG_EN (v / 2)

/-- The logical mat that owns a pin (R310, R326). -/
def State.pinMat (s : State) (v : Nat) : Option Nat :=
  if v < 256 then
    if s.get (FP_OWNER_KIND (v / 2)) = 1 then some (s.get (FP_OWNER_ID (v / 2))) else none
  else
    let n := v - 256
    if s.get (GPIO_OWNER_KIND n) = 2 ∨ s.get (GPIO_OWNER_KIND n) = 3 then some (s.get (GPIO_OWNER_MAT n))
    else none

/-- The pin's function is the paced output (R176, R311, R326). -/
def State.pinPaced (s : State) (v : Nat) : Bool :=
  if v < 256 then decide (s.get (FP_OWNER_KIND (v / 2)) = 1) && s.flag (FP_CFG_PACED (v / 2))
  else decide (s.get (GPIO_OWNER_KIND (v - 256)) = 3)

/-- The pin has no owner, or is treated so because its port is SUSPECT (R331, R483). -/
def State.pinUnowned (s : State) (v : Nat) : Bool :=
  if v < 256 then decide (s.get (FP_OWNER_KIND (v / 2)) = 0) || s.unitSuspect 0 (v / 2)
  else decide (s.get (GPIO_OWNER_KIND (v - 256)) = 0)

/-- Pins that a logical mat owns, GPIO pins first. -/
def State.pinsOf (s : State) (m : Nat) : List Nat :=
  ((upto 96).map (· + 256) ++ upto 256).filter (fun v => decide (s.pinMat v = some m))

/-- The committed output-latch bit of a pin (R176). -/
def State.latchBit (s : State) (p v : Nat) : Bool :=
  let (k, j) := if v < 256 then (2 + v / 64, v % 64) else ((v - 256) / 64, (v - 256) % 64)
  (s.rd64 (PACE_OUT_LO p k) (PACE_OUT_HI p k)).getLsbD j

/-- Pin of a GATE station, none for a GPIO pin (R227). -/
def State.stationPin (s : State) (st : Nat) : Option Nat :=
  if s.flag (TAL_ST_PIN_GPIO st) then none
  else some (2 * (s.get (TAL_ST_PIN_PIN st) % 128) + s.get (TAL_ST_PIN_PIN_B st))

/-- The pin is that of a GATE station (R225, R233). -/
def State.gateStation (s : State) (v : Nat) : Option Nat :=
  (upto 1024).find? (fun st => decide (s.get (TAL_ST_CFG_KIND st) = 3) && decide (s.stationPin st = some v))

/-- A pin that gate actions drive: a GATE station's, or one that an action still asserts after its station has changed
(R225, R233). -/
def State.gatePin (s : State) (v : Nat) : Bool :=
  (s.gateStation v).isSome || s.tal.acts.any (fun a => decide (a.pin = v) && a.asserted)

/-- Level of a gate pin: an asserting action's level, else the released level; none for a pin that is no
gate's (R233). -/
def State.gateLevel (s : State) (v : Nat) : Option Bool :=
  match s.tal.acts.find? (fun a => decide (a.pin = v) && a.asserted) with
  | some a => some a.level
  | none => (s.gateStation v).map (fun st => !s.flag (TAL_ST_CFG_ACT_LEVEL st))

/-- Level that a pin's last token or pin-port write presented. -/
def State.pinOutLevel (s : State) (v : Nat) : Option Bool := Tab.get none0 s.pins.out v

def State.setPinOut (s : State) (v : Nat) (b : Option Bool) : State :=
  { s with pins := { s.pins with out := Tab.put none0 s.pins.out v b } }

/-- What the pin's owner makes it drive; none where its driver is off (R310, R311, R326).  A differential
pair is one pin, driven by its pin A.  The transmit line of a queue owner rests at IDLE between items, but for 8b/10b
coding and RS485 (R313).  In RS485 mode the rules turn the driver on only for the serialiser; for a mat, a tally engine or
a core, whose levels R311 puts on the pair, DIR_A turns it on (DESIGN CHOICE, log entry 74). -/
def State.ownerDrive (s : State) (v : Nat) : Option Bool :=
  if v < 256 then
    let p := v / 2
    let mode := s.get (FP_CFG_MODE p)
    let dirOut := if v % 2 = 0 then s.flag (FP_CFG_DIR_A p) else s.flag (FP_CFG_DIR_B p)
    let driven := match mode with
      | 0 => dirOut
      | 1 => decide (v % 2 = 0) && s.flag (FP_CFG_DIR_A p) && decide (s.get (FP_OWNER_KIND p) ≠ 3)
      | 2 => decide (v % 2 = 0) && s.flag (FP_CFG_DIR_A p)
      | _ => false
    if driven = false then none
    else match s.get (FP_OWNER_KIND p) with
      | 1 =>
        if s.pinPaced v then
          match s.regionOf (s.get (FP_OWNER_ID p)) with
          | some r => some (s.latchBit r v)
          | none => none
        else s.pinOutLevel v
      | 2 => s.gateLevel v
      | 3 => if s.flag (FP_QUEUES_TX_EN p) && decide (v % 2 = 0 ∧ s.get (FP_CFG_CODE p) < 2) then
          some (s.flag (FP_CFG_IDLE p)) else none
      | 4 => s.pinOutLevel v
      | _ => none
  else
    let n := v - 256
    match s.get (GPIO_OWNER_KIND n) with
    | 0 => none
    | 1 => if s.bit (GPIO_OE (n / 32)) (n % 32) then some (s.bit (GPIO_OUT (n / 32)) (n % 32)) else none
    | 3 => match s.regionOf (s.get (GPIO_OWNER_MAT n)) with
      | some r => some (s.latchBit r v)
      | none => none
    | _ => s.pinOutLevel v

/-! ### Which control a pin follows (R332) -/

def State.pinCause (s : State) (v : Nat) : Byte := Tab.get (fun _ => 0) s.pins.cause v

/-- Under charter for a cause other than those of row 6 (R331, R332 row 4). -/
def State.pinBarred (s : State) (v : Nat) : Bool := (s.pinCause v).toNat % 64 ≠ 0

/-- Under charter only because it has no owner or its port is disabled (R332 row 6). -/
def State.pinIdle (s : State) (v : Nat) : Bool :=
  s.pinUnowned v || (decide (v < 256) && !s.flag (fpEN v))

def switchFld (v : Nat) : Fld :=
  if v < 256 then FP_STATUS_SWITCHING (v / 2) else GPIO_OWNER_SWITCHING (v - 256)

/-- What the device does to a pad. -/
inductive PadDrive where
  /-- driver off and the pad reads 0 -/
  | dead
  /-- driver off, held by its keeper, or sensed -/
  | off
  | drive (b : Bool)
  deriving DecidableEq, Repr

/-- Charter state of a pin (R330). -/
def State.charterDrive (s : State) (v : Nat) : PadDrive :=
  match (Tab.get charter0 s.pins.charter v).toNat with
  | 3 => .drive false
  | 4 => .drive true
  | _ => .off

/-- The precedence of pin controls (R332). -/
def State.padDrive (s : State) (v : Nat) : PadDrive :=
  if s.get (supplyFld v) = 0 then .dead
  else if s.get DEV_STATUS_PHASE < 4 then .off
  else if v < 256 ∧ s.flag (FP_STATUS_FOLDED (v / 2)) then .off
  else if s.pinBarred v then s.charterDrive v
  else if v < 256 ∧ s.flag (FP_STATUS_SURVEYING (v / 2)) then .off
  else if s.pinIdle v then s.charterDrive v
  else if (s.pinCause v).getLsbD 6 then .off
  else if s.flag (switchFld v) then .off
  else match s.ownerDrive v with
    | some b => .drive b
    | none => .off

/-- The pin follows its owner's function (R332 row 9). -/
def State.pinFree (s : State) (v : Nat) : Bool :=
  decide (s.get (supplyFld v) ≠ 0) && decide (4 ≤ s.get DEV_STATUS_PHASE) &&
  !(decide (v < 256) && (s.flag (FP_STATUS_FOLDED (v / 2)) || s.flag (FP_STATUS_SURVEYING (v / 2)))) &&
  !s.pinBarred v && !s.pinIdle v && !(s.pinCause v).getLsbD 6 && !s.flag (switchFld v)

/-- Under charter, whatever the cause, once P4 is reached (R331). -/
def State.underCharter (s : State) (v : Nat) : Bool :=
  decide (4 ≤ s.get DEV_STATUS_PHASE) && (s.pinBarred v ||
    (s.pinIdle v && !(decide (v < 256) && s.flag (FP_STATUS_SURVEYING (v / 2)))))

/-- CHARTER and KEEP as the registers show them, and the pad level that a driven pad takes: a driven pad
reads what drives it, an unsupplied one 0 (R307, R324, R325). -/
def State.settlePin (s : State) (v : Nat) : State :=
  let s := if v < 256 then
      let o := v / 2 * 4 + 1 - v
      let s := s.setFlag (FP_STATUS_CHARTER (v / 2)) (s.underCharter v || s.underCharter o)
      s.setFlag (FP_STATUS_KEEP (v / 2)) ((s.pinCause v).getLsbD 6 || (s.pinCause o).getLsbD 6)
    else s.setFlag (GPIO_OWNER_CHARTER (v - 256)) (s.underCharter v)
  match s.padDrive v with
  | .dead => s.setPinLevel v false
  | .off => s
  | .drive b => s.setPinLevel v b

def State.settlePins (s : State) (vs : List Nat) : State := vs.foldl State.settlePin s

def State.settlePort (s : State) (p : Nat) : State := s.settlePins [2 * p, 2 * p + 1]

/-- All pins. -/
def allPins : List Nat := upto 352

/-! ### Charter and border policy -/

def State.setPinCause (s : State) (v : Nat) (c : Byte) : State :=
  { s with pins := { s.pins with cause := Tab.put (fun _ => 0) s.pins.cause v c } }

/-- Bit of a cause. -/
def causeBit (i : Nat) : Byte := 1#8 <<< i

/-- Abandon the survey that runs on a pin's port (R321). -/
def State.abandonSurvey (s : State) (p : Nat) : State :=
  match s.pins.surveys.find? (fun x => decide (x.port = p) && x.running) with
  | none => s
  | some x =>
    let s := { s.setFlag (FP_STATUS_SURVEYING p) false with
      pins := { s.pins with surveys := s.pins.surveys.filter (fun y => decide (y ≠ x)) } }
    let s := s.finish x.ref stREFUSED 0
    match s.runningTask (fun t => decide (t = .survey p)) with
    | some a => s.release a.place
    | none => s

/-- A cause puts a pin under charter at once (R331); a survey on its port is abandoned (R321). -/
def State.barPin (s : State) (i v : Nat) : State :=
  let s := if v < 256 ∧ s.pinBarred v = false then s.abandonSurvey (v / 2) else s
  let s := s.setPinCause v (s.pinCause v ||| causeBit i)
  (s.setFlag (switchFld v) false).settlePin v

/-- A function switch of a pin starts, and of its port's other pin (R329 steps 1, 2). -/
def State.startSwitch (s : State) (v : Nat) : State :=
  let k := if v < 256 then v / 2 else v
  ({ s with pins := { s.pins with switchAt := Tab.put word0 s.pins.switchAt k s.time } } : State).setFlag (switchFld v) true

/-- A cause ends: when none is left the pin is handed to its owner by the function switch (R329, R331). -/
def State.unbarPin (s : State) (mask : Byte) (v : Nat) : State :=
  if s.pinCause v &&& mask = 0 then s
  else
    let s := s.setPinCause v (s.pinCause v &&& ~~~mask)
    let s := if s.pinBarred v ∨ s.pinIdle v then s else s.startSwitch v
    s.settlePin v

/-- Border policy for the pins of a logical mat: KEEP or CHARTER by the context of the given slot (R144). -/
def State.holdPins (s : State) (m slot : Nat) : State :=
  let ch := (Tab.get slot0 s.ctx.slots (s.physMat m * 4 + slot)).charter
  (s.pinsOf m).foldl (fun s v =>
    if v ∈ ch then s.barPin 4 v
    else (s.setPinCause v (s.pinCause v ||| causeBit 6)).settlePin v) s

/-- The border policy of a logical mat ends: its pins are handed to the active context at once, their
function being the same (R144). -/
def State.freePins (s : State) (m : Nat) : State :=
  (s.pinsOf m).foldl (fun s v =>
    (s.setPinCause v (s.pinCause v &&& ~~~(causeBit 4 ||| causeBit 6))).settlePin v) s

/-- The paced output pins of a region's mats take up their levels at a boundary (R177). -/
def State.settlePaced (s : State) (mats : List Nat) : State :=
  mats.foldl (fun s m => s.settlePins ((s.pinsOf m).filter (fun v => s.pinPaced v))) s

/-! ### Function writes (R308 to R312, R326, R329, R483) -/

/-- Owner kinds and their modes (R310). -/
def ownerModeOk (kind mode : Nat) : Bool :=
  match kind with
  | 0 => decide (mode ≤ 5)
  | 1 => decide (mode = 0 ∨ mode = 1 ∨ mode = 2 ∨ mode = 5)
  | 2 => decide (mode = 0 ∨ mode = 1 ∨ mode = 3)
  | 3 => decide (mode ≤ 2)
  | 4 => decide (mode ≤ 1)
  | _ => false

/-- The queues that a port names exist with an end of kind 4 (R312). -/
def State.portQueuesOk (s : State) (p : Nat) : Bool :=
  (!s.flag (FP_QUEUES_RX_EN p) || (match s.queue (s.get (FP_QUEUES_RXQ p)) with
    | some x => decide (x.prod = 4)
    | none => false)) &&
  (!s.flag (FP_QUEUES_TX_EN p) || (match s.queue (s.get (FP_QUEUES_TXQ p)) with
    | some x => decide (x.cons = 4)
    | none => false))

/-- A driver turns off: it is at its limit no longer, and a later limit counts afresh (R315). -/
def State.endLimit (s : State) (p : Nat) : State :=
  ({ s with pins := { s.pins with limitEnd := Tab.put none0 s.pins.limitEnd p none } } : State).setFlag
    (FP_STATUS_AT_LIMIT p) false

/-- Start a function switch of a port: SWITCHING, the keeper holds the pad (R329 steps 1, 2). -/
def State.switchPort (s : State) (p : Nat) : State :=
  ((s.startSwitch (2 * p)).endLimit p).settlePort p

/-- Store FP_CFG with what a change of EN brings: its slice when written 0 (R479), the slice's end when it
is enabled (R482), the hand-over from charter (R331). -/
def State.storeCfg (s : State) (p : Nat) (v : Reg) : State :=
  let old := s.rd (FP_CFG p)
  let s := s.wr (FP_CFG p) v
  let s := if v.getLsbD 0 = false then s.submitSlice 0 p else s.abortSlice 0 p
  let fn := fldGet old 1 5 ≠ fldGet v 1 5
  let woke := old.getLsbD 0 = false ∧ v.getLsbD 0 = true
  if fn ∨ woke then s.switchPort p else s.settlePort p

/-- A write of FP_CFG (R308 to R312, R329, R483). -/
def State.writeCfg (s : State) (p : Nat) (v0 : Reg) : State :=
  let v := v0 &&& 0x3FFFF#32
  let old := s.rd (FP_CFG p)
  if ownerModeOk (s.get (FP_OWNER_KIND p)) (fldGet v 1 3) = false then s.setFlag (FP_STATUS_REFUSED p) true
  else if s.flag (FP_STATUS_SWITCHING p) ∧ fldGet old 1 5 ≠ fldGet v 1 5 then
    { s with pins := { s.pins with heldCfg := Tab.put none0 s.pins.heldCfg p (some v) } }
  else if v.getLsbD 0 ∧ s.unitSuspect 0 p then s.setFlag (FP_STATUS_REFUSED p) true
  else if v.getLsbD 0 ∧ s.get (FP_OWNER_KIND p) = 3 ∧ s.portQueuesOk p = false then
    (s.setFlag (FP_STATUS_REFUSED p) true).storeCfg p (v &&& ~~~1#32)
  else s.storeCfg p v

/-- A write of FP_OWNER (R310, R329). -/
def State.writeOwner (s : State) (p : Nat) (v0 : Reg) : State :=
  let v := v0 &&& 0xFFFF#32
  let old := s.rd (FP_OWNER p)
  if ownerModeOk (fldGet v 0 3) (s.get (FP_CFG_MODE p)) = false then s.setFlag (FP_STATUS_REFUSED p) true
  else if v = old then s
  else if s.flag (FP_STATUS_SWITCHING p) then
    { s with pins := { s.pins with heldOwner := Tab.put none0 s.pins.heldOwner p (some v) } }
  else
    let s := (s.wr (FP_OWNER p) v).setPinOut (2 * p) none
    (s.setPinOut (2 * p + 1) none).switchPort p

/-- A write of GPIO_OWNERn (R326, R329): a change of KIND or MAT switches the function. -/
def State.writeGpioOwner (s : State) (n : Nat) (v0 : Reg) : State :=
  let old := s.rd (GPIO_OWNER n)
  let v := (v0 &&& 0x3FFFF#32) ||| (old &&& 0xC0000#32)
  if 10 ≤ fldGet v 0 4 then s.setFlag GPIO_DENIED_REFUSED true
  else if fldGet old 0 14 = fldGet v 0 14 then (s.wr (GPIO_OWNER n) v).settlePin (256 + n)
  else if s.flag (GPIO_OWNER_SWITCHING n) then
    { s with pins := { s.pins with heldGpio := Tab.put none0 s.pins.heldGpio n (some v) } }
  else
    let s := (s.wr (GPIO_OWNER n) v).setPinOut (256 + n) none
    (s.startSwitch (256 + n)).settlePin (256 + n)

end Sys2Proof.Machine
end

