-- ==== Sys2Proof/Machine/TallyOps.lean ====
section
/-! DEFINITION.  Tallies as data: positions, position points, decisions, gate actions and records
(R221 to R238). -/

namespace Sys2Proof.Machine

open Sys2Proof

/-! ### Positions (R221) -/

/-- Position of a track. -/
def State.trackPos (s : State) (t : Nat) : BitVec 48 :=
  (s.rd64 (TAL_TRK_POS_LO t) (TAL_TRK_POS_HI t)).setWidth 48

/-- Store a position, sign-extended to 64 bits. -/
def State.storePos (s : State) (t : Nat) (p : BitVec 48) : State :=
  s.wr64 (TAL_TRK_POS_LO t) (TAL_TRK_POS_HI t) (p.signExtend 64)

/-- Distance from a to b, signed. -/
def trackDist (a b : BitVec 48) : Int := (b - a).toInt

/-- An integer as a position. -/
def posOf (x : Int) : BitVec 48 := BitVec.ofInt 48 x

/-- An integer limited to 32 signed bits. -/
def sat32 (x : Int) : BitVec 32 :=
  if 0x7FFF_FFFF < x then 0x7FFF_FFFF else if x < -0x8000_0000 then 0x8000_0000 else BitVec.ofInt 32 x

/-! ### Pacers -/

def State.pacer (s : State) (p : Nat) : Pacer := Tab.get pacer0 s.pace.pacers p

def State.setPacer (s : State) (p : Nat) (x : Pacer) : State :=
  { s with pace := { s.pace with pacers := Tab.put pacer0 s.pace.pacers p x } }

def State.updPacer (s : State) (p : Nat) (f : Pacer → Pacer) : State := s.setPacer p (f (s.pacer p))

/-- State of a pacer (R169): 0 OFF, 1 ARMED, 2 RUNNING, 3 FROZEN. -/
def State.paceState (s : State) (p : Nat) : Nat := s.get (PACE_STATUS_STATE p)

/-- Present period number (R168). -/
def State.paceNum (s : State) (p : Nat) : Word := s.rd64 (PACE_NUM_LO p) (PACE_NUM_HI p)

/-- Number of the period that the next boundary of an ARMED pacer begins (R170). -/
def State.firstNum (s : State) (p : Nat) : Nat :=
  ((s.pacer p).next.toNat - s.get (PACE_PHASE_PHASE_NS p)) / max 1 (s.get (PACE_PERIOD_PERIOD_NS p))

/-- A period of a pacer has begun (R170, R148). -/
def State.periodBegun (s : State) (p n : Nat) : Bool := decide (2 ≤ s.paceState p) && decide (n ≤ (s.paceNum p).toNat)

/-- A period of a pacer lies in the past: it has begun, or the ARMED pacer starts behind it (R134). -/
def State.periodPast (s : State) (p n : Nat) : Bool :=
  s.periodBegun p n || (decide (s.paceState p = 1) && decide (n < s.firstNum p))

/-! ### Fields -/

def State.trackEngine (s : State) (t : Nat) : Nat := s.get (TAL_TRK_CFG_ENGINE t)
/-- A track is enabled: EN is 1 and it has a position source (R222). -/
def State.trackOn (s : State) (t : Nat) : Bool := s.flag (TAL_TRK_CFG_EN t) && decide (s.get (TAL_TRK_CFG_SOURCE t) ≠ 0)

/-- Counter i of a track (R244). -/
def State.trackCount (s : State) (t i : Nat) : State :=
  s.count (TAL_TRK_CNT t i) ⟨TAL_TRK_SAT t, i, 1⟩ 1

def State.stimDrop (s : State) (e : Nat) : State :=
  if s.gated (TAL_ENG_STATUS e) then s else s.count (TAL_ENG_STIMDROPS e) (TAL_ENG_SAT_STIMDROPS e) 1

/-- Live tallies of a track in birth order. -/
def State.tallies (s : State) (t : Nat) : List Tally := Tab.get nil0 s.tal.tallies t

def State.setTallies (s : State) (t : Nat) (l : List Tally) : State :=
  { s with tal := { s.tal with tallies := Tab.put nil0 s.tal.tallies t l } }

def State.tally (s : State) (t id : Nat) : Option Tally := (s.tallies t).find? (fun x => decide (x.id.toNat = id))

def State.updTally (s : State) (t id : Nat) (f : Tally → Tally) : State :=
  s.setTallies t ((s.tallies t).map (fun x => if x.id.toNat = id then f x else x))

/-- Live tallies of an engine (R229). -/
def State.engineLive (s : State) (e : Nat) : Nat :=
  (upto 64).foldl (fun n t => if s.trackEngine t = e then n + (s.tallies t).length else n) 0

/-- Pending actions of an engine (R233). -/
def State.engineActs (s : State) (e : Nat) : Nat := (s.tal.acts.filter (fun a => decide (a.engine = e))).length

/-- A BIRTH on the track now would be refused (R235). -/
def State.trackFull (s : State) (t : Nat) : Bool :=
  decide (8192 ≤ s.engineLive (s.trackEngine t)) ||
  (decide (s.get (TAL_TRK_STATUS_MAX_TALLIES t) ≠ 0) &&
    decide (s.get (TAL_TRK_STATUS_MAX_TALLIES t) ≤ (s.tallies t).length))

/-- Bits of FLAGS (R228). -/
def flBANK : BitVec 16 := 2
def flDECIDED : BitVec 16 := 4
def flACT_PENDING : BitVec 16 := 8
def flACTED : BitVec 16 := 16
def flACT_MISSED : BitVec 16 := 32
def flLATE_NOTE : BitVec 16 := 64
def flREJECTED : BitVec 16 := 128
def flRETIRED : BitVec 16 := 256
def flEXPIRED : BitVec 16 := 512

/-- FLAGS with ACT_PENDING: an action for the tally is pending. -/
def State.tallyFlags (s : State) (t : Nat) (x : Tally) : BitVec 16 :=
  if s.tal.acts.any (fun a => decide (a.track = t) && decide (a.tally = x.id.toNat)) then
    x.flags ||| flACT_PENDING else x.flags

def Tally.withFlag (x : Tally) (f : BitVec 16) : Tally := { x with flags := x.flags ||| f }

/-- LAST_US: µs from birth to now (R228). -/
def State.touch (s : State) (x : Tally) : Tally := { x with lastUs := satBits 32 ((s.time - x.birthTime).toNat / 1000) }

/-- The 64 bytes of a record (R228). -/
def tallyBytes (t : Nat) (x : Tally) (flags : BitVec 16) : List Byte :=
  leBytes 4 x.id.toNat ++ [BitVec.ofNat 8 t, BitVec.ofNat 8 x.zone] ++ leBytes 2 flags.toNat ++
  leBytes 8 x.verdict.toNat ++ x.meas.flatMap (fun m => leBytes 4 m.toNat) ++
  leBytes 6 x.birthPos.toNat ++ leBytes 6 x.birthTime.toNat ++ leBytes 4 x.lastUs

/-! ### Records (R237) -/

/-- A mat takes no token on its inbound paths: held NULL, in crosier state, or withdrawn by a swap. -/
def State.matBlocked (s : State) (p : Nat) : Bool :=
  !Tab.get bool0 s.ctx.released p || s.flag (COL_GATE_STATUS_CROSIER (matCol p) (matG p)) ||
  s.ctx.groups.any (fun e => match e.2.run with
    | some r => decide (s.logMat p ∈ r.mats)
    | none => false)

/-- Hand the records of an engine's buffer to their record mats, in order, as far as the mats run. -/
def State.drainRecords (s : State) (e : Nat) : List (Nat × Tally) → State
  | [] => { s with tal := { s.tal with recs := Tab.put nil0 s.tal.recs e [] } }
  | (t, x) :: rest =>
    let m := s.physMat (s.get (TAL_TRK_MATS_REC_MAT t))
    if s.flag (TAL_TRK_MATS_REC_EN t) = false then s.drainRecords e rest
    else if s.matBlocked m then { s with tal := { s.tal with recs := Tab.put nil0 s.tal.recs e ((t, x) :: rest) } }
    else
      let b := tallyBytes t x x.flags
      let s := (upto 8).foldl (fun s i =>
        s.emit (.token m .tallyRecord (ofLeBytes ((b.drop (8 * i)).take 8) + i * 2 ^ 64))) s
      s.drainRecords e rest

/-- Offer the record of a retired or expired tally. -/
def State.offerRecord (s : State) (t : Nat) (x : Tally) : State :=
  let e := s.trackEngine t
  let buf := Tab.get nil0 s.tal.recs e
  if s.flag (TAL_TRK_MATS_REC_EN t) = false then s
  else
    let s := s.drainRecords e buf
    let buf := Tab.get nil0 s.tal.recs e
    if 64 ≤ buf.length then
      (s.trackCount t 8).raiseLim 0x4707 (srcTrack t) [(18, 4, x.id.toNat)]
    else s.drainRecords e (buf ++ [(t, { x with flags := s.tallyFlags t x })])

/-- Take a tally out of its track: RETIRE, or EXPIRE with its event (R230). -/
def State.removeTally (s : State) (t id : Nat) (expire : Bool) : State :=
  match s.tally t id with
  | none => s
  | some x =>
    let x := { x with flags := (x.flags &&& ~~~1#16) ||| (if expire then flEXPIRED else flRETIRED) }
    let s := s.setTallies t ((s.tallies t).filter (fun y => decide (y.id.toNat ≠ id)))
    let s := s.offerRecord t x
    if expire then
      (s.trackCount t 2).raiseLim 0x0704 (srcTrack t) [(18, 4, id), (22, 2, (s.tallyFlags t x).toNat)]
    else s.trackCount t 1

/-! ### Gate actions (R233, R234) -/

/-- An action is missed: causes 0 late, 1 no free action, 2 jump (R234). -/
def State.actMissed (s : State) (t id cause : Nat) : State :=
  let s := (s.updTally t id (fun x => x.withFlag flACT_MISSED)).trackCount t 5
  s.raiseLim 0x4703 (srcTrack t) [(18, 4, id), (22, 1, cause)]

/-- ACT: schedule an action of a GATE station for a tally, or for an untracked item (id 0). -/
def State.schedule (s : State) (t st id : Nat) (birth : BitVec 48) : State :=
  let e := s.trackEngine t
  let pulse := s.flag (TAL_ST_CFG_TIME_ACT st)
  let len := s.get (TAL_ST_WIN_HOLDOFF st)
  let pon := birth + BitVec.ofNat 48 (s.rd (TAL_ST_OFFSET st)).toNat +
    posOf (signedOf 16 (s.get (TAL_ST_WIN_TOL st)))
  let d := trackDist pon (s.trackPos t)
  let s := s.updTally t id (fun x => s.touch x)
  if (pulse = false ∧ (len : Int) ≤ d) ∨ (pulse ∧ 0 < d) then s.actMissed t id 0
  else if 1024 ≤ s.engineActs e then s.actMissed t id 1
  else
    let now := decide (0 ≤ d)
    let pin := (s.stationPin st).getD (256 + s.get (TAL_ST_PIN_PIN st) % 96)
    let a : Action := { track := t, engine := e, station := st, tally := id, pin := pin,
                        level := s.flag (TAL_ST_CFG_ACT_LEVEL st), pon := pon, len := len, pulse := pulse,
                        asserted := now, acted := now, since := s.time }
    let s := { s with tal := { s.tal with acts := s.tal.acts ++ [a] } }
    if now then (s.updTally t id (fun x => x.withFlag flACTED)).settlePin pin else s

/-- What a position update does to an action: the action after it (none when it ended), whether it was
missed by a jump, and whether it asserted for the first time. -/
def Action.step (a : Action) (now : Word) (old new : BitVec 48) : Option Action × Bool × Bool :=
  let d0 := trackDist a.pon old
  let d1 := trackDist a.pon new
  if a.pulse then
    if a.acted = false ∧ d0 < 0 ∧ 0 ≤ d1 then (some { a with asserted := true, acted := true, since := now }, false, true)
    else (some a, false, false)
  else if (a.len : Int) ≤ d1 then
    let jump := decide (1 < d1 - d0)
    (none, jump && !a.acted && decide (d0 < 0), false)
  else if 0 ≤ d1 then (some { a with asserted := true, acted := true }, false, !a.acted)
  else (some { a with asserted := false }, false, false)

/-- Run a position update over the actions of a track. -/
def State.stepActs (s : State) (t : Nat) (old new : BitVec 48) (l : List Action) : State :=
  l.foldl (fun s a =>
    if a.track ≠ t then s
    else
      match a.step s.time old new with
      | (r, missed, first) =>
        let s := { s with tal := { s.tal with acts := s.tal.acts.flatMap (fun b =>
          if b = a then r.toList else [b]) } }
        let s := if missed then s.actMissed t a.tally 2 else s
        let s := if first then s.updTally t a.tally (fun x => x.withFlag flACTED) else s
        if r.map Action.asserted = some a.asserted then s else s.settlePin a.pin) s

/-! ### Decisions (R232) -/

/-- Rule word r of a bank of a track. -/
def State.ruleWord (s : State) (t bank r : Nat) : Nat := (s.rd64 (TAL_RULE_LO t bank r) (TAL_RULE_HI t bank r)).toNat

/-- Test i of a rule on a verdict word. -/
def ruleTest (w : Nat) (verdict : Nat) (i : Nat) : Bool :=
  let x := bitsAt verdict (4 * bitsAt w (11 * i) 4) 4
  let v := bitsAt w (11 * i + 7) 4
  match bitsAt w (11 * i + 4) 3 with
  | 0 => decide (x = v)
  | 1 => decide (x ≠ v)
  | 2 => decide (v ≤ x)
  | 3 => decide (x < v)
  | 4 => decide (x ≠ 0)
  | 5 => decide (x = 0)
  | _ => false

/-- The rule matches. -/
def ruleMatches (w verdict : Nat) : Bool :=
  let en := (upto 4).filter (fun i => bitAt w (44 + i))
  bitAt w 50 && !en.isEmpty &&
    (if bitAt w 48 then en.any (ruleTest w verdict) else en.all (ruleTest w verdict))

/-- GATE stations that the matching rules name, in rule order without repeats, up to a FINAL match. -/
def ruleStations (word : Nat → Nat) (verdict : Nat) : List Nat → List Nat → List Nat
  | [], acc => acc
  | r :: rs, acc =>
    let w := word r
    if ruleMatches w verdict then
      let st := bitsAt w 51 10
      let acc := if st ∈ acc then acc else acc ++ [st]
      if bitAt w 49 then acc else ruleStations word verdict rs acc
    else ruleStations word verdict rs acc

/-- DECIDE (R232). -/
def State.decideTally (s : State) (t id : Nat) : State :=
  match s.tally t id with
  | none => s
  | some x =>
    let bank := if x.flags &&& flBANK = 0 then 0 else 1
    let sts := ruleStations (s.ruleWord t bank) x.verdict.toNat (upto 32) []
    let f := if sts = [] then flDECIDED else flDECIDED ||| flREJECTED
    let s := s.updTally t id (fun y => s.touch (y.withFlag f))
    sts.foldl (fun s st => s.schedule t st id x.birthPos) s

/-! ### NOTE (R230) -/

/-- What a SENSE station writes: its field, a verdict value, a measurement. -/
structure NoteVal where
  value : Nat
  meas : BitVec 32

/-- A tally with a field written (R228, R230): 0 to 15 a verdict, 16 to 23 a measurement. -/
def Tally.write (x : Tally) (field : Nat) (v : NoteVal) : Tally :=
  if field < 16 then { x with verdict := BitVec.ofNat 64 (setBits x.verdict.toNat (4 * field) 4 v.value) }
  else { x with meas := x.meas.set (field - 16) v.meas }

/-- NOTE of a found tally with its station's settings, late on a DECIDED tally; a SENSE station's DECIDE bit; RETIRE
at a DISCHARGE (R226, R228, R230). -/
def State.noteTally (s : State) (t id : Nat) (cfg : Reg) (v : NoteVal) : State :=
  let kind := fldGet cfg 0 3
  let late := match s.tally t id with
    | some x => decide (x.flags &&& flDECIDED ≠ 0)
    | none => false
  let s := s.updTally t id (fun x =>
    s.touch { (if kind = 2 then x.write (fldGet cfg 19 5) v else x) with zone := fldGet cfg 11 8 })
  let s := if late then (s.updTally t id (fun x => x.withFlag flLATE_NOTE)).trackCount t 6 else s
  if kind = 4 then s.removeTally t id false
  else if late then s
  else if fldGet cfg 29 1 = 1 then s.decideTally t id
  else s

/-! ### Position points (R231) -/

/-- Insert a station before the first one with a greater key. -/
def insertBy (key : Nat → Nat) (x : Nat) : List Nat → List Nat
  | [] => [x]
  | y :: ys => if key x < key y then x :: y :: ys else y :: insertBy key x ys

/-- POSITION stations of a track, by OFFSET and number. -/
def State.positionStations (s : State) (t : Nat) : List Nat :=
  ((upto 1024).filter (fun st =>
    decide (s.get (TAL_ST_CFG_TRACK st) = t) && decide (s.get (TAL_ST_CFG_TRIGGER st) = 2) &&
    decide (s.get (TAL_ST_CFG_KIND st) = 2 ∨ s.get (TAL_ST_CFG_KIND st) = 4))).foldl
    (fun l st => insertBy (fun a => (s.rd (TAL_ST_OFFSET a)).toNat) st l) []

/-- The points of one tally at an update to a new position, in the table's order. -/
def State.tallyPoints (s : State) (t : Nat) (new : BitVec 48) (id : Nat) : State :=
  match s.tally t id with
  | none => s
  | some x =>
    let d := trackDist x.birthPos new
    let falls (off : Nat) : Bool := decide (x.reached < (off : Int) ∧ (off : Int) ≤ d)
    let s := s.updTally t id (fun y => { y with reached := max y.reached d })
    let dec := (s.rd (TAL_TRK_DECIDE t)).toNat
    let s := if dec ≠ 0 ∧ falls dec ∧ x.flags &&& flDECIDED = 0 then s.decideTally t id else s
    let s := (s.positionStations t).foldl (fun s st =>
      if falls (s.rd (TAL_ST_OFFSET st)).toNat ∧ (s.tally t id).isSome then
        match s.fresh with
        | (v, s') =>
          let cfg := s.rd (TAL_ST_CFG st)
          let meas : Bool := decide (fldGet cfg 0 3 = 2 ∧ 16 ≤ fldGet cfg 19 5)
          (if meas then s' else s).noteTally t id cfg { value := fldGet cfg 24 4, meas := v.setWidth 32 }
      else s) s
    let lim := (s.rd (TAL_TRK_TRAVEL t)).toNat
    if lim ≠ 0 ∧ falls lim then s.removeTally t id true else s

/-- One update of a track's own position: its actions, then its points (R231, R233). -/
def State.moveOne (s : State) (t : Nat) (new : BitVec 48) : State :=
  if s.trackOn t = false then s
  else
    let old := s.trackPos t
    let s := s.storePos t new
    let s := s.stepActs t old new s.tal.acts
    ((s.tallies t).map (fun x => x.id.toNat)).foldl (State.tallyPoints · t new ·) s

/-- An update of a track's position, which the tracks that FOLLOW it take at once (R222). -/
def State.moveTrack (s : State) (t : Nat) (new : BitVec 48) : State :=
  let s := s.moveOne t new
  if s.trackOn t = false then s
  else (upto 64).foldl (fun s u =>
    if s.get (TAL_TRK_CFG_SOURCE u) = 4 ∧ s.get (TAL_TRK_CFG_SRC_ARG u) = t then s.moveOne u new else s) s

/-- Position of a TIME track at a device time (R222). -/
def timePos (time : Word) (k : Nat) : BitVec 48 := BitVec.ofNat 48 (time.toNat / 2 ^ k)

/-- TIME tracks advance with device time (R224). -/
def State.moveTimeTracks (s : State) : State :=
  (upto 64).foldl (fun s t =>
    if s.get (TAL_TRK_CFG_SOURCE t) = 3 ∧ s.trackOn t then
      let new := timePos s.time (s.get (TAL_TRK_CFG_SRC_ARG t))
      if new = s.trackPos t then s else s.moveTrack t new
    else s) s

/-- An axis token: every VIRTUAL track whose note mat it comes from takes the position (R224, R237). -/
def State.axisMove (s : State) (m : Nat) (pos : BitVec 48) : State :=
  (upto 64).foldl (fun s t =>
    if s.get (TAL_TRK_CFG_SOURCE t) = 2 ∧ s.flag (TAL_TRK_MATS_NOTE_EN t) ∧
        s.get (TAL_TRK_MATS_NOTE_MAT t) = m then s.moveTrack t pos else s) s

/-! ### Stimuli (R226, R229, R237) -/

/-- The stimulus buffer of an engine is full (R229). -/
def State.stimsFull (s : State) (e : Nat) : Bool := decide (256 ≤ (Tab.get slist0 s.tal.stims e).length)

/-- A station does something with a stimulus: it is not OFF, a GATE or of a reserved kind (R226). -/
def State.stationLive (s : State) (st : Nat) : Bool :=
  decide (s.get (TAL_ST_CFG_KIND st) = 1 ∨ s.get (TAL_ST_CFG_KIND st) = 2 ∨ s.get (TAL_ST_CFG_KIND st) = 4)

/-- A stimulus of a station would be taken into its engine's buffer. -/
def State.takesStim (s : State) (st : Nat) : Bool :=
  s.trackOn (s.get (TAL_ST_CFG_TRACK st)) && s.stationLive st && !s.stimsFull (s.trackEngine (s.get (TAL_ST_CFG_TRACK st)))

/-- A stimulus among those taken: behind all of earlier periods of FPD, and within its own period by kind and station
(R229). -/
def insertStim (x : Stim) : List Stim → List Stim
  | [] => [x]
  | y :: l => if y.at_ = x.at_ ∧ x.rank < y.rank then x :: y :: l else y :: insertStim x l

/-- A stimulus is taken into its engine's buffer with its station's settings, or dropped: by a disabled
track and at a full buffer it is counted; an OFF or GATE station does nothing with it.  Between two ticks device time
stands still, so that stimuli taken in between count as those of one period of FPD. -/
def State.takeStim (s : State) (st : Nat) (pos : BitVec 48) (value : Nat) (meas : BitVec 32) : State :=
  let t := s.get (TAL_ST_CFG_TRACK st)
  let e := s.trackEngine t
  let buf := Tab.get slist0 s.tal.stims e
  if s.trackOn t = false then s.stimDrop e
  else if s.stationLive st = false then s
  else if s.stimsFull e then (s.stimDrop e).raiseLim 0x4706 (srcEngine e) [(18, 2, st)]
  else
    let x : Stim := { station := st, track := t, cfg := s.rd (TAL_ST_CFG st), offset := s.rd (TAL_ST_OFFSET st),
                      win := s.rd (TAL_ST_WIN st), pos := pos, value := value, meas := meas,
                      at_ := s.time.toNat / 5, rank := s.get (TAL_ST_CFG_TRIGGER st) * 1024 + st }
    { s with tal := { s.tal with stims := Tab.put slist0 s.tal.stims e (insertStim x buf) } }

/-- A note token's fields (R237). -/
def noteStation (k : BitVec 96) : Nat := bitsAt k.toNat 0 10
def noteUsePos (k : BitVec 96) : Bool := bitAt k.toNat 10
def noteValue (k : BitVec 96) : Nat := bitsAt k.toNat 11 4
def noteMeas (k : BitVec 96) : BitVec 32 := k.extractLsb' 16 32
def notePos (k : BitVec 96) : BitVec 48 := k.extractLsb' 48 48

/-- A note token names a FABRIC-triggered station of a track whose note mat sends it (R237). -/
def State.noteOk (s : State) (m : Nat) (k : BitVec 96) : Bool :=
  let st := noteStation k
  let t := s.get (TAL_ST_CFG_TRACK st)
  decide (s.get (TAL_ST_CFG_TRIGGER st) = 1) && s.flag (TAL_TRK_MATS_NOTE_EN t) &&
    decide (s.get (TAL_TRK_MATS_NOTE_MAT t) = m)

/-- A note token waits for room: it is a stimulus that its engine would take (R229). -/
def State.noteWaits (s : State) (m : Nat) (k : BitVec 96) : Bool :=
  let t := s.get (TAL_ST_CFG_TRACK (noteStation k))
  s.noteOk m k && s.trackOn t && s.stationLive (noteStation k) && s.stimsFull (s.trackEngine t)

/-- A note token is applied as a FABRIC stimulus; one for a station that is not FABRIC-triggered on a
track whose note mat sends it is discarded and counted (R237). -/
def State.applyNote (s : State) (m : Nat) (k : BitVec 96) (taken : BitVec 48) : State :=
  let st := noteStation k
  if s.noteOk m k then
    s.takeStim st (if noteUsePos k then notePos k else taken) (noteValue k) (noteMeas k)
  else s.stimDrop (s.trackEngine (s.get (TAL_ST_CFG_TRACK st)))

/-- Committed tokens of a pacer's mats are applied in the order taken, as far as the stimulus buffers have room; the
others wait (R229, R238). -/
def State.applyToks (s : State) (p : Nat) : List PacedTok → State
  | [] => { s with tal := { s.tal with committed := Tab.put nil0 s.tal.committed p [] } }
  | .note m tok pos :: l =>
    if s.noteWaits m tok then
      { s with tal := { s.tal with committed := Tab.put nil0 s.tal.committed p (.note m tok pos :: l) } }
    else (s.applyNote m tok pos).applyToks p l
  | .axis m pos :: l => (s.axisMove m pos).applyToks p l

/-- Tokens of a pacer's mats taken in its period are applied at the commit, behind those of earlier periods that still
wait (R238). -/
def State.applyPaced (s : State) (p : Nat) : State :=
  let l := Tab.get nil0 s.tal.committed p ++ Tab.get nil0 s.tal.paced p
  ({ s with tal := { s.tal with paced := Tab.put nil0 s.tal.paced p [] } } : State).applyToks p l

/-- Room has come in a stimulus buffer: committed tokens that wait are applied. -/
def State.applyWaiting (s : State) : State :=
  (s.tal.committed.map Prod.fst).foldl (fun s p => s.applyToks p (Tab.get nil0 s.tal.committed p)) s

/-- They are discarded when the period ends LATE (R238). -/
def State.dropPaced (s : State) (p : Nat) : State :=
  { s with tal := { s.tal with paced := Tab.put nil0 s.tal.paced p [] } }

/-- The pacer whose period keeps the tokens of a logical mat until its commit (R171, R238). -/
def State.pacedBy (s : State) (m : Nat) : Option Nat :=
  match s.regionOf m with
  | some p => if 2 ≤ s.get (PACE_STATUS_STATE p) then some p else none
  | none => none

def State.keepPaced (s : State) (p : Nat) (k : PacedTok) : State :=
  { s with tal := { s.tal with paced := Tab.put nil0 s.tal.paced p (Tab.get nil0 s.tal.paced p ++ [k]) } }

end Sys2Proof.Machine
end

