-- ==== Sys2Proof/Machine/WindowOps.lean ====
section
/-! DEFINITION.  Regions under border policy (R77, R141), and the register channel between the PF1 BAR2 window and
the design (R78, R79, R142, R285, R286). -/

namespace Sys2Proof.Machine

open Sys2Proof

/-! ### Border policy (R141) -/

/-- A region under border policy: its logical mats, the slot of the mat at hand whose gate record gives the
policy, and whether the mat has withdrawn every input, or those at the region's border only. -/
structure Policy where
  mats : List Nat
  slot : Slot
  every : Bool
  deriving DecidableEq, Repr

/-- The border policy that a paced region's inputs are under: from its being done, or from D(n), to the next
boundary's step 1 (R180, R181, R185). -/
def Pacer.underPolicy (x : Pacer) : Bool := x.withdrawn || x.flushing

/-- Policy of the paced region of a logical mat. -/
def State.pacedPolicy (s : State) (m : Nat) (active : Slot) : Option Policy :=
  match s.regionOf m with
  | some p => if (s.pacer p).underPolicy then some ⟨(s.pacer p).mats, active, false⟩ else none
  | none => none

/-- The region of a logical mat has deadlines: its pacer is not OFF (R458). -/
def State.pacedCut (s : State) (m : Nat) : Bool :=
  match s.regionOf m with
  | some p => decide (s.paceState p ≠ 0)
  | none => false

/-- The relocation that has reached its cut point with a physical mat in its set (R457 step 5). -/
def State.cutRun (s : State) (q : Nat) : Option Reloc :=
  s.mnt.acts.findSome? (fun a => match a.task with
    | .reloc r => if a.st = .running ∧ r.stage = 3 ∧ q ∈ r.src then some r else none
    | _ => none)

/-- The region under policy that a physical mat lies in (R141): a crosier region from its entry, the members that a
swap has withdrawn (all their inputs, R135 step 3), an unpaced mat whose relocation is at its cut (all its inputs,
R457 step 5), or a paced region that is done or ends LATE. -/
def State.policyAt (s : State) (q : Nat) : Option Policy :=
  let m := s.logMat q
  let active := s.slot q (s.activeSlot q)
  match s.crosierOf m with
  | some c => some ⟨c.mats, (match c.latched.find? (fun e => decide (e.1 = m)) with
      | some e => e.2
      | none => active), false⟩
  | none => match s.swapOf m with
    | some r => if m ∈ r.mats then some ⟨r.mats, active, true⟩ else s.pacedPolicy m active
    | none => match s.cutRun q with
      | some r => if s.pacedCut m then s.pacedPolicy m active else some ⟨r.src.map s.logMat, active, true⟩
      | none => s.pacedPolicy m active

/-- The slot whose gate record gives the border policy of a physical mat; none where no policy applies. -/
def State.borderSlot (s : State) (q : Nat) : Option Slot := (s.policyAt q).map Policy.slot

/-! ### The register channel (R78, R79) -/

/-- What a read returns when the design does not answer (R79). -/
def allOnes : Word := 0xFFFFFFFFFFFFFFFF#64

/-- The host's answer for a window read: the word, or the addressed half of a 4-byte read (R285). -/
def WinAcc.answer (a : WinAcc) (v : Word) : Word :=
  match a.half with
  | none => v
  | some false => v &&& 0xFFFFFFFF#64
  | some true => v >>> 32

/-- Register-window accesses of a physical mat, oldest first. -/
def State.window (s : State) (p : Nat) : List WinAcc := Tab.get nil0 s.host.window p

def State.setWindow (s : State) (p : Nat) (l : List WinAcc) : State :=
  { s with host := { s.host with window := Tab.put nil0 s.host.window p l } }

/-- The mat's gate can pass an access on to the design (R79). -/
def State.regchServes (s : State) (p : Nat) : Bool :=
  (s.slot p (s.activeSlot p)).ctx.regchEn && decide (s.slotState p (s.activeSlot p) = slACTIVE) &&
    !s.flag (gCROSIER p)

/-- Answer one access. -/
def State.winAnswer (s : State) (a : WinAcc) (v : Word) : State :=
  if a.write then s else s.emit (.answer .host (a.answer v))

/-- The next access has come to the front. -/
def stampFront (now : Word) : List WinAcc → List WinAcc
  | [] => []
  | a :: l => { a with since := now } :: l

/-- Take accesses from the front: those that the mat cannot serve complete at once; the first that it can is
presented to the design as a token, word offset, write flag and data (R78, R79), or waits while a border policy
holds it (R79, R142). -/
def State.serveWindow (s : State) (p : Nat) : List WinAcc → State
  | [] => s.setWindow p []
  | a :: l =>
    if s.regchServes p = false then (s.winAnswer a allOnes).serveWindow p l
    else if (s.policyAt p).isSome then s.setWindow p (a :: l)
    else
      let bits := a.word + 4096 * b2n a.write + 8192 * (if a.write then a.data.toNat else 0)
      ((s.setWindow p (a :: l)).setFlag (gREGCH_BUSY p) true).emit (.token p (.regch a.write a.word) bits)

/-- The access at the front completes, and the next one is taken (R285). -/
def State.endWindow (s : State) (p : Nat) (v : Word) : State :=
  match s.window p with
  | [] => s
  | a :: l => ((s.winAnswer a v).setFlag (gREGCH_BUSY p) false).serveWindow p (stampFront s.time l)

/-- Accesses that a border policy held are taken once it has ended. -/
def State.serveHeld (s : State) (p : Nat) : State :=
  if s.flag (gREGCH_BUSY p) ∨ s.window p = [] then s else s.serveWindow p (s.window p)

/-- The register channel's crossing to a mat flushes: every access completes as one whose word was discarded (R272). -/
def State.flushWindow (s : State) (p : Nat) : State :=
  let s := (s.window p).foldl (fun s a => s.winAnswer a allOnes) s
  (s.setWindow p []).setFlag (gREGCH_BUSY p) false

/-- The register channels' crossings to the fabric flush. -/
def State.flushWindows (s : State) : State :=
  (s.host.window.map Prod.fst).foldl State.flushWindow s

/-- An access in progress completes without the design (R79). -/
def State.dropWindow (s : State) (p : Nat) : State :=
  if s.flag (gREGCH_BUSY p) then s.endWindow p allOnes else s

end Sys2Proof.Machine
end

