-- ==== Sys2Proof/Machine/PaceOps.lean ====
section
/-! DEFINITION.  What a pacer does at its boundaries, deadlines, commits and LATE periods, and the tests of
REGION_BIND (R147, R150, R151, R168 to R187, R210). -/

namespace Sys2Proof.Machine

open Sys2Proof

/-- The state of QUIET while the design of a mat runs depends on its handshakes: a free bit (R93).  It reads 1 while
the mat's holds are held NULL (R94). -/
def State.setRunning (s : State) (m : Nat) : State :=
  if s.heldNull m then s.setFlag (gQUIET m) true
  else match s.fresh with
    | (v, s) => s.setFlag (gQUIET m) (v.getLsbD 0)

/-- B(n) of the present period. -/
def State.paceStart (s : State) (p : Nat) : Word := s.rd64 (PACE_START_LO p) (PACE_START_HI p)

/-- D(n) of the present period (R168). -/
def State.deadline (s : State) (p : Nat) : Nat := (s.pacer p).next.toNat - s.get (PACE_MARGIN_MARGIN_NS p)

/-! ### Paced queues (R178, R210) -/

/-- Queues whose producer is a mat of a pacer's region. -/
def State.pacedQueues (s : State) (p : Nat) : List Nat :=
  (s.que.queues.filter (fun e => decide (s.queuePacer e.1 = some p))).map Prod.fst

def State.updQueue (s : State) (q : Nat) (f : Queue → Queue) : State :=
  match s.queue q with
  | some x => s.setQueue q (some (f x))
  | none => s

/-- The copy taken at B(n). -/
def Queue.copied (x : Queue) : Queue :=
  { x with copy := some { w := x.w, slot := x.slot, len := x.len, disc := x.disc, seq := x.seq } }

/-- Commit publishes the actual write pointer; items that it makes visible are new to the consumer from then on. -/
def Queue.publish (now : Word) (x : Queue) : Queue :=
  { x with pw := x.w, copy := none, freshAt := if x.pw = x.w then x.freshAt else now }

/-- A LATE period restores all of the copy. -/
def Queue.restored (x : Queue) : Queue :=
  match x.copy with
  | some c => { x with w := c.w, slot := c.slot, len := c.len, disc := c.disc, seq := c.seq, copy := none }
  | none => x

def State.onPacedQueues (s : State) (p : Nat) (f : Queue → Queue) : State :=
  (s.pacedQueues p).foldl (fun s q => s.updQueue q f) s

/-! ### The input record (R175) -/

/-- Bits of the levels of pins base to base + n - 1 that mats of a region own. -/
def State.ownedLevels (s : State) (mats : List Nat) (base n : Nat) : Nat :=
  (upto n).foldl (fun a j =>
    let v := base + j
    match s.pinMat v with
    | some m => if m ∈ mats ∧ s.pinLevel v then a + 2 ^ j else a
    | none => a) 0

/-- Track selected for IW(9 + i), i 0 to 6. -/
def State.recordTrack (s : State) (p i : Nat) : Word :=
  let sel := if i < 4 then bitsAt (s.rd (PACE_TRACKSEL0 p)).toNat (7 * i) 7
    else bitsAt (s.rd (PACE_TRACKSEL1 p)).toNat (7 * (i - 4)) 7
  if bitAt sel 6 then (s.trackPos (sel % 64)).signExtend 64 else 0

/-- The input record sampled at B(n) for the mats of the region.  `late`: period n - 1 ended LATE, also while its
restore still runs. -/
def State.sampleRecord (s : State) (p : Nat) (mats : List Nat) (n b : Word) (late first : Bool) : List Word :=
  [n, b,
   BitVec.ofNat 64 ((s.rd (PACE_COMMITS p)).toNat + b2n late * 2 ^ 32 + b2n first * 2 ^ 33),
   BitVec.ofNat 64 (s.ownedLevels mats 256 64), BitVec.ofNat 64 (s.ownedLevels mats 320 32)] ++
  (upto 4).map (fun w => BitVec.ofNat 64 (s.ownedLevels mats (64 * w) 64)) ++
  (upto 7).map (fun i => s.recordTrack p i)

/-! ### Boundaries (R147, R171, R174, R181, R182) -/

/-- What completes or is refused because a pacer has become OFF: a PACER_SET not yet in effect, a
REGION_BIND, a bank selection (R170, R174). -/
def State.refusePending (s : State) (p : Nat) : State :=
  let x := s.pacer p
  let s := x.ops.foldl (fun s o => s.finish o.ref stREFUSED 0) s
  let s := x.binds.foldl (fun s o => s.finish o.ref stREFUSED 0) s
  let s := (s.tal.bankOps.filter (fun o => decide (o.pacer = p))).foldl (fun s o => s.finish o.ref stREFUSED 0) s
  let s := { s with tal := { s.tal with bankOps := s.tal.bankOps.filter (fun o => decide (o.pacer ≠ p)) } }
  s.updPacer p (fun x => { x with ops := [], binds := [] })

/-- Timed swaps at a period of a group's schedule end with REFUSED (R134). -/
def State.refuseWhen2 (s : State) (g : Nat) : State :=
  let x := s.group g
  let out := x.timed.filter (fun r => decide (r.when_ = 2))
  let s := s.setGroup g { x with timed := x.timed.filter (fun r => decide (r.when_ ≠ 2)) }
  out.foldl (fun s r => s.finishRef r.ref stREFUSED 0) s

/-- A pacer's phase schedules, in force and pending, are cleared (R148, R171). -/
def State.clearSchedules (s : State) (p : Nat) : State :=
  (upto 64).foldl (fun s g =>
    let x := s.group g
    let mine : Bool := match x.sched with
      | some c => decide (c.pacer = p)
      | none => false
    let pend : Bool := match x.pending with
      | some (_, r, _) => decide (r = p)
      | none => false
    if mine ∨ pend then
      let s := s.setGroup g { x with sched := if mine then none else x.sched,
                                     pending := if pend then none else x.pending }
      if x.schedPacer = some p then s.refuseWhen2 g else s
    else s) s

/-- A pacer stops (R171): its region runs on unpaced, items are published, schedules cleared.  A LATE
restore that has not ended still ends, and the border policy with it (R184). -/
def State.stopPacer (s : State) (p : Nat) : State :=
  let s := s.onPacedQueues p (Queue.publish s.time)
  let s := s.set (PACE_STATUS_STATE p) 0
  let s := (s.dropPaced p).clearSchedules p
  let s := s.refusePending p
  let s := s.updPacer p (fun x =>
    { x with done := [], isDone := false, ended := if x.flushing then x.ended else none, tc := none, withdrawn := false,
             boundaryHeld := false, swapsDue := false, actsDue := false, forced := false, record := [], lostBefore := false,
             slackVal := none, ivSlack := none, ivLate := false })
  (s.pacer p).mats.foldl (fun s m => s.serveHeld (s.physMat m)) s

/-- New settings of a change (R170). -/
def State.changePacer (s : State) (p : Nat) (o : PaceOp) (b : Word) : State :=
  let s := s.set (PACE_PERIOD_PERIOD_NS p) o.period
  let s := if o.margin = 0 then s else s.set (PACE_MARGIN_MARGIN_NS p) o.margin
  let s := if o.slackPct = 0 then s else s.set (PACE_STATUS_SLACK_PCT p) o.slackPct
  let s := s.setFlag (PACE_STATUS_GOV_EXCLUDE p) o.excl
  s.set (PACE_PHASE_PHASE_NS p) (b.toNat % max 1 o.period)

/-- Mats enter or leave a region (R172, R174). A mat that another region has taken meanwhile makes the
bind end with REFUSED.  A bind whose ANCHOR was not tested, because an earlier one that was to create the region
waited, ends with BAD_ARG when that one has been refused and its ANCHOR names none of its mats. -/
def State.applyBind (s : State) (p : Nat) (o : BindOp) : State :=
  let x := s.pacer p
  if o.bind then
    if o.mats.any (fun m => match s.regionOf m with
        | some r => decide (r ≠ p)
        | none => false) then s.finish o.ref stREFUSED 0
    else if x.mats = [] ∧ o.anchor ∉ o.mats then s.finish o.ref stBAD_ARG 0
    else
      let x := { x with mats := o.mats.foldl (fun l m => insNat m l) x.mats, first := true,
                        anchor := if x.mats = [] then some o.anchor else x.anchor }
      (s.setPacer p x).finish o.ref stOK 0
  else
    let s := (s.pacedQueues p).foldl (fun s q => s.updQueue q (Queue.publish s.time)) s
    let mats := o.mats.foldl (fun l m => delNat m l) x.mats
    let s := s.setPacer p { x with mats := mats, anchor := if mats = [] then none else x.anchor }
    (o.mats.foldl (fun s m => s.serveHeld (s.physMat m)) s).finish o.ref stOK 0

/-- The members and the anchor that a region will have once the binds that wait have taken effect. -/
def Pacer.regionThen (x : Pacer) : List Nat × Option Nat :=
  x.binds.foldl (fun r o =>
    if o.bind then (o.mats.foldl (fun l m => insNat m l) r.1, if r.1 = [] then some o.anchor else r.2)
    else
      let l := o.mats.foldl (fun l m => delNat m l) r.1
      (l, if l = [] then none else r.2)) (x.mats, x.anchor)

def Pacer.membersThen (x : Pacer) : List Nat := x.regionThen.1
def Pacer.anchorThen (x : Pacer) : Option Nat := x.regionThen.2

/-- Step 6: at B(n + 1) the committed levels drive the pins and PACE_OUTk shows them; paced outputs are
handed over at the first boundary after a committed period (R177, R181, R428). -/
def State.showCommitted (s : State) (p : Nat) (mats : List Nat) : State :=
  let x := s.pacer p
  let s := (upto 16).foldl (fun s k => s.wr64 (PACE_OUT_LO p k) (PACE_OUT_HI p k) (Tab.get word0 x.committed k)) s
  let s := mats.foldl (fun s m =>
    (s.pinsOf m).foldl (fun s v => s.unbarPin (causeBit 0 ||| causeBit 1) v) s) s
  (s.settlePaced mats).updPacer p (fun x => { x with handedOver := true })

/-- The slot select that a mat's deferred LATE restore goes back to (R154). -/
def State.deferredSlot (s : State) (m : Nat) : Option Nat :=
  match s.crosierOf m with
  | some c => (c.back.find? (fun e => decide (e.1 = m))).map Prod.snd
  | none => none

/-- The period-start copy of a mat: every slot's hold state into its shadow (R150).  A mat in crosier state whose LATE
restore is deferred keeps the shadows that the restore is to read (R154). -/
def State.checkpoint (s : State) (m : Nat) : State :=
  if (s.deferredSlot m).isSome then s
  else (upto 4).foldl (fun s k =>
    let q := s.physMat m
    s.setSlot q k { s.slot q k with shadow := (s.slot q k).holds }) s

/-- Step 3 of R147: checkpoint copies, write pointers copied, working latch set, inputs re-enabled, input
record offered to the anchor mat as 16 tokens (R150, R175, R176, R181 step 1). -/
def State.boundaryRest (s : State) (p : Nat) : State :=
  let x := s.pacer p
  let s := x.mats.foldl (fun s m =>
    (s.checkpoint m).setRunning (s.physMat m)) s
  let s := s.onPacedQueues p Queue.copied
  let start := x.mats.foldl (fun t m => Tab.insert t m
    ((s.deferredSlot m).getD (s.activeSlot (s.physMat m)))) []
  let s := s.setPacer p { x with boundaryHeld := false, withdrawn := false, work := x.committed, startSlot := start }
  let s := x.mats.foldl (fun s m => s.serveHeld (s.physMat m)) s
  match x.anchor with
  | some a => (upto 16).foldl (fun s i =>
      s.emit (.token (s.physMat a) .inputRecord (i + (Tab.get word0 x.record i).toNat * 16))) s
  | none => s

/-- A swap that the boundary of a pacer waits for is not over (R147). -/
def State.boundarySwap (s : State) (p : Nat) : Bool :=
  s.ctx.groups.any (fun e =>
    (match e.2.run with
      | some r => decide (r.boundary = some p)
      | none => false) || e.2.waiting.any (fun r => decide (r.boundary = some p)))

/-- A relocation in a stage whose set holds a mat of the region. -/
def State.relocIn (s : State) (p stage : Nat) : Bool :=
  s.mnt.acts.any (fun a => match a.task with
    | .reloc r => decide (r.stage = stage) && r.src.any (fun q => decide (s.regionOf (s.logMat q) = some p))
    | _ => false)

/-- A relocation whose set holds a mat of the region is at its cut point (R457 steps 5 to 7, R458). -/
def State.cutAwaits (s : State) (p : Nat) : Bool := s.relocIn p 3

/-- Mats of a region whose active gate record has DONE_EN 1. -/
def State.doneMats (s : State) (p : Nat) : List Nat :=
  (s.pacer p).mats.filter (fun m => (s.activeCtx (s.physMat m)).doneEn)

/-- The region becomes done: every mat withdraws its inputs at the border, the latch is frozen, and the tokens of the
input record that are not taken are discarded (R175, R180, R181). -/
def State.checkDone (s : State) (p : Nat) : State :=
  let x := s.pacer p
  let d := s.doneMats p
  if s.paceState p = 2 ∧ x.isDone = false ∧ x.ended = none ∧ x.boundaryHeld = false ∧ d ≠ [] ∧
      d.all (fun m => decide (m ∈ x.done)) ∧ x.mats.all (fun m => !s.flag (gCROSIER (s.physMat m))) then
    s.setPacer p { x with isDone := true, withdrawn := true, record := [] }
  else s

/-- The boundary goes on once its swaps are over (R147). -/
def State.boundaryGoesOn (s : State) (p : Nat) : State :=
  let x := s.pacer p
  if x.boundaryHeld ∧ x.swapsDue = false ∧ x.flushing = false ∧ s.cutAwaits p = false ∧ s.boundarySwap p = false then
    (s.boundaryRest p).checkDone p
  else s

/-! ### Done, commit and LATE (R180, R181, R185 to R188) -/

/-- A FORCED condition holds at D(n): a member mat in crosier state or stopped, or its relocation is at
its cut point (R154, R185, R458, R462). -/
def State.forcedNow (s : State) (p : Nat) : Bool :=
  (s.pacer p).forced || s.cutAwaits p ||
  (s.pacer p).mats.any (fun m => s.flag (gCROSIER (s.physMat m)) || Tab.get bool0 s.mnt.stopped (s.physMat m))

/-- Slack in 0.01 % (R188). -/
def slackOf (b d tc : Nat) : Nat := if d ≤ b then 0 else (d - tc) * 10000 / (d - b)

/-- Step 5: commit (R181, R188, R238). -/
def State.commitPeriod (s : State) (p tc : Nat) : State :=
  let x := s.pacer p
  let b := (s.paceStart p).toNat
  let slack := slackOf b (s.deadline p) tc
  let s := s.setPacer p { x with committed := x.work, ended := some true, record := [],
                                 ivSlack := some (match x.ivSlack with
                                   | some v => min v slack
                                   | none => slack) }
  let s := s.wr (PACE_COMMITS p) (s.rd (PACE_COMMITS p) + 1)
  let s := (s.setFlag (PACE_STATUS_LAST_LATE p) false).set (PACE_SLACK_LAST_SLACK p) slack
  let s := s.set (PACE_SLACK_MIN_SLACK p) (min slack (s.get (PACE_SLACK_MIN_SLACK p)))
  let s := s.set (PACE_RUN_NS_RUN p) (tc - b)
  (s.onPacedQueues p (Queue.publish s.time)).applyPaced p

/-- Memory-port responses still due to a mat are acknowledged and discarded. -/
def State.dropResponses (s : State) (q : Nat) : State :=
  { s with mem := { s.mem with resp := Tab.keep (fun k => decide (k / 8 ≠ q)) s.mem.resp } }

/-- Hold every hold of a mat NULL (R59, R94). -/
def State.holdNull (s : State) (q : Nat) : State := (s.setHeld q true).setFlag (gQUIET q) true

/-- Step 5′: the period ends LATE: border inputs withdrawn, holds held NULL, write pointers restored, the
working latch and the paced tokens discarded (R181, R185, R238). -/
def State.latePeriod (s : State) (p cause : Nat) : State :=
  let x := s.pacer p
  let s := s.setPacer p { x with ended := some false, withdrawn := true, flushing := true, record := [],
                                 work := x.committed,
                                 ivLate := x.ivLate || decide (cause < 2) }
  let s := s.set (PACE_LATECAUSE_CAUSE p) cause
  let s := x.mats.foldl (fun s m => (s.holdNull (s.physMat m)).dropResponses (s.physMat m)) s
  (s.onPacedQueues p Queue.restored).dropPaced p

/-- Make a slot the active one of a mat (R122, R135 step 5). -/
def State.selectSlot (s : State) (q k : Nat) : State :=
  let old := s.activeSlot q
  if old = k then s
  else
    let s := if s.slotState q old = slACTIVE then s.setSlotState q old slREADY else s
    ((s.setSlotState q k slACTIVE).set (gACTIVE q) k).clocksAfterFlip q

/-- A physical mat is the source of a relocation at its cut point, steps 5 to 7 (R457). -/
def State.atCut (s : State) (q : Nat) : Bool :=
  s.mnt.acts.any (fun a => match a.task with
    | .reloc r => decide (r.stage = 3) && decide (q ∈ r.src)
    | _ => false)

/-- Every slot of a mat takes its hold state from its shadow. -/
def State.holdsBack (s : State) (q : Nat) : State :=
  (upto 4).foldl (fun s k => s.setSlot q k { s.slot q k with holds := (s.slot q k).shadow }) s

/-- Restore a mat: every slot's holds from its shadow, the slot select of the period's start; the whole restore of a
mat in crosier state is deferred to its release (R151, R154).  A stopped mat, and one at the cut of a relocation, stays
held NULL (R457, R462). -/
def State.restoreMat (s : State) (p m : Nat) : State :=
  let q := s.physMat m
  let k := (Tab.find (s.pacer p).startSlot m).getD (s.activeSlot q)
  if s.flag (gCROSIER q) then
    { s with ctx := { s.ctx with crosiers := s.ctx.crosiers.map (fun c =>
        if m ∈ c.mats then { c with back := c.back.filter (fun e => decide (e.1 ≠ m)) ++ [(m, k)] } else c) } }
  else ((s.holdsBack q).selectSlot q k).setHeld q (s.atCut q || Tab.get bool0 s.mnt.stopped q)

/-- Step 6′: restore, counters and PERIOD_LATE (R151, R181, R187). -/
def State.restorePeriod (s : State) (p : Nat) : State :=
  let x := s.pacer p
  let s := x.mats.foldl (fun s m => s.restoreMat p m) s
  let s := (s.count (PACE_LATE p) (PACE_SAT_LATE p) 1).setFlag (PACE_STATUS_LAST_LATE p) true
  let n := x.lateSince + 1
  let num := if x.ended = some false then s.paceNum p else s.paceNum p - 1
  let show_ := s.mayRaise 0x4501 (srcPacer p)
  let s := s.raiseLim 0x4501 (srcPacer p)
    [(18, 1, s.get (PACE_LATECAUSE_CAUSE p)), (20, 4, satBits 32 n), (24, 8, num.toNat)]
  s.updPacer p (fun x => { x with flushing := false, lateSince := if show_ then 0 else n })

/-! ### Regions (R173, R174) -/

/-- A context breaks R173 in a region: it drives an outbound channel to a mat outside, a trunk lane whose
other mat is outside, or an I/O path other than the paced ones. -/
def State.leavesRegion (s : State) (mats : List Nat) (m : Nat) (c : Ctx) : Bool :=
  let q := s.physMat m
  (upto 64).any (fun h => decide (c.outSpan h ≠ 0) && (match channelEnd q h (c.outSpan h) with
    | some (r, _) => decide (s.logMat r ∉ mats)
    | none => false)) ||
  ((upto 256).any (fun l => c.drivesLane l) &&
    decide (s.logMat (matOf (matCol q) (1 - matG q)) ∉ mats)) ||
  ((s.pinsOf m).filter (fun v => !s.pinPaced v)).any (fun v => Config.drivesPath c.words v) ||
  (upto 32).any (fun x => decide (s.get (XL_OWNER_KIND x) = 1) && decide (s.get (XL_OWNER_MAT x) = m) &&
    Config.drivesPath c.words (352 + x))

/-- Some resident context of a mat breaks R173. -/
def State.matLeaves (s : State) (mats : List Nat) (m : Nat) : Bool :=
  (upto 4).any (fun k => decide (s.slotState (s.physMat m) k ≠ slEMPTY) &&
    s.leavesRegion mats m (s.slot (s.physMat m) k).ctx)

/-- A swap group with an armed schedule lies partly in a set of mats (R174). -/
def State.groupSplit (s : State) (mats : List Nat) : Bool :=
  s.ctx.groups.any (fun e => decide (e.2.armedSlots ≠ []) &&
    e.2.mats.any (fun m => decide (m ∈ mats)) && e.2.mats.any (fun m => decide (m ∉ mats)))

end Sys2Proof.Machine
end

