-- ==== Sys2Proof/Machine/Wires.lean ====
section
/-! DEFINITION.  The wires of the fabric: what stands on each source of a mat's switches, where channels begin and
end through through-paths, trunk lane buffers, and one step of the fronds, wires and gates of a mat (R45 to R88,
R101, R109, R136, R137). -/

namespace Sys2Proof.Machine

open Sys2Proof

/-! ### A mat's wires as data -/

def State.fab (s : State) (q : Nat) : MatFab := Tab.get fab0 s.ctx.fab q

def State.setFab (s : State) (q : Nat) (x : MatFab) : State :=
  { s with ctx := { s.ctx with fab := Tab.put fab0 s.ctx.fab q x } }

/-- Numbers of the switch classes of R64 within MatFab.wires. -/
def wTL : Nat := 0
def wMT : Nat := 1
def wOB : Nat := 2
def wAX : Nat := 3
def wTK : Nat := 4
def wMP : Nat := 5
def wMC : Nat := 6

/-- The wire that switch k of a class drives; NULL where nothing drives it (R65). -/
def MatFab.wire (x : MatFab) (cls k : Nat) : Code := Tab.get null0 x.wires (8192 * cls + k)

def State.wire (s : State) (q cls k : Nat) : Code := (s.fab q).wire cls k

/-- The design of a mat runs: its active slot holds a context, and its holds are not held NULL (R57, R59). -/
def State.fabRuns (s : State) (q : Nat) : Bool :=
  decide (s.slotState q (s.activeSlot q) = slACTIVE) && !s.heldNull q

/-- The active slot's hold state. -/
def State.holds (s : State) (q : Nat) : Holds := (s.slot q (s.activeSlot q)).holds

/-! ### Channels between mats (R72 to R76) -/

/-- The through-path of a gate that departs on a wire set (R75, R76). -/
def State.thruInto (s : State) (p h sp : Nat) : Option Nat :=
  (upto 32).find? (fun k =>
    s.flag (COL_GATE_THRU_EN (matCol p) (matG p) k) &&
      decide (16 * s.get (COL_GATE_THRU_OUT_SIDE (matCol p) (matG p) k) +
        s.get (COL_GATE_THRU_OUT_LANE (matCol p) (matG p) k) = h) &&
      decide (s.get (COL_GATE_THRU_OUT_SPAN (matCol p) (matG p) k) = sp))

/-- The through-path of a gate that takes an arriving wire set. -/
def State.thruFrom (s : State) (p h sp : Nat) : Option Nat :=
  (upto 32).find? (fun k =>
    s.flag (COL_GATE_THRU_EN (matCol p) (matG p) k) &&
      decide (16 * s.get (COL_GATE_THRU_IN_SIDE (matCol p) (matG p) k) +
        s.get (COL_GATE_THRU_IN_LANE (matCol p) (matG p) k) = h) &&
      decide (s.get (COL_GATE_THRU_IN_SPAN (matCol p) (matG p) k) = sp))

/-- The mat and outbound channel that drive a departing wire set: its gate's own channel, or, through a
through-path, what arrives there (R75, R76).  The first argument bounds the relays. -/
def State.originOf (s : State) : Nat → Nat → Nat → Nat → Option (Nat × Nat)
  | 0, _, _, _ => none
  | n + 1, p, h, sp =>
    match s.thruInto p h sp with
    | none => if (s.activeCtx p).outSpan h = sp ∧ sp ≠ 0 then some (p, h) else none
    | some k =>
      let c := matCol p
      let g := matG p
      let i := 16 * s.get (COL_GATE_THRU_IN_SIDE c g k) + s.get (COL_GATE_THRU_IN_LANE c g k)
      let isp := s.get (COL_GATE_THRU_IN_SPAN c g k)
      match channelEnd p i isp with
      | some (r, e) => s.originOf n r e isp
      | none => none

/-- The mat and outbound channel that an inbound channel of a physical mat listens to: its IN_SPAN names the wire
set (R73). -/
def State.sender (s : State) (q h : Nat) : Option (Nat × Nat) :=
  let sp := (s.activeCtx q).inSpan h
  if sp = 0 then none
  else match channelEnd q h sp with
    | some (r, e) => s.originOf 512 r e sp
    | none => none

/-- The mat and inbound channel that take a departing wire set: a through-path carries it on, or the receiver's
IN_SPAN has the same span code (R73, R75). -/
def State.listenerOf (s : State) : Nat → Nat → Nat → Nat → Option (Nat × Nat)
  | 0, _, _, _ => none
  | n + 1, p, h, sp =>
    match channelEnd p h sp with
    | none => none
    | some (r, e) =>
      match s.thruFrom r e sp with
      | some k =>
        let c := matCol r
        let g := matG r
        s.listenerOf n r (16 * s.get (COL_GATE_THRU_OUT_SIDE c g k) + s.get (COL_GATE_THRU_OUT_LANE c g k))
          (s.get (COL_GATE_THRU_OUT_SPAN c g k))
      | none => if (s.activeCtx r).inSpan e = sp then some (r, e) else none

/-- The mat and inbound channel that take outbound channel h of a physical mat. -/
def State.receiver (s : State) (q h : Nat) : Option (Nat × Nat) :=
  let sp := (s.activeCtx q).outSpan h
  if sp = 0 then none else s.listenerOf 512 q h sp

/-! ### The border (R77, R136, R141) -/

/-- Whether a wire of a mat whose other end lies at a physical mat is withdrawn: it crosses the border of the mat's
region, or the mat has withdrawn all its wires. -/
def State.withdrawn (s : State) (q : Nat) (far : Option Nat) : Bool :=
  match s.policyAt q with
  | none => false
  | some p => p.every || (match far with
    | some r => decide (s.logMat r ∉ p.mats)
    | none => true)

/-- The departing wire sets that carry what a departing wire set shows: itself, and those of the through-paths behind
it, back to the gate whose own channel it is (R75, R90). -/
def State.wireSets (s : State) : Nat → Nat → Nat → Nat → List (Nat × Nat × Nat)
  | 0, _, _, _ => []
  | n + 1, p, h, sp =>
    (p, h, sp) :: match s.thruInto p h sp with
      | none => []
      | some k =>
        let i := 16 * s.get (COL_GATE_THRU_IN_SIDE (matCol p) (matG p) k) + s.get (COL_GATE_THRU_IN_LANE (matCol p) (matG p) k)
        let isp := s.get (COL_GATE_THRU_IN_SPAN (matCol p) (matG p) k)
        match channelEnd p i isp with
        | some (r, e) => s.wireSets n r e isp
        | none => []

/-- The wire sets that carry an inbound channel. -/
def State.channelSets (s : State) (q h : Nat) : List (Nat × Nat × Nat) :=
  match channelEnd q h ((s.activeCtx q).inSpan h) with
  | some (r, e) => s.wireSets 512 r e ((s.activeCtx q).inSpan h)
  | none => []

/-- COL_GATE_CHDIS bit of a channel (R93). -/
def chDisFld (m h : Nat) : Fld :=
  if h < 32 then ⟨COL_GATE_CHDIS_LO (matCol m) (matG m), h, 1⟩
  else ⟨COL_GATE_CHDIS_HI (matCol m) (matG m), h - 32, 1⟩

/-- Bit j of an inbound channel as it stands on the arriving wire set. -/
def State.arriving (s : State) (q h j : Nat) : Code :=
  match s.sender q h with
  | some (r, e) => Tab.get null0 (s.fab r).gate (16 * e + j)
  | none => .null

/-- Bit j of an inbound channel as the gate presents it inside the mat: NULL for a disabled channel (R90); under
policy only a transfer whose acknowledge is up runs on (R136). -/
def State.inBit (s : State) (q h j : Nat) : Code :=
  if s.flag (chDisFld q h) then .null
  else if s.withdrawn q ((s.sender q h).map Prod.fst) ∧ s.wire q wAX h ≠ .data1 then .null
  else s.arriving q h j

/-- The acknowledge that comes back on an outbound channel: auxiliary driver e of the receiver (R68), or its gate's
own for a token that it drains; none from a disabled channel. -/
def State.outAck (s : State) (q h : Nat) : Code :=
  match s.receiver q h with
  | none => .null
  | some (r, e) =>
    if s.flag (chDisFld r e) then .null
    else if Tab.get bool0 (s.fab r).gateAck e then .data1
    else s.wire r wAX e

/-- The phase that a channel is in: the step of R47's table that comes next, from the codes of its bits and the
acknowledge; none between two steps. -/
def channelPhase (bits : List Code) (ack : Code) : Option Nat :=
  if bits.all (fun c => decide (c = .null)) then
    (if ack = .null then some 1 else if ack = .data1 then some 4 else none)
  else if bits.all Code.isData then
    (if ack = .null then some 2 else if ack = .data1 then some 3 else none)
  else none

/-- The channel that leaves a mat by outbound channel h, on the n bits that it uses. -/
def State.channelPhase (s : State) (q h n : Nat) : Option Nat :=
  Sys2Proof.Machine.channelPhase ((upto n).map (fun j => Tab.get null0 (s.fab q).gate (16 * h + j))) (s.outAck q h)

/-! ### Trunk lanes (R88, R101, R103) -/

/-- Driver code of a lane in the active combination of its column (R88, R104). -/
def State.laneDriver (s : State) (c lane : Nat) : Nat :=
  s.ownCode c (s.activeSlot (matOf c 0)) (s.activeSlot (matOf c 1)) lane

/-- The table names this mat's end as the driver of the lane in the active combination. -/
def State.drivesNow (s : State) (q lane : Nat) : Bool := decide (s.laneDriver (matCol q) lane = matG q + 1)

/-- The one-token buffer at a mat's end of a lane (R101). -/
def State.laneBuf (s : State) (q lane : Nat) : BitVec 2 := Tab.get code0 (s.holds q).lanes lane

def State.setLaneBuf (s : State) (q lane : Nat) (v : BitVec 2) : State :=
  let k := s.activeSlot q
  let x := s.slot q k
  s.setSlot q k { x with holds := { x.holds with lanes := Tab.put code0 x.holds.lanes lane v } }

/-! ### Sources (R63, R65) -/

/-- Bit j of a register channel's token: word offset, write flag, write data (R78). -/
def WinAcc.bit (a : WinAcc) (j : Nat) : Bool :=
  if j < 12 then bitAt a.word j else if j = 12 then a.write else a.write && a.data.getLsbD (j - 13)

/-- The code that a source of a mat presents. -/
def State.srcCode (s : State) (q : Nat) : WireSrc → Code
  | .frond f =>
    if s.fabRuns q = false then .null
    else match Tab.find (s.activeCtx q).words f with
      | some _ => Tab.get null0 (s.fab q).out f
      | none => .data0
  | .track k => s.wire q wMT k
  | .inBit h j => s.inBit q h j
  | .outAck h => s.outAck q h
  | .lane k =>
    if s.drivesNow q k ∨ s.flag (laneDis (matCol q) k) ∨ s.laneDead (matCol q) k ∨
        s.withdrawn q (some (matOf (matCol q) (1 - matG q))) then .null
    else Code.ofHold (s.laneBuf q k)
  | .laneAck k => Code.ofLevel (s.drivesNow q k && decide (s.laneBuf q k ≠ 0))
  | .macBit t j =>
    match Tab.get none0 (s.holds q).res t with
    | some v => Code.ofBool (v.getLsbD j)
    | none => .null
  | .macAck t => Code.ofLevel (Tab.get bool0 (s.fab q).ackUp t)
  | .portBit b j =>
    match s.portResp q b with
    | some r => Code.ofBool (bitAt (respBits r) j)
    | none => .null
  | .portAck c => Code.ofLevel (Tab.get bool0 (s.fab q).ackUp (8 + c))
  | .regBit j =>
    match s.flag (gREGCH_BUSY q), s.window q with
    | true, a :: _ => Code.ofBool (a.bit j)
    | _, _ => .null
  | .pin v => if s.pinMat v = some (s.logMat q) ∧ s.useOut q 3 = false then Code.ofBool (s.pinLevel v) else .null

/-- The source that switch k of a class selects in a context (R65). -/
def Ctx.source (c : Ctx) (cls : Nat) (rc : RouteClass) (k : Nat) : Option WireSrc :=
  if c.switch rc k = 0xFF then none else Config.switchSource cls k (c.switch rc k)

/-- Switches of a class that lie in the frond words of a context (R64). -/
def Ctx.switches (c : Ctx) (rc : RouteClass) : List Nat :=
  c.words.foldr (fun e l => (upto (max 1 (rc.n / 8))).map (fun j => e.1 * rc.n / 8 + j) ++ l) []

/-- The wires that a context's switches drive, one step on (R65). -/
def State.nextWires (s : State) (q : Nat) : Tab Code :=
  let c := s.activeCtx q
  let one (cls : Nat) (rc : RouteClass) (t : Tab Code) : Tab Code :=
    (c.switches rc).foldl (fun t k => match c.source cls rc k with
      | some x => Tab.put null0 t (8192 * cls + k) (s.srcCode q x)
      | none => t) t
  one wMC clsMC (one wMP clsMP (one wTK clsTK (one wAX clsAX (one wOB clsOB (one wMT clsMT (one wTL clsTL []))))))

/-! ### Fronds (R54 to R61, R63, R70) -/

/-- The input that an input select code of tuft t names, by the code of a frond and of a tuft input line (R63). -/
def inputOf (frond line : Nat → Code) (t code : Nat) : FrondIn :=
  if code < 0x10 then ⟨true, false, frond (16 * t + code)⟩
  else if code < 0x70 then ⟨true, false, line (96 * t + (code - 0x10))⟩
  else ⟨false, decide (code = 0xF1), .null⟩

/-- Inputs a0 to a5 of a frond. -/
def State.frondInputs (s : State) (q f : Nat) : List FrondIn :=
  let w := (s.activeCtx q).word f
  (upto 6).map (fun i =>
    inputOf (fun g => s.srcCode q (.frond g)) (fun n => s.wire q wTL n) (f / 16) (fwINSEL w i))

/-- An input taken as an acknowledge (R46): a constant has its level. -/
def FrondIn.level (i : FrondIn) : Code := if i.part then i.code else Code.ofLevel i.const

def nthIn (is : List FrondIn) (i : Nat) : FrondIn := is.getD i ⟨false, false, .null⟩

/-- Select bits of the wide multiplexer whose lowest tuft is t, over n tufts: s0 and s1 of its first frond, s2 to
s4 of frond 8, s5 to s7 of frond 9 of the lowest tuft.  Elvif wires the select bits alike to every frond of the
multiplexer, so that one copy stands for all (DEDUCED, log entry 66). -/
def State.muxSelect (s : State) (q t n : Nat) : List FrondIn :=
  ((s.frondInputs q (16 * t)).drop 4).take 2 ++ (s.frondInputs q (16 * t + 8)).take 3 ++
    (if 2 ≤ n then (s.frondInputs q (16 * t + 9)).take 3 else [])

/-- Data input n of the wide multiplexer (R70). -/
def State.muxData (s : State) (q t : Nat) (i : Nat) : FrondIn :=
  let (dt, f, d) := wideMuxIndex i
  nthIn (s.frondInputs q (16 * (t + dt) + f)) d

/-- A frond of a bridge whose crossing refuses: it holds no token and takes none (R272).  A CLOCKED hold keeps its code
(R263). -/
def State.bridgeFlushed (s : State) (q f : Nat) (w : BitVec 256) : Bool :=
  Tab.get bool0 s.clk.refusing (matTree q) && decide (fwMODE w ≠ 5) &&
    decide (f ∈ Config.bridgeFronds (s.activeCtx q).words)

/-- What a frond does in one step: output, carry or joined acknowledge, multiplexer input kept, hold. -/
structure FrondNext where
  out : Code
  aux : Code
  sel : Nat
  hold : Code
  deriving DecidableEq, Repr

/-- One step of a frond of the running design (R54 to R56, R61, R70, R71).  An output never goes from one DATA code
to the other directly (R48).  A frond that sees the illegal code does not advance (R89). -/
def State.frondNext (s : State) (q f : Nat) (w : BitVec 256) : FrondNext :=
  let x := s.fab q
  let is := s.frondInputs q f
  let p := Tab.get null0 x.out f
  let a := Tab.get null0 x.aux f
  let n := Tab.get nat0 x.sel f
  let h := Code.ofHold (Tab.get code0 (s.holds q).fronds f)
  let plain (c : Code) : FrondNext := ⟨p.toward c, a, n, h⟩
  if (0, f) ∈ x.bad then ⟨p, a, n, h⟩
  else if s.bridgeFlushed q f w then ⟨.null, .null, 0, .null⟩
  else if fwCOMB w ∧ f % 16 = 15 then
    let (c, m) := muxOut (s.muxSelect q (f / 16) (fwCombTufts w)) (s.muxData q (f / 16)) p n
    ⟨p.toward c, a, m, h⟩
  else if fwCOMB w ∧ f % 16 < 8 then
    let (c, m) := muxOut ((is.drop 4).take 2) (nthIn is) p n
    ⟨p.toward c, a, m, h⟩
  else match fwMODE w with
    | 0 => plain (logicOut (fwLUT w) (fwISLAND w) is p)
    | 1 =>
      let h' := stageOut (fwLUT w) (is.take 5) (nthIn is 5).level h
      ⟨p.toward h', a, n, h'⟩
    | 2 =>
      let cin : FrondIn := if fwCHAIN w then ⟨true, false, Tab.get null0 x.aux (f - 1)⟩ else nthIn is 5
      let (c, co) := carryOut (fwLUT w) (is.take 5) cin p a
      ⟨p.toward c, a.toward co, n, h⟩
    | 3 => plain (joinOut is p)
    | 4 =>
      let a' := joinOut (is.drop 1) a
      let a0 := nthIn is 0
      let h' := forkOut (if a0.part then a0.code else Code.ofBool a0.const) a' h
      ⟨p.toward h', a', n, h'⟩
    | _ => plain h

/-- Frond outputs, carries and holds of a mat, one step on. -/
def State.fronds (s : State) (q : Nat) : List (Nat × FrondNext) :=
  (s.activeCtx q).words.map (fun e => (e.1, s.frondNext q e.1 e.2))

/-! ### Gate, buffers, tiles (R77, R80, R81, R101, R109, R136) -/

/-- What the gate presents on its outbound channels: the OB wires; under policy it presents no new DATA, and a
transfer whose DATA stands runs to its end (R136, R142). -/
def State.nextGate (s : State) (q : Nat) : Tab Code :=
  let x := s.fab q
  let c := s.activeCtx q
  (upto 64).foldl (fun t h =>
    if c.outSpan h = 0 then t
    else
      let idle := (upto 16).all (fun j => decide (Tab.get null0 x.gate (16 * h + j) = .null))
      if s.withdrawn q ((s.receiver q h).map Prod.fst) ∧ idle then t
      else (upto 16).foldl (fun t j => Tab.put null0 t (16 * h + j) (x.wire wOB (16 * h + j))) t) []

/-- Inbound channels whose token the gate is draining: until the token is gone from the wires (R142). -/
def State.nextGateAck (s : State) (q : Nat) : Tab Bool :=
  (s.fab q).gateAck.filter (fun e => e.2 && (upto 16).any (fun j => decide (s.arriving q e.1 j ≠ .null)))

/-- Acknowledges of tiles and of memory-port request channels: up until their inputs are NULL again (R47, R82,
R109). -/
def State.nextAckUp (s : State) (q : Nat) : Tab Bool :=
  let x := s.fab q
  x.ackUp.filter (fun e => e.2 &&
    (if e.1 < 8 then (upto 122).any (fun j => decide (x.wire wMC (128 * e.1 + j) ≠ .null))
     else (upto 93).any (fun j => decide (x.wire wMP (128 * (e.1 - 8) + j) ≠ .null))))

/-- MAC results that the design has not acknowledged by auxiliary drivers 64 to 71 (R68, R81). -/
def State.nextRes (s : State) (q : Nat) : Tab (Option (BitVec 65)) :=
  (s.holds q).res.filter (fun e => decide (s.wire q wAX (64 + e.1) ≠ .data1))

/-- A lane's buffer at a mat's end, one step on (R101, R103): the sending buffer takes a token from the TK wire while
the far buffer is empty and gives it up once the far one holds it; the receiving buffer takes the far one's token
and keeps it until the design has acknowledged it. -/
def State.nextLane (s : State) (q lane : Nat) : BitVec 2 :=
  let b := s.laneBuf q lane
  let o := matOf (matCol q) (1 - matG q)
  let far := s.laneBuf o lane
  if s.flag (laneDis (matCol q) lane) ∨ s.laneOut (matCol q) lane then b
  else if s.drivesNow q lane then
    let w := s.wire q wTK lane
    if b = 0 ∧ far = 0 ∧ w.isData ∧ s.withdrawn q (some o) = false then w.toHold
    else if b ≠ 0 ∧ far ≠ 0 ∧ w = .null then 0
    else b
  else if s.drivesNow o lane then
    let ack := match Config.laneTaker (s.activeCtx q).words lane with
      | some x => s.srcCode q x
      | none => .null
    if b = 0 ∧ ack = .null ∧ s.withdrawn q (some o) = false then far
    else if far = 0 ∧ ack = .data1 then 0
    else b
  else b

/-- Lanes that a mat's active context drives or receives. -/
def State.lanesAt (s : State) (q : Nat) : List Nat :=
  (upto 256).filter (fun l => decide (s.laneDriver (matCol q) l = 1 ∨ s.laneDriver (matCol q) l = 2))

/-- One step of a mat whose design runs, from the codes that stand before it. -/
def State.matNext (s : State) (q : Nat) : MatFab × Holds :=
  let x := s.fab q
  let h := s.holds q
  let fs := s.fronds q
  ({ x with
      out := fs.foldl (fun t e => Tab.put null0 t e.1 e.2.out) [],
      aux := fs.foldl (fun t e => Tab.put null0 t e.1 e.2.aux) [],
      sel := fs.foldl (fun t e => Tab.put nat0 t e.1 e.2.sel) [],
      wires := s.nextWires q,
      gate := s.nextGate q,
      gateAck := s.nextGateAck q,
      ackUp := s.nextAckUp q },
   { h with
      fronds := fs.foldl (fun t e => Tab.put code0 t e.1 e.2.hold.toHold) [],
      res := s.nextRes q,
      lanes := (s.lanesAt q).foldl (fun t l => Tab.put code0 t l (s.nextLane q l)) h.lanes })

/-! ### Parked border state (R137) -/

/-- What the gate of a member parks at a flip: for each channel whose both ends lie in the group, the codes that it
presents and the acknowledges that it returns. -/
def State.parkedBorder (s : State) (q : Nat) (mats : List Nat) : Tab (BitVec 2) :=
  let c := s.activeCtx q
  let x := s.fab q
  let inside (e : Option (Nat × Nat)) : Bool := match e with
    | some (r, _) => decide (s.logMat r ∈ mats)
    | none => false
  let t := (upto 64).foldl (fun t h =>
    if c.outSpan h ≠ 0 ∧ inside (s.receiver q h) then
      (upto 16).foldl (fun t j => Tab.put code0 t (16 * h + j) (Tab.get null0 x.gate (16 * h + j)).toHold) t
    else t) []
  (upto 64).foldl (fun t h =>
    if inside (s.sender q h) ∧ x.wire wAX h = .data1 then Tab.put code0 t (1024 + h) 2 else t) t

/-- The trunk lane buffers of a mat whose other end lies outside the group are not parked. -/
def State.parkedLanes (s : State) (q : Nat) (mats : List Nat) : Tab (BitVec 2) :=
  if s.logMat (matOf (matCol q) (1 - matG q)) ∈ mats then (s.holds q).lanes else []

/-- The wires of a mat as a restored border state leaves them: the gate presents the parked codes, the acknowledges
stand on their auxiliary drivers, and every other wire settles from NULL (R137, R138). -/
def fabOf (h : Holds) (bad : List (Nat × Nat)) : MatFab :=
  { fab0 0 with
    gate := (h.border.filter (fun e => decide (e.1 < 1024))).foldl
      (fun t e => Tab.put null0 t e.1 (Code.ofHold e.2)) [],
    wires := (h.border.filter (fun e => decide (1024 ≤ e.1))).foldl
      (fun t e => Tab.put null0 t (8192 * wAX + (e.1 - 1024)) .data1) [],
    bad := bad }

end Sys2Proof.Machine
end

