-- ==== Sys2Proof/Machine/SwapOps.lean ====
section
/-! DEFINITION.  Swaps as data: triggers, tests, withdrawal, flip, abandonment and their reports, phase
schedules, and the tethered swap (R130 to R149, R348). -/

namespace Sys2Proof.Machine

open Sys2Proof

/-! ### Tethers (R346 to R348) -/

/-- A tether is UP. -/
def State.tetherUp (s : State) (k : Nat) : Bool := decide (s.get (TH_STATUS_STATE k) = 2)

/-- Tethers of this device that are UP with ROLE lead. -/
def State.leadTethers (s : State) : List Nat :=
  (upto 8).filter (fun k => s.tetherUp k && decide (s.get (TH_CTL_ROLE k) = 1))

/-- A tether of this device is UP with ROLE follower: device time follows its lead (R349). -/
def State.followsTether (s : State) : Bool :=
  (upto 8).any (fun k => s.tetherUp k && decide (s.get (TH_CTL_ROLE k) = 2))

/-- Send a message on a tether that is UP (R347), of its type in R347. -/
def State.sendTether (s : State) (k kind v : Nat) : State :=
  if s.tetherUp k then s.emit (.tether k kind v) else s

/-- Greatest LAT_NS among the tethers that are UP. -/
def State.greatestLat (s : State) : Nat :=
  (upto 8).foldl (fun a k => if s.tetherUp k then max a (s.get (TH_STATUS_LAT_NS k)) else a) 0

/-! ### Reports (R134, R146, R161, R162) -/

/-- COL_CTX_SWAPRES of a physical mat. -/
def State.setSwapRes (s : State) (q status slot trigger : Nat) (notQuiet : Bool) : State :=
  let c := matCol q
  let g := matG q
  let s := (s.set (COL_CTX_SWAPRES_STATUS c g) status).set (COL_CTX_SWAPRES_SLOT c g) slot
  (s.set (COL_CTX_SWAPRES_TRIGGER c g) trigger).setFlag (COL_CTX_SWAPRES_NOT_QUIET c g) notQuiet

/-- The schedule in force clears itself; timed swaps of its periods are refused unless a pending schedule
takes its place (R134, R145, R146). -/
def State.dropSched (s : State) (g : Nat) : State :=
  let x := s.group g
  let s := s.setGroup g { x with sched := none }
  match x.pending with
  | some (_, _, some _) => s
  | _ => s.refuseWhen2 g

/-- A phase of the group's schedule with a number ends (R145, R146): a ONCE schedule goes on to its next phase,
retries the same one in the next period, or clears itself.  A schedule that has been replaced meanwhile does nothing
more (R148). -/
def State.phaseEnds (s : State) (g no : Nat) (ok : Bool) : State :=
  let x := s.group g
  match x.sched with
  | none => s
  | some c =>
    if c.no ≠ no ∨ c.every ∨ c.due < c.phases.length then s
    else if ok then
      if c.phases.length ≤ c.idx + 1 then s.dropSched g
      else s.setGroup g { x with sched := some { c with idx := c.idx + 1, left := 8, due := c.idx + 1 } }
    else if c.left = 0 then s.dropSched g
    else s.setGroup g { x with sched := some { c with left := c.left - 1,
                                                      run := (s.paceNum c.pacer).toNat + 1 } }

/-- The end of a swap that a trigger asked for, reported as its trigger says: flips and time to
quiescence for the host, SWAP_FAILED for the others (R131, R134, R161). -/
def State.reportSwap (s : State) (g slot trigger : Nat) (ref : Option CmdRef) (retries no status flips ns : Nat)
    (failing : Option Nat) : State :=
  if trigger = 0 then s.finishRef ref status (BitVec.ofNat 64 (flips % 65536 + satBits 16 ns * 65536))
  else
    let s := if status = stOK then s else
      let (col, layer) := match failing with
        | some q => (matCol q, matLayer q)
        | none => (0, 0)
      s.raiseSt 0x4401 (srcGroup g) status [(18, 1, status), (19, 1, slot), (20, 1, trigger), (21, 1, col),
        (22, 1, layer), (23, 1, retries)]
    if trigger = 1 then s.phaseEnds g no (decide (status = stOK)) else s

/-! ### Requests (R131, R132) -/

/-- A request of a trigger at once. -/
def swapReq (slot trigger : Nat) (ref : Option CmdRef) (retries : Nat) (boundary : Option Nat) : SwapReq :=
  { slot := slot, trigger := trigger, ref := ref, when_ := 0, at_ := 0, tether := false, lead := none,
    strobed := [], retries := retries, boundary := boundary, no := 0, asker := none }

/-- Members that take part: those whose active slot is not the target already (R130). -/
def State.swapParts (s : State) (g slot : Nat) : List Nat :=
  (s.group g).mats.filter (fun m => decide (s.activeSlot (s.physMat m) ≠ slot))

/-- Test of one member (R135 step 1, R102): the status, 0 when it passes. -/
def State.memberTest (s : State) (m slot : Nat) : Nat :=
  let q := s.physMat m
  let st := s.slotState q slot
  if st = slEMPTY then stREFUSED
  else if s.flag (gCROSIER q) ∨ (s.crosierOf m).isSome then stBUSY
  else if st = slLOADING ∨ st = slWAIT_FLOOR then stBUSY
  else if s.relocLocked q then stBUSY
  else if s.useOut q 2 then stHW_FAULT
  else stOK

/-- Combination of a column after the flip of a group's parts to a slot. -/
def State.targetCombo (s : State) (parts : List Nat) (c slot : Nat) : Nat × Nat :=
  let after (q : Nat) : Nat := if s.logMat q ∈ parts then slot else s.activeSlot q
  (after (matOf c 0), after (matOf c 1))

/-- A member of the group in crosier state, or in a crosier region that has been entered (R153). -/
def State.crosierMember (s : State) (g : Nat) : Option Nat :=
  (s.group g).mats.find? (fun m => s.flag (gCROSIER (s.physMat m)) || (s.crosierOf m).isSome)

/-- Tests of step 1: the status and the first failing physical mat.  A member in crosier state ends the swap with
BUSY, also one already on the target slot (R153), and ILLEGAL on any member with HW_FAULT (R91); the members' slots
and locks come before the columns' combinations (R105). -/
def State.swapTest (s : State) (g slot : Nat) (parts : List Nat) : Nat × Option Nat :=
  if s.groupStopped g then (stREFUSED, none)
  else match parts.find? (fun m => decide (s.memberTest m slot ≠ stOK)) with
    | some m => (s.memberTest m slot, some (s.physMat m))
    | none => match s.crosierMember g with
      | some m => (stBUSY, some (s.physMat m))
      | none => match (s.group g).mats.find? (fun m => s.flag (gILLEGAL (s.physMat m))) with
        | some m => (stHW_FAULT, some (s.physMat m))
        | none => match parts.find? (fun m =>
            let c := matCol (s.physMat m)
            comboConflict (s.colCtx c) (s.targetCombo parts c slot)) with
          | some m => (stCONTENTION, some (s.physMat m))
          | none => (stOK, none)

/-- Withdraw the taking-part members' inputs; the border policy of their old slots applies (R135 steps 2
and 3, R141, R144). -/
def State.withdraw (s : State) (parts : List Nat) : State :=
  parts.foldl (fun s m => s.holdPins m (s.activeSlot (s.physMat m))) s

/-- Re-enable the inputs of mats and end their border policy; register-channel accesses that it held are taken.  The
run of the swap has been cleared before. -/
def State.resume (s : State) (mats : List Nat) : State :=
  mats.foldl (fun s m => ((s.freePins m).setRunning (s.physMat m)).serveHeld (s.physMat m)) s

/-- COL_SWAP_TIMEOUT of a column in ns: smaller values act as 100, larger as 100,000 (R139, R162). -/
def State.swapTimeout (s : State) (c : Nat) : Nat :=
  min 100000 (max 100 (s.get (COL_SWAP_TIMEOUT_TIMEOUT_NS c)))

def State.setRun (s : State) (g : Nat) (r : Option SwapRun) : State := s.setGroup g { s.group g with run := r }

/-- The outcome is written to COL_CTX_SWAPRES of the requesting mat also when it takes no part (R131). -/
def State.askerRes (s : State) (asker : Option Nat) (parts : List Nat) (status slot : Nat) : State :=
  match asker with
  | some m => if m ∈ parts then s else s.setSwapRes (s.physMat m) status slot 2 false
  | none => s

/-- Run steps 1 to 3 of a swap now (R135): refused at step 1′, or withdrawn.  A tethered swap tells its
partners of a refusal (R149), and takes part with no member of its own when all are on the slot. -/
def State.startSwap (s : State) (g : Nat) (r : SwapReq) : State :=
  let parts := s.swapParts g r.slot
  let joint := decide (r.strobed ≠ []) || r.lead.isSome
  if parts = [] ∧ joint = false ∧ s.groupStopped g = false ∧ s.crosierMember g = none then
    (s.askerRes r.asker parts stOK r.slot).reportSwap g r.slot r.trigger r.ref r.retries r.no stOK 0 0 none
  else
    match s.swapTest g r.slot parts with
    | (st, failing) =>
      if st = stOK then
        let s := (s.withdraw parts).setRun g (some
          { slot := r.slot, trigger := r.trigger, ref := r.ref, mats := parts, withdrawnAt := s.time,
            limit := s.swapTimeout (s.leadCol (s.group g).mats) +
              (if r.strobed = [] then 0 else s.greatestLat),
            lead := r.lead, strobed := r.strobed, awaiting := r.strobed,
            quiet := if parts = [] then some [] else none, retries := r.retries, boundary := r.boundary,
            no := r.no, asker := r.asker })
        match r.lead with
        | some k => if parts = [] then s.sendTether k 2 g else s
        | none => s
      else
        let s := parts.foldl (fun s m => s.setSwapRes (s.physMat m) st r.slot r.trigger false) s
        let s := s.askerRes r.asker parts st r.slot
        let s := r.strobed.foldl (fun s k => s.sendTether k 4 (g + st * 256)) s
        let s := match r.lead with
          | some k => s.sendTether k 2 (g + st * 256)
          | none => s
        s.reportSwap g r.slot r.trigger r.ref r.retries r.no st 0 0 failing

/-- The lead's strobe (R348): W lies the greatest latency and 200 ns ahead; its own part runs at W. -/
def State.strobe (s : State) (g : Nat) (r : SwapReq) : SwapReq × State :=
  let w := s.time + BitVec.ofNat 64 (s.greatestLat + 200)
  let ks := s.leadTethers
  ({ r with when_ := 1, at_ := w, strobed := ks },
   ks.foldl (fun s k => s.sendTether k 1 (g + r.slot * 64 + w.toNat * 256)) s)

/-- A request can be taken now: it waited for a swap to end, or its device time has come. -/
def State.ripeNow (s : State) (r : SwapReq) : Bool :=
  decide (r.when_ = 0) || (decide (r.when_ = 1) && decide (r.at_ ≤ s.time))

/-- Order of the triggers (R132): tether, pacer, host, design. -/
def trigRank (t : Nat) : Nat := match t with
  | 3 => 0
  | 1 => 1
  | 0 => 2
  | _ => 3

/-- A request that waits for the group comes before one of a trigger (R132). -/
def State.outranked (s : State) (g trig : Nat) : Bool :=
  (s.group g).waiting.any (fun r => s.ripeNow r && decide (trigRank r.trigger < trigRank trig) &&
    decide (r.trigger = 1 ∨ r.trigger = 3))

/-- A trigger arrives for a group (R132): at once, after the swap in progress for a tether or a pacer, or BUSY for
the host and the design, which a tether's or a pacer's request that waits comes before too.  A swap that is to be
tethered on a device with no lead tether UP is a swap of this device alone: R149 does not say what it is then
(DESIGN CHOICE, log entry 67). -/
def State.trigger (s : State) (g : Nat) (r : SwapReq) : State :=
  let x := s.group g
  if x.run.isSome ∨ s.outranked g r.trigger then
    if r.trigger = 1 ∨ r.trigger = 3 then s.setGroup g { x with waiting := x.waiting ++ [r] }
    else
      let s := r.strobed.foldl (fun s k => s.sendTether k 4 (g + stBUSY * 256)) s
      (s.askerRes r.asker [] stBUSY r.slot).reportSwap g r.slot r.trigger r.ref r.retries r.no stBUSY 0 0 none
  else
    if r.tether ∧ r.strobed = [] ∧ s.leadTethers ≠ [] then
      match s.strobe g r with
      | (r, s) => s.setGroup g { s.group g with waiting := (s.group g).waiting ++ [r] }
    else s.startSwap g r

/-! ### Flip and abandonment (R135 steps 4 to 6 and 5′) -/

/-- Time to quiescence of a member as its mat gate reported it. -/
def quietNs (quiet : List (Nat × Nat)) (m dflt : Nat) : Nat :=
  match quiet.find? (fun e => decide (e.1 = m)) with
  | some e => e.2
  | none => dflt

/-- A member flips: it saves its parked border state and lane buffers into the old slot and restores the new slot's
(R137); the new slot's holds present their kept codes, or its first-activation codes when it has not been active since
it was loaded, which its holds have held since (R127, R135 step 5, R138). -/
def State.flipMember (s : State) (mats : List Nat) (m slot : Nat) : State :=
  let q := s.physMat m
  let old := s.activeSlot q
  let x := s.slot q old
  let s := s.setSlot q old { x with holds := { x.holds with border := s.parkedBorder q mats,
                                                            lanes := s.parkedLanes q mats } }
  let s := s.setFab q (fabOf (s.slot q slot).holds (s.fab q).bad)
  let s := s.selectSlot q slot
  let s := s.setSlot q slot { s.slot q slot with activated := true }
  s.count (COL_CTX_SWAPS (matCol q) (matG q)) (COL_CTX_SAT_SWAPS (matCol q) (matG q)) 1

/-- Steps 5 and 6: every member flips and resumes; the swap completes with OK.  A flip may leave a region whose every
mat that is to present a done token has done so (R180). -/
def State.flipGroup (s : State) (g : Nat) (r : SwapRun) (quiet : List (Nat × Nat)) : State :=
  let ns := fun m => quietNs quiet m (s.time - r.withdrawnAt).toNat
  let last := r.mats.foldl (fun a m => max a (ns m)) 0
  let mats := (s.group g).mats
  let s := r.mats.foldl (fun s m => s.flipMember mats m r.slot) s
  let s := (s.setRun g none).resume r.mats
  let s := r.mats.foldl (fun s m =>
    let q := s.physMat m
    let s := s.set (COL_CTX_QUIETNS_TIME (matCol q) (matG q)) (satBits 32 (ns m))
    s.setSwapRes q stOK r.slot r.trigger false) s
  let s := s.askerRes r.asker r.mats stOK r.slot
  let s := s.reportSwap g r.slot r.trigger r.ref r.retries r.no stOK r.mats.length last none
  r.mats.foldl (fun s m => match s.regionOf m with
    | some p => s.checkDone p
    | none => s) s

/-- The mat may be quiescent (R136): no register-channel access is in progress and no memory-port response
awaits its acknowledge. -/
def State.mayRest (s : State) (q : Nat) : Bool :=
  !s.flag (gREGCH_BUSY q) && (upto 8).all (fun b => (s.portResp q b).isNone)

/-- Members that are quiescent now, with their times, for an abandonment that no report of them comes with: all once
the last has been reported, else those whose gate shows QUIET with nothing in progress (R136). -/
def State.quietNow (s : State) (r : SwapRun) : List (Nat × Nat) :=
  match r.quiet with
  | some l => l
  | none => (r.mats.filter (fun m => s.flag (gQUIET (s.physMat m)) && s.mayRest (s.physMat m))).map
      (fun m => (m, (s.time - r.withdrawnAt).toNat))

/-- Step 5′: every member resumes under its old slot; QUIETNS and NOT_QUIET of a member that was not
quiescent; SWAPTOS on a timeout (R162).  `bad`: the mat that made the swap fail, where one did (R161). -/
def State.abandonGroup (s : State) (g : Nat) (r : SwapRun) (status : Nat) (quiet : List (Nat × Nat))
    (bad : Option Nat) : State :=
  let s := (s.setRun g none).resume r.mats
  let isQuiet := fun m => quiet.any (fun e => decide (e.1 = m))
  let s := r.mats.foldl (fun s m =>
    let q := s.physMat m
    let s := s.set (COL_CTX_QUIETNS_TIME (matCol q) (matG q)) (satBits 32 (quietNs quiet m 0xFFFF_FFFF))
    let s := s.setSwapRes q status r.slot r.trigger (!isQuiet m)
    if status = stSWAP_TIMEOUT then
      s.count (COL_CTX_SWAPTOS (matCol q) (matG q)) (COL_CTX_SAT_SWAPTOS (matCol q) (matG q)) 1
    else s) s
  let s := s.askerRes r.asker r.mats status r.slot
  let failing := (r.mats.find? (fun m => !isQuiet m)).map s.physMat
  s.reportSwap g r.slot r.trigger r.ref r.retries r.no status 0 0xFFFF
    (match bad, failing with
      | some q, _ => some q
      | none, some q => some q
      | none, none => (r.mats.head?).map s.physMat)

/-- The lead abandons the swap in every device (R149). -/
def State.leadAbandon (s : State) (g : Nat) (r : SwapRun) (status : Nat) (quiet : List (Nat × Nat))
    (bad : Option Nat) : State :=
  let s := r.strobed.foldl (fun s k => s.sendTether k 4 (g + status * 256)) s
  s.abandonGroup g r status quiet bad

/-- A swap in progress ends without flip; a follower reports it to its lead (R91, R149, R442).  `quiet`: the members
that are reported quiescent, where the occasion comes with a report. -/
def State.abandonSwap (s : State) (g status : Nat) (quiet : Option (List (Nat × Nat))) (bad : Option Nat) : State :=
  match (s.group g).run with
  | none => s
  | some r =>
    let s := match r.lead with
      | some k => s.sendTether k 2 (g + status * 256)
      | none => s
    s.leadAbandon g r status (quiet.getD (s.quietNow r)) bad

/-- The lead flips once its own members are quiet and every follower has reported QUIET (R149). -/
def State.leadFlips (s : State) (g : Nat) : State :=
  match (s.group g).run with
  | none => s
  | some r =>
    match r.quiet with
    | some quiet =>
      if r.lead.isSome ∨ r.awaiting ≠ [] then s
      else
        let s := r.strobed.foldl (fun s k => s.sendTether k 3 g) s
        let s := { s with ctx := { s.ctx with acks := s.ctx.acks ++ r.strobed.map (fun k => (k, g, r.slot)) } }
        s.flipGroup g r quiet
    | none => s

/-- After the swap of a group has ended, a boundary that waited for it goes on (R147). -/
def State.afterSwap (s : State) (b : Option Nat) : State :=
  match b with
  | some p => s.boundaryGoesOn p
  | none => s

/-- Boundary that the swap in progress of a group belongs to. -/
def State.runBoundary (s : State) (g : Nat) : Option Nat :=
  match (s.group g).run with
  | some r => r.boundary
  | none => none

/-! ### Phase schedules at a boundary (R145 to R148) -/

/-- A pending schedule takes the place of the one in force at the start of its period FIRST. -/
def State.adoptSchedule (s : State) (p g n : Nat) : State :=
  let x := s.group g
  match x.pending with
  | none => s
  | some (first, r, c) =>
    if r ≠ p ∨ n < first.toNat then s
    else match c with
      | some c => s.setGroup g { x with sched := some { c with run := max c.run n }, pending := none }
      | none => (s.setGroup g { x with sched := none, pending := none }).refuseWhen2 g

/-- Phases that fall in period n: from the first one, or for ONCE the phase of its turn. -/
def State.armPhases (s : State) (p g n : Nat) : State :=
  let x := s.group g
  match x.sched with
  | none => s
  | some c =>
    if c.pacer ≠ p then s
    else
      let due := if c.every then (if c.first.toNat ≤ n then 0 else c.phases.length)
        else (if c.run = n then c.idx else c.phases.length)
      s.setGroup g { x with sched := some { c with due := due } }

/-- The phase that falls next, with its slot and offset. -/
def Sched.next (c : Sched) : Option (Nat × Nat) := c.phases[c.due]?

/-- The next phase of a group's schedule falls: the schedule moves on and the pacer triggers a swap. -/
def State.firePhase (s : State) (g : Nat) (boundary : Option Nat) : State :=
  let x := s.group g
  match x.sched with
  | none => s
  | some c => match c.next with
    | none => s
    | some (slot, _) =>
      let s := s.setGroup g { x with sched := some { c with
        due := if c.every then c.due + 1 else c.phases.length } }
      s.trigger g { swapReq slot 1 none (if c.every then 0xFF else c.left) boundary with tether := x.tetherFlag, no := c.no }

/-- Step 2 of R147: phases at offset 0 and the timed swaps of the period that begins (R134). -/
def State.boundarySwaps (s : State) (p n : Nat) : State :=
  (upto 64).foldl (fun s g =>
    let s := (s.adoptSchedule p g n).armPhases p g n
    let x := s.group g
    let zero : Bool := match x.sched with
      | some c => decide (c.pacer = p) && (match c.next with
        | some (_, off) => decide (off = 0)
        | none => false)
      | none => false
    let mine := decide (x.schedPacer = some p)
    let due := x.timed.filter (fun r => decide (r.when_ = 2) && mine && decide (r.at_.toNat ≤ n))
    let s := if zero then s.firePhase g (some p) else s
    let s := s.setGroup g { s.group g with timed := (s.group g).timed.filter (fun r => decide (r ∉ due)) }
    due.foldl (fun s r => s.trigger g { r with when_ := 0, boundary := some p }) s) s

/-- The PACER_SET is no longer pending. -/
def State.dropOp (s : State) (p : Nat) (o : PaceOp) : State :=
  s.updPacer p (fun x => { x with ops := x.ops.erase o })

/-- Commands that take effect at the boundary of period n; true when the pacer has stopped. -/
def State.boundaryOps (s : State) (p n : Nat) (b : Word) : List PaceOp → State × Bool
  | [] => (s, false)
  | o :: l =>
    if o.op = 1 then ((s.dropOp p o).finish o.ref stOK (BitVec.ofNat 64 (n % 2 ^ 32))).boundaryOps p n b l
    else if n ≤ o.at_.toNat then s.boundaryOps p n b l
    else if o.op = 0 then (((s.dropOp p o).finish o.ref stOK 0).stopPacer p, true)
    else (((s.dropOp p o).changePacer p o b).finish o.ref stOK 0).boundaryOps p n b l

/-- Bank selections that wait for the boundary of period n (R240). -/
def State.boundaryBanks (s : State) (p n : Nat) : State :=
  let due := s.tal.bankOps.filter (fun o => decide (o.pacer = p) && decide (o.at_.toNat ≤ n))
  let s := { s with tal := { s.tal with bankOps := s.tal.bankOps.filter (fun o => decide (o ∉ due)) } }
  due.foldl (fun s o => (s.set (TAL_TRK_CFG_BANK o.track) o.bank).finish o.ref stOK 0) s

/-- What waited for the boundary of the present period takes effect: PACER_SET, REGION_BIND, bank selections.  A
change of the period moves the next boundary (R170, R174, R240). -/
def State.boundaryActs (s : State) (p : Nat) : State :=
  let n := (s.paceNum p).toNat
  let b := s.paceStart p
  let s := s.updPacer p (fun x => { x with actsDue := false })
  match s.boundaryOps p n b (s.pacer p).ops with
  | (s, true) => s
  | (s, false) =>
    let binds := (s.pacer p).binds
    let next := b + BitVec.ofNat 64 (s.get (PACE_PERIOD_PERIOD_NS p))
    let s := s.updPacer p (fun x => { x with binds := [], next := next })
    let s := binds.foldl (fun s o => s.applyBind p o) s
    (s.updPacer p (fun x => { x with first := false })).boundaryBanks p n

/-- A held boundary runs on as far as it can: once the restore or the cut has ended, what waited for it, its swaps,
then step 3 of R147 (R182, R457 step 8). -/
def State.resumeBoundary (s : State) (p : Nat) : State :=
  let x := s.pacer p
  if x.boundaryHeld = false ∨ x.flushing ∨ s.cutAwaits p then s
  else
    let s := if x.actsDue then s.boundaryActs p else s
    if s.paceState p = 0 then s
    else
      let s := if (s.pacer p).swapsDue then
          (s.updPacer p (fun x => { x with swapsDue := false })).boundarySwaps p (s.paceNum p).toNat
        else s
      s.boundaryGoesOn p

end Sys2Proof.Machine
end

