-- ==== Sys2Proof/Machine/LoadOps.lean ====
section
/-! DEFINITION.  Slot loads and crosier regions as data: their starts, their tests, their writes and their
ends (R127 to R129, R152 to R158). -/

namespace Sys2Proof.Machine

open Sys2Proof

/-! ### Failed writes (R99, R161) -/

/-- SLOT_LOAD_FAIL of a slot: kind 0 load, 1 crosier, 2 AX frame port. -/
def State.loadFailed (s : State) (q k entry kind : Nat) : State :=
  s.raiseSt 0x8403 (srcMat q (8 + k)) stHW_FAULT [(18, 1, stHW_FAULT), (19, 1, entry), (20, 1, kind)]

/-- After a second check code mismatch the column agent sounds the mat's configuration groups ahead of
the regular order (R99): groups with USE 2 on the interfaces between L4 and the mat's layer (R96). -/
def State.soundConfig (s : State) (q : Nat) : State :=
  (upto 4).foldl (fun s i =>
    if matLayer q ≤ i then
      (upto 56).foldl (fun s g => if groupUse (matCol q) i g = 2 then s.setAhead (matCol q) i g 4 else s) s
    else s) s

/-- The rhizoids that the sounding after a mismatch finds failed (R99). -/
def State.configFails (s : State) (q : Nat) : List (Fin 4 × Fin 56 × Fin 66) → State
  | [] => s
  | (i, g, x) :: l =>
    (if groupUse (matCol q) i.val g.val = 2 ∧ x.val ∉ (s.rhz (matCol q) i.val g.val).failed then
        s.failRhizoid (matCol q) i.val g.val x.val 4 (s.dependents (matCol q) i.val g.val)
      else s).configFails q l

/-! ### CTX_LOAD (R127 to R129) -/

def State.setLoads (s : State) (l : List LoadRun) : State := { s with ctx := { s.ctx with loads := l } }

/-- Replace or drop a load of the list by its command. -/
def State.putLoad (s : State) (r : LoadRun) : State :=
  s.setLoads (s.ctx.loads.map (fun x => if x.ref = r.ref then r else x))

/-- Named mats whose slot is READY or WAIT_FLOOR. -/
def State.loadedMats (s : State) (r : LoadRun) : List Nat :=
  r.mats.filter (fun m =>
    let st := s.slotState (s.physMat m) r.slot
    decide (st = slREADY ∨ st = slWAIT_FLOOR))

/-- Some written slot still waits for its floor. -/
def State.loadWaits (s : State) (r : LoadRun) : Bool :=
  r.mats.any (fun m => decide (m ∉ r.failed) && decide (s.slotState (s.physMat m) r.slot = slWAIT_FLOOR))

/-- The command of a load completes (R129). -/
def State.endLoad (s : State) (r : LoadRun) : State :=
  let st := if r.failed ≠ [] then stHW_FAULT else if s.loadWaits r then stTIMEOUT else stOK
  (s.setLoads (s.ctx.loads.filter (fun x => decide (x.ref ≠ r.ref)))).finish r.ref st
    (BitVec.ofNat 64 (s.loadedMats r).length)

/-- A load whose writes have ended and whose slots wait for no floor completes (R129). -/
def State.checkLoads (s : State) : State :=
  s.ctx.loads.foldl (fun s r =>
    if r.held ∨ r.writing ≠ [] ∨ s.loadWaits r then s else s.endLoad r) s

/-- Steps 1 and 2 of R127 in one mat; a context that needs a use out of service ends the load with
HW_FAULT (R102). True: the write runs. -/
def State.beginLoad (s : State) (m k e : Nat) : State × Bool :=
  let q := s.physMat m
  let x := s.entry q e
  if s.needsOut q x.ctx then ((s.emptySlot q k).loadFailed q k e 0, false)
  else ((s.setSlotState q k slLOADING).writeSlot q k (entryWrite x e false), true)

/-- Begin the loads of a command in every named mat. -/
def State.beginLoads (s : State) (r : LoadRun) : List Nat → State × LoadRun
  | [] => (s, r)
  | m :: l =>
    match s.beginLoad m r.slot r.entry with
    | (s, true) => s.beginLoads { r with writing := r.writing ++ [m] } l
    | (s, false) => s.beginLoads { r with failed := r.failed ++ [m] } l

/-- Status of the first named mat that fails its test. -/
def State.loadStatus (s : State) (r : LoadRun) : Nat :=
  match r.mats.find? (fun m => decide (s.loadTest r.mats m r.slot r.entry ≠ stOK)) with
  | some m => s.loadTest r.mats m r.slot r.entry
  | none => stOK

/-- Begin a load that no relocation holds up: test every mat, then load all (R129). -/
def State.startLoad (s : State) (r : LoadRun) : State :=
  let st := s.loadStatus r
  let s := s.setLoads (s.ctx.loads.filter (fun x => decide (x.ref ≠ r.ref)))
  if st ≠ stOK then s.finish r.ref st 0
  else
    match s.beginLoads { r with held := false } r.mats with
    | (s, r) => (s.setLoads (s.ctx.loads ++ [r])).checkLoads

/-- Some named mat is locked by a relocation. -/
def State.loadBlocked (s : State) (r : LoadRun) : Bool := r.mats.any (fun m => s.relocLocked (s.physMat m))

/-- Loads that waited for a relocation begin once it has ended, in the mats that now serve the named
ones (R129, R473). -/
def State.resumeLoads (s : State) : State :=
  s.ctx.loads.foldl (fun s r => if r.held ∧ s.loadBlocked r = false then s.startLoad r else s) s

/-- Slots that wait for a floor which the reported VDD_F has reached become READY (R127 step 4′). -/
def State.floorsReached (s : State) : State :=
  let s := s.ctx.slots.foldl (fun s e =>
    let q := e.1 / 4
    let k := e.1 % 4
    let f := s.get (COL_CTX_SRC_FLOOR (matCol q) (matG q) k)
    if s.slotState q k = slWAIT_FLOOR ∧ floorMv f ≤ s.vddF then
      (s.setSlotState q k slREADY).raise 0x0402 (srcMat q (8 + k)) [(18, 1, f), (19, 2, s.vddF)]
    else s) s
  s.checkLoads

/-! ### AX streams as contexts (R157) -/

/-- A frond word from eight words of a stream, the first lowest. -/
def axFrondWord : List (BitVec 32) → BitVec 256
  | [] => 0
  | w :: ws => w.setWidth 256 ||| (axFrondWord ws <<< 32)

/-- Frames of a stream as (logical mat, frond, frond word), in order, from its words after COUNT. -/
def axFrames : Nat → List (BitVec 32) → List (Nat × Nat × BitVec 256)
  | 0, _ => []
  | n + 1, ws =>
    match ws with
    | [] => []
    | a :: ws =>
      let m := bitsAt a.toNat 0 10
      let first := 16 * bitsAt a.toNat 10 6 + 8 * bitsAt a.toNat 16 1
      (upto 8).map (fun i => (m, first + i, axFrondWord ((ws.drop (8 * i)).take 8))) ++ axFrames n (ws.drop 64)

/-- A context with the frond words that a stream names for a logical mat; the others stay (R158 step 4). -/
def axPatch (frames : List (Nat × Nat × BitVec 256)) (m : Nat) (c : Ctx) : Ctx :=
  { words := frames.foldl (fun t f => if f.1 = m then Tab.put idleWord t f.2.1 f.2.2 else t) c.words }

/-- Frames of the stream that an instance has staged. -/
def State.axStreamFrames (s : State) (n : Nat) : List (Nat × Nat × BitVec 256) :=
  let ws := (Tab.get ax0 s.ctx.ax n).words
  axFrames ((ws.length - 18) / 65) (ws.drop 2)

/-- The instance returns a status on its status channel and is ready for the next stream (R158 step 5). -/
def State.axReturn (s : State) (n status : Nat) : State :=
  let x := Tab.get ax0 s.ctx.ax n
  let s := { s with ctx := { s.ctx with ax := Tab.put ax0 s.ctx.ax n { x with words := [], rejecting := false } } }
  let s := (s.set (CFG_AX_STATUS_STATE n) 0).set (CFG_AX_STATUS_LAST_STATUS n) status
  s.emit (.token (s.physMat x.hostMat) (.ax n) status)

/-- A stream is rejected: nothing is written, AX_REJECTED, the status is returned (R159). -/
def State.axReject (s : State) (n status : Nat) : State :=
  let w := s.get (CFG_AX_WORDS_WORDS n)
  (s.raise 0x8406 srcConfig [(18, 1, n), (19, 1, status), (20, 4, w)]).axReturn n status

/-! ### Crosier regions (R152 to R154) -/

def State.setCrosiers (s : State) (l : List Crosier) : State := { s with ctx := { s.ctx with crosiers := l } }

/-- The region without the one that shares its mats. -/
def State.dropCrosier (s : State) (c : Crosier) : State :=
  s.setCrosiers (s.ctx.crosiers.filter (fun x => decide (x.mats ≠ c.mats)))

def State.putCrosier (s : State) (c : Crosier) : State :=
  s.setCrosiers (s.ctx.crosiers.map (fun x => if x.mats = c.mats then c else x))

/-- The command or the stream of a crosier load ends with a status. -/
def State.crosierStatus (s : State) (c : Crosier) (status : Nat) : State :=
  let s := s.finishRef c.ref status 0
  match c.inst with
  | some n => s.axReturn n status
  | none => s

/-- A crosier load of a mat needs a use that is out of service (R102): of the entry, or for a stream the mat's
configuration path and its column's control rhizoids. -/
def State.crosierOut (s : State) (entry : Option Nat) (m : Nat) : Bool :=
  let q := s.physMat m
  match entry with
  | some e => s.needsOut q (s.entry q e).ctx
  | none => s.useOut q 1 || s.useOut q 2

/-- Condition of step 1: BUSY for a mat that swaps, relocates or lies in another region that has not ended; REFUSED for
an entry that is not VALID; HW_FAULT for a use out of service (R102). A region left in crosier state may be loaded
again as a whole (R153).  Where several apply, BUSY goes before REFUSED, and both before HW_FAULT: R155 gives no order
(DESIGN CHOICE, log entry 67). -/
def State.crosierTest (s : State) (mats : List Nat) (entry : Option Nat) : Nat :=
  if mats.any (fun m => (s.swapOf m).isSome || s.relocLocked (s.physMat m) || (match s.crosierOf m with
      | some c => decide (c.stage < 2) || decide (c.mats ≠ mats)
      | none => false)) then stBUSY
  else if (match entry with
    | some e => mats.any (fun m => !s.entryValid (s.physMat m) e)
    | none => false) then stREFUSED
  else if mats.any (s.crosierOut entry) then stHW_FAULT
  else stOK

/-- SLOT_LOAD_FAIL of each mat whose crosier load cannot be written (R102, R161). -/
def State.crosierBarred (s : State) (mats : List Nat) (entry : Option Nat) : State :=
  (mats.filter (s.crosierOut entry)).foldl (fun s m =>
    let q := s.physMat m
    let k := s.activeSlot q
    s.loadFailed q k (entry.getD (s.get (COL_CTX_SRC_ENTRY (matCol q) (matG q) k))) (if entry.isSome then 1 else 2)) s

/-- Step 1: CROSIER_ENTERED per mat, inputs withdrawn at the border, the border policy of the gate record
active at entry (R141, R152). -/
def State.crosierEnter (s : State) (mats : List Nat) (entry inst : Option Nat) (ref : Option CmdRef) : State :=
  let again := s.ctx.crosiers.find? (fun c => decide (c.mats = mats))
  let s := mats.foldl (fun s m =>
    let s := s.raise 0x0404 (srcMat (s.physMat m) 0)
      [(18, 1, b2n inst.isSome), (19, 1, inst.getD 0xFF)]
    if again.isSome then s else s.holdPins m (s.activeSlot (s.physMat m))) s
  let latched := match again with
    | some c => c.latched
    | none => mats.map (fun m => (m, s.slot (s.physMat m) (s.activeSlot (s.physMat m))))
  let back := match again with
    | some c => c.back
    | none => []
  let c : Crosier := { mats := mats, entry := entry, inst := inst, ref := ref, stage := 0,
                       enteredAt := s.time, limit := s.swapTimeout (s.leadCol mats),
                       latched := latched, back := back }
  s.setCrosiers (s.ctx.crosiers.filter (fun x => decide (x.mats ≠ mats)) ++ [c])

/-- What step 3 writes into the active slot of a mat: the entry, or the slot's own context with the
stream's frames (R158). -/
def State.crosierWrite (s : State) (c : Crosier) (m : Nat) : State × SlotWrite :=
  let q := s.physMat m
  let k := s.activeSlot q
  match c.entry, c.inst with
  | some e, _ => (s, entryWrite (s.entry q e) e true)
  | none, some n =>
    let x := s.slot q k
    match s.fresh with
    | (v, s) => (s, { ctx := axPatch (s.axStreamFrames n) m x.ctx, check := v, laneHold := x.laneHold,
                      charter := x.charter, entry := s.get (COL_CTX_SRC_ENTRY (matCol q) (matG q) k),
                      crosier := true, ax := true })
  | none, none => (s, entryWrite (lib0 0) 0 true)

/-- Steps 2 and 3 in one mat: its holds held NULL, its responses discarded, its active slot written; register-channel
accesses complete without the design (R79). -/
def State.crosierDrain (s : State) (c : Crosier) (ns : Nat) (m : Nat) : State :=
  let q := s.physMat m
  let k := s.activeSlot q
  let s := (s.holdNull q).dropResponses q
  let s := (((s.setFlag (gCROSIER q) true).setSlotState q k slCROSIER).dropWindow q).serveHeld q
  let s := s.set (COL_CTX_QUIETNS_TIME (matCol q) (matG q)) (satBits 32 ns)
  match s.crosierWrite c m with
  | (s, w) => s.writeSlot q k w

/-- The region stays in crosier state (R153). -/
def State.crosierStays (s : State) (c : Crosier) (status : Nat) : State :=
  (s.putCrosier { c with stage := 2 }).crosierStatus c status

/-- Step 5 in one mat: first-activation codes in holds and shadow, the new gate record in force, pins
handed over; a deferred LATE restore takes place (R154).  In a region that still flushes, the mat stays held NULL. -/
def State.crosierFree (s : State) (c : Crosier) (m : Nat) : State :=
  let q := s.physMat m
  let k := s.activeSlot q
  let s := s.setSlot q k { s.slot q k with activated := true }
  let s := (s.setFlag (gCROSIER q) false).setSlotState q k slACTIVE
  let s := match c.back.find? (fun e => decide (e.1 = m)) with
    | some e => (s.holdsBack q).selectSlot q e.2
    | none => s
  let s := s.setFab q (fabOf (s.holds q) [])
  let flushes := match s.regionOf m with
    | some p => (s.pacer p).flushing
    | none => false
  let s := (s.setHeld q flushes).setRunning q
  let s := (s.freePins m).clocksAfterFlip q
  s.raise 0x0405 (srcMat q 0) [(18, 4, satBits 32 (s.time - c.enteredAt).toNat)]

/-- Step 5: the whole region is released. -/
def State.crosierRelease (s : State) (c : Crosier) : State :=
  let s := c.mats.foldl (fun s m => s.crosierFree c m) s
  let s := c.mats.foldl (fun s m => s.serveHeld (s.physMat m)) (s.dropCrosier c)
  let s := s.crosierStatus c stOK
  c.mats.foldl (fun s m => match s.regionOf m with
    | some p => s.checkDone p
    | none => s) s

end Sys2Proof.Machine
end

