-- ==== Sys2Proof/Machine/FabricRows.lean ====
section
/-! DEFINITION.  The fabric's commands: illegal codes, disabled channels, clocked holds, MAC tiles and
tokens drained at a border (R60, R80, R86, R89 to R92, R142, R184). -/

namespace Sys2Proof.Machine

open Sys2Proof

/-! ### Illegal codes (R89 to R91) -/

/-- A mat's swap in progress is abandoned with HW_FAULT in every mat of the group (R91). -/
def State.failSwapOf (s : State) (p : Nat) : State :=
  match s.groupOf (s.logMat p) with
  | some g =>
    let b := s.runBoundary g
    (s.abandonSwap g stHW_FAULT none (some p)).afterSwap b
  | none => s

/-- Source sub-unit of ILLEGAL_CODE by WHERE (R89). -/
def illegalSub (where_ : Nat) : Nat :=
  match where_ with
  | 0 => 1
  | 2 => 2
  | 3 => 6
  | _ => 0

/-- An illegal code at a place of a mat (R89 to R91): the place is recorded, counted and reported, and its element does
not advance; inside the mat a relocation is requested, on an inbound channel the channel is disabled; a swap of the
mat's group is abandoned. -/
def State.illegalAt (s : State) (m where_ index : Nat) : State :=
  let c := matCol m
  let g := matG m
  let slot := s.activeSlot m
  let x := s.fab m
  let s := s.setFab m { x with bad := if (where_, index) ∈ x.bad then x.bad else x.bad ++ [(where_, index)] }
  let s := (s.setFlag (gILLEGAL m) true).wr (COL_GATE_ILLEGAL c g)
    (BitVec.ofNat 32 (where_ + index * 16 + slot * 16384))
  let s := s.count (COL_GATE_ILLEGALS c g) (COL_GATE_SAT_ILLEGALS c g) 1
  let s := s.reportFault (matLayer m) c (if where_ = 1 then .channel g (index % 64) else .mat g) 0x8201
    (srcMat m (illegalSub where_)) [(18, 1, where_), (19, 1, slot), (20, 2, index)]
  let s := if where_ = 1 then s.setFlag (chDisFld m (index % 64)) true else s.wantReloc m
  s.failSwapOf m

/-- ILLEGAL_CODE (R89 to R91). -/
def execIllegalCode (mat : MatId) (where_ : Fin 5) (index : BitVec 10) (s : State) :
    Host.Outcome State Fault Refusal :=
  .next (s.illegalAt mat.val where_.val index.toNat)

/-- CHANNEL_RETEST (R90, R91): the sounding pattern on every wire set that carries a disabled channel; `failed`: those
that it fails on, by gate, side and lane, and span.  When it passes on all, relocation of the mat whose channel it is,
is requested; else that of the receiving mat, over other wire sets. -/
def execChannelRetest (mat : MatId) (channel : Fin 64) (failed : List (MatId × Fin 64 × Fin 4)) (s : State) :
    Host.Outcome State Fault Refusal :=
  let m := mat.val
  let h := channel.val
  let f := chDisFld m h
  let sets := s.channelSets m h
  let bad := (failed.map (fun w => (w.1.val, w.2.1.val, w.2.2.val))).filter (fun w => decide (w ∈ sets))
  .next (
    if s.flag f = false then s
    else if bad = [] then
      let x := s.fab m
      let origin := (s.sender m h).map Prod.fst
      let s := s.setFab m { x with bad := x.bad.filter (fun e => decide (e ≠ (1, h))) }
      let s := ((s.setFlag f false).setFlag (gILLEGAL m) false).closeFault (matLayer m) (matCol m) (.channel (matG m) h)
      match origin with
      | some q => s.wantReloc q
      | none => s
    else
      let t := bad.foldl (fun t w => Tab.put bool0 t ((w.1 * 64 + w.2.1) * 4 + w.2.2) true) s.col.badWires
      ({ s with col := { s.col with badWires := t } } : State).wantReloc m)

/-! ### CLOCKED holds (R60, R86) -/

/-- A CLOCKED hold meets NULL at an edge: counted at each such edge, an event for the first in each 1 ms interval. -/
def State.clockedNull (s : State) (m frond : Nat) : State :=
  (s.count (COL_GATE_CLKNULLS (matCol m) (matG m)) (COL_GATE_SAT_CLKNULLS (matCol m) (matG m)) 1).raiseLim
    0x4202 (srcMat m 0) [(18, 2, frond), (20, 1, s.activeSlot m)]

/-- A regional tree's output runs: it is not stopped, and no switch holds it low (R262 to R264). -/
def State.treeRuns (s : State) (n : Nat) : Bool :=
  !s.flag (CLK_TREE_STATUS_STOPPED n) && !Tab.get bool0 s.clk.released n

/-- A mat's CLOCKED holds capture at the edges of its own tree's clock: its design runs, its holds are not stopped, and
the tree's clock runs (R60, R83, R86). -/
def State.clocksRun (s : State) (m : Nat) : Bool :=
  s.fabRuns m && !s.flag (gCLK_HELD m) && s.treeRuns (matTree m)

/-- CLOCKED_NULL (R60): it is an edge of a CLOCKED frond of the active context. -/
def execClockedNull (mat : MatId) (frond : Fin 1024) (s : State) : Host.Outcome State Fault Refusal :=
  let m := mat.val
  .next (if fwMODE ((s.activeCtx m).word frond.val) = 5 ∧ s.clocksRun m then s.clockedNull m frond.val else s)

/-- Mats with a CLOCKED frond in the active slot: only a slot that holds a context has one. -/
def State.clockedMats (s : State) : List Nat :=
  (s.ctx.slots.filter (fun e =>
    decide (s.activeSlot (e.1 / 4) = e.1 % 4) && e.2.ctx.clocked)).map (fun e => e.1 / 4)

/-- CLOCK_HELD (R86): VDD_F is measured below the greatest floor; every gate with a CLOCKED frond in its
active slot stops its mat's CLOCKED holds. -/
def execClockHeld (mv : BitVec 16) (s : State) : Host.Outcome State Fault Refusal :=
  .next (
    if floorMv s.greatestFloor ≤ mv.toNat then s
    else
      let s := { s with pow := { s.pow with mv := Tab.put nat0 s.pow.mv 0 mv.toNat } }
      let s := { s with ctx := { s.ctx with clkStopped := true } }
      s.clockedMats.foldl (fun s m => if s.flag (gCLK_HELD m) then s else s.holdClocks m) s)

/-- CLOCK_RELEASED (R86, R410): VDD_F has recovered, to 20 mV above the greatest floor; the holds resume at the next
full edge. -/
def execClockReleased (mv : BitVec 16) (s : State) : Host.Outcome State Fault Refusal :=
  .next (
    if s.ctx.clkStopped = false ∨ mv.toNat < floorMv s.greatestFloor + 20 then s
    else
      let s := { s with pow := { s.pow with mv := Tab.put nat0 s.pow.mv 0 mv.toNat } }
      let s := { s with ctx := { s.ctx with clkStopped := false } }
      (upto 512).foldl (fun s m => if s.flag (gCLK_HELD m) then s.releaseClocks m else s) s)

/-! ### MAC tiles (R80 to R82) -/

/-- Replace an element of a list. -/
def putAt {α : Type} : List α → Nat → α → List α
  | [], _, _ => []
  | _ :: l, 0, x => x :: l
  | y :: l, n + 1, x => y :: putAt l n x

/-- A tile takes an input: its mat's design runs, its last result has been acknowledged, and its acknowledge of the
input before is down again (R47, R81). -/
def State.tileFree (s : State) (m tile : Nat) : Bool :=
  s.fabRuns m && decide (Tab.get none0 (s.holds m).res tile = none) && !Tab.get bool0 (s.fab m).ackUp tile

/-- MAC_OPERATION (R80, R81): the accumulator, the result token with OVF, and the overflow counter; the tile
acknowledges its input.  `input` is what stands on the tile's inputs, complete. -/
def execMacOperation (mat : MatId) (tile : Fin 8) (input : BitVec 122) (s : State) :
    Host.Outcome State Fault Refusal :=
  let m := mat.val
  let k := s.activeSlot m
  .next (
    if s.tileFree m tile.val = false then s
    else
      let x := s.slot m k
      match (match x.holds.acc[tile.val]? with
        | some a => (a, s)
        | none => s.fresh) with
      | (a, s) =>
        let o := macOp input a
        let bits : BitVec 65 := BitVec.ofNat 65 (o.result.toNat + b2n o.ovf * 2 ^ 64)
        let h := { x.holds with acc := putAt x.holds.acc tile.val o.acc,
                                res := Tab.put none0 x.holds.res tile.val (some bits) }
        let s := s.setSlot m k { x with holds := h }
        let s := s.setFab m { s.fab m with ackUp := Tab.put bool0 (s.fab m).ackUp tile.val true }
        let s := s.count (COL_GATE_OVFS (matCol m) (matG m)) (COL_GATE_SAT_OVFS (matCol m) (matG m)) (b2n o.ovf)
        s.emit (.token m (.mac tile.val) bits.toNat))

/-! ### Tokens at a border under policy (R141 to R143, R184) -/

/-- A token of an inbound channel meets a DRAIN policy: the channel crosses the region's border, is received and not
disabled. -/
def State.drainsChannel (s : State) (m h : Nat) : Bool :=
  match s.policyAt m, s.sender m h with
  | some p, some (r, _) =>
    s.withdrawn m (some r) && decide (p.slot.ctx.inSpan h ≠ 0) && !p.slot.ctx.inHold h && !s.flag (chDisFld m h)
  | _, _ => false

/-- A token of a trunk lane meets a DRAIN policy: the far end drives the lane, which is in service and crosses the
region's border. -/
def State.drainsLane (s : State) (m lane : Nat) : Bool :=
  match s.policyAt m with
  | some p =>
    let o := matOf (matCol m) (1 - matG m)
    s.withdrawn m (some o) && s.drivesNow o lane && decide (lane ∉ p.slot.laneHold) &&
      !s.flag (laneDis (matCol m) lane) && !s.laneOut (matCol m) lane
  | none => false

/-- DRAIN_TOKEN (R142, R143): at an inbound channel or lane under DRAIN the gate acknowledges the token,
discards it and counts it; under HOLD it waits, and where no policy applies the design takes it. -/
def execDrainToken (mat : MatId) (lane : Bool) (wire : Fin 256) (s : State) :
    Host.Outcome State Fault Refusal :=
  let m := mat.val
  let counted (s : State) : State := s.count (COL_CTX_DRAINED (matCol m) (matG m)) (COL_CTX_SAT_DRAINED (matCol m) (matG m)) 1
  .next (
    if lane then
      if s.drainsLane m wire.val then counted (s.setLaneBuf (matOf (matCol m) (1 - matG m)) wire.val 0) else s
    else if wire.val < 64 ∧ s.drainsChannel m wire.val then
      counted (s.setFab m { s.fab m with gateAck := Tab.put bool0 (s.fab m).gateAck wire.val true })
    else s)

end Sys2Proof.Machine
end

