-- ==== Sys2Proof/Machine/Queues.lean ====
section
/-! DEFINITION.  The commands of the queue engines (spec/06_queues.md): pushes and pops of every kind of
end, QUE_DATA and QUE_COUNT.PKT accesses, and the three host commands. -/

namespace Sys2Proof.Machine

open Sys2Proof

/-- The end accepts this producer or consumer: the kind, and for a ring, port or lane the binding that
names the queue (R200, R216). -/
def State.endMatches (s : State) (q : Nat) (rx : Bool) (e : QEnd) : Bool :=
  match s.queue q with
  | none => false
  | some x =>
    decide ((if rx then x.prod else x.cons) = endKind e) &&
    (match e with
      | .ring n => decide (x.ring = some n.val)
      | .port p => if rx then s.flag (FP_QUEUES_RX_EN p.val) && decide (s.get (FP_QUEUES_RXQ p.val) = q)
          else s.flag (FP_QUEUES_TX_EN p.val) && decide (s.get (FP_QUEUES_TXQ p.val) = q)
      | .lane l => if rx then s.flag (XL_QUEUES_RX_EN l.val) && decide (s.get (XL_QUEUES_RXQ l.val) = q)
          else s.flag (XL_QUEUES_TX_EN l.val) && decide (s.get (XL_QUEUES_TXQ l.val) = q)
      | _ => true)

/-- Physical mat of a queue's end in the engine's column (R200). -/
def State.endMat (s : State) (q g : Nat) : Nat := matOf (bankCol (s.engineBank q)) g

/-- A mat's push token is acknowledged (R201). -/
def State.ackPush (s : State) (q : Nat) (e : QEnd) : State :=
  match e with
  | .mat g => s.emit (.token (s.endMat q g.val) (.pushAck q) 0)
  | _ => s

/-- A push: the word is written and acknowledged; where the two pointer copies differ at the update the
queue is reset instead (R211); a full queue leaves it waiting (R204).  The rules do not say what becomes of the word
whose push meets the mismatch: here it is acknowledged and lost with the queue's contents, and a START that it carries
opens no packet (DESIGN CHOICE, log entry 69). -/
def State.pushFrom (s : State) (q : Nat) (e : QEnd) (w : Word) (start last mismatch : Bool) : State :=
  if s.endMatches q true e = false then s.ackPush q e
  else if s.canPush q start = false then s
  else if mismatch then (s.queueFault q 0).ackPush q e
  else (s.pushItem q w start last).ackPush q e

/-- A mat that is held NULL presents no push token (R59). -/
def State.endPushes (s : State) (q : Nat) : QEnd → Bool
  | .mat g => !s.heldNull (s.endMat q g.val)
  | _ => true

/-- QUEUE_PUSH (R199, R201, R204, R207 to R211). -/
def execQueuePush (queue : QueueId) (src : QEnd) (item : Word) (start last mismatch : Bool) (s : State) :
    Host.Outcome State Fault Refusal :=
  .next (if s.endPushes queue.val src = false then s else s.pushFrom queue.val src item start last mismatch)

/-- What a pop delivers (R201). -/
structure Popped where
  item : Word
  isLen : Bool
  uncorr : Bool
  epoch : Nat
  deriving DecidableEq, Repr

/-- Pop the item at R: an uncorrectable length word resets the queue, an uncorrectable data item is
delivered as read (R206, R213). -/
def State.popItem (s : State) (q : Nat) (ecc : Ecc) : State × Option Popped :=
  match s.queue q with
  | none => (s, none)
  | some x =>
    if x.ready = false then (s, none)
    else
      let b := s.engineBank q
      let w := x.pos x.r
      let isLen := x.headIsLength
      match s.readBank b w ecc 2 with
      | (s', v, bad) =>
        -- a second uncorrectable error may have retired the bank and reset the queue
        if (s'.queue q).map Queue.r ≠ some x.r ∨ (s'.queue q).map Queue.pw ≠ some x.pw then (s', none)
        else if bad ∧ isLen then (s'.queueFault q 1, none)
        else
          let ep := (s'.epochOf q).toNat
          let left := if x.packet then (if isLen then bitsAt v.toNat 0 16 else x.left - 1) else 0
          let s' := s'.setQueue q (some { x with r := x.adv x.r 1, left := left,
                                                 ue := x.ue || (bad && decide (2 < x.cons)) })
          let s' := if bad then
              s'.raiseLim 0x4602 (srcQueueEngine (bankCol b) (bankIdx b))
                [(18, 2, q), (20, 2, w), (22, 1, x.cons)]
            else s'
          (s', some { item := v, isLen := isLen, uncorr := bad, epoch := ep })

/-- The 70 bits of a pop token (R201). -/
def popToken (p : Popped) : Nat :=
  p.item.toNat + b2n p.isLen * 2 ^ 64 + b2n p.uncorr * 2 ^ 65 + p.epoch * 2 ^ 66

/-- A control core is held in core reset: its end of every queue refuses traffic (R214, R272). -/
def State.reqHeld (s : State) (r : Requester) : Bool :=
  match reqCore r with
  | some n => (Tab.get core0 s.core.cores n).inReset
  | none => false

/-- A core end pops: the debug port only with DBG_ACCESS.SIDE 1, a control core only while it is not in core reset
(R202, R214). -/
def State.endPops (s : State) : QEnd → Bool
  | .core .debug => s.flag DBG_ACCESS_SIDE
  | .core r => !s.reqHeld r
  | _ => true

/-- QUEUE_POP by a mat or another consumer end (R199, R201, R204, R206, R211 to R213).  Rings, field ports
and lanes pop in their own rows; here the item leaves to the end. -/
def execQueuePop (queue : QueueId) (dst : QEnd) (ecc : Ecc) (mismatch : Bool) (s : State) :
    Host.Outcome State Fault Refusal :=
  let q := queue.val
  if s.endMatches q false dst = false ∨ s.headReady q = false ∨ s.endPops dst = false then .next s
  else if mismatch then .next (s.queueFault q 0)
  else
    match s.popItem q ecc with
    | (s, none) => .next s
    | (s, some p) =>
      match dst with
      | .mat g => .next (s.emit (.token (s.endMat q g.val) (.popChannel q) (popToken p)))
      | .core r => .next (s.emit (.answer r p.item))
      | .ring _ => .next s
      | .port n => .next (s.emit (.portItem n.val p.item.toNat))
      | .lane l => .next (s.emit (.laneItem l.val (some p.item.toNat) false))

/-- Key of a requester's queue latch and held word (R202). -/
def queLatchKey (r : Requester) (q : Nat) : Nat := reqNo r * 8192 + q

def State.setQueLatch (s : State) (r : Requester) (q : Nat) (v : Reg) : State :=
  { s with que := { s.que with latch := Tab.put reg0 s.que.latch (queLatchKey r q) v } }

def State.setQueHeld (s : State) (r : Requester) (q : Nat) (v : Reg) : State :=
  { s with que := { s.que with held := Tab.put reg0 s.que.held (queLatchKey r q) v } }

/-- Offset of a part of QUE_DATA in PF0 BAR0, and its size. -/
def quePartOffset (q : Nat) (p : QPart) : Nat :=
  match p with
  | .hi => QUE_DATA_HI (q / 4) (q % 4)
  | _ => QUE_DATA_LO (q / 4) (q % 4)

def quePartSize : QPart → Nat
  | .whole => 8
  | _ => 4

/-- What a requester's queue latch holds for a queue. -/
def State.queLatch (s : State) (r : Requester) (q : Nat) : Word :=
  (Tab.get reg0 s.que.latch (queLatchKey r q)).setWidth 64

/-- The item that a read of QUE_DATA has: the low word leaves its high word in the latch. -/
def State.queWord (s : State) (r : Requester) (q : Nat) (part : QPart) (v : Word) : State × Word :=
  match part with
  | .lo => (s.setQueLatch r q ((v >>> 32).setWidth 32), (v.setWidth 32).setWidth 64)
  | _ => (s, v)

/-- A read of QUE_DATA by the debug port (R202, R520): with SIDE 0 the head item without popping it, with SIDE 1 as a
control-core end, only when the queue's consumer kind is 6; none where it is refused. -/
def State.debugQueRead (s : State) (q : Nat) (part : QPart) (ecc : Ecc) : State × Option Word :=
  match s.queue q with
  | none => (s, none)
  | some x =>
    if s.flag DBG_ACCESS_SIDE then
      if x.cons ≠ 6 then (s, none)
      else if part = .hi then (s, some (s.queLatch .debug q))
      else match s.popItem q ecc with
        | (s, none) => (s, none)
        | (s, some p) => match s.queWord .debug q part p.item with
          | (s, v) => (s, some v)
    else if part = .hi then (s, some (s.queLatch .debug q))
    else if x.ready = false then (s, none)
    else match s.queWord .debug q part (s.itemAt q 0).data with
      | (s, v) => (s, some v)

/-- A control core's read of QUE_DATA (R202, R204). -/
def State.coreQueRead (s : State) (r : Requester) (q : Nat) (part : QPart) (ecc : Ecc) : State :=
  match s.queue q with
  | none => s.coreBusError r
  | some x =>
    if part = .hi then s.emit (.answer r (s.queLatch r q))
    else if x.cons ≠ 6 then s.coreWaits r (some (.queuePop q))
    else match s.popItem q ecc with
      | (s, none) => s.coreWaits r (some (.queuePop q))
      | (s, some p) => match (s.coreWaits r none).queWord r q part p.item with
        | (s, v) => s.emit (.answer r v)

/-- QUE_DATA_READ (R202 to R204). -/
def execQueDataRead (req : Requester) (queue : QueueId) (part : QPart) (ecc : Ecc) (s : State) :
    Host.Outcome State Fault Refusal :=
  let q := queue.val
  match req with
  | .host => .next ((s.badAccess (quePartOffset q part) (quePartSize part) false).emit (.answer .host 0))
  | .debug => match s.debugQueRead q part ecc with
    | (s, none) => .next (s.emit .debugRefused)
    | (s, some v) => .next (s.emit (.answer .debug v))
  | r => .next (if s.reqHeld r then s else s.coreQueRead r q part ecc)

/-- A control core's push: it waits at a full queue (R204). -/
def State.corePush (s : State) (r : Requester) (q : Nat) (w : Word) : State :=
  if s.canPush q false = false then s.coreWaits r (some (.queuePush q))
  else (s.pushItem q w false false).coreWaits r none

/-- The word that a write of QUE_DATA pushes: the high word goes with the held low word (R202). -/
def State.pushedWord (s : State) (r : Requester) (q : Nat) (part : QPart) (v : Word) : Word :=
  match part with
  | .hi => (v <<< 32) ||| (Tab.get reg0 s.que.held (queLatchKey r q)).setWidth 64
  | _ => v

/-- A control core's write of QUE_DATA (R202, R204). -/
def State.coreQueWrite (s : State) (r : Requester) (q : Nat) (part : QPart) (v : Word) : State :=
  match s.queue q with
  | none => s.coreBusError r
  | some x =>
    if part = .lo then s.setQueHeld r q (v.setWidth 32)
    else if x.prod ≠ 6 then s
    else s.corePush r q (s.pushedWord r q part v)

/-- A write of QUE_DATA by the debug port (R202): it pushes only when the queue's producer kind is 6 and the queue
takes the word; none where it is refused. -/
def State.debugQueWrite (s : State) (q : Nat) (part : QPart) (v : Word) : Option State :=
  match s.queue q with
  | none => none
  | some x =>
    if x.prod ≠ 6 then none
    else if part = .lo then some (s.setQueHeld .debug q (v.setWidth 32))
    else if s.canPush q false = false then none
    else some (s.pushItem q (s.pushedWord .debug q part v) false false)

/-- QUE_DATA_WRITE (R202 to R204). -/
def execQueDataWrite (req : Requester) (queue : QueueId) (part : QPart) (value : Word) (s : State) :
    Host.Outcome State Fault Refusal :=
  let q := queue.val
  match req with
  | .host => .next (s.badAccess (quePartOffset q part) (quePartSize part) true)
  | .debug => match s.debugQueWrite q part value with
    | none => .next (s.emit .debugRefused)
    | some s => .next s
  | r => .next (if s.reqHeld r then s else s.coreQueWrite r q part value)

/-- QUE_PKT_OPEN: a core's write of 1 to QUE_COUNT.PKT (R207); it needs one free word. -/
def execQuePktOpen (req : Requester) (queue : QueueId) (s : State) : Host.Outcome State Fault Refusal :=
  let q := queue.val
  match req, s.queue q with
  | .host, _ => .next s
  | _, none => .next (if req = .debug then s.emit .debugRefused else s.coreBusError req)
  | _, some x =>
    if x.packet = false ∨ x.prod ≠ 6 ∨ s.reqHeld req then .next s
    else if x.free = 0 then .next (s.coreWaits req (some (.queuePush q)))
    else .next ((s.openPacket q).coreWaits req none)

/-- QUE_PKT_CLOSE: a core's write of 2 to QUE_COUNT.PKT (R208); while words are being discarded per R209
it ends the packet whose words they are. -/
def execQuePktClose (req : Requester) (queue : QueueId) (s : State) : Host.Outcome State Fault Refusal :=
  let q := queue.val
  match req, s.queue q with
  | .host, _ => .next s
  | _, none => .next (if req = .debug then s.emit .debugRefused else s.coreBusError req)
  | _, some x =>
    if x.packet = false ∨ x.prod ≠ 6 ∨ s.reqHeld req then .next s
    else if x.slot = none then
      .next (if x.disc = 1 then s.setQueue q (some { x with disc := 0 }) else s)
    else .next (s.closePacket q false)

/-! ### Host commands -/

/-- A relocation has the column as its source or target (R215, R457). -/
def State.columnMoving (s : State) (c : Nat) : Bool :=
  s.hasTask (fun t => match t with
    | .reloc r => (r.src ++ r.dst).any (fun m => decide (matCol m = c))
    | _ => false)

/-- Two buffers of one bank overlap (R198). -/
def overlap (b1 n1 b2 n2 : Nat) : Bool := decide (b1 < b2 + n2 ∧ b2 < b1 + n1)

/-- A kind of R200 that is not reserved. -/
def endKindOk (k : Nat) : Bool := decide (1 ≤ k ∧ k ≤ 6)

/-- Status of a creation, in the order BAD_ARG, REFUSED, BUSY, NO_SPACE, OK (R215). -/
def State.createStatus (s : State) (q lg flags prod cons base : Nat) : Nat :=
  let size := 2 ^ lg
  if 8192 ≤ q ∨ lg < 4 ∨ 13 < lg ∨ 1 < flags ∨ 8192 < base + size ∨ base % size ≠ 0 ∨
      endKindOk prod = false ∨ endKindOk cons = false ∨ (prod = 3 ∧ cons = 3) then stBAD_ARG
  else if (s.queue q).isSome then stREFUSED
  else if s.columnMoving (bankCol (s.engineBank q)) then stBUSY
  else if s.bankRetired (s.engineBank q) ∨
      (upto 4).any (fun l => match s.queue (q / 4 * 4 + l) with
        | some x => overlap base size x.base x.size
        | none => false) then stNO_SPACE
  else stOK

/-- The queue as created: empty (R215). -/
def newQueue (lg : Nat) (packet : Bool) (prod cons base : Nat) : Queue :=
  { base := base, sizeLog2 := lg, packet := packet, prod := prod, cons := cons, ring := none, r := 0, w := 0,
    pw := 0, slot := none, len := 0, disc := 0, seq := 0, ue := false, left := 0, copy := none, freshAt := 0 }

/-- What QUEUE_CREATE does (R215), as a command or as a QUEUE frame of an image. -/
def State.queueCreate (queue : BitVec 16) (sizeLog2 flags prod cons : Byte) (base : BitVec 16) (s : State) : CmdRes :=
  let q := queue.toNat
  let st := s.createStatus q sizeLog2.toNat flags.toNat prod.toNat cons.toNat base.toNat
  if st = stOK then
    let x := newQueue sizeLog2.toNat (flags.getLsbD 0) prod.toNat cons.toNat base.toNat
    let s := (s.setQueue q (some x)).setEpoch q (s.epochOf q + 1)
    -- paced from creation: a LATE end of the running period leaves it empty
    (if s.heldBack q then s.setQueue q (some { x with copy := some QCopy.zero }) else s).ends stOK
  else s.ends st

/-- QUEUE_CREATE (R215). -/
def execQueueCreate (h : Hdr) (queue : BitVec 16) (sizeLog2 flags prod cons : Byte) (base : BitVec 16)
    (s : State) : Host.Outcome State Fault Refusal :=
  .next (s.hostCmd h 0x40 (State.queueCreate queue sizeLog2 flags prod cons base))

/-- QUEUE_BIND_RING (R216).  The rule names no status for a queue that does not exist: REFUSED, as for a queue with no
end of kind 3 (DESIGN CHOICE, log entry 69). -/
def execQueueBindRing (h : Hdr) (queue ring : BitVec 16) (op : Byte) (s : State) :
    Host.Outcome State Fault Refusal :=
  .next (s.hostCmd h 0x41 (fun s =>
    let q := queue.toNat
    let n := ring.toNat
    if 8192 ≤ q ∨ 1024 ≤ n ∨ 1 < op.toNat then s.ends stBAD_ARG
    else
      match s.queue q with
      | none => s.ends stREFUSED
      | some x =>
        let other := s.que.queues.any (fun e => decide (e.1 ≠ q) && match e.2 with
          | some y => decide (y.ring = some n)
          | none => false)
        if (x.prod ≠ 3 ∧ x.cons ≠ 3) ∨ n < 64 ∨ other ∨ (op.toNat = 1 ∧ x.ring.isSome) then
          s.ends stREFUSED
        else if op.toNat = 1 then
          (s.setQueue q (some { x with ring := some n })).ends stOK
        -- unbinding a ring that is bound to nothing changes nothing
        else if x.ring = some n then (s.setQueue q (some { x with ring := none })).ends stOK
        else s.ends stOK))

/-- A ring, field port or lane is bound to a queue (R217). -/
def State.queueBound (s : State) (q : Nat) : Bool :=
  ((s.queue q).any (fun x => x.ring.isSome)) ||
  (upto 128).any (fun p => (s.flag (FP_QUEUES_RX_EN p) && decide (s.get (FP_QUEUES_RXQ p) = q)) ||
    (s.flag (FP_QUEUES_TX_EN p) && decide (s.get (FP_QUEUES_TXQ p) = q))) ||
  (upto 32).any (fun x => (s.flag (XL_QUEUES_RX_EN x) && decide (s.get (XL_QUEUES_RXQ x) = q)) ||
    (s.flag (XL_QUEUES_TX_EN x) && decide (s.get (XL_QUEUES_TXQ x) = q)))

/-- QUEUE_RESET (R217). -/
def execQueueReset (h : Hdr) (queue : BitVec 16) (op : Byte) (s : State) :
    Host.Outcome State Fault Refusal :=
  .next (s.hostCmd h 0x42 (fun s =>
    let q := queue.toNat
    if 8192 ≤ q ∨ 1 < op.toNat ∨ (s.queue q).isNone then s.ends stBAD_ARG
    else if op.toNat = 0 then (s.queueClear q).ends stOK
    else if s.queueBound q then s.ends stREFUSED
    else (s.setQueue q none).ends stOK))

end Sys2Proof.Machine
end

