-- ==== Sys2Proof/Machine/Pins.lean ====
section
/-! DEFINITION.  The commands of field ports and GPIO pins (spec/10_field_ports_and_pins.md). -/

namespace Sys2Proof.Machine

open Sys2Proof

/-! ### Levels and tokens (R311) -/

/-- A pin takes part in a mat's I/O path; the pair of RS485 or LVDS is one pin, its pin A (R311). -/
def State.pinOnPath (s : State) (v : Nat) : Bool :=
  if v < 256 then decide (s.get (FP_CFG_MODE (v / 2)) = 0 ∨ v % 2 = 0) else true

/-- FP_INPUT_CHANGE (R311, R314, R325): a pad that the device drives or that has no supply keeps its
level; the owner mat is offered the level unless its input is frozen, or its I/O rhizoids are out of service, which
presents NULL (R102). -/
def execFpInputChange (pin : Fin 352) (level : Bool) (s : State) : Host.Outcome State Fault Refusal :=
  let v := pin.val
  match s.padDrive v with
  | .off =>
    let s := s.setPinLevel v level
    let frozen := s.flag (switchFld v) || decide ((s.pinCause v).toNat / 16 % 2 = 1) ||
      (s.pinCause v).getLsbD 6 || (decide (v < 256) && (s.flag (FP_STATUS_SURVEYING (v / 2)) || !s.flag (fpEN v)))
    match s.pinMat v with
    | some m =>
      if frozen ∨ s.pinOnPath v = false ∨ (256 ≤ v ∧ s.pinPaced v) ∨ s.useOut (s.physMat m) 3 then .next s
      else .next (s.emit (.token (s.physMat m) (.pin v) (b2n level)))
    | none => .next s
  | _ => .next s

/-- FP_OUTPUT_TOKEN (R311): the output channel of a paced pin is acknowledged and ignored; a mat held NULL, or whose I/O
rhizoids are out of service, presents no token (R59, R102). -/
def execFpOutputToken (pin : Fin 352) (level : Bool) (s : State) : Host.Outcome State Fault Refusal :=
  let v := pin.val
  match s.pinMat v with
  | some m =>
    if s.pinPaced v ∨ s.pinOnPath v = false ∨ s.heldNull (s.physMat m) ∨ s.useOut (s.physMat m) 3 then .next s
    else .next ((s.setPinOut v (some level)).settlePin v)
  | none => .next s

/-! ### Serialiser (R309, R312, R313) -/

/-- A received item (R312). -/
def rxItem (code : Nat) (bits : BitVec 56) (count : BitVec 6) (idle : Bool) : Word :=
  if code = 2 then BitVec.ofNat 64 (bits.toNat % 2 ^ 54 + count.toNat * 2 ^ 56)
  else BitVec.ofNat 64 (bits.toNat + count.toNat * 2 ^ 56 + b2n idle * 2 ^ 62)

/-- Items that cannot be pushed are discarded and counted (R313). -/
def State.portOverrun (s : State) (p q n : Nat) : State :=
  let s := s.count (FP_OVERRUNS p) (FP_SAT_OVERRUNS p) n
  let lost := satBits 32 (Tab.get nat0 s.pins.lost p + n)
  let show_ := s.mayRaise 0x4A04 (srcPort p)
  let s := s.raiseLim 0x4A04 (srcPort p) [(18, 2, q), (20, 4, lost)]
  { s with pins := { s.pins with lost := Tab.put nat0 s.pins.lost p (if show_ then 0 else lost) } }

/-- FP_RX_ITEM (R312, R313): a gap is an idle line or a comma. -/
def execFpRxItem (port : PortId) (bits : BitVec 56) (count : BitVec 6)
    (idleBefore gapBefore gapAfter : Bool) (s : State) : Host.Outcome State Fault Refusal :=
  let p := port.val
  let q := s.get (FP_QUEUES_RXQ p)
  if s.flag (FP_CFG_EN p) = false ∨ s.get (FP_OWNER_KIND p) ≠ 3 ∨ s.flag (FP_QUEUES_RX_EN p) = false ∨
      s.get (supplyFld (2 * p)) = 0 ∨ s.flag (FP_STATUS_SURVEYING p) then .next s
  else if s.endMatches q true (.port port) = false then .next s
  else if s.canPush q gapBefore = false then .next (s.portOverrun p q count.toNat)
  else .next (s.pushItem q (rxItem (s.get (FP_CFG_CODE p)) bits count idleBefore) gapBefore gapAfter)

/-- FP_TX_ITEM (R312, R313): a COUNT of 0 or above the limit sends nothing and counts as a code error;
nothing reaches a line that the port does not drive (R332). -/
def execFpTxItem (port : PortId) (ecc : Ecc) (s : State) : Host.Outcome State Fault Refusal :=
  let p := port.val
  let q := s.get (FP_QUEUES_TXQ p)
  if s.flag (FP_CFG_EN p) = false ∨ s.get (FP_OWNER_KIND p) ≠ 3 ∨ s.flag (FP_QUEUES_TX_EN p) = false ∨
      s.endMatches q false (.port port) = false then .next s
  else
    match s.popItem q ecc with
    | (s, none) => .next s
    | (s, some x) =>
      let n := bitsAt x.item.toNat 56 6
      let limit := if s.get (FP_CFG_CODE p) = 2 then 6 else 56
      if n = 0 ∨ limit < n then .next (s.count (FP_CODEERRS p) (FP_SAT_CODEERRS p) 1)
      else if s.pinFree (2 * p) then .next (s.emit (.portItem p x.item.toNat))
      else .next s

/-- FP_CODE_ERROR (R309, R333). -/
def execFpCodeError (port : PortId) (lostSync : Bool) (s : State) : Host.Outcome State Fault Refusal :=
  let p := port.val
  let s := s.count (FP_CODEERRS p) (FP_SAT_CODEERRS p) 1
  let n := satBits 32 (Tab.get nat0 s.pins.errs p + 1)
  let show_ := s.mayRaise 0x4A06 (srcPort p)
  let s := s.raiseLim 0x4A06 (srcPort p) [(18, 4, n)]
  let s := { s with pins := { s.pins with errs := Tab.put nat0 s.pins.errs p (if show_ then 0 else n) } }
  .next (if lostSync ∧ s.get (FP_CFG_CODE p) = 2 then s.setFlag (FP_STATUS_SYNC p) false else s)

/-- FP_SYNC (R309). -/
def execFpSync (port : PortId) (s : State) : Host.Outcome State Fault Refusal :=
  if s.get (FP_CFG_CODE port.val) = 2 ∧ s.flag (FP_CFG_EN port.val) then
    .next (s.setFlag (FP_STATUS_SYNC port.val) true)
  else .next s

/-! ### Current limit (R315) -/

/-- A driver reaches its limit or leaves it; a break of at most 10 µs does not count (R315). -/
def State.markLimit (s : State) (p : Nat) (reached : Bool) : State :=
  let x := s.pins
  if reached = s.flag (FP_STATUS_AT_LIMIT p) then s
  else if reached then
    let short := match Tab.get none0 x.limitEnd p with
      | some t => decide ((s.time - t).toNat ≤ 10000)
      | none => false
    { s with pins := { x with limitAt := if short then x.limitAt else Tab.put word0 x.limitAt p s.time } }
  else { s with pins := { x with limitEnd := Tab.put none0 x.limitEnd p (some s.time) } }

/-- AT_LIMIT (R315). -/
def execAtLimit (port : PortId) (reached : Bool) (s : State) : Host.Outcome State Fault Refusal :=
  if s.flag (FP_STATUS_FOLDED port.val) then .next s
  else .next ((s.markLimit port.val reached).setFlag (FP_STATUS_AT_LIMIT port.val) reached)

/-- FP_FOLDBACK (R315): the driver has been at its limit for 1 ms and turns off. -/
def execFpFoldback (port : PortId) (pin : Fin 3) (s : State) : Host.Outcome State Fault Refusal :=
  let p := port.val
  if s.flag (FP_STATUS_FOLDED p) ∨ s.flag (FP_STATUS_AT_LIMIT p) = false ∨
      s.elapsed (Tab.get word0 s.pins.limitAt p) 1000000 = false then .next s
  else
    let s := (s.setFlag (FP_STATUS_FOLDED p) true).endLimit p
    let s := (s.count (FP_FOLDS p) (FP_SAT_FOLDS p) 1).raise 0x4A01 (srcPort p)
      [(18, 1, pin.val), (19, 1, s.get (FP_CFG_ILIM p)), (20, 1, s.get (FP_CFG_ENERGY p))]
    .next (s.settlePort p)

/-- FP_RETRY (R315): a write of FP_CTL. -/
def execFpRetry (req : Requester) (port : PortId) (value : Reg) (s : State) :
    Host.Outcome State Fault Refusal :=
  .next (s.regWrite req (FP_CTL port.val) (fun s =>
    if value.getLsbD 0 then (s.setFlag (FP_STATUS_FOLDED port.val) false).settlePort port.val else s))

/-! ### Function switch (R329) -/

/-- FUNCTION_SWITCH: a write of FP_CFG, FP_OWNER or GPIO_OWNERn (R326, R329). -/
def execFunctionSwitch (req : Requester) (target : FnReg) (value : Reg) (s : State) :
    Host.Outcome State Fault Refusal :=
  match target with
  | .cfg p => .next (s.regWrite req (FP_CFG p.val) (fun s => s.writeCfg p.val value))
  | .owner p => .next (s.regWrite req (FP_OWNER p.val) (fun s => s.writeOwner p.val value))
  | .gpio n => .next (s.regWrite req (GPIO_OWNER n.val) (fun s => s.writeGpioOwner n.val value))

/-- Step 3 of a port's switch: the new function is enabled, FOLDED clears, held writes start (R329). -/
def State.endPortSwitch (s : State) (p : Nat) : State :=
  let s := (s.setFlag (FP_STATUS_SWITCHING p) false).setFlag (FP_STATUS_FOLDED p) false
  let s := s.settlePort p
  let hc := Tab.get none0 s.pins.heldCfg p
  let ho := Tab.get none0 s.pins.heldOwner p
  let s := { s with pins := { s.pins with heldCfg := Tab.put none0 s.pins.heldCfg p none,
                                          heldOwner := Tab.put none0 s.pins.heldOwner p none } }
  let s := match hc with
    | some v => s.writeCfg p v
    | none => s
  match ho with
  | some v => s.writeOwner p v
  | none => s

/-- The keeper time of a switch is over: 2 PBUS cycles (R329 step 2). -/
def State.kept (s : State) (k : Nat) : Bool := s.elapsed (Tab.get word0 s.pins.switchAt k) (s.pbusCycles 2)

/-- FUNCTION_SWITCH_END (R329 step 3). -/
def execFunctionSwitchEnd (target : FnUnit) (s : State) : Host.Outcome State Fault Refusal :=
  match target with
  | .port p => if s.flag (FP_STATUS_SWITCHING p.val) ∧ s.kept p.val then .next (s.endPortSwitch p.val) else .next s
  | .gpio n =>
    if s.flag (GPIO_OWNER_SWITCHING n.val) = false ∨ s.kept (256 + n.val) = false then .next s
    else
      let s := (s.setFlag (GPIO_OWNER_SWITCHING n.val) false).settlePin (256 + n.val)
      let h := Tab.get none0 s.pins.heldGpio n.val
      let s := { s with pins := { s.pins with heldGpio := Tab.put none0 s.pins.heldGpio n.val none } }
      match h with
      | some v => .next (s.writeGpioOwner n.val v)
      | none => .next s

/-! ### Supplies (R307, R324) -/

/-- Pins of a field-port bank or a GPIO group. -/
def supplyPins (gpio : Bool) (k : Nat) : List Nat :=
  if gpio then (upto 16).map (fun i => 256 + 16 * k + i) else (upto 32).map (fun i => 32 * k + i)

/-- A bank FB0 to FB7 or a group GA to GF. -/
def supplyExists (gpio : Bool) (k : Nat) : Bool := !gpio || decide (k < 6)

/-- VIO_LOST (R307, R324). -/
def execVioLost (gpio : Bool) (index : Fin 8) (s : State) : Host.Outcome State Fault Refusal :=
  let k := index.val
  let f := supplyFld (if gpio then 256 + 16 * k else 32 * k)
  if supplyExists gpio k = false ∨ s.get f = 0 then .next s
  else
    let s := (s.set f 0).settlePins (supplyPins gpio k)
    .next (s.raise 0x8A05 (if gpio then srcGpio (16 * k) else srcPort (16 * k)) [(18, 1, b2n gpio), (19, 1, k)])

/-- VIO_RESTORED (R307): the detected voltage shows and each pin resumes its state. -/
def execVioRestored (gpio : Bool) (index : Fin 8) (code : BitVec 2) (s : State) :
    Host.Outcome State Fault Refusal :=
  let k := index.val
  if supplyExists gpio k = false ∨ code = 0 ∨ (gpio = false ∧ code = 3) then .next s
  else .next ((s.set (supplyFld (if gpio then 256 + 16 * k else 32 * k)) code.toNat).settlePins (supplyPins gpio k))

/-! ### Survey (R317 to R323) -/

/-- SURVEY (R317, R321). -/
def execSurvey (h : Hdr) (port what : Byte) (vf : BitVec 16) (pins flags : Byte) (s : State) :
    Host.Outcome State Fault Refusal :=
  .next (s.hostCmd h 0x60 (fun s =>
    if 127 < port.toNat ∨ what = 0 ∨ 7 < what.toNat ∨ (vf ≠ 0 ∧ (vf.toNat < 500 ∨ 990 < vf.toNat)) ∨
        2 < pins.toNat ∨ 1 < flags.toNat then s.ends stBAD_ARG
    else
      let r := hdrRef h 0x60
      let x := s.submit (.survey port.toNat) [.port port.toNat] 3 port.toNat (some r)
      match x.2 with
      | .noSpace => x.1.ends stNO_SPACE
      | _ =>
        let run := SurveyRun.mk port.toNat r what.toNat (if vf = 0 then 660 else vf.toNat) pins.toNat
          (flags.getLsbD 0) false
        Submitted.report
          ({ x.1 with pins := { x.1.pins with surveys := x.1.pins.surveys ++ [run] } }, x.2) r))

/-- The survey of a port that the arbiter has granted and that has not started. -/
def State.surveyOf (s : State) (p : Nat) (running : Bool) : Option (SurveyRun × Act) :=
  match s.runningTask (fun t => decide (t = .survey p)) with
  | none => none
  | some a =>
    match s.pins.surveys.find? (fun x => decide (x.port = p) && decide (some x.ref = a.ref) &&
        decide (x.running = running)) with
    | some x => some (x, a)
    | none => none

def State.dropSurvey (s : State) (x : SurveyRun) (a : Act) : State :=
  { s with pins := { s.pins with surveys := s.pins.surveys.filter (fun y => decide (y ≠ x)) } }.release a.place

/-- SURVEY_RUN (R321): refused on an enabled port without TAKE, and on pins under charter for a cause of
row 4 of R332. -/
def execSurveyRun (port : PortId) (s : State) : Host.Outcome State Fault Refusal :=
  let p := port.val
  match s.surveyOf p false with
  | none => .next s
  | some (x, a) =>
    if (s.flag (FP_CFG_EN p) ∧ x.take = false) ∨ s.pinBarred (2 * p) ∨ s.pinBarred (2 * p + 1) then
      .next ((s.finish x.ref stREFUSED 0).dropSurvey x a)
    else
      let s := { s with pins := { s.pins with
        surveys := s.pins.surveys.map (fun y => if y = x then { y with running := true } else y) } }
      .next ((s.setFlag (FP_STATUS_SURVEYING p) true).settlePort p)

/-- RESULT of a survey (R317, R319). -/
def surveyResult (what : Nat) (f : Survey) : Word :=
  let chain := bitAt what 0
  let load := bitAt what 1
  BitVec.ofNat 64 ((if chain then f.lenCm.toNat + f.term.toNat * 2 ^ 16 else 0xFFFF) +
    (if load then f.load.toNat * 2 ^ 20 else 0) +
    (if bitAt what 2 then f.partner.toNat * 2 ^ 24 else 0) +
    (if load ∧ f.load = 4 then f.rOhm.toNat else 0xFFFF_FFFF) * 2 ^ 32)

/-- A result differs from the previous record's (R323). -/
def surveyChanged (old new : Word) : Bool :=
  let o := old.toNat
  let n := new.toNat
  let far (a b lim : Nat) : Bool := decide (lim < a - b + (b - a))
  far (bitsAt o 0 16) (bitsAt n 0 16) 10 || decide (bitsAt o 16 16 ≠ bitsAt n 16 16) ||
    decide (bitsAt o 32 32 < 10 * (bitsAt o 32 32 - bitsAt n 32 32 + (bitsAt n 32 32 - bitsAt o 32 32)))

/-- The latest record of a port with the same PINS (R323). -/
def State.lastRecord (s : State) (p pins : Nat) : Option SurveyRec :=
  let next := (Tab.get byte0 s.pins.recSeq p).toNat
  (upto 16).findSome? (fun i =>
    match Tab.get none0 s.pins.records (p * 16 + (next + 15 - i) % 16) with
    | some r => if r.pins = pins then some r else none
    | none => none)

/-- SURVEY_DONE (R321 to R323). -/
def execSurveyDone (port : PortId) (found : Survey) (s : State) : Host.Outcome State Fault Refusal :=
  let p := port.val
  match s.surveyOf p true with
  | none => .next s
  | some (x, a) =>
    let res := surveyResult x.what found
    let changed := match s.lastRecord p x.pins with
      | some r => surveyChanged r.result res
      | none => false
    let seq := Tab.get byte0 s.pins.recSeq p
    let rec_ : SurveyRec := { time := s.time, what := x.what, pins := x.pins, changed := changed,
                              result := res, vf := x.vf, rho := found.rho, ticks := found.ticks.toNat,
                              vfpMv := found.vfpMv.toNat, seq := seq }
    let s := { s with pins := { s.pins with
      records := Tab.put none0 s.pins.records (p * 16 + seq.toNat % 16) (some rec_),
      recSeq := Tab.put byte0 s.pins.recSeq p (seq + 1) } }
    let s := (s.wr64 (FP_SURV_LO p) (FP_SURV_HI p) res).setFlag (FP_STATUS_SURVEYING p) false
    let s := (s.dropSurvey x a).settlePort p
    let s := s.raise 0x0A02 (srcPort p) [(18, 1, x.what), (19, 1, b2n changed), (20, 8, res.toNat)]
    .next (s.finish x.ref stOK res)

/-! ### Pin ports and interrupt lines (R327, R328) -/

/-- A core owns a pin by its private pin port (R326, R327); a steward pair writes as one owner. -/
def State.coreOwns (s : State) (core v : Nat) : Bool :=
  if v < 256 then
    decide (s.get (FP_OWNER_KIND (v / 2)) = 4) && decide (s.get (FP_OWNER_ID (v / 2)) = core)
  else
    decide (s.get (GPIO_OWNER_KIND (v - 256)) = if core < 4 then 4 + core / 2 else 2 + core)

/-- PIN_PORT_WRITE (R327, R504): a write to kpinGA to kpinGF or kpinFB0 to kpinFB7. -/
def execPinPortWrite (core : CoreId) (fieldPorts : Bool) (index : Fin 8) (value : Word) (s : State) :
    Host.Outcome State Fault Refusal :=
  let k := index.val
  if fieldPorts = false ∧ 6 ≤ k then .next s
  else
    let n := if fieldPorts then 32 else 16
    let base := if fieldPorts then 32 * k else 256 + 16 * k
    let named := (upto n).filter (fun i => value.getLsbD i)
    let s := named.foldl (fun s i =>
      if s.coreOwns core.val (base + i) then
        (s.setPinOut (base + i) (some (value.getLsbD (32 + i)))).settlePin (base + i)
      else s) s
    match (named.filter (fun i => !s.coreOwns core.val (base + i))).getLast? with
    | none => .next s
    | some i =>
      let v := base + i
      let s := (s.setFlag GPIO_DENIED_DENIED true).set GPIO_DENIED_PIN (if v < 256 then 256 + v else v - 256)
      let s := (s.set GPIO_DENIED_CORE core.val).count GPIO_DENIEDS GPIO_SAT_DENIEDS 1
      let src := if v < 256 then srcPort (v / 2) else srcGpio (v - 256)
      .next (s.raiseLim 0x4A03 src [(18, 1, b2n fieldPorts), (19, 1, if v < 256 then v else v - 256),
        (20, 1, core.val)])

/-- PEND of an EXTL line: the router's source follows it, and its message is raised when it rises (R507, R508). -/
def State.putPend (s : State) (l : Nat) (pend : Bool) : State :=
  let was := s.flag (GPIO_EXTL_PEND l)
  let s := s.setFlag (GPIO_EXTL_PEND l) pend
  if pend ∧ was = false ∧ s.flag (EVR_ROUTE_VEC_EN (32 + l)) ∧ s.dmaOn then
    s.emit (.msix 0 (s.get (EVR_ROUTE_VECTOR (32 + l))))
  else s

/-- A write of GPIO_EXTLn: GROUP and MODE; the level is that of the pin now selected; a level mode makes PEND
follow, and in the other modes PEND is cleared by writing 1 (R268, R328). -/
def State.writeExtl (s : State) (l : Nat) (v : Reg) : State :=
  let s := s.wr (GPIO_EXTL l) (fldPut (s.rd (GPIO_EXTL l)) 0 6 (fldGet v 0 6))
  let g := s.get (GPIO_EXTL_GROUP l)
  let lv := decide (g < 6) && s.pinLevel (256 + 16 * g + l) && !s.gated (GPIO_OWNER (16 * g + l))
  let s := s.setFlag (GPIO_EXTL_LEVEL l) lv
  match s.get (GPIO_EXTL_MODE l) with
  | 4 => s.putPend l lv
  | 5 => s.putPend l (!lv)
  | _ => if v.getLsbD 6 then s.putPend l false else s

/-- EXTL_EDGE (R328, R268): the selected pad has a new level; an edge mode sets PEND at its edge, a level
mode makes PEND follow.  An edge less than 10 ns after the previous level change is not taken.  The router's source follows
PEND and latches nothing (R507, R508). -/
def execExtlEdge (line : Fin 16) (level : Bool) (s : State) : Host.Outcome State Fault Refusal :=
  let l := line.val
  let g := s.get (GPIO_EXTL_GROUP l)
  if 6 ≤ g then .next s
  else
    let lv := level && !s.gated (GPIO_OWNER (16 * g + l))
    let was := s.flag (GPIO_EXTL_LEVEL l)
    let taken := match Tab.get none0 s.pins.extAt l with
      | some t => s.elapsed t 10
      | none => true
    let s := s.setFlag (GPIO_EXTL_LEVEL l) lv
    let s := if lv = was then s else { s with pins := { s.pins with extAt := Tab.put none0 s.pins.extAt l (some s.time) } }
    let rise := lv && !was && taken
    let fall := was && !lv && taken
    let pend := s.flag (GPIO_EXTL_PEND l)
    let pend' := match s.get (GPIO_EXTL_MODE l) with
      | 1 => pend || rise
      | 2 => pend || fall
      | 3 => pend || rise || fall
      | 4 => lv
      | 5 => !lv
      | _ => pend
    .next (s.putPend l pend')

end Sys2Proof.Machine
end

