-- ==== Sys2Proof/Machine/LaneOps.lean ====
section
/-! DEFINITION.  Serial lanes and tethers as data: synthesisers, codings, going down and coming up, timestamps,
lost tokens (R338 to R350). -/

namespace Sys2Proof.Machine

open Sys2Proof

/-! ### Synthesisers (R338, R339) -/

/-- Base rate of a RATE code: 0 20.0, 1 25.0, 2 20.625, 3 32.0, 4 25.78125 Gbit/s (R338). -/
def rateBase (rate : Nat) : Nat :=
  match rate with
  | 0 | 1 | 3 | 5 | 9 => 0
  | 2 | 4 | 7 | 10 => 1
  | 6 => 2
  | 8 | 12 => 3
  | _ => 4

/-- PLL of a general lane (R251, R339). -/
def lanePll (x : Nat) : Nat := if x < 8 then 4 else if x < 20 then 5 else 6

/-- Synthesisers of a PLL that serve general lanes: 0 TA, 1 TB (R339). -/
def pllSynths (pll : Nat) : List Nat := if pll = 4 then [1] else [0, 1]

/-- Enabled lanes of a synthesiser, but for those of a list. -/
def State.synthLanes (s : State) (pll y : Nat) (but : List Nat) : List Nat :=
  (upto 32).filter (fun x => decide (lanePll x = pll) && decide (x ∉ but) && s.flag (XL_CFG_EN x) &&
    decide (s.get (XL_STATUS_SYNTH x) = y))

/-- Base that a synthesiser runs at, none when it is free (R339). -/
def State.synthBase (s : State) (pll y : Nat) (but : List Nat) : Option Nat :=
  ((s.synthLanes pll y but).head?).map (fun x => rateBase (s.get (XL_CFG_RATE x)))

/-- Synthesiser that lanes of a PLL take for a base: one that runs at it, else a free one (R339). A SUSPECT
PLL has none (R483). -/
def State.takeSynth (s : State) (pll base : Nat) (but : List Nat) : Option Nat :=
  if s.unitSuspect 4 pll then none
  else match (pllSynths pll).find? (fun y => decide (s.synthBase pll y but = some base)) with
    | some y => some y
    | none => (pllSynths pll).find? (fun y => decide (s.synthBase pll y but = none))

/-! ### Codings and owners (R340, R341) -/

/-- A coding's rates and owners (R340); coding 5 is set by a tether only. -/
def laneModeOk (code rate kind : Nat) : Bool :=
  match code with
  | 0 => decide (rate ≤ 12) && decide (kind = 1 ∨ kind = 2)
  | 1 => decide (rate ≤ 7) && decide (kind = 1 ∨ kind = 2)
  | 2 => decide (rate ≤ 12) && decide (kind = 1)
  | 3 => decide (rate = 6) && decide (kind = 1)
  | 4 => decide (rate = 11) && decide (kind = 1)
  | _ => false

/-- The queues that a lane names exist with an end of kind 5 (R312, R341). -/
def State.laneQueuesOk (s : State) (x : Nat) : Bool :=
  (!s.flag (XL_QUEUES_RX_EN x) || (match s.queue (s.get (XL_QUEUES_RXQ x)) with
    | some q => decide (q.prod = 5)
    | none => false)) &&
  (!s.flag (XL_QUEUES_TX_EN x) || (match s.queue (s.get (XL_QUEUES_TXQ x)) with
    | some q => decide (q.cons = 5)
    | none => false))

/-- An Ethernet PCS lane (R250, R340). -/
def laneEthernet (code : Nat) : Bool := decide (code = 3 ∨ code = 4)

/-- SSC_CONFLICT (R250, R272): kind 0 XL lane, 1 tether. -/
def State.sscConflict (s : State) (src kind n : Nat) : State := s.raise 0x4804 src [(18, 1, kind), (19, 1, n)]

/-- REFUSED with a reason (R339, R340, R346, R483). -/
def State.laneRefused (s : State) (x reason : Nat) : State :=
  (s.setFlag (XL_STATUS_REFUSED x) true).set (XL_STATUS_REASON x) reason

/-! ### Up and down (R345, R350) -/

def State.setLane (s : State) (l : LaneState) : State := { s with lane := l }

/-- What a lane keeps beside its registers goes as it is disabled. -/
def State.forgetLane (s : State) (x : Nat) : State :=
  let s := s.wr (XL_STATUS x) (s.rd (XL_STATUS x) &&& 0xF0#32)
  s.setLane { s.lane with downAt := Tab.put none0 s.lane.downAt x none,
                          inFrame := Tab.put bool0 s.lane.inFrame x false,
                          looped := Tab.put nil0 s.lane.looped x [] }

/-- The status bits that a lane loses as it goes down: 0 lock, 1 alignment, 2 HI_BER. -/
def State.loseLane (s : State) (x cause : Nat) : State :=
  match cause with
  | 0 => (s.setFlag (XL_STATUS_RX_LOCK x) false).setFlag (XL_STATUS_ALIGNED x) false
  | 1 => s.setFlag (XL_STATUS_ALIGNED x) false
  | _ => s.setFlag (XL_STATUS_HI_BER x) true

/-- An enabled lane goes down (R345, R350). -/
def State.downLane (s : State) (x cause : Nat) : State :=
  let s := s.loseLane x cause
  let at_ := match Tab.get none0 s.lane.downAt x with
    | some t => t
    | none => s.time
  (s.setLane { s.lane with downAt := Tab.put none0 s.lane.downAt x (some at_) }).raise 0x4B01 (srcXl x)
    [(18, 1, cause)]

/-- An enabled lane is locked and aligned; LANE_UP when it had gone down (R350). -/
def State.upLane (s : State) (x : Nat) : State :=
  let s := (s.setFlag (XL_STATUS_RX_LOCK x) true).setFlag (XL_STATUS_ALIGNED x) (decide (s.get (XL_CFG_CODE x) ≠ 0))
  let s := s.setFlag (XL_STATUS_HI_BER x) false
  match Tab.get none0 s.lane.downAt x with
  | none => s
  | some t =>
    let us := usBetween t s.time
    (s.setLane { s.lane with downAt := Tab.put none0 s.lane.downAt x none }).raise 0x0B02 (srcXl x) [(18, 4, us)]

/-- The PLL of a lane is locked, and the lane is out of electrical idle: after wake, or on a tether (R374,
R430). -/
def State.laneClocked (s : State) (x : Nat) : Bool :=
  s.bit CLK_STATUS (8 + lanePll x) && decide (s.get (XL_OWNER_KIND x) = 3 ∨ s.get DEV_STATUS_PHASE = 6)

/-- A lane's receive path delivers (R345). -/
def State.laneReceives (s : State) (x : Nat) : Bool :=
  s.flag (XL_CFG_EN x) && s.laneClocked x && s.flag (XL_STATUS_RX_LOCK x) &&
    (s.get (XL_CFG_CODE x) = 0 || s.flag (XL_STATUS_ALIGNED x)) && !s.flag (XL_STATUS_HI_BER x)

/-! ### Disabling (R339, R479) -/

/-- A lane is disabled: its synthesiser may be free, its slice is submitted, and that of a PLL with no
synthesiser left in use (R339, R479). -/
def State.freeLane (s : State) (x : Nat) : State :=
  let s := (s.forgetLane x).submitSlice 1 x
  let pll := lanePll x
  if (pll = 5 ∨ pll = 6) ∧ (upto 32).all (fun y => !(decide (lanePll y = pll) && s.flag (XL_CFG_EN y))) then
    s.submitSlice 4 pll
  else s

/-- A lane is enabled on a synthesiser: the slices of the lane and of its PLL end (R482). -/
def State.startLane (s : State) (x synth : Nat) (cfg : Reg) : State :=
  let s := s.wr (XL_CFG x) (fldPut cfg 0 1 1)
  let s := (s.forgetLane x).set (XL_STATUS_SYNTH x) synth
  (s.abortSlice 1 x).abortSlice 4 (lanePll x)

/-! ### Losses and timestamps (R342, R343) -/

/-- A token or item is lost (R342, R350). -/
def State.laneOverrun (s : State) (x : Nat) : State :=
  let s := s.count (XL_OVERRUNS x) ⟨XL_SAT x, 1, 1⟩ 1
  let n := satBits 32 (Tab.get nat0 s.lane.lost x + 1)
  let show_ := s.mayRaise 0x4B07 (srcXl x)
  let s := s.raiseLim 0x4B07 (srcXl x) [(18, 4, n)]
  s.setLane { s.lane with lost := Tab.put nat0 s.lane.lost x (if show_ then 0 else n) }

/-- Device time of a start block at the ball, which is within 2 ns of the present time: the deviation is a
free value (R343). -/
def State.stampTime (s : State) : Word × State :=
  match s.fresh with
  | (v, s) => (s.time + BitVec.ofNat 64 (v.toNat % 5) - 2, s)

/-- The timestamp token of a start block (R343): an untaken one is replaced and counted. -/
def State.laneStamp (s : State) (x : Nat) (tx taken : Bool) : State :=
  if laneEthernet (s.get (XL_CFG_CODE x)) = false ∨ s.flag (XL_CFG_TS x) = false then s
  else
    let k := 2 * x + b2n tx
    let n := Tab.get byte0 s.lane.starts k + 1
    let s := s.setLane { s.lane with starts := Tab.put byte0 s.lane.starts k n }
    let s := if taken then s else s.count (XL_OVERRUNS x) ⟨XL_SAT x, 1, 1⟩ 1
    match s.stampTime with
    | (t, s) => s.emit (.token (s.physMat (s.get (XL_OWNER_MAT x))) (.laneStamp x tx) (t.toNat + n.toNat * 2 ^ 64))

/-! ### Tethers (R346 to R348) -/

/-- Lanes of a tether. -/
def tetherLanes (k : Nat) : List Nat := (upto 4).map (fun i => 4 * k + i)

/-- The lead leaves a swap whose strobe went to a tether that is lost: its own part and every other
follower's are abandoned (R348). -/
def State.leadLoses (s : State) (k g : Nat) : State :=
  let x := s.group g
  match x.run with
  | some r =>
    if k ∈ r.strobed then
      (s.leadAbandon g { r with strobed := delNat k r.strobed } stHW_FAULT
        (s.quietNow r) none).afterSwap r.boundary
    else s
  | none => s

/-- A strobed swap whose device time has not come yet is abandoned likewise. -/
def State.strobeLost (s : State) (k g : Nat) : State :=
  let x := s.group g
  match x.waiting.find? (fun r => decide (k ∈ r.strobed)) with
  | none => s
  | some r =>
    let s := s.setGroup g { x with waiting := x.waiting.erase r }
    let s := (delNat k r.strobed).foldl (fun s j => s.sendTether j 4 (g + stHW_FAULT * 256)) s
    ((s.askerRes r.asker [] stHW_FAULT r.slot).reportSwap g r.slot r.trigger r.ref r.retries r.no stHW_FAULT 0 0xFFFF
      none).afterSwap r.boundary

/-- FLIPs sent on a lost tether and not acknowledged: TETHER_SPLIT (R348). -/
def State.splitTether (s : State) (k peer : Nat) : State :=
  let out := s.ctx.acks.filter (fun e => decide (e.1 = k))
  let s := { s with ctx := { s.ctx with acks := s.ctx.acks.filter (fun e => decide (e.1 ≠ k)) } }
  out.foldl (fun s e => s.raise 0x8B06 (srcTether k) [(18, 1, peer), (19, 1, e.2.1), (20, 1, e.2.2)]) s

/-- A tether that is UP goes DOWN (R347 to R349); one that trains stops. -/
def State.downTether (s : State) (k : Nat) : State :=
  let up := s.tetherUp k
  let peer := s.get (TH_STATUS_PEER k)
  let s := ((s.set (TH_STATUS_STATE k) 0).set (TH_STATUS_LANES_UP k) 0).setFlag (TH_STATUS_TIME_ALIGNED k) false
  let s := s.setLane { s.lane with aligned := Tab.put nat0 s.lane.aligned k 0,
                                   credits := Tab.put nat0 s.lane.credits k 0 }
  if up = false then s
  else
    let s := s.raise 0x8B04 (srcTether k) [(18, 1, peer)]
    let s := s.splitTether k peer
    (upto 64).foldl (fun s g => (s.leadLoses k g).strobeLost k g) s

/-- A tether is switched off: its lanes are free (R339, R346). -/
def State.offTether (s : State) (k : Nat) : State :=
  let s := (s.setFlag (TH_CTL_EN k) false).downTether k
  (tetherLanes k).foldl (fun s x =>
    ((s.wr (XL_CFG x) 0).set (XL_OWNER_KIND x) 0).freeLane x) s

/-! ### Configuration streams (R374) -/

/-- The image that a boot has chosen (R371): A, B, datum, or the stream in the staging buffer. -/
def State.bootImage (s : State) (b : Boot) : Option Image :=
  if b.source < 3 then Tab.get none0 s.img.slots b.source else s.img.staged

/-- A lead sends the bytes of its verified boot image as CONFIG messages; the message stands for the whole
stream and carries its length (R347, R374). -/
def State.sendStream (s : State) (k : Nat) : State :=
  match s.img.boot with
  | none => s
  | some b =>
    match s.bootImage b with
    | some i =>
      if b.passed ∧ s.get DEV_STATUS_PHASE = 3 ∧ s.tetherUp k ∧ s.get (TH_CTL_ROLE k) = 1 then
        s.sendTether k 7 i.total.toNat
      else s
    | none => s

end Sys2Proof.Machine
end

