-- ==== Sys2Proof/Machine/RelocOps.lean ====
section
/-! DEFINITION.  Reserve mats, relocation sets, the choice of a target, the move of a mat's contexts and maps,
and what happens when no reserve remains (R24, R452 to R462, R478). -/

namespace Sys2Proof.Machine

open Sys2Proof

/-! ### Reserve mats (R24, R452) -/

/-- The logical mat that a physical mat serves; none for one that a relocation has vacated (R459, R460). -/
def State.serves (s : State) (p : Nat) : Option Nat :=
  match s.mnt.matMap.find? (fun e => decide (e.2 = p)) with
  | some e => some e.1
  | none => if s.physMat p = p then some p else none

def State.matRetired (s : State) (p : Nat) : Bool := Tab.get bool0 s.mnt.retired p

/-- Queues with an end in a physical mat: their contents lie in a bank of its column (R200, R452). -/
def State.queueEnds (s : State) (p : Nat) : List Nat :=
  (s.que.queues.filter (fun e => match e.2 with
    | some x => decide (bankCol (s.engineBank e.1) = matCol p) &&
        (decide (x.prod = 1 + matG p) || decide (x.cons = 1 + matG p))
    | none => false)).map Prod.fst

/-- A logical mat belongs to nothing and owns nothing. -/
def State.matIdle (s : State) (m : Nat) : Bool :=
  (s.groupOf m).isNone && (s.regionOf m).isNone && (s.pinsOf m).isEmpty &&
    (upto 32).all (fun x => !(decide (s.get (XL_OWNER_KIND x) = 1) && decide (s.get (XL_OWNER_MAT x) = m)))

/-- A reserve mat (R452). -/
def State.isReserve (s : State) (p : Nat) : Bool :=
  (upto 4).all (fun k => decide (s.slotState p k = slEMPTY)) &&
  (match s.serves p with
    | some m => s.matIdle m
    | none => true) &&
  (s.queueEnds p).isEmpty && !s.unitSuspect 5 p && !s.matRetired p

/-- A column is POWER_DEGRADED for the choice of reserve mats of a logic layer (R24). -/
def State.degradedFor (s : State) (layer c : Nat) : Bool :=
  [layer, 2, 4].any (fun y => Tab.get bool0 s.pow.degraded (y * 256 + c))

/-- Eligible reserve mats of a quadrant of a logic layer (MNT_RESERVE). -/
def State.reserves (s : State) (g quad : Nat) : List Nat :=
  ((upto 256).map (fun c => matOf c g)).filter (fun p => decide (colQuad (matCol p) = quad) &&
    !s.degradedFor (matLayer p) (matCol p) && s.isReserve p)

/-- A quadrant of a logic layer is in use: a context is placed in it. -/
def State.quadUsed (s : State) (g quad : Nat) : Bool :=
  s.ctx.slots.any (fun e =>
    let p := e.1 / 4
    decide (matG p = g) && decide (colQuad (matCol p) = quad) && decide (s.slotState p (e.1 % 4) ≠ slEMPTY))

/-- Quadrants in use without an eligible reserve: (g, quadrant). -/
def State.lowQuads (s : State) : List (Nat × Nat) :=
  ([(0, 0), (0, 1), (0, 2), (0, 3), (1, 0), (1, 1), (1, 2), (1, 3)] : List (Nat × Nat)).filter
    (fun q => s.quadUsed q.1 q.2 && (s.reserves q.1 q.2).isEmpty)

/-- RESERVE_LOW for each quadrant that has become low (R476). -/
def State.noteReserves (s : State) (before : List (Nat × Nat)) : State :=
  (s.lowQuads.filter (fun q => decide (q ∉ before))).foldl (fun s q =>
    s.raise 0x5003 srcStack [(18, 1, if q.1 = 0 then 1 else 3), (19, 1, q.2)]) s

/-! ### Relocation and bank sets (R453) -/

/-- Contexts resident in a physical mat's slots. -/
def State.slotCtxs (s : State) (p : Nat) : List Ctx :=
  ((upto 4).filter (fun k => decide (s.slotState p k ≠ slEMPTY))).map (fun k => (s.slot p k).ctx)

/-- The same with its library entries. -/
def State.matCtxs (s : State) (p : Nat) : List Ctx :=
  s.slotCtxs p ++ ((upto 16).filter (fun e => s.entryValid p e)).map (fun e => (s.entry p e).ctx)

def Ctx.reaches (c : Ctx) (b : Nat) : Bool := c.usesPort && Config.reachesBank c.words b

/-- A context drives or takes a trunk lane. -/
def Ctx.usesLane (c : Ctx) (k : Nat) : Bool := c.drivesLane k || Config.takesLane c.words k

/-- Two mats of a column share a bank or a trunk lane. -/
def State.matsShare (s : State) (p o : Nat) : Bool :=
  (upto 8).any (fun b => (s.matCtxs p).any (fun c => c.reaches b) && (s.matCtxs o).any (fun c => c.reaches b)) ||
  (upto 256).any (fun k => (s.matCtxs p).any (fun c => c.usesLane k) && (s.matCtxs o).any (fun c => c.usesLane k))

/-- The other mat of a column. -/
def otherMat (p : Nat) : Nat := matOf (matCol p) (1 - matG p)

/-- The relocation set of a physical mat, itself first (R453). -/
def State.relocSet (s : State) (p : Nat) : List Nat := if s.matsShare p (otherMat p) then [p, otherMat p] else [p]

/-- The bank set of a relocation set: bank indices of its column (R453). -/
def State.bankSet (s : State) (src : List Nat) : List Nat :=
  match src with
  | [] => []
  | _ :: _ => (upto 8).filter (fun b =>
      src.any (fun q => (s.matCtxs q).any (fun c => c.reaches b) ||
        (s.queueEnds q).any (fun n => decide (bankIdx (s.engineBank n) = b))))

/-! ### Eligible targets (R454, R456) -/

/-- Targets of a set, in its order: the target of its first mat, and for a pair the other mat of that
column. -/
def relocTargets (src : List Nat) (d : Nat) : List Nat := if src.length = 2 then [d, otherMat d] else [d]

/-- Departing wire sets that contexts use: side, lane and span of their outbound channels (R69, R72). -/
def ctxWires (l : List Ctx) : List (Nat × Nat) :=
  (upto 64).foldr (fun h a =>
    ([1, 2, 3] : List Nat).foldr (fun sp a => if l.any (fun c => decide (c.outSpan h = sp)) then (h, sp) :: a else a) a) []

/-- Departing wire sets of a gate's through-paths (R75). -/
def State.thruWires (s : State) (p : Nat) : List (Nat × Nat) :=
  ((upto 32).filter (fun k => s.flag (COL_GATE_THRU_EN (matCol p) (matG p) k))).map (fun k =>
    (16 * s.get (COL_GATE_THRU_OUT_SIDE (matCol p) (matG p) k) + s.get (COL_GATE_THRU_OUT_LANE (matCol p) (matG p) k),
     s.get (COL_GATE_THRU_OUT_SPAN (matCol p) (matG p) k)))

/-- No element occurs twice. -/
def noRepeat {α : Type} [DecidableEq α] : List α → Bool
  | [] => true
  | x :: l => decide (x ∉ l) && noRepeat l

/-- No departing wire set of a gate has more than one user (R76). -/
def State.wiresOk (s : State) (p : Nat) (l : List Ctx) : Bool := noRepeat (ctxWires l ++ s.thruWires p)

/-- The banks of the set are free in a target column (R454 item 3). -/
def State.banksFree (s : State) (banks : List Nat) (dst : List Nat) (d : Nat) : Bool :=
  let c := matCol d
  banks.all (fun b =>
    let k := bankId c b
    decide (s.get (bankState k) = 0) && s.que.queues.all (fun e => e.2.isNone || decide (s.engineBank e.1 ≠ k)) &&
    (decide (otherMat d ∈ dst) || (s.matCtxs (otherMat d)).all (fun x => !x.reaches b)))

/-- The contexts of a source mat fit a target mat (R454 items 4 and 5). -/
def State.ctxFit (s : State) (p d : Nat) : Bool :=
  (s.matCtxs p).all (fun c => !s.needsOut d c && c.fits d) && s.wiresOk d (s.slotCtxs p)

/-- The trunk combinations of the target column after the move (R105, R454 item 5). -/
def State.moveClear (s : State) (src dst : List Nat) (d : Nat) : Bool :=
  let c := matCol d
  let from_ (q : Nat) : Nat := match (dst.zip src).find? (fun e => decide (e.1 = q)) with
    | some e => e.2
    | none => q
  let q1 := from_ (matOf c 0)
  let q3 := from_ (matOf c 1)
  let f (g k : Nat) : Ctx := (s.slot (if g = 0 then q1 else q3) k).ctx
  (s.combos (s.logMat q1) (s.activeSlot q1) (s.logMat q3) (s.activeSlot q3) none).all (fun ab => !comboConflict f ab)

/-- Side and lane, and span, of the departing wire set that a through-path register names (R93). -/
def thruOut (v : Reg) : Nat × Nat := (16 * fldGet v 9 2 + fldGet v 11 4, fldGet v 15 2)

/-- Departing wire sets that a chain uses, with their gates. -/
def chainWires (c : Chain) : List (Nat × Nat × Nat) :=
  c.paths.map (fun x => (x.1.val, thruOut x.2.2))

/-- Contexts that use a gate's departing wire sets once a set has moved: a source's are gone, a target's are its
source's. -/
def State.gateCtxs (s : State) (src dst : List Nat) (q : Nat) : List Ctx :=
  match (dst.zip src).find? (fun e => decide (e.1 = q)) with
  | some e => s.slotCtxs e.2
  | none => if q ∈ src then [] else s.slotCtxs q

/-- A departing wire set that a re-test found bad (R90). -/
def State.badWire (s : State) (q h sp : Nat) : Bool := Tab.get bool0 s.col.badWires ((q * 64 + h) * 4 + sp)

/-- A chain of through-paths uses free through-paths, and departing wire sets that have no other user and did not
fail (R76, R90, R454 item 6). -/
def State.chainOk (s : State) (src dst : List Nat) (c : Chain) : Bool :=
  c.paths.all (fun x => !s.flag (COL_GATE_THRU_EN (matCol x.1.val) (matG x.1.val) x.2.1.val)) &&
  noRepeat (c.paths.map (fun x => (x.1.val, x.2.1.val))) && noRepeat (chainWires c) &&
  (chainWires c).all (fun w => !s.badWire w.1 w.2.1 w.2.2 &&
    decide (w.2 ∉ ctxWires (s.gateCtxs src dst w.1) ++ s.thruWires w.1))

/-- The departing wire set that a chain's through-path at a gate gives an arriving one. -/
def chainFrom (c : Chain) (q h sp : Nat) : Option (Nat × Nat) :=
  (c.paths.find? (fun x => decide (x.1.val = q ∧ 16 * fldGet x.2.2 1 2 + fldGet x.2.2 3 4 = h ∧
    fldGet x.2.2 7 2 = sp))).map (fun x => thruOut x.2.2)

/-- Departing wire sets, with their gates, that a chain gives what arrives at a gate, relay by relay. -/
def chainRelays (c : Chain) : Nat → Nat → Nat → Nat → List (Nat × Nat × Nat)
  | 0, _, _, _ => []
  | n + 1, q, h, sp =>
    match chainFrom c q h sp with
    | none => []
    | some o => (q, o) :: (match channelEnd q o.1 o.2 with
        | some e => chainRelays c n e.1 e.2 o.2
        | none => [])

/-- A chain carries a border channel of a context that moves from gate p to gate d through at most four relaying gates,
that of p among them: what leaves d departs from p as before, and what arrived at p arrives at d on the side, lane and
span that the context names (R454 item 6). -/
def chainCarries (c : Chain) (p d : Nat) (x : Ctx) : Bool :=
  (upto 64).all (fun h =>
    (decide (x.outSpan h = 0) || (match channelEnd d h (x.outSpan h) with
      | some e => decide ((p, h, x.outSpan h) ∈ chainRelays c 4 e.1 e.2 (x.outSpan h))
      | none => false)) &&
    (decide (x.inSpan h = 0) || (channelEnd p h (x.inSpan h)).isNone ||
      (chainRelays c 4 p h (x.inSpan h)).any (fun w =>
        decide (channelEnd w.1 w.2.1 w.2.2 = some (d, h) ∧ w.2.2 = x.inSpan h))))

/-- Chains of through-paths to a target of a set, as the configuration engine computes them. -/
def State.chainsTo (s : State) (src : List Nat) (chains : List Chain) (d : Nat) : Option Chain :=
  let dst := relocTargets src d
  chains.find? (fun c => decide (c.target.val = d) && s.chainOk src dst c &&
    (src.zip dst).all (fun e => (s.matCtxs e.1).all (chainCarries c e.1 e.2)))

/-- A target for a relocation set is eligible (R454). -/
def State.eligible (s : State) (src banks : List Nat) (chains : List Chain) (d : Nat) : Bool :=
  let dst := relocTargets src d
  dst.all (fun q => s.isReserve q && !s.relocLocked q && decide (q ∉ src)) &&
  !dst.any (fun q => s.degradedFor (matLayer q) (matCol q)) &&
  s.banksFree banks dst d && (src.zip dst).all (fun e => s.ctxFit e.1 e.2) && s.moveClear src dst d &&
  (s.chainsTo src chains d).isSome

/-- Distance of two columns, |Δx| + |Δy|. -/
def colDist (a b : Nat) : Nat :=
  (max (a % 16) (b % 16) - min (a % 16) (b % 16)) + (max (a / 16) (b / 16) - min (a / 16) (b / 16))

/-- The nearest of a list of mats, the lower column index first. -/
def nearest (p : Nat) : List Nat → Option Nat
  | [] => none
  | d :: l => match nearest p l with
    | none => some d
    | some e => if colDist (matCol p) (matCol d) ≤ colDist (matCol p) (matCol e) then some d else some e

/-- The target that the stack manager chooses for the set of a mat (R456). -/
def State.chooseTarget (s : State) (p : Nat) (chains : List Chain) : Option Nat :=
  let src := s.relocSet p
  let banks := s.bankSet src
  let ok := ((upto 256).map (fun c => matOf c (matG p))).filter (fun d => s.eligible src banks chains d)
  match nearest p (ok.filter (fun d => decide (colQuad (matCol d) = colQuad (matCol p)))) with
  | some d => some d
  | none => nearest p ok

/-! ### The move -/

/-- Locks of a relocation (R470). -/
def relocLocks (src dst banks : List Nat) (paths : List (Nat × Reg)) : List Lock :=
  src.map Lock.mat ++ dst.map Lock.mat ++ src.map (fun p => Lock.lib p none) ++ dst.map (fun p => Lock.lib p none) ++
  (src ++ dst).foldr (fun p l => banks.map (fun b => Lock.bank (bankId (matCol p) b)) ++ l) [] ++
  paths.map (fun e => Lock.gate (e.1 / 32))

/-- A chain's paths as gate × 32 + path, and register value. -/
def chainPaths (c : Chain) : List (Nat × Reg) := c.paths.map (fun x => (x.1.val * 32 + x.2.1.val, x.2.2))

/-- Copy the 16 library entries and directory records of a mat (R457 step 2).  A copy becomes VALID when it has been
checked against its record's check code; `bad` are the entries whose copy fails the check (R124). -/
def State.copyLibrary (s : State) (p d : Nat) (bad : List Nat) : State :=
  (upto 16).foldl (fun s e => s.setEntry d e (s.entry p e) (s.entryValid p e && decide (e ∉ bad))) s

/-- Copy a slot's context with its state and source record (R457 step 3). -/
def State.copySlot (s : State) (p d k : Nat) : State :=
  let n := s.get (COL_CTX_SRC_LOADS (matCol d) (matG d) k)
  let s := (s.setSlot d k (s.slot p k)).recomputeOwn d k
  let s := s.wr (COL_CTX_SRC (matCol d) (matG d) k) (s.rd (COL_CTX_SRC (matCol p) (matG p) k))
  let s := s.set (COL_CTX_SRC_LOADS (matCol d) (matG d) k) (n + 1)
  (s.setSlotState d k (s.slotState p k)).noteFloor d

def State.copySlots (s : State) (p d : Nat) : State := (upto 4).foldl (fun s k => s.copySlot p d k) s

/-- Copy the contents of a bank to another (R457 step 2). -/
def copyBankWords (b d : Nat) (t : Tab MemWord) : Tab MemWord :=
  (t.filter (fun e => decide (e.1 / 8192 = b))).foldl (fun t e => Tab.put memWord0 t (d * 8192 + e.1 % 8192) e.2)
    (Tab.keep (fun k => decide (k / 8192 ≠ d)) t)

def State.copyBanks (s : State) (banks : List Nat) (p d : Nat) : State :=
  banks.foldl (fun s b =>
    let from_ := s.serving (bankId (matCol p) b)
    let into := s.serving (bankId (matCol d) b)
    { s with mem := { s.mem with words := copyBankWords from_ into s.mem.words } }) s

/-- Switch the relocation map (R457 step 7, R459). -/
def State.switchMat (s : State) (p d : Nat) : State :=
  { s with mnt := { s.mnt with matMap := Tab.put natId s.mnt.matMap (s.logMat p) d } }

/-- Logical bank that a physical bank holds. -/
def State.logBank (s : State) (b : Nat) : Nat :=
  match s.mnt.bankMap.find? (fun e => decide (e.2 = b)) with
  | some e => e.1
  | none => b

/-- Switch the bank map for the bank set (R457 step 7).  What was found in the emptied banks does not count against
them any more (R117). -/
def State.switchBanks (s : State) (banks : List Nat) (p d : Nat) : State :=
  banks.foldl (fun s b =>
    let q := bankId (matCol p) b
    let k := s.logBank q
    let s := if s.physBank k = q then
        { s with mnt := { s.mnt with bankMap := Tab.put natId s.mnt.bankMap k (bankId (matCol d) b) } }
      else s
    let s := (s.setBankUes q 0).setBankUes (s.serving q) 0
    { s with col := { s.col with failing := Tab.put bool0 (Tab.put bool0 s.col.failing q false) (s.serving q) false } }) s

/-- Write through-path registers (R75). -/
def State.writePaths (s : State) (l : List (Nat × Reg)) : State :=
  l.foldl (fun s e => s.wr (COL_GATE_THRU (matCol (e.1 / 32)) (matG (e.1 / 32)) (e.1 % 32)) e.2) s

/-- Enable the through-path chain of a target and record it (R457 step 7, R478). -/
def State.enablePaths (s : State) (d : Nat) (l : List (Nat × Reg)) : State :=
  let s := s.writePaths l
  { s with mnt := { s.mnt with chains := s.mnt.chains.filter (fun e => decide (e.1 ≠ d)) ++ [(d, l)] } }

/-- A source mat is retired: its slots are empty, it presents NULL and takes no token (R457 step 7, R460). -/
def State.retireMat (s : State) (p : Nat) : State :=
  let s := (upto 4).foldl (fun s k => s.emptySlot p k) s
  let s := (upto 16).foldl (fun s e => s.setEntry p e (lib0 0) false) s
  let s := (s.setFlag (gILLEGAL p) false).setFlag (gCROSIER p) false
  let s := (s.setFlag (gCLK_HELD p) false).set (gACTIVE p) 0
  let s := s.setFab p (fab0 0)
  { s.holdNull p with mnt := { s.mnt with retired := Tab.put bool0 s.mnt.retired p true,
                                          wanted := delNat p s.mnt.wanted } }

/-! ### When no reserve remains (R462) -/

/-- A mat is stopped: NULL on every wire, its pins under charter. -/
def State.stopMat (s : State) (m : Nat) : State :=
  let p := s.physMat m
  let s := (s.holdNull p).dropResponses p
  let s := { s with mnt := { s.mnt with stopped := Tab.put bool0 s.mnt.stopped p true } }
  (s.pinsOf m).foldl (fun s v => s.barPin 3 v) s

/-- A group is stopped. -/
def State.stopGroup (s : State) (g : Nat) : State :=
  let s := if g < 32 then s.setBit MNT_UNPLACED_LO g true else s.setBit MNT_UNPLACED_HI (g - 32) true
  let s := s.setGroup g { s.group g with stopWaits := false }
  (s.group g).mats.foldl State.stopMat s

/-- Retire the banks of a column that await a relocation which finds no target (R117, R462). -/
def State.retireFailing (s : State) (c : Nat) : State :=
  (upto 8).foldl (fun s b =>
    let k := bankId c b
    if Tab.get bool0 s.col.failing (s.serving k) ∧ (s.get (bankState k) = 0 ∨ s.get (bankState k) = 2) then
      s.retireBank k
    else s) s

/-- No eligible target for a set of physical mats: its groups and its mats in no group stop, a group whose
swap is in progress once that has ended (R462). -/
def State.unplaceable (s : State) (src : List Nat) : State :=
  let ms := src.map s.logMat
  let gs := (upto 64).filter (fun g => (s.group g).mats.any (fun m => decide (m ∈ ms)))
  let s := gs.foldl (fun s g =>
    if (s.group g).run.isSome then s.setGroup g { s.group g with stopWaits := true } else s.stopGroup g) s
  let s := (ms.filter (fun m => (s.groupOf m).isNone)).foldl State.stopMat s
  let first := match gs with
    | g :: _ => g
    | [] => 0xFF
  let s := match ms with
    | m :: _ => s.raiseSt 0xD002 srcStack stUNPLACEABLE [(18, 2, m), (20, 1, first), (21, 1, gs.length)]
    | [] => s
  let s := match src with
    | p :: _ => s.retireFailing (matCol p)
    | [] => s
  { s with mnt := { s.mnt with wanted := s.mnt.wanted.filter (fun q => decide (q ∉ src)) } }

end Sys2Proof.Machine
end

