-- ==== Sys2Proof/Machine/ProtectOps.lean ====
section
/-! DEFINITION.  Protective actions: FAULT_N, the charter of every pin, activities abandoned at once, the loss of
the fabric's holds and slots (R26, R331, R365, R412, R421, R434). -/

namespace Sys2Proof.Machine

open Sys2Proof

/-! ### FAULT_N (R434) -/

/-- FAULT_N is driven low while a cause of DEV_FAULT holds. -/
def State.showFault (s : State) : State := s.setFlag DEV_STATUS_FAULT (decide (s.rd DEV_FAULT ≠ 0))

/-- A cause of FAULT_N arises: 0 SEQ_FAIL, 1 NO_IMAGE, 2 RAIL_RESET, 3 CRITICAL, 4 POWER_CAP. -/
def State.setFault (s : State) (i : Nat) : State := (s.setBit DEV_FAULT i true).showFault

/-- Causes of FAULT_N end. -/
def State.clearFaults (s : State) (is : List Nat) : State :=
  (is.foldl (fun s i => s.setBit DEV_FAULT i false) s).showFault

/-! ### Pins and pacers -/

/-- Every user pin is put under charter for a cause (R331). -/
def State.charterAll (s : State) (i : Nat) : State := allPins.foldl (fun s v => s.barPin i v) s

/-- Every pacer that is not OFF stops. -/
def State.stopPacers (s : State) : State :=
  (upto 64).foldl (fun s p => if s.paceState p = 0 then s else s.stopPacer p) s

/-- Every mat presents NULL. -/
def State.nullAll (s : State) : State := (upto 512).foldl (fun s p => s.holdNull p) s

/-! ### What is staged (R365, R367, R373) -/

/-- The staging buffer is emptied. -/
def State.unstage (s : State) : State :=
  let s := ((s.set CFG_STAGE_STATE 0).set CFG_STAGE_KIND 0).wr CFG_STAGE_BYTES 0
  { s with img := { s.img with staged := none, ref := none } }

/-- The library chain takes a pack that has written an entry (R398). -/
def State.chainPack (s : State) (p : PackRun) : State :=
  if p.written = 0 then s
  else
    let bytes := leBytes 64 s.img.libChain.toNat ++ leBytes 64 p.image.measure.toNat
    { s with img := { s.img with libChain := Config.sha512 bytes, packs := satBits 16 (s.img.packs + 1) } }

/-- A pack whose writes end early: entries written until then stay VALID, the rest have VALID 0 (R373, R396, R398). -/
def State.failPack (s : State) (status : Nat) : State :=
  match s.img.pack with
  | none => s
  | some p =>
    let s := ({ s with img := { s.img with pack := none } } : State).chainPack p
    let s := p.left.foldl (fun s x =>
      s.setBit (COL_CTX_LIB (matCol (s.physMat x.1)) (matG (s.physMat x.1))) x.2 false) s
    (s.finish p.ref status 0).unstage

/-! ### Activities abandoned by a protective action (R26) -/

/-- The column agent submits its repair again after recovery: due at once when device time next runs. -/
def State.repairAgain (s : State) (a : Act) : State :=
  { s with mnt := { s.mnt with again := s.mnt.again ++ [(0, a.task, a.locks, a.requester, a.resource)] } }

/-- A relocation is given up before its cut is complete: the targets are empty again, and the source's
relocation is requested anew or the RELOCATE ends (R26, R457). -/
def State.dropReloc (s : State) (r : Reloc) (ref : Option CmdRef) : State :=
  let s := r.dst.foldl (fun s d =>
    let s := (upto 4).foldl (fun s k => s.emptySlot d k) s
    (upto 16).foldl (fun s e => s.setEntry d e (lib0 0) false) s) s
  match ref, r.src with
  | some x, _ => s.finish x stHW_FAULT 0
  | none, q :: _ => s.wantReloc q
  | none, [] => s

/-- A survey that waits ends with a status (R321, R474). -/
def State.endWaitingSurvey (s : State) (a : Act) (status : Nat) : State :=
  let s := { s with pins := { s.pins with surveys := s.pins.surveys.filter (fun x => decide (some x.ref ≠ a.ref)) } }
  (s.finishRef a.ref status 0).release a.place

/-- Abandon one activity: the resources it used return to the arrangement in service before it began. -/
def State.abandonAct (s : State) (a : Act) : State :=
  match a.task with
  | .scrub _ => s.release a.place
  | .remap b => (((s.dropRemap b).repairAgain a).finishRef a.ref stHW_FAULT 0).release a.place
  | .spareSwap _ _ _ _ => ((s.repairAgain a).finishRef a.ref stHW_FAULT 0).release a.place
  | .reloc r => r.src.foldl State.serveHeld ((s.dropReloc r a.ref).release a.place)
  | .slice k i _ =>
    let s := s.setUnit k i { s.unit k i with outcome := 3 }
    (s.finishRef a.ref stOK 3).release a.place
  | .survey p => if a.st = .waiting then s.endWaitingSurvey a stREFUSED else s.abandonSurvey p
  | .nvImage k =>
    let s := if a.st = .waiting then s else s.blankSlot k.val
    ((s.finishRef a.ref stHW_FAULT 0).unstage).release a.place
  | .libLoad _ _ => (s.failPack stHW_FAULT).release a.place
  | .commit => s
  | .fwUpdate _ =>
    let s := { s with mnt := { s.mnt with fwPhase := 0, fwStaged := none } }
    (s.finishRef a.ref stHW_FAULT 0).release a.place
  | .recal => s.release a.place

/-- POWER_DOWN between its steps 1 and 3 when a protective action falls: the traverse is abandoned, no clean record is
written, and the command ends (R485; log entry). -/
def State.dropTraverse (s : State) : State :=
  if s.bist.down = 1 ∨ s.bist.down = 3 then
    let r := s.bist.downRef
    let s := s.mnt.acts.foldl (fun s a => match a.task with
      | .slice _ _ true => s.abandonAct a
      | _ => s) s
    let s := { s with bist := { s.bist with down := 4, downRef := none, left := [] } }
    (s.setFlag BIST_STATUS_TRAVERSE false).finishRef r stHW_FAULT 0
  else s

/-- Abandon every activity within a protected scope, running, waiting or suspended (R26, R475). -/
def State.protect (s : State) (scope : Task → Bool) : State :=
  let l := s.mnt.acts.filter (fun a => scope a.task)
  (l.foldl (fun s a => s.abandonAct a) s).dropTraverse

/-- Scope of a rail's reset level: everything but the field-book commit, which always ends (R408, R411). -/
def scopeReset (t : Task) : Bool := decide (taskCode t ≠ 9)

/-- Scope of the critical temperature: what works on the pins and on L1 and L3 (R421). -/
def scopeCritical (t : Task) : Bool :=
  match t with
  | .survey _ | .reloc _ => true
  | .slice k _ _ => decide (k = 0 ∨ k = 5)
  | _ => false

/-- Scope of the loss of HREF: transceivers and PLLs (R247). -/
def scopeHref (t : Task) : Bool :=
  match t with
  | .slice k _ _ => decide (k = 1 ∨ k = 4)
  | _ => false

/-! ### The fabric loses its holds and slots (R412, R421) -/

/-- A crosier load that has not ended ends with HW_FAULT, as SLOT_LOAD_FAIL of each of its mats says (R161). -/
def State.failCrosier (s : State) (c : Crosier) : State :=
  if c.stage < 2 then
    let s := c.mats.foldl (fun s m =>
      let q := s.physMat m
      let k := s.activeSlot q
      s.loadFailed q k (c.entry.getD (s.get (COL_CTX_SRC_ENTRY (matCol q) (matG q) k))) (if c.entry.isSome then 1 else 2)) s
    (s.crosierStatus c stHW_FAULT).dropCrosier c
  else s.dropCrosier c

/-- A load that has not ended ends with HW_FAULT likewise. -/
def State.failLoad (s : State) (r : LoadRun) : State :=
  let s := (r.mats.filter (fun m => decide (m ∉ r.failed))).foldl (fun s m =>
    s.loadFailed (s.physMat m) r.slot r.entry 0) s
  s.finish r.ref stHW_FAULT 0

/-- Swaps, crosier regions and loads end with HW_FAULT. -/
def State.endFabricWork (s : State) : State :=
  let s := (upto 64).foldl (fun s g =>
    let b := s.runBoundary g
    (s.abandonSwap g stHW_FAULT none none).afterSwap b) s
  let s := s.ctx.crosiers.foldl State.failCrosier s
  let l := s.ctx.loads
  l.foldl State.failLoad (s.setLoads [])

/-- VDD_F is turned off by SEQ_EN4: the holds and slots of L1 and L3 are lost. -/
def State.loseFabric (s : State) : State :=
  let s := s.endFabricWork.flushWindows
  let s := { s with pow := { s.pow with fOff := true } }
  let s := s.nullAll
  (upto 512).foldl (fun s p => (upto 4).foldl (fun s k => s.emptySlot p k) s) s

end Sys2Proof.Machine
end

