-- ==== Sys2Proof/Machine/ClockOps.lean ====
section
/-! DEFINITION.  The clocks as data: PLL lock, operating points, regional trees, block gating (R246 to R269). -/

namespace Sys2Proof.Machine

open Sys2Proof

/-! ### PLLs and start-up (R247, R251, R426, R435) -/

/-- PLL n of R30 is locked. -/
def State.pllLocked (s : State) (n : Nat) : Bool := s.bit CLK_STATUS (8 + n)

/-- PLL_S and PLL_F are locked. -/
def State.rootLocked (s : State) : Bool := s.pllLocked 0 && s.pllLocked 1

/-- P4 and P5 are complete once PLL_S and PLL_F are locked (R426, DEV_STATUS.PHASE 5). -/
def State.phaseFive (s : State) : State :=
  if s.get DEV_STATUS_PHASE = 4 ∧ s.rootLocked then s.set DEV_STATUS_PHASE 5 else s

/-- Start-up waits for HREF: P4 is complete and HREF is absent (R435). -/
def State.showWait (s : State) : State :=
  s.setFlag DEV_STATUS_WAIT_HREF (decide (4 ≤ s.get DEV_STATUS_PHASE ∧ s.get DEV_STATUS_PHASE < 6) &&
    !s.flag CLK_STATUS_HREF_PRESENT)

/-- Enabled lanes of a PLL lose their lock (R345). -/
def State.dropLanes (s : State) (on : Nat → Bool) : State :=
  (upto 32).foldl (fun s x =>
    if on (lanePll x) && s.flag (XL_CFG_EN x) && s.flag (XL_STATUS_RX_LOCK x) then s.downLane x 0 else s) s

/-- Tethers on lanes of a PLL go DOWN (R347). -/
def State.dropTethers (s : State) (on : Nat → Bool) : State :=
  (upto 8).foldl (fun s k =>
    if (tetherLanes k).any (fun x => on (lanePll x)) && s.tetherUp k then s.downTether k else s) s

/-- Pins that go under charter on the loss of HREF: those of mats of paced regions and those that gate
actions drive (R225, R436). -/
def State.hrefPins (s : State) : List Nat :=
  allPins.filter (fun v => s.gatePin v || (match s.pinMat v with
    | some m => (match s.regionOf m with
      | some p => decide (s.paceState p ≠ 0)
      | none => false)
    | none => false))

/-- A RUNNING pacer becomes FROZEN; whether its period was still open is kept (R169). -/
def State.freezePacers (s : State) : State :=
  (upto 64).foldl (fun s p =>
    if s.paceState p = 2 then
      (s.set (PACE_STATUS_STATE p) 3).updPacer p (fun x => { x with lostBefore := decide (x.ended = none) })
    else s) s

/-- FROZEN pacers run on: a period that HREF left before its deadline ends LATE with cause FORCED (R169). -/
def State.thawPacers (s : State) : State :=
  (upto 64).foldl (fun s p =>
    if s.paceState p = 3 then
      let s := s.set (PACE_STATUS_STATE p) 2
      let x := s.pacer p
      let s := s.setPacer p { x with lostBefore := false }
      if x.lostBefore ∧ x.ended = none then s.latePeriod p 2 else s
    else s) s

/-- Tracks whose position missed motion: ENCODER and TIME tracks and those that FOLLOW them (R225). -/
def State.gapTracks (s : State) : List Nat :=
  let clocked := fun t => decide (s.get (TAL_TRK_CFG_SOURCE t) = 1 ∨ s.get (TAL_TRK_CFG_SOURCE t) = 3)
  (upto 64).filter (fun t => s.trackOn t && (clocked t || (decide (s.get (TAL_TRK_CFG_SOURCE t) = 4) &&
    clocked (s.get (TAL_TRK_CFG_SRC_ARG t)))))

/-! ### Operating points (R255 to R258, R405) -/

/-- The least root divider rated at a VDD_B in mV (R256). -/
def minDiv (mv : Nat) : Nat := if 820 ≤ mv then 8 else if 780 ≤ mv then 9 else if 740 ≤ mv then 10 else 16

/-- An entry's value is rated and in range (R256). -/
def opRated (v : Reg) : Bool :=
  let div := fldGet v 0 6
  let mv := fldGet v 16 10
  decide (8 ≤ div ∧ div ≤ 32 ∧ 700 ≤ mv ∧ mv ≤ 850 ∧ minDiv mv ≤ div)

def State.setOp (s : State) (o : Option OpRun) : State := { s with clk := { s.clk with op := o } }

/-- The set point of the running transition is requested, unless AVSBus has failed (R257, R405). -/
def State.opAsk (s : State) : State :=
  match s.clk.op with
  | some o =>
    if o.requested ∨ s.flag PMU_STATUS_AVS_FAULT then s
    else
      let s := s.setOp (some { o with requested := true })
      { s with pow := { s.pow with reqB := some (s.get (CLK_OP_VDDB_MV o.dest)) } }
  | none => s

/-- A transition to an entry starts (R257): nothing for the entry in force. While HALVED one that lowers
holds before its request (R258). -/
def State.startOp (s : State) (k : Nat) : State :=
  if k = s.get CLK_STATUS_OP_CUR then s
  else
    let up := decide (s.pow.setB < s.get (CLK_OP_VDDB_MV k))
    let s := s.setFlag CLK_STATUS_OP_BUSY true
    (s.setOp (some { dest := k, orig := s.get CLK_STATUS_OP_CUR, raising := up, requested := false })).opAsk

/-- A waiting request starts when no transition runs and HALVED is clear (R257). -/
def State.pendingOp (s : State) : State :=
  if s.flag CLK_OP_CTL_PENDING ∧ s.clk.op = none ∧ s.flag CLK_STATUS_HALVED = false then
    (s.setFlag CLK_OP_CTL_PENDING false).startOp (s.get CLK_OP_CTL_REQ)
  else s

/-- The transition whose set point has been reached ends (R257 steps 3 and 3′); one that raised VDD_B
holds while HALVED (R258). -/
def State.endOp (s : State) : State :=
  match s.clk.op with
  | some o =>
    if o.requested = false ∨ s.pow.reqB.isSome ∨ (o.raising ∧ s.flag CLK_STATUS_HALVED) then s
    else
      let s := ((s.setOp none).set CLK_STATUS_OP_CUR o.dest).setFlag CLK_STATUS_OP_BUSY false
      (s.raise 0x0805 (srcSuper 0) [(18, 1, o.orig), (19, 1, o.dest), (20, 2, s.pow.setB)]).pendingOp
  | none => s

/-- An AVSBus transaction has succeeded: AVS_FAULT clears, and what waited for it is requested (R405). -/
def State.avsWorks (s : State) : State :=
  if s.flag PMU_STATUS_AVS_FAULT then
    let s := s.setFlag PMU_STATUS_AVS_FAULT false
    if s.flag CLK_STATUS_HALVED then s else s.opAsk
  else s

/-- VDD_B enters warning: the root divider doubles (R258). -/
def State.halve (s : State) (mv : Nat) : State :=
  if s.flag CLK_STATUS_HALVED then s
  else
    let s := { s.setFlag CLK_STATUS_HALVED true with clk := { s.clk with halvedAt := s.time } }
    s.raise 0x4806 (srcSuper 0) [(18, 2, mv)]

/-- VDD_B has recovered: the divider returns and the held transition continues (R258). -/
def State.unhalve (s : State) : State :=
  if s.flag CLK_STATUS_HALVED = false then s
  else
    let us := usBetween s.clk.halvedAt s.time
    let s := (s.setFlag CLK_STATUS_HALVED false).raise 0x0807 (srcSuper 0) [(18, 4, us)]
    (s.opAsk.endOp).pendingOp

/-! ### Regional trees (R259 to R265) -/

/-- Layer supervisor of a tree (R265, R273). -/
def srcTree (n : Nat) : Nat := srcSuper (if n < 16 then 1 else 3)

/-- A source of a tree is present (R260). -/
def State.srcPresent (s : State) (n src : Nat) : Bool := bitAt (s.get (CLK_TREE_STATUS_PRESENT n)) src

/-- Divider of PLL_F that a tree source runs at; 0 for EXT (R259, CLK_DIV, CLK_FDIV). -/
def State.srcDiv (s : State) (src : Nat) : Nat :=
  match src with
  | 0 => max 8 (s.get CLK_FDIV_CKA_DIV)
  | 1 => max 8 (s.get CLK_FDIV_CKB_DIV)
  | 2 => max 16 (s.get CLK_DIV_FPD_DIV)
  | _ => 0

/-- A tree's nominal output would exceed FMAX_MHZ (R261). -/
def State.overFmax (s : State) (n : Nat) (v : Reg) : Bool :=
  decide (s.get (CLK_TREE_STATUS_FMAX_MHZ n) * s.srcDiv (fldGet v 0 2) * (fldGet v 2 8 + 1) < 3200) &&
    decide (fldGet v 0 2 ≠ 3)

/-- STOPPED as RUN and the source in use make it (R264). -/
def State.showTree (s : State) (n : Nat) : State :=
  s.setFlag (CLK_TREE_STATUS_STOPPED n)
    (!(s.flag (CLK_TREE_CTL_RUN n) && s.srcPresent n (s.get (CLK_TREE_STATUS_SRC_CUR n))))

def State.setReleased (s : State) (n : Nat) (b : Bool) : State :=
  { s with clk := { s.clk with released := Tab.put bool0 s.clk.released n b } }

/-- A switch goes as far as its sources let it (R262): with the old source present it is released and the
output held low; then with the new one present it is connected. -/
def State.runSwitch (s : State) (n : Nat) : State :=
  if s.flag (CLK_TREE_STATUS_SWITCH_PENDING n) = false then s
  else
    let s := if s.srcPresent n (s.get (CLK_TREE_STATUS_SRC_CUR n)) then s.setReleased n true else s
    if Tab.get bool0 s.clk.released n = false then s
    else if s.srcPresent n (s.get (CLK_TREE_CTL_SRC n)) then
      let s := (s.set (CLK_TREE_STATUS_SRC_CUR n) (s.get (CLK_TREE_CTL_SRC n))).setReleased n false
      ((s.setFlag (CLK_TREE_STATUS_SWITCH_PENDING n) false).setFlag (CLK_TREE_STATUS_HUNG n) false).showTree n
    else s.setFlag (CLK_TREE_STATUS_STOPPED n) true

/-- A forced switch acts at once (R263). -/
def State.forceSwitch (s : State) (n src : Nat) : State :=
  let s := (s.set (CLK_TREE_STATUS_SRC_CUR n) src).setReleased n false
  let s := { s with ctx := { s.ctx with clkHigh := Tab.put bool0 s.ctx.clkHigh n false } }
  let s := { s with clk := { s.clk with refusing := Tab.put bool0 s.clk.refusing n true } }
  let s := ((s.setFlag (CLK_TREE_STATUS_SWITCH_PENDING n) false).setFlag (CLK_TREE_STATUS_HUNG n) false).showTree n
  s.raise 0x080A (srcTree n) [(18, 1, n), (19, 1, src), (20, 1, b2n (!s.srcPresent n src))]

/-- A write of CLK_TREEn_CTL (R261 to R265). -/
def State.writeTree (s : State) (n : Nat) (v : Reg) : State :=
  let old := s.rd (CLK_TREE_CTL n)
  let force := v.getLsbD 31
  let src := fldGet v 0 2
  let moved := decide (fldGet v 0 10 ≠ fldGet old 0 10)
  if s.overFmax n v || (s.flag (CLK_TREE_STATUS_SWITCH_PENDING n) && moved && !force) then
    s.setFlag (CLK_TREE_STATUS_IGNORED n) true
  else
    let s := s.plainWrite (CLK_TREE_CTL n) v
    if force then s.forceSwitch n src
    else if src ≠ fldGet old 0 2 then
      let s := { s with clk := { s.clk with switchAt := Tab.put word0 s.clk.switchAt n s.time } }
      (s.setFlag (CLK_TREE_STATUS_SWITCH_PENDING n) true).runSwitch n
    else if s.flag (CLK_TREE_STATUS_SWITCH_PENDING n) then s
    else s.showTree n

/-! ### Block gating (R266 to R269) -/

/-- Group of an enable bit: 1 IO, 2 LANES, 3 TALLY, 4 SVC, 5 TEST (R267); none for a reserved bit. -/
def enGroup (second : Bool) (i : Nat) : Option Nat :=
  if second then
    if i < 8 then some 2 else if i < 16 then some 3 else if i < 20 then some 4 else none
  else if i < 14 then some 1 else if i = 14 then some 5 else none

/-- The condition under which an enable bit may be cleared (R267). -/
def State.mayGate (s : State) (second : Bool) (i : Nat) : Bool :=
  if second then
    if i < 8 then (upto 4).all (fun j => !s.flag (XL_CFG_EN (4 * i + j)))
    else if i < 16 then (upto 64).all (fun t => !(s.trackOn t && decide (s.get (TAL_TRK_CFG_ENGINE t) = i - 8)))
    else (Tab.get core0 s.core.cores (i - 12)).inReset
  else if i < 8 then (upto 16).all (fun j => !s.flag (FP_CFG_EN (16 * i + j)))
  else if i < 14 then (upto 16).all (fun j => decide (s.get (GPIO_OWNER_KIND (16 * (i - 8) + j)) = 0))
  else s.mnt.acts.all (fun a => !Act.runsSlice a)

/-- An enable or group write is ignored for a bit: register 0 CLK_EN0, 1 CLK_EN1, 2 CLK_GRP (R267, R269). -/
def State.gateRefused (s : State) (reg bit : Nat) : State :=
  ((s.setFlag CLK_GATE_STATUS_REFUSED true).set CLK_GATE_STATUS_REFUSED_REG reg).set CLK_GATE_STATUS_REFUSED_BIT bit

def enReg (second : Bool) : Nat := if second then CLK_EN1 else CLK_EN0

/-- One bit of a write of an enable register. -/
def State.writeEnBit (s : State) (second : Bool) (i : Nat) (b : Bool) : State :=
  match enGroup second i with
  | none => s
  | some g =>
    if s.bit (enReg second) i = b then s
    else if (if b then s.bit CLK_GRP g else s.mayGate second i) then s.setBit (enReg second) i b
    else s.gateRefused (b2n second) i

/-- Blocks of a group are enabled. -/
def State.groupUsed (s : State) (g : Nat) : Bool :=
  [false, true].any (fun r => (upto 20).any (fun i => decide (enGroup r i = some g) && s.bit (enReg r) i))

/-- A write of CLK_GRP (R269): a parent with a child that stays enabled is not turned off, a child whose
parent is off after the write is not turned on. -/
def State.writeGrp (s : State) (v : Reg) : State :=
  let stays := fun g => s.bit CLK_GRP g && (v.getLsbD g || s.groupUsed g)
  let root := v.getLsbD 0 || (s.bit CLK_GRP 0 && ([1, 2, 3, 4, 5].any stays))
  let s' := if root ∧ v.getLsbD 0 = false then s.gateRefused 2 0 else s
  ([1, 2, 3, 4, 5] : List Nat).foldl (fun s g =>
    if s.bit CLK_GRP g then
      if v.getLsbD g then s else if s.groupUsed g then s.gateRefused 2 g else s.setBit CLK_GRP g false
    else if v.getLsbD g then if root then s.setBit CLK_GRP g true else s.gateRefused 2 g
    else s) (s'.setBit CLK_GRP 0 root)

end Sys2Proof.Machine
end

