-- ==== Sys2Proof/Machine/TimeOps.lean ====
section
/-! DEFINITION.  Device time, its corrections, and the boundary of a pacer as data (R165 to R175, R249). -/

namespace Sys2Proof.Machine

open Sys2Proof

/-! ### Device time (R165 to R167, R249) -/

/-- Some pacer is ARMED or RUNNING. -/
def State.anyPacer (s : State) : Bool := (upto 64).any (fun p => decide (s.paceState p = 1 ∨ s.paceState p = 2))

/-- What is left to slew (R167). One step moves 2 ns; a last odd ns is not moved (log entry 28). -/
def State.setSlew (s : State) (x : Int) : State :=
  let x := if -2 < x ∧ x < 2 then 0 else x
  { s with pace := { s.pace with slew := x } }.setFlag CLK_TIME_STATUS_SLEWING (decide (x ≠ 0))

/-- Set device time once to a corrected value (R167); the TIME tracks step with it (R224). -/
def State.stepTime (s : State) (off : Int) : State :=
  let s := { s with time := s.time + BitVec.ofInt 64 off }
  let s := (s.setSlew 0).moveTimeTracks.setFlag CLK_TIME_STATUS_STEPPED true
  s.raise 0x0507 (srcHif 0) [(18, 8, toBits 64 off)]

/-- Apply an offset or a correction in ns (R167): by slewing, or by stepping when it is greater than the
step limit and no pacer is ARMED or RUNNING. -/
def State.correctTime (s : State) (off : Int) : State :=
  if off.natAbs ≤ s.get CLK_TIME_CTL_STEP_LIMIT_US * 1000 ∨ s.anyPacer then s.setSlew off else s.stepTime off

/-- MEAN_PPM in force (R249, R274). -/
def State.meanPpm (s : State) : Nat := if s.flag CLK_SSC_SSC_DECL then min 5000 (s.get CLK_SSC_MEAN_PPM) else 0

/-- TIME ticks from one slewed tick to the next: 20 µs, and 2 µs for a tether's follower (R167, R349). -/
def State.slewGap (s : State) : Nat := if s.followsTether then 1000 else 10000

/-- One TIME tick of device time: 2 ns; 4 ns for the declared spread; 4 ns or 0 ns at most once in the slewing
gap while an offset is slewed. -/
def State.tick (s : State) : State :=
  let acc := s.pace.spread + s.meanPpm
  let wait := s.pace.slewWait
  if 1000000 ≤ acc then
    { s with time := s.time + 4, pace := { s.pace with spread := acc - 1000000, slewWait := wait - 1 } }
  else if wait = 0 ∧ s.pace.slew ≠ 0 then
    let x := s.pace.slew
    let s := { s with time := if 0 < x then s.time + 4 else s.time,
                      pace := { s.pace with spread := acc, slewWait := s.slewGap - 1 } }
    s.setSlew (if 0 < x then x - 2 else x + 2)
  else { s with time := s.time + 2, pace := { s.pace with spread := acc, slewWait := wait - 1 } }

/-- The device has recovered from a protective action: it is in service, with VDD_F on (R26, R412). -/
def State.backInService (s : State) : Bool :=
  decide (s.get DEV_STATUS_PHASE = 6) && decide (s.dev.fRestart = 0) && s.dev.restart.isNone && !s.pow.fOff

/-- Submit a repair again: a remap that a protective action has undone starts anew, at b8 or by relocation
(R26, R115, R117). -/
def State.submitRepair (s : State) (again : Bool) (t : Task) (locks : List Lock) (requester resource : Nat) : State :=
  match again, t with
  | true, .remap b => if s.get (bankState b) = 0 then s.startRemap b else s
  | _, _ => s.submitOwn t locks requester resource

/-- Submissions refused with NO_SPACE are submitted again 1 ms later (R471); repairs that a protective action
abandoned, which bear no time, after recovery (R26). -/
def State.submitAgain (s : State) : State :=
  let ripe (x : Word × Task × List Lock × Nat × Nat) : Bool :=
    decide (x.1 ≤ s.time) && (decide (x.1 ≠ 0) || s.backInService)
  let due := s.mnt.again.filter ripe
  let s := { s with mnt := { s.mnt with again := s.mnt.again.filter (fun x => !ripe x) } }
  due.foldl (fun s x => s.submitRepair (decide (x.1 = 0)) x.2.1 x.2.2.1 x.2.2.2.1 x.2.2.2.2) s

/-! ### Starting a pacer (R168, R170) -/

/-- PERIOD, PHASE and MARGIN within R168. -/
def paceFieldsOk (period phase margin : Nat) : Bool :=
  decide (2000 ≤ period ∧ period ≤ 1000000000 ∧ phase < period ∧ 80 ≤ margin ∧ margin ≤ 1000000 ∧
    2 * margin ≤ period)

/-- The earliest boundary at least 10 µs ahead. -/
def firstBoundary (now period phase : Nat) : Nat :=
  let t := now + 10000
  if t ≤ phase then phase else phase + (t - phase + period - 1) / period * period

/-- A pacer becomes ARMED with the settings in its registers (R170, R196). -/
def State.armPacer (s : State) (p : Nat) (ops : List PaceOp) : State :=
  let b := firstBoundary s.time.toNat (s.get (PACE_PERIOD_PERIOD_NS p)) (s.get (PACE_PHASE_PHASE_NS p))
  (s.set (PACE_STATUS_STATE p) 1).updPacer p (fun x =>
    { x with next := BitVec.ofNat 64 b, done := [], isDone := false, tc := none, ended := none,
             withdrawn := false, boundaryHeld := false, swapsDue := false, actsDue := false, forced := false,
             first := true, ops := ops,
             slackVal := none, ivSlack := none, ivLate := false, lostBefore := false })

/-! ### Boundary actions (R170, R174, R175, R181) -/

/-- Period n begins at B(n): its number and start, the sampled record; the boundary actions are due. -/
def State.beginPeriod (s : State) (p n : Nat) (b : Word) (record : List Word) : State :=
  let nn := BitVec.ofNat 64 n
  let s := (s.wr64 (PACE_NUM_LO p) (PACE_NUM_HI p) nn).wr64 (PACE_START_LO p) (PACE_START_HI p) b
  let s := s.set (PACE_STATUS_STATE p) 2
  let period := BitVec.ofNat 64 (s.get (PACE_PERIOD_PERIOD_NS p))
  s.updPacer p (fun x =>
    { x with next := b + period, done := [], isDone := false, tc := none, ended := none, first := false,
             boundaryHeld := true, swapsDue := true, actsDue := true, forced := false, lostBefore := false,
             record := ((upto 16).zip record).foldl (fun t e => Tab.put word0 t e.1 e.2) [] })

/-- The boundary of period n at device time b (R147, R170, R174, R175, R181): pins and tracks are sampled for the mats
that the region has from now on, the committed levels appear, and the boundary actions run, or are held while a
restore has not ended (R182). -/
def State.boundary (s : State) (p n : Nat) (b : Word) : State :=
  let x := s.pacer p
  if x.ops.any (fun o => decide (o.op = 0) && decide (o.at_.toNat < n)) then
    -- the pacer stops at the end of period n - 1, once a restore has ended
    if x.flushing then s
    else
      let s := s.assertSource (64 + p)
      let s := if x.ended = some true then s.showCommitted p x.mats else s
      (s.boundaryOps p n b x.ops).1
  else
  let s := s.assertSource (64 + p)
  let rec_ := s.sampleRecord p x.membersThen (BitVec.ofNat 64 n) b (decide (x.ended = some false))
    (x.first || x.binds.any (fun o => o.bind))
  let s := if x.ended = some true then s.showCommitted p x.mats else s
  (s.beginPeriod p n b rec_).resumeBoundary p

/-! ### Deadline and the cut of a relocation (R458) -/

/-- The cut waits: a set mat's group swaps, or a set mat lies between steps 1 and 5 of a crosier load. -/
def State.cutWaits (s : State) (r : Reloc) : Bool :=
  r.src.any (fun q =>
    let m := s.logMat q
    (s.swapOf m).isSome || (match s.crosierOf m with
      | some c => decide (c.stage < 2)
      | none => false))

/-- Prepared relocations with a set mat in the region reach their cut point, while a stack manager runs (R465); the
period of another region that the cut falls into is LATE as well. -/
def State.reachCut (s : State) (p : Nat) : State :=
  if s.flag HIF_STATUS_CMD_READY = false then s else
  s.mnt.acts.foldl (fun s a =>
    match a.task with
    | .reloc r =>
      if r.stage = 2 ∧ a.st = .running ∧ s.cutWaits r = false ∧
          r.src.any (fun q => decide (s.regionOf (s.logMat q) = some p)) then
        let s := s.setTask a.place (.reloc { r with stage := 3, cutAt := s.time })
        r.src.foldl (fun s q => match s.regionOf (s.logMat q) with
          | some o => if o ≠ p ∧ 2 ≤ s.paceState o ∧ (s.pacer o).ended = none then
              s.updPacer o (fun x => { x with forced := true }) else s
          | none => s) s
      else s
    | _ => s) s

/-- The deadline D(n): commit or LATE (R181, R185). -/
def State.deadlineAt (s : State) (p : Nat) : State :=
  let s := s.reachCut p
  let x := s.pacer p
  if s.forcedNow p then s.latePeriod p 2
  else if x.isDone = false then s.latePeriod p 0
  else match x.tc with
    | some tc => if tc.toNat ≤ s.deadline p then s.commitPeriod p tc.toNat else s.latePeriod p 1
    | none => s.latePeriod p 1

end Sys2Proof.Machine
end

