-- ==== Sys2Proof/Machine/Lanes.lean ====
section
/-! DEFINITION.  Lane and tether commands but for those that end in a boot choice (chapter 11). -/

namespace Sys2Proof.Machine

open Sys2Proof

/-! ### Lanes (R339 to R345) -/

/-- A write of XL_CFG that leaves EN 0, with a reason where it was refused. -/
def State.stopLane (s : State) (x : Nat) (cfg : Reg) (reason : Nat) : State :=
  let was := s.flag (XL_CFG_EN x)
  let s := s.wr (XL_CFG x) (fldPut cfg 0 1 0)
  let s := if was then s.freeLane x else s
  if reason = 0 then s else s.laneRefused x reason

/-- An enabled lane whose rate and coding stay: changing LOOP resets its alignment (R344). -/
def State.retuneLane (s : State) (x : Nat) (cfg : Reg) : State :=
  let moved := decide (s.get (XL_CFG_LOOP x) ≠ fldGet cfg 8 2)
  let s := s.wr (XL_CFG x) cfg
  if moved then
    (s.setLane { s.lane with looped := Tab.put nil0 s.lane.looped x [] }).setFlag (XL_STATUS_ALIGNED x) false
  else s

/-- A write of XL_CFG (R339, R340, R250, R483). CODE 5 is set by the tether only. -/
def State.writeLane (s : State) (x : Nat) (v : Reg) : State :=
  let old := s.rd (XL_CFG x)
  let v := if fldGet v 5 3 = 5 then fldPut v 5 3 (fldGet old 5 3) else v
  let cfg := regAfter (XL_CFG x) old v
  let code := fldGet cfg 5 3
  let rate := fldGet cfg 1 4
  let kind := s.get (XL_OWNER_KIND x)
  if kind = 3 then s.laneRefused x 2
  else if cfg.getLsbD 0 = false then s.stopLane x cfg 0
  else if s.unitSuspect 1 x then s.laneRefused x 4
  else if laneModeOk code rate kind = false ∨ (kind = 2 ∧ s.laneQueuesOk x = false) then s.stopLane x cfg 2
  else if s.flag CLK_STATUS_SSC_SEEN ∧ laneEthernet code then (s.stopLane x cfg 2).sscConflict (srcXl x) 0 x
  else if old.getLsbD 0 ∧ fldGet old 1 7 = fldGet cfg 1 7 then s.retuneLane x cfg
  else match s.takeSynth (lanePll x) (rateBase rate) [x] with
    | none => s.stopLane x cfg 1
    | some y => s.startLane x y cfg

/-- LANE_ENABLE (R339, R340): a write of XL_CFG with EN 1. -/
def execLaneEnable (req : Requester) (lane : LaneId) (value : Reg) (s : State) :
    Host.Outcome State Fault Refusal :=
  .next (s.regWrite req (XL_CFG lane.val) (fun s => s.writeLane lane.val value))

/-- LANE_DISABLE (R339, R479): a write of XL_CFG with EN 0. -/
def execLaneDisable (req : Requester) (lane : LaneId) (value : Reg) (s : State) :
    Host.Outcome State Fault Refusal :=
  .next (s.regWrite req (XL_CFG lane.val) (fun s => s.writeLane lane.val value))

/-- The lane has what it is to lose: 0 lock, 1 alignment, 2 freedom from HI_BER (CODE 3 and 4). -/
def State.canLose (s : State) (x cause : Nat) : Bool :=
  match cause with
  | 0 => s.flag (XL_STATUS_RX_LOCK x)
  | 1 => s.flag (XL_STATUS_ALIGNED x)
  | _ => laneEthernet (s.get (XL_CFG_CODE x)) && !s.flag (XL_STATUS_HI_BER x)

/-- LANE_DOWN (R350). -/
def execLaneDown (lane : LaneId) (cause : Fin 3) (s : State) : Host.Outcome State Fault Refusal :=
  if s.flag (XL_CFG_EN lane.val) && s.canLose lane.val cause.val then .next (s.downLane lane.val cause.val)
  else .next s

/-- LANE_UP (R345, R350). -/
def execLaneUp (lane : LaneId) (s : State) : Host.Outcome State Fault Refusal :=
  if s.flag (XL_CFG_EN lane.val) && s.laneClocked lane.val then .next (s.upLane lane.val) else .next s

/-- Bits of a token that a coding uses (R341). -/
def laneBits (code : Nat) (b : BitVec 72) : Nat :=
  match code with
  | 0 => b.toNat % 2 ^ 64
  | 1 => b.toNat
  | _ => b.toNat % 2 ^ 66

/-- A received token for a mat (R341 to R343). -/
def State.laneToMat (s : State) (x : Nat) (rx : LaneRx) : State :=
  let q := s.physMat (s.get (XL_OWNER_MAT x))
  let blocked := s.matBlocked q
  let s := if rx.ready && !blocked then
      s.emit (.token q (.lane x) (laneBits (s.get (XL_CFG_CODE x)) rx.bits))
    else s.laneOverrun x
  if rx.block = .start ∧ blocked = false then s.laneStamp x false rx.stampTaken else s

/-- A received item for a queue (R312, R341). -/
def State.laneToQueue (s : State) (lane : LaneId) (rx : LaneRx) : State :=
  let x := lane.val
  let q := s.get (XL_QUEUES_RXQ x)
  let w := if s.get (XL_CFG_CODE x) = 1 then rxItem 2 (rx.bits.setWidth 56) rx.count false
    else rx.bits.setWidth 64
  if s.endMatches q true (.lane lane) = false then s
  else if s.canPush q rx.gapBefore = false then s.laneOverrun x
  else s.pushItem q w rx.gapBefore rx.gapAfter

/-- What the receive path of a lane gets (R344): what arrives at the pins, sent out again in a far-end loopback; in a
near-end loopback what the lane itself has sent, none when it has sent nothing. -/
def State.loopRx (s : State) (x : Nat) (rx : LaneRx) : State × Option LaneRx :=
  match s.get (XL_CFG_LOOP x) with
  | 0 => (s, some rx)
  | 3 => (s.emit (.laneItem x (some rx.bits.toNat) false), some rx)
  | _ => match Tab.get nil0 s.lane.looped x with
    | [] => (s, none)
    | (b, k) :: l => (s.setLane { s.lane with looped := Tab.put nil0 s.lane.looped x l },
        some { rx with bits := b, block := k, count := b.extractLsb' 56 6, errors := 0 })

/-- LANE_RX_TOKEN (R341 to R345). -/
def execLaneRxToken (lane : LaneId) (rx : LaneRx) (s : State) : Host.Outcome State Fault Refusal :=
  let x := lane.val
  if s.laneReceives x = false then .next s
  else match s.loopRx x rx with
  | (s, none) => .next s
  | (s, some rx) =>
    let s := s.count (XL_CODEERRS x) ⟨XL_SAT x, 0, 1⟩ rx.errors.toNat
    match s.get (XL_OWNER_KIND x) with
    | 1 => .next (s.laneToMat x rx)
    | 2 => .next (s.laneToQueue lane rx)
    | _ => .next s

/-- The pins carry what the owner sends: not in the near-end PMA and the far-end loopback (R344). -/
def State.laneSends (s : State) (x : Nat) : Bool := decide (s.get (XL_CFG_LOOP x) < 2)

def State.laneEmit (s : State) (x : Nat) (item : Option Nat) (err : Bool) : State :=
  if s.laneSends x then s.emit (.laneItem x item err) else s

/-- What a lane sends comes back to it in a near-end loopback (R344). -/
def State.loopTx (s : State) (x : Nat) (b : BitVec 72) (k : LaneBlock) : State :=
  if s.get (XL_CFG_LOOP x) = 1 ∨ s.get (XL_CFG_LOOP x) = 2 then
    s.setLane { s.lane with looped := Tab.put nil0 s.lane.looped x (Tab.get nil0 s.lane.looped x ++ [(b, k)]) }
  else s

/-- A mat's transmit side (R342 to R344): a missing token within a frame makes one error block. -/
def State.laneFromMat (s : State) (x : Nat) (tx : LaneTx) : State :=
  let q := s.physMat (s.get (XL_OWNER_MAT x))
  let code := s.get (XL_CFG_CODE x)
  let tok := if s.matBlocked q then none else tx.token
  if s.get (XL_CFG_LOOP x) = 3 then s
  else match tok with
    | none =>
      if laneEthernet code && Tab.get bool0 s.lane.inFrame x then
        (s.laneEmit x none true).count (XL_UNDERRUNS x) ⟨XL_SAT x, 2, 1⟩ 1
      else s.laneEmit x none false
    | some b =>
      let inside := match tx.block with
        | .start => true
        | .terminate => false
        | .other => Tab.get bool0 s.lane.inFrame x
      let s := (s.laneEmit x (some (laneBits code b)) false).loopTx x b tx.block
      let s := s.setLane { s.lane with inFrame := Tab.put bool0 s.lane.inFrame x (laneEthernet code && inside) }
      if tx.block = .start then s.laneStamp x true tx.stampTaken else s

/-- A queue's transmit side (R312, R341, R342).  In a far-end loopback the queue keeps its items: R344 discards the
owner's tokens and does not speak of items (DESIGN CHOICE, log entry 75). -/
def State.laneFromQueue (s : State) (lane : LaneId) (tx : LaneTx) : State :=
  let x := lane.val
  let q := s.get (XL_QUEUES_TXQ x)
  if s.get (XL_CFG_LOOP x) = 3 ∨ s.endMatches q false (.lane lane) = false then s
  else match s.popItem q tx.ecc with
    | (s, none) => s.laneEmit x none false
    | (s, some it) =>
      let n := bitsAt it.item.toNat 56 6
      if s.get (XL_CFG_CODE x) = 1 ∧ (n = 0 ∨ 6 < n) then s.count (XL_CODEERRS x) ⟨XL_SAT x, 0, 1⟩ 1
      else (s.laneEmit x (some it.item.toNat) false).loopTx x (it.item.setWidth 72) .other

/-- LANE_TX_TOKEN (R341 to R345). -/
def execLaneTxToken (lane : LaneId) (tx : LaneTx) (s : State) : Host.Outcome State Fault Refusal :=
  let x := lane.val
  if (s.flag (XL_CFG_EN x) && s.laneClocked x) = false then .next s
  else match s.get (XL_OWNER_KIND x) with
    | 1 => .next (s.laneFromMat x tx)
    | 2 => .next (s.laneFromQueue lane tx)
    | _ => .next s

/-! ### Tethers (R346 to R349) -/

/-- XL_CFG of a tether's lane: EN, RATE 11, CODE 5. -/
def tetherCfg : Reg := 183#32

/-- Why a tether cannot be enabled as asked: a reason of XL_STATUS, 0 none (R250, R346, R483). -/
def State.tetherBar (s : State) (k : Nat) (v : Reg) : Nat :=
  let role := fldGet v 1 2
  if role = 0 ∨ role = 3 then 3
  else if role = 2 ∧ (upto 8).any (fun j => decide (j ≠ k) && s.flag (TH_CTL_EN j) &&
      decide (s.get (TH_CTL_ROLE j) = 2)) then 3
  else if (tetherLanes k).any (fun x => s.unitSuspect 1 x) then 4
  else if s.flag CLK_STATUS_SSC_SEEN then 2
  else 0

/-- A tether's write leaves EN 0 with a reason, shown on the quad's first lane. -/
def State.tetherRefused (s : State) (k : Nat) (v : Reg) (reason : Nat) : State :=
  ((s.plainWrite (TH_CTL k) v).setFlag (TH_CTL_EN k) false).laneRefused (4 * k) reason

/-- A tether is enabled: its four lanes take one synthesiser and CODE 5, and it trains (R346, R347). -/
def State.onTether (s : State) (k synth : Nat) (v : Reg) : State :=
  let s := s.plainWrite (TH_CTL k) v
  let s := (tetherLanes k).foldl (fun s x =>
    (if s.flag (XL_CFG_EN x) then s.freeLane x else s).set (XL_OWNER_KIND x) 3) s
  let s := (tetherLanes k).foldl (fun s x => s.startLane x synth tetherCfg) s
  s.set (TH_STATUS_STATE k) 1

/-- A write of TH_CTL (R346). -/
def State.writeTether (s : State) (k : Nat) (v : Reg) : State :=
  let old := s.rd (TH_CTL k)
  if regAfter (TH_CTL k) old v = old then s
  else
    let s := if old.getLsbD 0 then s.offTether k else s
    if v.getLsbD 0 = false then s.plainWrite (TH_CTL k) v
    else
      let bar := s.tetherBar k v
      if bar = 2 then (s.tetherRefused k v 2).sscConflict (srcTether k) 1 k
      else if bar ≠ 0 then s.tetherRefused k v bar
      else match s.takeSynth (lanePll (4 * k)) (rateBase 11) (tetherLanes k) with
        | none => s.tetherRefused k v 1
        | some y => s.onTether k y v

/-- TETHER_ENABLE (R346): a write of TH_CTL. -/
def execTetherEnable (req : Requester) (tether : TetherId) (value : Reg) (s : State) :
    Host.Outcome State Fault Refusal :=
  .next (s.regWrite req (TH_CTL tether.val) (fun s => s.writeTether tether.val value))

/-- The peer duplicates one already up, or claims the same role (R346). -/
def State.peerRefused (s : State) (k peer role : Nat) : Bool :=
  decide (role = s.get (TH_CTL_ROLE k)) ||
    (upto 8).any (fun j => decide (j ≠ k) && s.tetherUp j && decide (s.get (TH_STATUS_PEER j) = peer))

/-- TETHER_UP (R346, R347). -/
def execTetherUp (tether : TetherId) (peer : Fin 8) (peerRole : BitVec 2) (latNs : BitVec 10)
    (lanes : BitVec 4) (s : State) : Host.Outcome State Fault Refusal :=
  let k := tether.val
  if s.flag (TH_CTL_EN k) = false ∨ s.laneClocked (4 * k) = false ∨ s.tetherUp k ∨ lanes = 0 then .next s
  else if s.peerRefused k peer.val peerRole.toNat then .next (s.laneRefused (4 * k) 3)
  else
    let s := ((s.set (TH_STATUS_STATE k) 2).set (TH_STATUS_PEER k) peer.val).set (TH_STATUS_LAT_NS k) latNs.toNat
    let s := s.set (TH_STATUS_LANES_UP k) lanes.toNat
    let s := (upto 4).foldl (fun s i => if lanes.getLsbD i then s.upLane (4 * k + i) else s) s
    .next ((s.raise 0x0B03 (srcTether k) [(18, 1, peer.val), (19, 2, latNs.toNat)]).sendStream k)

/-- TETHER_STROBE (R149, R348): the follower's part of a swap is to begin at device time W. -/
def execTetherStrobe (tether : TetherId) (group : Id64) (slot : SlotId) (at_ : Word) (s : State) :
    Host.Outcome State Fault Refusal :=
  let k := tether.val
  if s.tetherUp k = false ∨ s.get (TH_CTL_ROLE k) ≠ 2 then .next s
  else
    let x := s.group group.val
    let r : SwapReq := { slot := slot.val, trigger := 3, ref := none, when_ := 1, at_ := at_, tether := false,
                         lead := some k, strobed := [], retries := 0xFF, boundary := none, no := 0, asker := none }
    .next (s.setGroup group.val { x with waiting := x.waiting ++ [r] })

/-- The boundary that waited goes on once the group's swap has ended. -/
def State.ifEnded (s : State) (g : Nat) (b : Option Nat) : State :=
  if (s.group g).run.isSome then s else s.afterSwap b

/-- TETHER_REPORT (R149): a follower is quiet, or its failure abandons the swap everywhere. -/
def execTetherReport (tether : TetherId) (group : Id64) (status : Byte) (s : State) :
    Host.Outcome State Fault Refusal :=
  let k := tether.val
  let g := group.val
  match (s.group g).run with
  | none => .next s
  | some r =>
    if k ∉ r.awaiting then .next s
    else if status = 0 then
      .next (((s.setRun g (some { r with awaiting := delNat k r.awaiting })).leadFlips g).ifEnded g r.boundary)
    else
      .next ((s.leadAbandon g { r with strobed := delNat k r.strobed } status.toNat
        (s.quietNow r) none).afterSwap r.boundary)

/-- TETHER_FLIP (R149, R348): steps 5 and 6 here, then FLIP_ACK. -/
def execTetherFlip (tether : TetherId) (group : Id64) (s : State) : Host.Outcome State Fault Refusal :=
  let g := group.val
  match (s.group g).run with
  | none => .next s
  | some r =>
    match r.quiet with
    | none => .next s
    | some l =>
      if r.lead ≠ some tether.val then .next s
      else .next (((s.flipGroup g r l).sendTether tether.val 5 g).afterSwap r.boundary)

/-- TETHER_ABANDON (R149): step 5′ here, or the strobed swap does not begin. -/
def execTetherAbandon (tether : TetherId) (group : Id64) (status : Byte) (s : State) :
    Host.Outcome State Fault Refusal :=
  let g := group.val
  let x := s.group g
  let mine := x.waiting.filter (fun r => decide (r.lead = some tether.val))
  match x.run with
  | some r =>
    if r.lead = some tether.val then
      .next ((s.abandonGroup g r status.toNat (s.quietNow r) none).afterSwap r.boundary)
    else .next (s.setGroup g { x with waiting := x.waiting.filter (fun r => decide (r ∉ mine)) })
  | none => .next (s.setGroup g { x with waiting := x.waiting.filter (fun r => decide (r ∉ mine)) })

/-- TETHER_FLIP_ACK (R348). -/
def execTetherFlipAck (tether : TetherId) (group : Id64) (s : State) : Host.Outcome State Fault Refusal :=
  .next { s with ctx := { s.ctx with
    acks := s.ctx.acks.filter (fun e => decide (¬ (e.1 = tether.val ∧ e.2.1 = group.val))) } }

/-- Progress towards TIME_ALIGNED: ten consecutive offsets within 4 ns set it, one beyond 20 ns clears it
(R349). -/
def State.noteAlign (s : State) (k off : Nat) : State :=
  let n := if off ≤ 4 then min 10 (Tab.get nat0 s.lane.aligned k + 1) else 0
  let s := s.setLane { s.lane with aligned := Tab.put nat0 s.lane.aligned k n }
  if n = 10 then s.setFlag (TH_STATUS_TIME_ALIGNED k) true
  else if 20 < off then s.setFlag (TH_STATUS_TIME_ALIGNED k) false
  else s

/-- TETHER_TIME (R349): `lead` is the lead's device time at the message's first bit. -/
def execTetherTime (tether : TetherId) (lead : Word) (s : State) : Host.Outcome State Fault Refusal :=
  let k := tether.val
  if s.tetherUp k = false ∨ s.get (TH_CTL_ROLE k) ≠ 2 then .next s
  else
    let off := (lead + BitVec.ofNat 64 (s.get (TH_STATUS_LAT_NS k)) - s.time).toInt
    let s := s.noteAlign k off.natAbs
    .next (if 1000 < off.natAbs ∧ s.anyPacer = false then s.stepTime off else s.setSlew off)

/-- TETHER_TIME_SEND (R347, R349): 100 µs after the last one, TIME on each tether of the lead that is UP; `resent` tells how often each
tether's messages had to be sent again. -/
def execTetherTimeSend (resent : List (BitVec 16)) (s : State) : Host.Outcome State Fault Refusal :=
  let due := match s.lane.sentAt with
    | some t => s.elapsed t 100000
    | none => true
  if due = false then .next s
  else
  let s := s.setLane { s.lane with sentAt := some s.time }
  let s := s.leadTethers.foldl (fun s k => s.sendTether k 6 s.time.toNat) s
  .next (((upto 8).zip resent).foldl (fun s e =>
    if s.tetherUp e.1 then s.count (TH_RETRIES e.1) (TH_SAT_RETRIES e.1) e.2.toNat else s) s)

/-- TETHER_CREDIT (R347): a follower has freed blocks. -/
def execTetherCredit (tether : TetherId) (blocks : BitVec 16) (s : State) : Host.Outcome State Fault Refusal :=
  let k := tether.val
  if s.tetherUp k ∧ s.get (TH_CTL_ROLE k) = 1 then
    .next (s.setLane { s.lane with credits := Tab.upd nat0 s.lane.credits k (· + blocks.toNat) })
  else .next s

end Sys2Proof.Machine
end

