-- ==== Sys2Proof/Machine/Contexts.lean ====
section
/-! DEFINITION.  Meanings of the rows on contexts, swaps and crosier regions (R122 to R155). -/

namespace Sys2Proof.Machine

open Sys2Proof

/-- Logical mats and times of a list of physical mats and times. -/
def State.logQuiet (s : State) (l : List (MatId × BitVec 32)) : List (Nat × Nat) :=
  l.map (fun e => (s.logMat e.1.val, e.2.toNat))

/-- The logical mats that a SCOPE, a MAT and a GROUP argument name; none where one is out of range or the
group has no member (R129, R155, R548). -/
def State.namedMats (s : State) (scope mat group : Nat) : Option (List Nat) :=
  if scope = 0 then (if group = 0 ∧ mat < 512 then some [mat] else none)
  else if scope = 1 ∧ group < 64 ∧ (s.group group).mats ≠ [] then some (s.group group).mats
  else none

/-! ### Loads -/

/-- CTX_LOAD (R127 to R129); WAIT_FLOOR_MS 0 acts as 10. A named mat under relocation makes the command wait (R473). -/
def execCtxLoad (h : Hdr) (mat : BitVec 16) (scope group slot entry waitMs : Byte) (s : State) :
    Host.Outcome State Fault Refusal :=
  .next (s.hostCmd h 0x20 (fun s =>
    match s.namedMats scope.toNat mat.toNat group.toNat with
    | none => s.ends stBAD_ARG
    | some mats =>
      if 4 ≤ slot.toNat ∨ 16 ≤ entry.toNat then s.ends stBAD_ARG
      else
        let r : LoadRun := { ref := hdrRef h 0x20, mats := mats, slot := slot.toNat, entry := entry.toNat,
                             writing := [], failed := [], held := true,
                             waitMs := if waitMs = 0 then 10 else waitMs.toNat, endedAt := s.time }
        if s.loadBlocked r then ((s.setLoads (s.ctx.loads ++ [r])).interim r.ref).goesOn
        else (s.startLoad r).goesOn))

/-- SLOT_LOAD_DONE (R127 steps 3 and 4, R99): the mat's check code matched at the first load, or at its
repetition; `failed` are the rhizoids that the sounding after a second mismatch finds. -/
def execSlotLoadDone (mat : MatId) (slot : SlotId) (match1 match2 : Bool)
    (failed : List (Fin 4 × Fin 56 × Fin 66)) (s : State) : Host.Outcome State Fault Refusal :=
  let q := mat.val
  let m := s.logMat q
  let k := slot.val
  match s.ctx.loads.find? (fun r => decide (r.slot = k) && decide (m ∈ r.writing)) with
  | none => .next s
  | some r =>
    let r := { r with writing := delNat m r.writing, endedAt := s.time }
    if match1 ∨ match2 then .next ((s.putLoad r).settleSlot q k).checkLoads
    else
      let s := (s.putLoad { r with failed := r.failed ++ [m] }).soundConfig q
      let s := (s.configFails q failed).emptySlot q k
      .next (s.loadFailed q k r.entry 0).checkLoads

/-- CTX_LOAD_WAIT_TIMEOUT (R129): WAIT_FLOOR_MS has passed since the writes ended. -/
def execCtxLoadWaitTimeout (ring : Fin 64) (id : BitVec 32) (s : State) : Host.Outcome State Fault Refusal :=
  match s.ctx.loads.find? (fun r => decide (r.ref.ring = ring.val ∧ r.ref.id = id)) with
  | none => .next s
  | some r =>
    if r.held ∨ r.writing ≠ [] ∨ s.loadWaits r = false ∨ s.elapsed r.endedAt (r.waitMs * 1000000) = false then .next s
    else .next (s.endLoad r)

/-! ### Swaps -/

/-- CTX_SWAP (R131 to R134, R149). -/
def execCtxSwap (h : Hdr) (group slot when_ tether : Byte) (at_ : Word) (s : State) :
    Host.Outcome State Fault Refusal :=
  .next (s.hostCmd h 0x21 (fun s =>
    let g := group.toNat
    let x := s.group g
    let r := { swapReq slot.toNat 0 (some (hdrRef h 0x21)) 0xFF none with
      when_ := when_.toNat, at_ := at_, tether := tether = 1 }
    if 64 ≤ g ∨ 4 ≤ slot.toNat ∨ 3 ≤ when_.toNat ∨ 2 ≤ tether.toNat ∨ x.mats = [] then s.ends stBAD_ARG
    else match when_.toNat with
      | 0 => (s.trigger g r).goesOn
      | 1 =>
        if at_ < s.time then s.ends stBAD_ARG
        else (s.setGroup g { x with timed := x.timed ++ [r] }).goesOn
      | _ => match x.schedPacer with
        | none => s.ends stBAD_ARG
        | some p =>
          if s.periodPast p at_.toNat then s.ends stBAD_ARG
          else (s.setGroup g { x with timed := x.timed ++ [r] }).goesOn))

/-- SWAP (R131, R132, R135 steps 1 to 3 and 1′): a trigger that waited is taken. One of a tether or a
pacer waits on while a swap runs, and for one that goes before it. -/
def execSwap (group : Id64) (slot : SlotId) (trigger : Fin 4) (s : State) : Host.Outcome State Fault Refusal :=
  let g := group.val
  let x := s.group g
  match (x.waiting ++ x.timed).find? (fun r =>
      decide (r.slot = slot.val) && decide (r.trigger = trigger.val) && s.ripeNow r) with
  | none => .next s
  | some r =>
    if (x.run.isSome ∨ s.outranked g r.trigger) ∧ (trigger.val = 1 ∨ trigger.val = 3) then .next s
    else
      let s := s.setGroup g { x with waiting := x.waiting.erase r, timed := x.timed.erase r }
      .next ((s.trigger g r).afterSwap r.boundary)

/-- SWAP_FLIP (R135 steps 4 to 6, R149): the last taking-part member is QUIET, before the timer expires. A follower
reports to its lead and waits; a lead waits for its followers. -/
def execSwapFlip (group : Id64) (quiet : List (MatId × BitVec 32)) (s : State) : Host.Outcome State Fault Refusal :=
  let g := group.val
  match (s.group g).run with
  | none => .next s
  | some r =>
    let l := s.logQuiet quiet
    if r.quiet.isSome ∨ r.mats.any (fun m => !l.any (fun e => decide (e.1 = m ∧ e.2 ≤ r.limit)) ||
        !s.mayRest (s.physMat m)) then .next s
    else
      let s := s.setRun g (some { r with quiet := some l })
      match r.lead with
      | some k => .next (s.sendTether k 2 g)
      | none => .next ((s.leadFlips g).afterSwap (if r.awaiting = [] then r.boundary else none))

/-- SWAP_TIMEOUT (R135 step 5′, R149): the timer, which started with the lead column's COL_SWAP_TIMEOUT, expires before
every member here, or in a follower, is QUIET. -/
def execSwapTimeout (group : Id64) (quiet : List (MatId × BitVec 32)) (s : State) :
    Host.Outcome State Fault Refusal :=
  let g := group.val
  match (s.group g).run with
  | none => .next s
  | some r =>
    let l := match r.quiet with
      | some l => l
      | none => (s.logQuiet quiet).filter (fun e => decide (e.1 ∈ r.mats))
    if s.elapsed r.withdrawnAt r.limit = false ∨
        (r.quiet = none ∧ r.mats.all (fun m => l.any (fun e => decide (e.1 = m)))) then .next s
    else .next ((s.abandonSwap g stSWAP_TIMEOUT (some l) none).afterSwap r.boundary)

/-- SWAP_REQUEST_TOKEN (R133, R142): `valid` is the code of driver 81. -/
def execSwapRequestToken (mat : MatId) (valid : Bool) (slot : SlotId) (s : State) :
    Host.Outcome State Fault Refusal :=
  let q := mat.val
  let m := s.logMat q
  if s.heldNull q ∨ s.flag (gCROSIER q) ∨ (s.crosierOf m).isSome then .next s
  else
    let s := s.emit (.token q (.auxAck 81) 1)
    match s.groupOf m with
    | none => .next s
    | some g =>
      if valid = false ∨ (s.activeCtx q).swapreqEn = false then .next s
      else .next (s.trigger g { swapReq slot.val 2 none 0xFF none with asker := some m })

/-! ### Phase schedules -/

/-- Phases of SCHEDULE_SET (R148): slot and offset. -/
def schedPhases (phases : List (BitVec 32)) : List (Nat × Nat) :=
  phases.map (fun w => (bitsAt w.toNat 30 2, bitsAt w.toNat 0 30))

/-- Offsets rise strictly and stay below a limit (R145). -/
def offsetsOk (limit : Nat) : List (Nat × Nat) → Bool
  | [] => true
  | [p] => decide (p.2 < limit)
  | p :: q :: l => decide (p.2 < q.2) && decide (p.2 < limit) && offsetsOk limit (q :: l)

/-- The group's mats lie in no paced region, or all in the region of the pacer (R148). -/
def State.groupOnPacer (s : State) (g p : Nat) : Bool :=
  let rs := (s.group g).mats.map s.regionOf
  rs.all (fun r => r.isNone) || rs.all (fun r => decide (r = some p))

/-- A schedule's slots give no CONFLICT in the columns of the group's mats (R105). -/
def State.schedClear (s : State) (g : Nat) (slots : List Nat) : Bool :=
  (s.group g).mats.all (fun m =>
    let c := matCol (s.physMat m)
    s.columnClear c (s.colCtx c) (some (g, slots)))

/-- What SCHEDULE_SET does (R145, R148), as a command or as a SCHEDULE frame of a pack. -/
def State.scheduleSet (group pacer mode count : Byte) (first : Word) (phases : List (BitVec 32)) (s : State) : CmdRes :=
  let g := group.toNat
  let p := pacer.toNat
  let x := s.group g
  let ph := schedPhases (phases.take count.toNat)
  if mode = 0 ∧ first = BitVec.allOnes 64 ∧ g < 64 then
    ((s.setGroup g { x with sched := none, pending := none }).refuseWhen2 g).ends stOK
  else if 64 ≤ g ∨ 64 ≤ p ∨ 3 ≤ mode.toNat ∨ 8 < count.toNat ∨ decide (mode = 0) ≠ decide (count = 0) ∨
      ph.length ≠ count.toNat ∨
      offsetsOk (s.get (PACE_PERIOD_PERIOD_NS p) - s.get (PACE_MARGIN_MARGIN_NS p)) ph = false ∨
      s.periodBegun p first.toNat ∨ s.groupOnPacer g p = false ∨ (mode ≠ 0 ∧ x.mats = []) then s.ends stBAD_ARG
  else if mode = 0 then (s.setGroup g { x with pending := some (first, p, none) }).ends stOK
  else if s.schedClear g (ph.map Prod.fst) = false then s.ends stCONTENTION
  else
    let c : Sched := { pacer := p, every := mode = 2, first := first, phases := ph, idx := 0, left := 8,
                       run := first.toNat, due := ph.length, no := x.schedNo + 1 }
    (s.setGroup g { x with pending := some (first, p, some c), schedNo := x.schedNo + 1 }).ends stOK

/-- SCHEDULE_SET (R145, R148). -/
def execScheduleSet (h : Hdr) (group pacer mode count : Byte) (first : Word) (phases : List (BitVec 32))
    (s : State) : Host.Outcome State Fault Refusal :=
  .next (s.hostCmd h 0x22 (State.scheduleSet group pacer mode count first phases))

/-- SCHEDULE_PHASE (R145, R146): a phase at an offset above 0 falls. -/
def execSchedulePhase (group : Id64) (phase : Fin 8) (s : State) : Host.Outcome State Fault Refusal :=
  let g := group.val
  match (s.group g).sched with
  | none => .next s
  | some c => match c.next with
    | none => .next s
    | some (_, off) =>
      if c.due = phase.val ∧ off ≠ 0 ∧ s.paceState c.pacer = 2 ∧
          (s.paceStart c.pacer).toNat + off ≤ s.time.toNat then .next (s.firePhase g none)
      else .next s

/-! ### Crosier loads -/

/-- CROSIER_LOAD (R152 step 1, R155). -/
def execCrosierLoad (h : Hdr) (mat : BitVec 16) (scope group entry : Byte) (s : State) :
    Host.Outcome State Fault Refusal :=
  .next (s.hostCmd h 0x23 (fun s =>
    match s.namedMats scope.toNat mat.toNat group.toNat with
    | none => s.ends stBAD_ARG
    | some mats =>
      if 16 ≤ entry.toNat then s.ends stBAD_ARG
      else
        let st := s.crosierTest mats (some entry.toNat)
        if st = stHW_FAULT then (s.crosierBarred mats (some entry.toNat)).ends st
        else if st ≠ stOK then s.ends st
        else (s.crosierEnter mats (some entry.toNat) none (some (hdrRef h 0x23))).goesOn))

/-- CROSIER_DRAINED (R152 steps 2 and 3, 3′): every transfer of the region of the mat has ended before the timer
expires; `quiet` gives each mat's time. -/
def execCrosierDrained (mat : MatId) (quiet : List (MatId × BitVec 32)) (s : State) :
    Host.Outcome State Fault Refusal :=
  match s.crosierOf (s.logMat mat.val) with
  | none => .next s
  | some c =>
    let l := s.logQuiet quiet
    if c.stage ≠ 0 ∨ l.any (fun e => decide (e.1 ∈ c.mats) && decide (c.limit < e.2)) then .next s
    else
      let s := c.mats.foldl (fun s m => s.crosierDrain c (quietNs l m (s.time - c.enteredAt).toNat) m) s
      let clear := c.mats.all (fun m =>
        let col := matCol (s.physMat m)
        s.columnClear col (s.colCtx col) none)
      if clear then
        let s := match c.inst with
          | some n => s.set (CFG_AX_STATUS_STATE n) 3
          | none => s
        .next (s.putCrosier { c with stage := 1 })
      else .next (s.crosierStays c stCONTENTION)

/-- CROSIER_WRITE_DONE (R152 steps 4, 5 and 4′): `failing` are the mats of the region that failed the
comparison twice. -/
def execCrosierWriteDone (mat : MatId) (failing : List MatId) (s : State) : Host.Outcome State Fault Refusal :=
  match s.crosierOf (s.logMat mat.val) with
  | none => .next s
  | some c =>
    if c.stage ≠ 1 then .next s
    else
      let bad := (failing.map (fun q => q.val)).filter (fun q => decide (s.logMat q ∈ c.mats))
      if bad = [] then .next (s.crosierRelease c)
      else
        let s := bad.foldl (fun s q =>
          let k := s.activeSlot q
          (s.soundConfig q).loadFailed q k (s.get (COL_CTX_SRC_ENTRY (matCol q) (matG q) k))
            (if c.inst.isSome then 2 else 1)) s
        .next (s.crosierStays c stHW_FAULT)

/-- CROSIER_TIMEOUT (R152 step 2′): nothing is written and the old context runs on; a region that was
left in crosier state stays in it (R153). -/
def execCrosierTimeout (mat : MatId) (quiet : List (MatId × BitVec 32)) (s : State) :
    Host.Outcome State Fault Refusal :=
  match s.crosierOf (s.logMat mat.val) with
  | none => .next s
  | some c =>
    if c.stage ≠ 0 ∨ s.elapsed c.enteredAt c.limit = false then .next s
    else
      let l := s.logQuiet quiet
      let stays := c.mats.any (fun m => s.flag (gCROSIER (s.physMat m)))
      let s := c.mats.foldl (fun s m =>
        let q := s.physMat m
        let s := s.set (COL_CTX_QUIETNS_TIME (matCol q) (matG q)) (satBits 32 (quietNs l m 0xFFFF_FFFF))
        let s := s.count (COL_CTX_SWAPTOS (matCol q) (matG q)) (COL_CTX_SAT_SWAPTOS (matCol q) (matG q)) 1
        if stays then s else (s.freePins m).setRunning q) s
      if stays then .next (s.crosierStays c stSWAP_TIMEOUT)
      else
        let s := c.mats.foldl (fun s m => s.serveHeld (s.physMat m)) (s.dropCrosier c)
        .next (s.crosierStatus c stSWAP_TIMEOUT)

end Sys2Proof.Machine
end

