-- ==== Sys2Proof/Machine/Pacing.lean ====
section
/-! DEFINITION.  Meanings of the rows on pacers, paced regions and device time (R165 to R187). -/

namespace Sys2Proof.Machine

open Sys2Proof

/-! ### Commands -/

/-- Offsets of a group's schedules of a pacer reach a limit (R170). -/
def State.phasesBeyond (s : State) (p limit : Nat) : Bool :=
  s.ctx.groups.any (fun e =>
    let past (c : Sched) : Bool := decide (c.pacer = p) && c.phases.any (fun f => decide (limit ≤ f.2))
    (match e.2.sched with
      | some c => past c
      | none => false) ||
    (match e.2.pending with
      | some (_, _, some c) => past c
      | _ => false))

/-- PACER_SET (R170). -/
def execPacerSet (h : Hdr) (pacer op slackPct flags : Byte) (period phase margin : BitVec 32) (at_ : Word)
    (s : State) : Host.Outcome State Fault Refusal :=
  .next (s.hostCmd h 0x30 (fun s =>
    let p := pacer.toNat
    let st := s.paceState p
    let o : PaceOp := { ref := hdrRef h 0x30, op := op.toNat, at_ := at_, slackPct := slackPct.toNat,
                        excl := flags = 1, period := period.toNat, margin := margin.toNat }
    if 64 ≤ p ∨ 3 ≤ op.toNat ∨ 50 < slackPct.toNat ∨ 1 < flags.toNat then s.ends stBAD_ARG
    else match op.toNat with
      | 0 =>
        if st = 0 then s.ends stOK
        else if st = 1 then (s.stopPacer p).ends stOK
        else if s.periodBegun p at_.toNat then s.ends stBAD_ARG
        else (s.updPacer p (fun x => { x with ops := x.ops ++ [o] })).goesOn
      | 1 =>
        let mg := if margin = 0 then 100 else margin.toNat
        if paceFieldsOk period.toNat phase.toNat mg = false then s.ends stBAD_ARG
        else if st ≠ 0 then s.ends stREFUSED
        else
          let s := (s.set (PACE_PERIOD_PERIOD_NS p) period.toNat).set (PACE_PHASE_PHASE_NS p) phase.toNat
          let s := (s.set (PACE_MARGIN_MARGIN_NS p) mg).set (PACE_STATUS_SLACK_PCT p)
            (if slackPct = 0 then 15 else slackPct.toNat)
          let s := s.setFlag (PACE_STATUS_GOV_EXCLUDE p) (flags = 1)
          (s.armPacer p [o]).goesOn
      | _ =>
        let mg := if margin = 0 then s.get (PACE_MARGIN_MARGIN_NS p) else margin.toNat
        if paceFieldsOk period.toNat 0 mg = false ∨ s.periodBegun p at_.toNat ∨
            s.phasesBeyond p (period.toNat - mg) then s.ends stBAD_ARG
        else if st = 0 then s.ends stREFUSED
        else (s.updPacer p (fun x => { x with ops := x.ops ++ [o] })).goesOn))

/-- REGION_BIND (R172 to R174).  OP 0 that names a mat which is not bound to the pacer changes nothing for it and
completes with OK: R174 names no status for it (DESIGN CHOICE, log entry 67). -/
def execRegionBind (h : Hdr) (pacer op scope group : Byte) (mat anchor : BitVec 16) (s : State) :
    Host.Outcome State Fault Refusal :=
  .next (s.hostCmd h 0x31 (fun s =>
    let p := pacer.toNat
    match s.namedMats scope.toNat mat.toNat group.toNat with
    | none => s.ends stBAD_ARG
    | some mats =>
      if 64 ≤ p ∨ 2 ≤ op.toNat then s.ends stBAD_ARG
      else
        let bind := decide (op = 1)
        let x := s.pacer p
        let old := x.membersThen
        let new := if bind then mats.foldl (fun l m => insNat m l) old else mats.foldl (fun l m => delNat m l) old
        let o : BindOp := { ref := hdrRef h 0x31, bind := bind, mats := mats, anchor := anchor.toNat }
        if (bind ∧ old = [] ∧ anchor.toNat ∉ mats) ∨ s.groupSplit new then s.ends stBAD_ARG
        else if bind ∧ (mats.any (fun m => match s.regionOf m with
              | some r => decide (r ≠ p)
              | none => false) ∨ new.any (s.matLeaves new)) then s.ends stREFUSED
        else if bind = false ∧ new ≠ [] ∧ mats.any (fun m => decide (x.anchorThen = some m)) then s.ends stREFUSED
        else if mats.any (fun m => s.flag (gCROSIER (s.physMat m)) || (s.crosierOf m).isSome ||
            s.relocLocked (s.physMat m)) then s.ends stBUSY
        else if s.paceState p = 0 then (s.applyBind p o).goesOn
        else (s.updPacer p (fun x => { x with binds := x.binds ++ [o] })).goesOn))

/-! ### The period -/

/-- PERIOD_BOUNDARY (R168, R181): the first TIME tick at or above B(n). -/
def execPeriodBoundary (pacer : Id64) (s : State) : Host.Outcome State Fault Refusal :=
  let p := pacer.val
  let x := s.pacer p
  if x.next ≤ s.time ∧ (s.paceState p = 1 ∨ s.paceState p = 2 ∧ x.ended.isSome) then
    .next (s.boundary p (if s.paceState p = 1 then s.firstNum p else (s.paceNum p).toNat + 1) x.next)
  else .next s

/-- PERIOD_DEADLINE (R168, R181): the first TIME tick at or above D(n). -/
def execPeriodDeadline (pacer : Id64) (s : State) : Host.Outcome State Fault Refusal :=
  let p := pacer.val
  if s.paceState p = 2 ∧ (s.pacer p).ended = none ∧ s.deadline p ≤ s.time.toNat then .next (s.deadlineAt p)
  else .next s

/-- LATE_RESTORE (R181 step 6′): the flush has ended. A boundary that was held runs on. -/
def execLateRestore (pacer : Id64) (s : State) : Host.Outcome State Fault Refusal :=
  let p := pacer.val
  if (s.pacer p).flushing then .next ((s.restorePeriod p).resumeBoundary p) else .next s

/-- DONE_TOKEN (R171, R180, R462). -/
def execDoneToken (mat : MatId) (s : State) : Host.Outcome State Fault Refusal :=
  let q := mat.val
  let m := s.logMat q
  if s.heldNull q ∨ (s.crosierOf m).isSome then .next s
  else
    let s := s.emit (.token q (.auxAck 80) 1)
    match s.regionOf m with
    | none => .next s
    | some p =>
      let x := s.pacer p
      if s.paceState p ≠ 2 ∨ x.ended.isSome ∨ (s.activeCtx q).doneEn = false then .next s
      else .next ((s.setPacer p { x with done := insNat m x.done }).checkDone p)

/-- REGION_QUIESCENT (R136, R181 step 4): the commit time of a done region. -/
def execRegionQuiescent (pacer : Id64) (s : State) : Host.Outcome State Fault Refusal :=
  let p := pacer.val
  let x := s.pacer p
  if x.isDone ∧ x.ended = none ∧ x.tc = none ∧ x.mats.all (fun m => s.mayRest (s.physMat m)) then
    let s := s.setPacer p { x with tc := some s.time }
    .next (x.mats.foldl (fun s m => s.setFlag (gQUIET (s.physMat m)) true) s)
  else .next s

/-- OUTPUT_LATCH_WRITE (R171, R176): a token of the anchor mat on the output-latch channel. -/
def execOutputLatchWrite (mat : MatId) (token : BitVec 76) (s : State) : Host.Outcome State Fault Refusal :=
  let q := mat.val
  let m := s.logMat q
  if s.heldNull q then .next s
  else match s.regionOf m with
    | none => .next s
    | some p =>
      let x := s.pacer p
      if x.anchor ≠ some m ∨ s.paceState p = 0 then .next s
      else if x.isDone then .next (s.count (PACE_AFTERDONE p) (PACE_SAT_AFTERDONE p) 1)
      else
        let k := bitsAt token.toNat 0 4
        let v := mergeBytes (bitsAt token.toNat 68 8) (Tab.get word0 x.work k) (BitVec.ofNat 64 (bitsAt token.toNat 4 64))
        .next (s.setPacer p { x with work := Tab.put word0 x.work k v })

/-! ### Device time -/

/-- TIME_TICK (R165, R167, R249). Tracks on TIME move with it, waiting records go out, and submissions
that the arbiter refused are made again. -/
def execTimeTick (s : State) : Host.Outcome State Fault Refusal :=
  if s.pace.timeOn = false then .next s
  else
    let s := s.tick.moveTimeTracks
    let s := (upto 8).foldl (fun s e => s.drainRecords e (Tab.get nil0 s.tal.recs e)) s
    .next s.submitAgain

/-- TIME_ADJ_WRITE (R166, R167); a follower whose tether is UP ignores it (R349). -/
def execTimeAdjWrite (req : Requester) (value : BitVec 32) (s : State) : Host.Outcome State Fault Refusal :=
  .next (s.regWrite req CLK_TIME_ADJ (fun s => if s.followsTether then s else s.correctTime value.toInt))

/-- A signed 64-bit value limited to 32 bits. -/
def satOffset (x : Word) : BitVec 32 := sat32 x.toInt

/-- PTM_EXCHANGE (R166): the offset host time minus device time; a tether's follower corrects nothing by it
(R349). -/
def execPtmExchange (offset : Word) (s : State) : Host.Outcome State Fault Refusal :=
  if s.flag CLK_TIME_CTL_PTM_EN = false then .next s
  else
    let s := (s.wr CLK_TIME_OFFSET (satOffset offset)).setFlag CLK_TIME_STATUS_PTM_VALID true
    let s := { s with pace := { s.pace with ptmAt := s.time } }
    .next (if s.followsTether then s else s.correctTime offset.toInt)

/-- The interval between PTM exchanges in ns: PTM_INTERVAL_MS, 0 acting as 1 (R166, R195). -/
def State.ptmInterval (s : State) : Nat := max 1 (s.get CLK_TIME_CTL_PTM_INTERVAL_MS) * 1000000

/-- PTM_LOST (R166): no exchange has succeeded for four intervals. -/
def execPtmLost (s : State) : Host.Outcome State Fault Refusal :=
  if s.flag CLK_TIME_STATUS_PTM_VALID ∧ s.elapsed s.pace.ptmAt (4 * s.ptmInterval) then
    .next ((s.setFlag CLK_TIME_STATUS_PTM_VALID false).raise 0x4508 (srcHif 0)
      [(18, 4, (s.rd CLK_TIME_OFFSET).toNat)])
  else .next s

end Sys2Proof.Machine
end

