-- ==== Sys2Proof/Machine/Tallies.lean ====
section
/-! DEFINITION.  The commands of the tally engines (spec/07_tallies.md). -/

namespace Sys2Proof.Machine

open Sys2Proof

/-! ### Host commands (R240 to R242) -/

/-- A mat number of TRACK_SET: a logical mat id, or 0xFFFF for none. -/
def trackMatOk (v : BitVec 16) : Bool := v = 0xFFFF || decide (v.toNat < 512)

/-- A port is owned by a tally engine (R223, R310). -/
def State.portOfEngine (s : State) (p e : Nat) : Bool :=
  decide (s.get (FP_OWNER_KIND p) = 2) && decide (s.get (FP_OWNER_ID p) = e)

/-- SOURCE and SRC_ARG are in range (R222). -/
def State.sourceOk (s : State) (t source arg : Nat) : Bool :=
  match source with
  | 0 | 2 => decide (arg = 0)
  | 1 => decide (arg % 2 = 0 ∧ arg < 128)
  | 3 => decide (arg < 16)
  | 4 => decide (arg < 64) && decide (arg ≠ t) && decide (s.get (TAL_TRK_CFG_SOURCE arg) ≠ 4) &&
      (upto 64).all (fun u => !(decide (s.get (TAL_TRK_CFG_SOURCE u) = 4) &&
        decide (s.get (TAL_TRK_CFG_SRC_ARG u) = t)))
  | _ => false

/-- TRAVEL_MAX exceeds every OFFSET of the track (R240). -/
def State.travelOk (s : State) (t travel : Nat) : Bool :=
  decide (1 ≤ travel ∧ travel ≤ 0x7FFF_FFFF) &&
  (upto 1024).all (fun st => decide (s.get (TAL_ST_CFG_KIND st) = 0 ∨ s.get (TAL_ST_CFG_TRACK st) ≠ t ∨
    (s.rd (TAL_ST_OFFSET st)).toNat < travel))

/-- Levels of a track's encoder inputs (R223): A on pin A of port p, B on pin A of port p + 1. -/
def State.encLevels (s : State) (p : Nat) : BitVec 2 :=
  BitVec.ofNat 2 (b2n (s.pinLevel (2 * p)) + 2 * b2n (s.pinLevel (2 * p + 2)))

/-- Configure a track (R222, R240): the position starts as its source says. -/
def State.configTrack (s : State) (t : Nat) (cfg : Reg) (note rec_ : BitVec 16) (maxT travel dec : Nat) : State :=
  let s := s.wr (TAL_TRK_CFG t) cfg
  let s := s.wr (TAL_TRK_MATS t)
    (BitVec.ofNat 32 ((if note = 0xFFFF then 0 else note.toNat + 1024) +
      (if rec_ = 0xFFFF then 0 else rec_.toNat + 1024) * 65536))
  let s := ((s.set (TAL_TRK_STATUS_MAX_TALLIES t) maxT).wr (TAL_TRK_TRAVEL t) (BitVec.ofNat 32 travel)).wr
    (TAL_TRK_DECIDE t) (BitVec.ofNat 32 dec)
  let arg := fldGet cfg 3 7
  let s := { s with tal := { s.tal with enc := Tab.put enc0 s.tal.enc t (s.encLevels arg) } }
  if s.trackOn t = false then s
  else match fldGet cfg 0 3 with
    | 3 => s.moveTrack t (timePos s.time arg)
    | 4 => s.storePos t (s.trackPos arg)
    | _ => s

/-- TRACK_SET OP 2 (R240): tallies freed without records, actions cancelled, POS_GAP cleared. -/
def State.flushTrack (s : State) (t : Nat) : State :=
  let pins := (s.tal.acts.filter (fun a => decide (a.track = t))).map Action.pin
  let s := s.setTallies t []
  let s := { s with tal := { s.tal with acts := s.tal.acts.filter (fun a => decide (a.track ≠ t)) } }
  (s.setFlag (TAL_TRK_STATUS_POS_GAP t) false).settlePins pins

/-- A rule word that TRACK_SET may write (R232): reserved bits 0, no reserved CMP, a rule in use names a
GATE station of the track. -/
def State.ruleOk (s : State) (t w : Nat) : Bool :=
  decide (bitsAt w 61 3 = 0) &&
  (upto 4).all (fun i => !bitAt w (44 + i) || decide (bitsAt w (11 * i + 4) 3 < 6)) &&
  (!bitAt w 50 || (decide (s.get (TAL_ST_CFG_KIND (bitsAt w 51 10)) = 3) &&
    decide (s.get (TAL_ST_CFG_TRACK (bitsAt w 51 10)) = t)))

/-- What TRACK_SET does (R240), as a command or as a TALLY frame of an image or a pack. -/
def State.trackSet (r : CmdRef) (track op b10 b11 b12 b13 : Byte) (h14 h16 h18 : BitVec 16)
    (w20 w24 : BitVec 32) (s : State) : CmdRes :=
  let t := track.toNat
  let bad := s.ends stBAD_ARG
  if 63 < t then bad
  else match op.toNat with
    | 0 =>
      if s.sourceOk t b10.toNat b11.toNat = false ∨ 7 < b12.toNat ∨ 7 < b13.toNat ∨ trackMatOk h14 = false ∨
          trackMatOk h16 = false ∨ 8192 < h18.toNat ∨ s.travelOk t w20.toNat = false then bad
      else if s.tallies t ≠ [] ∨ s.tal.acts.any (fun a => decide (a.track = t)) then s.ends stREFUSED
      else if b10 = 1 ∧ (s.portOfEngine b11.toNat b13.toNat = false ∨
          s.portOfEngine (b11.toNat + 1) b13.toNat = false) then s.ends stREFUSED
      else if b12.getLsbD 0 ∧ s.gated (TAL_ENG_STATUS b13.toNat) then s.ends stREFUSED
      else
        let cfg := BitVec.ofNat 32 (b10.toNat + b11.toNat * 8 + b12.toNat * 1024 + b13.toNat * 8192 +
          s.get (TAL_TRK_CFG_BANK t) * 65536)
        (s.configTrack t cfg h14 h16 h18.toNat w20.toNat w24.toNat).ends stOK
    | 1 =>
      if 1 < b10.toNat ∨ 31 < b11.toNat ∨ b12 ≠ 0 ∨ b13 ≠ 0 ∨ h14 ≠ 0 ∨ h16 ≠ 0 ∨ h18 ≠ 0 ∨
          s.ruleOk t (w20.toNat + w24.toNat * 2 ^ 32) = false then bad
      else
        ((s.wr (TAL_RULE_LO t b10.toNat b11.toNat) w20).wr (TAL_RULE_HI t b10.toNat b11.toNat) w24).ends stOK
    | 2 =>
      if b10 ≠ 0 ∨ b11 ≠ 0 ∨ b12 ≠ 0 ∨ b13 ≠ 0 ∨ h14 ≠ 0 ∨ h16 ≠ 0 ∨ h18 ≠ 0 ∨ w20 ≠ 0 ∨ w24 ≠ 0 then bad
      else (s.flushTrack t).ends stOK
    | 3 =>
      if 1 < b10.toNat ∨ 1 < b11.toNat ∨ 63 < b12.toNat ∨ b13 ≠ 0 ∨ h14 ≠ 0 ∨ h16 ≠ 0 ∨ h18 ≠ 0 then bad
      else if b11 = 0 then (s.set (TAL_TRK_CFG_BANK t) b10.toNat).ends stOK
      else
        let at_ : Word := w24.setWidth 64 <<< 32 ||| w20.setWidth 64
        -- the boundary of an OFF pacer never comes (log entry 27)
        if s.paceState b12.toNat = 0 ∨ s.periodPast b12.toNat at_.toNat then bad
        else
          let o : BankOp := { ref := r, track := t, bank := b10.toNat, pacer := b12.toNat, at_ := at_ }
          { s with tal := { s.tal with bankOps := s.tal.bankOps ++ [o] } }.goesOn
    | _ => bad

/-- TRACK_SET (R222, R240, R268). -/
def execTrackSet (h : Hdr) (track op b10 b11 b12 b13 : Byte) (h14 h16 h18 : BitVec 16)
    (w20 w24 : BitVec 32) (s : State) : Host.Outcome State Fault Refusal :=
  .next (s.hostCmd h 0x50 (State.trackSet (hdrRef h 0x50) track op b10 b11 b12 b13 h14 h16 h18 w20 w24))

/-- A field-port pin in an input mode (R227, R308). -/
def State.inputMode (s : State) (p : Nat) (pinB : Bool) : Bool :=
  match s.get (FP_CFG_MODE p) with
  | 0 => !s.flag (if pinB then FP_CFG_DIR_B p else FP_CFG_DIR_A p)
  | 1 | 3 => true
  | _ => false

/-- What STATION_SET does (R241), as a command or as a TALLY frame of an image. -/
def State.stationSet (station : BitVec 16) (kind track trigger flags zone field value pin : Byte)
    (offset : BitVec 32) (win holdoff : BitVec 16) (s : State) : CmdRes :=
  let st := station.toNat
  let gpio := flags.getLsbD 2
  let engine := s.trackEngine track.toNat
  if 1023 < st ∨ 4 < kind.toNat ∨ 63 < track.toNat ∨ 3 < trigger.toNat ∨ 63 < flags.toNat ∨ 23 < field.toNat ∨
      15 < value.toNat ∨ (if gpio then 95 else 127) < pin.toNat ∨ 0x7FFF_FFFF < offset.toNat ∨
      (kind = 2 ∧ field.toNat < 16 ∧ (trigger = 0 ∨ trigger = 2) ∧ value = 0) then s.ends stBAD_ARG
  else if kind = 3 ∧ (gpio ∨ s.portOfEngine pin.toNat engine = false) then s.ends stREFUSED
  else if kind ≠ 0 ∧ kind ≠ 3 ∧ trigger = 0 ∧ gpio = false ∧ (s.portOfEngine pin.toNat engine = false ∨
      s.inputMode pin.toNat (flags.getLsbD 3) = false) then s.ends stREFUSED
  else
    let cfg := kind.toNat + trigger.toNat * 2 ^ 3 + track.toNat * 2 ^ 5 + zone.toNat * 2 ^ 11 +
      field.toNat * 2 ^ 19 + value.toNat * 2 ^ 24 + b2n (flags.getLsbD 0) * 2 ^ 28 +
      b2n (flags.getLsbD 1) * 2 ^ 29 + b2n (flags.getLsbD 4) * 2 ^ 30 + b2n (flags.getLsbD 5) * 2 ^ 31
    let old := s.stationPin st
    let s := (s.wr (TAL_ST_CFG st) (BitVec.ofNat 32 cfg)).wr (TAL_ST_OFFSET st) offset
    let s := s.wr (TAL_ST_WIN st) (BitVec.ofNat 32 (win.toNat + holdoff.toNat * 65536))
    let s := s.wr (TAL_ST_PIN st)
      (BitVec.ofNat 32 (pin.toNat + b2n gpio * 256 + b2n (flags.getLsbD 3) * 512))
    let s := { s with tal := { s.tal with lastEdge := Tab.put none0 s.tal.lastEdge st none } }
    (s.settlePins (old.toList ++ (s.stationPin st).toList)).ends stOK

/-- STATION_SET (R226, R227, R241). -/
def execStationSet (h : Hdr) (station : BitVec 16) (kind track trigger flags zone field value pin : Byte)
    (offset : BitVec 32) (win holdoff : BitVec 16) (s : State) : Host.Outcome State Fault Refusal :=
  .next (s.hostCmd h 0x51 (State.stationSet station kind track trigger flags zone field value pin offset win holdoff))

/-- The live tally nearest to a station at the track's position (R242). -/
def State.nearestTally (s : State) (t st : Nat) : Option Tally :=
  let target := s.trackPos t - BitVec.ofNat 48 (s.rd (TAL_ST_OFFSET st)).toNat
  (s.tallies t).foldl (fun best x => match best with
    | none => some x
    | some y => if (trackDist x.birthPos target).natAbs < (trackDist y.birthPos target).natAbs then some x
        else some y) none

/-- TALLY_QUERY (R242). -/
def execTallyQuery (h : Hdr) (track mode : Byte) (station : BitVec 16) (id : BitVec 32) (addr : Word)
    (s : State) : Host.Outcome State Fault Refusal :=
  .next (s.hostCmd h 0x52 (fun s =>
    let t := track.toNat
    if 63 < t ∨ 2 < mode.toNat ∨ 1023 < station.toNat ∨ addr.toNat % 64 ≠ 0 then s.ends stBAD_ARG
    else
      let found := match mode.toNat with
        | 0 => s.tally t id.toNat
        | 1 => s.nearestTally t station.toNat
        | _ => (s.tallies t).head?
      match found with
      | none => s.ends stOK
      | some x =>
        let s := if s.dmaOn then s.emit (.hostWrite addr (tallyBytes t x (s.tallyFlags t x))) else s
        s.endsWith stOK x.id.toNat))

/-! ### Positions (R223, R224, R233) -/

/-- Direction of one taken edge: up when A leads B (R223). -/
def encUp (old : BitVec 2) (a b : Bool) : Bool := if old.getLsbD 0 != a then a != b else a == b

/-- ENCODER_EDGE (R223, R225): new taken levels of A and B. -/
def execEncoderEdge (track : Id64) (a b : Bool) (s : State) : Host.Outcome State Fault Refusal :=
  let t := track.val
  let p := s.get (TAL_TRK_CFG_SRC_ARG t)
  let e := s.trackEngine t
  if s.get (TAL_TRK_CFG_SOURCE t) ≠ 1 then .next s
  else
    let set (s : State) (v : Nat) (x : Bool) : State := if s.padDrive v = .off then s.setPinLevel v x else s
    let s := set (set s (2 * p) a) (2 * p + 2) b
    let old := Tab.get enc0 s.tal.enc t
    let new := BitVec.ofNat 2 (b2n a + 2 * b2n b)
    if s.portOfEngine p e = false ∨ s.portOfEngine (p + 1) e = false ∨ s.get (FP_CFG_MODE p) ≠ 3 ∨
        s.get (FP_CFG_MODE (p + 1)) ≠ 3 ∨ s.flag CLK_STATUS_HREF_PRESENT = false ∨ s.trackOn t = false ∨
        new = old then .next s
    else
      let s := { s with tal := { s.tal with enc := Tab.put enc0 s.tal.enc t new } }
      if old.getLsbD 0 ≠ a ∧ old.getLsbD 1 ≠ b then
        .next ((s.trackCount t 7).raiseLim 0x4705 (srcTrack t) [(18, 1, p)])
      else
        let up := encUp old a b != s.flag (TAL_TRK_CFG_DIR t)
        .next (s.moveTrack t (if up then s.trackPos t + 1 else s.trackPos t - 1))

/-- PULSE_END (R233): ACT_LEN µs after a pulse-mode action has asserted, it ends. -/
def execPulseEnd (track : Id64) (station : StationId) (tally : BitVec 32) (s : State) :
    Host.Outcome State Fault Refusal :=
  match s.tal.acts.find? (fun a => decide (a.track = track.val) && decide (a.station = station.val) &&
      decide (a.tally = tally.toNat) && a.pulse && a.asserted && s.elapsed a.since (1000 * a.len)) with
  | none => .next s
  | some a => .next ({ s with tal := { s.tal with acts := s.tal.acts.erase a } }.settlePin a.pin)

/-- AXIS_TOKEN (R224, R237, R238): a mat held NULL presents none (R59). -/
def execAxisToken (mat : MatId) (pos : BitVec 48) (s : State) : Host.Outcome State Fault Refusal :=
  let m := s.logMat mat.val
  if s.heldNull mat.val then .next s
  else match s.pacedBy m with
  | some p => .next (s.keepPaced p (.axis m pos))
  | none => .next (s.axisMove m pos)

/-! ### Stimuli (R226 to R230, R237 to R239) -/

/-- The pin of an EDGE station may give it edges (R227): a field-port pin that the track's tally engine owns in an input
mode, or any GPIO pin. -/
def State.edgePinOk (s : State) (st : Nat) : Bool :=
  s.flag (TAL_ST_PIN_GPIO st) ||
    (s.portOfEngine (s.get (TAL_ST_PIN_PIN st)) (s.trackEngine (s.get (TAL_ST_CFG_TRACK st))) &&
      s.inputMode (s.get (TAL_ST_PIN_PIN st)) (s.flag (TAL_ST_PIN_PIN_B st)))

/-- EDGE_STIMULUS (R226, R227): the station's pin has its edge; HOLDOFF counts from the last edge that was taken. -/
def execEdgeStimulus (station : StationId) (s : State) : Host.Outcome State Fault Refusal :=
  let st := station.val
  if s.get (TAL_ST_CFG_TRIGGER st) ≠ 0 ∨ s.get (TAL_ST_CFG_KIND st) = 0 ∨ s.get (TAL_ST_CFG_KIND st) = 3 ∨
      s.edgePinOk st = false then .next s
  else
    let t := s.get (TAL_ST_CFG_TRACK st)
    let pos := s.trackPos t
    let near := match Tab.get none0 s.tal.lastEdge st with
      | some last => decide ((trackDist last pos).natAbs < s.get (TAL_ST_WIN_HOLDOFF st))
      | none => false
    if near then .next s
    else
      let s := if s.takesStim st then
          { s with tal := { s.tal with lastEdge := Tab.put none0 s.tal.lastEdge st (some pos) } }
        else s
      .next (s.takeStim st pos (s.get (TAL_ST_CFG_VALUE st)) 0)

/-- NOTE_TOKEN (R229, R237, R238): a stimulus is not taken while its engine's buffer is full; a token that names no
station of its note mat is discarded and counted at once; a mat held NULL presents none (R59). -/
def execNoteToken (mat : MatId) (token : BitVec 96) (s : State) : Host.Outcome State Fault Refusal :=
  let m := s.logMat mat.val
  let t := s.get (TAL_ST_CFG_TRACK (noteStation token))
  if s.heldNull mat.val then .next s
  else match s.pacedBy m with
  | some p => .next (s.keepPaced p (.note m token (s.trackPos t)))
  | none =>
    if s.noteWaits m token then .next s
    else .next (s.applyNote m token (s.trackPos t))

/-- TAL_STIM_WRITE (R239): the host's write is a bad access. -/
def execTalStimWrite (req : Requester) (value : Reg) (s : State) : Host.Outcome State Fault Refusal :=
  match req with
  | .host => .next (s.badAccess TAL_STIM 4 true)
  | r => .next (s.regWrite r TAL_STIM (fun s =>
    let st := fldGet value 0 10
    let t := s.get (TAL_ST_CFG_TRACK st)
    if s.get (TAL_ST_CFG_TRIGGER st) ≠ 3 ∨ s.trackOn t = false then s.stimDrop (s.trackEngine t)
    else
      match s.fresh with
      | (v, s') =>
        let meas : Bool := decide (s.get (TAL_ST_CFG_KIND st) = 2 ∧ 16 ≤ s.get (TAL_ST_CFG_FIELD st))
        (if meas then s' else s).takeStim st (s.trackPos t) (fldGet value 10 4) (v.setWidth 32)))

/-- Take the stimulus at the front of an engine's buffer off it; committed tokens that wait for the room are taken. -/
def State.popStim (s : State) (e : Nat) : State :=
  ({ s with tal := { s.tal with stims := Tab.put slist0 s.tal.stims e ((Tab.get slist0 s.tal.stims e).drop 1) } } :
    State).applyWaiting

/-- The GATE station of a track with the lowest OFFSET above another's (R236). -/
def State.firstGate (s : State) (t offset : Nat) : Option Nat :=
  (upto 1024).foldl (fun best st =>
    let o := (s.rd (TAL_ST_OFFSET st)).toNat
    if s.get (TAL_ST_CFG_KIND st) = 3 ∧ s.get (TAL_ST_CFG_TRACK st) = t ∧ offset < o then
      match best with
      | some b => if o < (s.rd (TAL_ST_OFFSET b)).toNat then some st else some b
      | none => some st
    else best) none

/-- The operation BIRTH (R230, R235, R236).  A point that the track has already passed when BIRTH runs (late service, or
an old EVENT_POS) counts as reached and never runs: R231 lets a point fall as the position reaches or passes it, and
does not say what becomes of one passed before the tally exists (DESIGN CHOICE, log entry 70). -/
def State.birth (s : State) (x : Stim) : State :=
  let t := x.track
  let bp := x.pos - BitVec.ofNat 48 x.offset.toNat
  if s.trackFull t then
    let gate := if s.flag (TAL_TRK_CFG_POLICY t) then none else s.firstGate t x.offset.toNat
    let s := (s.trackCount t 4).raiseSt 0x4701 (srcTrack t) stTALLY_FULL
      [(18, 1, t), (19, 1, s.get (TAL_TRK_CFG_POLICY t)), (20, 2, gate.getD 0xFFFF)]
    match gate with
    | some g => s.schedule t g 0 bp
    | none => s
  else
    let id := s.rd (TAL_TRK_NEXTID t)
    let y : Tally := { id := id, zone := fldGet x.cfg 11 8,
                       flags := (if s.get (TAL_TRK_CFG_BANK t) = 1 then 3 else 1), verdict := 0,
                       meas := List.replicate 8 0, birthPos := bp, birthTime := s.time, lastUs := 0,
                       reached := trackDist bp (s.trackPos t) }
    let s := s.wr (TAL_TRK_NEXTID t) (if id = 0xFFFF_FFFF then 1 else id + 1)
    (s.setTallies t (s.tallies t ++ [y])).trackCount t 0

/-- BIRTH: the engine serves an INFEED stimulus at the front of its buffer (R229, R230). -/
def execBirth (engine : EngineId) (s : State) : Host.Outcome State Fault Refusal :=
  match Tab.get slist0 s.tal.stims engine.val with
  | [] => .next s
  | x :: _ => if fldGet x.cfg 0 3 = 1 then .next ((s.popStim engine.val).birth x) else .next s

/-- The live tally that a NOTE finds: deviation within TOL, the least, the earlier birth on a tie (R230). -/
def findNote (l : List Tally) (target : BitVec 48) (tol : Nat) : Option Tally :=
  l.foldl (fun best x =>
    let d := (trackDist x.birthPos target).natAbs
    if tol < d then best
    else match best with
      | none => some x
      | some y => if d < (trackDist y.birthPos target).natAbs then some x else some y) none

/-- Deviation of the live tally nearest to a target (R243). -/
def nearestDev (l : List Tally) (target : BitVec 48) : BitVec 32 :=
  match l.foldl (fun (best : Option Int) x =>
      let d := trackDist x.birthPos target
      match best with
      | none => some d
      | some b => if d.natAbs < b.natAbs then some d else some b) none with
  | some d => sat32 d
  | none => 0x7FFF_FFFF

/-- NOTE: the engine serves a SENSE or DISCHARGE stimulus at the front of its buffer (R226, R229, R230).
An EDGE station's measurement is the deviation from the found tally. -/
def execNote (engine : EngineId) (s : State) : Host.Outcome State Fault Refusal :=
  match Tab.get slist0 s.tal.stims engine.val with
  | [] => .next s
  | x :: _ =>
    if fldGet x.cfg 0 3 = 1 then .next s
    else
      let s := s.popStim engine.val
      let target := x.pos - BitVec.ofNat 48 x.offset.toNat
      match findNote (s.tallies x.track) target (fldGet x.win 0 16) with
      | none =>
        .next ((s.trackCount x.track 3).raiseLim 0x4702 (srcStation x.station)
          [(18, 4, (nearestDev (s.tallies x.track) target).toNat)])
      | some y =>
        let meas := if fldGet x.cfg 3 2 = 0 then sat32 (trackDist y.birthPos target) else x.meas
        .next (s.noteTally x.track y.id.toNat x.cfg { value := x.value, meas := meas })

end Sys2Proof.Machine
end

