-- ==== Sys2Proof/Machine/LayOps.lean ====
section
/-! DEFINITION.  The frames of an image, written in the order of the apply pass (R360 to R363, R372).  Every function
answers the state and whether the frame is free of format errors (R66, R364 step 11): verification lays the
image on a scratch state and asks, the apply pass keeps the state. -/

namespace Sys2Proof.Machine

open Sys2Proof

/-- A state and whether all that was laid on it so far is well formed. -/
abbrev Laid := State × Bool

/-- Lay items one after the other. -/
def layAll {α : Type} (f : State → α → Laid) : List α → Laid → Laid
  | [], r => r
  | a :: l, r =>
    let x := f r.1 a
    layAll f l (x.1, r.2 && x.2)

/-- A set-up frame whose command form does not complete with OK is a format error; CONTENTION is step 12's
(R364). -/
def CmdRes.laid (r : CmdRes) : Laid :=
  (r.st, match r.fin with
    | some (st, _) => decide (st = stOK ∨ st = stCONTENTION)
    | none => false)

/-- Reference of the set-up frames: no command waits for them. -/
def noRef : CmdRef := { ring := 0, id := 0, opcode := 0 }

/-! ### Which frames count (R363) -/

/-- Target of a frame that a later frame for the same target replaces as a whole. -/
def frameTarget : Frame → Option (Nat × Nat)
  | .column c _ _ _ _ => some (5, c.val)
  | .region p _ _ _ _ _ _ _ _ => some (6, p.val)
  | .schedule g _ _ _ _ _ _ => some (7, g.val)
  | .queue q _ _ _ _ _ => some (8, q.val)
  | .ax n _ _ _ => some (11, n.val)
  | .tether _ => some (12, 0)
  | .start _ => some (13, 0)
  | _ => none

/-- A later frame for the same target replaces an earlier one. -/
def lastFrames : List Frame → List Frame
  | [] => []
  | f :: l =>
    let rest := lastFrames l
    if (frameTarget f).isSome ∧ l.any (fun g => decide (frameTarget g = frameTarget f)) then rest else f :: rest

/-! ### Charter (R330, R372 step 1) -/

/-- The 352 bytes of a charter are well formed: LIMITED_OFF on field-port pins only. -/
def charterOk (l : List Byte) : Bool :=
  decide (l.length = 352) &&
    ((upto 352).zip l).all (fun e => decide (e.2.toNat ≤ 5) && decide (e.2.toNat = 5 → 96 ≤ e.1))

/-- Pin of a charter byte: GPIO pins first, then the pins of the field ports. -/
def charterPin (i : Nat) : Nat := if i < 96 then 256 + i else i - 96

def State.layCharter (s : State) (l : List Byte) : State :=
  let t := ((upto 352).zip l).foldl (fun t e => Tab.put charter0 t (charterPin e.1) (e.2.setWidth 3)) []
  { s with pins := { s.pins with charter := t }, img := { s.img with charterCopy := l } }

/-! ### START and REGS (R361, R372 steps 2 and 8) -/

/-- Registers that REGS may write in step 2: CLK and the six others by name. -/
def regsEarly (k : Nat) : Bool :=
  decide (0x6000 ≤ k ∧ k < 0x7000) || decide (k = PMU_GOV_CTL ∨ k = PMU_DIP_CTL ∨ k = PMU_IR_CTL ∨ k = THM_CTL ∨
    k = FBK_CTL) || decide (0xB204 ≤ k ∧ k < 0xB230)

/-- Registers that REGS may write in step 8: FP, GPIO and XL. -/
def regsLate (k : Nat) : Bool :=
  decide ((0x10000 ≤ k ∧ k < 0x18000) ∨ (0xA000 ≤ k ∧ k < 0xB000) ∨ (0x1C000 ≤ k ∧ k < 0x24000))

/-- Clock settings that a device warm reset keeps: CLK_SSC, CLK_DIV, CLK_FDIV, CLK_OPk, CLK_OP_CTL. -/
def regsKept (k : Nat) : Bool :=
  decide (k = CLK_SSC ∨ k = CLK_DIV ∨ k = CLK_FDIV ∨ k = CLK_OP_CTL) || decide (0x6050 ≤ k ∧ k < 0x6060)

/-- One pair of step 2. FMAX_MHZ of a tree comes from its status word (R261), and a tree's source is
connected with its output stopped until wake (R264, R427). -/
def State.layEarly (s : State) (warm : Bool) (k : Nat) (v : Reg) : State :=
  let tree := (k - 0x6100) / 8
  if regsEarly k = false ∨ (warm ∧ regsKept k) then s
  else if 0x6100 ≤ k ∧ k < 0x6200 then
    if k % 8 = 4 then s.set (CLK_TREE_STATUS_FMAX_MHZ tree) (fldGet v 16 9)
    else (((s.plainWrite k v).setFlag (CLK_TREE_CTL_RUN tree) false).set (CLK_TREE_STATUS_SRC_CUR tree)
      (fldGet v 0 2)).showTree tree
  else if 0x6050 ≤ k ∧ k < 0x6060 then
    if opRated v then s.plainWrite k v else s.setFlag CLK_OP_CTL_REFUSED true
  else if k = CLK_OP_CTL then
    let s := s.plainWrite k v
    s.startOp (s.get CLK_OP_CTL_REQ)
  else s.plainWrite k v

/-- REGS and START in step 2. -/
def layFirst (warm : Bool) (s : State) : Frame → Laid
  | .start mv =>
    (if warm then s else { s with pow := { s.pow with reqF := some mv.toNat } },
     decide (550 ≤ mv.toNat ∧ mv.toNat ≤ 900))
  | .regs block pairs =>
    (pairs.foldl (fun s e => s.layEarly warm (block + e.1) e.2) s,
     pairs.all (fun e => (regClass (block + e.1)).isSome && (regsEarly (block + e.1) || regsLate (block + e.1))))
  | _ => (s, true)

/-- Enable bits of the blocks that a set-up frame uses (R269). -/
def frameGates : Frame → List Fld
  | .regs block pairs => pairs.filterMap (fun e => gateBit (block + e.1))
  | .track _ op _ _ b12 b13 _ _ _ _ _ =>
    if op = 0 ∧ b12.getLsbD 0 then [⟨CLK_EN1, 8 + b13.toNat % 8, 1⟩] else []
  | .tether ctl => ((upto 8).zip ctl).filterMap (fun e =>
      if e.2.getLsbD 0 then some ⟨CLK_EN1, e.1, 1⟩ else none)
  | _ => []

/-- Turn on a block with its groups, parents first (R269). -/
def State.ungate (s : State) (f : Fld) : State :=
  let s := s.setBit CLK_GRP 0 true
  let s := match enGroup (decide (f.reg = CLK_EN1)) f.lo with
    | some g => s.setBit CLK_GRP g true
    | none => s
  s.setFlag f true

def layGates (s : State) (f : Frame) : Laid := ((frameGates f).foldl State.ungate s, true)

/-! ### COLUMN (R75, R372 step 3) -/

/-- Make a logical mat a member of a swap group, and of no other (R126). -/
def State.joinGroup (s : State) (m : Nat) (g : Option Nat) : State :=
  let s := (upto 64).foldl (fun s h =>
    if m ∈ (s.group h).mats then s.setGroup h { s.group h with mats := delNat m (s.group h).mats } else s) s
  match g with
  | some g => s.setGroup g { s.group g with mats := insNat m (s.group g).mats }
  | none => s

/-- A through-path word names real spans. -/
def thruOk (v : Reg) : Bool := !v.getLsbD 0 || (decide (fldGet v 7 2 ≠ 0) && decide (fldGet v 15 2 ≠ 0))

def layColumn (s : State) : Frame → Laid
  | .column c thru g0 g1 timeout =>
    let s := ((upto 64).zip thru).foldl (fun s e =>
      s.wr (COL_GATE_THRU c.val (e.1 / 32) (e.1 % 32)) (e.2 &&& 0x1FFFF#32)) s
    let s := (s.joinGroup (matOf c.val 0) (g0.map Fin.val)).joinGroup (matOf c.val 1) (g1.map Fin.val)
    (s.plainWrite (COL_SWAP_TIMEOUT c.val) timeout, decide (thru.length = 64) && thru.all thruOk)
  | _ => (s, true)

/-! ### Contexts, trunk holds, pin choices (R361, R362, R372 step 4) -/

/-- Physical mats of a destination. -/
def State.destMats (s : State) (d : MatDest) : List Nat := d.mats.map s.physMat

/-- The destination names mats, in the body's slot or library entry. -/
def destOk (d : MatDest) : Bool := decide (d.mats ≠ []) && d.mats.all (fun m => decide (m < 512))

/-- Change a slot where the destination names one, and the entry where it names one. -/
def State.onDest (s : State) (d : MatDest) (slot : State → Nat → Nat → State)
    (entry : State → Nat → Nat → State) : State :=
  (s.destMats d).foldl (fun s p =>
    let s := if d.lib then s else slot s p d.slot.val
    if d.lib ∨ d.alsoLib then entry s p d.entry.val else s) s

/-- The frond words of a CONTEXT frame. -/
def frameCtx (words : List (Nat × BitVec 256)) : Ctx :=
  { words := words.foldl (fun t e => Tab.put idleWord t e.1 e.2) [] }

/-- A slot written by apply, ACTIVE where the frame says so.  Its COL_CTX_SRC.ENTRY, the library entry last written into
it, reads 0 also where the frame writes an entry besides (ALSO_LIB): R162 does not say what ENTRY shows for a slot
that no entry was loaded into (DESIGN CHOICE, log entry 26). -/
def State.laySlot (s : State) (c : Ctx) (check : Word) (active : Bool) (p k : Nat) : State :=
  let old := s.slot p k
  let s := s.writeSlot p k { ctx := c, check := check, laneHold := old.laneHold, charter := old.charter,
                             entry := 0, crosier := false, ax := false }
  if active then (s.setSlotState p k slACTIVE).set (gACTIVE p) k else s.setSlotState p k slREADY

def layContext (s : State) : Frame → Laid
  | .context d words check =>
    let c := frameCtx words
    (s.onDest d (fun s p k => s.laySlot c check d.active p k)
      (fun s p e => s.setEntry p e { s.entry p e with ctx := c, check := check } true),
     destOk d && d.mats.all (fun m => decide (matG m = matG (d.mats.headD 0))) &&
       words.all (fun e => decide (e.1 < 1024)) && (s.destMats d).all (fun p => c.formatOk p))
  | .trunkHold d lanes =>
    (s.onDest d (fun s p k => (s.setSlot p k { s.slot p k with laneHold := lanes }).recomputeOwn p k)
      (fun s p e => s.setEntry p e { s.entry p e with laneHold := lanes } (s.entryValid p e)),
     destOk d && lanes.all (fun k => decide (k < 256)))
  | .pinChoice d pins =>
    (s.onDest d (fun s p k => s.setSlot p k { s.slot p k with charter := pins })
      (fun s p e => s.setEntry p e { s.entry p e with charter := pins } (s.entryValid p e)),
     destOk d && decide (pins.length ≤ 64) && pins.all (fun v => decide (v < 352)))
  | _ => (s, true)

/-- Logical mats that CONTEXT frames reach, and slots that they write. -/
def reachedMats (fs : List Frame) : List Nat :=
  fs.foldl (fun a f => match f with
    | .context d _ _ => d.mats.foldl (fun a m => insNat m a) a
    | _ => a) []

/-- Exactly one slot of a reached mat is marked ACTIVE (R363). -/
def State.oneActive (s : State) (m : Nat) : Bool :=
  decide (((upto 4).filter (fun k => decide (s.slotState (s.physMat m) k = slACTIVE))).length = 1)

/-- Slots not ACTIVE are READY, or wait for their FLOOR; a mat that no frame reaches is not grouped (R127,
R363). -/
def State.settleSlots (s : State) (reached : List Nat) : State :=
  (upto 512).foldl (fun s m =>
    if m ∈ reached then
      let p := s.physMat m
      (upto 4).foldl (fun s k => if s.slotState p k = slREADY then s.settleSlot p k else s) s
    else s.joinGroup m none) s

/-! ### Banks and queues (R372 steps 5 and 6) -/

/-- Write words into a bank from a word on. -/
def State.fillBank (s : State) (b : Nat) : Nat → List Word → State
  | _, [] => s
  | w, x :: l => (s.putWord b w { data := x, syn := 0, poison := false }).fillBank b (w + 1) l

def layBank (s : State) : Frame → Laid
  | .bankInit banks first words =>
    (banks.foldl (fun s b => s.fillBank (s.bankAt b) first words) s,
     decide (banks ≠ []) && banks.all (fun b => decide (b < 2048)) && decide (first + words.length ≤ 8192))
  | _ => (s, true)

def layQueue (s : State) : Frame → Laid
  | .queue q lg flags prod cons base =>
    let r := (State.queueCreate (BitVec.ofNat 16 q.val) lg flags prod cons base s).laid
    (r.1.setEpoch q.val 0, r.2)
  | _ => (s, true)

/-! ### Ports, pins, lanes, tethers, AX (R372 step 8) -/

/-- Lane and tether controls take effect once owners and queues are written. -/
def isLaneCtl (k : Nat) : Bool :=
  decide (0x1C000 ≤ k ∧ k < 0x24000) && (decide (k % 0x400 = 0) || decide (k % 0x1000 = 0x200))

def layLate (s : State) : Frame → Laid
  | .regs block pairs =>
    (pairs.foldl (fun s e =>
      if regsLate (block + e.1) && !isLaneCtl (block + e.1) then s.plainWrite (block + e.1) e.2 else s) s, true)
  | _ => (s, true)

/-- A port whose set-up breaks R310 or R312, or that is SUSPECT, stays disabled (R483). -/
def State.checkPort (s : State) (p : Nat) : State :=
  if s.flag (FP_CFG_EN p) = false then s
  else if ownerModeOk (s.get (FP_OWNER_KIND p)) (s.get (FP_CFG_MODE p)) = false ∨ s.unitSuspect 0 p ∨
      (s.get (FP_OWNER_KIND p) = 3 ∧ s.portQueuesOk p = false) then
    (s.setFlag (FP_CFG_EN p) false).setFlag (FP_STATUS_REFUSED p) true
  else s.abortSlice 0 p

/-- A GPIO pin with a reserved owner has none (R326). -/
def State.checkGpio (s : State) (n : Nat) : State :=
  if 10 ≤ s.get (GPIO_OWNER_KIND n) then (s.set (GPIO_OWNER_KIND n) 0).setFlag GPIO_DENIED_REFUSED true else s

def State.checkPins (s : State) : State :=
  (upto 96).foldl State.checkGpio ((upto 128).foldl State.checkPort s)

def layLanes (s : State) : Frame → Laid
  | .regs block pairs =>
    (pairs.foldl (fun s e =>
      let k := block + e.1
      if isLaneCtl k = false then s
      else if k % 0x400 = 0 then s.writeLane ((k - 0x1C000) / 0x400) e.2
      else s.writeTether ((k - 0x1C000) / 0x1000) e.2) s, true)
  | _ => (s, true)

/-- Device number of a tether record: that of its first enabled tether (R346, CFG_ID). -/
def recordDevnum (ctl : List (BitVec 6)) : Nat :=
  match ctl.find? (fun c => c.getLsbD 0) with
  | some c => (c.extractLsb' 3 3).toNat
  | none => 0

def layTether (s : State) : Frame → Laid
  | .tether ctl =>
    let s := ((upto 8).zip ctl).foldl (fun s e => s.writeTether e.1 (e.2.setWidth 32)) s
    (({ s with img := { s.img with tetherRecord := ctl } }).set CFG_ID_DEVNUM (recordDevnum ctl),
     decide (ctl.length = 8))
  | .ax n host key permit =>
    let a : Ax := { hostMat := host.val, permit := permit, key := some key, words := [], rejecting := false, wordAt := 0 }
    let s := { s with ctx := { s.ctx with ax := Tab.put ax0 s.ctx.ax n.val a } }
    (s.setFlag (CFG_AX_STATUS_EN n.val) true,
     decide (host.val ∉ permit) && permit.all (fun m => decide (m < 512)))
  | _ => (s, true)

/-- Tethers that neither a TETHER frame nor REGS sets are off after apply. -/
def framesTether (fs : List Frame) : Bool :=
  fs.any (fun f => match f with
    | .tether _ => true
    | .regs block pairs => pairs.any (fun e => isLaneCtl (block + e.1) && decide ((block + e.1) % 0x400 ≠ 0))
    | _ => false)

def State.dropUnsetTethers (s : State) (fs : List Frame) : State :=
  if framesTether fs then s else (upto 8).foldl (fun s k => s.writeTether k 0) s

/-! ### Regions, tallies and schedules (R372 steps 7 and 9) -/

def layRegion (s : State) : Frame → Laid
  | .region pacer slackPct flags period phase margin _ anchor mats =>
    let p := pacer.val
    let mg := if margin = 0 then 100 else margin.toNat
    let ms := mats.foldl (fun l m => insNat m l) []
    let free := ms.all (fun m => decide (m < 512) && (match s.regionOf m with
      | some r => decide (r = p)
      | none => true))
    let s := (s.set (PACE_PERIOD_PERIOD_NS p) period.toNat).set (PACE_PHASE_PHASE_NS p) phase.toNat
    let s := (s.set (PACE_MARGIN_MARGIN_NS p) mg).set (PACE_STATUS_SLACK_PCT p)
      (if slackPct = 0 then 15 else slackPct.toNat)
    let s := s.setFlag (PACE_STATUS_GOV_EXCLUDE p) (decide (flags = 1))
    let s := s.updPacer p (fun x => { x with mats := ms, anchor := some anchor.val, first := true })
    let s := { s with img := { s.img with starts := insNat p s.img.starts } }
    (s, decide (slackPct.toNat ≤ 50 ∧ flags.toNat ≤ 1) && paceFieldsOk period.toNat phase.toNat mg &&
      decide (anchor.val ∈ ms) && free)
  | _ => (s, true)

def layTally (s : State) : Frame → Laid
  | .track t op b10 b11 b12 b13 h14 h16 h18 w20 w24 =>
    (State.trackSet noRef t op b10 b11 b12 b13 h14 h16 h18 w20 w24 s).laid
  | .station st kind track trigger flags zone field value pin offset win holdoff =>
    (State.stationSet st kind track trigger flags zone field value pin offset win holdoff s).laid
  | _ => (s, true)

def laySchedule (s : State) : Frame → Laid
  | .schedule g pacer mode count first phases tether =>
    let r := (State.scheduleSet (BitVec.ofNat 8 g.val) pacer mode count first phases s).laid
    (r.1.setGroup g.val { r.1.group g.val with tetherFlag := tether }, r.2)
  | _ => (s, true)

/-- A schedule of the whole result gives a CONFLICT (R105, R364 step 12). -/
def State.frameContends (s : State) : Frame → Bool
  | .schedule g pacer mode count first phases _ =>
    match (State.scheduleSet (BitVec.ofNat 8 g.val) pacer mode count first phases s).fin with
    | some (st, _) => decide (st = stCONTENTION)
    | none => false
  | _ => false

/-- A schedule of a pack gives a CONFLICT, alone or with those before it (R105). -/
def State.framesContend (s : State) : List Frame → Bool
  | [] => false
  | f :: l => s.frameContends f || (laySchedule s f).1.framesContend l

/-! ### Through-path chains of relocated mats (R372 step 3, R478) -/

/-- The image uses a through-path of a stored chain. -/
def State.chainTaken (s : State) (l : List (Nat × Reg)) : Bool :=
  l.any (fun e => s.flag (COL_GATE_THRU_EN (matCol (e.1 / 32)) (matG (e.1 / 32)) (e.1 % 32)))

/-- A new chain to a mat, which leaves the wire sets of the image's contexts alone: `slots` are the slots as the image
writes them (R76). -/
def State.chainBeside (s : State) (slots : Tab Slot) (chains : List Chain) (d : Nat) : Option Chain :=
  ({ s with ctx := { s.ctx with slots := slots } } : State).chainsTo [] chains d

/-- Write the stored chains.  One whose path the image uses is replaced by a new chain where one can be
computed; otherwise its mat has no reserve (R433).  Answers the mats left without a chain. -/
def State.layChains (chains : List Chain) (slots : Tab Slot) (s : State) : State × List Nat :=
  s.mnt.chains.foldl (fun r e =>
    let s := r.1
    if s.chainTaken e.2 = false then (s.writePaths e.2, r.2)
    else match s.chainBeside slots chains e.1 with
      | some c => (s.enablePaths e.1 (chainPaths c), r.2)
      | none => (s, r.2 ++ [e.1])) (s, [])

/-! ### The apply pass (R372) -/

/-- Frames that the device applies (R360, R372). -/
def State.ownFrames (s : State) (i : Image) : List Frame :=
  lastFrames ((i.frames.filter (fun f => f.devmask.getLsbD (s.get CFG_ID_DEVNUM))).map FrameRec.body)

/-- Steps 1 to 3 but for the stored chains. -/
def State.layHead (s : State) (warm : Bool) (i : Image) (fs : List Frame) : Laid :=
  let r := layAll layGates fs (layAll (layFirst warm) fs (s.layCharter i.charter, true))
  layAll layColumn fs r

/-- Steps 4 to 9. -/
def layBody (fs : List Frame) (r : Laid) : Laid :=
  let reached := reachedMats fs
  let r := layAll layContext fs r
  let r := (r.1.settleSlots reached, r.2 && reached.all (fun m => r.1.oneActive m))
  let r := layAll layQueue fs (layAll layBank fs r)
  let r := layAll layLate fs r
  let r := layAll layTether fs (layAll layLanes fs (r.1.checkPins.dropUnsetTethers fs, r.2))
  layAll laySchedule fs (layAll layTally fs (layAll layRegion fs r))

end Sys2Proof.Machine
end

