-- ==== Sys2Proof/Machine/ResetOps.lean ====
section
/-! DEFINITION.  What the resets of chapter 15 clear (R438): the state that a device warm reset returns to its reset
values, and the state after power-on with what NV, fuses and VAUX keep. -/

namespace Sys2Proof.Machine

open Sys2Proof

/-! ### Registers that a device warm reset reaches -/

/-- COL registers kept through a device warm reset: disabled channels and lanes, bank states and last errors
(R94, R121, R549). -/
def colKept (o : Nat) : Bool :=
  decide (o = 0x808 ∨ o = 0x80C ∨ o = 0x908 ∨ o = 0x90C) || decide (0x440 ≤ o ∧ o < 0x460) ||
    (decide (0x500 ≤ o ∧ o < 0x620) && decide (o % 0x20 = 0 ∨ o % 0x20 = 0xC))

/-- Registers that a device warm reset returns to their reset values (R164, R196, R220, R245, R275, R306, R336,
R352, R377, R401, R425, R478, R497, R528, R549). -/
def warmReg (k : Nat) : Bool :=
  decide (0x400 ≤ k ∧ k < 0x2000 ∧ k ≠ HIF_LINK) || decide (0x2100 ≤ k ∧ k < 0x2200) ||
  decide (0x3060 ≤ k ∧ k < 0x3080) || decide (0x3200 ≤ k ∧ k < 0x3400) ||
  decide (k = PMU_GOV_CTL ∨ k = PMU_DIP_CTL ∨ k = PMU_IR_CTL ∨ k = THM_CTL) ||
  decide (0x6080 ≤ k ∧ k < 0x6200) ||
  decide (0x7004 ≤ k ∧ k < 0x7020) || decide (0x7050 ≤ k ∧ k < 0x8000) ||
  decide (k = FBK_CTL ∨ k = BIST_FAILS ∨ k = BIST_SAT) ||
  decide (0xA010 ≤ k ∧ k < 0xB000 ∧ k ≠ GPIO_SUPPLY) ||
  decide (0xB020 ≤ k ∧ k < 0xB040) || decide (k = MNT_UNPLACED_LO ∨ k = MNT_UNPLACED_HI) ||
  decide (0xB100 ≤ k ∧ k < 0xB300) ||
  decide (0x10000 ≤ k ∧ k < 0x18000) || decide (0x1C000 ≤ k ∧ k < 0x200000) ||
  (decide (0x200000 ≤ k ∧ k < 0x300000) && !colKept (k % 0x1000)) ||
  decide (0x1000000 ≤ k)

/-- Parts of warm-reset registers that report what lies outside the reset: the link, the sources present at a
tree and its FMAX report, the pad levels. -/
def warmMask (k : Nat) : Reg :=
  if k = HIF_STATUS then fldMask 2 1
  else if 0x6100 ≤ k ∧ k < 0x6200 ∧ k % 8 = 4 then fldMask 4 4
  else if 0x10000 ≤ k ∧ k < 0x18000 ∧ k % 0x100 = 0x10 then fldMask 0 2
  else 0

def State.warmRegs (s : State) : State :=
  let old := s.regs
  let s := s.resetRegs warmReg
  old.foldl (fun s e =>
    let m := warmMask e.1
    if m = 0 then s else s.wr e.1 ((s.rd e.1 &&& ~~~m) ||| (e.2 &&& m))) s

/-- Every bank whose remap was submitted or ran is again the one in service, and its b8 is free (R26). -/
def State.dropRemaps (s : State) : State :=
  (upto 256).foldl (fun s c =>
    let b := s.get (spareServes c)
    if b < 8 ∧ s.get (bankState (bankId c b)) ≠ 2 ∧ s.get (bankState (bankId c b)) ≠ 3 then s.dropRemap (bankId c b)
    else s) s

/-- Repairs that the column agents submit again after the reset (R26, R438): unfinished remaps and spare swaps. -/
def State.repairsLeft (s : State) : List (Word × Task × List Lock × Nat × Nat) :=
  (s.mnt.again.filter (fun e => decide (taskCode e.2.1 = 2 ∨ taskCode e.2.1 = 3))) ++
    (s.mnt.acts.filter (fun a => decide (taskCode a.task = 2 ∨ taskCode a.task = 3))).map
      (fun a => (0, a.task, a.locks, 0, a.resource))

/-- Relocations that are requested still (R23, R438). -/
def State.relocsLeft (s : State) : List Nat :=
  s.mnt.acts.foldl (fun l a => match a.task with
    | .reloc r => r.src.foldl (fun l q => insNat q l) l
    | _ => l) s.mnt.wanted

/-! ### Device warm reset (R438, R441) -/

def State.warmHost (s : State) : State :=
  let h := s.host
  { s with host := { rings := [], cmds := [], hbAt := h.hbAt, hbRun := false, absentAt := h.absentAt,
                     perst := h.perst, latch := [], window := [], pf0 := h.pf0, pf1 := h.pf1 },
           ev := { s.ev with latch := [] },
           que := { queues := [], epoch := [], latch := [], held := [] } }

/-- Memory-port responses, mirrored writes and what the column agents have in hand are gone. -/
def State.idleColumns (s : State) : State :=
  { s with
      mem := { s.mem with resp := [], mirrored := [] },
      col := { s.col with kept := [], restoring := [], reread := [], ahead := [], repairs := [], retests := [] } }

/-- Memory layer: bank contents and repair state stay (R438). -/
def State.warmColumns (s : State) : State := s.dropRemaps.idleColumns

/-- Contexts: no slot, no entry, no group; every hold is held NULL (R164, R441). -/
def State.warmContexts (s : State) : State :=
  let s := { s with
      ctx := { slots := [], fab := [], clkHigh := [], lib := [], groups := [], loads := [], crosiers := [], ax := [], released := [],
               clkHeldAt := [], clkStopped := false, acks := [] },
      pace := { s.pace with pacers := [] },
      tal := { tallies := [], acts := [], stims := [], recs := [], paced := [], committed := [], bankOps := [], lastEdge := [],
               enc := [] },
      lane := { downAt := [], lost := [], inFrame := [], starts := [], credits := [], aligned := [], looped := [], sentAt := none },
      clk := { s.clk with released := [], refusing := [], switchAt := [] } }
  (upto 512).foldl (fun s p => s.setFlag (gQUIET p) true) s

/-- Maintenance: the arbiter is empty, stops end, the maps and retired marks stay (R478). -/
def State.warmMaint (s : State) : State :=
  let again := s.repairsLeft
  let wanted := s.relocsLeft
  let m := s.mnt
  { s with
      mnt := { m with acts := [], again := again, wanted := wanted, stopped := [], lost := [],
                      fwPhase := 0, fwStaged := none },
      bist := { s.bist with down := 0, downRef := none, left := [] } }

/-- Pins: no charter is known and every pin waits for start-up (R330, R331, R430). -/
def State.warmPins (s : State) : State :=
  let cause : Tab Byte := allPins.map (fun v => (v, causeBit 0))
  let p := s.pins
  { s with pins := { p with charter := [], cause := cause, out := [], heldCfg := [], heldOwner := [],
                            heldGpio := [], surveys := [], lost := [], errs := [], limitAt := [], limitEnd := [], extAt := [], switchAt := [] } }

/-- Cores, sessions, staging. -/
def State.warmRest (s : State) : State :=
  let i := s.img
  { s with
      core := { s.core with cores := [], csr := [], lock := none },
      sec := { s.sec with sessions := [], challenge := none },
      img := { i with staged := none, ref := none, abandoned := false, boot := none, running := none, starts := [],
                      pack := none, packs := 0, libChain := 0, streamed := 0 },
      pow := { s.pow with nvHeld := s.pow.nvHeld } }

/-- The state that a device warm reset leaves in what it reaches (R438). -/
def State.warmClear (s : State) : State :=
  (s.warmMaint.warmHost.warmColumns.warmRegs.warmContexts.warmPins).warmRest

/-! ### Power-on (R426, R438) -/

/-- Registers that NV and fuses keep, and the bank states that NV repair records rebuild (R121). -/
def State.nvRegs (s : State) : State :=
  let old := s.regs
  let s := s.resetRegs (fun _ => true)
  old.foldl (fun s e =>
    let o := e.1 % 0x1000
    if 0x200000 ≤ e.1 ∧ e.1 < 0x300000 ∧ 0x500 ≤ o ∧ o < 0x620 ∧ o % 0x20 = 0 then
      s.wr e.1 (e.2 &&& (fldMask 0 6 ||| fldMask 7 1))
    else s) s |>.dropRemaps

/-- Repair records of NV (R114, R121, R478, R497). -/
def State.nvRepairs (s : State) (o : State) : State :=
  let groups := Tab.mapAll rhz0 (fun _ g => { g with strikes := [], missed := [] }) o.col.groups
  { s with
      col := { s.col with groups := groups, out := o.col.out },
      mnt := { s.mnt with matMap := o.mnt.matMap, bankMap := o.mnt.bankMap, retired := o.mnt.retired,
                          chains := o.mnt.chains, fwCopies := o.mnt.fwCopies },
      bist := { s.bist with units := o.bist.units, clean := o.bist.clean },
      core := { s.core with progs := o.core.progs },
      dbg := { s.dbg with pendingErase := o.dbg.pendingErase } }

/-- Records of NV that are no repair records (R322, R353, R377, R401, R407, R425, R497). -/
def State.nvRecords (s : State) (o : State) : State :=
  { s with
      sec := { s.sec with root := o.sec.root, boryr := o.sec.boryr, vendor := o.sec.vendor, keys := o.sec.keys,
                          pwds := o.sec.pwds, identity := o.sec.identity, cert := o.sec.cert,
                          keyStore := o.sec.keyStore, lockEnd := if o.time < o.sec.lockEnd then o.sec.lockEnd - o.time else 0 },
      img := { s.img with slots := o.img.slots, charterCopy := o.img.charterCopy,
                          tetherRecord := o.img.tetherRecord },
      pins := { s.pins with records := o.pins.records, recSeq := o.pins.recSeq },
      fb := { s.fb with pages := o.fb.pages, wearRaised := o.fb.wearRaised },
      thm := { s.thm with moved := o.thm.moved },
      pow := { s.pow with irRecords := o.pow.irRecords, degraded := o.pow.irRecords } }

/-- The supervisors rebuild POWER_DEGRADED from the IR-drop records (R44). -/
def State.showDegraded (s : State) : State :=
  s.pow.degraded.foldl (fun s e =>
    let y := e.1 / 256
    let c := e.1 % 256
    (s.setBit (LSUP_DEGRADED y (c / 32)) (c % 32) true).setFlag (LSUP_STATUS_POWER_DEGRADED y) true) s

/-- Thermal sensors that a slice found failed are replaced from the start (R483). -/
def State.failedSensors (s : State) : State :=
  let bad := (s.bist.units.filter (fun e => decide (e.1 / 4096 = 2) && e.2.suspect)).map (fun e => instSensor (e.1 % 4096))
  bad.foldl (fun s x =>
    let t := Tab.put sensor0 s.thm.sensors (sensorKey x.1 x.2) { sensor0 0 with suspect := true }
    ({ s with thm := { s.thm with sensors := t } } : State).setFlag (LSUP_STATUS_SENSOR_SUSPECT x.1) true) s

/-- What VAUX keeps, and what lies outside the device: the field book RAM, SEQ, the rails that are good, the
supplies and pad levels, HREF, and a commit that runs (R32, R408, R438, R488). -/
def State.vauxKept (s : State) (o : State) : State :=
  let pad (k : Nat) : Reg := if 0x10000 ≤ k ∧ k < 0x18000 ∧ k % 0x100 = 0x10 then fldMask 0 2
    else if k = GPIO_SUPPLY ∨ (0xA000 ≤ k ∧ k < 0xA010) then 0xFFFFFFFF#32
    else if k = CLK_STATUS then fldMask 0 1 else 0
  let s := o.regs.foldl (fun s e =>
    let m := pad e.1
    if m = 0 then s else s.wr e.1 ((s.rd e.1 &&& ~~~m) ||| (e.2 &&& m))) s
  let s := (s.wr FBK_HEAD (o.rd FBK_HEAD)).setFlag FBK_STATUS_COMMITTING o.fb.run.isSome
  let m := s.mnt
  { s with
      ev := { s.ev with seq := o.ev.seq },
      fb := { s.fb with ring := o.fb.ring, run := o.fb.run },
      pow := { s.pow with good := o.pow.good, mv := o.pow.mv, cur := o.pow.cur, low := o.pow.low },
      host := { s.host with perst := o.host.perst },
      mnt := { m with wanted := o.relocsLeft, again := o.repairsLeft,
                      acts := o.mnt.acts.filter (fun a => decide (taskCode a.task = 9)) } }

/-- The state that power-on leaves: what NV and fuses keep, the rest at reset; with VAUX kept, also what VAUX
keeps (R412, R438). -/
def State.powerOnClear (s : State) (vaux : Bool) : State :=
  let z := State.reset
  let z := ({ z with pending := s.pending, regs := s.regs, out := s.out, free := s.free } : State).nvRegs
  let z := ((z.nvRepairs s).nvRecords s).showDegraded.failedSensors
  let cause : Tab Byte := allPins.map (fun v => (v, causeBit 0))
  let z := { z with pins := { z.pins with cause := cause } }
  if vaux then z.vauxKept s else z

/-- The part of ordering code -EP right after power-on: State.reset is the -E part, which nothing has provisioned; the
-EP part leaves the factory PROVISIONED, with the customer root and image key 0 (R2, R379). -/
def State.resetEP : State :=
  let s := ((State.reset.setFlag SEC_LIFE_EP true).setFlag SEC_LIFE_ROOT_SET true).set SEC_LIFE_STATE 1
  { s with sec := { s.sec with root := some Config.submittedRoot,
                               keys := Tab.put none0 s.sec.keys 0 (some Config.submittedKey) } }

end Sys2Proof.Machine
end

