-- ==== Sys2Proof/Machine/ImageOps.lean ====
section
/-! DEFINITION.  Verification of an image or a context pack and the report of a rejection (R355 to R365), and the apply
pass (R372, R433). -/

namespace Sys2Proof.Machine

open Sys2Proof

/-! ### Verification (R364) -/

/-- Result of a verification: OK or the failure's status, with NOKEY and the failing segment of CFG_LAST. -/
structure Verdict where
  status : Nat
  nokey : Bool
  segment : Option Nat
  deriving DecidableEq, Repr

def verdict (status : Nat) : Verdict := { status := status, nokey := false, segment := none }

/-- Segment table entries: aligned, of allowed length, in order, within the segment area (R357). -/
def segmentsOk (stop : Nat) : Nat → List (BitVec 32 × BitVec 32) → Bool
  | lo, [] => decide (lo ≤ stop)
  | lo, e :: l =>
    decide (lo ≤ e.1.toNat) && decide (e.1.toNat % 64 = 0) &&
      decide (32 ≤ e.2.toNat ∧ e.2.toNat ≤ 4194320) && segmentsOk stop (e.1.toNat + e.2.toNat) l

/-- Step 1: the fixed header and the segment table are well formed (R355 to R357). -/
def imageHeaderOk (i : Image) (pack : Bool) : Bool :=
  decide (i.magic.toNat = 0x4D49594B ∧ i.format.toNat = 1 ∧ i.kind.toNat = b2n pack ∧ i.keysel.toNat < 4) &&
  i.reservedZero &&
  decide (i.charterOff.toNat = (if pack then 0 else 256) ∧ i.segtabOff.toNat = (if pack then 256 else 640)) &&
  decide (1 ≤ i.n.toNat ∧ i.n.toNat ≤ 1024 ∧ i.segments.length = i.n.toNat) &&
  decide (i.total.toNat % 64 = 0 ∧ i.trailerOff.toNat % 64 = 0 ∧
    i.total.toNat = i.trailerOff.toNat + 64 * i.n.toNat + 1088) &&
  segmentsOk i.trailerOff.toNat (i.segtabOff.toNat + 8 * i.n.toNat) i.segments

/-- Steps 1 to 5: what the fixed header decides. -/
def State.headerStatus (s : State) (pack : Bool) (i : Image) : Nat :=
  if imageHeaderOk i pack = false then stFORMAT
  else if 134217728 < i.total.toNat then stNO_SPACE
  else if i.family.toNat ≠ 1 ∨ i.part.toNat ≠ 0x5120 ∨ i.fpclass.getLsbD (s.get CFG_ID_FPCLASS) = false ∨
      i.devmask.getLsbD (s.get CFG_ID_DEVNUM) = false then stWRONG_DEVICE
  else if i.arv.toNat < (s.rd SEC_ARV).toNat then stROLLBACK
  else if s.get SEC_LIFE_STATE = 0 ∨ 4 ≤ s.get SEC_LIFE_STATE then stREFUSED
  else stOK

/-- First frame that is none of R360 to R362, by its segment. -/
def imageBadFrame (i : Image) : Option Nat :=
  (i.frames.find? (fun f => decide (f.body = Frame.malformed))).map FrameRec.segment

/-- The image key that KEYSEL names (R359, R379). -/
def State.imageKey (s : State) (i : Image) : Option (BitVec 256) := Tab.get none0 s.sec.keys i.keysel.toNat

/-- Steps 7 to 10: hashes, signature, key and the tag pass. -/
def State.cryptoVerdict (s : State) (i : Image) : Verdict :=
  match i.badHash with
  | some k => { status := stSIGNATURE, nokey := false, segment := some k }
  | none =>
    if s.sec.root ≠ some i.keyHash ∨ i.sigOk = false then verdict stSIGNATURE
    else match s.imageKey i with
      | none => { status := stTAG, nokey := true, segment := none }
      | some k =>
        if k ≠ i.imageKey then { status := stTAG, nokey := false, segment := some 0 }
        else match i.badTag with
          | some t => { status := stTAG, nokey := false, segment := some t }
          | none => match imageBadFrame i with
            | some b => { status := stFORMAT, nokey := false, segment := some b }
            | none => verdict stOK

/-- The whole result of an image on a scratch state (R66, R74, R76, R173, R330, R363). -/
def State.resultOk (s : State) (fs : List Frame) : Bool :=
  (upto 512).all (fun p => s.wiresOk p (s.slotCtxs p)) &&
  (upto 64).all (fun p =>
    let ms := (s.pacer p).mats
    decide (ms = []) || (!s.groupSplit ms && ms.all (fun m => !s.matLeaves ms m))) &&
  (reachedMats fs).all (fun m => decide (m < 512))

/-- Steps 11 and 12 for an image, laid on the state after a reset. -/
def State.imageStatus (s : State) (i : Image) : Nat :=
  let fs := s.ownFrames i
  let z := s.warmClear.layHead true i fs
  let z := layBody fs ((z.1.layChains [] []).1, z.2)
  if z.2 = false ∨ charterOk i.charter = false ∨ z.1.resultOk fs = false then stFORMAT
  else if (upto 256).any (fun c => !z.1.columnClear c (z.1.colCtx c) none) ∨ fs.any z.1.frameContends then
    stCONTENTION
  else stOK

/-- Frame types that a pack may hold (R361). -/
def packFrameOk : Frame → Bool
  | .pad | .schedule _ _ _ _ _ _ _ => true
  | .context d _ _ | .trunkHold d _ | .pinChoice d _ => d.lib
  | .track _ op _ _ _ _ _ _ _ _ _ => decide (op = 1)
  | _ => false

/-- Steps 11 and 12 for a pack, laid on the running device. -/
def State.packStatus (s : State) (i : Image) : Nat :=
  let fs := s.ownFrames i
  let z := layAll layTally fs (layAll layContext fs (s, true))
  let w := layAll laySchedule fs z
  if (i.frames.all (fun f => packFrameOk f.body)) = false ∨ w.2 = false then stFORMAT
  else if z.1.framesContend fs then stCONTENTION
  else stOK

/-- Verification of an image or pack that is present in whole (R364). -/
def State.verify (s : State) (pack : Bool) (i : Image) : Verdict :=
  let h := s.headerStatus pack i
  if h ≠ stOK then verdict h
  else
    let c := s.cryptoVerdict i
    if c.status ≠ stOK then c
    else verdict (if pack then s.packStatus i else s.imageStatus i)

/-- A rejection is recorded and IMAGE_REJECTED raised: source 0 IMAGE_STAGE, 1 PACK_LOAD, 2 NV boot, 3 tether
stream; slot 3 none (R365, R375, R376). -/
def State.reject (s : State) (v : Verdict) (source slot : Nat) : State :=
  let s := ((s.set CFG_LAST_STATUS v.status).set CFG_LAST_SOURCE source).set CFG_LAST_SLOT slot
  let s := (s.setFlag CFG_LAST_NOKEY v.nokey).set CFG_LAST_SEGMENT (v.segment.getD 0)
  let s := s.setFlag CFG_LAST_SEG_VALID v.segment.isSome
  let s := s.count CFG_REJECTS CFG_SAT_REJECTS 1
  s.raiseSt 0x8C01 srcConfig v.status
    [(18, 1, source), (19, 1, if slot < 3 then slot else 0xFF), (20, 2, v.segment.getD 0xFFFF)]

/-! ### The apply pass (R372) -/

/-- The contexts of a mat whose CONTEXT frame fails twice are placed on a reserve mat, or its groups stop
(R433). -/
def State.placeFailed (s : State) (p : Nat) (chains : List Chain) : State :=
  if (s.serves p).isNone ∨ s.matRetired p then s
  else
    let src := s.relocSet p
    let banks := s.bankSet src
    match s.chooseTarget p chains with
    | none => s.unplaceable src
    | some d =>
      let dst := relocTargets src d
      let s := s.copyBanks banks p d
      let s := (src.zip dst).foldl (fun s e =>
        let s := (s.copyLibrary e.1 e.2 []).copySlots e.1 e.2
        (s.set (gACTIVE e.2) (s.activeSlot e.1)).switchMat e.1 e.2) s
      let s := s.switchBanks banks p d
      let s := match s.chainsTo src chains d with
        | some c => s.enablePaths d (chainPaths c)
        | none => s
      src.foldl State.retireMat s

/-- Source and slot registers of the applied image (R371). -/
def State.noteApplied (s : State) (i : Image) (b : Boot) : State :=
  let s := (s.set CFG_BOOT_SRC b.source).setFlag CFG_BOOT_TRIAL_RUNNING b.trial
  let s := (s.setFlag CFG_BOOT_STREAMED (decide (b.source = 3))).setFlag CFG_BOOT_NO_IMAGE false
  let s := { s with img := { s.img with running := some (i.arv, i.measure) } }
  s.raise 0x0C04 srcConfig [(18, 1, if b.source = 3 then 0xFF else b.source), (19, 4, i.arv.toNat), (23, 1, b2n b.trial),
    (24, 1, b2n (decide (b.source = 3)))]

/-- The apply pass writes a verified image; mats of `failed` fail their check code twice (R372, R426 step 5,
R433). -/
def State.applyImage (s : State) (i : Image) (failed : List Nat) (chains : List Chain) : State :=
  let fs := s.ownFrames i
  let warm := s.dev.warm.isSome
  let s := (s.set DEV_STATUS_PHASE 4).layCharter i.charter
  let s := s.charterAll 0
  let z := s.layHead warm i fs
  match z.1.layChains chains (layBody fs z).1.ctx.slots with
  | (s, lost) =>
    let s := (layBody fs (s, true)).1
    let s := (lost ++ failed).foldl (fun s p => s.placeFailed p chains) s
    s.settlePins allPins

end Sys2Proof.Machine
end

