-- ==== Sys2Proof/Machine/Host.lean ====
section
/-! DEFINITION.  The host link, rings, doorbells and host-absent mode (spec/09_host_rings.md). -/

namespace Sys2Proof.Machine

open Sys2Proof

/-- Milliseconds between two device times, saturating at 32 bits. -/
def msBetween (a b : Word) : Nat := satBits 32 ((b - a).toNat / 1000000)

/-- Put a ring in FAULT (R290). -/
def State.ringFault (s : State) (n cause value : Nat) : State :=
  let s := (s.set (ringSTATE n) 2).set (ringCAUSE n) cause
  let s := s.count HIF_RINGFAULTS HIF_SAT_RINGFAULTS 1
  s.raiseLim 0x8903 (srcHif (if n < 64 then 0 else 1)) [(18, 2, n), (20, 1, cause), (21, 4, value)]

/-- Close every session with a cause (R393). -/
def State.closeSessions (s : State) (cause : Nat) : State :=
  let l := s.sec.sessions
  let s := { s with sec := { s.sec with sessions := [] } }
  l.foldl (fun s x => s.raise 0x0D04 srcSessions [(18, 2, x.tag.toNat), (20, 1, cause)]) s

/-- Entry into host-absent mode (R301, R302). -/
def State.enterAbsent (s : State) (cause : Nat) : State :=
  if s.flag HIF_STATUS_HOST_ABSENT then s
  else
    let s := (s.setFlag HIF_STATUS_HOST_ABSENT true).set HIF_STATUS_ABSENT_CAUSE cause
    let s := { s with host := { s.host with absentAt := s.time, hbRun := false } }
    let s := s.raise 0x4901 (srcHif 0) [(18, 1, cause), (19, 4, msBetween s.host.hbAt s.time)]
    s.closeSessions 2

/-- Held completions of a ring are written while it has room (R295). -/
def State.flushHeld (s : State) (n : Nat) : Nat → State
  | 0 => s
  | k + 1 =>
    match (s.ring n).held with
    | [] => s
    | c :: cs =>
      if s.ringRuns n 1 ∧ s.dmaOn ∧ s.ringFull n = false then
        ((s.setRing n { s.ring n with held := cs }).produce n 16 (complBytes c)).flushHeld n k
      else s

/-- COMMAND_FETCH (R288, R292, R293): the device may fetch while CMD_READY is 1, the host is present,
DMA runs, the ring is RUNNING and not empty, its previous command has started, fewer than 32 commands
are outstanding and the completion ring's hold has room; a command with FENCE also waits for the
ring's earlier commands. -/
def State.mayFetch (s : State) (n : Nat) (fence : Bool) : Bool :=
  s.flag HIF_STATUS_CMD_READY && !s.flag HIF_STATUS_HOST_ABSENT && s.dmaOn &&
  s.ringRuns n 0 && !s.ringEmpty n &&
  decide ((s.host.cmds.filter (fun c => decide (c.ring = n))).length < 32) &&
  s.host.cmds.all (fun c => decide (c.ring ≠ n) || (c.started && !fence)) &&
  decide ((s.ring (s.get ⟨ringAux n, 0, 6⟩)).held.length < 256)

def execCommandFetch (ring : Fin 64) (opcode flags : Byte) (session : BitVec 16) (id : BitVec 32)
    (s : State) : Host.Outcome State Fault Refusal :=
  let n := ring.val
  if s.mayFetch n (flags.getLsbD 0) = false then .next s
  else
    let r := s.ring n
    let c := (r.c + 1) % (2 * s.ringSize n)
    let s := (s.setRing n { r with c := c }).mirror n c
    let op := opcode.toNat
    let ref : CmdRef := { ring := n, id := id, opcode := op }
    if (opcodeNeed op).isNone ∨ flags.toNat / 2 ≠ 0 then .next (s.finish ref stBAD_ARG 0)
    else if s.mayIssue op session = false then .next (s.finish ref stAUTH 0)
    else
      let s := s.useSession session
      .next { s with host := { s.host with cmds := s.host.cmds ++
        [{ ring := n, id := id, opcode := op, session := session, started := false, discard := false }] } }

/-- COMPLETION_FLUSH (R295). -/
def execCompletionFlush (ring : Fin 64) (s : State) : Host.Outcome State Fault Refusal :=
  .next (s.flushHeld ring.val (s.ring ring.val).held.length)

/-- The ring is one that the host produces: a command or a data ring (R289). -/
def State.hostProduces (s : State) (n : Nat) : Bool :=
  s.get (ringKIND n) = 0 ∨ s.get (ringKIND n) = 3

/-- DOORBELL_WRITE (R289). -/
def execDoorbellWrite (ring : RingId) (value : Word) (s : State) : Host.Outcome State Fault Refusal :=
  let n := ring.val
  let r := s.ring n
  let md := 2 * s.ringSize n
  let v := value.toNat
  if s.get (ringSTATE n) ≠ 1 then .next s
  else if s.hostProduces n then
    -- from the previous P to C + size, counting forward
    if v < md ∧ (v + md - r.p) % md ≤ (r.c + s.ringSize n + md - r.p) % md then
      .next (s.setRing n { r with p := v })
    else .next (s.ringFault n 0 v)
  else
    -- from the previous C to the device's P
    if v < md ∧ (v + md - r.c) % md ≤ (r.p + md - r.c) % md then
      .next (s.setRing n { r with c := v })
    else .next (s.ringFault n 0 v)

/-- The set-up that a write of EN 1 finds is valid (R287, R290); for a command ring AUX names an
enabled completion ring. -/
def State.ringValid (s : State) (n : Nat) (cfg : Reg) : Bool :=
  let kind := fldGet cfg 1 2
  let sz := fldGet cfg 3 5
  let aux := s.rd (ringAux n)
  decide (6 ≤ sz ∧ sz ≤ 16) && (if n < 64 then decide (kind < 3) else decide (kind = 3)) &&
  decide ((s.rd (ringBaseLo n)).toNat % 4096 = 0) && decide ((s.rd (ringMirrorLo n)).toNat % 8 = 0) &&
  (decide (kind ≠ 0) || s.ringRuns (fldGet aux 0 6) 1)

/-- Bits of CFG that a write reaches: MIN_SEV is reserved for a data ring (R304, R305). -/
def ringMask (n : Nat) : Reg := if n < 64 then 0x3FFFFF else 0xFFFFF

/-- RING_ENABLE (R290): a write of CFG with EN 1. On a ring that is enabled already KIND and SIZE_LOG2
keep their values. -/
def execRingEnable (ring : RingId) (cfg : Reg) (s : State) : Host.Outcome State Fault Refusal :=
  let n := ring.val
  if cfg.getLsbD 0 = false then .next s
  else if s.flag (ringEN n) then
    let old := s.rd (ringCfg n)
    .next (s.wr (ringCfg n) (fldPut (fldPut (cfg &&& ringMask n) 1 2 (fldGet old 1 2)) 3 5 (fldGet old 3 5)))
  else if s.ringValid n cfg = false then
    .next ((s.wr (ringCfg n) (fldPut (cfg &&& ringMask n) 0 1 0)).setFlag (ringREFUSED n) true)
  else
    let s := (s.wr (ringCfg n) (cfg &&& ringMask n)).set (ringSTATE n) 1
    let s := s.setRing n { s.ring n with p := 0, c := 0, unsig := 0, pushed := 0 }
    .next (s.mirror n 0)

/-- RING_DISABLE (R290): a write of CFG with EN 0; command rings that name a disabled completion ring
enter FAULT with cause 3. -/
def execRingDisable (ring : RingId) (cfg : Reg) (s : State) : Host.Outcome State Fault Refusal :=
  let n := ring.val
  if cfg.getLsbD 0 then .next s
  else
    let wasCompl := s.ringRuns n 1
    let s := (s.wr (ringCfg n) (cfg &&& ringMask n)).set (ringSTATE n) 0
    if wasCompl then
      .next ((upto 64).foldl (fun s r =>
        if s.ringRuns r 0 ∧ s.get ⟨ringAux r, 0, 6⟩ = n then s.ringFault r 3 n else s) s)
    else .next s

/-- DMA_ERROR (R290). -/
def execDmaError (ring : RingId) (index : BitVec 32) (s : State) : Host.Outcome State Fault Refusal :=
  if s.get (ringSTATE ring.val) = 1 then .next (s.ringFault ring.val 1 index.toNat) else .next s

/-- The queue a data ring is bound to (R216). -/
def State.boundQueue (s : State) (n : Nat) : Option Nat :=
  (s.que.queues.find? (fun e => match e.2 with
    | some q => q.ring = some n
    | none => false)).map Prod.fst

/-- An entry is valid (R298): LEN from 8 to 16,777,208 in steps of 8, reserved fields 0. -/
def DEntryOk (e : DEntry) : Bool :=
  decide (8 ≤ e.len.toNat ∧ e.len.toNat ≤ 16777208 ∧ e.len.toNat % 8 = 0) && !e.rsv &&
  decide (e.hflags.toNat < 4 ∧ e.addr.toNat % 8 = 0)

/-- The device part of an entry written back (R298). -/
def writeBackBytes (bytes seq flags epoch : Nat) (t : Word) : List Byte :=
  leBytes 4 bytes ++ leBytes 2 seq ++ [BitVec.ofNat 8 flags, BitVec.ofNat 8 epoch] ++ leBytes 8 t.toNat

/-- Write items into an entry's buffer and write the entry back: data, entry, mirror, message (R288,
R298, R299). -/
def State.writeBackEntry (s : State) (n : Nat) (e : DEntry) (items : List Word) (seq flags : Nat) (epoch : Nat) :
    State :=
  let r := s.ring n
  let s := s.emit (.hostWrite e.addr (items.foldr (fun w l => leBytes 8 w.toNat ++ l) []))
  let s := s.emit (.hostWrite (s.entryAddr n r.c 32 + 16)
    (writeBackBytes (8 * items.length) seq flags epoch s.time))
  let c := (r.c + 1) % (2 * s.ringSize n)
  let s := s.setRing n { r with c := c }
  (s.mirror n c).ringSignal n

/-- Entries posted and not yet used. -/
def State.posted (s : State) (n : Nat) : Nat :=
  ((s.ring n).p + 2 * s.ringSize n - (s.ring n).c) % (2 * s.ringSize n)

/-- What error correction finds in the items that a command reads, by position; clean where none is listed. -/
def eccAt (found : List (Nat × Ecc)) (i : Nat) : Ecc :=
  ((found.find? (fun e => decide (e.1 = i))).map Prod.snd).getD .clean

/-- Items popped for a data ring, as every consumer pops them (R112, R206, R213); fewer than k when the queue is reset
on the way. -/
def State.popItems (s : State) (q : Nat) (found : List (Nat × Ecc)) (pos : Nat) : Nat → State × List Popped
  | 0 => (s, [])
  | k + 1 =>
    match s.popItem q (eccAt found pos) with
    | (s, none) => (s, [])
    | (s, some p) => match s.popItems q found (pos + 1) k with
      | (s, l) => (s, p :: l)

/-- Non-packet service of a device-to-host ring: fill one entry with the items present (R299). -/
def State.fillEntry (s : State) (n q : Nat) (e : DEntry) (found : List (Nat × Ecc)) (partly : Bool) : State :=
  let k := min (e.len.toNat / 8) (s.published q)
  if k = 0 ∨ (k < e.len.toNat / 8 ∧ partly = false) then s
  else match s.popItems q found 0 k with
    | (s, []) => s
    | (s, p :: l) => s.writeBackEntry n e (p.item :: l.map Popped.item) 0 (16 + 8 * b2n ((p :: l).any Popped.uncorr)) p.epoch

/-- Packet service (R299): write back the entries of a packet whose words have been read; `len`: the length word. -/
def State.fillPacket (s : State) (n : Nat) (len : Popped) : List DEntry → List Popped → Bool → State
  | [], _, _ => s
  | e :: es, items, first =>
    let now := items.take (e.len.toNat / 8)
    let rest := items.drop (e.len.toNat / 8)
    let fl := b2n first + 2 * b2n (decide (rest = [])) + 4 * b2n (bitAt len.item.toNat 32) +
      8 * b2n (now.any Popped.uncorr) + 16
    let s := s.writeBackEntry n e (now.map Popped.item) (bitsAt len.item.toNat 16 16) fl len.epoch
    if rest = [] then s else s.fillPacket n len es rest false

/-- The words of a packet are read; when the queue is reset on the way none of its entries is written back
(R212, R299). -/
def State.takePacket (s : State) (n q : Nat) (need : List DEntry) (k : Nat) (found : List (Nat × Ecc)) : State :=
  match s.popItem q (eccAt found 0) with
  | (s, none) => s
  | (s, some len) => match s.popItems q found 1 k with
    | (s, items) =>
      if items.length < k then s.count HDR_DISCARDS HDR_SAT_DISCARDS 1 else s.fillPacket n len need items true

/-- Words that a list of entries can hold. -/
def entriesWords (es : List DEntry) : Nat := es.foldl (fun a e => a + e.len.toNat / 8) 0

/-- The first entries of a list that hold k words, at least one. -/
def entriesFor (es : List DEntry) (k : Nat) : List DEntry :=
  match es with
  | [] => []
  | e :: es => if k ≤ e.len.toNat / 8 then [e] else e :: entriesFor es (k - e.len.toNat / 8)

/-- DATA_RING_WRITEBACK (R298, R299). `entries`: the posted entries from index C on; `found`: what
error correction finds in the items, by position. In packet mode the whole packet is written back once its
words are present and the posted space holds it. -/
def execDataRingWriteback (ring : RingId) (entries : List DEntry) (found : List (Nat × Ecc)) (s : State) :
    Host.Outcome State Fault Refusal :=
  let n := ring.val
  if s.ringRuns n 3 = false ∨ s.dmaOn = false ∨ s.posted n < entries.length then .next s
  else match s.boundQueue n, entries with
    | some qi, e :: es =>
      match s.queue qi with
      | none => .next s
      | some q =>
        if q.cons ≠ 3 then .next s
        else if q.packet = false then
          if DEntryOk e = false then .next (s.ringFault n 2 (s.ring n).c)
          else
            .next (s.fillEntry n qi e found (decide (s.get (ringUS n) = 0)))
        else if s.headReady qi = false then .next s
        else if (s.itemAt qi 0).poison || eccUe (eccAt found 0) then .next (s.popItem qi (eccAt found 0)).1
        else
          let lw := (s.itemAt qi 0).data.toNat
          let len := bitsAt lw 0 16
          let need := entriesFor (e :: es) len
          if s.published qi < len + 1 ∨ entriesWords (e :: es) < len then .next s
          else if need.all DEntryOk = false then .next (s.ringFault n 2 (s.ring n).c)
          else
            .next (s.takePacket n qi need len found)
    | _, _ => .next s

/-- DATA_RING_COAL_TIMEOUT (R299): COAL.US has passed with no new item; the partly filled entry is
written back. -/
def execDataRingCoalTimeout (ring : RingId) (entry : DEntry) (found : List (Nat × Ecc)) (s : State) :
    Host.Outcome State Fault Refusal :=
  let n := ring.val
  if s.ringRuns n 3 = false ∨ s.dmaOn = false ∨ s.posted n = 0 ∨ s.get (ringUS n) = 0 then .next s
  else match s.boundQueue n with
    | none => .next s
    | some qi =>
      match s.queue qi with
      | none => .next s
      | some q =>
        if q.cons ≠ 3 ∨ q.packet ∨ s.elapsed q.freshAt (s.get (ringUS n) * 1000) = false then .next s
        else if DEntryOk entry = false then .next (s.ringFault n 2 (s.ring n).c)
        else .next (s.fillEntry n qi entry found true)

/-- Push the words of a host-to-device entry from position i on, while the queue takes them (R300). -/
def State.pushWords (s : State) (n q : Nat) (start last : Bool) : Nat → List Word → State
  | _, [] => s
  | i, w :: ws =>
    if s.canPush q (start && decide (i = 0)) = false then s
    else
      let s := s.pushItem q w (start && decide (i = 0)) (last && decide (ws = []))
      let s := s.setRing n { s.ring n with pushed := i + 1 }
      s.pushWords n q start last (i + 1) ws

/-- DATA_RING_FETCH (R298, R300). `words`: the entry's buffer as read by DMA. -/
def execDataRingFetch (ring : RingId) (entry : DEntry) (words : List Word) (s : State) :
    Host.Outcome State Fault Refusal :=
  let n := ring.val
  if s.ringRuns n 3 = false ∨ s.dmaOn = false ∨ s.ringEmpty n then .next s
  else match s.boundQueue n with
    | none => .next s
    | some qi =>
      match s.queue qi with
      | none => .next s
      | some q =>
        if q.prod ≠ 3 then .next s
        else if DEntryOk entry = false then .next (s.ringFault n 2 (s.ring n).c)
        else
          let total := entry.len.toNat / 8
          let done := (s.ring n).pushed
          let ws := (words.take total).drop done
          let s := s.pushWords n qi (entry.hflags.getLsbD 0) (entry.hflags.getLsbD 1) done ws
          if (s.ring n).pushed < total then .next s
          else
            let r := s.ring n
            let c := (r.c + 1) % (2 * s.ringSize n)
            .next ((s.setRing n { r with c := c, pushed := 0 }).mirror n c)

/-- MSIX_COALESCE_TIMEOUT (R291): COAL.US has passed since the first entry not yet signalled. -/
def execMsixCoalesceTimeout (ring : RingId) (s : State) : Host.Outcome State Fault Refusal :=
  let n := ring.val
  if s.get (ringSTATE n) = 1 ∧ s.get (ringKIND n) ≠ 0 ∧ s.flag (ringVEC_EN n) ∧ 0 < (s.ring n).unsig ∧
      0 < s.get (ringUS n) ∧ s.dmaOn ∧ s.elapsed (s.ring n).since (s.get (ringUS n) * 1000) then .next (s.ringMsg n)
  else .next s

/-- HEARTBEAT_WRITE (R301, R302). -/
def execHeartbeatWrite (value : Reg) (s : State) : Host.Outcome State Fault Refusal :=
  let s := s.wr HIF_HEARTBEAT value
  if s.flag HIF_HB_CTL_EN then
    let was := s.flag HIF_STATUS_HOST_ABSENT
    let ms := msBetween s.host.absentAt s.time
    let s := { s with host := { s.host with hbAt := s.time, hbRun := true } }
    if was then .next ((s.setFlag HIF_STATUS_HOST_ABSENT false).raise 0x0902 (srcHif 0) [(18, 4, ms)])
    else .next s
  else .next s

/-- HEARTBEAT_ENABLE (R301): a write of HIF_HB_CTL; EN 1 starts the timer, EN 0 stops it. -/
def execHeartbeatEnable (value : Reg) (s : State) : Host.Outcome State Fault Refusal :=
  let s := s.wr HIF_HB_CTL (value &&& 0xFFFF0001#32)
  if value.getLsbD 0 then .next { s with host := { s.host with hbAt := s.time, hbRun := true } }
  else .next { s with host := { s.host with hbRun := false } }

/-- HEARTBEAT_TIMEOUT (R301, R304): TIMEOUT_MS has passed since the timer was started; values below 10 act as 10. -/
def execHeartbeatTimeout (s : State) : Host.Outcome State Fault Refusal :=
  if s.flag HIF_HB_CTL_EN ∧ s.host.hbRun ∧
      s.elapsed s.host.hbAt (max 10 (s.get HIF_HB_CTL_TIMEOUT_MS) * 1000000) then .next (s.enterAbsent 0) else .next s

/-- Rings of a range lose their set-ups: a packet that a host-to-device ring left open is closed as
oversize, and commands accepted from them run on with their completions discarded (R279, R280).
Commands fetched and not yet started are not accepted and go. -/
def State.dropRings (s : State) (lo hi : Nat) : State :=
  let s := s.que.queues.foldl (fun s e => match e.2 with
    | some x => (match x.ring with
      | some n => if lo ≤ n ∧ n < hi ∧ x.prod = 3 then s.cutPacket e.1 else s
      | none => s)
    | none => s) s
  let cmds := s.host.cmds.filter (fun (c : Cmd) => decide (¬ (lo ≤ c.ring ∧ c.ring < hi)) || c.started)
  { s with host := { s.host with
      rings := Tab.keep (fun n => decide (¬ (lo ≤ n ∧ n < hi))) s.host.rings,
      cmds := cmds.map (fun (c : Cmd) =>
        if lo ≤ c.ring ∧ c.ring < hi then { c with discard := true } else c) } }

/-- HIF registers that PERST# and a PF0 reset return to their reset values: all but CMD_READY, which
follows the stack manager, and the host-absent bits, which R306 keeps (Flags of HIF_STATUS). -/
def State.resetHif (s : State) : State :=
  let st := s.rd HIF_STATUS
  let link := s.rd HIF_LINK
  let s := s.resetRegs (fun k => decide (0x1000 ≤ k ∧ k < 0x2000))
  let s := (s.wr HIF_STATUS st).wr HIF_LINK link
  { s with host := { s.host with latch := Tab.put reg0 s.host.latch 0 0, hbRun := false } }

/-- HDR registers back to reset; AUX shows the queue bindings, which are kept (R220, R279). -/
def State.resetHdr (s : State) : State := s.resetRegs (fun k => decide (0x1000000 ≤ k))

/-- PERST (R279, R306): the rings and DMA are gone before an event is raised. -/
def execPerst (asserted : Bool) (s : State) : Host.Outcome State Fault Refusal :=
  let en := s.flag HIF_HB_CTL_EN
  let s := (s.dropRings 0 1024).resetHif.resetHdr
  let s := { s with host := { s.host with perst := asserted } }
  let s := if asserted then (s.setFlag HIF_STATUS_LINK_UP false).wr HIF_LINK 0 else s
  .next (if en then s.enterAbsent 1 else s.closeSessions 3)

/-- FLR_PF0 (R280). -/
def execFlrPf0 (s : State) : Host.Outcome State Fault Refusal :=
  .next (((s.dropRings 0 64).resetHif).closeSessions 3)

/-- FLR_PF1 (R280). -/
def execFlrPf1 (s : State) : Host.Outcome State Fault Refusal :=
  .next ((s.dropRings 64 1024).resetHdr)

/-- LINK_DOWN (R281, R282): DMA stops, ring set-ups and indices are kept. -/
def State.linkDown (s : State) : State :=
  if s.flag HIF_STATUS_LINK_UP then
    let s := s.setFlag HIF_STATUS_LINK_UP false
    let s := (upto 16).foldl (fun s h => s.setFlag (HL_STATUS_ACTIVE h) false) s
    if s.flag HIF_HB_CTL_EN then s.enterAbsent 2 else s
  else s

def execLinkDown (s : State) : Host.Outcome State Fault Refusal := .next s.linkDown

/-- LINK_UP (R276, R278, R281, R282, R337): with HREF present and PLL_P locked the link trains at 1, 4, 8 or 16 lanes and
a rate code 1 to 5; DMA resumes from the kept indices. -/
def execLinkUp (width : BitVec 5) (rate : BitVec 3) (reversed degraded : Bool) (s : State) :
    Host.Outcome State Fault Refusal :=
  if s.dev.off ∨ s.host.perst ∨ s.flag CLK_STATUS_HREF_PRESENT = false ∨ s.bit CLK_STATUS 10 = false ∨ width.toNat ∉ [1, 4, 8, 16] ∨ rate.toNat = 0 ∨ 5 < rate.toNat then .next s
  else
    let s := s.setFlag HIF_STATUS_LINK_UP true
    let s := (((s.set HIF_LINK_WIDTH width.toNat).set HIF_LINK_RATE rate.toNat).setFlag HIF_LINK_DEGRADED
      degraded).setFlag HIF_LINK_REVERSED reversed
    let s := (upto 16).foldl (fun s h =>
      (s.setFlag (HL_STATUS_ACTIVE h) (decide (h < width.toNat))).set (HL_STATUS_RATE h) rate.toNat) s
    if degraded then .next (s.raise 0x4905 (srcHif 0) [(18, 1, width.toNat), (19, 1, rate.toNat)])
    else .next s

end Sys2Proof.Machine
end

