-- ==== Sys2Proof/Machine/CoreOps.lean ====
section
/-! DEFINITION.  Control cores: core reset, programs, latches (R38, R443, R498 to R511). -/

namespace Sys2Proof.Machine

open Sys2Proof

def State.coreAt (s : State) (n : Nat) : Core := Tab.get core0 s.core.cores n

def State.setCore (s : State) (n : Nat) (c : Core) : State :=
  { s with core := { s.core with cores := Tab.put core0 s.core.cores n c } }

/-- PBUS_LOCK is released when its holder stops. -/
def State.dropLock (s : State) (n : Nat) : State :=
  if s.core.lock = some n then { s with core := { s.core with lock := none } } else s

/-- CSRs of a core at their reset values (R503); what the debug port wrote to others goes with them. -/
def State.resetCsrs (s : State) (n : Nat) : State :=
  { s with core := { s.core with csr := Tab.keep (fun k => decide (k / 4096 ≠ n)) s.core.csr } }

/-- Comparators and halt state of a core cleared by a reset that reaches it (R524, R528). -/
def State.resetCoreDebug (s : State) (n : Nat) : State :=
  let s := s.resetRegs (fun k => decide (0x3200 + 0x40 * n ≤ k ∧ k < 0x3240 + 0x40 * n))
  s.resetRegs (fun k => decide (k = DBG_CORE_STATUS n))

/-- The clock enable of a service core: its core reset cannot be released while it is 0 (R268). -/
def State.coreClocked (s : State) (n : Nat) : Bool := decide (n < 4) || s.bit CLK_EN1 (12 + n)

/-- Requester number of a core (R38). -/
def coreReqNo (n : Nat) : Nat := if n < 4 then 1 + n / 2 else n - 1

/-- A core enters core reset: a wait, a halt and a reservation end, its latch and CSRs are cleared; its pins keep
their owner and levels and its TCM its contents (R38, R438, R443, R503, R524). -/
def State.holdCore (s : State) (n : Nat) (by_ : Option Nat) : State :=
  let c := s.coreAt n
  let s := s.setCore n { core0 0 with inReset := true, program := c.program, measure := c.measure, resetBy := by_,
                                      resetAt := s.time, loadDue := c.loadDue }
  let s := ((s.dropLock n).resetCsrs n).resetCoreDebug n
  { s with host := { s.host with latch := Tab.put reg0 s.host.latch (coreReqNo n) 0 } }

/-- The requester of a core (R38). -/
def coreRequester (n : Nat) : Requester := if n < 4 then .pair (Fin.ofNat 2 (n / 2)) else .service (Fin.ofNat 4 (n - 4))

/-- The crossings of the control cores to the queues flush: an access that waits there ends in a bus error (R272). -/
def State.flushCoreWaits (s : State) : State :=
  (upto 8).foldl (fun s n => match (s.coreAt n).wait with
    | some (.queuePop _) | some (.queuePush _) =>
      (s.coreWaits (coreRequester n) none).coreBusError (coreRequester n)
    | _ => s) s

/-- Program table entry of a service core in the service-bundle copy in use (R509, R510). -/
def State.progOf (s : State) (n : Nat) : Option Prog :=
  match Tab.get none0 s.core.progs (s.get MNT_STEWARD_SVC_COPY * 4 + (n - 4)) with
  | some p => if p.present then some p else none
  | none => none

/-- Programs with AUTOSTART are to be loaded in P5 (R510). -/
def State.autoLoads (s : State) : State :=
  [4, 5, 6, 7].foldl (fun s n => match s.progOf n with
    | some p => if p.autostart then s.setCore n { s.coreAt n with loadDue := true } else s
    | none => s) s

/-! ### Halting and starting (R510, R511, R521 to R524) -/

/-- A core halts with a cause: 0 request, 1 step, 2 to 9 comparators; its watchdog is frozen when FREEZE is 1; a
halted standby is not READY (R521 to R523, R526). -/
def State.haltCore (s : State) (n cause : Nat) (broken : Bool) : State :=
  let c := s.coreAt n
  let freeze := decide (4 ≤ n) && s.bit (DBG_CORE_CTL n) 3
  let s := s.setCore n { c with halted := true, haltReq := none, deferred := false, haltedAt := s.time,
                                resv := false, wdFrozen := freeze, wait := none }
  let s := if n < 4 ∧ s.get MNT_STEWARD_STANDBY = 2 then s.set MNT_STEWARD_STANDBY 1 else s
  let s := s.set (DBG_CORE_STATUS_CAUSE n) cause
  let s := if broken then s.setFlag (DBG_CORE_STATUS_LOCK_BROKEN n) true else s
  s.raise 0x1206 (srcCore n) [(18, 1, n), (19, 1, cause), (20, 1, b2n broken)]

/-- A core starts at an address with a fresh watchdog; a halt request held for it halts it before its first
instruction (R510, R511, R524). -/
def State.startCore (s : State) (n : Nat) (entry : Word) : State :=
  let c := s.coreAt n
  let s := (s.resetCsrs n).setCore n { c with inReset := false, program := true, resetBy := none, loadDue := false,
                                              wdRun := true, wdAt := s.time, wdFrozen := false, pc := entry, gpr := [], wait := none }
  match c.haltReq with
  | some cause => s.haltCore n cause false
  | none => s

end Sys2Proof.Machine
end

