-- ==== Sys2Proof/Machine/TrustOps.lean ====
section
/-! DEFINITION.  Lifecycle, user secrets and their erasure, sessions and the password lockout (R378 to R396). -/

namespace Sys2Proof.Machine

open Sys2Proof

def State.setSec (s : State) (x : SecState) : State := { s with sec := x }

/-! ### User secrets (R394, R395) -/

/-- A logical bank is flagged secret. -/
def State.secretBank (s : State) (b : Nat) : Bool := s.bit (SEC_SECRET_BANK (b / 32)) (b % 32)

/-- Step 1: image keys and AX keys; every AX instance is disabled and a stream in progress is rejected with TAG.  One whose
words have passed every check and are being written goes on (DESIGN CHOICE, log entry 17). -/
def State.eraseKeys (s : State) : State :=
  let s := s.setSec { s.sec with keys := [] }
  (upto 4).foldl (fun s n =>
    let s := if s.get (CFG_AX_STATUS_STATE n) = 1 then s.axReject n stTAG else s
    let y := Tab.get ax0 s.ctx.ax n
    let s := { s with ctx := { s.ctx with ax := Tab.put ax0 s.ctx.ax n { y with key := none } } }
    s.setFlag (CFG_AX_STATUS_EN n) false) s

/-- A pack that is writing stops with TAG and NOKEY (R396). -/
def State.erasePack (s : State) : State :=
  if s.img.pack.isNone then s
  else
    let l := s.mnt.acts.filter (fun a => decide (taskCode a.task = 8))
    let s := (s.failPack stTAG).setFlag CFG_LAST_NOKEY true
    l.foldl (fun s a => s.release a.place) s

/-- Pins of service cores lose their owner (R331, R395). -/
def State.freeCorePins (s : State) : State :=
  let s := (upto 128).foldl (fun s p => if s.get (FP_OWNER_KIND p) = 4 then s.writeOwner p 0 else s) s
  (upto 96).foldl (fun s n =>
    let k := s.get (GPIO_OWNER_KIND n)
    if 6 ≤ k ∧ k < 10 then s.writeGpioOwner n 0 else s) s

/-- A service core in core reset, without a program. -/
def State.bareCore (s : State) (n : Nat) : State :=
  let s := s.holdCore n none
  s.setCore n { s.coreAt n with program := false, measure := 0, loadDue := false }

/-- The service cores' TCM, SRAM shares and key store hold 0. -/
def State.zeroCores (s : State) : State :=
  { s with core := { s.core with tcm := Tab.keep (fun k => decide (k / 262144 < 4)) s.core.tcm,
                                 sram := Tab.keep (fun k => decide (k < 0x400000)) s.core.sram },
           sec := { s.sec with keyStore := [] } }

/-- Step 2: service cores in core reset without a program, their TCM, SRAM shares and key store 0 (R395, R396). -/
def State.eraseCores (s : State) : State := ([4, 5, 6, 7].foldl State.bareCore s).zeroCores.freeCorePins

/-- Step 3: every word of each secret bank is 0. -/
def State.eraseBanks (s : State) : State :=
  let l := (upto 2048).filter s.secretBank
  let ps := l.map s.bankAt
  { s with mem := { s.mem with words := Tab.keep (fun k => decide (k / 8192 ∉ ps)) s.mem.words } }

/-- Erasure of the user secrets begins: cause 1 debug open, 2 RETIRED (R395). -/
def State.eraseSecrets (s : State) (cause : Nat) : State :=
  let s := (s.setFlag SEC_ERASED_ERASING true).set SEC_ERASED_CAUSE cause
  (s.eraseKeys.erasePack).eraseCores.eraseBanks

/-- The lifecycle changes (R382). -/
def State.setLife (s : State) (into : Nat) : State :=
  let old := s.get SEC_LIFE_STATE
  (s.set SEC_LIFE_STATE into).raise 0x4D05 srcSec
    [(18, 1, old), (19, 1, into), (20, 1, s.get SEC_LIFE_DEBUG_OPENS)]

/-- Erasure ends; after the opening of level 2 the counter rises and DEBUG_OPEN is entered (R395, R517). -/
def State.endErase (s : State) (us : Nat) : State :=
  let cause := s.get SEC_ERASED_CAUSE
  let s := (s.setFlag SEC_ERASED_ERASING false).raise 0x8D06 srcSec [(18, 1, cause), (19, 4, us)]
  match s.dbg.pendingErase with
  | none => s
  | some _ =>
    let s := s.set SEC_LIFE_DEBUG_OPENS (min 255 (s.get SEC_LIFE_DEBUG_OPENS + 1))
    let s := s.setLife 3
    { s with dbg := { s.dbg with pendingErase := none } }

/-- Power was lost before an erasure ended: phase P3 completes it before anything else (R517). -/
def State.resumeErase (s : State) : State :=
  match s.dbg.pendingErase with
  | none => s
  | some _ => (s.eraseSecrets 1).endErase 0

/-! ### Password lockout (R391) -/

/-- A lockout runs. -/
def State.lockedNow (s : State) : Bool := s.flag SEC_LOCK_LOCKED

/-- Whole seconds of the lockout that remain. -/
def State.lockRemain (s : State) : Nat :=
  if s.lockedNow ∧ s.time < s.sec.lockEnd then ((s.sec.lockEnd - s.time).toNat + 999999999) / 1000000000 else 0

/-- A password failure is counted; the eighth and every later one start a lockout. -/
def State.passwordFails (s : State) : State :=
  let s := s.count SEC_AUTHFAILS SEC_SAT_AUTHFAILS 1
  let n := s.get SEC_LOCK_FAILS + 1
  let s := s.set SEC_LOCK_FAILS (min 8 n)
  if n < 8 then s
  else
    let level := s.get SEC_LOCK_LEVEL
    let secs := min 3600 (60 * 2 ^ level)
    let s := (s.set SEC_LOCK_LEVEL (min 6 (level + 1))).setFlag SEC_LOCK_LOCKED true
    let s := s.setSec { s.sec with lockEnd := s.time + BitVec.ofNat 64 (secs * 1000000000) }
    s.raise 0x4D03 srcSessions [(18, 2, secs), (20, 1, min 6 (level + 1))]

/-- A successful password opening clears FAILS and LEVEL. -/
def State.passwordPasses (s : State) : State := (s.set SEC_LOCK_FAILS 0).set SEC_LOCK_LEVEL 0

/-- A password against a record (R384, R390). -/
def passwordOk (r : PwdRec) (password : List Byte) : Bool :=
  decide (Config.sha512 (leBytes 32 r.salt.toNat ++ password) = r.hash)

/-- Outcome of a password check for a class: OK, REFUSED or AUTH, with its counting (R390, R391). -/
def State.tryPassword (s : State) (cls : Nat) (password : List Byte) : State × Nat :=
  match Tab.get none0 s.sec.pwds cls with
  | none => (s, stREFUSED)
  | some r => if passwordOk r password then (s.passwordPasses, stOK) else (s.passwordFails, stAUTH)

/-! ### Key responses (R392) -/

/-- A key response opens a class: the holder chains to the customer root, the proof holds, the class is allowed. -/
def State.keyOk (s : State) (r : KeyResp) (cls : Nat) : Bool :=
  let root := r.flags.getLsbD 0
  r.reservedZero && r.proofOk && decide (cls ≤ r.maxClass.toNat) && decide (r.flags.toNat < 2) &&
    (if root then decide (s.sec.root = some r.holder) else r.certOk)

/-! ### Sessions (R388, R389) -/

/-- A tag drawn at random (log 6), never 0 and never that of an open session. -/
def State.drawTag (s : State) : State × BitVec 16 :=
  match s.fresh with
  | (v, s) =>
    let start := (v.toNat % 65535)
    let used (t : Nat) : Bool := s.sec.sessions.any (fun x => decide (x.tag.toNat = t))
    let t := ((upto 17).map (fun i => (start + i) % 65535 + 1)).find? (fun t => !used t)
    (s, BitVec.ofNat 16 (t.getD 1))

/-- A session opens at a class. -/
def State.openSession (s : State) (cls method : Nat) : CmdRes :=
  match s.drawTag with
  | (s, tag) =>
    let s := s.setSec { s.sec with sessions := s.sec.sessions ++ [{ tag := tag, cls := cls, used := s.time }] }
    let s := s.raise 0x0D01 srcSessions [(18, 2, tag.toNat), (20, 1, cls), (21, 1, method)]
    s.endsWith stOK (tag.toNat + 65536 * cls)

/-- Close one session. -/
def State.closeSession (s : State) (tag : BitVec 16) (cause : Nat) : State :=
  let s := s.setSec { s.sec with sessions := s.sec.sessions.filter (fun x => decide (x.tag ≠ tag)) }
  s.raise 0x0D04 srcSessions [(18, 2, tag.toNat), (20, 1, cause)]

end Sys2Proof.Machine
end

