-- ==== Sys2Proof/Machine/BootOps.lean ====
section
/-! DEFINITION.  Start-up: the supply sequence, the choice of a boot image, the device warm reset and the cores' resets
(R371, R374, R404, R426, R441, R443). -/

namespace Sys2Proof.Machine

open Sys2Proof

/-! ### Choice of a boot image (R371, R374) -/

/-- A slot whose header is absent fails with TRUNCATED (R371). -/
def State.verifySlot (s : State) (k : Nat) : Verdict :=
  match Tab.get none0 s.img.slots k with
  | none => verdict stTRUNCATED
  | some i => s.verify false i

def State.setBoot (s : State) (b : Option Boot) : State := { s with img := { s.img with boot := b } }

/-- The lead streams the image that it boots (R374). -/
def State.streamAll (s : State) : State := (upto 8).foldl State.sendStream s

/-- The candidate failed: the datum image, or no image (R371 steps 3′ to 5′). -/
def State.bootDatum (s : State) (first status : Nat) : State :=
  let v := s.verifySlot 2
  if v.status = stOK then
    let s := (s.setFlag CFG_BOOT_FALLBACK true).count CFG_FALLBACKS CFG_SAT_FALLBACKS 1
    let s := s.raiseSt 0x8C02 srcConfig status [(18, 1, first)]
    (s.setBoot (some { source := 2, trial := false, failed := some first, passed := true })).streamAll
  else
    let s := (s.reject v 2 2).setFlag CFG_BOOT_NO_IMAGE true
    let s := s.raiseSt 0xCC03 srcConfig v.status [(18, 1, first)]
    (s.setBoot none).setFault 1

/-- Boot from the device's own NV (R371 from step 2). -/
def State.bootChoice (s : State) : State :=
  let trial := s.flag CFG_BOOT_TRIAL_PENDING
  let k := if trial then s.get CFG_BOOT_TRIAL_SLOT else s.get CFG_BOOT_SEL
  let s := s.setFlag CFG_BOOT_TRIAL_PENDING false
  let v := s.verifySlot k
  if v.status = stOK then
    (s.setBoot (some { source := k, trial := trial, failed := none, passed := true })).streamAll
  else (s.reject v 2 k).bootDatum k v.status

/-- The tether record makes the device a follower (R346, R374). -/
def followerRecord (l : List (BitVec 6)) : Bool :=
  l.any (fun c => c.getLsbD 0 && decide ((c.extractLsb' 1 2).toNat = 2))

/-- A follower waits for the configuration stream (R374). -/
def streamWait : Boot := { source := 3, trial := false, failed := none, passed := false }

/-- The device waits for a stream or is receiving it. -/
def State.awaitsStream (s : State) : Bool :=
  decide (s.get DEV_STATUS_PHASE = 3) && decide (s.img.boot = some streamWait)

/-- P3: an erasure that power loss cut off ends first; at power-on the tethers of the record come on (R346, R426
step 4, R510, R517). -/
def State.enterP3 (s : State) : State :=
  let s := (s.set DEV_STATUS_PHASE 3).set CFG_ID_DEVNUM (recordDevnum s.img.tetherRecord)
  let s := s.resumeErase.autoLoads
  if s.dev.warm.isSome then s.bootChoice
  else
    let s := ((upto 8).zip s.img.tetherRecord).foldl (fun s e => s.writeTether e.1 (e.2.setWidth 32)) s
    if followerRecord s.img.tetherRecord then s.setBoot (some streamWait) else s.bootChoice

/-- The stream fails or is lost: IMAGE_REJECTED with source 3, and the own NV boots (R374). -/
def State.streamFails (s : State) (v : Verdict) : State :=
  let s := ((s.reject v 3 3).unstage)
  ({ s with img := { s.img with streamed := 0 } } : State).bootChoice

/-- A tether went down while the stream came in (R374). -/
def State.streamLost (s : State) : State :=
  if s.awaitsStream && decide (0 < s.img.streamed) && !s.followsTether then s.streamFails (verdict stTRUNCATED)
  else s

/-! ### Supply sequence (R404) -/

/-- Rails that a step waits for. -/
def stepRails (step : Nat) : List Nat :=
  match step with
  | 2 => [3, 4]
  | 3 => [2]
  | 4 => [1]
  | 5 => [0]
  | 6 => [5, 6]
  | _ => []

def State.railIsGood (s : State) (r : Nat) : Bool := s.pow.good.getLsbD r

def State.setGood (s : State) (r : Nat) (b : Bool) : State :=
  let m : Byte := 1#8 <<< r
  { s with pow := { s.pow with good := if b then s.pow.good ||| m else s.pow.good &&& ~~~m } }

/-- The sequencer moves on while the rails of the next step are good; each step up to 5 releases its enable. -/
def State.seqSteps : Nat → State → State
  | 0, s => s
  | n + 1, s =>
    let k := s.get PMU_SEQ_STEP + 1
    if s.flag PMU_SEQ_FAIL ∨ 6 < k ∨ (stepRails k).any (fun r => !s.railIsGood r) then s
    else
      let s := s.set PMU_SEQ_STEP k
      let s := if k < 6 then
        { s with pow := { s.pow with enables := s.pow.enables ||| (1#5 <<< (k - 1)) } } else s
      s.seqSteps n

/-- After a rail is good: the sequence moves on; P2 begins with the first step that rails reach, P3 with step 6
(R426). -/
def State.seqAdvance (s : State) : State :=
  let s := s.seqSteps 6
  let k := s.get PMU_SEQ_STEP
  let s := if 2 ≤ k ∧ s.get DEV_STATUS_PHASE = 1 then s.set DEV_STATUS_PHASE 2 else s
  if k = 6 ∧ s.get DEV_STATUS_PHASE < 3 then s.enterP3 else s

/-- Start-up from P2 with VAUX kept, caused by a rail (R412). -/
def State.restartP2 (s : State) (rail : Nat) : State :=
  let faults := s.rd DEV_FAULT
  let s := s.powerOnClear true
  let s := (s.set DEV_STATUS_PHASE 2).set DEV_RESET_CAUSE_CAUSE 5
  let s := (s.set DEV_RESET_CAUSE_RAIL rail).set PMU_SEQ_STEP 1
  let s := { s with pow := { s.pow with enables := 1 } }
  ((s.wr DEV_FAULT (faults &&& 0x06#32)).showFault).seqAdvance

/-! ### Device warm reset (R441) -/

/-- A write of an NV slot that is cut off leaves the slot without a valid header (R369). -/
def State.cutNvWrites (s : State) : State :=
  s.mnt.acts.foldl (fun s a => match a.task with
    | .nvImage k => if a.st = .waiting then s else s.blankSlot k.val
    | _ => s) s

/-- CRITICAL_CLEARED at the instant the reset that leaves critical is started (R421); the PMU turns VDD_F on
again. -/
def State.leaveCritical (s : State) : State :=
  if s.flag THM_STATUS_CRITICAL = false then s
  else
    let s := s.raise 0x0E0C (srcSuper 0) [(18, 4, msBetween s.thm.criticalAt s.time)]
    let s := s.setFlag THM_STATUS_CRITICAL false
    { s with dev := { s.dev with fRestart := 2, fAt := s.time } }

/-- Step 1: the reset is accepted (R441). `who` is the requester of WARM_RESET. -/
def State.beginWarm (s : State) (who rail : Nat) : State :=
  let s := s.leaveCritical
  let cause := match who with
    | 0 => 1
    | 1 => 2
    | 2 => 6
    | 3 => 3
    | _ => 4
  let s := (s.setFlag DEV_STATUS_RDY false).setFlag DEV_STATUS_WARM_BUSY true
  let s := (s.set DEV_RESET_CAUSE_CAUSE cause).set DEV_RESET_CAUSE_RAIL rail
  let s := (s.count DEV_WARMS DEV_SAT_WARMS 1).raise 0x4F02 srcDev [(18, 1, who)]
  let s := ((s.stopPacers).nullAll).charterAll 5
  let s := s.flushWindows.flushCoreWaits
  let s := [4, 5, 6, 7].foldl (fun s n => s.holdCore n none) s
  { s with dev := { s.dev with warm := some (who, false) } }

/-- Steps 2 and 3, once no field-book commit runs: sessions close, HIF registers are cleared, P3 is entered
(R441). -/
def State.continueWarm (s : State) : State :=
  match s.dev.warm with
  | some (who, false) =>
    let s := s.cutNvWrites.warmClear
    let s := { s with dev := { s.dev with warm := some (who, true) } }
    s.enterP3
  | _ => s

/-! ### Who may request a reset (R439, R440) -/

/-- Class of session that a host's request needs. -/
def resetClass (kind : Nat) : Nat := if kind = 1 then 3 else if kind = 2 then 1 else 2

/-- WARM_RESET's requester code. -/
def resetWho : Requester → Nat
  | .host => 0
  | .debug => 2
  | _ => 1

/-- A core reset of a core is in progress (R440). -/
def State.coreBusy (s : State) (n : Nat) : Bool := (s.coreAt n).resetBy.isSome

/-- Members of a group stand in crosier state, wait for it or are being relocated (R440). -/
def State.groupEngaged (s : State) (g : Nat) : Bool :=
  (s.group g).mats.any (fun m => s.flag (gCROSIER (s.physMat m)) || s.relocLocked (s.physMat m) ||
    s.ctx.crosiers.any (fun c => decide (m ∈ c.mats)))

/-- Status of a request by the rules of R439, R440 and R548. -/
def State.resetStatus (s : State) (req : Requester) (v : Reg) : Nat :=
  let kind := fldGet v 0 2
  let target := fldGet v 2 6
  let may := match req with
    | .host => (match s.sessionClass (v.extractLsb' 16 16) with
      | some c => decide (resetClass kind ≤ c)
      | none => false)
    | .service _ => false
    | _ => true
  let early := s.get DEV_STATUS_PHASE < 6
  if fldGet v 8 8 ≠ 0xA5 ∨ (kind = 1 ∧ target ≠ 0) ∨ (kind = 3 ∧ ¬ (4 ≤ target ∧ target < 8)) ∨
      (kind = 2 ∧ (s.group target).mats = []) then stBAD_ARG
  else if may = false then stAUTH
  else if s.dev.warm.isSome ∨ (early ∧ ¬ (kind = 1 ∧ s.get DEV_STATUS_PHASE = 3 ∧ s.flag CFG_BOOT_NO_IMAGE)) then
    stBUSY
  else if kind = 1 ∧ 0 < s.bist.down ∧ s.bist.down < 4 then stBUSY
  else if kind = 2 ∧ s.groupEngaged target then stBUSY
  else if kind = 3 ∧ s.coreBusy target then stBUSY
  else stOK

/-- The request's outcome in DEV_RESET_STATUS, and its effect when accepted. -/
def State.resetRequest (s : State) (req : Requester) (kind : Nat) (v : Reg) (act : State → Nat → State) : State :=
  if fldGet v 0 2 ≠ kind then s
  else s.regWrite req DEV_RESET_REQ (fun s =>
    let st := s.resetStatus req v
    let s := s.set DEV_RESET_STATUS_LAST_STATUS st
    if st = stOK then act s (fldGet v 2 6) else s.setFlag DEV_RESET_STATUS_REFUSED true)

end Sys2Proof.Machine
end

