-- ==== Sys2Proof/Machine/Windows.lean ====
section
/-! DEFINITION.  Meanings of the rows on the PF1 BAR2 window and its register channel (R78, R79, R285, R286) and of
bad host accesses to the other BARs (R284). -/

namespace Sys2Proof.Machine

open Sys2Proof

/-- A bad access to PF0 BAR2 (0), PF1 BAR0 (1) or PF1 BAR2 (2) (R284, R285, R303). -/
def State.hostBad (s : State) (bar offset size : Nat) (write : Bool) : State :=
  let s := s.count HIF_WINBAD HIF_SAT_WINBAD 1
  let s := s.raiseLim 0x4904 (srcHif (if bar = 0 then 0 else 1))
    [(18, 1, bar), (19, 4, offset), (23, 1, size), (24, 1, b2n write)]
  if write then s else s.emit (.answer .host 0)

/-- WINDOW_ACCESS (R285, R286): one access to the window; 16 are buffered for a mat, and a further one is not taken: it
waits under flow control and comes again. -/
def execWindowAccess (offset : BitVec 24) (size : Byte) (write : Bool) (data : Word) (s : State) :
    Host.Outcome State Fault Refusal :=
  let o := offset.toNat
  let p := s.physMat (o / 0x8000)
  let a (half : Option Bool) : WinAcc :=
    { write := write, word := o % 0x8000 / 8, data := data, half := half, since := s.time }
  let take (a : WinAcc) : State :=
    match s.window p with
    | [] => s.serveWindow p [a]
    | l => if l.length < 16 then s.setWindow p (l ++ [a]) else s
  .next (
    if size = 8 ∧ o % 8 = 0 then take (a none)
    else if size = 4 ∧ o % 4 = 0 then
      if write then s else take (a (some (decide (o % 8 = 4))))
    else s.hostBad 2 o size.toNat write)

/-- REGCH_RESPONSE (R78, R79): the design acknowledges the access in progress and answers a read.  `late`: the
answer belongs to an access that has timed out, and is discarded. -/
def execRegchResponse (mat : MatId) (value : Word) (late : Bool) (s : State) : Host.Outcome State Fault Refusal :=
  .next (if s.flag (gREGCH_BUSY mat.val) ∧ late = false then s.endWindow mat.val value else s)

/-- COL_GATE_REGCH.TIMEOUT_US in ns; 0 acts as 1 (R79, R93). -/
def State.regchLimit (s : State) (p : Nat) : Nat :=
  1000 * max 1 (s.get (COL_GATE_REGCH_TIMEOUT_US (matCol p) (matG p)))

/-- REGCH_TIMEOUT (R79): the access at the front, presented or held by a border policy, has waited TIMEOUT_US.
The gate reports the byte offset of the 64-bit word that its token names, also for a 4-byte read of the word's upper
half (R92 does not say; DESIGN CHOICE, log entry 67). -/
def execRegchTimeout (mat : MatId) (s : State) : Host.Outcome State Fault Refusal :=
  let p := mat.val
  match s.window p with
  | a :: _ =>
    if s.elapsed a.since (s.regchLimit p) then
      let s := s.count (COL_GATE_REGTOS (matCol p) (matG p)) (COL_GATE_SAT_REGTOS (matCol p) (matG p)) 1
      let s := s.raise 0x4205 (srcMat p 0) [(18, 4, 8 * a.word), (22, 1, b2n a.write)]
      .next (s.endWindow p allOnes)
    else .next s
  | [] => .next s

/-- An access to the doorbells of PF0 BAR2 or to PF1 BAR0 that breaks the rules of R42: another size or alignment,
or a reserved offset. -/
def doorbellBad (bar : Nat) (offset size : Nat) : Bool :=
  !((decide (size = 4) && decide (offset % 4 = 0)) || (decide (size = 8) && decide (offset % 8 = 0))) ||
    (if bar = 0 then decide (0x200 ≤ offset)
     else !(decide (0x200 ≤ offset ∧ offset < 0x2000) || (regClass (0x1000000 + offset)).isSome))

/-- HOST_BAD_ACCESS (R284). -/
def execHostBadAccess (bar : Fin 3) (offset : BitVec 32) (size : Byte) (write : Bool) (s : State) :
    Host.Outcome State Fault Refusal :=
  .next (if bar.val < 2 ∧ doorbellBad bar.val offset.toNat size.toNat = false then s
    else if bar.val = 2 ∧ (size = 8 ∧ offset.toNat % 8 = 0 ∨ size = 4 ∧ offset.toNat % 4 = 0) then s
    else s.hostBad bar.val offset.toNat size.toNat write)

end Sys2Proof.Machine
end

