-- ==== Sys2Proof/Machine/Boot.lean ====
section
/-! DEFINITION.  Meanings of the rows on start-up and resets (R371, R372, R374, R404, R426 to R447) and on tethers that
carry a configuration stream. -/

namespace Sys2Proof.Machine

open Sys2Proof

/-! ### Supplies at start-up -/

/-- POWER_ON (R426, R438): VAUX has risen through its reset level. -/
def execPowerOn (s : State) : Host.Outcome State Fault Refusal :=
  .next (s.powerOnClear false).seqAdvance

/-- VAUX_LOST (R412, R426 P0): the device stops; RDY and FAULT_N are not driven. -/
def execVauxLost (s : State) : Host.Outcome State Fault Refusal :=
  let s := s.powerOnClear false
  .next { s with dev := { s.dev with off := true } }

/-- VDD_F has come back after its reset level or after critical (R412, R421). -/
def State.fabricGood (s : State) : State :=
  let s := { s with pow := { s.pow with fOff := false } }
  if s.dev.warm.isSome then { s with dev := { s.dev with fRestart := 0 } }
  else { s with dev := { s.dev with fRestart := 3 } }

/-- RAIL_GOOD (R404, R412, R426): a rail has been good for 50 µs. -/
def execRailGood (rail : Fin 8) (s : State) : Host.Outcome State Fault Refusal :=
  if s.dev.off ∨ rail.val = 7 then .next s
  else
    let s := s.setGood rail.val true
    let s := if rail.val = 0 ∧ s.dev.fRestart = 2 then s.fabricGood else s
    if s.get DEV_STATUS_PHASE < 3 then .next s.seqAdvance else .next s

/-- SEQUENCER_FAIL (R404, R412): a rail is not good within 20 ms. -/
def execSequencerFail (s : State) : Host.Outcome State Fault Refusal :=
  if s.dev.off ∨ s.flag PMU_SEQ_FAIL then .next s
  else if s.dev.fRestart = 2 ∧ s.elapsed s.dev.fAt 20000000 then
    .next (((s.setFlag PMU_SEQ_FAIL true).set PMU_SEQ_FAIL_STEP 5).setFault 0)
  else if s.get DEV_STATUS_PHASE < 3 then
    .next (((s.setFlag PMU_SEQ_FAIL true).set PMU_SEQ_FAIL_STEP (s.get PMU_SEQ_STEP + 1)).setFault 0)
  else .next s

/-! ### Configuration stream (R374) and tethers that fail (R347) -/

/-- TETHER_DOWN (R347, R348, R374): a tether has lost all lanes. -/
def execTetherDown (tether : TetherId) (s : State) : Host.Outcome State Fault Refusal :=
  if s.tetherUp tether.val then .next (s.downTether tether.val).streamLost else .next s

/-- TETHER_DEGRADED (R347): one lane of a tether loses block lock and others carry on. -/
def execTetherDegraded (tether : TetherId) (lane : Fin 4) (s : State) : Host.Outcome State Fault Refusal :=
  let k := tether.val
  let up := s.get (TH_STATUS_LANES_UP k)
  let left := if bitAt up lane.val then up - 2 ^ lane.val else up
  if s.tetherUp k = false ∨ bitAt up lane.val = false ∨ left = 0 then .next s
  else
    let s := (s.downLane (4 * k + lane.val) 0).set (TH_STATUS_LANES_UP k) left
    .next (s.raise 0x4B05 (srcTether k) [(18, 1, left)])

/-- Blocks of the stream have been staged; the follower returns credits, whose number of blocks the spec leaves
open (R347, log 6). -/
def State.takeStream (s : State) (k bytes : Nat) (i : Image) : State :=
  let n := satBits 28 (s.img.streamed + bytes)
  let s := { s with img := { s.img with streamed := n, staged := some i } }
  let s := (s.set CFG_STAGE_STATE 1).set CFG_STAGE_BYTES_BYTES n
  match s.fresh with
  | (v, s) => s.sendTether k 8 (v.toNat % 65536)

/-- TETHER_CONFIG (R374): blocks of the configuration stream arrive at a follower that waits for it. -/
def execTetherConfig (tether : TetherId) (bytes : BitVec 32) (image : Image) (s : State) :
    Host.Outcome State Fault Refusal :=
  let k := tether.val
  if s.tetherUp k = false ∨ s.get (TH_CTL_ROLE k) ≠ 2 ∨ s.awaitsStream = false ∨ bytes = 0 then .next s
  else
    let s := s.takeStream k bytes.toNat image
    let n := s.img.streamed
    let h := s.headerStatus false image
    if 256 ≤ n ∧ h ≠ stOK then .next (s.streamFails (verdict h))
    else if n < image.total.toNat then .next s
    else if image.total.toNat < n then .next (s.streamFails (verdict stFORMAT))
    else
      let v := s.verify false image
      if v.status ≠ stOK then .next (s.streamFails v)
      else
        let s := s.set CFG_STAGE_STATE 3
        .next (s.setBoot (some { source := 3, trial := false, failed := none, passed := true }))

/-- TETHER_STREAM_TIMEOUT (R374): no stream has begun 100 ms after PLL_S lock. -/
def execTetherStreamTimeout (s : State) : Host.Outcome State Fault Refusal :=
  if s.awaitsStream ∧ s.img.streamed = 0 ∧ s.elapsed s.dev.lockAt 100000000 then .next s.bootChoice else .next s

/-! ### Apply and wake -/

/-- IMAGE_APPLY (R365, R371, R372, R433): the image that has passed verification is written. -/
def execImageApply (failed : List MatId) (chains : List Chain) (s : State) : Host.Outcome State Fault Refusal :=
  match s.img.boot with
  | none => .next s
  | some b =>
    match s.bootImage b with
    | none => .next s
    | some i =>
      if b.passed = false ∨ s.get DEV_STATUS_PHASE ≠ 3 ∨ s.pow.fOff then .next s
      else
        let s := s.applyImage i (failed.map Fin.val) chains
        let s := ((s.noteApplied i b).clearFaults [1]).setBoot none
        let s := if b.source = 3 then s.unstage else s
        .next s.showBound.phaseFive.showWait

/-- STACK_MANAGER_READY (R278, R426 P5, R463): a steward pair runs Jenulo; the other one starts as standby. -/
def execStackManagerReady (pair : Fin 2) (s : State) : Host.Outcome State Fault Refusal :=
  let p := pair.val
  if s.dev.off ∨ s.get DEV_STATUS_PHASE < 3 ∨ s.rootLocked = false ∨ s.flag HIF_STATUS_CMD_READY ∨
      s.unitSuspect 7 p then .next s
  else
    let up (c : Core) : Core := { c with inReset := false, program := true, wdRun := true }
    let s := [0, 1, 2, 3].foldl (fun s n =>
      if n / 2 ≠ p ∧ s.unitSuspect 7 (1 - p) then s else s.setCore n (up (s.coreAt n))) s
    let s := (s.set MNT_STEWARD_ACTIVE p).set MNT_STEWARD_STANDBY (if s.unitSuspect 7 (1 - p) then 3 else 1)
    .next (s.setFlag HIF_STATUS_CMD_READY true)

/-- A mat gate releases its holds at their first-activation codes and enables its inputs (R58, R427 step 2). -/
def State.wakeMat (s : State) (p : Nat) : State :=
  let k := s.activeSlot p
  if s.slotState p k ≠ slACTIVE ∨ Tab.get bool0 s.mnt.stopped p then s
  else
    let s := s.setSlot p k { s.slot p k with activated := true }
    ((s.setHeld p false).setRunning p).clocksAfterFlip p

/-- The clean record is read and cleared; after a power-on without one TRAVERSE_MISSING is raised and every unit
starts from its factory values (R481, R487). -/
def State.readClean (s : State) : State :=
  let clean := s.bist.clean
  let s := { s with bist := { s.bist with clean := false } }
  if s.get DEV_RESET_CAUSE_CAUSE ≠ 0 ∨ clean then s
  else
    let units := Tab.mapAll unit0 (fun _ u => { u with calKept := false }) s.bist.units
    let top := s.fb.pages.foldl (fun a e => match e.2 with
      | some p => max a p.commit.toNat
      | none => a) 0
    let s := { s with bist := { s.bist with units := units } }
    (s.setFlag BIST_STATUS_MISSING true).raise 0x5103 srcBist [(18, 4, top)]

/-- Steps 1 to 4 of the wake. -/
def State.wakeUp (s : State) : State :=
  let s := (upto 32).foldl (fun s n => (s.setFlag (CLK_TREE_CTL_RUN n) true).showTree n) s
  let s := (upto 512).foldl State.wakeMat s
  let s := allPins.foldl (fun s v => if s.pinPaced v then s else s.unbarPin (causeBit 0) v) s
  s.img.starts.foldl (fun s p => s.armPacer p []) s

/-- WAKE (R427, R434, R487): P6. -/
def execWake (bootUs : BitVec 32) (s : State) : Host.Outcome State Fault Refusal :=
  if s.get DEV_STATUS_PHASE ≠ 5 ∨ s.rootLocked = false ∨ s.pow.fOff then .next s
  else
    let s := s.wakeUp
    let s := (s.set DEV_STATUS_PHASE 6).setFlag DEV_STATUS_RDY true
    let s := ((s.setFlag DEV_STATUS_WARM_BUSY false).clearFaults [2, 3, 4]).set DEV_BOOT_US_TIME bootUs.toNat
    let s := { s with dev := { s.dev with warm := none }, img := { s.img with starts := [] } }
    let s := s.readClean.showWait
    .next (s.raise 0x0F01 srcDev [(18, 1, s.get DEV_RESET_CAUSE_CAUSE), (19, 4, bootUs.toNat)])

/-! ### Requested resets (R439 to R443) -/

/-- DEVICE_WARM_RESET (R441): a write of DEV_RESET_REQ with KIND 1. -/
def execDeviceWarmReset (req : Requester) (value : Reg) (s : State) : Host.Outcome State Fault Refusal :=
  .next (s.resetRequest req 1 value (fun s _ => s.beginWarm (resetWho req) 0))

/-- WARM_RESET_CONTINUE (R441 steps 2 and 3, R444): a field-book commit always ends first. -/
def execWarmResetContinue (s : State) : Host.Outcome State Fault Refusal :=
  .next (if s.fb.run.isSome then s else s.continueWarm)

/-- The buffers at a mat's ends of its column's lanes after a fabric reset: NULL when the column's other mat is a
member too (R442 step 2). -/
def State.lanesAfterReset (s : State) (mats : List Nat) (p : Nat) : Tab (BitVec 2) :=
  if s.logMat (matOf (matCol p) (1 - matG p)) ∈ mats then [] else (s.holds p).lanes

/-- Reset one member of a group (R164, R442 steps 1 to 4). -/
def State.resetMember (s : State) (mats : List Nat) (m : Nat) : State :=
  let p := s.physMat m
  let lanes := s.lanesAfterReset mats p
  let s := (s.dropResponses p).dropWindow p
  let s := (upto 4).foldl (fun s k => s.reinitSlot p k) s
  let k := s.activeSlot p
  let s := s.setSlot p k { s.slot p k with holds := { s.holds p with lanes := lanes } }
  let s := s.setFab p (fabOf (s.holds p) (s.fab p).bad)
  if s.heldNull p then s else s.setRunning p

/-- SWAP_GROUP_FABRIC_RESET (R442): a write of DEV_RESET_REQ with KIND 2. -/
def execSwapGroupFabricReset (req : Requester) (value : Reg) (s : State) : Host.Outcome State Fault Refusal :=
  .next (s.resetRequest req 2 value (fun s g =>
    let b := s.runBoundary g
    let s := (s.abandonSwap g stREFUSED none none).afterSwap b
    let mats := (s.group g).mats
    let s := mats.foldl (State.resetMember · mats ·) s
    (s.count DEV_GRPRESETS DEV_SAT_GRPRESETS 1).raise 0x4F03 srcDev [(18, 1, g), (19, 1, resetWho req)]))

/-- CORE_RESET (R443): a write of DEV_RESET_REQ with KIND 3. -/
def execCoreReset (req : Requester) (value : Reg) (s : State) : Host.Outcome State Fault Refusal :=
  .next (s.resetRequest req 3 value (fun s n => s.holdCore n (some 0)))

/-- CORE_RESET_RELEASE (R443, R510, R511): after at least 1 µs the core restarts at its entry point with a fresh watchdog, or, where
it has no program, its load is due. A halt request held for it takes effect before its first instruction. -/
def execCoreResetRelease (core : Fin 4) (s : State) : Host.Outcome State Fault Refusal :=
  let n := core.val + 4
  let c := s.coreAt n
  match c.resetBy with
  | none => .next s
  | some by_ =>
    if s.coreClocked n = false ∨ s.elapsed c.resetAt 1000 = false then .next s else
    let s := s.raise 0x4F04 srcDev [(18, 1, n), (19, 1, by_)]
    match s.progOf n with
    | some p =>
      if c.program then .next (s.startCore n p.entry)
      else .next (s.setCore n { c with resetBy := none, loadDue := true })
    | none => .next (s.setCore n { c with resetBy := none })

end Sys2Proof.Machine
end

