-- ==== Sys2Proof/Machine/Clocks.lean ====
section
/-! DEFINITION.  Clock commands: HREF, PLLs, dividers, operating points, regional trees, block gating (chapter 08). -/

namespace Sys2Proof.Machine

open Sys2Proof

/-- Status of the clocks as HREF is lost, and device time stops (R247). -/
def State.hrefGone (s : State) : State :=
  let s := s.raise 0xC801 (srcPll 0) [(18, 1, s.get CLK_STATUS_PLL_LOCK)]
  let s := ((s.setFlag CLK_STATUS_HREF_PRESENT false).setFlag CLK_STATUS_HOLDOVER true).set CLK_STATUS_PLL_LOCK 0
  let s := s.setFlag CLK_TIME_STATUS_GAP true
  { s with pace := { s.pace with timeOn := false } }

/-- HREF_LOST (R247, R436): the fatal event first, then what the loss does. -/
def execHrefLost (s : State) : Host.Outcome State Fault Refusal :=
  if s.flag CLK_STATUS_HREF_PRESENT = false then .next s
  else
    let s := s.hrefGone.freezePacers.linkDown
    let s := if 4 ≤ s.get DEV_STATUS_PHASE then s.hrefPins.foldl (fun s v => s.barPin 1 v) s else s
    let s := (s.dropLanes (fun _ => true)).dropTethers (fun _ => true)
    .next ((s.protect scopeHref).showWait.streamLost)

/-- Status of the clocks as HREF has returned, and device time runs on (R247). -/
def State.hrefBack (s : State) (absentUs : Nat) : State :=
  let s := (s.set CLK_STATUS_PLL_LOCK 0x7F).setFlag CLK_STATUS_HOLDOVER false
  let s := s.raise 0x0802 (srcPll 0) [(18, 4, absentUs)]
  { s with pace := { s.pace with timeOn := true } }

/-- Positions that missed motion are marked (R225). -/
def State.markGaps (s : State) (absentUs : Nat) : State :=
  s.gapTracks.foldl (fun s t =>
    (s.setFlag (TAL_TRK_STATUS_POS_GAP t) true).raise 0x4708 (srcTrack t) [(18, 4, absentUs / 1000)]) s

/-- HREF_RESTORED (R169, R225, R247, R437). -/
def execHrefRestored (absentUs : BitVec 32) (s : State) : Host.Outcome State Fault Refusal :=
  if s.flag CLK_STATUS_HREF_PRESENT then .next s
  else
    let s := s.setFlag CLK_STATUS_HREF_PRESENT true
    if s.flag CLK_STATUS_HOLDOVER = false then .next s.showWait
    else
      let s := ((s.hrefBack absentUs.toNat).thawPacers).markGaps absentUs.toNat
      let paced := s.hrefPins.filter (fun v => !s.gatePin v)
      let s := allPins.foldl (fun s v => if v ∈ paced then s else s.unbarPin (causeBit 1) v) s
      .next s.showWait.phaseFive

/-- PLL_UNLOCK (R247, R273): PLL_S and PLL_F enter holdover, the others take their lanes down. -/
def execPllUnlock (pll : Fin 7) (s : State) : Host.Outcome State Fault Refusal :=
  let n := pll.val
  if s.flag CLK_STATUS_HREF_PRESENT = false ∨ s.pllLocked n = false then .next s
  else
    let s := (s.setBit CLK_STATUS (8 + n) false).raise 0x8803 (srcPll n) [(18, 1, n)]
    if n < 2 then .next (s.setFlag CLK_STATUS_HOLDOVER true)
    else if n = 2 then .next s.linkDown
    else .next ((s.dropLanes (fun p => decide (p = n))).dropTethers (fun p => decide (p = n))).streamLost

/-- PLL_LOCK (R165, R251, R252, R426): a PLL locks with HREF present; device time starts as PLL_S first does. -/
def execPllLock (pll : Fin 7) (s : State) : Host.Outcome State Fault Refusal :=
  let n := pll.val
  let lost := s.flag CLK_STATUS_HOLDOVER && !s.flag CLK_STATUS_HREF_PRESENT
  if s.get DEV_STATUS_PHASE < 3 ∨ s.pllLocked n ∨ lost then .next s
  else
    let s := (s.setFlag CLK_STATUS_HREF_PRESENT true).setBit CLK_STATUS (8 + n) true
    let s := if n = 0 then
        { s with pace := { s.pace with timeOn := true }, dev := { s.dev with lockAt := s.time } }
      else s
    let s := if s.rootLocked then s.setFlag CLK_STATUS_HOLDOVER false else s
    .next s.showWait.phaseFive

/-- SSC_DETECTED (R250): Ethernet lanes and tethers that run are stopped. -/
def execSscDetected (s : State) : Host.Outcome State Fault Refusal :=
  if s.flag CLK_STATUS_SSC_SEEN then .next s
  else
    let s := s.setFlag CLK_STATUS_SSC_SEEN true
    let s := (upto 32).foldl (fun s x =>
      if s.flag (XL_CFG_EN x) ∧ s.get (XL_OWNER_KIND x) ≠ 3 ∧ laneEthernet (s.get (XL_CFG_CODE x)) then
        ((s.setFlag (XL_CFG_EN x) false).freeLane x).sscConflict (srcXl x) 0 x
      else s) s
    .next (((upto 8).foldl (fun s k =>
      if s.flag (TH_CTL_EN k) then (s.offTether k).sscConflict (srcTether k) 1 k else s) s).streamLost)

/-- CLK_DIV_WRITE (R254, R274): CLK_DIV, or CLK_FDIV (`fabric`). -/
def execClkDivWrite (req : Requester) (fabric : Bool) (value : Reg) (s : State) :
    Host.Outcome State Fault Refusal :=
  let k := if fabric then CLK_FDIV else CLK_DIV
  .next (s.regWrite req k (fun s => s.plainWrite k value))

/-- OP_ENTRY_WRITE (R256): an unrated entry is ignored. -/
def execOpEntryWrite (req : Requester) (entry : Fin 4) (value : Reg) (s : State) :
    Host.Outcome State Fault Refusal :=
  .next (s.regWrite req (CLK_OP entry.val) (fun s =>
    if opRated value then s.plainWrite (CLK_OP entry.val) value else s.setFlag CLK_OP_CTL_REFUSED true))

/-- OP_REQUEST (R257): a write of CLK_OP_CTL. -/
def execOpRequest (req : Requester) (value : Reg) (s : State) : Host.Outcome State Fault Refusal :=
  .next (s.regWrite req CLK_OP_CTL (fun s =>
    let s := s.plainWrite CLK_OP_CTL value
    if s.clk.op.isSome ∨ s.flag CLK_STATUS_HALVED then s.setFlag CLK_OP_CTL_PENDING true
    else s.startOp (s.get CLK_OP_CTL_REQ)))

/-- SET_POINT_REACHED (R85, R189, R257, R405): the PMU reports a requested set point of AVSBus rail 0, VDD_F, or
1, VDD_B, reached. -/
def execSetPointReached (rail : Fin 2) (s : State) : Host.Outcome State Fault Refusal :=
  if rail.val = 0 then
    match s.pow.reqF with
    | none => .next s
    | some mv =>
      let s := (({ s with pow := { s.pow with reqF := none } } : State)).countSteps mv
      .next ((((s.set PMU_GOV_STATUS_SETPOINT_MV mv).showBound).floorsReached).avsWorks)
  else
    match s.pow.reqB with
    | none => .next s
    | some mv =>
      let s := { s with pow := { s.pow with reqB := none, setB := mv } }
      .next (s.endOp.avsWorks)

/-- TREE_SOURCE_SWITCH (R261, R262): a write of CLK_TREEn_CTL that changes SRC. -/
def execTreeSourceSwitch (req : Requester) (tree : Fin 32) (value : Reg) (s : State) :
    Host.Outcome State Fault Refusal :=
  .next (s.regWrite req (CLK_TREE_CTL tree.val) (fun s => s.writeTree tree.val value))

/-- TREE_FORCED_SWITCH (R261, R263): a write of CLK_TREEn_CTL with FORCE 1. -/
def execTreeForcedSwitch (req : Requester) (tree : Fin 32) (value : Reg) (s : State) :
    Host.Outcome State Fault Refusal :=
  .next (s.regWrite req (CLK_TREE_CTL tree.val) (fun s => s.writeTree tree.val value))

/-- TREE_DIVIDER_CHANGE (R254, R261, R265): a write of CLK_TREEn_CTL that keeps SRC. -/
def execTreeDividerChange (req : Requester) (tree : Fin 32) (value : Reg) (s : State) :
    Host.Outcome State Fault Refusal :=
  .next (s.regWrite req (CLK_TREE_CTL tree.val) (fun s => s.writeTree tree.val value))

/-- SWITCH_HUNG (R262 step 4′): a switch has been pending for 1 µs. -/
def execSwitchHung (tree : Fin 32) (s : State) : Host.Outcome State Fault Refusal :=
  let n := tree.val
  if s.flag (CLK_TREE_STATUS_SWITCH_PENDING n) = false ∨ s.flag (CLK_TREE_STATUS_HUNG n) ∨
      s.elapsed (Tab.get word0 s.clk.switchAt n) 1000 = false then .next s
  else .next ((s.setFlag (CLK_TREE_STATUS_HUNG n) true).raise 0x4809 (srcTree n) [(18, 1, n),
    (19, 1, s.get (CLK_TREE_STATUS_SRC_CUR n)), (20, 1, s.get (CLK_TREE_CTL_SRC n)),
    (21, 1, s.get (CLK_TREE_STATUS_PRESENT n))])

/-- A source's presence monitor changes (R260). -/
def State.setPresent (s : State) (n src : Nat) (b : Bool) : State :=
  s.setBit (CLK_TREE_STATUS n) (4 + src) b

/-- TREE_SOURCE_LOST (R260, R264): the output stops when the source is in use. -/
def execTreeSourceLost (tree : Fin 32) (source : Fin 4) (s : State) : Host.Outcome State Fault Refusal :=
  let n := tree.val
  if s.srcPresent n source.val = false then .next s
  else
    let s := s.setPresent n source.val false
    if s.get (CLK_TREE_STATUS_SRC_CUR n) = source.val ∧ Tab.get bool0 s.clk.released n = false then
      .next ((s.setFlag (CLK_TREE_STATUS_STOPPED n) true).raise 0x4808 (srcTree n)
        [(18, 1, n), (19, 1, source.val)])
    else .next s

/-- TREE_SOURCE_RESTORED (R260, R262, R264): the output resumes, and a switch that waited goes on. -/
def execTreeSourceRestored (tree : Fin 32) (source : Fin 4) (s : State) : Host.Outcome State Fault Refusal :=
  let n := tree.val
  if s.srcPresent n source.val then .next s
  else
    let s := s.setPresent n source.val true
    if s.flag (CLK_TREE_STATUS_SWITCH_PENDING n) then .next (s.runSwitch n)
    else .next (s.showTree n)

/-- CLK_EN_WRITE (R267, R269): CLK_EN0, or CLK_EN1 (`second`), bit by bit. -/
def execClkEnWrite (req : Requester) (second : Bool) (value : Reg) (s : State) :
    Host.Outcome State Fault Refusal :=
  .next (s.regWrite req (enReg second) (fun s =>
    (upto 20).foldl (fun s i => s.writeEnBit second i (value.getLsbD i)) s))

/-- CLK_GRP_WRITE (R269). -/
def execClkGrpWrite (req : Requester) (value : Reg) (s : State) : Host.Outcome State Fault Refusal :=
  .next (s.regWrite req CLK_GRP (fun s => s.writeGrp value))

end Sys2Proof.Machine
end

