-- ==== Sys2Proof/Machine/HeatOps.lean ====
section
/-! DEFINITION.  Thermal sensors, triangulation and thermal levels (R414 to R421).  Temperatures are in 0.1 °C. -/

namespace Sys2Proof.Machine

open Sys2Proof

/-! ### Sensors (R414) -/

def State.sensor (s : State) (k : Nat) : Sensor := Tab.get sensor0 s.thm.sensors k

/-- The entry of a sensor is replaced; hotAt follows an effective temperature of 100 °C or more (R421). -/
def State.setSensor (s : State) (k : Nat) (x : Sensor) : State :=
  let hot (x : Sensor) : Bool := x.sampled && decide (1000 ≤ x.used.toInt)
  let at_ := if hot (s.sensor k) || hot x then s.time else s.thm.hotAt
  { s with thm := { s.thm with sensors := Tab.put sensor0 s.thm.sensors k x, hotAt := at_ } }

/-- Column of the sensor of an L2 region. -/
def regionCol (r : Nat) : Nat := 32 * (r / 8) + 2 * (r % 8)

/-- Source id of a sensor (R29, R30). -/
def srcSensor (layer i : Nat) : Nat :=
  match layer with
  | 0 => srcThm0 i
  | 2 => srcId 2 (regionCol i) 17
  | 4 => srcId 7 0x24 i
  | y => srcId y i 4

def Sensor.temp (x : Sensor) : Int := x.reading.toInt
def Sensor.value (x : Sensor) : Int := x.used.toInt

/-- Sensors that have been sampled. -/
def State.liveSensors (s : State) : List (Nat × Sensor) := s.thm.sensors.filter (fun e => e.2.sampled)

/-! ### Reference sets (R415) -/

/-- In-layer neighbours of a column in the directions that exist. -/
def colNeighbours (c : Nat) : List Nat :=
  (if c % 16 = 0 then [] else [c - 1]) ++ (if c % 16 = 15 then [] else [c + 1]) ++
    (if c < 16 then [] else [c - 16]) ++ (if 240 ≤ c then [] else [c + 16])

/-- Square of the distance of two sensors on the 4 × 4 grid. -/
def gridDist (a b : Nat) : Nat :=
  let d (x y : Nat) : Nat := if x ≤ y then y - x else x - y
  d (a % 4) (b % 4) ^ 2 + d (a / 4) (b / 4) ^ 2

/-- The four nearest other sensors of an L0 or L4 grid; ties go to the lower index. -/
def gridNearest (i : Nat) : List Nat :=
  let key (j : Nat) : Nat := gridDist i j * 16 + j
  let l := ((upto 16).filter (fun j => decide (j ≠ i))).map key
  let pick (l : List Nat) : Nat := l.foldl min 1000
  let a := pick l
  let l := delNat a l
  let b := pick l
  let l := delNat b l
  let c := pick l
  let d := pick (delNat c l)
  [a % 16, b % 16, c % 16, d % 16]

/-- Keys of a sensor's reference set. -/
def referenceSet (layer i : Nat) : List Nat :=
  match layer with
  | 1 => sensorKey 3 i :: (colNeighbours i).map (sensorKey 1)
  | 3 => sensorKey 1 i :: (colNeighbours i).map (sensorKey 3)
  | 2 => []
  | y => (gridNearest i).map (sensorKey y)

/-- Readings of the sampled sensors of a reference set that are not SUSPECT. -/
def State.references (s : State) (layer i : Nat) : List Int :=
  (((referenceSet layer i).map s.sensor).filter (fun x => x.sampled && !x.suspect)).map Sensor.temp

def sumInt (l : List Int) : Int := l.foldl (fun a x => a + x) 0

/-- Reference mean, rounded down to 0.1 °C (log entry). -/
def State.refMean (s : State) (layer i : Nat) : Option Int :=
  match s.references layer i with
  | [] => none
  | l => some (sumInt l / (l.length : Int))

/-- The three cases of R415 for a reading. -/
def State.implausible (s : State) (layer i : Nat) (reading : Option Int) : Bool :=
  match reading with
  | none => true
  | some t =>
    decide (t < -500 ∨ 1500 < t) ||
      (match s.references layer i with
       | [] => false
       | l =>
         let n : Int := l.length
         decide (150 * n < t * n - sumInt l ∨ 150 * n < sumInt l - t * n))

/-- Greatest value of a list. -/
def greatest : List Int → Option Int
  | [] => none
  | x :: l => some (l.foldl max x)

/-- Readings of sampled sensors of some layers that are not SUSPECT. -/
def State.goodReadings (s : State) (layers : Nat → Bool) : List Int :=
  (s.liveSensors.filter (fun e => layers (e.1 / 256) && !e.2.suspect)).map (fun e => e.2.temp)

/-- Value that replaces a SUSPECT sensor's (R415). -/
def State.replacement (s : State) (layer i : Nat) : Int :=
  match s.refMean layer i with
  | some m => m
  | none => match greatest (s.goodReadings (fun y => decide (y = layer))) with
    | some v => v
    | none => (greatest (s.goodReadings (fun y => decide (y ≠ 2)))).getD (s.sensor (sensorKey layer i)).value

/-! ### Marks -/

/-- LSUP_STATUS.SENSOR_SUSPECT of a layer. -/
def State.showSuspects (s : State) (layer : Nat) : State :=
  s.setFlag (LSUP_STATUS_SENSOR_SUSPECT layer)
    (s.thm.sensors.any (fun e => decide (e.1 / 256 = layer) && e.2.suspect))

/-- A sensor is marked SUSPECT: SENSOR_SUSPECT with its reading and the estimate or reference mean (R23, R415,
R417). -/
def State.markSuspect (s : State) (layer i : Nat) (against : Int) : State :=
  let x := s.sensor (sensorKey layer i)
  if x.suspect then s
  else
    let s := s.setSensor (sensorKey layer i) { x with suspect := true, agree := 0, caseAt := s.time }
    let s := (s.count THM_SUSPECTN THM_SAT_SUSPECTN 1).showSuspects layer
    let s := s.raise 0x4E09 (srcSensor layer i) [(18, 2, x.reading.toNat), (20, 2, toBits 16 against)]
    if 1 ≤ layer ∧ layer ≤ 3 then s.noteFault layer 0x4E09 (srcSensor layer i) else s

/-! ### Levels (R419) -/

/-- Thresholds of warning, throttle and critical. -/
def threshold (level : Nat) : Int := if level = 1 then 1050 else if level = 2 then 1100 else 1200

/-- Hottest effective value with its key (THM_HOT). -/
def State.hottest (s : State) : Option (Nat × Int) :=
  s.liveSensors.foldl (fun b e => match b with
    | none => some (e.1, e.2.value)
    | some x => if x.2 < e.2.value then some (e.1, e.2.value) else some x) none

/-- Status bits that follow from the levels of all sensors; THROTTLE_EXITED when the last layer leaves. -/
def State.showLevels (s : State) : State :=
  let at_ (y l : Nat) : Bool := s.thm.sensors.any (fun e => decide (e.1 / 256 = y) && decide (l ≤ e.2.level))
  let paced := s.thm.sensors.any (fun e => e.2.paced)
  let hot := (upto 5).any (fun y => at_ y 2)
  let was := s.flag THM_STATUS_THROTTLE
  let s := (upto 5).foldl (fun s y => s.setFlag (LSUP_STATUS_THROTTLE y) (at_ y 2)) s
  let s := ((s.setFlag THM_STATUS_WARNING ((upto 5).any (fun y => at_ y 1))).setFlag THM_STATUS_THROTTLE hot).setFlag
    THM_STATUS_PACING paced
  let s := s.setFlag PMU_GOV_STATUS_THROTTLE hot
  let s := (upto 8).foldl (fun s e => s.setFlag (TAL_ENG_STATUS_SLOW e) (at_ 2 2)) s
  if hot ∧ was = false then { s with thm := { s.thm with throttleAt := s.time } }
  else if was ∧ hot = false then s.raise 0x0E07 (srcSuper 0) [(18, 4, usBetween s.thm.throttleAt s.time)]
  else s

/-- Consecutive values below each level's threshold - 3 °C; `exit2` is the value that the throttle level uses. -/
def belowCounts (old : List Nat) (v exit2 : Int) : List Nat :=
  let next (n : Nat) (x th : Int) : Nat := if x < th - 30 then min 10 (n + 1) else 0
  [next (old.getD 0 0) v 1050, next (old.getD 1 0) exit2 1100, next (old.getD 2 0) v 1200]

/-- The level that a sensor holds after a value: entered at once, left after ten values below. -/
def levelAfter (old : Nat) (below : List Nat) (v : Int) : Nat :=
  let held (l : Nat) : Bool := decide (threshold l ≤ v) || (decide (l ≤ old) && decide (below.getD (l - 1) 0 < 10))
  if held 3 then 3 else if held 2 then 2 else if held 1 then 1 else 0

/-- The actions of critical (R421): pins, VDD_F, FAULT_N, THM_STATUS.CRITICAL; TEMP_CRITICAL starts the commit.
`cause` is 2 for the power cap. -/
def State.enterCritical (s : State) (src : Nat) (v : Int) (cause : Nat) : State :=
  let s := s.raise 0xCE08 src [(18, 2, toBits 16 v), (20, 1, cause)]
  if s.flag THM_STATUS_CRITICAL then s
  else
    let s := (s.protect scopeCritical).charterAll 2
    let s := (s.loseFabric.setFlag DEV_STATUS_RDY false).setFault (if cause = 2 then 4 else 3)
    let s := s.setFlag THM_STATUS_CRITICAL true
    { s with thm := { s.thm with criticalAt := s.time } }

/-- A level is entered: its event and, at critical, its actions. `est` is 1 for an estimate. -/
def State.enterLevel (s : State) (layer i : Nat) (v : Int) (est level : Nat) : State :=
  let src := srcSensor layer i
  let d := [(18, 2, toBits 16 v), (20, 1, est)]
  match level with
  | 1 => s.raise 0x4E05 src d
  | 2 => (s.count THM_THROTTLES THM_SAT_THROTTLES 1).raise 0x4E06 src d
  | _ => s.enterCritical src v est

/-- A value of a sensor or region is compared with the levels; an L2 region at throttle is paced. -/
def State.compareLevel (s : State) (layer i : Nat) (v exit2 : Int) (est : Nat) (counts : Bool) : State :=
  let k := sensorKey layer i
  let x := s.sensor k
  let below := if counts then belowCounts x.below v exit2 else x.below
  let l := levelAfter x.level below v
  let s := s.setSensor k { x with level := l, below := below, paced := decide (layer = 2) && decide (2 ≤ l) }
  let s := ([1, 2, 3].filter (fun j => decide (x.level < j ∧ j ≤ l))).foldl
    (fun s j => s.enterLevel layer i v est j) s
  let s := if 1 ≤ layer ∧ layer ≤ 3 ∧ x.level < l then
    s.noteFault layer (if l = 1 then 0x4E05 else if l = 2 then 0x4E06 else 0xCE08) (srcSensor layer i) else s
  s.showLevels

/-! ### Triangulation (R416, R417) -/

/-- The four columns of an L2 region. -/
def regionCols (r : Nat) : List Nat :=
  let c := regionCol r
  [c, c + 1, c + 16, c + 17]

/-- Mean of a logic layer's column values in a region, in °C. -/
def State.regionMean (s : State) (layer r : Nat) : Rat :=
  ((sumInt ((regionCols r).map (fun c => (s.sensor (sensorKey layer c)).value)) : Int) : Rat) / 40

/-- T_est of a region for an activity in accesses per ms, in 0.1 °C to the nearest (log entry). -/
def State.estimate (s : State) (r w : Nat) : Int :=
  let a := Config.triA r
  let c := Config.triC r + ((Tab.get int0 s.thm.moved r : Int) : Rat) / 10
  let t := a * s.regionMean 1 r + (1 - a) * s.regionMean 3 r + Config.triB r * ((w : Rat) / 1000000) + c
  Rat.floor (t * 10 + 1 / 2)

/-- One evaluation of a region (R416, R417, R419). -/
def State.evalRegion (s : State) (r w wreq : Nat) : State :=
  let k := sensorKey 2 r
  let est := s.estimate r w
  let req := s.estimate r wreq
  let x := s.sensor k
  let gap := if x.temp < est then est - x.temp else x.temp - est
  let s := s.setSensor k { x with est := BitVec.ofInt 16 est, req := BitVec.ofInt 16 req,
                                  agree := if x.suspect ∧ gap ≤ 40 then x.agree + 1 else 0 }
  let s := if x.sampled ∧ 80 < gap then s.markSuspect 2 r est else s
  let x := s.sensor k
  let alone := x.suspect || !x.sampled
  let eff (e : Int) : Int := if alone then e else max x.temp e
  let v := eff est
  let s := s.setSensor k { x with sampled := true, used := BitVec.ofInt 16 v }
  s.compareLevel 2 r v (if x.paced then eff req else v) (b2n (decide (x.temp < est) || alone)) true

end Sys2Proof.Machine
end

