-- ==== Sys2Proof/Machine/Images.lean ====
section
/-! DEFINITION.  Images in service: staging and verification, image slots and the boot choice, context packs, and the
AX frame ports (R156 to R160, R364 to R370, R373). -/

namespace Sys2Proof.Machine

open Sys2Proof

/-! ### Staging (R367, R368) -/

/-- Some AX instance stages, verifies or writes (R160). -/
def State.axBusy (s : State) : Bool := (upto 4).any (fun n => decide (s.get (CFG_AX_STATUS_STATE n) ≠ 0))

/-- The staging buffer serves another user (R368): a follower's stream, an instance, a firmware image, a verification, a commit or
pack in progress, or the other command's staging. -/
def State.stagingBusy (s : State) (kind : Nat) : Bool :=
  let st := s.get CFG_STAGE_STATE
  s.axBusy || s.mnt.fwStaged.isSome || decide (s.img.boot = some streamWait) || decide (st = 2 ∨ st = 4 ∨ st = 5) ||
    (decide (st = 1) && decide (s.get CFG_STAGE_KIND ≠ kind))

/-- A first piece discards whatever is staged. -/
def State.stageAnew (s : State) (kind : Nat) : State :=
  let s := (s.unstage.set CFG_STAGE_STATE 1).set CFG_STAGE_KIND kind
  { s with img := { s.img with abandoned := false } }

/-- Bytes of a piece have arrived. -/
def State.stageBytes (s : State) (n : Nat) (i : Image) : State :=
  let s := s.set CFG_STAGE_BYTES_BYTES n
  { s with img := { s.img with staged := some i, stagedAt := s.time } }

/-- A piece of an image (kind 0) or of a pack (kind 1) is staged (R367). -/
def State.stagePiece (s : State) (r : CmdRef) (kind : Nat) (addr : Word) (length offset : Nat) (i : Image) : CmdRes :=
  if addr.toNat % 64 ≠ 0 ∨ length % 64 ≠ 0 ∨ length < 64 ∨ 134217728 < length then s.ends stBAD_ARG
  else if s.stagingBusy kind then s.ends stBUSY
  else if offset ≠ 0 ∧ s.img.abandoned then s.ends stTRUNCATED
  else if offset ≠ 0 ∧ offset ≠ s.get CFG_STAGE_BYTES_BYTES then s.ends stBAD_ARG
  else
    let s := if offset = 0 then s.stageAnew kind else s
    let n := offset + length
    let h := s.headerStatus (decide (kind = 1)) i
    if 256 ≤ n ∧ h ≠ stOK then ((s.reject (verdict h) kind 3).unstage).ends h
    else if 256 ≤ n ∧ i.total.toNat < n then s.unstage.ends stFORMAT
    else
      let s := s.stageBytes n i
      if n < 256 ∨ n < i.total.toNat then s.endsWith stOK n
      else
        let s := s.set CFG_STAGE_STATE 2
        ({ s with img := { s.img with ref := some r } } : State).goesOn

/-- IMAGE_STAGE (R367, R368). -/
def execImageStage (h : Hdr) (addr : Word) (length offset : BitVec 32) (image : Image) (s : State) :
    Host.Outcome State Fault Refusal :=
  .next (s.hostCmd h 0x10 (fun s => s.stagePiece (hdrRef h 0x10) 0 addr length.toNat offset.toNat image))

/-- PACK_LOAD (R367, R368, R373). -/
def execPackLoad (h : Hdr) (addr : Word) (length offset : BitVec 32) (image : Image) (s : State) :
    Host.Outcome State Fault Refusal :=
  .next (s.hostCmd h 0x13 (fun s => s.stagePiece (hdrRef h 0x13) 1 addr length.toNat offset.toNat image))

/-! ### Pack writes (R373) -/

/-- Library entries that a frame of a pack names, by logical mat. -/
def frameEntries : Frame → List (Nat × Nat)
  | .context d _ _ | .trunkHold d _ | .pinChoice d _ => d.mats.map (fun m => (m, d.entry.val))
  | _ => []

/-- Entries that a pack writes, each once, in stream order. -/
def packEntries (fs : List Frame) : List (Nat × Nat) :=
  (fs.map frameEntries).flatten.foldl (fun l e => if e ∈ l then l else l ++ [e]) []

def isContextFor (e : Nat × Nat) (f : Frame) : Bool :=
  match f with
  | .context _ _ _ => decide (e ∈ frameEntries f)
  | _ => false

/-- An entry with what one frame of the pack writes into it. -/
def packWrite (e : Nat × Nat) (x : LibEntry) (f : Frame) : LibEntry :=
  if e ∈ frameEntries f then
    match f with
    | .context _ words check => { x with ctx := frameCtx words, check := check }
    | .trunkHold _ lanes => { x with laneHold := lanes }
    | .pinChoice _ pins => { x with charter := pins }
    | _ => x
  else x

/-- What a pack leaves in an entry: a CONTEXT frame writes it anew. -/
def packEntry (fs : List Frame) (e : Nat × Nat) (old : LibEntry) : LibEntry :=
  fs.foldl (packWrite e) (if fs.any (isContextFor e) then lib0 0 else old)

def State.setPack (s : State) (p : Option PackRun) : State := { s with img := { s.img with pack := p } }

/-- Every entry has been written: the rules and schedules are applied, and PACK_LOAD completes (R373). -/
def State.endPack (s : State) (p : PackRun) : State :=
  let fs := s.ownFrames p.image
  let s := (layAll laySchedule fs (layAll layTally fs (s.setPack none, true))).1
  let s := s.raise 0x0C07 srcConfig [(18, 2, p.written)]
  ((s.chainPack p).finish p.ref stOK (BitVec.ofNat 64 p.written)).unstage

/-- The next entry of the pack is submitted as a library load; the first wait reports QUEUED (R373, R471). -/
def State.nextEntry (s : State) : State :=
  match s.img.pack with
  | none => s
  | some p =>
    match p.left with
    | [] => s.endPack p
    | (m, e) :: _ =>
      let locks := [Lock.lib (s.physMat m) (some e)]
      match s.submit (.libLoad m e) locks 3 e none with
      | (s, .running _) => s
      | (s, x) =>
        let s := if x = .noSpace then { s with mnt := { s.mnt with
          again := s.mnt.again ++ [(s.time + 1000000, .libLoad m e, locks, 3, e)] } } else s
        if p.queued then s else (s.interim p.ref).setPack (some { p with queued := true })

/-- A verified pack is written (R373). -/
def State.startPack (s : State) (r : CmdRef) (i : Image) : State :=
  let s := s.set CFG_STAGE_STATE 5
  (s.setPack (some { ref := r, image := i, left := packEntries (s.ownFrames i), written := 0, queued := false })).nextEntry

/-- LIBRARY_LOAD (R99, R373): the granted write of one entry ends; it waits through a rail warning. -/
def execLibraryLoad (mat : MatId) (entry : Fin 16) (pass : Bool) (s : State) : Host.Outcome State Fault Refusal :=
  let x := (s.logMat mat.val, entry.val)
  match s.runningTask (fun t => decide (t = .libLoad x.1 x.2)), s.img.pack with
  | some a, some p =>
    if s.pow.nvHeld then .next s
    else
      let s := s.release a.place
      if pass then
        let q := mat.val
        let s := s.setEntry q entry.val (packEntry (s.ownFrames p.image) x (s.entry q entry.val)) true
        .next (s.setPack (some { p with left := p.left.filter (fun e => decide (e ≠ x)),
                                        written := p.written + 1 })).nextEntry
      else .next (s.failPack stHW_FAULT)
  | _, _ => .next s

/-! ### End of verification and of staging -/

/-- IMAGE_VERIFY (R364, R365, R367): the verification of a wholly staged image or pack ends. -/
def execImageVerify (s : State) : Host.Outcome State Fault Refusal :=
  match s.img.staged, s.img.ref with
  | some i, some r =>
    if s.get CFG_STAGE_STATE ≠ 2 then .next s
    else
      let kind := s.get CFG_STAGE_KIND
      let v := s.verify (decide (kind = 1)) i
      let s := { s with img := { s.img with ref := none } }
      if v.status ≠ stOK then .next (((s.reject v kind 3).finish r v.status 0).unstage)
      else if kind = 1 then .next (s.startPack r i)
      else .next ((s.set CFG_STAGE_STATE 3).finish r stOK (BitVec.ofNat 64 (i.arv.toNat + i.n.toNat * 2 ^ 32)))
  | _, _ => .next s

/-- STAGING_ABANDON (R367): no piece has come for 10 s. -/
def execStagingAbandon (s : State) : Host.Outcome State Fault Refusal :=
  if s.get CFG_STAGE_STATE ≠ 1 ∨ s.img.boot = some streamWait ∨ s.elapsed s.img.stagedAt 10000000000 = false then
    .next s
  else
    let s := s.unstage
    .next { s with img := { s.img with abandoned := true } }

/-! ### Slots and boot selection (R369, R370) -/

/-- The boot selection or the running image uses a slot. -/
def State.slotInUse (s : State) (k : Nat) : Bool := decide (k = s.get CFG_BOOT_SEL ∨ k = s.get CFG_BOOT_SRC)

/-- IMAGE_COMMIT (R369). -/
def execImageCommit (h : Hdr) (slot : Byte) (s : State) : Host.Outcome State Fault Refusal :=
  .next (s.hostCmd h 0x11 (fun s =>
    let k := slot.toNat
    if hk : 2 < k then s.ends stBAD_ARG
    else if k = 2 ∧ s.sessionClass h.session ≠ some 3 then s.ends stAUTH
    else if s.get CFG_STAGE_STATE ≠ 3 ∨ s.get CFG_STAGE_KIND = 1 ∨ s.slotInUse k then s.ends stREFUSED
    else
      match s.submit (.nvImage ⟨k, by omega⟩) [.nvSlot k, .nvPath] 3 k (some (hdrRef h 0x11)) with
      | (s, .noSpace) => s.ends stNO_SPACE
      | (s, x) => Submitted.report (s.set CFG_STAGE_STATE 4, x) (hdrRef h 0x11)))

/-- NV_IMAGE_WRITE (R369): a granted slot write and its read-back end; it waits through a rail warning. -/
def execNvImageWrite (slot : Fin 3) (pass : Bool) (s : State) : Host.Outcome State Fault Refusal :=
  let k := slot.val
  match s.runningTask (fun t => decide (t = .nvImage slot)), s.img.staged with
  | some a, some i =>
    if s.pow.nvHeld then .next s
    else
      let s := s.set (CFG_SLOT_STATE_WRITES k) (min 0xFFFF (s.get (CFG_SLOT_STATE_WRITES k) + 1))
      if pass = false then .next (((s.blankSlot k).finishRef a.ref stHW_FAULT 0).unstage.release a.place)
      else
        let s := ((s.setFlag (CFG_SLOT_STATE_VALID k) true).wr (CFG_SLOT_ARV k) i.arv).wr (CFG_SLOT_SIZE k) i.total
        let s := { s with img := { s.img with slots := Tab.put none0 s.img.slots k (some i) } }
        let s := s.raise 0x0C05 srcNv [(18, 1, k), (19, 4, i.arv.toNat)]
        let s := if s.flag CFG_BOOT_TRIAL_PENDING ∧ s.get CFG_BOOT_TRIAL_SLOT = k then
          s.setFlag CFG_BOOT_TRIAL_PENDING false else s
        .next ((s.finishRef a.ref stOK 0).unstage.release a.place)
  | _, _ => .next s

/-- A slot write runs or is suspended (R369 step 1). -/
def State.slotWriting (s : State) (k : Nat) : Bool :=
  s.mnt.acts.any (fun a => match a.task with
    | .nvImage j => decide (j.val = k) && decide (a.st ≠ .waiting)
    | _ => false)

/-- BOOT_SELECT (R370): OP 0 select, 1 trial, 2 confirm. -/
def execBootSelect (h : Hdr) (op slot : Byte) (s : State) : Host.Outcome State Fault Refusal :=
  .next (s.hostCmd h 0x12 (fun s =>
    let k := slot.toNat
    let arv := s.rd SEC_ARV
    if 2 < op.toNat ∨ 1 < k then s.ends stBAD_ARG
    else if s.slotWriting k then s.ends stBUSY
    else if op.toNat = 2 then
      match s.img.running with
      | none => s.ends stREFUSED
      | some (v, _) =>
        let raises := decide (arv.toNat < v.toNat)
        if s.flag CFG_BOOT_TRIAL_RUNNING = false ∨ s.get CFG_BOOT_SRC ≠ k ∨
            (raises ∧ (s.rd (CFG_SLOT_ARV 2)).toNat < v.toNat) then s.ends stREFUSED
        else
          let s := (s.set CFG_BOOT_SEL k).setFlag CFG_BOOT_TRIAL_RUNNING false
          (if raises then s.wr SEC_ARV v else s).ends stOK
    else if s.flag (CFG_SLOT_STATE_VALID k) = false then s.ends stREFUSED
    else if (s.rd (CFG_SLOT_ARV k)).toNat < arv.toNat then s.ends stROLLBACK
    else if op.toNat = 0 then (s.set CFG_BOOT_SEL k).ends stOK
    else ((s.setFlag CFG_BOOT_TRIAL_PENDING true).set CFG_BOOT_TRIAL_SLOT k).ends stOK))

/-! ### AX frame ports (R156 to R160) -/

def State.axAt (s : State) (n : Nat) : Ax := Tab.get ax0 s.ctx.ax n

def State.setAx (s : State) (n : Nat) (x : Ax) : State :=
  { s with ctx := { s.ctx with ax := Tab.put ax0 s.ctx.ax n x } }

/-- Length that the second word gives. -/
def axCount (ws : List (BitVec 32)) : Nat := (ws.getD 1 0).toNat

/-- Address words of a stream's frames. -/
def axAddrs (ws : List (BitVec 32)) : List Nat :=
  (upto ((ws.length - 18) / 65)).map (fun i => (ws.getD (2 + 65 * i) 0).toNat)

/-- The checks at the end of a stream: tag, form, permit (R158 steps 2 and 3). -/
def axCheck (x : Ax) (ws : List (BitVec 32)) (tagOk : Bool) : Nat :=
  if tagOk = false ∨ x.key.isNone then stTAG
  else if (ws.length - 18) % 65 ≠ 0 ∨ (axAddrs ws).any (fun a => decide (2 ^ 17 ≤ a)) ∨
      (axFrames ((ws.length - 18) / 65) (ws.drop 2)).any (fun f => !frondReservedOk f.2.1 f.2.2) then stFORMAT
  else if (axAddrs ws).any (fun a => decide (a % 1024 ∉ x.permit)) then stREFUSED
  else stOK

/-- All words have arrived: the checks, then the crosier load over the mats that the frames name (R158). -/
def State.axComplete (s : State) (n : Nat) (tagOk : Bool) : State :=
  let x := s.axAt n
  let st := axCheck x x.words tagOk
  if st ≠ stOK then s.axReject n st
  else
    let mats := (axAddrs x.words).foldl (fun l a => insNat (a % 1024) l) []
    let t := s.crosierTest mats none
    if t = stHW_FAULT then (s.crosierBarred mats none).axReturn n t
    else if t ≠ stOK then s.axReturn n t
    else (s.set (CFG_AX_STATUS_STATE n) 3).crosierEnter mats none (some n) none

/-- A stream begins with a word. -/
def State.axBegin (s : State) (n : Nat) (word : BitVec 32) : State :=
  let st := s.get CFG_STAGE_STATE
  let s := s.set (CFG_AX_WORDS_WORDS n) 1
  if (st ≠ 0 ∧ st ≠ 3) ∨ s.mnt.fwStaged.isSome then s.axReject n stBUSY
  else
    let s := if st = 3 then s.unstage else s
    if word ≠ 0x5A3C0E71#32 then s.axReject n stFORMAT
    else (s.set (CFG_AX_STATUS_STATE n) 1).setAx n { s.axAt n with words := [word], rejecting := false, wordAt := s.time }

/-- AX_STREAM_WORD (R157 to R160): a word of the host mat's channel, with the tag check's finding at the last
one.  A word offered while the instance writes is acknowledged and discarded. -/
def execAxStreamWord (inst : Fin 4) (word : BitVec 32) (tagOk : Bool) (s : State) :
    Host.Outcome State Fault Refusal :=
  let n := inst.val
  let x := s.axAt n
  if s.flag (CFG_AX_STATUS_EN n) = false then .next s
  else if 1 < s.get (CFG_AX_STATUS_STATE n) then .next s
  else if x.words = [] then .next (s.axBegin n word)
  else
    let ws := x.words ++ [word]
    let s := s.set (CFG_AX_WORDS_WORDS n) ws.length
    let s := s.setAx n { x with words := ws, wordAt := s.time }
    if ws.length = 2 ∧ (word.toNat < 83 ∨ 2097152 < word.toNat) then
      .next (s.axReject n stFORMAT)
    else if ws.length < axCount ws then .next s
    else .next (s.axComplete n tagOk)

/-- AX_TRUNCATED (R159): no word has come for 1 ms in an incomplete stream. -/
def execAxTruncated (inst : Fin 4) (s : State) : Host.Outcome State Fault Refusal :=
  let n := inst.val
  if s.get (CFG_AX_STATUS_STATE n) = 1 ∧ (s.axAt n).words ≠ [] ∧ s.elapsed (s.axAt n).wordAt 1000000 then .next (s.axReject n stTRUNCATED)
  else .next s

end Sys2Proof.Machine
end

