-- ==== Sys2Proof/Machine/Reloc.lean ====
section
/-! DEFINITION.  Meanings of the rows on relocation (R452 to R462). -/

namespace Sys2Proof.Machine

open Sys2Proof

/-- A physical mat is in a relocation, submitted or running. -/
def State.inReloc (s : State) (p : Nat) : Bool :=
  s.mnt.acts.any (fun a => match a.task with
    | .reloc r => decide (p ∈ r.src)
    | _ => false)

/-- The stack manager runs and the fabric is alive: relocations are chosen and cut (R465). -/
def State.canRelocate (s : State) : Bool :=
  s.flag HIF_STATUS_CMD_READY && decide (s.get DEV_STATUS_PHASE = 6) && !s.pow.fOff

/-- The relocation of a set to a target. -/
def State.newReloc (s : State) (src : List Nat) (d : Nat) (chains : List Chain) : Reloc :=
  { src := src, dst := relocTargets src d, banks := s.bankSet src, stage := 0, mirroring := false, grantedAt := 0,
    cutAt := 0, axLost := false, chains := match s.chainsTo src chains d with
      | some c => chainPaths c
      | none => [] }

def Reloc.locks (r : Reloc) : List Lock := relocLocks r.src r.dst r.banks r.chains

/-- RELOCATION_REQUEST (R23, R25, R456, R462): the stack manager chooses the target for a column agent's request. -/
def execRelocationRequest (mat : MatId) (chains : List Chain) (s : State) : Host.Outcome State Fault Refusal :=
  let p := mat.val
  if p ∉ s.mnt.wanted ∨ s.canRelocate = false ∨ s.inReloc p then .next s
  else if s.isReserve p ∨ s.matRetired p ∨ Tab.get bool0 s.mnt.stopped p then
    .next { s with mnt := { s.mnt with wanted := delNat p s.mnt.wanted } }
  else
    let src := s.relocSet p
    match s.chooseTarget p chains with
    | none => .next (s.unplaceable src)
    | some d =>
      let r := s.newReloc src d chains
      let s := { s with mnt := { s.mnt with wanted := s.mnt.wanted.filter (fun q => decide (q ∉ src)) } }
      .next (s.submitOwn (.reloc r) r.locks 0 (matCol p))

/-- RELOCATE (R461). -/
def execRelocate (h : Hdr) (mat : BitVec 16) (flags : Byte) (target : BitVec 16) (chains : List Chain) (s : State) :
    Host.Outcome State Fault Refusal :=
  .next (s.hostCmd h 0x63 (fun s =>
    let given := flags.getLsbD 0
    if 512 ≤ mat.toNat ∨ 1 < flags.toNat ∨ (given ∧ 512 ≤ target.toNat) then s.ends stBAD_ARG
    else
      let p := s.physMat mat.toNat
      let src := s.relocSet p
      if s.matRetired p then s.ends stREFUSED
      else if s.inReloc p then s.ends stBUSY
      else
        let t := target.toNat
        let choice := if given then
            if matG t = matG p ∧ s.eligible src (s.bankSet src) chains t then some t else none
          else s.chooseTarget p chains
        match choice with
        | none => if given then s.ends stREFUSED else (s.unplaceable src).ends stUNPLACEABLE
        | some d =>
          let r := s.newReloc src d chains
          Submitted.report (s.submit (.reloc r) r.locks 3 (matCol p) (some (hdrRef h 0x63))) (hdrRef h 0x63)))

/-- GROUP_STOP (R462): a stop that waited for a swap takes effect on the slot then in force. -/
def execGroupStop (mat : MatId) (s : State) : Host.Outcome State Fault Refusal :=
  match s.groupOf (s.logMat mat.val) with
  | none => .next s
  | some g => if (s.group g).stopWaits ∧ (s.group g).run.isNone then .next (s.stopGroup g) else .next s

/-- The running relocation, at a stage, that has a physical mat as source. -/
def State.relocOf (s : State) (p stage : Nat) : Option (Act × Reloc) :=
  s.mnt.acts.findSome? (fun a => match a.task with
    | .reloc r => if a.st = .running ∧ r.stage = stage ∧ p ∈ r.src then some (a, r) else none
    | _ => none)

/-- RELOCATION (R457 step 2): the granted relocation copies library and bank set; writes are mirrored from now on.
`bad`: entries of a source mat whose copy fails its check (R124). -/
def execRelocation (mat : MatId) (bad : List (MatId × Fin 16)) (s : State) : Host.Outcome State Fault Refusal :=
  match s.relocOf mat.val 0 with
  | none => .next s
  | some (a, r) =>
    let s := s.setTask a.place (.reloc { r with stage := 1, mirroring := true, grantedAt := s.time })
    let s := (r.src.zip r.dst).foldl (fun s e => s.copyLibrary e.1 e.2
      ((bad.filter (fun x => decide (x.1.val = e.1))).map (fun x => x.2.val))) s
    match r.src, r.dst with
    | p :: _, d :: _ => .next (s.copyBanks r.banks p d)
    | _, _ => .next s

/-- A target is empty again. -/
def State.emptyTarget (s : State) (d : Nat) : State :=
  let s := (upto 4).foldl (fun s k => s.emptySlot d k) s
  (upto 16).foldl (fun s e => s.setEntry d e (lib0 0) false) s

/-- A target load has failed twice: the target is SUSPECT and step 1 is repeated (R457 step 3′). -/
def State.retarget (s : State) (a : Act) (r : Reloc) (chains : List Chain) : State :=
  let s := r.dst.foldl (fun s d => (s.emptyTarget d).setUnit 5 d { s.unit 5 d with suspect := true }) s
  let s := s.release a.place
  match r.src with
  | [] => s
  | p :: _ =>
    match s.chooseTarget p chains with
    | none => (s.unplaceable r.src).finishRef a.ref stUNPLACEABLE 0
    | some d =>
      let n := s.newReloc r.src d chains
      match a.ref with
      | none => s.submitOwn (.reloc n) n.locks a.requester a.resource
      | some x => match s.submit (.reloc n) n.locks a.requester a.resource (some x) with
        | (s, .noSpace) => s.finish x stNO_SPACE 0
        | (s, .running _) => s
        | (s, .waiting _) => s.interim x

/-- Step 4 itself is the cut point of a set without a paced mat, unless the cut waits (R458): its mats withdraw their
inputs. -/
def State.cutFrom (s : State) (r : Reloc) : Reloc :=
  if s.canRelocate = false ∨ r.src.any (fun p => s.pacedCut (s.logMat p)) ∨ s.cutWaits r then r
  else { r with stage := 3, cutAt := s.time }

/-- RELOCATION_PREPARED (R457 steps 3, 3′, 3″ and 4): the target slots are loaded; a slot that the AX frame port wrote
and whose read-back failed is EMPTY. -/
def execRelocationPrepared (mat : MatId) (failed : Bool) (lost : List (MatId × SlotId)) (chains : List Chain)
    (s : State) : Host.Outcome State Fault Refusal :=
  match s.relocOf mat.val 1 with
  | none => .next s
  | some (a, r) =>
    if failed then .next (s.retarget a r chains)
    else
      let s := (r.src.zip r.dst).foldl (fun s e => s.copySlots e.1 e.2) s
      let bad := (r.src.zip r.dst).foldr (fun e l =>
        ((upto 4).filter (fun k => s.flag (COL_CTX_SRC_AX (matCol e.1) (matG e.1) k) &&
          lost.any (fun x => decide (x.1.val = e.1 ∧ x.2.val = k)))).map (fun k => (e.2, k)) ++ l) []
      let s := bad.foldl (fun s x => s.emptySlot x.1 x.2) s
      .next (s.setTask a.place (.reloc (s.cutFrom { r with stage := 2, axLost := decide (bad ≠ []) })))

/-! ### The cut (R457 steps 5 to 8, R458) -/

/-- Step 6 in one mat: holds and shadows of every slot from the source's shadows (paced) or live holds, or
first-activation codes; a target slot left EMPTY takes nothing. -/
def State.moveHolds (s : State) (p d : Nat) (paced intact : Bool) : State :=
  (upto 4).foldl (fun s k =>
    if s.slotState d k = slEMPTY then s
    else if intact = false then s.reinitSlot d k
    else
      let x := s.slot p k
      let h := if paced then x.shadow else x.holds
      s.setSlot d k { s.slot d k with holds := h, shadow := h, activated := x.activated }) s

/-- Slot select and gate state of a target; a lost active slot puts it into crosier state (R153, R457 step 3″). -/
def State.takeOver (s : State) (p d : Nat) : State :=
  let k := s.activeSlot p
  let m := s.logMat p
  let s := (s.set (gACTIVE d) k).setFlag (gCROSIER d) (s.flag (gCROSIER p))
  let s := s.setFlag (gREGCH_BUSY d) (s.flag (gREGCH_BUSY p))
  let s := ((s.setWindow d (s.window p)).setWindow p []).setFlag (gREGCH_BUSY p) false
  if s.slotState d k = slEMPTY ∧ s.slotState p k ≠ slEMPTY then
    let c : Crosier := { mats := [m], entry := none, inst := none, ref := none, stage := 2, enteredAt := s.time,
                         limit := s.swapTimeout (s.leadCol [m]), latched := [(m, s.slot p k)], back := [] }
    ((s.setFlag (gCROSIER d) true).setSlotState d k slCROSIER).setCrosiers
      (s.ctx.crosiers.filter (fun x => decide (m ∉ x.mats)) ++ [c])
  else s

/-- When a group's lead column changes, COL_SWAP_TIMEOUT of the new one becomes the greater of both (R130). -/
def State.carryTimeout (s : State) (m d : Nat) : State :=
  match s.groupOf m with
  | none => s
  | some g =>
    let mats := (s.group g).mats
    let old := s.leadCol mats
    let new := (mats.map (fun x => matCol (if x = m then d else s.physMat x))).foldl min 255
    if old = new then s
    else s.set (COL_SWAP_TIMEOUT_TIMEOUT_NS new)
      (max (s.get (COL_SWAP_TIMEOUT_TIMEOUT_NS new)) (s.get (COL_SWAP_TIMEOUT_TIMEOUT_NS old)))

/-- Activities that name what has moved follow it: library loads to the target's position, scrub passes to the bank
now serving their range (R473). -/
def State.retargetActs (s : State) (r : Reloc) : State :=
  let mat (p : Nat) : Nat := match (r.src.zip r.dst).find? (fun e => decide (e.1 = p)) with
    | some e => e.2
    | none => p
  let bank (b : Nat) : Nat := match r.src, r.dst with
    | p :: _, d :: _ => if bankCol b = matCol p ∧ bankIdx b ∈ r.banks then bankId (matCol d) (bankIdx b) else b
    | _, _ => b
  s.setActs (s.mnt.acts.map (fun a => match a.task with
    | .libLoad _ _ => { a with locks := a.locks.map (fun l => match l with
        | .lib p e => .lib (mat p) e
        | l => l) }
    | .scrub b => { a with task := .scrub (bank b), locks := [.bank (bank b)], resource := bank b }
    | _ => a))

/-- The relocation of a mat is the repair of the faults inside it, on its inbound channels and of its supply
(R23, R43). -/
def State.closeMatFaults (s : State) (p : Nat) : State :=
  [1, 2, 3, 4].foldl (fun s y => s.closeFaults y (matCol p) (fun x => match x with
    | .mat g | .channel g _ | .supply g => decide (g = matG p)
    | _ => false)) s

/-- One mat moves from p to d (steps 6 and 7). -/
def State.moveMat (s : State) (p d : Nat) (intact : Bool) : State :=
  let m := s.logMat p
  let paced := s.pacedCut m
  let s := ((s.moveHolds p d paced intact).takeOver p d).dropResponses p
  let s := (s.carryTimeout m d).switchMat p d
  let s := { s with mnt := { s.mnt with lost := Tab.put bool0 s.mnt.lost m (!intact) } }
  let busy := s.flag (gCROSIER d) || (match s.regionOf m with
    | some q => (s.pacer q).flushing
    | none => false)
  let s := s.setFab d (fabOf (s.slot d (s.activeSlot d)).holds [])
  let s := (if busy then s.holdNull d else (s.setHeld d false).setRunning d).clocksAfterFlip d
  let s := ((s.closeMatFaults p).retireMat p).settlePins (s.pinsOf m)
  if busy then s else s.serveHeld d

/-- Result of a RELOCATE (R461). -/
def relocResult (r : Reloc) (intact : Bool) : Nat :=
  r.dst.headD 0 + (r.dst.drop 1).headD 0 * 65536 + (if intact then 0 else 2 ^ 32)

/-- Target mats, and the banks that the bank set moved to, are given back to use: their slices end early (R482). -/
def State.endTargetSlices (s : State) (r : Reloc) : State :=
  let s := r.dst.foldl (fun s d => s.abortSlice 5 d) s
  match r.dst with
  | d :: _ => r.banks.foldl (fun s b => s.abortSlice 6 (bankId (matCol d) b)) s
  | [] => s

/-- After step 7: counters, RELOCATED, the command's end, the source's slice, and what waited (R457 steps 7 and 8). -/
def State.endReloc (s : State) (a : Act) (r : Reloc) (intact : Bool) (regions : List Nat) : State :=
  let s := s.count MNT_RELOCS ⟨MNT_SAT, 3, 1⟩ 1
  let s := s.raise 0x1001 srcStack [(18, 2, r.src.headD 0), (20, 2, r.dst.headD 0),
    (22, 1, b2n (!intact) + 2 * b2n (decide (r.src.length = 2)) + 4 * b2n r.axLost), (23, 4, usBetween r.grantedAt s.time)]
  let s := (s.retargetActs r).finishRef a.ref stOK (BitVec.ofNat 64 (relocResult r intact))
  let s := s.endTargetSlices r
  let s := s.release a.place
  let s := r.src.foldl (fun s p => (s.setUnit 5 p { s.unit 5 p with suspect := true }).submitSlice 5 p) s
  regions.foldl (fun s p => s.resumeBoundary p) s.resumeLoads

/-- Steps 5 to 8 of a relocation. -/
def State.cutReloc (s : State) (a : Act) (r : Reloc) (intact : Bool) : State :=
  let low := s.lowQuads
  let regions := (r.src.map (fun p => s.regionOf (s.logMat p))).reduceOption
  let s := match r.src, r.dst with
    | p :: _, d :: _ =>
      let s := r.banks.foldl (fun (s : State) b => s.closeFault 2 (matCol p) (.bank b)) s
      s.switchBanks r.banks p d
    | _, _ => s
  let s := match r.dst with
    | d :: _ => s.enablePaths d r.chains
    | [] => s
  let s := (r.src.zip r.dst).foldl (fun s e => s.moveMat e.1 e.2 intact) s
  (s.endReloc a r intact regions).noteReserves low

/-- Lead column whose COL_SWAP_TIMEOUT bounds the wait of step 5: of the group of the set's first mat, or of the set. -/
def State.cutLead (s : State) (r : Reloc) : Nat :=
  let ms := r.src.map s.logMat
  match ms.findSome? s.groupOf with
  | some g => s.leadCol (s.group g).mats
  | none => s.leadCol ms

/-- Step 5 is over: no unpaced mat of the set has anything in progress, or the wait for quiescence has lasted
COL_SWAP_TIMEOUT. -/
def State.cutOver (s : State) (r : Reloc) (intact : Bool) : Bool :=
  r.src.all (fun p => s.pacedCut (s.logMat p) || s.mayRest p) ||
    (!intact && decide (r.stage = 3) && s.elapsed r.cutAt (s.swapTimeout (s.cutLead r)))

/-- RELOCATION_CUT (R457, R458, R465): a set with a paced mat is cut at the point that its deadline has reached, any
other once prepared, unless the cut waits; a cut that waited begins now with its inputs withdrawn where a mat of the
set is still busy.  `intact` is false when the read fails its check or an unpaced mat is not quiescent. -/
def execRelocationCut (mat : MatId) (intact : Bool) (s : State) : Host.Outcome State Fault Refusal :=
  if s.canRelocate = false then .next s
  else match s.relocOf mat.val 3 with
    | some (a, r) => if s.cutOver r intact then .next (s.cutReloc a r intact) else .next s
    | none => match s.relocOf mat.val 2 with
      | some (a, r) =>
        if r.src.any (fun p => s.pacedCut (s.logMat p)) ∨ s.cutWaits r then .next s
        else if s.cutOver r intact then .next (s.cutReloc a r intact)
        else .next (s.setTask a.place (.reloc { r with stage := 3, cutAt := s.time }))
      | none => .next s

end Sys2Proof.Machine
end

