-- ==== Sys2Proof/Machine/Stewards.lean ====
section
/-! DEFINITION.  Waits of the arbiter that end, steward pairs, and firmware updates (R463 to R469, R474). -/

namespace Sys2Proof.Machine

open Sys2Proof

/-! ### Waits that exceed their limit (R474) -/

/-- The command that a waiting activity works for ends with TIMEOUT; an internal one is submitted again at once. -/
def State.timeoutAct (s : State) (a : Act) : State :=
  match a.task, a.ref with
  | .libLoad _ _, _ => (s.failPack stTIMEOUT).release a.place
  | .survey _, _ => s.endWaitingSurvey a stTIMEOUT
  | .nvImage _, some r => ((s.finish r stTIMEOUT 0).unstage).release a.place
  | .fwUpdate _, some r =>
    let s := { s with mnt := { s.mnt with fwStaged := none } }
    (s.finish r stTIMEOUT 0).release a.place
  | _, some r => (s.finish r stTIMEOUT 0).release a.place
  | t, none => (s.release a.place).submitOwn t a.locks a.requester a.resource

/-- MNT_TIMEOUT (R474): the activity at a place has waited longer than its limit. -/
def execMntTimeout (place : Fin 32) (s : State) : Host.Outcome State Fault Refusal :=
  match s.mnt.acts.find? (fun a => decide (a.place = place.val ∧ a.st = .waiting)) with
  | none => .next s
  | some a =>
    let k := taskCode a.task
    let limit := s.get (MNT_LIMIT_LIMIT_MS k)
    let waited := (s.time - a.since).toNat
    if limit = 0 ∨ waited ≤ limit * 1000000 then .next s
    else
      let s := s.count MNT_TIMEOUTS ⟨MNT_SAT, 2, 1⟩ 1
      let s := s.raise 0x5007 srcArbiter [(18, 1, k), (19, 1, a.requester), (20, 4, waited / 1000000)]
      .next (s.timeoutAct a)

/-! ### Steward pairs (R463 to R465) -/

/-- Both cores of a pair are held in core reset. -/
def State.holdPair (s : State) (p : Nat) : State := (s.holdCore (2 * p) none).holdCore (2 * p + 1) none

/-- A pair loads its firmware and runs. -/
def State.startPair (s : State) (p : Nat) : State :=
  [2 * p, 2 * p + 1].foldl (fun s n =>
    s.setCore n { s.coreAt n with inReset := false, program := true, wdRun := true, wdAt := s.time, resetBy := none }) s

/-- Pins of the old pair pass to the new one by the function switch; its pin port starts at the old levels (R326,
R464). -/
def State.passPins (s : State) (old new : Nat) : State :=
  (upto 96).foldl (fun s n =>
    if s.get (GPIO_OWNER_KIND n) = 4 + old then
      let level := Tab.get none0 s.pins.out (256 + n)
      let v := fldPut (s.rd (GPIO_OWNER n)) 0 4 (4 + new)
      ((s.writeGpioOwner n v).setPinOut (256 + n) level).settlePin (256 + n)
    else s) s

def State.setCopies (s : State) (l : List (BitVec 32 × BitVec 512)) : State :=
  { s with mnt := { s.mnt with fwCopies := l } }

/-- The running firmware update leaves the staging buffer and the arbiter. -/
def State.endUpdate (s : State) (status : Nat) (result : Word) : State :=
  let s := { s with mnt := { s.mnt with fwPhase := 0, fwStaged := none } }
  match s.mnt.acts.find? (fun a => decide (taskCode a.task = 10)) with
  | some a => (s.finishRef a.ref status result).release a.place
  | none => s

/-- Step 4 of a steward update: the new copy is in use (R469). -/
def State.adoptFirmware (s : State) (fw : Firmware) : State :=
  let s := (s.set MNT_STEWARD_FW_COPY (1 - s.get MNT_STEWARD_FW_COPY)).wr MNT_FW_VER fw.version
  let s := s.raise 0x1006 srcStack [(18, 1, 0), (19, 4, fw.version.toNat)]
  s.endUpdate stOK (fw.version.setWidth 64)

/-- Steps 1 to 4 of a failover: fetching is paused for less than a command of this model takes (log entry). -/
def State.failover (s : State) (cause us : Nat) : State :=
  let old := s.get MNT_STEWARD_ACTIVE
  let new := 1 - old
  let s := ((s.holdPair old).set MNT_STEWARD_ACTIVE new).set MNT_STEWARD_STANDBY 0
  let s := (s.passPins old new).count MNT_FAILOVERS ⟨MNT_SAT, 4, 1⟩ 1
  let s := s.raise 0x5004 (srcPair new) [(18, 1, new), (19, 1, cause), (20, 4, us)]
  let s := match s.mnt.fwPhase, s.mnt.fwStaged with
    | 3, some fw => s.adoptFirmware fw
    | _, _ => s
  s.submitSlice 7 old

/-- A fault of the active pair, or the planned failover: without a READY standby no stack manager is left (R464,
R465). -/
def State.stewardFault (s : State) (cause us : Nat) : State :=
  if s.flag HIF_STATUS_CMD_READY = false ∨ (cause = 3 ∧ s.mnt.fwPhase ≠ 3) then s
  else if s.get MNT_STEWARD_STANDBY = 2 then s.failover cause us
  else (s.setFlag HIF_STATUS_CMD_READY false).holdPair (s.get MNT_STEWARD_ACTIVE)

/-- STEWARD_FAILOVER (R464, R465, R469): cause 0 lockstep, 1 watchdog, 2 TCM error, 3 planned. -/
def execStewardFailover (cause : Fin 4) (us : BitVec 32) (s : State) : Host.Outcome State Fault Refusal :=
  .next (s.stewardFault cause.val us.toNat)

/-- STANDBY_READY (R463, R469): the standby pair has caught up. -/
def execStandbyReady (s : State) : Host.Outcome State Fault Refusal :=
  let p := 1 - s.get MNT_STEWARD_ACTIVE
  if s.get MNT_STEWARD_STANDBY ≠ 1 ∨ s.flag HIF_STATUS_CMD_READY = false ∨ (s.coreAt (2 * p)).halted ∨
      (s.coreAt (2 * p + 1)).halted then .next s
  else
    let s := s.set MNT_STEWARD_STANDBY 2
    if s.mnt.fwPhase = 2 then .next { s with mnt := { s.mnt with fwPhase := 3 } } else .next s

/-! ### Firmware update (R466 to R469) -/

/-- The header of a firmware image is well formed for a target (R466). -/
def fwHeaderOk (target : Nat) (fw : Firmware) : Bool :=
  decide (fw.magic = 0x574F464A#32 ∧ fw.format = 1 ∧ fw.target.toNat = target ∧ fw.total.toNat % 64 = 0 ∧
    fw.total.toNat ≤ 8388608) && fw.reservedZero

/-- The program table of a service bundle: shares of at most 4,096 KiB together, and each present program at most
262,144 bytes long and within the body (R509). -/
def fwProgsOk (fw : Firmware) : Bool :=
  let l := fw.progs.filter Prog.present
  decide (l.foldl (fun a p => a + p.sramKib) 0 ≤ 4096) &&
    l.all (fun p => decide (p.length ≤ 262144 ∧ 256 ≤ p.offset ∧ p.offset + p.length ≤ fw.total.toNat - 1088))

/-- The key hash that a target's image must have. -/
def State.fwRoot (s : State) (target : Nat) : Option (BitVec 512) :=
  if target = 0 then some s.sec.boryr else s.sec.root

/-- Version of the copy in use for a target. -/
def State.fwVersion (s : State) (target : Nat) : BitVec 32 := if target = 0 then s.rd MNT_FW_VER else s.rd MNT_SVC_VER

/-- Checks of R467 and R509 on the image fetched. -/
def State.fwStatus (s : State) (target length : Nat) (fw : Firmware) : Nat :=
  if fwHeaderOk target fw = false then stFORMAT
  else if fw.total.toNat < length then stBAD_ARG
  else if length < fw.total.toNat ∨ fw.arrived.toNat < fw.total.toNat then stTRUNCATED
  else if target = 1 ∧ fwProgsOk fw = false then stFORMAT
  else if s.fwRoot target ≠ some fw.keyHash ∨ fw.sigOk = false then stSIGNATURE
  else if fw.version.toNat < (s.fwVersion target).toNat then stROLLBACK
  else if target = 0 ∧ s.get MNT_STEWARD_STANDBY ≠ 2 then stREFUSED
  else stOK

/-- Locks of a firmware update: a steward update also takes the standby pair (R470). -/
def State.fwLocks (s : State) (target : Nat) : List Lock :=
  if target = 0 then [.fwArea, .nvPath, .pair (1 - s.get MNT_STEWARD_ACTIVE)] else [.fwArea, .nvPath]

/-- FW_UPDATE (R467). -/
def execFwUpdate (h : Hdr) (target : Byte) (addr : Word) (length : BitVec 32) (fw : Firmware) (s : State) :
    Host.Outcome State Fault Refusal :=
  .next (s.hostCmd h 0x81 (fun s =>
    let t := target.toNat
    let r := hdrRef h 0x81
    if 1 < t ∨ addr.toNat % 64 ≠ 0 then s.ends stBAD_ARG
    else if s.stagingBusy 2 then s.ends stBUSY
    else
      let s := s.unstage
      let st := s.fwStatus t length.toNat fw
      if st ≠ stOK then s.ends st
      else
        match s.submit (.fwUpdate t) (s.fwLocks t) 3 0 (some r) with
        | (s, .noSpace) => s.ends stNO_SPACE
        | (s, _) => (({ s with mnt := { s.mnt with fwStaged := some fw } } : State).interim r).goesOn))

/-- Programs of a service bundle by service core, in the order of its table (R509). -/
def State.setProgs (s : State) (copy : Nat) (l : List Prog) : State :=
  let t := (upto 4).foldl (fun (t : Tab (Option Prog)) i => Tab.put none0 t (copy * 4 + i) (l[i]?)) s.core.progs
  { s with core := { s.core with progs := t } }

/-- A service-bundle update whose read-back passed (R468). -/
def State.adoptBundle (s : State) (fw : Firmware) : State :=
  let new := 1 - s.get MNT_STEWARD_SVC_COPY
  let s := (s.setCopies (s.mnt.fwCopies.set (2 + new) (fw.version, fw.measure))).setProgs new fw.progs
  let s := (s.set MNT_STEWARD_SVC_COPY new).wr MNT_SVC_VER fw.version
  let s := s.raise 0x1006 srcStack [(18, 1, 1), (19, 4, fw.version.toNat)]
  s.endUpdate stOK (fw.version.setWidth 64)

/-- Step 2′: the standby restarts from the old copy (R469). -/
def State.revertUpdate (s : State) (target : Nat) : State :=
  let s := if target = 0 ∧ (s.get MNT_STEWARD_STANDBY = 1 ∨ s.get MNT_STEWARD_STANDBY = 2) then
    s.set MNT_STEWARD_STANDBY 1 else s
  s.endUpdate stHW_FAULT 0

/-- FIRMWARE_UPDATE_RUN (R468, R469): the granted update has written the copy not in use and read it back. -/
def execFirmwareUpdateRun (pass : Bool) (s : State) : Host.Outcome State Fault Refusal :=
  match s.runningTask (fun t => decide (taskCode t = 10)), s.mnt.fwStaged with
  | some _, some fw =>
    let t := fw.target.toNat
    if s.mnt.fwPhase ≠ 0 then .next s
    else if pass = false ∨ (t = 0 ∧ s.get MNT_STEWARD_STANDBY ≠ 2) then .next (s.revertUpdate t)
    else if t = 1 then .next (s.adoptBundle fw)
    else
      let new := 1 - s.get MNT_STEWARD_FW_COPY
      let s := (s.setCopies (s.mnt.fwCopies.set new (fw.version, fw.measure))).set MNT_STEWARD_STANDBY 1
      .next { s with mnt := { s.mnt with fwPhase := 2, fwAt := s.time } }
  | _, _ => .next s

/-- FW_STANDBY_TIMEOUT (R469 step 2′): 200 ms have passed without a READY standby. -/
def execFwStandbyTimeout (s : State) : Host.Outcome State Fault Refusal :=
  if s.mnt.fwPhase ≠ 2 ∨ s.elapsed s.mnt.fwAt 200000000 = false then .next s else .next (s.revertUpdate 0)

end Sys2Proof.Machine
end

