-- ==== Sys2Proof/Machine/Slices.lean ====
section
/-! DEFINITION.  Traverse slices, BIST_RUN, and the traverse at POWER_DOWN (R479 to R487). -/

namespace Sys2Proof.Machine

open Sys2Proof

/-! ### Slices (R479) -/

/-- Instances of a slice kind. -/
def sliceInsts (kind : Nat) : List Nat :=
  match kind with
  | 0 => upto 128
  | 1 => upto 32
  | 2 => upto 608
  | 3 => upto 8
  | 4 => [1, 5, 6]
  | 5 => upto 512
  | 6 => upto 2304
  | 7 => upto 2
  | _ => []

/-- Budget of a slice in µs. -/
def sliceBudget (kind : Nat) : Nat :=
  match kind with
  | 0 => 2000
  | 1 => 3000
  | 2 | 3 => 500
  | 5 | 7 => 5000
  | _ => 1000

/-- A march test overwrites every word of a bank; what it leaves is open (log entry 6). -/
def State.overwriteBank (s : State) (b : Nat) : State :=
  let n := s.free
  let s := { s with free := n + 8192 }
  (upto 8192).foldl (fun s w => s.putWord b w { data := Config.freeWord (n + w), syn := 0, poison := false }) s

/-- What a slice does to its unit: mats and banks are overwritten, a steward pair runs the test (R479, R486). -/
def State.useUnit (s : State) (kind inst : Nat) : State :=
  match kind with
  | 5 => (upto 4).foldl (fun s k => s.emptySlot inst k) s
  | 6 => s.overwriteBank inst
  | 7 => if s.get MNT_STEWARD_ACTIVE = inst then s
    else (s.holdPair inst).set MNT_STEWARD_STANDBY 0
  | _ => s

/-- SLICE (R479): a granted slice starts on its unit. -/
def execSlice (kind : Fin 8) (inst : BitVec 12) (s : State) : Host.Outcome State Fault Refusal :=
  match s.runningTask (isSlice kind.val inst.toNat) with
  | some _ => .next (s.useUnit kind.val inst.toNat)
  | none => .next s

/-! ### Outcomes (R480, R483) -/

/-- Outcome of a slice that ran to its end. -/
def sliceOutcome (kind : Nat) (bench : Option Word) (sig : Word) (us : Nat) (overrun : Bool) : Nat :=
  if overrun ∨ sliceBudget kind < us then 2
  else match bench with
    | none => 4
    | some b => if sig = b then 0 else 1

/-- The SUSPECT mark of a unit, with the registers that show it. -/
def State.markUnit (s : State) (kind inst : Nat) (bad : Bool) : State :=
  let s := s.setUnit kind inst { s.unit kind inst with suspect := bad }
  match kind with
  | 0 => s.settlePort inst
  | 2 =>
    let x := instSensor inst
    (s.setSensor (sensorKey x.1 x.2) { s.sensor (sensorKey x.1 x.2) with suspect := bad, agree := 0 }).showSuspects x.1
  | 6 => s.setFlag (bankSuspect inst) bad
  | _ => s

/-- UNIT_RELEASED: cause 0 by a slice, 1 by a MAINTAIN session. -/
def State.releaseUnit (s : State) (kind inst cause : Nat) : State :=
  (s.markUnit kind inst false).raise 0x1102 srcBist [(18, 1, kind), (19, 2, inst), (21, 1, cause)]

/-- A slice failed: the unit is SUSPECT; a bank in service becomes failing (R114, R480). -/
def State.failUnit (s : State) (kind inst outcome : Nat) (sig : Word) : State :=
  let s := (s.markUnit kind inst true).count BIST_FAILS BIST_SAT_FAILS 1
  let s := s.raise 0x5101 srcBist [(18, 1, kind), (19, 2, inst), (21, 1, outcome), (22, 8, sig.toNat)]
  if kind = 6 ∧ s.get (bankState inst) = 0 then
    let c := bankCol inst
    (s.reportFault 2 c (.bank (bankIdx (s.servedBy inst))) 0x4308 (srcBank c (bankIdx inst)) [(18, 1, bankIdx inst), (19, 2, 0)]).bankFailing inst false
  else s

/-- A retired mat that passed or is released is a reserve mat at its own position (R460). -/
def State.returnMat (s : State) (p : Nat) : State :=
  { s with mnt := { s.mnt with retired := Tab.put bool0 s.mnt.retired p false } }

/-- What a slice's end means for its unit: a mat returns, a steward pair becomes standby or is lost (R460, R464). -/
def State.afterSlice (s : State) (kind inst outcome : Nat) : State :=
  match kind with
  | 5 => if outcome = 0 then s.returnMat inst else s
  | 7 =>
    if s.get MNT_STEWARD_ACTIVE = inst then s
    else if outcome = 1 ∨ outcome = 2 then
      (s.set MNT_STEWARD_STANDBY 3).raise 0x9005 (srcPair inst) [(18, 1, inst), (19, 1, stHW_FAULT)]
    else if s.flag HIF_STATUS_CMD_READY ∧ (s.get MNT_STEWARD_STANDBY = 0 ∨ s.get MNT_STEWARD_STANDBY = 3) then
      (s.startPair inst).set MNT_STEWARD_STANDBY 1
    else s
  | _ => s

/-! ### The traverse (R485, R486) -/

def isTraverse (t : Task) : Bool :=
  match t with
  | .slice _ _ b => b
  | _ => false

def traverseKind (t : Task) : Nat :=
  match t with
  | .slice k _ _ => k
  | _ => 8

/-- A unit that the traverse tests: retired ones, and parked ones that are not SUSPECT, are skipped. -/
def State.traversed (s : State) (kind inst : Nat) : Bool :=
  match kind with
  | 5 => !s.matRetired inst
  | 6 => decide (s.get (bankState inst) < 2) || (decide (s.get (bankState inst) = 2) && s.flag (bankSuspect inst))
  | 7 => decide (s.get MNT_STEWARD_ACTIVE ≠ inst) &&
      decide (s.get MNT_STEWARD_STANDBY = 1 ∨ s.get MNT_STEWARD_STANDBY = 2)
  | _ => true

/-- Units of the traverse in its order. -/
def State.traverseUnits (s : State) : List (Nat × Nat) :=
  ((upto 8).map (fun k => ((sliceInsts k).filter (fun i => s.traversed k i)).map (fun i => (k, i)))).flatten

/-- Slices of the traverse submitted and not ended, by kind. -/
def State.traverseOut (s : State) : List Nat :=
  ((s.mnt.acts.filter (fun a => isTraverse a.task)).map (fun a => traverseKind a.task)) ++
    ((s.mnt.again.filter (fun x => isTraverse x.2.1)).map (fun x => traverseKind x.2.1))

/-- Submit slices of the present kind while fewer than 16 are out; the next kind waits for the last one. -/
def State.feedTraverse : Nat → State → State
  | 0, s => s
  | n + 1, s =>
    let out := s.traverseOut
    match s.bist.left with
    | [] => s
    | (k, i) :: rest =>
      if 16 ≤ out.length ∨ out.any (fun x => decide (x ≠ k)) then s
      else
        let s := { s with bist := { s.bist with left := rest } }
        (s.submitOwn (.slice k i true) (sliceLocks k i) 2 i).feedTraverse n

/-- SLICE_DONE (R480): the signature is compared with the benchmark, the outcome kept, and the activity ends. -/
def execSliceDone (kind : Fin 8) (inst : BitVec 12) (sig : Word) (us : BitVec 16) (overrun : Bool) (s : State) :
    Host.Outcome State Fault Refusal :=
  let k := kind.val
  let i := inst.toNat
  match s.runningTask (isSlice k i) with
  | none => .next s
  | some a =>
    let u := s.unit k i
    let o := sliceOutcome k u.bench sig us.toNat overrun
    let bad := decide (o = 1 ∨ o = 2)
    let was := u.suspect
    let s := s.setUnit k i { u with outcome := o, calKept := decide (o = 0), duration := us.toNat, sig := sig }
    let s := if bad then s.failUnit k i o sig else if o = 0 ∧ was then s.releaseUnit k i 0 else s
    let s := (s.useUnit k i).afterSlice k i o
    let s := (s.finishRef a.ref stOK (BitVec.ofNat 64 o)).release a.place
    if isTraverse a.task then
      let b := s.bist
      let s := { s with bist := { b with ran := b.ran + 1, bad := b.bad + b2n bad } }
      .next (s.feedTraverse 16)
    else .next s

/-! ### BIST_RUN (R484) -/

/-- The unit is in use. -/
def State.unitUsed (s : State) (kind inst : Nat) : Bool :=
  match kind with
  | 0 => s.flag (FP_CFG_EN inst)
  | 1 => s.flag (XL_CFG_EN inst)
  | 5 => !s.matRetired inst && !s.isReserve inst
  | 6 => decide (s.get (bankState inst) < 2)
  | 7 => decide (s.get MNT_STEWARD_ACTIVE = inst)
  | _ => false

/-- BIST_RUN (R484): OP 0 runs a slice, OP 1 releases the unit without a test. -/
def execBistRun (h : Hdr) (op kind : Byte) (inst : BitVec 16) (s : State) : Host.Outcome State Fault Refusal :=
  .next (s.hostCmd h 0x61 (fun s =>
    let k := kind.toNat
    let i := inst.toNat
    let r := hdrRef h 0x61
    if 1 < op.toNat ∨ i ∉ sliceInsts k then s.ends stBAD_ARG
    else if op.toNat = 0 then
      if s.unitUsed k i then s.ends stREFUSED
      else Submitted.report (s.submit (.slice k i false) (sliceLocks k i) 3 i (some r)) r
    else ((s.releaseUnit k i 1).afterSlice k i 0).ends stOK))

/-- PHASE_SHED (R479): the AVSBus status of VDD_F (0) or VDD_B (1) reports a phase shed. -/
def execPhaseShed (rail : Fin 2) (s : State) : Host.Outcome State Fault Refusal :=
  if s.dev.off then .next s else .next (s.submitSlice 3 (if rail.val = 0 then 0 else 3))

/-! ### POWER_DOWN (R485) -/

/-- POWER_DOWN, steps 1 and 2: pins under charter, pacers stopped, holds NULL, schedules cleared, and a commit with
cause 4 whose SEQ is that of the last event (log entry). -/
def execPowerDown (h : Hdr) (s : State) : Host.Outcome State Fault Refusal :=
  .next (s.hostCmd h 0x80 (fun s =>
    let s := (((s.charterAll 5).stopPacers).nullAll)
    let s := (upto 64).foldl (fun s g => s.setGroup g { s.group g with sched := none, pending := none }) s
    let s := { s with bist := { s.bist with down := 1, downRef := some (hdrRef h 0x80), ran := 0, bad := 0, left := [] } }
    (s.commitTrigger 4 (s.ev.seq - 1)).goesOn))

/-- TRAVERSE (R485 step 3, R486): the commit has ended. -/
def execTraverse (s : State) : Host.Outcome State Fault Refusal :=
  if s.bist.down ≠ 1 ∨ s.fb.run.isSome then .next s
  else
    let l := s.traverseUnits
    let s := { s with bist := { s.bist with down := 3, left := l } }
    .next ((s.setFlag BIST_STATUS_TRAVERSE true).feedTraverse 16)

/-- TRAVERSE_DONE (R485 step 4): the clean record is written, POWER_DOWN completes, RDY is driven low. -/
def execTraverseDone (us : BitVec 32) (s : State) : Host.Outcome State Fault Refusal :=
  if s.bist.down ≠ 3 ∨ s.bist.left ≠ [] ∨ s.traverseOut ≠ [] then .next s
  else
    let b := s.bist
    let s := { s with bist := { b with down := 4, downRef := none, clean := true } }
    let s := s.finishRef b.downRef stOK (BitVec.ofNat 64 (b.ran + b.bad * 65536))
    let s := s.raise 0x1104 srcBist [(18, 2, b.ran), (20, 2, b.bad), (22, 4, us.toNat)]
    let s := (s.setFlag BIST_STATUS_TRAVERSE false).setFlag BIST_STATUS_DOWN true
    .next (s.setFlag DEV_STATUS_RDY false)

end Sys2Proof.Machine
end

