-- ==== Sys2Proof/Machine/FieldBook.lean ====
section
/-! DEFINITION.  The field book: commits, marks and reads (R488 to R493, R496). -/

namespace Sys2Proof.Machine

open Sys2Proof

/-! ### Page bytes (R490) -/

/-- One bit of the CRC-32 of IEEE 802.3, least significant bit first. -/
def crcBit (c : BitVec 32) : BitVec 32 :=
  if c.getLsbD 0 then (c >>> 1) ^^^ 0xEDB88320#32 else c >>> 1

def crcByte (c : BitVec 32) (b : Byte) : BitVec 32 :=
  (upto 8).foldl (fun c _ => crcBit c) (c ^^^ b.setWidth 32)

/-- CRC-32 with the IEEE 802.3 polynomial. -/
def crc32 (l : List Byte) : BitVec 32 := ~~~(l.foldl crcByte 0xFFFFFFFF#32)

/-- Bytes [0:59] of a page header. -/
def pageHead (p : Page) : List Byte :=
  let extra (i : Nat) : List Byte := match p.extras[i]? with
    | some (c, q) => leBytes 4 (c % 256 + q.toNat % 16777216 * 256)
    | none => leBytes 4 0
  leBytes 4 0x4B424446 ++ leBytes 4 p.commit.toNat ++ leBytes 1 p.cause ++ leBytes 1 p.extras.length ++
    leBytes 2 p.entries.length ++ leBytes 4 p.seq.toNat ++ leBytes 8 p.time.toNat ++
    ((upto 8).map extra).flatten ++ leBytes 4 0

def entryBytes (l : List Event) : List Byte := (l.map eventBytes).flatten

/-- A page: its header, then its entries. -/
def pageBytes (p : Page) : List Byte :=
  let h := pageHead p
  let e := entryBytes p.entries
  h ++ leBytes 4 (crc32 (h ++ e)).toNat ++ e

/-! ### Commits (R489 to R491) -/

/-- FIELD_BOOK_COMMIT (R489, R490): the commit that a trigger started erases the header of its page. -/
def execFieldBookCommit (s : State) : Host.Outcome State Fault Refusal :=
  match s.runningTask (fun t => decide (t = .commit)), s.fb.run with
  | some _, some (n, _) =>
    let s := { s with fb := { s.fb with pages := Tab.put none0 s.fb.pages n none } }
    .next ((s.setBit FBK_STATUS (8 + n) false).wr (FBK_PAGE n) 0)
  | _, _ => .next s

/-- The page is written, its header last (R490). -/
def State.storePage (s : State) (n : Nat) (p : Page) : State :=
  let s := { s with fb := { s.fb with run := none, markRef := none, pages := Tab.put none0 s.fb.pages n (some p) } }
  let s := ((s.setBit FBK_STATUS (8 + n) true).wr (FBK_PAGE n) p.commit).set FBK_STATUS_LAST_PAGE n
  (s.setFlag FBK_STATUS_COMMITTING false).wr FBK_COMMITS (s.rd FBK_COMMITS + 1)

/-- FB_WEAR is raised once at 90,000 commits; WORN is set from 100,000 (R491). -/
def State.wearPages (s : State) : State :=
  let n := (s.rd FBK_COMMITS).toNat
  let s := if 100000 ≤ n then s.setFlag FBK_STATUS_WORN true else s
  if 90000 ≤ n ∧ s.fb.wearRaised = false then
    ({ s with fb := { s.fb with wearRaised := true } } : State).raise 0x5107 srcFbk [(18, 4, n)]
  else s

/-- FB_COMMITTED (R489 to R492): the commit ends. -/
def execFbCommitted (s : State) : Host.Outcome State Fault Refusal :=
  match s.runningTask (fun t => decide (t = .commit)), s.fb.run with
  | some a, some (n, p) =>
    let r := s.fb.markRef
    let s := (s.storePage n p).raise 0x1105 srcFbk
      [(18, 4, p.commit.toNat), (22, 1, n), (23, 1, p.cause), (24, 1, p.extras.length)]
    let s := s.wearPages
    let s := if p.cause = 1 then { s with pow := { s.pow with railCommitEnd := some s.time } } else s
    .next ((s.finishRef r stOK (p.commit.setWidth 64)).release a.place)
  | _, _ => .next s

/-- FIELDBOOK_MARK (R492): BUSY while a commit runs. -/
def execFieldbookMark (h : Hdr) (mark : BitVec 16) (data : BitVec 96) (s : State) : Host.Outcome State Fault Refusal :=
  .next (s.hostCmd h 0x71 (fun s =>
    if s.fb.run.isSome then s.ends stBUSY
    else
      let s := s.raiseTrig 0x1106 srcFbk 3 [(18, 2, mark.toNat), (20, 12, data.toNat)]
      ({ s with fb := { s.fb with markRef := some (hdrRef h 0x71) } } : State).goesOn))

/-! ### Reads (R493, R496) -/

/-- FIELDBOOK_READ (R493). -/
def execFieldbookRead (h : Hdr) (source : Byte) (addr : Word) (length : BitVec 32) (s : State) :
    Host.Outcome State Fault Refusal :=
  .next (s.hostCmd h 0x70 (fun s =>
    let n := source.toNat
    if 8 < n ∨ addr.toNat % 64 ≠ 0 then s.ends stBAD_ARG
    else
      let bytes := if n = 0 then some (entryBytes s.fb.ring)
        else (Tab.get none0 s.fb.pages (n - 1)).map pageBytes
      match bytes with
      | none => s.ends stREFUSED
      | some b =>
        if length.toNat < b.length then s.ends stNO_SPACE
        else (s.emit (.hostWrite addr b)).endsWith stOK b.length))

/-- Entry of the source that FBK_RD_SEL selects, 0 the oldest. -/
def State.selectedEntry (s : State) : Option Event :=
  let i := s.get FBK_RD_SEL_INDEX
  let n := s.get FBK_RD_SEL_SOURCE
  if n = 0 then s.fb.ring[i]?
  else if 8 < n then none
  else match Tab.get none0 s.fb.pages (n - 1) with
    | some p => p.entries[i]?
    | none => none

/-- FBK_RD_DATAk: word k of the selected entry; 0 where there is none (log entry). -/
def State.fbkWord (s : State) (k : Nat) : Reg :=
  match s.selectedEntry with
  | some e => BitVec.ofNat 32 (ofLeBytes (((eventBytes e).drop (4 * k)).take 4))
  | none => 0

/-- FBK_RD_DATA7_READ (R8, R496): word 7, and INDEX advances. -/
def execFbkRdData7Read (req : Requester) (s : State) : Host.Outcome State Fault Refusal :=
  .next (s.regAccess req (FBK_RD_DATA 7) 4 false (fun s =>
    let v := s.fbkWord 7
    (s.set FBK_RD_SEL_INDEX (s.get FBK_RD_SEL_INDEX + 1)).emit (.answer req (v.setWidth 64))))

end Sys2Proof.Machine
end

