-- ==== Sys2Proof/Machine/Heat.lean ====
section
/-! DEFINITION.  Meanings of the rows on heat (R414 to R421). -/

namespace Sys2Proof.Machine

open Sys2Proof

/-- A sensor of L0, L1, L3 or L4 is sampled (R415, R417, R419): it is checked, replaced while SUSPECT, and compared
with the levels. -/
def State.takeSample (s : State) (layer i : Nat) (reading : Option (BitVec 16)) : State :=
  let k := sensorKey layer i
  let x := s.sensor k
  let bad := s.implausible layer i (reading.map BitVec.toInt)
  let s := s.setSensor k { x with sampled := true, reading := reading.getD x.reading }
  let s := if bad then s.markSuspect layer i ((s.refMean layer i).getD 0) else s
  let x := s.sensor k
  let v := if x.suspect then s.replacement layer i else x.temp
  let agree := if x.suspect ∧ bad = false then x.agree + 1 else 0
  let s := s.setSensor k { x with used := BitVec.ofInt 16 v, agree := agree, caseAt := if bad then s.time else x.caseAt }
  s.compareLevel layer i v v 0 true

/-- SENSOR_SAMPLE (R415, R419).  The reading of an L2 sensor is compared with the thresholds unless it is SUSPECT; its
plausibility is tested at the next evaluation (R417). -/
def execSensorSample (layer : Fin 5) (index : Byte) (reading : Option (BitVec 16)) (s : State) :
    Host.Outcome State Fault Refusal :=
  let y := layer.val
  let i := index.toNat
  if s.dev.off ∨ sensorCount y ≤ i then .next s
  else if y ≠ 2 then .next (s.takeSample y i reading)
  else
    match reading with
    | none => .next s
    | some v =>
      let k := sensorKey 2 i
      let x := s.sensor k
      let used := if x.suspect ∨ (x.sampled ∧ v.toInt < x.est.toInt) then x.used else v
      let s := s.setSensor k { x with sampled := true, reading := v, used := used }
      if x.suspect then .next s else .next (s.compareLevel 2 i v.toInt v.toInt 0 false)

/-- TRIANGULATION (R416, R417, R419): every L2 region is evaluated with its performed and requested accesses of the last
ms; without coefficients there is no estimate. -/
def execTriangulation (activity : List (BitVec 32 × BitVec 32)) (s : State) : Host.Outcome State Fault Refusal :=
  if s.dev.off ∨ s.flag THM_TRI_VALID = false then .next s
  else .next (((upto 64).zip activity).foldl (fun s e => s.evalRegion e.1 e.2.1.toNat e.2.2.toNat) s)

/-- SENSOR_RELEASED (R417): 10,000 consecutive evaluations within 4 °C for an L2 sensor, 10 s without a case of R415 for
the others.  A sensor that a slice found failed stays SUSPECT (R480). -/
def execSensorReleased (layer : Fin 5) (index : Byte) (s : State) : Host.Outcome State Fault Refusal :=
  let y := layer.val
  let i := index.toNat
  let x := s.sensor (sensorKey y i)
  if sensorCount y ≤ i ∨ x.suspect = false ∨ x.agree < (if y = 2 then 10000 else 1) ∨
      (y ≠ 2 ∧ s.elapsed x.caseAt 10000000000 = false) ∨ s.unitSuspect 2 (sensorInst y i) then .next s
  else
    let s := (s.setSensor (sensorKey y i) { x with suspect := false, agree := 0 }).showSuspects y
    .next (s.raise 0x0E0A (srcSensor y i) [(18, 2, x.reading.toNat)])

/-- CRITICAL_RESTART (R421): with AUTO_RESTART 1 every effective temperature has stayed below 100 °C for 1 s. -/
def execCriticalRestart (s : State) : Host.Outcome State Fault Refusal :=
  if s.flag THM_STATUS_CRITICAL = false ∨ s.flag THM_CTL_AUTO_RESTART = false ∨ s.dev.off ∨ s.dev.restart.isSome ∨
      s.dev.warm.isSome ∨ s.liveSensors.any (fun e => decide (1000 ≤ e.2.value)) ∨
      s.elapsed s.thm.hotAt 1000000000 = false then .next s
  else .next (s.beginWarm 4 0)

/-! ### Recalibration (R418) -/

def clampInt (lo hi x : Int) : Int := max lo (min hi x)

/-- Move C_r of each region whose sensor is not SUSPECT and whose readings were steady, within ± 3 °C per recalibration
and ± 6 °C from the factory value. -/
def State.recalibrate (s : State) (means : List (Int × Bool)) : State :=
  let old := s.thm.moved
  let moves := (((upto 64).zip means).filter (fun e => e.2.2 && !(s.sensor (sensorKey 2 e.1)).suspect)).map
    (fun e => (e.1, clampInt (-60) 60 (Tab.get int0 old e.1 + clampInt (-30) 30 e.2.1)))
  let size (e : Nat × Int) : Nat := (e.2 - Tab.get int0 old e.1).natAbs
  let most := moves.foldl (fun b e => if size b < size e then e else b) (0, Tab.get int0 old 0)
  let s := { s with thm := { s.thm with moved := moves.foldl (fun (t : Tab Int) (e : Nat × Int) => Tab.put int0 t e.1 e.2) old } }
  (s.set THM_TRI_MOVED most.1).set THM_TRI_RECALS (s.get THM_TRI_RECALS + 1)

/-- Hours between recalibrations, in ns (THM_CTL.RECAL_H, 0 acts as 1). -/
def State.recalPeriod (s : State) : Nat := max 1 (s.get THM_CTL_RECAL_H) * 3600000000000

/-- TRIANGULATION_RECAL (R418, R470): the recalibration is submitted when due and, a second after its grant, ends with the
means of the second in 0.1 °C and whether each region's readings stayed within 2 °C of it. -/
def execTriangulationRecal (means : List (Int × Bool)) (s : State) : Host.Outcome State Fault Refusal :=
  if s.dev.off ∨ s.flag THM_TRI_VALID = false then .next s
  else
    let s := if s.hasTask (fun t => decide (t = .recal)) ∨ s.flag THM_CTL_RECAL_EN = false ∨
        s.elapsed s.thm.recalAt s.recalPeriod = false then s
      else s.submitOwn .recal [.triModel, .sensor none] 1 0
    match s.runningTask (fun t => decide (t = .recal)) with
    | some a =>
      if s.elapsed s.thm.recalAt 1000000000 then .next ((s.recalibrate means).release a.place) else .next s
    | none => .next s

end Sys2Proof.Machine
end

