-- ==== Sys2Proof/Machine/Power.lean ====
section
/-! DEFINITION.  Meanings of the rows on supplies, package power and the speed governor (R189 to R191, R402 to R412). -/

namespace Sys2Proof.Machine

open Sys2Proof

/-! ### Warning levels (R402, R403) -/

/-- Warning level of a rail in mV; while a set point changes, from the lower of the old and the new (R403).
Fractions of a mV are dropped (log entry). -/
def State.warnLevel (s : State) (r : Nat) : Nat :=
  match r with
  | 0 =>
    let now := s.vddF
    (match s.pow.reqF with
     | some mv => min now mv
     | none => now) * 94 / 100
  | 1 | 2 => 705
  | 3 =>
    (match s.clk.op with
     | some o => min s.pow.setB (s.get (CLK_OP_VDDB_MV o.dest))
     | none => s.pow.setB) * 90 / 100
  | 4 | 7 => 1710
  | 5 => 846
  | _ => 1128

/-- Reset level of a rail in mV (R402). -/
def resetLevel (r : Nat) : Nat :=
  match r with
  | 0 => 470
  | 1 | 2 | 3 => 620
  | 4 | 7 => 1620
  | 5 => 800
  | _ => 1080

/-- Set point of a rail in mV: nominal for a fixed rail. -/
def State.setPoint (s : State) (r : Nat) : Nat :=
  match r with
  | 0 => s.vddF
  | 1 | 2 => 750
  | 3 => s.pow.setB
  | 4 | 7 => 1800
  | 5 => 900
  | _ => 1200

/-- Layers that a rail feeds. -/
def railLayers (r : Nat) : List Nat :=
  match r with
  | 0 => [1, 3]
  | 1 => [2]
  | 2 => [0, 1, 2, 3, 4]
  | 4 => [4]
  | _ => [0]

def State.inWarn (s : State) (r : Nat) : Bool := s.bit PMU_RAIL_WARN r

/-- Status bits that follow from the rails in warning. -/
def State.showWarn (s : State) : State :=
  let s := s.setFlag PMU_STATUS_ANY_WARN ((upto 8).any s.inWarn)
  (upto 5).foldl (fun s y =>
    s.setFlag (LSUP_STATUS_RAIL_WARN y) ((upto 8).any (fun r => s.inWarn r && decide (y ∈ railLayers r)))) s

/-- A measured voltage of a rail: its lowest value since the last read. -/
def State.measureRail (s : State) (r mv lowest : Nat) : State :=
  let p := s.pow
  { s with pow := { p with mv := Tab.put nat0 p.mv r mv,
                           low := Tab.put low0 p.low r (min (Tab.get low0 p.low r) lowest) } }

/-! ### Dips (R408 to R411) -/

/-- A maintenance task with task code `c` runs. -/
def State.taskRuns (s : State) (c : Nat) : Bool :=
  s.mnt.acts.any (fun a => decide (taskCode a.task = c) && decide (a.st = .running))

/-- NV image writes and library loads are suspended; NV_WRITE_HELD for each kind that runs. -/
def State.holdNv (s : State) : State :=
  if s.pow.nvHeld then s
  else
    let s := { s with pow := { s.pow with nvHeld := true } }
    let nvRuns : Bool := s.taskRuns 7
    let libRuns : Bool := s.taskRuns 8
    let s := if nvRuns = true then s.raise 0x4C06 srcNv [(18, 1, 0)] else s
    if libRuns = true then s.raise 0x4C06 srcNv [(18, 1, 1)] else s

/-- A commit started by a rail warning runs: it serves the warnings that enter while it runs (R408, R411). -/
def State.warnCommits (s : State) : Bool :=
  match s.fb.run with
  | some (_, pg) => decide (pg.cause = 1)
  | none => false

/-- The commit of a rail warning is held off: one started by a rail warning ended less than FB_HOLDOFF_MS ago. -/
def State.commitHeldOff (s : State) : Bool :=
  let ms := s.get PMU_DIP_CTL_FB_HOLDOFF_MS
  decide (ms ≠ 0) &&
    (match s.pow.railCommitEnd with
     | some t => decide ((s.time - t).toNat < ms * 1000000)
     | none => false)

/-- Entry of a rail into warning (R408, R409). -/
def State.enterWarn (s : State) (r mv : Nat) : State :=
  let s := (s.measureRail r mv mv).holdNv
  let p := s.pow
  let s := { s with pow := { p with warnAt := Tab.put word0 p.warnAt r s.time,
                                    warnLow := Tab.put nat0 p.warnLow r mv } }
  let s := ((s.setBit PMU_RAIL_WARN r true).showWarn).count (PMU_DIPS r) ⟨PMU_SAT, r, 1⟩ 1
  let serves := s.warnCommits
  let off := s.commitHeldOff
  let s := if off ∧ serves = false then s.setFlag PMU_STATUS_FB_HELD true else s
  let s := s.raiseRaw 0x4E01 (srcPmu r) 0 (evData [(18, 2, mv), (20, 2, s.warnLevel r)])
    (if off ∨ serves then none else some 1)
  if r = 3 then s.halve mv else s

/-- VDD_F is turned off by SEQ_EN4, or the rail has not come up yet: no warning of it. -/
def State.railWatched (s : State) (r : Nat) : Bool :=
  !s.dev.off && (decide (r = 7) || s.railIsGood r) && !(decide (r = 0) && s.pow.fOff)

/-- RAIL_WARN (R408, R409): a rail has stayed below its warning level for 200 ns; `mv` is its measured voltage. -/
def execRailWarn (rail : Fin 8) (mv : BitVec 16) (s : State) : Host.Outcome State Fault Refusal :=
  if s.inWarn rail.val ∨ s.railWatched rail.val = false ∨ s.warnLevel rail.val ≤ mv.toNat then .next s
  else .next (s.enterWarn rail.val mv.toNat)

/-- A rail leaves warning (R410). -/
def State.leaveWarn (s : State) (r lowest : Nat) : State :=
  let s := (s.setBit PMU_RAIL_WARN r false).showWarn
  let us := usBetween (Tab.get word0 s.pow.warnAt r) s.time
  let s := s.raise 0x0E02 (srcPmu r) [(18, 4, us), (22, 2, min (Tab.get nat0 s.pow.warnLow r) lowest)]
  let s := if r = 3 then s.unhalve else s
  if (upto 8).any s.inWarn then s else { s with pow := { s.pow with nvHeld := false } }

/-- What follows when a rail has recovered from its reset level (R412): a device warm reset for VDD_F, start-up from
P2 once every rail is good for the others. -/
def State.recovered (s : State) (r : Nat) : State :=
  match s.dev.restart with
  | some k =>
    let s := s.setGood r true
    if ([1, 2, 3, 4, 5, 6].all (fun q => s.railIsGood q)) ∧ r ≠ 0 ∧ (upto 8).all (fun q => q = 0 ∨ !s.inWarn q)
    then s.restartP2 k else s
  | none => if r = 0 ∧ s.dev.fRestart = 3 then
      ({ s with dev := { s.dev with fRestart := 0 } } : State).beginWarm 3 0 else s

/-- RAIL_RECOVERED (R410, R412): a rail has stayed above its warning level + 20 mV for 50 µs. -/
def execRailRecovered (rail : Fin 8) (mv lowest : BitVec 16) (s : State) : Host.Outcome State Fault Refusal :=
  let r := rail.val
  if s.dev.off ∨ mv.toNat ≤ s.warnLevel r + 20 then .next s
  else
    let s := s.measureRail r mv.toNat lowest.toNat
    let s := if s.inWarn r then s.leaveWarn r lowest.toNat else s
    .next (s.recovered r)

/-! ### Reset level (R412) -/

/-- VNV below its reset level: the field-book commit is cut off; its page stays erased (R408, R490). -/
def State.cutCommit (s : State) : State :=
  match s.fb.run with
  | none => s
  | some _ =>
    let s := s.finishRef s.fb.markRef stHW_FAULT 0
    let s := { s with fb := { s.fb with run := none, markRef := none } }
    let s := s.setFlag FBK_STATUS_COMMITTING false
    match s.mnt.acts.find? (fun a => decide (a.task = .commit)) with
    | some a => s.release a.place
    | none => s

/-- The domains of a rail are held in reset (R402, R412). -/
def State.resetDomain (s : State) (r : Nat) : State :=
  match r with
  | 1 =>
    let s := { s with mem := { words := [], resp := [], mirrored := [] },
                      que := { queues := [], epoch := [], latch := [], held := [] } }
    let s := s.flushCoreWaits
    { s with tal := { s.tal with tallies := [], acts := [], stims := [], recs := [], committed := [] } }
  | 2 =>
    let s := { s with pace := { s.pace with timeOn := false }, ctx := { s.ctx with lib := [], ax := [] } }
    (s.resetRegs (fun k => decide (0x200000 ≤ k ∧ k < 0x300000) && decide (k % 0x80 = 0x20 ∧ k % 0x1000 < 0x100))).unstage
  | 3 =>
    let s := (upto 8).foldl (fun s n => s.holdCore n none) s
    let s := (s.linkDown.setFlag HIF_STATUS_CMD_READY false)
    { s with sec := { s.sec with sessions := [], challenge := none } }
  | 4 => s.cutCommit
  | _ => (s.dropLanes (fun _ => true)).linkDown.dropTethers (fun _ => true)

/-- The protective actions of a rail's reset level (R26, R412, R434, R444). -/
def State.railReset (s : State) (r mv : Nat) : State :=
  let s := (s.measureRail r mv mv).raise 0xCE03 (srcPmu r) [(18, 2, mv)]
  let s := (s.protect scopeReset).failPack stHW_FAULT
  let s := (s.setGood r false).setFlag DEV_STATUS_WARM_BUSY false
  let s := { s with dev := { s.dev with warm := none } }
  let s := (s.charterAll 5).setFlag DEV_STATUS_RDY false
  let s := s.setFault 2
  if r = 0 then
    let s := s.loseFabric
    { s with dev := { s.dev with fRestart := 1, fAt := s.time } }
  else
    let s := { s with dev := { s.dev with restart := some r } }
    s.resetDomain r

/-- RAIL_RESET (R412): a rail has been below its reset level for 100 ns. -/
def execRailReset (rail : Fin 8) (mv : BitVec 16) (s : State) : Host.Outcome State Fault Refusal :=
  if s.railWatched rail.val = false ∨ resetLevel rail.val ≤ mv.toNat then .next s
  else if rail.val = 7 then
    execVauxLost ((s.measureRail 7 mv.toNat mv.toNat).raise 0xCE03 (srcPmu 7) [(18, 2, mv.toNat)])
  else .next (s.railReset rail.val mv.toNat)

/-- VDD_F_RESTART (R412): SEQ_EN4 has been held for 10 ms; the set point in force is written and SEQ_EN4 released. -/
def execVddFRestart (s : State) : Host.Outcome State Fault Refusal :=
  if s.dev.fRestart ≠ 1 ∨ s.elapsed s.dev.fAt 10000000 = false then .next s
  else .next { s with dev := { s.dev with fRestart := 2, fAt := s.time }, pow := { s.pow with reqF := some s.vddF } }

/-- AVS_FAULT (R405): three successive transactions have failed. -/
def execAvsFault (rail : Fin 2) (status : Byte) (s : State) : Host.Outcome State Fault Refusal :=
  if s.dev.off then .next s
  else
    let s := s.setFlag PMU_STATUS_AVS_FAULT true
    .next (s.raise 0x8E0B (srcPmu (if rail.val = 0 then 0 else 3)) [(18, 1, rail.val), (19, 1, status.toNat)])

/-! ### Package power (R191, R406) -/

/-- Package power in 0.1 W. -/
def State.power (s : State) : Nat := s.get PMU_POWER_AVG

/-- The power cap's state after a new average (R191). -/
def State.evalCap (s : State) (mw : Nat) : State :=
  let was := s.flag PMU_GOV_STATUS_CAP_ACTIVE
  let act := decide (170000 < mw)
  let s := s.setFlag PMU_GOV_STATUS_CAP_ACTIVE act
  let s := if act ∧ was = false then
      ({ s with pow := { s.pow with capAt := some s.time } } : State).raise 0x4503 srcGovernor
        [(18, 2, s.vddF), (20, 2, s.power)]
    else if was ∧ act = false then
      ({ s with pow := { s.pow with capAt := none } } : State).raise 0x0504 srcGovernor
        [(18, 4, usBetween (s.pow.capAt.getD s.time) s.time)]
    else s
  s.showCapHeld

/-- POWER_MEASUREMENT (R191, R406): voltage in mV and current in 10 mA of each rail from rail 0 on; the average is over
the last ten values of 100 µs.  The AVSBus current read has succeeded, which ends an AVS_FAULT (R405). -/
def execPowerMeasurement (rails : List (BitVec 16 × BitVec 16)) (s : State) : Host.Outcome State Fault Refusal :=
  if s.dev.off then .next s
  else
    let l := (upto 22).zip rails
    let s := l.foldl (fun s e =>
      let s := s.measureRail e.1 e.2.1.toNat e.2.1.toNat
      { s with pow := { s.pow with cur := Tab.put nat0 s.pow.cur e.1 e.2.2.toNat } }) s
    let mw := l.foldl (fun a e => a + e.2.1.toNat * e.2.2.toNat) 0 / 100
    let w := (mw :: s.pow.samples).take 10
    let s := { s with pow := { s.pow with samples := w } }
    let avg := w.foldl (fun a x => a + x) 0 / w.length
    let s := s.set PMU_POWER_AVG (satBits 16 (avg / 100))
    let s := s.set PMU_POWER_PEAK (max (s.get PMU_POWER_PEAK) s.power)
    .next (s.avsWorks.evalCap avg)

/-- POWER_CAP_EXCEEDED (R191, R421): the cap has stayed active at the lower bound for 100 ms. -/
def execPowerCapExceeded (s : State) : Host.Outcome State Fault Refusal :=
  if s.flag PMU_GOV_STATUS_CAP_ACTIVE = false ∨ s.flag THM_STATUS_CRITICAL ∨
      s.pow.heldAt.any (fun t => s.elapsed t 100000000) = false then .next s
  else
    let s := s.raise 0xC506 srcGovernor [(18, 2, s.power)]
    .next (s.enterCritical srcGovernor ((s.hottest.map Prod.snd).getD 0) 2)

/-! ### IR drop (R23, R407) -/

/-- Source id of an IR-drop monitor (R29). -/
def srcIrMonitor (layer c : Nat) : Nat := srcId layer c (if layer = 2 then 18 else 5)

/-- The supply fault of a column awaits the relocation of the mats that it moves away (R23, R43). -/
def State.openSupply (s : State) (layer c : Nat) (mats : List Nat) : State :=
  s.setOpen layer c (mats.foldl (fun l p => if .supply (matG p) ∈ l then l else l ++ [.supply (matG p)])
    (s.openFaults layer c))

/-- IR_DROP (R23, R44, R407): layer y + 1's monitor of a column alarms. -/
def execIrDrop (layer : Fin 4) (col : ColId) (localMv l0Mv : BitVec 16) (s : State) :
    Host.Outcome State Fault Refusal :=
  let y := layer.val + 1
  let c := col.val
  if l0Mv.toNat ≤ localMv.toNat + max 30 (s.get PMU_IR_CTL_LIMIT_MV) then .next s
  else
    let rail := if y = 2 then 1 else if y = 4 then 2 else 0
    let s := s.count PMU_IRS ⟨PMU_SAT, 8, 1⟩ 1
    let mats := if y = 1 then [matOf c 0] else if y = 3 then [matOf c 1] else [matOf c 0, matOf c 1]
    let moves := mats.filter (fun p => !(s.isReserve p || s.matRetired p))
    let s := ((s.raise 0x8E04 (srcIrMonitor y c)
      [(18, 1, rail), (19, 2, localMv.toNat), (21, 2, l0Mv.toNat)]).noteFault y 0x8E04 (srcIrMonitor y c)).openSupply y c moves
    let before := s.lowQuads
    let k := y * 256 + c
    let s := { s with pow := { s.pow with degraded := Tab.put bool0 s.pow.degraded k true,
                                          irRecords := Tab.put bool0 s.pow.irRecords k true } }
    let s := moves.foldl (fun s p => s.wantReloc p) s
    .next (s.showDegraded.noteReserves before)

/-! ### Speed governor (R188 to R190) -/

/-- A region takes part in the governor (R188). -/
def State.takesPart (s : State) (p : Nat) : Bool :=
  decide (s.paceState p = 2) && !s.flag (PACE_STATUS_GOV_EXCLUDE p) && decide (s.doneMats p ≠ [])

/-- Slack of a region over the interval just ended: its least, or its last value (R189). -/
def State.regionSlack (s : State) (p : Nat) : Option Nat :=
  match (s.pacer p).ivSlack with
  | some v => some v
  | none => (s.pacer p).slackVal

/-- Region with the least slack. -/
def State.worstRegion (s : State) (ps : List Nat) : Option (Nat × Nat) :=
  ps.foldl (fun b p => match s.regionSlack p, b with
    | some v, some w => if v < w.2 then some (p, v) else some w
    | some v, none => some (p, v)
    | none, b => b) none

/-- Decision of an interval: steps of 5 mV, upwards where positive (R189). -/
def State.governorSteps (s : State) (ps : List Nat) : Int :=
  let pct (p : Nat) : Nat := 100 * s.get (PACE_STATUS_SLACK_PCT p)
  let below (p n d : Nat) : Bool := match s.regionSlack p with
    | some v => decide (v * d < pct p * n)
    | none => false
  let hyst := 100 * s.get PMU_GOV_CTL_HYST_PCT
  if s.flag PMU_GOV_STATUS_CAP_ACTIVE ∨ s.flag PMU_GOV_STATUS_THROTTLE then -1
  else if ps = [] ∨ s.flag PMU_GOV_CTL_EN = false ∨ s.inWarn 0 then 0
  else if ps.any (fun p => (s.pacer p).ivLate || below p 1 2) then 4
  else if ps.any (fun p => below p 1 1) then 1
  else if ps.all (fun p => match s.regionSlack p with
      | some v => decide (pct p + hyst ≤ v)
      | none => false) then -1
  else 0

/-- The interval's values are put away: a region keeps its last slack. -/
def State.endInterval (s : State) : State :=
  (upto 64).foldl (fun s p =>
    let x := s.pacer p
    s.setPacer p { x with slackVal := s.regionSlack p, ivSlack := none, ivLate := false }) s

/-- The governor acts on VDD_F within its bounds (R189, R190); it holds while a request is pending, AVSBus fails or
VDD_F is off. -/
def State.governorActs (s : State) (n : Int) (worst : Option (Nat × Nat)) : State :=
  let now := s.vddF
  let lb := s.lowerBound
  let atMax := decide (0 < n) && decide (900 ≤ now)
  let s := if atMax ∧ s.flag PMU_GOV_STATUS_AT_MAX = false then
    s.raise 0x4502 srcGovernor [(18, 1, (worst.map Prod.fst).getD 0), (19, 2, (worst.map Prod.snd).getD 0)] else s
  let s := s.setFlag PMU_GOV_STATUS_AT_MAX atMax
  if s.pow.reqF.isSome ∨ s.flag PMU_STATUS_AVS_FAULT ∨ s.pow.fOff then s
  else if 0 < n ∧ now < 900 then s.requestF (min 900 (now + 5 * n.toNat))
  else if n < 0 ∧ lb < now then s.requestF (max lb (now - 5))
  else s

/-- GOVERNOR_INTERVAL (R188 to R190): the interval of INTERVAL × 100 µs ends.  While no region that took part has a slack
value, PMU_GOV_WORST names the lowest-numbered of them with SLACK 0; with none, PACER is 0 (DESIGN CHOICE, log entry
44: R194 does not say which). -/
def execGovernorInterval (s : State) : Host.Outcome State Fault Refusal :=
  if s.dev.off then .next s
  else
    let ps := (upto 64).filter s.takesPart
    let worst := s.worstRegion ps
    let n := s.governorSteps ps
    let s := (s.set PMU_GOV_WORST_SLACK ((worst.map Prod.snd).getD 0)).set PMU_GOV_WORST_PACER
      ((worst.map Prod.fst).getD (ps.headD 0))
    let s := s.setFlag PMU_GOV_WORST_VALID (decide (ps ≠ []))
    .next (s.governorActs n worst).endInterval

end Sys2Proof.Machine
end

