-- ==== Sys2Proof/Machine/Access.lean ====
section
/-! DEFINITION.  What a read of a register returns: the register file for the fields that have their home there, and
views of the structured parts for the others; and what a write of a register does (R8, R33, R38, R42). -/

namespace Sys2Proof.Machine

open Sys2Proof

/-- A register value with fields (low bit, width, value) put into it. -/
def putFlds (r : Reg) (fs : List (Nat × Nat × Nat)) : Reg := fs.foldl (fun r f => fldPut r f.1 f.2.1 f.2.2) r

/-- A number whose bit i tells whether a test holds of i < n. -/
def maskOf (n : Nat) (p : Nat → Bool) : Nat := (upto n).foldl (fun a i => a + b2n (p i) * 2 ^ i) 0

/-! ### COL (R120, R162) -/

/-- COL_RHZ_STATUS: exhausted and missed interfaces, spares in use. -/
def State.viewRhzStatus (s : State) (c : Nat) : List (Nat × Nat × Nat) :=
  let any (p : Rhz → Bool) (i : Nat) : Bool := (upto 56).any (fun g => p (s.rhz c i g))
  let used := (upto 224).foldl (fun a j => a + (s.rhz c (j / 56) (j % 56)).moved.length) 0
  [(0, 4, maskOf 4 (any Rhz.exhausted)), (4, 4, maskOf 4 (any (fun r => decide (r.missed ≠ [])))), (8, 8, satBits 8 used)]

/-- COL_RHZ_GRP: the group that COL_RHZ_SEL selects; groups 56 to 63 read as 0. -/
def State.viewRhzGrp (s : State) (c : Nat) : List (Nat × Nat × Nat) :=
  let i := s.get (COL_RHZ_SEL_INTERFACE c)
  let g := s.get (COL_RHZ_SEL_GROUP c)
  if 56 ≤ g then [(0, 32, 0)]
  else
    let r := s.rhz c i g
    [(0, 2, r.moved.length), (2, 1, b2n r.exhausted), (3, 1, b2n (decide (r.missed ≠ []))), (4, 7, r.failed.getD 0 0x7F),
     (11, 7, r.failed.getD 1 0x7F), (18, 3, groupUse c i g)]

/-- Driver codes of the selected lane in the 16 combinations (R104). -/
def State.viewTrunkOwn (s : State) (c : Nat) : Nat :=
  let lane := s.get (COL_TRUNK_SEL_LANE c)
  (upto 16).foldl (fun a i => a + s.ownCode c (i / 4) (i % 4) lane * 4 ^ i) 0

/-- HOLD policy of the selected lane at its receiving end in each combination (R104). -/
def State.viewTrunkHold (s : State) (c : Nat) : Nat :=
  let lane := s.get (COL_TRUNK_SEL_LANE c)
  maskOf 16 (fun i => match s.ownCode c (i / 4) (i % 4) lane with
    | 1 => decide (lane ∈ (s.ownOf (matOf c 1) (i % 4)).2)
    | 2 => decide (lane ∈ (s.ownOf (matOf c 0) (i / 4)).2)
    | _ => false)

/-- COL_CTX_PIN: the pin that COL_CTX_PINSEL selects in the mat's list of owned pins. -/
def State.viewCtxPin (s : State) (c : Nat) : List (Nat × Nat × Nat) :=
  let p := matOf c (s.get (COL_CTX_PINSEL_MAT c))
  match (s.pinsOf (s.logMat p))[s.get (COL_CTX_PINSEL_INDEX c)]? with
  | none => []
  | some v => [(0, 8, if v < 256 then v else v - 256), (8, 1, b2n (decide (v < 256))),
      (16, 4, maskOf 4 (fun k => decide (v ∈ (s.slot p k).charter))), (20, 1, 1)]

/-- Views of a column's registers, by offset in its block. -/
def State.viewCol (s : State) (c o : Nat) : List (Nat × Nat × Nat) :=
  if o = 0x000 ∨ o = 0x080 then
    match s.groupOf (s.logMat (matOf c (o / 0x80))) with
    | some g => [(16, 6, g), (22, 1, 1)]
    | none => []
  else if o = 0x108 then s.viewCtxPin c
  else if o = 0x400 then s.viewRhzStatus c
  else if o = 0x40C then s.viewRhzGrp c
  else if o = 0x428 then [(0, 32, s.viewTrunkOwn c)]
  else if o = 0x42C then
    [(0, 16, s.viewTrunkHold c), (16, 1, b2n (s.flag (laneDis c (s.get (COL_TRUNK_SEL_LANE c)))))]
  else if 0x500 ≤ o ∧ o < 0x620 ∧ o % 0x20 = 0 then
    let b := (o - 0x500) / 0x20
    [(6, 1, b2n ((s.runningTask (fun t => decide (t = .scrub (bankId c b)))).isSome))]
  else []

/-! ### QUE, TAL, PACE (R193, R219, R244) -/

/-- Views of a queue's QUE_CFG and QUE_COUNT. -/
def State.viewQue (s : State) (q o : Nat) : List (Nat × Nat × Nat) :=
  let ep := (16, 4, (s.epochOf q).toNat)
  match o, s.queue q with
  | 0, some x =>
    [(0, 13, x.base), (13, 4, x.sizeLog2), (17, 1, 1), (18, 1, b2n x.packet), (19, 1, b2n (s.queuePacer q).isSome),
     (20, 3, x.prod), (23, 3, x.cons), (26, 1, b2n x.ring.isSome)]
  | 4, some x =>
    [(0, 14, x.count), (14, 1, b2n x.slot.isSome), (15, 1, b2n x.full), ep, (20, 1, b2n x.ue),
     (21, 1, b2n (decide (x.disc ≠ 0)))]
  | 4, none => [ep]
  | _, _ => []

/-- Views of a pacer's registers. -/
def State.viewPace (s : State) (p o : Nat) : List (Nat × Nat × Nat) :=
  if o = 0 then [(3, 1, b2n (s.doneMats p ≠ [])), (16, 10, (s.pacer p).mats.length)]
  else if o = 0x48 then
    match (s.pacer p).anchor with
    | some m => [(0, 10, s.physMat m)]
    | none => []
  else []

/-- Views of the TAL block. -/
def State.viewTal (s : State) (o : Nat) : List (Nat × Nat × Nat) :=
  if o < 0x200 ∧ o % 0x40 = 0 then [(0, 14, s.engineLive (o / 0x40)), (16, 11, s.engineActs (o / 0x40))]
  else if 0x1000 ≤ o ∧ o < 0x3000 ∧ o % 0x80 = 0x18 then
    let t := (o - 0x1000) / 0x80
    [(0, 14, (s.tallies t).length), (15, 1, b2n (s.trackFull t))]
  else []

/-! ### HIF and HDR (R304, R305) -/

/-- The device-side index of a ring: C where the host produces, P elsewhere (R288). -/
def State.devIndex (s : State) (n : Nat) : Nat := if s.hostProduces n then (s.ring n).c else (s.ring n).p

/-- Views of a ring's registers, by offset in its set. -/
def State.viewRing (s : State) (n o : Nat) : List (Nat × Nat × Nat) :=
  if o = 0x1C then [(16, 16, s.devIndex n % 65536)]
  else if o = 0x14 ∧ 64 ≤ n then
    match s.boundQueue n with
    | some q => [(0, 13, q), (13, 1, 1)]
    | none => []
  else []

/-! ### FP and GPIO (R325, R334, R335) -/

/-- GPIO pins of word k in groups whose clock is stopped (R268). -/
def State.gatedPins (s : State) (k : Nat) : Nat :=
  maskOf 32 (fun i => s.gated (GPIO_OWNER (32 * k + i)))

/-! ### PMU and THM (R423, R424) -/

/-- The supply code of I/O supply r (8 to 21): VCCIO groups, then VFP banks. -/
def State.supplyCode (s : State) (r : Nat) : Nat :=
  if r < 14 then s.get ⟨GPIO_SUPPLY, 2 * (r - 8), 2⟩ else s.get ⟨GPIO_SUPPLY, 16 + 2 * (r - 14), 2⟩

/-- Nominal voltage of I/O supply r in mV. -/
def State.supplyMv (s : State) (r : Nat) : Nat :=
  match decide (r < 14), s.supplyCode r with
  | true, 1 => 1800
  | true, 2 => 2500
  | true, 3 => 3300
  | false, 1 => 3300
  | false, 2 => 5000
  | _, _ => 0

/-- Views of the PMU block. -/
def State.viewPmu (s : State) (o : Nat) : List (Nat × Nat × Nat) :=
  let r := s.get PMU_RAIL_SEL_RAIL
  match o with
  | 0x04 => [(8, 22, maskOf 22 (fun i => decide (i < 14) && decide (s.supplyCode (8 + i) ≠ 0)))]
  | 0x14 => if 22 ≤ r then [] else
      [(0, 16, Tab.get nat0 s.pow.mv r), (16, 16, if r < 8 then s.setPoint r else s.supplyMv r)]
  | 0x18 => [(0, 16, Tab.get nat0 s.pow.cur r)]
  | 0x1C => if 8 ≤ r then [(0, 32, 0)] else [(0, 16, s.warnLevel r), (16, 16, resetLevel r)]
  | 0x20 => [(0, 16, Tab.get low0 s.pow.low r)]
  | _ => []

/-- Views of the THM block. -/
def State.viewThm (s : State) (o : Nat) : List (Nat × Nat × Nat) :=
  let layer := s.get THM_SEL_LAYER
  let i := s.get THM_SEL_INDEX
  let x := if i < sensorCount layer then s.sensor (sensorKey layer i) else sensor0 0
  match o with
  | 0x00 => [(4, 10, (s.thm.sensors.filter (fun e => e.2.suspect)).length)]
  | 0x04 => match s.hottest with
    | some (k, v) => [(0, 16, toBits 16 v), (16, 3, k / 256), (19, 8, k % 256)]
    | none => []
  | 0x14 => [(0, 16, x.reading.toNat), (16, 16, x.used.toNat)]
  | 0x18 => [(0, 16, x.est.toNat), (16, 16, x.req.toNat)]
  | 0x1C => [(0, 1, b2n x.suspect), (1, 2, x.level), (3, 1, b2n x.paced)]
  | _ => []

/-! ### MNT and BIST (R477, R495) -/

/-- Activities of the arbiter in a state. -/
def State.actsIn (s : State) (p : ActSt → Bool) : Nat := (s.mnt.acts.filter (fun a => p a.st)).length

/-- MNT_SLOTn.STATE of an activity. -/
def actState : ActSt → Nat
  | .waiting => 1
  | .running => 2
  | .suspended _ => 3

/-- MNT_RESERVEg: eligible reserve mats of each quadrant. -/
def State.viewReserve (s : State) (g : Nat) : List (Nat × Nat × Nat) :=
  (upto 4).map (fun q => (8 * q, 8, (s.reserves g q).length))

/-- Views of the MNT block. -/
def State.viewMnt (s : State) (o : Nat) : List (Nat × Nat × Nat) :=
  if o = 0x00 then
    [(0, 6, s.actsIn (fun x => actState x = 2)), (8, 6, s.actsIn (fun x => actState x = 1)),
     (16, 6, s.actsIn (fun x => actState x = 3)),
     (24, 1, b2n (s.rd MNT_UNPLACED_LO ≠ 0 || s.rd MNT_UNPLACED_HI ≠ 0)), (25, 1, b2n (s.lowQuads ≠ []))]
  else if o = 0x40 then s.viewReserve 0
  else if o = 0x44 then s.viewReserve 1
  else if o = 0x50 then
    [(5, 1, b2n (s.mnt.acts.any (fun a => decide (taskCode a.task = 10) && decide (a.st ≠ .waiting))))]
  else if o = 0x64 then
    let m := s.get MNT_MAP_SEL_MAT
    if 512 ≤ m then [] else
    [(0, 10, s.physMat m), (10, 1, b2n (s.physMat m ≠ m)), (11, 1, b2n (Tab.get bool0 s.mnt.stopped m)),
     (12, 1, b2n (Tab.get bool0 s.mnt.lost m))]
  else if o = 0x6C then
    let b := s.get MNT_BANK_SEL_BANK
    [(0, 11, s.physBank b), (11, 1, b2n (s.physBank b ≠ b))]
  else if 0x100 ≤ o ∧ o < 0x180 then
    match s.mnt.acts.find? (fun a => decide (a.place = (o - 0x100) / 4)) with
    | some a => [(0, 4, taskCode a.task), (4, 3, actState a.st), (7, 3, a.requester), (16, 16, a.resource)]
    | none => []
  else []

/-- Views of the BIST block. -/
def State.viewBist (s : State) (o : Nat) : List (Nat × Nat × Nat) :=
  let u := s.unit (s.get BIST_SEL_KIND) (s.get BIST_SEL_INSTANCE)
  let bench := (u.bench.getD 0).toNat
  match o with
  | 0x00 => [(0, 5, (s.mnt.acts.filter Act.runsSlice).length),
      (8, 12, (s.bist.units.filter (fun e => e.2.suspect)).length)]
  | 0x14 => [(0, 3, u.outcome), (3, 1, b2n u.suspect), (4, 1, b2n u.calKept), (16, 16, u.duration)]
  | 0x18 => [(0, 32, u.sig.toNat)]
  | 0x1C => [(0, 32, u.sig.toNat / 2 ^ 32)]
  | 0x20 => [(0, 32, bench)]
  | 0x24 => [(0, 32, bench / 2 ^ 32)]
  | _ => []

/-! ### SEC, DEV, CLK, CFG, FBK (R195, R376, R400, R496, R508) -/

/-- Views of the SEC block. -/
def State.viewSec (s : State) (o : Nat) : List (Nat × Nat × Nat) :=
  match o with
  | 0x00 => [(4, 4, maskOf 4 (fun k => (Tab.get none0 s.sec.keys k).isSome)),
      (8, 4, maskOf 4 (fun c => (Tab.get none0 s.sec.pwds c).isSome)), (13, 3, s.get DBG_STATUS_LEVEL)]
  | 0x20 => [(0, 5, s.sec.sessions.length)]
  | 0x28 => [(8, 12, s.lockRemain)]
  | _ => []

/-- A router source is pending for a target (R507, R508). -/
def State.pendingFor (s : State) (src t : Nat) : Bool :=
  bitAt (s.get (EVR_ROUTE_CORES src)) t &&
    (if 32 ≤ src ∧ src < 48 then s.flag (GPIO_EXTL_PEND (src - 32))
     else (Tab.get latch0 s.ev.latch src).getLsbD t)

/-- EVR_ROUTEs.PEND: a latch of some target, or the line's PEND, is set. -/
def State.sourcePends (s : State) (src : Nat) : Bool :=
  if 32 ≤ src ∧ src < 48 then s.flag (GPIO_EXTL_PEND (src - 32)) else decide (Tab.get latch0 s.ev.latch src ≠ 0)

/-! ### Registers of a halted core (R503, R521) -/

/-- The event-router target of a core. -/
def coreTarget (n : Nat) : Nat := if n < 4 then n / 2 else n - 2

/-- kclaim: the lowest pending source routed to the core, or NONE. -/
def State.kclaim (s : State) (n : Nat) : Word :=
  match (upto 128).find? (fun src => s.pendingFor src (coreTarget n)) with
  | some src => BitVec.ofNat 64 src
  | none => 0x8000000000000000#64

/-- Watchdog period of a service core in ns (R509, R511). -/
def State.wdPeriod (s : State) (n : Nat) : Nat :=
  match s.progOf n with
  | some p => (if p.wdMs = 0 then 1000 else p.wdMs) * 1000000
  | none => 1000000000

/-- kwdstat: µs left, running, frozen.  The period that Jenulo sets for a steward pair is open (log 6). -/
def State.kwdstat (s : State) (n : Nat) : Nat :=
  let c := s.coreAt n
  let upto_ := if c.wdFrozen then c.haltedAt else s.time
  let gone := (upto_ - c.wdAt).toNat
  let left := if n < 4 then (Config.freeWord s.free).toNat % 100001 else (s.wdPeriod n - gone) / 1000
  let run := c.wdRun && !c.inReset
  (if run then left else 0) + b2n run * 2 ^ 32 + b2n c.wdFrozen * 2 ^ 33

/-- A pin port's read: pins owned and pad levels (R504). -/
def State.pinPortRead (s : State) (n base count : Nat) : Nat :=
  maskOf count (fun i => s.coreOwns n (base + i)) + maskOf count (fun i => s.pinLevel (base + i)) * 2 ^ 32

/-- A register of a core by its DBG_REG_SEL.REG number: x0 to x31, 0x7B1 the pc, else a CSR. -/
def State.coreReg (s : State) (n r : Nat) : Word :=
  let c := s.coreAt n
  if r = 0 then 0
  else if r < 32 then Tab.get word0 c.gpr r
  else if r = 0x7B1 then c.pc
  else if r = 0x7C0 ∨ r = 0x7C3 ∨ r = 0x7C4 then 0
  else if r = 0x7C2 then s.kclaim n
  else if 0x7D0 ≤ r ∧ r < 0x7D6 then BitVec.ofNat 64 (s.pinPortRead n (256 + 16 * (r - 0x7D0)) 16)
  else if 0x7D8 ≤ r ∧ r < 0x7E0 then BitVec.ofNat 64 (s.pinPortRead n (32 * (r - 0x7D8)) 32)
  else if r = 0xFC0 then BitVec.ofNat 64
    (n + 8 * b2n (n < 4) + 16 * b2n (n < 4 && n / 2 = s.get MNT_STEWARD_ACTIVE) + 0xB100)
  else if r = 0xFC1 then BitVec.ofNat 64 (s.kwdstat n)
  else if r = 0xFC3 then s.time
  else s.csr n r

/-- Views of the DBG block. -/
def State.viewDbg (s : State) (o : Nat) : List (Nat × Nat × Nat) :=
  if o = 0x00 then [(8, 8, maskOf 8 (fun n => (s.coreAt n).halted))]
  else if o = 0x24 ∨ o = 0x28 then
    let n := s.get DBG_REG_SEL_CORE
    if (s.coreAt n).halted then
      [(0, 32, (s.coreReg n (s.get DBG_REG_SEL_REG)).toNat / (if o = 0x24 then 1 else 2 ^ 32))]
    else []
  else if 0x60 ≤ o ∧ o < 0x80 then
    let c := s.coreAt ((o - 0x60) / 4)
    [(0, 2, if c.inReset then 3 else if c.halted then 2 else b2n c.deferred), (2, 1, b2n c.deferred)]
  else []

/-! ### A register's value -/

/-- The fields of a register that are views of structured state, by its key. -/
def State.views (s : State) (k : Nat) : List (Nat × Nat × Nat) :=
  if 0x1080000 ≤ k then s.viewRing ((k - 0x1080000) / 0x20) (k % 0x20)
  else if 0x200000 ≤ k ∧ k < 0x300000 then s.viewCol ((k - 0x200000) / 0x1000) (k % 0x1000)
  else if 0x100000 ≤ k ∧ k < 0x120000 then s.viewQue ((k - 0x100000) / 0x10) (k % 0x10)
  else if 0x40000 ≤ k ∧ k < 0x50000 then s.viewTal (k - 0x40000)
  else if 0x30000 ≤ k ∧ k < 0x34000 then s.viewPace ((k - 0x30000) / 0x100) (k % 0x100)
  else if 0x10000 ≤ k ∧ k < 0x18000 then
    let p := (k - 0x10000) / 0x100
    if k % 0x100 = 0x18 ∧ s.get (FP_CFG_MODE p) = 4 then
      let v := (Config.freeWord s.free).toNat
      [(0, 13, v % 8192), (16, 13, v / 8192 % 8192)]
    else []
  else if 0xB000 ≤ k ∧ k < 0xC000 then s.viewMnt (k - 0xB000)
  else if 0xA000 ≤ k ∧ k < 0xA030 then
    [(0, 32, (s.rd k).toNat &&& (2 ^ 32 - 1 - s.gatedPins (k % 0x10 / 4)))]
  else if 0x9000 ≤ k ∧ k < 0xA000 then s.viewBist (k - 0x9000)
  else if 0x8020 ≤ k ∧ k < 0x8040 then [(0, 32, (s.fbkWord ((k - 0x8020) / 4)).toNat)]
  else if 0x7E00 ≤ k ∧ k < 0x7F00 ∧ k % 0x40 = 8 then
    let n := (k - 0x7E00) / 0x40
    if s.flag (CFG_AX_STATUS_EN n) then [(0, 10, s.physMat (Tab.get ax0 s.ctx.ax n).hostMat)] else []
  else if 0x7020 ≤ k ∧ k < 0x7050 ∧ k % 0x10 = 0 then [(1, 1, b2n (s.slotWriting ((k - 0x7020) / 0x10)))]
  else if k = CLK_TIME_LO then [(0, 32, s.time.toNat)]
  else if k = CLK_TIME_HI then [(0, 32, s.time.toNat / 2 ^ 32)]
  else if 0x5000 ≤ k ∧ k < 0x6000 then s.viewThm (k - 0x5000)
  else if 0x4000 ≤ k ∧ k < 0x5000 then s.viewPmu (k - 0x4000)
  else if 0x3000 ≤ k ∧ k < 0x4000 then s.viewDbg (k - 0x3000)
  else if 0x2000 ≤ k ∧ k < 0x3000 then s.viewSec (k - 0x2000)
  else if 0x1800 ≤ k ∧ k < 0x2000 then s.viewRing ((k - 0x1800) / 0x20) (k % 0x20)
  else if 0x400 ≤ k ∧ k < 0x600 then [(15, 1, b2n (s.sourcePends ((k - 0x400) / 4)))]
  else []

/-- The value of a register; WO fields read as 0 (R8). -/
def State.view (s : State) (k : Nat) : Reg :=
  match regClass k with
  | none => 0
  | some c => putFlds (s.rd k) (s.views k) &&& ~~~BitVec.ofNat 32 c.wo

/-! ### Reads with their side effects -/

/-- Low words of the 64-bit registers that are read per R38. -/
def isLowWord (k : Nat) : Bool :=
  decide (k = CLK_TIME_LO ∨ k = SEC_SERIAL_LO ∨ k = BIST_SIG_LO ∨ k = BIST_BENCH_LO) ||
  (decide (0x30000 ≤ k ∧ k < 0x34000) && decide (k % 0x100 = 0x10 ∨ k % 0x100 = 0x18 ∨ (0x80 ≤ k % 0x100 ∧ k % 8 = 0))) ||
  (decide (0x41000 ≤ k ∧ k < 0x43000) && decide (k % 0x80 = 0x08)) ||
  (decide (0x10000 ≤ k ∧ k < 0x18000) && decide (k % 0x100 = 0x20))

/-- The high word of a 64-bit register that is read per R38. -/
def isHighWord (k : Nat) : Bool := decide (4 ≤ k) && isLowWord (k - 4)

/-- Registers with an RC field: PACE_SLACK_MIN, PMU_RAIL_MIN and PMU_POWER. -/
def isRC (k : Nat) : Bool :=
  decide (k = PMU_RAIL_MIN ∨ k = PMU_POWER) || (decide (0x30000 ≤ k ∧ k < 0x34000) && decide (k % 0x100 = 0x30))

/-- What an RC read clears: the field returns to its reset value (R8). -/
def State.rcClear (s : State) (k : Nat) : State :=
  if k = PMU_RAIL_MIN then
    { s with pow := { s.pow with low := Tab.put low0 s.pow.low (s.get PMU_RAIL_SEL_RAIL) 0xFFFF } }
  else if k = PMU_POWER then s.set PMU_POWER_PEAK 0
  else s.wr k (regReset k)

/-- A 64-bit register's low word is read: its high word goes to the requester's latch (R38). -/
def State.latchHigh (s : State) (req : Requester) (k : Nat) : State :=
  { s with host := { s.host with latch := Tab.put reg0 s.host.latch (reqNo req) (s.view (k + 4)) } }

/-- A register whose value is drawn afresh at each read, the voltages in SENSE mode: the free value is used up (log 6). -/
def State.drawn (s : State) (k : Nat) : State :=
  if 0x10000 ≤ k ∧ k < 0x18000 ∧ k % 0x100 = 0x18 ∧ s.get (FP_CFG_MODE ((k - 0x10000) / 0x100)) = 4 then s.fresh.2 else s

/-- A 4-byte register read: its value, and what the read does. A debug peek leaves the latches of R38 as its only
effect (R8, R38, R423, R496, R520). -/
def State.readReg (s : State) (req : Requester) (peek : Bool) (k : Nat) : Reg × State :=
  if isHighWord k then (Tab.get reg0 s.host.latch (reqNo req), s)
  else
    let v := s.view k
    let s := s.drawn k
    if isLowWord k then (v, s.latchHigh req k)
    else if peek then (v, s)
    else if isRC k then (v, s.rcClear k)
    else if k = FBK_RD_DATA 7 then (v, s.set FBK_RD_SEL_INDEX (s.get FBK_RD_SEL_INDEX + 1))
    else if k = PMU_STATUS then (v, s.setFlag PMU_STATUS_FB_HELD false)
    else (v, s)

/-- An aligned 8-byte read of two registers at one instant; it leaves the latch of R38 as it is (R38, R42). -/
def State.readReg8 (s : State) (req : Requester) (peek : Bool) (k : Nat) : Word × State :=
  if isLowWord k then ((s.view k).setWidth 64 ||| ((s.view (k + 4)).setWidth 64 <<< 32), s)
  else
    match s.readReg req peek k with
    | (lo, s) => match s.readReg req peek (k + 4) with
      | (hi, s) => (lo.setWidth 64 ||| (hi.setWidth 64 <<< 32), s)

end Sys2Proof.Machine
end

