-- ==== Sys2Proof/Machine/RegRows.lean ====
section
/-! DEFINITION.  The register accesses that have no row of their own, counter clears, RC and low-word reads, and bad or
gated accesses (R8, R33, R38, R42, R266). -/

namespace Sys2Proof.Machine

open Sys2Proof

/-- The next state of an outcome, or the state itself where it is none. -/
def nextOr (s : State) : Host.Outcome State Fault Refusal → State
  | .next t => t
  | _ => s

/-! ### What a write does -/

/-- Highest RATE_KBPS of a port's mode, halved under Manchester (R308, R309); none where the mode has no serialiser. -/
def State.maxRate (s : State) (p : Nat) : Option Nat :=
  let half := if s.get (FP_CFG_CODE p) = 1 then 2 else 1
  match s.get (FP_CFG_MODE p) with
  | 0 | 1 => some (50000 / half)
  | 2 => some (1250000 / half)
  | _ => none

/-- A write of FP_RATE: a rate above the mode's highest is ignored (R309). -/
def State.writeRate (s : State) (p : Nat) (v : Reg) : State :=
  match s.maxRate p with
  | some top => if top < fldGet v 0 21 then s.setFlag (FP_STATUS_REFUSED p) true else s.plainWrite (FP_RATE p) v
  | none => s.plainWrite (FP_RATE p) v

/-- A write of XL_OWNER: KIND 3 is read only; a lane whose mode does not fit its new owner is left with EN 0 (R340,
R341, R351). -/
def State.writeXlOwner (s : State) (x : Nat) (v : Reg) : State :=
  if s.get (XL_OWNER_KIND x) = 3 ∨ fldGet v 0 2 = 3 then s
  else
    let s := s.plainWrite (XL_OWNER x) v
    let kind := s.get (XL_OWNER_KIND x)
    if s.flag (XL_CFG_EN x) ∧ (laneModeOk (s.get (XL_CFG_CODE x)) (s.get (XL_CFG_RATE x)) kind = false ∨
        (kind = 2 ∧ s.laneQueuesOk x = false)) then s.stopLane x (s.rd (XL_CFG x)) 2
    else s

/-- A write of GPIO_OUT or GPIO_OE: bits of gated groups stay; the pins follow (R268, R335). -/
def State.writeGpioBits (s : State) (k : Nat) (v : Reg) : State :=
  let w := k % 0x10 / 4
  let keep := BitVec.ofNat 32 (s.gatedPins w)
  (s.wr k ((v &&& ~~~keep) ||| (s.rd k &&& keep))).settlePins ((upto 32).map (fun i => 256 + 32 * w + i))

/-- A write of an EVR_ROUTEs: a service core changes only its own CORES bit (R508). -/
def State.writeRoute (s : State) (req : Requester) (k : Nat) (v : Reg) : State :=
  match req with
  | .service c => s.setBit k (2 + c.val) (v.getLsbD (2 + c.val))
  | _ => s.plainWrite k v

/-- A write of QUE_COUNT clears UE where it holds 1 (R219). -/
def State.writeQueCount (s : State) (q : Nat) (v : Reg) : State :=
  match s.queue q with
  | some x => if v.getLsbD 20 then s.setQueue q (some { x with ue := false }) else s
  | none => s

/-- A key names BASE or MIRROR of a ring that is enabled: writes are ignored (R290). -/
def State.ringHeld (s : State) (k : Nat) : Bool :=
  if 0x1800 ≤ k ∧ k < 0x2000 then decide (k % 0x20 < 0x10) && s.flag (ringEN ((k - 0x1800) / 0x20))
  else if 0x1080000 ≤ k then decide (k % 0x20 < 0x10) && s.flag (ringEN ((k - 0x1080000) / 0x20))
  else false

/-- What a performed write does to a register without a row of its own (R8, R33 and the register's own rule). -/
def State.writeReg (s : State) (req : Requester) (k : Nat) (v : Reg) : State :=
  if (satOf k).isSome then s.countClear k
  else if 0x400 ≤ k ∧ k < 0x600 then s.writeRoute req k v
  else if 0xA010 ≤ k ∧ k < 0xA030 then s.writeGpioBits k v
  else if 0xA300 ≤ k ∧ k < 0xA340 then s.writeExtl ((k - 0xA300) / 4) v
  else if 0x10000 ≤ k ∧ k < 0x18000 ∧ k % 0x100 = 0x0C then s.writeRate ((k - 0x10000) / 0x100) v
  else if 0x1C000 ≤ k ∧ k < 0x24000 ∧ k % 0x400 = 4 then s.writeXlOwner ((k - 0x1C000) / 0x400) v
  else if 0x100000 ≤ k ∧ k < 0x120000 ∧ k % 0x10 = 4 then s.writeQueCount ((k - 0x100000) / 0x10) v
  else if s.ringHeld k then s
  else s.plainWrite k v

/-! ### Registers with rows of their own -/

/-- A write of a ring's CFG (R290). -/
def State.writeRingCfg (s : State) (n : Nat) (v : Reg) : State :=
  nextOr s (if v.getLsbD 0 then execRingEnable (Fin.ofNat 1024 n) v s else execRingDisable (Fin.ofNat 1024 n) v s)

/-- A write of DEV_RESET_REQ by its KIND (R439). -/
def State.writeResetReq (s : State) (req : Requester) (v : Reg) : State :=
  match fldGet v 0 2 with
  | 1 => nextOr s (execDeviceWarmReset req v s)
  | 2 => nextOr s (execSwapGroupFabricReset req v s)
  | 3 => nextOr s (execCoreReset req v s)
  | _ => s

/-- A write of a register in CLK that has a row (R254 to R269). -/
def State.ownClk (s : State) (req : Requester) (k : Nat) (v : Reg) : Option State :=
  if k = CLK_DIV then some (nextOr s (execClkDivWrite req false v s))
  else if k = CLK_FDIV then some (nextOr s (execClkDivWrite req true v s))
  else if 0x6050 ≤ k ∧ k < 0x6060 then some (nextOr s (execOpEntryWrite req (Fin.ofNat 4 ((k - 0x6050) / 4)) v s))
  else if k = CLK_OP_CTL then some (nextOr s (execOpRequest req v s))
  else if k = CLK_EN0 then some (nextOr s (execClkEnWrite req false v s))
  else if k = CLK_EN1 then some (nextOr s (execClkEnWrite req true v s))
  else if k = CLK_GRP then some (nextOr s (execClkGrpWrite req v s))
  else if 0x6100 ≤ k ∧ k < 0x6200 ∧ k % 8 = 0 then
    some (nextOr s (execTreeSourceSwitch req (Fin.ofNat 32 ((k - 0x6100) / 8)) v s))
  else if k = CLK_TIME_ADJ then some (nextOr s (execTimeAdjWrite req v s))
  else none

/-- What a write does where the register has a row of its own: that row's effect (log entry). -/
def State.ownRow (s : State) (req : Requester) (k : Nat) (v : Reg) : Option State :=
  if 0x6000 ≤ k ∧ k < 0x7000 then s.ownClk req k v
  else if k = HIF_HEARTBEAT then some (s.regWrite req k (fun s => nextOr s (execHeartbeatWrite v s)))
  else if k = HIF_HB_CTL then some (s.regWrite req k (fun s => nextOr s (execHeartbeatEnable v s)))
  else if 0x1800 ≤ k ∧ k < 0x2000 ∧ k % 0x20 = 0x10 then
    some (s.regWrite req k (fun s => s.writeRingCfg ((k - 0x1800) / 0x20) v))
  else if 0x1080800 ≤ k ∧ k < 0x1088000 ∧ k % 0x20 = 0x10 then
    some (s.regWrite req k (fun s => s.writeRingCfg ((k - 0x1080000) / 0x20) v))
  else if 0x100000 ≤ k ∧ k < 0x120000 ∧ k % 0x10 = 4 ∧ fldGet v 30 2 = 1 then
    let q := (k - 0x100000) / 0x10
    some (nextOr s (execQuePktOpen req (Fin.ofNat 8192 q) (s.writeQueCount q v)))
  else if 0x100000 ≤ k ∧ k < 0x120000 ∧ k % 0x10 = 4 ∧ fldGet v 30 2 = 2 then
    let q := (k - 0x100000) / 0x10
    some (nextOr s (execQuePktClose req (Fin.ofNat 8192 q) (s.writeQueCount q v)))
  else if k = TAL_STIM then some (nextOr s (execTalStimWrite req v s))
  else if 0x10000 ≤ k ∧ k < 0x18000 ∧ k % 0x100 = 0 then
    some (nextOr s (execFunctionSwitch req (.cfg (Fin.ofNat 128 ((k - 0x10000) / 0x100))) v s))
  else if 0x10000 ≤ k ∧ k < 0x18000 ∧ k % 0x100 = 4 then
    some (nextOr s (execFunctionSwitch req (.owner (Fin.ofNat 128 ((k - 0x10000) / 0x100))) v s))
  else if 0x10000 ≤ k ∧ k < 0x18000 ∧ k % 0x100 = 0x14 then
    some (nextOr s (execFpRetry req (Fin.ofNat 128 ((k - 0x10000) / 0x100)) v s))
  else if 0xA100 ≤ k ∧ k < 0xA280 then
    some (nextOr s (execFunctionSwitch req (.gpio (Fin.ofNat 96 ((k - 0xA100) / 4))) v s))
  else if 0x1C000 ≤ k ∧ k < 0x24000 ∧ k % 0x400 = 0 then
    some (nextOr s (execLaneEnable req (Fin.ofNat 32 ((k - 0x1C000) / 0x400)) v s))
  else if 0x1C000 ≤ k ∧ k < 0x24000 ∧ k % 0x1000 = 0x200 then
    some (nextOr s (execTetherEnable req (Fin.ofNat 8 ((k - 0x1C000) / 0x1000)) v s))
  else if k = DEV_RESET_REQ then some (s.writeResetReq req v)
  else none

/-- A 4-byte write of any register of PF0 BAR0 or PF1 BAR0 by a requester. Debug registers are written by the debug
port only (R527); a reserved offset is a bad access or a bus error (R42); HDR is the host's (R305). -/
def State.writeAny (s : State) (req : Requester) (k : Nat) (v : Reg) : State :=
  if s.dev.off then s
  else if (regClass k).isNone ∨ (0x3000 ≤ k ∧ k < 0x4000 ∧ req ≠ .debug) ∨ (0x1000000 ≤ k ∧ req ≠ .host) then
    match req with
    | .host => if k < 0x1000000 then s.badAccess k 4 true else s
    | .debug => s.emit .debugRefused
    | r => s.coreBusError r
  else if 0x100000 ≤ k ∧ k < 0x120000 ∧ 8 ≤ k % 0x10 then
    nextOr s (execQueDataWrite req (Fin.ofNat 8192 ((k - 0x100000) / 0x10)) (if k % 0x10 = 8 then .lo else .hi)
      (v.setWidth 64) s)
  else match s.ownRow req k v with
    | some t => t
    | none => s.regWrite req k (fun s => s.writeReg req k v)

/-- REGISTER_WRITE (R8). -/
def execRegisterWrite (req : Requester) (offset : BitVec 32) (value : Reg) (s : State) :
    Host.Outcome State Fault Refusal :=
  .next (s.writeAny req offset.toNat value)

/-- COUNTER_CLEAR (R33): any write to a statistics counter. -/
def execCounterClear (req : Requester) (offset : BitVec 32) (s : State) : Host.Outcome State Fault Refusal :=
  if (satOf offset.toNat).isNone then .next s
  else .next (s.regWrite req offset.toNat (fun s => s.countClear offset.toNat))

/-! ### Reads -/

/-- A register read whose value goes to the requester. The debug port peeks while SIDE is 0 (R520). -/
def State.readAnswer (s : State) (req : Requester) (k : Nat) : State :=
  s.regAccess req k 4 false (fun s =>
    let peek := decide (req = .debug) && !s.flag DBG_ACCESS_SIDE
    match s.readReg req peek k with
    | (v, s) => s.emit (.answer req (v.setWidth 64)))

/-- RC_READ (R8, R33). -/
def execRcRead (req : Requester) (offset : BitVec 32) (s : State) : Host.Outcome State Fault Refusal :=
  .next (if isRC offset.toNat then s.readAnswer req offset.toNat else s)

/-- LOW_WORD_READ (R38). -/
def execLowWordRead (req : Requester) (offset : BitVec 32) (s : State) : Host.Outcome State Fault Refusal :=
  .next (if isLowWord offset.toNat then s.readAnswer req offset.toNat else s)

/-! ### Bad and gated accesses (R42, R266) -/

/-- The host's access to a 4-byte register is performed: it is no reserved offset and no register that refuses the
host (R42, R203, R239, R527). -/
def hostPerforms (k : Nat) (write : Bool) : Bool :=
  decide (k < 0x800000) && (regClass k).isSome && !decide (0x100000 ≤ k ∧ k < 0x120000 ∧ 8 ≤ k % 0x10) &&
    !(write && decide (k = TAL_STIM ∨ (0x3000 ≤ k ∧ k < 0x4000)))

/-- The performed half of an 8-byte access; a read of a gated block returns 0xFF in every byte. -/
def State.hostHalf (s : State) (k : Nat) (write : Bool) (v : Reg) : Reg × State :=
  if hostPerforms k write = false then (0, s)
  else if write then (0, s.writeAny .host k v)
  else if s.gated k then (0xFFFFFFFF#32, s.noteGated k 4 false)
  else s.readReg .host false k

/-- A bad access of the host. -/
def State.hostBadAccess (s : State) (k n : Nat) (write : Bool) (data : Word) : State :=
  let answer (s : State) (v : Word) : State := if write then s else s.emit (.answer .host v)
  if (n = 4 ∨ n = 8) ∧ k % n = 0 then
    if hostPerforms k write && (n = 4 || hostPerforms (k + 4) write) then s
    else if n = 4 then answer (s.badAccess k 4 write) 0
    else if s.lockedOut .host k then s
    else
      match s.hostHalf k write (data.setWidth 32) with
      | (lo, s) => match s.hostHalf (k + 4) write ((data >>> 32).setWidth 32) with
        | (hi, s) => answer (s.badAccess k 8 write) (lo.setWidth 64 ||| (hi.setWidth 64 <<< 32))
  else answer (s.badAccess k n write) 0

/-- A control core's access is bad: another size or alignment, or a byte of it on a reserved offset (R42). -/
def coreAccessBad (k n : Nat) : Bool :=
  !((decide (n = 4 ∨ n = 8) && decide (k % n = 0)) && (regClass k).isSome && (n = 4 || (regClass (k + 4)).isSome))

/-- BAD_ACCESS (R42, R203): a host access of a wrong size or alignment is ignored, or reads 0; an aligned access of
which a half is not performed is performed in the other half. A held host access comes again (R506).  A bad access of a
control core ends with a bus error. -/
def execBadAccess (req : Requester) (offset : BitVec 32) (size : Byte) (write : Bool) (data : Word) (s : State) :
    Host.Outcome State Fault Refusal :=
  let k := offset.toNat
  let n := size.toNat
  .next (
    if s.dev.off then s
    else match req with
      | .host => s.hostBadAccess k n write data
      | .debug => s
      | r => if coreAccessBad k n then s.coreBusError r else s)

/-- GATED_ACCESS (R266, R268). -/
def execGatedAccess (req : Requester) (offset : BitVec 32) (size : Byte) (write : Bool) (s : State) :
    Host.Outcome State Fault Refusal :=
  .next (if s.dev.off ∨ s.gated offset.toNat = false then s else s.gatedAccess req offset.toNat size.toNat write)

end Sys2Proof.Machine
end

