-- ==== Sys2Proof/Machine/Cores.lean ====
section
/-! DEFINITION.  Control-core rows: watchdogs, faults, program loads, the device-specific CSRs that act, PBUS_LOCK and
the bus timeout (R499 to R512). -/

namespace Sys2Proof.Machine

open Sys2Proof

/-- The core that stands for a core in locks and waits: the first of its pair for a steward core, since a pair counts
as one requester (R499). -/
def leader (n : Nat) : Nat := if n < 4 then n / 2 * 2 else n

/-- The cores that act as one with a core. -/
def members (n : Nat) : List Nat := if n < 4 then [n / 2 * 2, n / 2 * 2 + 1] else [n]

/-- The core executes instructions: it is neither in core reset nor halted. -/
def State.coreRuns (s : State) (n : Nat) : Bool := !(s.coreAt n).inReset && !(s.coreAt n).halted

/-- The registers of a core as given. -/
def State.loadRegs (s : State) (n : Nat) (r : CoreRegs) : State :=
  let gpr : Tab Word := ((upto 31).zip r.gpr).foldl (fun (t : Tab Word) e => Tab.put word0 t (e.1 + 1) e.2) []
  s.setCore n { s.coreAt n with pc := r.pc, gpr := gpr }

/-- Registers that nothing is known of: free values (log 6). -/
def State.freeRegs (s : State) : State × CoreRegs :=
  match s.freshN 32 with
  | (s, pc :: gpr) => (s, { pc := pc, gpr := gpr })
  | (s, []) => (s, { pc := 0, gpr := [] })

/-! ### Watchdogs and faults (R499, R511, R512) -/

/-- A service core's TCM is 0 and it has no program (R512, as step 2 of R395). -/
def State.wipeCore (s : State) (n : Nat) : State :=
  let s := s.setCore n { s.coreAt n with program := false, measure := 0, loadDue := false }
  let c := s.core
  { s with core := { c with tcm := Tab.keep (fun k => decide (k / 262144 ≠ n)) c.tcm } }

/-- A fault of a steward pair, named by a core: a failover where the pair is active; its duration is a free value
(R464, R465). -/
def State.pairFault (s : State) (n cause : Nat) : State :=
  if n / 2 ≠ s.get MNT_STEWARD_ACTIVE then s
  else match s.fresh with
    | (v, s) => s.stewardFault cause (v.toNat % 51)

/-- CORE_WATCHDOG (R511, R464, R489): WD_MS has passed since the watchdog was last restarted.  The period that Jenulo sets
for a steward pair is open (log entry 6). -/
def execCoreWatchdog (core : CoreId) (s : State) : Host.Outcome State Fault Refusal :=
  let n := core.val
  let c := s.coreAt n
  if c.inReset ∨ c.wdRun = false ∨ c.wdFrozen ∨ (4 ≤ n ∧ s.elapsed c.wdAt (s.wdPeriod n) = false) then .next s
  else if n < 4 then
    .next ((s.raiseTrig 0x9201 (srcCore n) 2 [(18, 1, n), (19, 1, 1)]).pairFault n 1)
  else .next ((s.holdCore n (some 1)).raiseTrig 0x9201 (srcCore n) 2 [(18, 1, n), (19, 1, 0)])

/-- CORE_FAULT (R512): an uncorrectable error that a core reads in its TCM, or in the shared SRAM. -/
def execCoreFault (core : CoreId) (sram : Bool) (s : State) : Host.Outcome State Fault Refusal :=
  let n := core.val
  if s.coreRuns n = false then .next s
  else if sram then
    .next ((s.coreBusError (coreRequester n)).raise 0x9202 (srcCore n) [(18, 1, n), (19, 1, 1)])
  else if n < 4 then .next (s.pairFault n 2)
  else .next (((s.holdCore n none).wipeCore n).raise 0x9202 (srcCore n) [(18, 1, n), (19, 1, 0)])

/-! ### Program loads (R509, R510) -/

/-- SRAM share of a service core: first byte, by index in the shared SRAM, and length. -/
def State.shareOf (s : State) (n : Nat) : Nat × Nat :=
  let size (m : Nat) : Nat := match s.progOf m with
    | some p => p.sramKib * 1024
    | none => 0
  (((upto (n - 4)).foldl (fun a i => a + size (4 + i)) 0x400000), size n)

/-- PROGRAM_LOAD (R510): `code` are the bytes of the program in NV; `pass`: the SHA-512 of the TCM copy is the entry's. -/
def execProgramLoad (core : Fin 4) (code : List Byte) (pass : Bool) (s : State) : Host.Outcome State Fault Refusal :=
  let n := core.val + 4
  let c := s.coreAt n
  match s.progOf n with
  | none => .next s
  | some p =>
    if c.loadDue = false ∨ c.inReset = false ∨ s.coreClocked n = false then .next s
    else
      let s := s.wipeCore n
      let (base, len) := s.shareOf n
      let k := s.core
      let s := { s with core := { k with sram := Tab.keep (fun a => decide (¬ (base ≤ a ∧ a < base + len))) k.sram } }
      if pass then
        let k := s.core
        let s := { s with core := { k with tcm := putBytes k.tcm (n * 262144) (code.take (min p.length 262144)) } }
        .next ((s.setCore n { s.coreAt n with measure := p.sha }).startCore n p.entry)
      else .next (s.raise 0x9202 (srcCore n) [(18, 1, n), (19, 1, 2)])

/-! ### CSRs that act (R503, R507, R508, R511) -/

/-- A write of kwdkick; no effect on steward cores. -/
def State.kick (s : State) (n : Nat) : State :=
  if n < 4 then s else s.setCore n { s.coreAt n with wdAt := s.time }

/-- A write of kack: the core's latch of a source is cleared; sources 32 to 47 have none. -/
def State.ack (s : State) (n : Nat) (v : Word) : State :=
  let src := bitsAt v.toNat 0 10
  if 32 ≤ src ∧ src < 48 then s
  else
    let l := Tab.get latch0 s.ev.latch src &&& ~~~(1#6 <<< coreTarget n)
    { s with ev := { s.ev with latch := Tab.put latch0 s.ev.latch src l } }

/-- A write of kdoorbell raises the source of the target named. -/
def State.doorbell (s : State) (v : Word) : State :=
  let t := bitsAt v.toNat 0 3
  if t < 6 then s.assertSource (48 + t) else s

/-- KWDKICK_WRITE (R503, R511). -/
def execKwdkickWrite (core : CoreId) (s : State) : Host.Outcome State Fault Refusal :=
  .next (if s.coreRuns core.val then s.kick core.val else s)

/-- KACK_WRITE (R503, R508). -/
def execKackWrite (core : CoreId) (value : Word) (s : State) : Host.Outcome State Fault Refusal :=
  .next (if s.coreRuns core.val then s.ack core.val value else s)

/-- KDOORBELL_WRITE (R503, R507). -/
def execKdoorbellWrite (core : CoreId) (value : Word) (s : State) : Host.Outcome State Fault Refusal :=
  .next (if s.coreRuns core.val then s.doorbell value else s)

/-! ### PBUS_LOCK (R506) -/

/-- Bits of kpbuslock of a core and its partner: HELD and BROKEN. -/
def State.setLockCsr (s : State) (n : Nat) (held : Bool) (broken : Bool) : State :=
  (members n).foldl (fun s m =>
    let was := (s.csr m 0x7C8).toNat
    s.setCsr m 0x7C8 (BitVec.ofNat 64 (b2n held + 2 * b2n (broken || bitAt was 1)))) s

/-- A core takes the lock, or waits for it. -/
def execPbusLockTake (core : CoreId) (s : State) : Host.Outcome State Fault Refusal :=
  let n := leader core.val
  if s.coreRuns core.val = false then .next s
  else match s.core.lock with
    | none =>
      let k := s.core
      let s := { s with core := { k with lock := some n, lockAt := s.time } }
      .next ((s.coreWaits (coreRequester n) none).setLockCsr n true false)
    | some c => if c = n then .next s else .next (s.coreWaits (coreRequester n) (some .lock))

/-- The lock leaves its holder; `broken` where it was taken away. -/
def State.freeLock (s : State) (n : Nat) (broken : Bool) : State := (s.dropLock n).setLockCsr n false broken

/-- Deferred halts of a core and its partner that no reservation holds back any longer (R522). -/
def State.deferredHalts (s : State) (n : Nat) (regs : CoreRegs) : State :=
  (members n).foldl (fun s m =>
    let c := s.coreAt m
    if c.deferred ∧ c.resv = false then (s.loadRegs m regs).haltCore m (c.haltReq.getD 0) false else s) s

/-- PBUS_LOCK_RELEASE (R506, R522): `reserved`: the core still holds a reservation; `regs`: its registers if it halts.  A
core that does not hold the lock releases nothing; its halt takes effect where its reservation has ended. -/
def execPbusLockRelease (core : CoreId) (reserved : Bool) (regs : CoreRegs) (s : State) :
    Host.Outcome State Fault Refusal :=
  let n := leader core.val
  let s := if s.core.lock = some n then s.freeLock n false else s
  let s := (members n).foldl (fun s m => s.setCore m { s.coreAt m with resv := reserved }) s
  .next (s.deferredHalts n regs)

/-- PBUS_LOCK_EXPIRY (R506): a lock held for 4,096 core cycles. -/
def execPbusLockExpiry (s : State) : Host.Outcome State Fault Refusal :=
  match s.core.lock with
  | none => .next s
  | some n =>
    if s.elapsed s.core.lockAt (s.coreCycles 4096) = false then .next s
    else
    let s := s.freeLock n true
    if (members n).any (fun m => (s.coreAt m).deferred && !(s.coreAt m).resv) then
      match s.freeRegs with
      | (s, regs) => .next (s.deferredHalts n regs)
    else .next s

/-- kbusto in ns: 1 µs to 1,000,000 µs, 0 acts as 1 (R502, R503). -/
def State.busLimit (s : State) (n : Nat) : Nat := max 1 (min (s.csr n 0x7C1).toNat 1000000) * 1000

/-- BUS_TIMEOUT (R502): an access that has waited for kbusto ends as a bus error; while device time stands still the core's
own clock counts. -/
def execBusTimeout (core : CoreId) (s : State) : Host.Outcome State Fault Refusal :=
  let n := leader core.val
  match (s.coreAt n).wait with
  | none => .next s
  | some _ =>
    if s.elapsed (s.coreAt n).waitAt (s.busLimit n) = false then .next s
    else
    let r := coreRequester n
    .next ((s.coreWaits r none).coreBusError r)

end Sys2Proof.Machine
end

