-- ==== Sys2Proof/Machine/DebugOps.lean ====
section
/-! DEFINITION.  The debug port's shared operations: levels, halting and resuming, and access to the debug address
space (R514 to R525). -/

namespace Sys2Proof.Machine

open Sys2Proof

/-! ### Levels (R515 to R518) -/

/-- The level in force. -/
def State.dbgLevel (s : State) : Nat := s.get DBG_STATUS_LEVEL

/-- A level opens: FREEZE is set for every core. Methods: 0 password, 1 key, 2 vendor, 3 none. -/
def State.openDebug (s : State) (level method : Nat) : State :=
  let s := (s.set DBG_STATUS_LEVEL level).setFlag DBG_STATUS_VENDOR (decide (method = 2))
  let s := (upto 8).foldl (fun s n => s.setBit (DBG_CORE_CTL n) 3 true) s
  s.raise 0x5203 srcDbg [(18, 1, level), (19, 1, method), (20, 1, s.get SEC_LIFE_STATE)]

/-- A halted core runs again; a frozen watchdog restarts with its full period (R523). -/
def State.resumeCore (s : State) (n : Nat) : State :=
  let c := s.coreAt n
  if c.halted = false then s
  else
    let us := satBits 32 ((s.time - c.haltedAt).toNat / 1000)
    let at_ := if c.wdFrozen then s.time else c.wdAt
    let s := s.setCore n { c with halted := false, wdFrozen := false, wdAt := at_ }
    s.raise 0x1207 (srcCore n) [(18, 1, n), (19, 4, us), (23, 1, b2n (s.bit (DBG_CORE_CTL n) 3))]

/-- The level closes: cause 0 OP 4, 1 idle (R518). -/
def State.closeDebug (s : State) (cause : Nat) : State :=
  let level := s.dbgLevel
  if level = 0 then s
  else
    let s := (s.resetRegs (fun k => decide (0x3200 ≤ k ∧ k < 0x3400))).setFlag DBG_ACCESS_SIDE false
    let s := (upto 8).foldl (fun s n =>
      let s := s.resumeCore n
      (s.setCore n { s.coreAt n with haltReq := none, deferred := false }).setBit (DBG_CORE_CTL n) 3 true) s
    let s := (s.set DBG_STATUS_LEVEL 0).setFlag DBG_STATUS_VENDOR false
    s.raise 0x1204 srcDbg [(18, 1, level), (19, 1, cause)]

/-- An erasure or another request runs: requests are answered with BUSY (R516). -/
def State.authBusy (s : State) : Bool :=
  s.flag SEC_ERASED_ERASING || s.dbg.pendingErase.isSome || s.flag DBG_AUTH_STATUS_BUSY

/-- A request of a level ends: its status, and DBG_AUTH_DATA is cleared; a failure is reported (R516). -/
def State.authEnds (s : State) (method level status : Nat) : State :=
  let s := (s.set DBG_AUTH_STATUS_STATUS status).resetRegs (fun k => decide (0x3800 ≤ k ∧ k < 0x4000))
  if status = stOK ∨ status = stBUSY then s
  else s.raise 0x5205 srcDbg [(18, 1, method), (19, 1, level), (20, 1, status)]

/-- The level asked for may be opened in the present state: 1 or 2, not 2 in RETIRED, and not 2 in DEPLOYED with the
debug-open counter at 255 (R383, R515). -/
def State.levelAllowed (s : State) (level : Nat) : Bool :=
  let life := s.get SEC_LIFE_STATE
  decide (level = 1 ∨ level = 2) && !decide (level = 2 ∧ life = 4) &&
    !decide (level = 2 ∧ life = 2 ∧ s.get SEC_LIFE_DEBUG_OPENS = 255)

/-- An accepted credential opens the level; level 2 in DEPLOYED erases the user secrets first (R517). -/
def State.authPasses (s : State) (method level : Nat) : State :=
  if level = 2 ∧ s.get SEC_LIFE_STATE = 2 then
    let s := { s with dbg := { s.dbg with pendingErase := some method } }
    let s := s.resetRegs (fun k => decide (0x3800 ≤ k ∧ k < 0x4000))
    ((s.set DBG_AUTH_STATUS_STATUS stBUSY).setFlag DBG_AUTH_STATUS_BUSY true).eraseSecrets 1
  else (s.openDebug level method).authEnds method level stOK

/-- Session class that a level needs: MAINTAIN or ADMIN (R515). -/
def levelClass (level : Nat) : Nat := if level = 1 then 2 else 3

/-- OP 1: a fresh challenge of 64 bytes in DBG_CHALLENGEk. -/
def State.authChallenge (s : State) : State :=
  if s.authBusy then s.authEnds 1 0 stBUSY
  else
    let s := (upto 8).foldl (fun s i =>
      match s.fresh with
      | (v, s) => s.wr64 (DBG_CHALLENGE (2 * i)) (DBG_CHALLENGE (2 * i + 1)) v) s
    let s := { s with dbg := { s.dbg with challengeAt := some s.time } }
    s.authEnds 1 0 stOK

/-- The first n bytes of DBG_AUTH_DATA. -/
def State.authBytes (s : State) (n : Nat) : List Byte :=
  (upto n).map (fun i => BitVec.ofNat 8 (bitsAt (s.rd (DBG_AUTH_DATA (i / 4))).toNat (8 * (i % 4)) 8))

/-- OP 2: a password (R390, R391). -/
def State.authPassword (s : State) (v : Reg) : State :=
  let level := fldGet v 3 2
  let len := fldGet v 5 6
  if s.authBusy then s.authEnds 0 level stBUSY
  else if s.levelAllowed level = false ∨ s.lockedNow ∨ len < 8 ∨ 48 < len then s.authEnds 0 level stREFUSED
  else match s.tryPassword (levelClass level) (s.authBytes len) with
    | (s, st) => if st = stOK then s.authPasses 0 level else s.authEnds 0 level st

/-- A response by the vendor method (R516). -/
def State.vendorOk (s : State) (r : KeyResp) : Bool :=
  r.reservedZero && r.proofOk && decide (r.holder = s.sec.vendor)

/-- OP 3: a key response; the challenge is spent (R392, R516). -/
def State.authKey (s : State) (v : Reg) (r : KeyResp) : State :=
  let level := fldGet v 3 2
  let vendor := decide (r.flags = 2#8)
  let method := if vendor then 2 else 1
  if s.authBusy then s.authEnds method level stBUSY
  else if s.levelAllowed level = false ∨ (vendor = true ∧ level ≠ 2) then s.authEnds method level stREFUSED
  else
    let drawn := s.dbg.challengeAt
    let s := { s with dbg := { s.dbg with challengeAt := none } }
    match drawn with
    | none => s.authEnds method level stREFUSED
    | some at_ =>
      if 10000000000 < (s.time - at_).toNat then s.authEnds method level stTIMEOUT
      else if (if vendor then s.vendorOk r else s.keyOk r (levelClass level)) then s.authPasses method level
      else (s.count SEC_KEYFAILS SEC_SAT_KEYFAILS 1).authEnds method level stAUTH

/-- OP 4. -/
def State.authClose (s : State) : State :=
  if s.authBusy then s.authEnds 3 0 stBUSY else (s.closeDebug 0).authEnds 3 0 stOK

/-- OP 5: no credential is needed in BLANK, nor for level 1 in RETIRED (R515). -/
def State.authNone (s : State) (v : Reg) : State :=
  let level := fldGet v 3 2
  let life := s.get SEC_LIFE_STATE
  if s.authBusy then s.authEnds 3 level stBUSY
  else if s.levelAllowed level ∧ (life = 0 ∨ (life = 4 ∧ level = 1)) then s.authPasses 3 level
  else s.authEnds 3 level stREFUSED

/-! ### Halting (R521 to R525) -/

/-- Cores that may be halted: service cores; steward cores in vendor debug while their pair is the standby. -/
def State.mayHalt (s : State) (n : Nat) : Bool :=
  decide (4 ≤ n) || (s.flag DBG_STATUS_VENDOR && decide (n / 2 ≠ s.get MNT_STEWARD_ACTIVE))

/-- A halt is asked of a core: held in core reset, deferred while it holds a reservation or PBUS_LOCK. -/
def State.askHalt (s : State) (n cause : Nat) (reserved : Bool) (regs : CoreRegs) : State :=
  let c := s.coreAt n
  if s.mayHalt n = false then s.setFlag (DBG_CORE_STATUS_REFUSED n) true
  else if c.halted ∨ c.deferred then s
  else if c.inReset then s.setCore n { c with haltReq := some cause }
  else if reserved ∨ s.core.lock = some (leader n) then
    s.setCore n { c with haltReq := some cause, deferred := true, resv := reserved, askedAt := s.time }
  else (s.loadRegs n regs).haltCore n cause false

/-- A halted core executes one instruction and halts again; a frozen watchdog keeps what was left of it (R521, R523). -/
def State.stepCore (s : State) (n : Nat) (regs : CoreRegs) : State :=
  let c := s.coreAt n
  if c.halted = false then s
  else
    let at_ := if c.wdFrozen then c.wdAt + (s.time - c.haltedAt) else c.wdAt
    ((s.setCore n { c with wdAt := at_ }).loadRegs n regs).haltCore n 1 false

/-- What a write of DBG_CORE_CTL asks for, in the order of its bits (DESIGN CHOICE, log entry 71); whether the core holds a
reservation, and its registers where it halts, are free values. -/
def State.writeCoreCtl (s : State) (n : Nat) (v : Reg) : State :=
  let s := if v.getLsbD 0 then
      match s.fresh with
      | (w, s) => match s.freeRegs with
        | (s, regs) => s.askHalt n 0 (w.getLsbD 0) regs
    else s
  let s := if v.getLsbD 1 then s.resumeCore n else s
  if v.getLsbD 2 then
    match s.freeRegs with
    | (s, regs) => s.stepCore n regs
  else s

/-- A register of a halted core is written: x0 discards, read-only CSRs ignore, CSRs that act have their effect. -/
def State.setCoreReg (s : State) (n r : Nat) (w : Word) : State :=
  let c := s.coreAt n
  if r = 0 then s
  else if r < 32 then s.setCore n { c with gpr := Tab.put word0 c.gpr r w }
  else if r = 0x7B1 then s.setCore n { c with pc := w }
  else if r = 0x7C0 then s.kick n
  else if r = 0x7C3 then s.ack n w
  else if r = 0x7C4 then s.doorbell w
  else if r = 0x7C8 then
    (if w.getLsbD 1 then s.setCsr n r (s.csr n r &&& ~~~2#64) else s)
  else if 0x7D0 ≤ r ∧ r < 0x7D6 then nextOr s (execPinPortWrite (Fin.ofNat 8 n) false (Fin.ofNat 8 (r - 0x7D0)) w s)
  else if 0x7D8 ≤ r ∧ r < 0x7E0 then nextOr s (execPinPortWrite (Fin.ofNat 8 n) true (Fin.ofNat 8 (r - 0x7D8)) w s)
  else if r = 0x7C2 ∨ 0xC00 ≤ r then s
  else s.setCsr n r w

/-- A comparator exists: eight for a service core, two for a steward core (R525). -/
def comparatorExists (n c : Nat) : Bool := decide (4 ≤ n ∨ c < 2)

/-- A comparator's control register may be written with this value (R525). -/
def State.comparatorOk (s : State) (n c : Nat) (v : Reg) : Bool :=
  if n < 4 then s.flag DBG_STATUS_VENDOR else decide (2 ≤ c ∨ fldGet v 1 2 = 0)

/-! ### The debug address space (R519, R520) -/

/-- Outcome of an access: the state, its status, and the data read. -/
structure DbgRes where
  st : State
  status : Nat
  data : Option Word

/-- Registers that level 1 reads through DBG_ACCESS (R515). -/
def level1Reads (k : Nat) : Bool :=
  decide (k = 0x0 ∨ k = 0x4 ∨ k = 0x8 ∨ k = SEC_LIFE ∨ k = CFG_BOOT ∨ k = CLK_STATUS ∨ k = PMU_STATUS ∨
    k = THM_STATUS ∨ k = THM_HOT ∨ k = MNT_STATUS ∨ (0x3000 ≤ k ∧ k < 0x4000) ∨
    (0x300000 ≤ k ∧ k < 0x305000 ∧ k % 0x1000 < 8))

/-- A register that the debug port reaches: no reserved offset and no comparator that does not exist. -/
def dbgRegister (k : Nat) : Bool :=
  decide (k < 0x305000) && (regClass k).isSome &&
    (!decide (0x3200 ≤ k ∧ k < 0x3400) || comparatorExists ((k - 0x3200) / 0x40) ((k - 0x3200) % 0x40 / 8))

/-- A key of QUE_DATA. -/
def isQueData (k : Nat) : Bool := decide (0x100000 ≤ k ∧ k < 0x120000 ∧ 8 ≤ k % 0x10)

/-- A read of QUE_DATA through DBG_ACCESS (R202, R520). -/
def State.dbgQueRead (s : State) (k size : Nat) (ecc : Ecc) : DbgRes :=
  match s.debugQueRead ((k - 0x100000) / 0x10) (if size = 8 then .whole else if k % 0x10 = 0xC then .hi else .lo) ecc with
  | (s, some v) => ⟨s, stOK, some v⟩
  | (s, none) => ⟨s, stREFUSED, none⟩

/-- A register read through DBG_ACCESS. -/
def State.dbgRegRead (s : State) (k size : Nat) (ecc : Ecc) : DbgRes :=
  let peek := !s.flag DBG_ACCESS_SIDE
  if (size ≠ 4 ∧ size ≠ 8) ∨ dbgRegister k = false ∨ (size = 8 ∧ dbgRegister (k + 4) = false) then ⟨s, stBAD_ARG, none⟩
  else if s.dbgLevel < 2 ∧ (level1Reads k = false ∨ (size = 8 ∧ level1Reads (k + 4) = false)) then ⟨s, stREFUSED, none⟩
  else if s.gated k then ⟨s, stREFUSED, none⟩
  else if isQueData k then s.dbgQueRead k size ecc
  else if size = 8 then
    match s.readReg8 .debug peek k with
    | (v, s) => ⟨s, stOK, some v⟩
  else
    match s.readReg .debug peek k with
    | (v, s) => ⟨s, stOK, some (v.setWidth 64)⟩

/-- A debug access is naturally aligned and lies in the table of R519; a bank word takes 8 bytes. -/
def dbgRangeOk (a size : Nat) : Bool :=
  decide (a % size = 0) &&
    (decide (a < 0x40000) || decide (0x10000000 ≤ a ∧ a < 0x10800000) ||
     decide (0x20000000 ≤ a ∧ a < 0x28000000 ∧ size = 8) || decide (0x80000000 ≤ a ∧ a < 0x80305000))

/-- A read of the debug address space. -/
def State.dbgRead (s : State) (a size : Nat) (ecc : Ecc) : DbgRes :=
  if dbgRangeOk a size = false then ⟨s, stBAD_ARG, none⟩
  else if 0x80000000 ≤ a then s.dbgRegRead (a - 0x80000000) size ecc
  else if s.dbgLevel < 2 then ⟨s, stREFUSED, none⟩
  else if a < 0x40000 then
    ⟨s, stOK, some (BitVec.ofNat 64 (ofLeBytes (getBytes s.core.tcm (s.get DBG_ACCESS_CORE * 262144 + a) size)))⟩
  else if a < 0x20000000 then
    ⟨s, stOK, some (BitVec.ofNat 64 (ofLeBytes (getBytes s.core.sram (a - 0x10000000) size)))⟩
  else
    let b := (a - 0x20000000) / 0x10000
    if s.secretBank b then ⟨s, stREFUSED, none⟩
    else match s.fresh with
      | (by_, s') =>
        match s'.readBank (s.physBank b) (a % 0x10000 / 8) ecc (by_.toNat % 256) with
        | (s, v, _) => ⟨s, stOK, some v⟩

/-- A register write through DBG_ACCESS; the DBG block itself is written by DBG_REG only. -/
def State.dbgRegWrite (s : State) (k size : Nat) (w : Word) : DbgRes :=
  if (size ≠ 4 ∧ size ≠ 8) ∨ dbgRegister k = false ∨ (size = 8 ∧ dbgRegister (k + 4) = false) then ⟨s, stBAD_ARG, none⟩
  else if s.gated k ∨ (0x3000 ≤ k ∧ k < 0x4000) ∨ (SEC_PROV_NONCE 0 ≤ k ∧ k ≤ SEC_PROV_NONCE 15) then
    ⟨s, stREFUSED, none⟩
  else if isQueData k then
    let q := (k - 0x100000) / 0x10
    match s.queue q with
    | none => ⟨s, stREFUSED, none⟩
    | some x =>
      if x.prod ≠ 6 ∨ ((size = 8 ∨ k % 0x10 = 0xC) ∧ s.canPush q false = false) then ⟨s, stREFUSED, none⟩
      else
        let part : QPart := if size = 8 then .whole else if k % 0x10 = 8 then .lo else .hi
        ⟨nextOr s (execQueDataWrite .debug (Fin.ofNat 8192 q) part w s), stOK, none⟩
  else
    let s := s.writeAny .debug k (w.setWidth 32)
    let s := if size = 8 then s.writeAny .debug (k + 4) ((w >>> 32).setWidth 32) else s
    ⟨s, stOK, none⟩

/-- A write of the debug address space: level 2 only. -/
def State.dbgWrite (s : State) (a size : Nat) (w : Word) : DbgRes :=
  let c := s.core
  if dbgRangeOk a size = false then ⟨s, stBAD_ARG, none⟩
  else if s.dbgLevel < 2 then ⟨s, stREFUSED, none⟩
  else if 0x80000000 ≤ a then s.dbgRegWrite (a - 0x80000000) size w
  else if a < 0x40000 then
    let t := putBytes c.tcm (s.get DBG_ACCESS_CORE * 262144 + a) (leBytes size w.toNat)
    ⟨{ s with core := { c with tcm := t } }, stOK, none⟩
  else if a < 0x20000000 then
    ⟨{ s with core := { c with sram := putBytes c.sram (a - 0x10000000) (leBytes size w.toNat) } }, stOK, none⟩
  else
    let b := (a - 0x20000000) / 0x10000
    ⟨s.writeBank (s.physBank b) (a % 0x10000 / 8) { data := w, syn := 0, poison := false }, stOK, none⟩

/-- The end of an access: STATUS, and the data of a read. -/
def DbgRes.done (r : DbgRes) : State :=
  let s := r.st.set DBG_ACCESS_STATUS r.status
  match r.data with
  | some v => s.wr64 DBG_DATA_LO DBG_DATA_HI v
  | none => s

/-- A write of DBG_ACCESS: SIDE, CORE and SIZE are stored, and OP performs the access. -/
def State.dbgAccess (s : State) (v : Reg) (ecc : Ecc) : State :=
  let s := s.plainWrite DBG_ACCESS v
  let a := (s.rd DBG_ADDR).toNat
  let size := 2 ^ s.get DBG_ACCESS_SIZE
  match fldGet v 6 2 with
  | 1 => (s.dbgRead a size ecc).done
  | 2 => (s.dbgWrite a size (s.rd64 DBG_DATA_LO DBG_DATA_HI)).done
  | _ => s

/-! ### DBG_REG accesses (R514, R515) -/

/-- The present level reaches a register of the DBG block: at level 0 DBG_STATUS, DBG_AUTH, DBG_AUTH_STATUS,
DBG_CHALLENGEk and DBG_AUTH_DATA; core control, register data and comparators at level 2 only. -/
def State.dbgReaches (s : State) (k : Nat) : Bool :=
  dbgRegister k && decide (0x3000 ≤ k ∧ k < 0x4000) &&
    (decide (k ≤ 0x3008 ∨ 0x3400 ≤ k) || decide (s.dbgLevel = 2) ||
     (decide (s.dbgLevel = 1) && !decide (0x3020 ≤ k ∧ k < 0x3060) && !decide (0x3200 ≤ k ∧ k < 0x3400)))

/-- A DBG_REG access whose Update-DR performs `body`: the next Capture-DR shows the data read and ERROR (R514); an
access beyond the level's reach is refused. -/
def State.viaTap (s : State) (k : Nat) (body : State → State × Reg × Bool) : State :=
  if s.dev.off then s
  else
    let s := { s with dbg := { s.dbg with lastAt := s.time } }
    if s.dbgReaches k = false then
      ({ s with dbg := { s.dbg with capture := BitVec.ofNat 48 (2 ^ 43) } } : State).emit .debugRefused
    else match body s with
      | (s, v, err) =>
        { s with dbg := { s.dbg with capture := BitVec.ofNat 48 (v.toNat + b2n err * 2 ^ 43) } }

/-- The selected core is halted. -/
def State.selHalted (s : State) : Bool := (s.coreAt (s.get DBG_REG_SEL_CORE)).halted

/-- A write of DBG_REG_DATA_HI: the register of the halted core takes the value; refused while it runs. -/
def State.dbgDataWrite (s : State) (v : Reg) : State × Reg × Bool :=
  if s.selHalted = false then (s, 0, true)
  else
    let w := (v.setWidth 64 <<< 32) ||| (s.rd DBG_REG_DATA_LO).setWidth 64
    (s.setCoreReg (s.get DBG_REG_SEL_CORE) (s.get DBG_REG_SEL_REG) w, 0, false)

/-- A write of a comparator register, refused where it is not permitted. -/
def State.writeComparator (s : State) (k : Nat) (v : Reg) : State × Reg × Bool :=
  let n := (k - 0x3200) / 0x40
  let c := (k - 0x3200) % 0x40 / 8
  let ok := if k % 8 = 0 then s.comparatorOk n c v else decide (4 ≤ n) || s.flag DBG_STATUS_VENDOR
  if ok then (s.plainWrite k v, 0, false) else (s.setFlag (DBG_CORE_STATUS_REFUSED n) true, 0, true)

/-- What a DBG_REG write does. A 1 written to HALT, RESUME or STEP sets the bit, as its type W1S says; no rule clears it
again, so it stays 1 until the register is reset (DEDUCED from R8, log entry 71). A key response carries data of its own
and is the row DBG_AUTH_KEY. -/
def State.dbgRegDo (s : State) (k : Nat) (v : Reg) : State × Reg × Bool :=
  if k = DBG_AUTH then
    (match fldGet v 0 3 with
     | 1 => s.authChallenge
     | 2 => s.authPassword v
     | 4 => s.authClose
     | 5 => s.authNone v
     | _ => s, 0, false)
  else if k = DBG_ACCESS then (s.dbgAccess v .clean, 0, false)
  else if k = DBG_REG_DATA_LO then if s.selHalted then (s.wr k v, 0, false) else (s, 0, true)
  else if k = DBG_REG_DATA_HI then s.dbgDataWrite v
  else if 0x3040 ≤ k ∧ k < 0x3060 then
    let n := (k - 0x3040) / 4
    ((s.plainWrite k v).writeCoreCtl n v, 0, v.getLsbD 0 && !s.mayHalt n)
  else if 0x3200 ≤ k ∧ k < 0x3400 then s.writeComparator k v
  else if 0x3800 ≤ k then (s.wr k v, 0, false)
  else (s.plainWrite k v, 0, false)

end Sys2Proof.Machine
end

