-- ==== Sys2Proof/Machine/Debug.lean ====
section
/-! DEFINITION.  Rows of the test access port and of the debug port (R513 to R525). -/

namespace Sys2Proof.Machine

open Sys2Proof

/-! ### TAP instructions (R513) -/

/-- The TAP instruction register is loaded. -/
def State.loadIr (s : State) (code : BitVec 6) : State :=
  if s.dev.off then s else { s with dbg := { s.dbg with ir := code } }

/-- EXTEST, CLAMP and HIGHZ are available at level 2 in PHASE 3 or less, after POWER_DOWN, or without an image. -/
def State.pinTests (s : State) : Bool :=
  decide (s.dbgLevel = 2) &&
    (decide (s.get DEV_STATUS_PHASE ≤ 3) || s.flag BIST_STATUS_DOWN || s.flag CFG_BOOT_NO_IMAGE)

/-- EXTEST; otherwise it acts as BYPASS. -/
def execExtest (s : State) : Host.Outcome State Fault Refusal :=
  .next (s.loadIr (if s.pinTests then 0x00#6 else 0x3F#6))

/-- IDCODE: 0x1512_0C7B is shifted out. -/
def execIdcode (s : State) : Host.Outcome State Fault Refusal :=
  .next (if s.dev.off then s else (s.loadIr 0x01#6).emit (.tdo 0x15120C7B))

/-- SAMPLE/PRELOAD: the boundary register is described outside the spec; what is shifted out is a free value (log 6). -/
def execSamplePreload (s : State) : Host.Outcome State Fault Refusal :=
  if s.dev.off then .next s
  else match (s.loadIr 0x02#6).fresh with
    | (v, s) => .next (s.emit (.tdo v.toNat))

/-- CLAMP, available as EXTEST. -/
def execClamp (s : State) : Host.Outcome State Fault Refusal :=
  .next (s.loadIr (if s.pinTests then 0x03#6 else 0x3F#6))

/-- HIGHZ, available as EXTEST. -/
def execHighz (s : State) : Host.Outcome State Fault Refusal :=
  .next (s.loadIr (if s.pinTests then 0x04#6 else 0x3F#6))

/-- BYPASS; every other code acts as BYPASS. -/
def execBypass (s : State) : Host.Outcome State Fault Refusal := .next (s.loadIr 0x3F#6)

/-- TAP_RESET: TRST_N resets the TAP controller and changes no debug level. -/
def execTapReset (s : State) : Host.Outcome State Fault Refusal :=
  .next (if s.dev.off then s else { s with dbg := { s.dbg with ir := 0x01#6, capture := 0 } })

/-- DBG_REG (R514): [31:0] DATA, [41:32] word offset, [42] WRITE, [47:43] 0. The result of the access before is shifted
out. -/
def execDbgReg (request : BitVec 48) (s : State) : Host.Outcome State Fault Refusal :=
  if s.dev.off then .next s
  else
    let v : Reg := request.setWidth 32
    let k := 0x3000 + 4 * bitsAt request.toNat 32 10
    let write := request.getLsbD 42
    let s := (s.loadIr 0x10#6).emit (.tdo s.dbg.capture.toNat)
    if bitsAt request.toNat 43 5 ≠ 0 then .next (s.viaTap 0 (fun s => (s, 0, true)))
    else if write then .next (s.viaTap k (fun s => s.dbgRegDo k v))
    else .next (s.viaTap k (fun s =>
      if (k = DBG_REG_DATA_LO ∨ k = DBG_REG_DATA_HI) ∧ s.selHalted = false then (s, 0, true)
      else (s, s.view k, false)))

/-! ### Levels (R516 to R518) -/

/-- A write of DBG_AUTH with an OP. -/
def State.authRow (s : State) (op : Nat) (v : Reg) (act : State → State) : State :=
  if fldGet v 0 3 = op then s.viaTap DBG_AUTH (fun s => (act s, 0, false)) else s

/-- DBG_AUTH_CHALLENGE (R516). -/
def execDbgAuthChallenge (value : Reg) (s : State) : Host.Outcome State Fault Refusal :=
  .next (s.authRow 1 value State.authChallenge)

/-- DBG_AUTH_PASSWORD (R516 to R518). -/
def execDbgAuthPassword (value : Reg) (s : State) : Host.Outcome State Fault Refusal :=
  .next (s.authRow 2 value (fun s => s.authPassword value))

/-- DBG_AUTH_KEY (R516 to R518): `resp`: what DBG_AUTH_DATA spells, and what the security engine finds. -/
def execDbgAuthKey (value : Reg) (resp : KeyResp) (s : State) : Host.Outcome State Fault Refusal :=
  .next (s.authRow 3 value (fun s => s.authKey value resp))

/-- DBG_AUTH_CLOSE (R518). -/
def execDbgAuthClose (value : Reg) (s : State) : Host.Outcome State Fault Refusal :=
  .next (s.authRow 4 value State.authClose)

/-- DBG_AUTH_NO_CREDENTIAL (R515, R516). -/
def execDbgAuthNoCredential (value : Reg) (s : State) : Host.Outcome State Fault Refusal :=
  .next (s.authRow 5 value (fun s => s.authNone value))

/-- SECRETS_ERASED (R395, R517): the erasure ends; an opening that waited for it takes effect. -/
def execSecretsErased (us : BitVec 32) (s : State) : Host.Outcome State Fault Refusal :=
  if s.flag SEC_ERASED_ERASING = false then .next s
  else
    let asked := s.dbg.pendingErase
    let s := s.endErase us.toNat
    match asked with
    | none => .next s
    | some method =>
      .next (((s.setFlag DBG_AUTH_STATUS_BUSY false).openDebug 2 method).authEnds method 2 stOK)

/-- DEBUG_IDLE_CLOSE (R518). -/
def execDebugIdleClose (s : State) : Host.Outcome State Fault Refusal :=
  let limit := s.get DBG_CTL_IDLE_S
  if limit = 0 ∨ (s.time - s.dbg.lastAt).toNat < limit * 1000000000 then .next s else .next (s.closeDebug 1)

/-! ### Accesses (R519, R520) -/

/-- DBG_ACCESS_READ: a write of DBG_ACCESS with OP 1. -/
def execDbgAccessRead (value : Reg) (ecc : Ecc) (s : State) : Host.Outcome State Fault Refusal :=
  .next (if fldGet value 6 2 = 1 then s.viaTap DBG_ACCESS (fun s => (s.dbgAccess value ecc, 0, false)) else s)

/-- DBG_ACCESS_WRITE: a write of DBG_ACCESS with OP 2. -/
def execDbgAccessWrite (value : Reg) (s : State) : Host.Outcome State Fault Refusal :=
  .next (if fldGet value 6 2 = 2 then s.viaTap DBG_ACCESS (fun s => (s.dbgAccess value .clean, 0, false)) else s)

/-! ### Halting and stepping (R521 to R525) -/

/-- DBG_CORE_HALT: `reserved`: the core holds an LR/SC reservation; `regs`: its registers if it halts. -/
def execDbgCoreHalt (core : CoreId) (reserved : Bool) (regs : CoreRegs) (s : State) :
    Host.Outcome State Fault Refusal :=
  .next (s.viaTap (DBG_CORE_CTL core.val) (fun s =>
    ((s.setBit (DBG_CORE_CTL core.val) 0 true).askHalt core.val 0 reserved regs, 0, !s.mayHalt core.val)))

/-- DBG_CORE_RESUME (R523). -/
def execDbgCoreResume (core : CoreId) (s : State) : Host.Outcome State Fault Refusal :=
  .next (s.viaTap (DBG_CORE_CTL core.val) (fun s =>
    ((s.setBit (DBG_CORE_CTL core.val) 1 true).resumeCore core.val, 0, false)))

/-- DBG_CORE_STEP (R521): one instruction, then halted again; a frozen watchdog keeps what was left of it. -/
def execDbgCoreStep (core : CoreId) (regs : CoreRegs) (s : State) : Host.Outcome State Fault Refusal :=
  .next (s.viaTap (DBG_CORE_CTL core.val) (fun s =>
    ((s.setBit (DBG_CORE_CTL core.val) 2 true).stepCore core.val regs, 0, false)))

/-- HALT_DEFERRED_EXPIRY (R522): 512 core cycles after the request; PBUS_LOCK is taken away. -/
def execHaltDeferredExpiry (core : CoreId) (regs : CoreRegs) (s : State) : Host.Outcome State Fault Refusal :=
  let n := core.val
  let c := s.coreAt n
  if c.deferred = false ∨ s.elapsed c.askedAt (s.coreCycles 512) = false then .next s
  else
    let broken := decide (s.core.lock = some (leader n))
    let s := if broken then s.freeLock (leader n) true else s
    .next ((s.loadRegs n regs).haltCore n (c.haltReq.getD 0) broken)

/-- DBG_REG_DATA_WRITE (R521): a write of DBG_REG_DATA_HI. -/
def execDbgRegDataWrite (value : Reg) (s : State) : Host.Outcome State Fault Refusal :=
  .next (s.viaTap DBG_REG_DATA_HI (fun s => s.dbgDataWrite value))

/-- A comparator matches an address: equal in every bit above MASK_BITS, [63:32] being 0. -/
def State.comparatorHits (s : State) (n c : Nat) (addr : Word) : Bool :=
  let m := 2 ^ s.get (DBG_CMP_CTL_MASK_BITS n c)
  s.flag (DBG_CMP_CTL_EN n c) && comparatorExists n c &&
    decide (addr.toNat / m = (s.rd (DBG_CMP_ADDR n c)).toNat / m)

/-- CMP_HIT (R525): HIT and HITS, then ACTION 0 halts, 1 raises the event, 2 only counts. -/
def execCmpHit (core : CoreId) (comparator : Fin 8) (addr : Word) (reserved : Bool) (regs : CoreRegs) (s : State) :
    Host.Outcome State Fault Refusal :=
  let n := core.val
  let c := comparator.val
  if s.coreRuns n = false ∨ s.comparatorHits n c addr = false then .next s
  else
    let s := (s.setFlag (DBG_CMP_CTL_HIT n c) true).set (DBG_CMP_CTL_HITS n c) (s.get (DBG_CMP_CTL_HITS n c) + 1)
    match s.get (DBG_CMP_CTL_ACTION n c) with
    | 0 => .next (s.askHalt n (2 + c) reserved regs)
    | 1 => .next (s.raiseLim 0x1208 (srcCore n) [(18, 1, n), (19, 1, c), (20, 8, addr.toNat)])
    | _ => .next s

end Sys2Proof.Machine
end

