-- ==== Sys2Proof/Machine/Ports.lean ====
section
/-! DEFINITION.  Meanings of the rows on the memory ports (R99, R102, R109 to R112). -/

namespace Sys2Proof.Machine

open Sys2Proof

/-- Bank of a port's request. -/
def arrivalBank (a : PortArrival) : Nat := (portReq a.request).bank

def arrivalWrites (a : PortArrival) : Bool := (portReq a.request).write

/-- A port takes requests: it is not out of service (R102), its mat's holds are not held NULL (R59), and no border
policy keeps new requests in the region (R136, R142). -/
def State.portOpen (s : State) (m : Nat) : Bool :=
  !s.useOut m 0 && !s.heldNull m && (s.policyAt m).isNone

/-- The bank controller takes a request: the port is open, and the previous response of the bank to this port has been
acknowledged (R109). -/
def State.takesRequest (s : State) (a : PortArrival) : Bool :=
  s.portOpen a.mat.val && (s.portResp a.mat.val (arrivalBank a)).isNone

/-- The requests that are taken of those that arrive together: of one port to one bank the first in the list. -/
def takenOf : List PortArrival → List PortArrival
  | [] => []
  | a :: l => a :: (takenOf l).filter (fun b => decide (¬ (b.mat = a.mat ∧ arrivalBank b = arrivalBank a)))

/-- The order in which requests that arrive in one cycle are performed: RQ0 of a port goes before RQ1, a read of a word
before a write of it, port A's write before port B's (R110). -/
def portOrder (l : List PortArrival) : List PortArrival :=
  let l := takenOf (l.filter (fun a => decide (a.rq = 0)) ++ l.filter (fun a => decide (a.rq ≠ 0)))
  let w (g : Nat) := l.filter (fun a => arrivalWrites a && decide (matG a.mat.val = g))
  l.filter (fun a => !arrivalWrites a) ++ (w 0 ++ w 1)

/-- What a bank answers, with the parity of the two crossings (R99, R109).  A request whose parity mismatches is not
performed and is answered with PARITY.  For a mismatch on the response the spec gives no bits: the request has been
performed, so PARITY stays 0, and a read's data is not trustworthy (DESIGN CHOICE, log entry 68). -/
def State.portAnswer (s : State) (a : PortArrival) : State × MResp :=
  let m := a.mat.val
  let r := portReq a.request
  if a.parityBad then
    (s.portParity m r.bank false,
      { rdata := 0, write := r.write, corr := false, uncorr := true, parity := true, tag := r.tag })
  else
    match s.portServe m (bankId (matCol m) r.bank) r a.ecc with
    | (s, x) =>
      if a.respParityBad then (s.portParity m r.bank true, { x with uncorr := x.uncorr || !r.write })
      else (s, x)

/-- A request channel's acknowledge goes up when its request has been taken (R109). -/
def State.ackRequest (s : State) (m rq : Nat) : State :=
  s.setFab m { s.fab m with ackUp := Tab.put bool0 (s.fab m).ackUp (8 + rq) true }

/-- One request is taken, performed and answered. -/
def State.portRequest (s : State) (a : PortArrival) : State :=
  let x := s.portAnswer a
  ((x.1.ackRequest a.mat.val a.rq.val).setPortResp a.mat.val (arrivalBank a) (some x.2)).emit
    (.token a.mat.val (.mport (arrivalBank a)) (respBits x.2))

/-- MPORT_REQUEST (R109, R110, R112, R99, R102): a request arrives at the bank controllers of its column, with `beside`
those that arrive in the same cycle; each that its controller takes is performed and answered. -/
def execMportRequest (first : PortArrival) (beside : List PortArrival) (s : State) : Host.Outcome State Fault Refusal :=
  let l := first :: beside.filter (fun a => decide (matCol a.mat.val = matCol first.mat.val))
  .next ((portOrder (l.filter s.takesRequest)).foldl State.portRequest s)

/-- MPORT_RESPONSE_ACK (R109). -/
def execMportResponseAck (mat : MatId) (bank : Fin 8) (s : State) : Host.Outcome State Fault Refusal :=
  .next (s.setPortResp mat.val bank.val none)

end Sys2Proof.Machine
end

