-- ==== Sys2Proof/Machine/Sessions.lean ====
section
/-! DEFINITION.  Meanings of the rows on sessions, attestation and provisioning (R378 to R398). -/

namespace Sys2Proof.Machine

open Sys2Proof

/-- n random or signed words that the spec leaves open (log entry 6), as bytes. -/
def State.freshBytes : Nat → State → List Byte × State
  | 0, s => ([], s)
  | n + 1, s =>
    match s.fresh with
    | (v, s) => match State.freshBytes n s with
      | (l, s) => (leBytes 8 v.toNat ++ l, s)

/-- Bytes are written to host memory for a command. -/
def State.toHost (s : State) (addr : Word) (bytes : List Byte) : State :=
  if s.dmaOn then s.emit (.hostWrite addr bytes) else s

/-! ### SESSION_OPEN (R389 to R392) -/

/-- Arguments of R389 in range. -/
def openArgsOk (method cls len : Nat) (password : List Byte) (addr : Word) (length : Nat) : Bool :=
  decide (method < 5) &&
    (decide (method = 0 ∨ method = 2) || decide (cls < 4)) &&
    (if method = 1 then decide (8 ≤ len ∧ len ≤ 48 ∧ password.length = len) else decide (len = 0)) &&
    (decide (method = 1 ∨ method = 4) || decide (addr.toNat % 64 = 0)) &&
    (decide (method ≠ 3) || decide (length = 1608))

/-- Methods permitted in a lifecycle state (R381). -/
def methodAllowed (life method cls : Nat) : Bool :=
  match life with
  | 0 => decide (method = 0 ∨ method = 4)
  | 4 => decide (method = 0 ∨ method = 2) || (decide (method = 1 ∨ method = 3) && decide (cls = 0))
  | _ => decide (method < 4)

/-- SESSION_FAILED and the completion of an opening that fails (R390, R392). -/
def State.openFails (s : State) (method cls status : Nat) : CmdRes :=
  (s.raise 0x4D02 srcSessions [(18, 1, method), (19, 1, cls), (20, 1, status)]).ends status

/-- METHOD 0: both certificates (R380, R389). -/
def State.identityRead (s : State) (addr : Word) (length : Nat) : CmdRes :=
  let n := s.sec.cert.length
  if length < n then s.endsWith stNO_SPACE n else (s.toHost addr s.sec.cert).endsWith stOK n

/-- METHOD 1 (R390, R391). -/
def State.openPassword (s : State) (cls : Nat) (password : List Byte) : CmdRes :=
  if s.lockedNow then s.endsWith stREFUSED s.lockRemain
  else match s.tryPassword cls password with
    | (s, st) => if st = stOK then s.openSession cls 1 else s.openFails 1 cls st

/-- METHOD 2: a fresh challenge of 64 bytes (R392). -/
def State.openChallenge (s : State) (addr : Word) : CmdRes :=
  match s.freshBytes 8 with
  | (l, s) =>
    let s := s.setSec { s.sec with challenge := some (BitVec.ofNat 512 (ofLeBytes l), s.time) }
    (s.toHost addr l).ends stOK

/-- METHOD 3: the challenge is spent; it holds for 10 s (R392). -/
def State.openKey (s : State) (cls : Nat) (r : KeyResp) : CmdRes :=
  let c := s.sec.challenge
  let s := s.setSec { s.sec with challenge := none }
  match c with
  | none => s.openFails 3 cls stREFUSED
  | some (_, at_) =>
    if 10000000000 < (s.time - at_).toNat then s.openFails 3 cls stTIMEOUT
    else if s.keyOk r cls then s.openSession cls 3
    else (s.count SEC_KEYFAILS SEC_SAT_KEYFAILS 1).openFails 3 cls stAUTH

/-- SESSION_OPEN (R381, R388 to R392). -/
def execSessionOpen (h : Hdr) (method cls len : Byte) (password : List Byte) (addr : Word) (length : BitVec 32)
    (resp : KeyResp) (s : State) : Host.Outcome State Fault Refusal :=
  .next (s.hostCmd h 0x01 (fun s =>
    let m := method.toNat
    let c := cls.toNat
    if openArgsOk m c len.toNat password addr length.toNat = false then s.ends stBAD_ARG
    else if methodAllowed (s.get SEC_LIFE_STATE) m c = false then s.ends stREFUSED
    else if m = 0 then s.identityRead addr length.toNat
    else if m = 2 then s.openChallenge addr
    else if 16 ≤ s.sec.sessions.length then s.ends stNO_SPACE
    else if m = 1 then s.openPassword c password
    else if m = 3 then s.openKey c resp
    else s.openSession 3 4))

/-- SESSION_CLOSE (R393): tag 0 names the issuing session. -/
def execSessionClose (h : Hdr) (tag : BitVec 16) (s : State) : Host.Outcome State Fault Refusal :=
  .next (s.hostCmd h 0x02 (fun s =>
    let t := if tag = 0 then h.session else tag
    if t ≠ h.session ∧ s.sessionClass h.session ≠ some 3 then s.ends stAUTH
    else if (s.sessionClass t).isNone then s.ends stBAD_ARG
    else (s.closeSession t 0).ends stOK))

/-- SESSION_IDLE_TIMEOUT (R393): no command has borne the tag for IDLE_S seconds. -/
def execSessionIdleTimeout (tag : BitVec 16) (s : State) : Host.Outcome State Fault Refusal :=
  let idle := s.get SEC_SESS_CTL_IDLE_S
  if idle ≠ 0 ∧ s.sec.sessions.any (fun x => decide (x.tag = tag) &&
      decide (idle * 1000000000 ≤ (s.time - x.used).toNat)) then .next (s.closeSession tag 1)
  else .next s

/-- LOCKOUT_END (R391): the lockout's time has run out; FAILS stays. -/
def execLockoutEnd (s : State) : Host.Outcome State Fault Refusal :=
  if s.lockedNow ∧ (s.pace.timeOn = false ∨ s.sec.lockEnd ≤ s.time) then .next (s.setFlag SEC_LOCK_LOCKED false) else .next s

/-! ### ATTEST (R397, R398) -/

/-- The service chain (R398). -/
def State.serviceChain (s : State) : BitVec 512 :=
  Config.sha512 (([4, 5, 6, 7].map (fun n => leBytes 64 (s.coreAt n).measure.toNat)).flatten)

/-- Bytes 0 to 383 of the attestation report. -/
def State.report (s : State) (nonce : BitVec 256) : List Byte :=
  let fw := (s.mnt.fwCopies.getD (s.get MNT_STEWARD_FW_COPY) (0, 0)).2
  let run := s.img.running.getD (0, 0)
  let flags := b2n (s.flag CFG_BOOT_TRIAL_RUNNING) + 2 * b2n (s.flag CFG_BOOT_FALLBACK) +
    4 * b2n (s.flag CFG_BOOT_STREAMED)
  leBytes 4 0x5441594B ++ leBytes 2 1 ++ leBytes 1 (s.get SEC_LIFE_STATE) ++ leBytes 1 (s.get SEC_LIFE_DEBUG_LEVEL) ++
  leBytes 8 (s.rd64 SEC_SERIAL_LO SEC_SERIAL_HI).toNat ++ leBytes 1 (s.get SEC_LIFE_DEBUG_OPENS) ++ leBytes 3 0 ++
  leBytes 4 (s.rd SEC_ARV).toNat ++ leBytes 4 run.1.toNat ++ leBytes 1 (s.get CFG_BOOT_SRC) ++ leBytes 1 flags ++
  leBytes 2 s.img.packs ++ leBytes 32 nonce.toNat ++ leBytes 64 fw.toNat ++ leBytes 64 s.serviceChain.toNat ++
  leBytes 64 run.2.toNat ++ leBytes 64 s.img.libChain.toNat ++ leBytes 8 s.time.toNat ++ leBytes 56 0

/-- ATTEST (R397): the report and its signature, whose value the spec leaves open. -/
def execAttest (h : Hdr) (addr : Word) (nonce : BitVec 256) (s : State) : Host.Outcome State Fault Refusal :=
  .next (s.hostCmd h 0x03 (fun s =>
    if addr.toNat % 64 ≠ 0 then s.ends stBAD_ARG
    else if s.sec.identity = false then s.ends stREFUSED
    else
      let body := s.report nonce
      match s.freshBytes 64 with
      | (sig, s) => (s.toHost addr (body ++ sig)).endsWith stOK 896))

/-! ### Provisioning (R384 to R386) -/

/-- OPS bits: 0 SET_ROOT, 1 KEYS, 2 PASSWORDS, 3 DEPLOY, 4 RETIRE. -/
def provOp (r : ProvRecord) (i : Nat) : Bool := r.ops.getLsbD i

/-- The present nonce. -/
def State.provNonce (s : State) : Nat := (upto 16).foldl (fun a k => a + (s.rd (SEC_PROV_NONCE k)).toNat * 2 ^ (32 * k)) 0

/-- A fresh nonce is drawn. -/
def State.drawNonce (s : State) : State :=
  (upto 8).foldl (fun s k => match s.fresh with
    | (v, s) => s.wr64 (SEC_PROV_NONCE (2 * k)) (SEC_PROV_NONCE (2 * k + 1)) v) s

/-- The operations are permitted in the present lifecycle state (R385 check 4). -/
def State.provAllowed (s : State) (r : ProvRecord) : Bool :=
  let life := s.get SEC_LIFE_STATE
  decide (life < 4) && decide (provOp r 0 = decide (life = 0)) &&
    (!provOp r 3 || decide (life = 1) || (decide (life = 3) && decide (s.get SEC_LIFE_DEBUG_LEVEL = 0)))

/-- The checks in order (R385). -/
def State.provStatus (s : State) (r : ProvRecord) : Nat :=
  if r.magic.toNat ≠ 0x5652504B ∨ r.format.toNat ≠ 1 ∨ r.reservedZero = false ∨ r.ops.toNat = 0 ∨ 32 ≤ r.ops.toNat ∨
      (provOp r 4 ∧ r.ops.toNat ≠ 16) ∨ 16 ≤ r.keyMask.toNat then stFORMAT
  else if r.serial ≠ s.rd64 SEC_SERIAL_LO SEC_SERIAL_HI then stWRONG_DEVICE
  else if r.nonce.toNat ≠ s.provNonce then stAUTH
  else if s.provAllowed r = false then stREFUSED
  else if provOp r 0 = false ∧ s.sec.root ≠ some r.rootKey then stSIGNATURE
  else if r.sigOk = false then stSIGNATURE
  else if provOp r 1 ∧ r.wrapped.isNone then stTAG
  else stOK

/-- KEYS: the keys of KEY_MASK; a verified image that only waits is discarded (R386). -/
def State.provKeys (s : State) (r : ProvRecord) : State :=
  let ks := r.wrapped.getD []
  let t := ((upto 4).zip ks).foldl (fun (t : Tab (Option (BitVec 256))) e =>
    if r.keyMask.getLsbD e.1 then Tab.put none0 t e.1 (some e.2) else t) s.sec.keys
  let s := s.setSec { s.sec with keys := t }
  if s.get CFG_STAGE_STATE = 3 then s.unstage else s

/-- PASSWORDS: all four records. -/
def State.provPasswords (s : State) (r : ProvRecord) : State :=
  let t := ((upto 4).zip r.passwords).foldl
    (fun (t : Tab (Option PwdRec)) (e : Nat × Option PwdRec) => Tab.put none0 t e.1 e.2) []
  s.setSec { s.sec with pwds := t }

/-- RETIRE: every session closes, user secrets, identity key and passwords are erased (R382, R393). -/
def State.retire (s : State) : State :=
  let s := (s.setLife 4).closeSessions 4
  (s.setSec { s.sec with identity := false, pwds := [], challenge := none }).eraseSecrets 2

/-- The operations of a record that has passed, in order. -/
def State.provApply (s : State) (r : ProvRecord) : State :=
  let s := if provOp r 0 then
    ((s.setSec { s.sec with root := some r.rootKey }).setFlag SEC_LIFE_ROOT_SET true).setLife 1 else s
  let s := if provOp r 1 then s.provKeys r else s
  let s := if provOp r 2 then s.provPasswords r else s
  let s := if provOp r 3 then s.setLife 2 else s
  if provOp r 4 then s.retire else s

/-- A record ends with a status; a fresh nonce is drawn after every GO. -/
def State.provEnds (s : State) (status : Nat) : State :=
  ((s.set SEC_PROV_STATUS_STATE 2).set SEC_PROV_STATUS_STATUS status).drawNonce

/-- PROVISIONING_GO (R384 to R386): a write of SEC_PROV_CTL with GO 1, and the record at SEC_PROV_ADDR. -/
def execProvisioningGo (req : Requester) (record : ProvRecord) (s : State) : Host.Outcome State Fault Refusal :=
  .next (s.regWrite req SEC_PROV_CTL (fun s =>
    let stage := s.get CFG_STAGE_STATE
    if stage = 2 ∨ stage = 4 ∨ stage = 5 then s.provEnds stBUSY
    else
      let st := s.provStatus record
      if st = stOK then (s.provApply record).provEnds stOK
      else (s.raise 0x4D07 srcSec [(18, 1, st), (19, 1, record.ops.toNat)]).provEnds st))

end Sys2Proof.Machine
end

