-- ==== Sys2Proof/Machine/Trunks.lean ====
section
/-! DEFINITION.  Meanings of the rows on rhizoids and trunk lanes (R97 to R107). -/

namespace Sys2Proof.Machine

open Sys2Proof

/-! ### Sounding and sparing -/

/-- The channel's token waits while its lane is out of service, and is sent once it is back (R101). -/
def State.sendKept (s : State) (c lane : Nat) : State :=
  if s.laneOut c lane then s
  else [0, 1].foldl (fun s g =>
    let q := matOf c g
    let v := Tab.get code0 s.col.kept (q * 256 + lane)
    if v = 0 then s
    else
      let s := { s with col := { s.col with kept := Tab.put code0 s.col.kept (q * 256 + lane) 0 } }
      if s.laneBuf q lane = 0 then s.setLaneBuf q lane v else s) s

/-- A lane that a re-test found correct, or whose failed rhizoids have been spared, is re-enabled (R107). -/
def State.restoreLane (s : State) (c lane g outcome : Nat) : State :=
  let s := { s with col := { s.col with restoring := Tab.put none0 s.col.restoring (c * 256 + lane) none } }
  let s := s.setFlag (laneDis c lane) false
  let s := (s.closeFault 1 c (.lane lane)).closeFault 3 c (.lane lane)
  let s := s.raise 0x0306 (srcTrunk c g) [(18, 1, lane), (19, 1, outcome)]
  s.endRetest c lane stOK

/-- What the end of a spare swap means for the lane that uses the position: a lane under re-test is re-enabled, or
stays disabled when its group is exhausted; a kept token is sent (R101, R107). -/
def State.laneSpared (s : State) (c lane : Nat) : State :=
  let s := match Tab.get none0 s.col.restoring (c * 256 + lane) with
    | none => if s.laneOut c lane then s else (s.closeFault 1 c (.lane lane)).closeFault 3 c (.lane lane)
    | some g =>
      if s.laneDead c lane then
        ({ s with col := { s.col with restoring := Tab.put none0 s.col.restoring (c * 256 + lane) none } } : State).endRetest
          c lane stHW_FAULT
      else if s.laneOut c lane then s
      else s.restoreLane c lane g 1
  s.sendKept c lane

/-- SOUNDING_STEP (R98, R99). A step runs only while the owning channel is quiescent, for a spare always;
with SOUND_EN 0 only re-tests run.  A sounding of a group ahead of the regular order is taken to visit its rhizoids in
rising order, so that it is complete at the visit of index 65, whichever others the commands name: R99 does not say
when it is complete (DESIGN CHOICE, log entry 67). -/
def execSoundingStep (col : ColId) (ifc : Fin 4) (group : Fin 56) (index : Fin 66) (quiet pass : Bool) (s : State) :
    Host.Outcome State Fault Refusal :=
  let c := col.val
  let i := ifc.val
  let g := group.val
  let x := index.val
  let ahead := s.aheadNow c i g
  if (quiet = false ∧ x < 64) ∨ (s.flag (COL_RHZ_CTL_SOUND_EN c) = false ∧ ahead = 0) then .next s
  else
    let s := s.visited c i g x
    let r := s.rhz c i g
    let s :=
      if x ∈ r.failed then s
      else if pass then s.setRhz c i g { r with strikes := delNat x r.strikes }
      -- twice in succession, or once in the re-test after a live check
      else if x ∈ r.strikes ∨ 2 ≤ ahead ∧ ahead ≤ 4 then
        s.failRhizoid c i g x (if ahead = 5 then 0 else ahead) (s.dependents c i g)
      else s.setRhz c i g { r with strikes := insNat x r.strikes }
    if x = 65 ∧ ahead ≠ 0 then .next (((s.setAhead c i g 0).releaseRepair c i g).endRepair c i g) else .next s

/-- SOUND_MISS (R98): a working rhizoid whose channel was never quiescent; a spare has no such condition. -/
def execSoundMiss (col : ColId) (ifc : Fin 4) (group : Fin 56) (index : Fin 64) (s : State) :
    Host.Outcome State Fault Refusal :=
  let r := s.rhz col.val ifc.val group.val
  if s.flag (COL_RHZ_CTL_SOUND_EN col.val) then
    .next (s.setRhz col.val ifc.val group.val { r with missed := insNat index.val r.missed })
  else .next s

/-- SPARE_SWAP (R100): the granted swap at the channel's quiescence; `pass0`, `pass1`: the sounding of
step 3 on the first and the second spare tried. -/
def execSpareSwap (col : ColId) (ifc : Fin 4) (group : Fin 56) (position : Fin 64) (pass0 pass1 : Bool) (s : State) :
    Host.Outcome State Fault Refusal :=
  let c := col.val
  let i := ifc.val
  let g := group.val
  let p := position.val
  match s.runningTask (isSwapOf c i g p) with
  | none => .next s
  | some a =>
    let s := s.moveToSpare c i g p (s.dependents c i g) (s.rhz c i g).usable [pass0, pass1]
    let s := if (i = 1 ∨ i = 2) ∧ g < 16 then s.laneSpared c (positionLane g p) else s
    .next ((s.release a.place).endRepair c i g)

/-! ### Trunk lanes (R101, R106, R107) -/

/-- TRUNK_TIMEOUT (R101): g is the end that drives the lane in the active combination (R88).  In the DATA phase the
sending buffer holds a token: when the far buffer holds it too, the sender's copy is dropped, otherwise it is kept.  A
token that the far buffer holds stays there for the design, so that none is lost (log entry 66).  `failed`: what the
sounding of the lane's rhizoids finds; without any the lane returns to service at once. -/
def execTrunkTimeout (col : ColId) (lane : Fin 256) (g : Fin 2) (nullPhase : Bool)
    (failed : List (Fin 2 × Fin 66)) (s : State) : Host.Outcome State Fault Refusal :=
  let c := col.val
  let k := lane.val
  let q := matOf c g.val
  let b := s.laneBuf q k
  if s.flag (laneDis c k) ∨ s.laneOut c k ∨ s.drivesNow q k = false ∨ (nullPhase = false ∧ b = 0) then .next s
  else
    let s := s.count (COL_TRUNK_FAULTS c) (COL_RHZ_SAT_TRUNK_FAULTS c) 1
    let keeps := decide (b ≠ 0) && decide (s.laneBuf (matOf c (1 - g.val)) k = 0)
    let s := s.reportFault (if g.val = 0 then 3 else 1) c (.lane k) 0x8305 (srcTrunk c g.val)
      [(18, 1, k), (19, 1, b2n nullPhase), (20, 1, b2n keeps)]
    let s := if keeps then
        { s with col := { s.col with kept := Tab.put code0 s.col.kept (q * 256 + k) b } }
      else s
    let s := s.setLaneBuf q k 0
    .next ((s.failLane c k 1 (s.dependents c 1 (k / 16)) failed).laneSpared c k)

/-- TRUNK_CONTENTION (R106): g is the receiving end.  The token on the lane is lost (R107). -/
def execTrunkContention (col : ColId) (lane : Fin 256) (g : Fin 2) (s : State) :
    Host.Outcome State Fault Refusal :=
  let c := col.val
  let k := lane.val
  if s.flag (laneDis c k) then .next s
  else
    let layer := if g.val = 0 then 1 else 3
    let s := (s.setFlag (laneDis c k) true).count (COL_TRUNK_FAULTS c) (COL_RHZ_SAT_TRUNK_FAULTS c) 1
    let s := (s.setLaneBuf (matOf c 0) k 0).setLaneBuf (matOf c 1) k 0
    .next (s.reportFault layer c (.lane k) 0xC304 (srcTrunk c g.val)
      [(18, 1, k), (19, 1, s.activePair c), (20, 1, layer)])

/-- LANE_RETEST (R107): g is the receiving end; `failed`: what the sounding finds; `strayEnd`: an end whose drive
enable is set although the table does not name it. -/
def execLaneRetest (col : ColId) (lane : Fin 256) (g : Fin 2) (failed : List (Fin 2 × Fin 66))
    (strayEnd : Option (Fin 2)) (s : State) : Host.Outcome State Fault Refusal :=
  let c := col.val
  let k := lane.val
  if s.flag (laneDis c k) = false ∨ s.laneDead c k ∨ (Tab.get none0 s.col.restoring (c * 256 + k)).isSome then .next s
  else
    let s := s.failLane c k 0 (s.dependents c 1 (k / 16)) failed
    let stray := strayEnd.filter (fun e => !s.drivesNow (matOf c e.val) k)
    match stray with
    | some e => .next ((s.wantReloc (matOf c e.val)).endRetest c k stHW_FAULT)
    | none =>
      if s.laneDead c k then .next (s.endRetest c k stHW_FAULT)
      else if s.laneOut c k then
        .next { s with col := { s.col with restoring := Tab.put none0 s.col.restoring (c * 256 + k) (some g.val) } }
      else .next (s.restoreLane c k g.val 0)

end Sys2Proof.Machine
end

