-- ==== Sys2Proof/Machine/Dispatch.lean ====
section
/-! DEFINITION.  The dispatch: one arm for each command. -/

namespace Sys2Proof.Machine

open Sys2Proof

/-- The effect of a command on everything but the queue. -/
def exec (i : Instr) (s : State) : Host.Outcome State Fault Refusal :=
  match i with
  | .sessionOpen h method cls len password addr length resp => Sys2Proof.Machine.execSessionOpen h method cls len password addr length resp s
  | .sessionClose h tag => Sys2Proof.Machine.execSessionClose h tag s
  | .attest h addr nonce => Sys2Proof.Machine.execAttest h addr nonce s
  | .imageStage h addr length offset image => Sys2Proof.Machine.execImageStage h addr length offset image s
  | .imageCommit h slot => Sys2Proof.Machine.execImageCommit h slot s
  | .bootSelect h op slot => Sys2Proof.Machine.execBootSelect h op slot s
  | .packLoad h addr length offset image => Sys2Proof.Machine.execPackLoad h addr length offset image s
  | .ctxLoad h mat scope group slot entry waitMs => Sys2Proof.Machine.execCtxLoad h mat scope group slot entry waitMs s
  | .ctxSwap h group slot when_ tether at_ => Sys2Proof.Machine.execCtxSwap h group slot when_ tether at_ s
  | .scheduleSet h group pacer mode count first phases => Sys2Proof.Machine.execScheduleSet h group pacer mode count first phases s
  | .crosierLoad h mat scope group entry => Sys2Proof.Machine.execCrosierLoad h mat scope group entry s
  | .pacerSet h pacer op slackPct flags period phase margin at_ => Sys2Proof.Machine.execPacerSet h pacer op slackPct flags period phase margin at_ s
  | .regionBind h pacer op scope group mat anchor => Sys2Proof.Machine.execRegionBind h pacer op scope group mat anchor s
  | .queueCreate h queue sizeLog2 flags prod cons base => Sys2Proof.Machine.execQueueCreate h queue sizeLog2 flags prod cons base s
  | .queueBindRing h queue ring op => Sys2Proof.Machine.execQueueBindRing h queue ring op s
  | .queueReset h queue op => Sys2Proof.Machine.execQueueReset h queue op s
  | .trackSet h track op b10 b11 b12 b13 h14 h16 h18 w20 w24 => Sys2Proof.Machine.execTrackSet h track op b10 b11 b12 b13 h14 h16 h18 w20 w24 s
  | .stationSet h station kind track trigger flags zone field value pin offset win holdoff => Sys2Proof.Machine.execStationSet h station kind track trigger flags zone field value pin offset win holdoff s
  | .tallyQuery h track mode station id addr => Sys2Proof.Machine.execTallyQuery h track mode station id addr s
  | .survey h port what vf pins flags => Sys2Proof.Machine.execSurvey h port what vf pins flags s
  | .bistRun h op kind inst => Sys2Proof.Machine.execBistRun h op kind inst s
  | .repair h kind column unit group => Sys2Proof.Machine.execRepair h kind column unit group s
  | .relocate h mat flags target chains => Sys2Proof.Machine.execRelocate h mat flags target chains s
  | .fieldbookRead h source addr length => Sys2Proof.Machine.execFieldbookRead h source addr length s
  | .fieldbookMark h mark data => Sys2Proof.Machine.execFieldbookMark h mark data s
  | .powerDown h => Sys2Proof.Machine.execPowerDown h s
  | .fwUpdate h target addr length fw => Sys2Proof.Machine.execFwUpdate h target addr length fw s
  | .commandFetch ring opcode flags session id => Sys2Proof.Machine.execCommandFetch ring opcode flags session id s
  | .completionFlush ring => Sys2Proof.Machine.execCompletionFlush ring s
  | .doorbellWrite ring value => Sys2Proof.Machine.execDoorbellWrite ring value s
  | .ringEnable ring cfg => Sys2Proof.Machine.execRingEnable ring cfg s
  | .ringDisable ring cfg => Sys2Proof.Machine.execRingDisable ring cfg s
  | .dmaError ring index => Sys2Proof.Machine.execDmaError ring index s
  | .dataRingWriteback ring entries found => Sys2Proof.Machine.execDataRingWriteback ring entries found s
  | .dataRingCoalTimeout ring entry found => Sys2Proof.Machine.execDataRingCoalTimeout ring entry found s
  | .dataRingFetch ring entry words => Sys2Proof.Machine.execDataRingFetch ring entry words s
  | .msixCoalesceTimeout ring => Sys2Proof.Machine.execMsixCoalesceTimeout ring s
  | .heartbeatWrite value => Sys2Proof.Machine.execHeartbeatWrite value s
  | .heartbeatEnable value => Sys2Proof.Machine.execHeartbeatEnable value s
  | .heartbeatTimeout => Sys2Proof.Machine.execHeartbeatTimeout s
  | .perst asserted => Sys2Proof.Machine.execPerst asserted s
  | .flrPf0 => Sys2Proof.Machine.execFlrPf0 s
  | .flrPf1 => Sys2Proof.Machine.execFlrPf1 s
  | .linkDown => Sys2Proof.Machine.execLinkDown s
  | .linkUp width rate reversed degraded => Sys2Proof.Machine.execLinkUp width rate reversed degraded s
  | .badAccess req offset size write data => Sys2Proof.Machine.execBadAccess req offset size write data s
  | .hostBadAccess bar offset size write => Sys2Proof.Machine.execHostBadAccess bar offset size write s
  | .gatedAccess req offset size write => Sys2Proof.Machine.execGatedAccess req offset size write s
  | .windowAccess offset size write data => Sys2Proof.Machine.execWindowAccess offset size write data s
  | .regchResponse mat value late => Sys2Proof.Machine.execRegchResponse mat value late s
  | .regchTimeout mat => Sys2Proof.Machine.execRegchTimeout mat s
  | .registerWrite req offset value => Sys2Proof.Machine.execRegisterWrite req offset value s
  | .counterClear req offset => Sys2Proof.Machine.execCounterClear req offset s
  | .rcRead req offset => Sys2Proof.Machine.execRcRead req offset s
  | .lowWordRead req offset => Sys2Proof.Machine.execLowWordRead req offset s
  | .hrefLost => Sys2Proof.Machine.execHrefLost s
  | .hrefRestored absentUs => Sys2Proof.Machine.execHrefRestored absentUs s
  | .pllUnlock pll => Sys2Proof.Machine.execPllUnlock pll s
  | .pllLock pll => Sys2Proof.Machine.execPllLock pll s
  | .sscDetected => Sys2Proof.Machine.execSscDetected s
  | .clkDivWrite req fabric value => Sys2Proof.Machine.execClkDivWrite req fabric value s
  | .opEntryWrite req entry value => Sys2Proof.Machine.execOpEntryWrite req entry value s
  | .opRequest req value => Sys2Proof.Machine.execOpRequest req value s
  | .setPointReached rail => Sys2Proof.Machine.execSetPointReached rail s
  | .treeSourceSwitch req tree value => Sys2Proof.Machine.execTreeSourceSwitch req tree value s
  | .treeForcedSwitch req tree value => Sys2Proof.Machine.execTreeForcedSwitch req tree value s
  | .treeDividerChange req tree value => Sys2Proof.Machine.execTreeDividerChange req tree value s
  | .switchHung tree => Sys2Proof.Machine.execSwitchHung tree s
  | .treeSourceLost tree source => Sys2Proof.Machine.execTreeSourceLost tree source s
  | .treeSourceRestored tree source => Sys2Proof.Machine.execTreeSourceRestored tree source s
  | .clkEnWrite req second value => Sys2Proof.Machine.execClkEnWrite req second value s
  | .clkGrpWrite req value => Sys2Proof.Machine.execClkGrpWrite req value s
  | .timeAdjWrite req value => Sys2Proof.Machine.execTimeAdjWrite req value s
  | .ptmExchange offset => Sys2Proof.Machine.execPtmExchange offset s
  | .ptmLost => Sys2Proof.Machine.execPtmLost s
  | .powerOn => Sys2Proof.Machine.execPowerOn s
  | .vauxLost => Sys2Proof.Machine.execVauxLost s
  | .railGood rail => Sys2Proof.Machine.execRailGood rail s
  | .sequencerFail => Sys2Proof.Machine.execSequencerFail s
  | .railWarn rail mv => Sys2Proof.Machine.execRailWarn rail mv s
  | .railRecovered rail mv lowest => Sys2Proof.Machine.execRailRecovered rail mv lowest s
  | .railReset rail mv => Sys2Proof.Machine.execRailReset rail mv s
  | .vddFRestart => Sys2Proof.Machine.execVddFRestart s
  | .avsFault rail status => Sys2Proof.Machine.execAvsFault rail status s
  | .powerMeasurement rails => Sys2Proof.Machine.execPowerMeasurement rails s
  | .powerCapExceeded => Sys2Proof.Machine.execPowerCapExceeded s
  | .irDrop layer col localMv l0Mv => Sys2Proof.Machine.execIrDrop layer col localMv l0Mv s
  | .governorInterval => Sys2Proof.Machine.execGovernorInterval s
  | .sensorSample layer index reading => Sys2Proof.Machine.execSensorSample layer index reading s
  | .triangulation activity => Sys2Proof.Machine.execTriangulation activity s
  | .sensorReleased layer index => Sys2Proof.Machine.execSensorReleased layer index s
  | .criticalRestart => Sys2Proof.Machine.execCriticalRestart s
  | .triangulationRecal means => Sys2Proof.Machine.execTriangulationRecal means s
  | .illegalCode mat where_ index => Sys2Proof.Machine.execIllegalCode mat where_ index s
  | .channelRetest mat channel failed => Sys2Proof.Machine.execChannelRetest mat channel failed s
  | .clockedNull mat frond => Sys2Proof.Machine.execClockedNull mat frond s
  | .clockHeld mv => Sys2Proof.Machine.execClockHeld mv s
  | .clockReleased mv => Sys2Proof.Machine.execClockReleased mv s
  | .macOperation mat tile input => Sys2Proof.Machine.execMacOperation mat tile input s
  | .drainToken mat lane wire => Sys2Proof.Machine.execDrainToken mat lane wire s
  | .soundingStep col ifc group index quiet pass => Sys2Proof.Machine.execSoundingStep col ifc group index quiet pass s
  | .soundMiss col ifc group index => Sys2Proof.Machine.execSoundMiss col ifc group index s
  | .spareSwap col ifc group position pass0 pass1 => Sys2Proof.Machine.execSpareSwap col ifc group position pass0 pass1 s
  | .trunkTimeout col lane g nullPhase failed => Sys2Proof.Machine.execTrunkTimeout col lane g nullPhase failed s
  | .trunkContention col lane g => Sys2Proof.Machine.execTrunkContention col lane g s
  | .laneRetest col lane g failed strayEnd => Sys2Proof.Machine.execLaneRetest col lane g failed strayEnd s
  | .mportRequest first beside => Sys2Proof.Machine.execMportRequest first beside s
  | .mportResponseAck mat bank => Sys2Proof.Machine.execMportResponseAck mat bank s
  | .ceReread mat bank word again => Sys2Proof.Machine.execCeReread mat bank word again s
  | .scrubPass bank ces ues => Sys2Proof.Machine.execScrubPass bank ces ues s
  | .bankRemap bank => Sys2Proof.Machine.execBankRemap bank s
  | .bankRemapped bank ces ues spareFails copyNs => Sys2Proof.Machine.execBankRemapped bank ces ues spareFails copyNs s
  | .slotLoadDone mat slot match1 match2 failed => Sys2Proof.Machine.execSlotLoadDone mat slot match1 match2 failed s
  | .ctxLoadWaitTimeout ring id => Sys2Proof.Machine.execCtxLoadWaitTimeout ring id s
  | .swap group slot trigger => Sys2Proof.Machine.execSwap group slot trigger s
  | .swapFlip group quiet => Sys2Proof.Machine.execSwapFlip group quiet s
  | .swapTimeout group quiet => Sys2Proof.Machine.execSwapTimeout group quiet s
  | .swapRequestToken mat valid slot => Sys2Proof.Machine.execSwapRequestToken mat valid slot s
  | .schedulePhase group phase => Sys2Proof.Machine.execSchedulePhase group phase s
  | .crosierDrained mat quiet => Sys2Proof.Machine.execCrosierDrained mat quiet s
  | .crosierWriteDone mat failing => Sys2Proof.Machine.execCrosierWriteDone mat failing s
  | .crosierTimeout mat quiet => Sys2Proof.Machine.execCrosierTimeout mat quiet s
  | .axStreamWord inst word tagOk => Sys2Proof.Machine.execAxStreamWord inst word tagOk s
  | .axTruncated inst => Sys2Proof.Machine.execAxTruncated inst s
  | .periodBoundary pacer => Sys2Proof.Machine.execPeriodBoundary pacer s
  | .periodDeadline pacer => Sys2Proof.Machine.execPeriodDeadline pacer s
  | .lateRestore pacer => Sys2Proof.Machine.execLateRestore pacer s
  | .doneToken mat => Sys2Proof.Machine.execDoneToken mat s
  | .regionQuiescent pacer => Sys2Proof.Machine.execRegionQuiescent pacer s
  | .outputLatchWrite mat token => Sys2Proof.Machine.execOutputLatchWrite mat token s
  | .queuePush queue src item start last mismatch => Sys2Proof.Machine.execQueuePush queue src item start last mismatch s
  | .queuePop queue dst ecc mismatch => Sys2Proof.Machine.execQueuePop queue dst ecc mismatch s
  | .queDataRead req queue part ecc => Sys2Proof.Machine.execQueDataRead req queue part ecc s
  | .queDataWrite req queue part value => Sys2Proof.Machine.execQueDataWrite req queue part value s
  | .quePktOpen req queue => Sys2Proof.Machine.execQuePktOpen req queue s
  | .quePktClose req queue => Sys2Proof.Machine.execQuePktClose req queue s
  | .encoderEdge track a b => Sys2Proof.Machine.execEncoderEdge track a b s
  | .pulseEnd track station tally => Sys2Proof.Machine.execPulseEnd track station tally s
  | .axisToken mat pos => Sys2Proof.Machine.execAxisToken mat pos s
  | .edgeStimulus station => Sys2Proof.Machine.execEdgeStimulus station s
  | .noteToken mat token => Sys2Proof.Machine.execNoteToken mat token s
  | .talStimWrite req value => Sys2Proof.Machine.execTalStimWrite req value s
  | .birth engine => Sys2Proof.Machine.execBirth engine s
  | .note engine => Sys2Proof.Machine.execNote engine s
  | .fpInputChange pin level => Sys2Proof.Machine.execFpInputChange pin level s
  | .fpOutputToken pin level => Sys2Proof.Machine.execFpOutputToken pin level s
  | .fpRxItem port bits count idleBefore gapBefore gapAfter => Sys2Proof.Machine.execFpRxItem port bits count idleBefore gapBefore gapAfter s
  | .fpTxItem port ecc => Sys2Proof.Machine.execFpTxItem port ecc s
  | .fpCodeError port lostSync => Sys2Proof.Machine.execFpCodeError port lostSync s
  | .fpFoldback port pin => Sys2Proof.Machine.execFpFoldback port pin s
  | .fpRetry req port value => Sys2Proof.Machine.execFpRetry req port value s
  | .functionSwitch req target value => Sys2Proof.Machine.execFunctionSwitch req target value s
  | .functionSwitchEnd target => Sys2Proof.Machine.execFunctionSwitchEnd target s
  | .vioLost gpio index => Sys2Proof.Machine.execVioLost gpio index s
  | .vioRestored gpio index code => Sys2Proof.Machine.execVioRestored gpio index code s
  | .surveyRun port => Sys2Proof.Machine.execSurveyRun port s
  | .surveyDone port found => Sys2Proof.Machine.execSurveyDone port found s
  | .pinPortWrite core fieldPorts index value => Sys2Proof.Machine.execPinPortWrite core fieldPorts index value s
  | .extlEdge line level => Sys2Proof.Machine.execExtlEdge line level s
  | .laneEnable req lane value => Sys2Proof.Machine.execLaneEnable req lane value s
  | .laneDisable req lane value => Sys2Proof.Machine.execLaneDisable req lane value s
  | .laneDown lane cause => Sys2Proof.Machine.execLaneDown lane cause s
  | .laneUp lane => Sys2Proof.Machine.execLaneUp lane s
  | .laneRxToken lane rx => Sys2Proof.Machine.execLaneRxToken lane rx s
  | .tetherEnable req tether value => Sys2Proof.Machine.execTetherEnable req tether value s
  | .tetherUp tether peer peerRole latNs lanes => Sys2Proof.Machine.execTetherUp tether peer peerRole latNs lanes s
  | .tetherDown tether => Sys2Proof.Machine.execTetherDown tether s
  | .tetherDegraded tether lane => Sys2Proof.Machine.execTetherDegraded tether lane s
  | .tetherStrobe tether group slot at_ => Sys2Proof.Machine.execTetherStrobe tether group slot at_ s
  | .tetherReport tether group status => Sys2Proof.Machine.execTetherReport tether group status s
  | .tetherFlip tether group => Sys2Proof.Machine.execTetherFlip tether group s
  | .tetherAbandon tether group status => Sys2Proof.Machine.execTetherAbandon tether group status s
  | .tetherFlipAck tether group => Sys2Proof.Machine.execTetherFlipAck tether group s
  | .tetherTime tether lead => Sys2Proof.Machine.execTetherTime tether lead s
  | .tetherTimeSend resent => Sys2Proof.Machine.execTetherTimeSend resent s
  | .tetherConfig tether bytes image => Sys2Proof.Machine.execTetherConfig tether bytes image s
  | .tetherCredit tether blocks => Sys2Proof.Machine.execTetherCredit tether blocks s
  | .tetherStreamTimeout => Sys2Proof.Machine.execTetherStreamTimeout s
  | .imageVerify => Sys2Proof.Machine.execImageVerify s
  | .stagingAbandon => Sys2Proof.Machine.execStagingAbandon s
  | .nvImageWrite slot pass => Sys2Proof.Machine.execNvImageWrite slot pass s
  | .imageApply failed chains => Sys2Proof.Machine.execImageApply failed chains s
  | .libraryLoad mat entry pass => Sys2Proof.Machine.execLibraryLoad mat entry pass s
  | .provisioningGo req record => Sys2Proof.Machine.execProvisioningGo req record s
  | .sessionIdleTimeout tag => Sys2Proof.Machine.execSessionIdleTimeout tag s
  | .lockoutEnd => Sys2Proof.Machine.execLockoutEnd s
  | .stackManagerReady pair => Sys2Proof.Machine.execStackManagerReady pair s
  | .wake bootUs => Sys2Proof.Machine.execWake bootUs s
  | .deviceWarmReset req value => Sys2Proof.Machine.execDeviceWarmReset req value s
  | .warmResetContinue => Sys2Proof.Machine.execWarmResetContinue s
  | .swapGroupFabricReset req value => Sys2Proof.Machine.execSwapGroupFabricReset req value s
  | .coreReset req value => Sys2Proof.Machine.execCoreReset req value s
  | .coreResetRelease core => Sys2Proof.Machine.execCoreResetRelease core s
  | .relocationRequest mat chains => Sys2Proof.Machine.execRelocationRequest mat chains s
  | .groupStop mat => Sys2Proof.Machine.execGroupStop mat s
  | .relocation mat bad => Sys2Proof.Machine.execRelocation mat bad s
  | .relocationPrepared mat failed lost chains => Sys2Proof.Machine.execRelocationPrepared mat failed lost chains s
  | .relocationCut mat intact => Sys2Proof.Machine.execRelocationCut mat intact s
  | .mntTimeout place => Sys2Proof.Machine.execMntTimeout place s
  | .stewardFailover cause us => Sys2Proof.Machine.execStewardFailover cause us s
  | .standbyReady => Sys2Proof.Machine.execStandbyReady s
  | .firmwareUpdateRun pass => Sys2Proof.Machine.execFirmwareUpdateRun pass s
  | .fwStandbyTimeout => Sys2Proof.Machine.execFwStandbyTimeout s
  | .slice kind inst => Sys2Proof.Machine.execSlice kind inst s
  | .sliceDone kind inst sig us overrun => Sys2Proof.Machine.execSliceDone kind inst sig us overrun s
  | .traverse => Sys2Proof.Machine.execTraverse s
  | .traverseDone us => Sys2Proof.Machine.execTraverseDone us s
  | .fieldBookCommit => Sys2Proof.Machine.execFieldBookCommit s
  | .fbCommitted => Sys2Proof.Machine.execFbCommitted s
  | .programLoad core code pass => Sys2Proof.Machine.execProgramLoad core code pass s
  | .coreWatchdog core => Sys2Proof.Machine.execCoreWatchdog core s
  | .coreFault core sram => Sys2Proof.Machine.execCoreFault core sram s
  | .kwdkickWrite core => Sys2Proof.Machine.execKwdkickWrite core s
  | .kackWrite core value => Sys2Proof.Machine.execKackWrite core value s
  | .kdoorbellWrite core value => Sys2Proof.Machine.execKdoorbellWrite core value s
  | .pbusLockTake core => Sys2Proof.Machine.execPbusLockTake core s
  | .pbusLockRelease core reserved regs => Sys2Proof.Machine.execPbusLockRelease core reserved regs s
  | .pbusLockExpiry => Sys2Proof.Machine.execPbusLockExpiry s
  | .busTimeout core => Sys2Proof.Machine.execBusTimeout core s
  | .extest => Sys2Proof.Machine.execExtest s
  | .idcode => Sys2Proof.Machine.execIdcode s
  | .samplePreload => Sys2Proof.Machine.execSamplePreload s
  | .clamp => Sys2Proof.Machine.execClamp s
  | .highz => Sys2Proof.Machine.execHighz s
  | .bypass => Sys2Proof.Machine.execBypass s
  | .dbgReg request => Sys2Proof.Machine.execDbgReg request s
  | .tapReset => Sys2Proof.Machine.execTapReset s
  | .dbgAuthChallenge value => Sys2Proof.Machine.execDbgAuthChallenge value s
  | .dbgAuthPassword value => Sys2Proof.Machine.execDbgAuthPassword value s
  | .dbgAuthKey value resp => Sys2Proof.Machine.execDbgAuthKey value resp s
  | .dbgAuthClose value => Sys2Proof.Machine.execDbgAuthClose value s
  | .dbgAuthNoCredential value => Sys2Proof.Machine.execDbgAuthNoCredential value s
  | .secretsErased us => Sys2Proof.Machine.execSecretsErased us s
  | .debugIdleClose => Sys2Proof.Machine.execDebugIdleClose s
  | .dbgAccessRead value ecc => Sys2Proof.Machine.execDbgAccessRead value ecc s
  | .dbgAccessWrite value => Sys2Proof.Machine.execDbgAccessWrite value s
  | .dbgCoreHalt core reserved regs => Sys2Proof.Machine.execDbgCoreHalt core reserved regs s
  | .dbgCoreResume core => Sys2Proof.Machine.execDbgCoreResume core s
  | .dbgCoreStep core regs => Sys2Proof.Machine.execDbgCoreStep core regs s
  | .haltDeferredExpiry core regs => Sys2Proof.Machine.execHaltDeferredExpiry core regs s
  | .dbgRegDataWrite value => Sys2Proof.Machine.execDbgRegDataWrite value s
  | .cmpHit core comparator addr reserved regs => Sys2Proof.Machine.execCmpHit core comparator addr reserved regs s
  | .timeTick => Sys2Proof.Machine.execTimeTick s
  | .fpSync port => Sys2Proof.Machine.execFpSync port s
  | .atLimit port reached => Sys2Proof.Machine.execAtLimit port reached s
  | .laneTxToken lane tx => Sys2Proof.Machine.execLaneTxToken lane tx s
  | .phaseShed rail => Sys2Proof.Machine.execPhaseShed rail s
  | .fbkRdData7Read req => Sys2Proof.Machine.execFbkRdData7Read req s

end Sys2Proof.Machine
end

