-- ==== Sys2Proof/Machine/FabricStep.lean ====
section
/-! DEFINITION.  One step of the whole fabric, taken while no command waits: every mat whose design runs goes one step
of its fronds, wires, gates and buffers on (R45 to R82), the clocks of the regional trees have their edges (R60, R83),
and single-rail faults are found (R46).  What the rows of the table say of the design (a done token, a MAC operation, a
memory request) happens as those rows (log entry 30). -/

namespace Sys2Proof.Machine

open Sys2Proof

/-! ### Mats -/

/-- A mat one step on, from the state before the step: a mat whose design does not run presents NULL everywhere
(R59). -/
def State.advanceMat (before s : State) (q : Nat) : State :=
  if before.fabRuns q then
    let x := before.matNext q
    let k := s.activeSlot q
    (s.setSlot q k { s.slot q k with holds := x.2 }).setFab q x.1
  else s.setFab q { fab0 0 with bad := (s.fab q).bad }

/-- Responses of the banks that auxiliary drivers 72 to 79 acknowledge (R68, R109). -/
def State.ackResponses (before s : State) : State :=
  (before.mem.resp.map Prod.fst).foldl (fun s i =>
    if before.wire (i / 8) wAX (72 + i % 8) = .data1 then s.setPortResp (i / 8) (i % 8) none else s) s

/-! ### Clock edges (R60, R83, R84) -/

/-- A frond of a clocked island (R83). -/
def islandFrond (w : BitVec 256) : Bool := decide (fwMODE w = 5) || decide (fwMODE w = 0) && fwISLAND w

/-- A source carries an island's value: an island frond, or a track that carries one.  The number bounds the tracks. -/
def Ctx.fromIsland (c : Ctx) : Nat → WireSrc → Bool
  | _, .frond f => islandFrond (c.word f)
  | n + 1, .track k => match c.source wMT clsMT k with
    | some x => c.fromIsland n x
    | none => false
  | _, _ => false

/-- The wires of a context that carry an island's values inside the mat. -/
def Ctx.islandWires (c : Ctx) : List Nat :=
  let of (cls : Nat) (rc : RouteClass) : List Nat :=
    ((c.switches rc).filter (fun k => match c.source cls rc k with
      | some x => c.fromIsland 16 x
      | none => false)).map (8192 * cls + ·)
  of wMT clsMT ++ of wTL clsTL

/-- A mat's islands have settled: the step from one state to the next has changed nothing in them. -/
def State.settled (before s : State) (q : Nat) : Bool :=
  let c := before.activeCtx q
  let x := before.fab q
  let y := s.fab q
  c.words.all (fun e => !islandFrond e.2 ||
    decide (Tab.get null0 x.out e.1 = Tab.get null0 y.out e.1)) &&
  c.islandWires.all (fun i => decide (Tab.get null0 x.wires i = Tab.get null0 y.wires i))

/-- A CLOCKED frond at a selected edge: the hold captures the function output, and a NULL there is counted (R60). -/
def State.captureFrond (s : State) (q f : Nat) (w : BitVec 256) : State :=
  let is := s.frondInputs q f
  let value := logicOut (fwLUT w) true is .null
  let k := s.activeSlot q
  let x := s.slot q k
  let v := (clockedOut value (Code.ofHold (Tab.get code0 x.holds.fronds f))).toHold
  let s := s.setSlot q k { x with holds := { x.holds with fronds := Tab.put code0 x.holds.fronds f v } }
  if value = .null then s.clockedNull q f else s

/-- An edge at a mat: every CLOCKED frond that selects it (EDGE 0 rising, 1 falling) captures, from the codes that stand
before the edge. -/
def State.captureMat (s : State) (q : Nat) (rising : Bool) : State :=
  (s.activeCtx q).words.foldl (fun s e =>
    if fwMODE e.2 = 5 ∧ fwEDGE e.2 = !rising then s.captureFrond q e.1 e.2 else s) s

/-- Mats of a regional tree whose CLOCKED holds take its edges. -/
def State.treeMats (s : State) (n : Nat) : List Nat :=
  s.clockedMats.filter (fun q => decide (matTree q = n) && s.clocksRun q)

/-- The clock of a regional tree changes level once the islands that it serves have settled: an island meets its period
(R84).  The first edge after a forced switch ends the refusal of the tree's bridges (R263, R272). -/
def State.clockTree (before s : State) (n : Nat) : State :=
  let l := s.treeMats n
  let waits := Tab.get bool0 s.clk.refusing n
  if s.treeRuns n = false ∨ (l = [] ∧ waits = false) ∨ l.all (before.settled s) = false then s
  else
    let rising := !Tab.get bool0 s.ctx.clkHigh n
    let s := { s with ctx := { s.ctx with clkHigh := Tab.put bool0 s.ctx.clkHigh n rising },
                      clk := { s.clk with refusing := Tab.put bool0 s.clk.refusing n false } }
    l.foldl (fun s q => s.captureMat q rising) s

/-! ### Single-rail faults (R46, R89) -/

/-- An acknowledge input of a frond: a5 of STAGE, a1 to a5 of FORK (R55). -/
def frondAcks (w : BitVec 256) (is : List FrondIn) : List FrondIn :=
  match fwMODE w with
  | 1 => is.drop 5
  | 4 => is.drop 1
  | _ => []

/-- A code that a single-rail signal never carries: rail 0 is high (R46). -/
def FrondIn.badRail (i : FrondIn) : Bool := i.part && i.code.singleFault

/-- The places of a running mat, not yet recorded, where a single-rail signal has rail 0 high: fronds by their
acknowledge inputs, and the auxiliary drivers that are acknowledges (R46, R68). -/
def State.railFaults (s : State) (q : Nat) : List (Nat × Nat) :=
  let x := s.fab q
  let fronds := ((s.activeCtx q).words.filter (fun e =>
    (frondAcks e.2 (s.frondInputs q e.1)).any FrondIn.badRail)).map (fun e => (0, e.1))
  let aux := ((upto 80 ++ [160]).filter (fun k => (x.wire wAX k).singleFault)).map (fun k => (4, k))
  (fronds ++ aux).filter (fun p => decide (p ∉ x.bad))

def State.findFaults (s : State) (q : Nat) : State :=
  if s.fabRuns q then (s.railFaults q).foldl (fun s p => s.illegalAt q p.1 p.2) s else s

/-! ### The step -/

/-- One step of the fabric: all mats go on together from the state before. -/
def State.advance (s : State) : State :=
  let t := (upto 512).foldl (State.advanceMat s) (s.ackResponses s)
  let t := (upto 32).foldl (State.clockTree s) t
  (upto 512).foldl State.findFaults t

end Sys2Proof.Machine
end

