-- ==== Sys2Proof/Safety.lean ====
section
/-! DEFINITION.  What a claim about the machine may call safe: the canonical form of the tables that hold the
register file and the addressed memories, and the relation between a state and a later one that holds along
every run. -/

namespace Sys2Proof.Machine

open Sys2Proof

/-- The register file, the banks, the tightly coupled memories, the shared SRAM, the CSRs and the key store stand in their
one canonical form: keys strictly rising, no entry equal to what an unlisted key reads as. -/
def State.wf (s : State) : Bool :=
  Tab.wf regReset s.regs && Tab.wf memWord0 s.mem.words && Tab.wf byte0 s.core.tcm &&
    Tab.wf byte0 s.core.sram && Tab.wf csr0 s.core.csr && Tab.wf byte0 s.sec.keyStore

/-- What every later state t of a run shares with an earlier state s: the waiting commands are those of s, what
the device has sent stays sent and in order, free values are not used twice, the two roots in fuses that no
command writes are those of s (R378, R516), and the memories keep their canonical form. -/
structure Keeps (s t : State) : Prop where
  pending : t.pending = s.pending
  out : s.out <+: t.out
  free : s.free ≤ t.free
  boryr : t.sec.boryr = s.sec.boryr
  vendor : t.sec.vendor = s.sec.vendor
  wf : s.wf = true → t.wf = true

/-- A command goes through: the outcome is a next state, never a fault and never a refusal, and that state is a later
state of s. -/
def Goes (s : State) (o : Host.Outcome State Fault Refusal) : Prop := ∃ t, o = .next t ∧ Keeps s t

/-! ### Frames: what a command leaves as it is -/

/-- The parts of the state beside the register file that a frame tells apart. -/
inductive Part where
  | time | ev | rings | cmds | host | que | words | mem | col | ctx | pace | acts | mnt | bist | fbRing | fb
  | cores | csr | tcm | core | sessions | sec | img | pow | thm | pins | tal | lane | clk | dev | dbg | out | free
  deriving DecidableEq, Repr

/-- Two states agree on a part. -/
def Part.same (s t : State) : Part → Prop
  | .time => t.time = s.time
  | .ev => t.ev = s.ev
  | .rings => t.host.rings = s.host.rings
  | .cmds => t.host.cmds = s.host.cmds
  | .host => { t.host with rings := s.host.rings, cmds := s.host.cmds } = s.host
  | .que => t.que = s.que
  | .words => t.mem.words = s.mem.words
  | .mem => { t.mem with words := s.mem.words } = s.mem
  | .col => t.col = s.col
  | .ctx => t.ctx = s.ctx
  | .pace => t.pace = s.pace
  | .acts => t.mnt.acts = s.mnt.acts
  | .mnt => { t.mnt with acts := s.mnt.acts } = s.mnt
  | .bist => t.bist = s.bist
  | .fbRing => t.fb.ring = s.fb.ring ∧ t.fb.run = s.fb.run
  | .fb => { t.fb with ring := s.fb.ring, run := s.fb.run } = s.fb
  | .cores => t.core.cores = s.core.cores
  | .csr => t.core.csr = s.core.csr
  | .tcm => t.core.tcm = s.core.tcm
  | .core => { t.core with cores := s.core.cores, csr := s.core.csr, tcm := s.core.tcm } = s.core
  | .sessions => t.sec.sessions = s.sec.sessions
  | .sec => { t.sec with sessions := s.sec.sessions } = s.sec
  | .img => t.img = s.img
  | .pow => t.pow = s.pow
  | .thm => t.thm = s.thm
  | .pins => t.pins = s.pins
  | .tal => t.tal = s.tal
  | .lane => t.lane = s.lane
  | .clk => t.clk = s.clk
  | .dev => t.dev = s.dev
  | .dbg => t.dbg = s.dbg
  | .out => t.out = s.out
  | .free => t.free = s.free

/-- From s to t nothing changes but the named parts and the registers with the named keys; the queue of waiting
commands never does. -/
structure Framed (ps : List Part) (ks : List Nat) (s t : State) : Prop where
  pending : t.pending = s.pending
  part : ∀ p, p ∉ ps → Part.same s t p
  reg : ∀ k, k ∉ ks → t.rd k = s.rd k

/-- What raising an event may change (R32, R297, R488, R489, R505, R508): the event counter and latches, the rings and what is
sent to the host, the field-book ring and its commit, the arbiter's list, the cores' event rings. -/
def evParts : List Part := [.ev, .rings, .acts, .fbRing, .csr, .tcm, .out]

/-- What completing a host command may change besides (R293, R393): the list of accepted commands and the sessions' times. -/
def cmdParts : List Part := .cmds :: .sessions :: evParts

/-- Registers that raising an event may write (R297, R473, R488, R489). -/
def bookKeys : List Nat :=
  [HIF_EVDROPS, HIF_SAT_EVDROPS.reg, FBK_HEAD, FBK_STATUS, MNT_PREEMPTS, MNT_QUEUEDS, MNT_SAT]

/-- Parts that granting waiting activities may change, when another one ends (R369, R373, R418, R471). -/
def grantParts : List Part := [.acts, .img, .thm]

/-- Registers that granting waiting activities may write: the arbiter's counters, the header of a slot that is to be
written, the VALID bits of the library (R369, R373, R473). -/
def grantKeys : List Nat :=
  [MNT_PREEMPTS, MNT_SAT] ++ (upto 3).flatMap (fun k => [CFG_SLOT_STATE k, CFG_SLOT_ARV k, CFG_SLOT_SIZE k]) ++
    (upto 512).map (fun m => COL_CTX_LIB (matCol m) (matG m))

/-! ### Host commands -/

/-- The frame of host commands lets a command run (R293, R485): it was accepted, or its session may issue it now; POWER_DOWN
has not been given, or it is FIELDBOOK_READ; no reserved argument is set; and nothing has discarded it (R279). -/
structure Lets (s : State) (h : Hdr) (op : Nat) : Prop where
  session : (s.cmdOf h.ring.val h.id op).isSome = true ∨ s.mayIssue op h.session = true
  down : s.bist.down = 0 ∨ op = 0x70
  rsv : h.rsv = false
  kept : ∀ c, s.cmdOf h.ring.val h.id op = some c → c.discard = false

/-- From s to t a completion has been sent to the host, or has been added to those that wait in the completion ring that its
command ring's AUX names (R294, R295). -/
def Posted (s t : State) (c : Compl) : Prop :=
  (∃ a, Out.hostWrite a (complBytes c) ∈ t.out.drop s.out.length) ∨
    (t.ring (t.get ⟨ringAux c.ring, 0, 6⟩)).held.count c = (s.ring (t.get ⟨ringAux c.ring, 0, 6⟩)).held.count c + 1

/-- A host command has had its final completion, and the device no longer holds it. -/
structure Done (s t : State) (h : Hdr) (op status : Nat) (result : Word) : Prop where
  posted : Posted s t { ring := h.ring.val, id := h.id, status := status, final := true, opcode := op, result := result }
  gone : t.cmdOf h.ring.val h.id op = none

/-- A command that the device held, or that an activity names, has had its final completion, unless PERST# or an FLR had
discarded it (R279), and the device no longer holds it (R293, R294). -/
structure Ended (s t : State) (r : CmdRef) (status : Nat) (result : Word) : Prop where
  posted : (∀ c, s.cmdOf r.ring r.id r.opcode = some c → c.discard = false) →
    Posted s t { ring := r.ring, id := r.id, status := status, final := true, opcode := r.opcode, result := result }
  gone : t.cmdOf r.ring r.id r.opcode = none

/-- A host command waits: the interim completion QUEUED has been given (R294). -/
def Queued (s t : State) (h : Hdr) (op : Nat) : Prop :=
  Posted s t { ring := h.ring.val, id := h.id, status := stQUEUED, final := false, opcode := op, result := 0 }

/-- A piece of an image (kind 0) or a pack (kind 1) is aligned, of an allowed length, and the staging buffer may take it: as a
first piece (OFFSET 0), or as one that goes on where the piece before it ended (R367, R368). -/
structure Piece (s : State) (kind : Nat) (addr : Word) (length offset : BitVec 32) : Prop where
  aligned : addr.toNat % 64 = 0 ∧ length.toNat % 64 = 0
  size : 64 ≤ length.toNat ∧ length.toNat ≤ 134217728
  idle : s.stagingBusy kind = false
  next : offset = 0 ∨ (s.get CFG_STAGE_STATE = 1 ∧ s.get CFG_STAGE_KIND = kind ∧ s.img.abandoned = false ∧
    offset.toNat = s.get CFG_STAGE_BYTES_BYTES)

/-- n bytes of an image or a pack stand in the staging buffer, and its state is st (R367). -/
structure Staged (t : State) (kind st n : Nat) (i : Image) : Prop where
  staged : t.img.staged = some i
  state : t.get CFG_STAGE_STATE = st
  kind : t.get CFG_STAGE_KIND = kind
  bytes : t.get CFG_STAGE_BYTES_BYTES = n

/-- A session has opened under a fresh tag at a class, every other session is as it was, and SESSION_OPEN has its completion
(R388, R389). -/
structure Opened (s t : State) (h : Hdr) (tag : BitVec 16) (cls : Nat) : Prop where
  named : tag ≠ 0
  fresh : s.sessionClass tag = none
  opened : t.sessionClass tag = some cls
  others : ∀ u, u ≠ tag → t.sessionClass u = s.sessionClass u
  done : Done s t h 0x01 stOK (BitVec.ofNat 64 (tag.toNat + 65536 * cls))

/-! ### Bank words and queues -/

/-- A bank word without an error. -/
def wordOf (x : Word) : MemWord := { data := x, syn := 0, poison := false }

/-- Where a word written to a bank lands (R112, R115, R116, R457): in the bank that serves it, in b8 while it is being copied
there, and in the target column's bank while a relocation mirrors it. -/
def State.copiesOf (s : State) (b w : Nat) : List (Nat × Nat) :=
  (s.serving b, w) ::
    ((if s.get (bankState b) = 1 then [(2048 + bankCol b, w)] else []) ++
      s.mnt.acts.filterMap (fun a => match a.task with
        | .reloc r => if r.mirroring ∧ bankIdx b ∈ r.banks ∧ r.src.any (fun m => decide (matCol m = bankCol b)) then
            r.dst.head?.map (fun d => (s.serving (bankId (matCol d) (bankIdx b)), w)) else none
        | _ => none))

/-- A word x has been written at address w of the bank of b, without an error; no other word of any bank has changed, and of a
bank that is being copied to b8 the word is noted as written (R116). -/
structure Wrote (s t : State) (b w : Nat) (x : Word) : Prop where
  written : ∀ p ∈ s.copiesOf b w, t.word p.1 p.2 = wordOf x
  kept : ∀ c a, a < 8192 → (c, a) ∉ s.copiesOf b w → t.word c a = s.word c a
  noted : t.mem.mirrored = if s.get (bankState b) = 1 then
      Tab.put nil0 s.mem.mirrored (bankCol b) (insNat w (Tab.get nil0 s.mem.mirrored (bankCol b)))
    else s.mem.mirrored
  rest : { t.mem with words := s.mem.words, mirrored := s.mem.mirrored } = s.mem

/-- A queue after n words pushed at W (R199, R204, R210): in a running period of its region they stay unpublished. -/
def State.pushed (s : State) (q : Nat) (x : Queue) (n : Nat) : Queue :=
  { x with w := x.adv x.w n, pw := if s.heldBack q then x.pw else x.adv x.w n,
           freshAt := if s.heldBack q then x.freshAt else s.time }

/-- A queue after its head item v is popped (R199, R208, R213). -/
def Queue.popped (x : Queue) (v : Word) (bad : Bool) : Queue :=
  { x with r := x.adv x.r 1,
           left := if x.packet then (if x.headIsLength then v.toNat % 65536 else x.left - 1) else 0,
           ue := x.ue || (bad && decide (2 < x.cons)) }

/-- A posted entry of a data ring has been filled with k items of its queue x, from the given position behind R on, and written
back with SEQ and flags (R298, R299). -/
structure Filled (s t : State) (n q : Nat) (e : DEntry) (x : Queue) (first k seq flags : Nat) : Prop where
  queue : t.queue q = some { x with r := x.adv x.r (first + k), left := 0 }
  sent : (s.out ++
    [.hostWrite e.addr (((upto k).map (fun i => (s.itemAt q (first + i)).data)).foldr (fun w l => leBytes 8 w.toNat ++ l) []),
      .hostWrite (s.entryAddr n (s.ring n).c 32 + 16) (writeBackBytes (8 * k) seq flags (s.epochOf q).toNat s.time)]) <+: t.out
  index : (t.ring n).c = ((s.ring n).c + 1) % (2 * s.ringSize n)
  others : ∀ p, p ≠ q → t.queue p = s.queue p
  frame : Framed [.que, .rings, .out] [] s t

/-- A ring is in FAULT with a cause, and counted (R290). -/
structure RingFault (s t : State) (n cause : Nat) : Prop where
  state : t.get (ringSTATE n) = 2
  cause : t.get (ringCAUSE n) = cause
  counted : (t.rd HIF_RINGFAULTS).toNat = min 0xFFFFFFFF ((s.rd HIF_RINGFAULTS).toNat + 1)
  frame : Framed evParts (ringKey n 0x1C :: HIF_RINGFAULTS :: HIF_SAT_RINGFAULTS.reg :: bookKeys) s t

/-! ### Register accesses -/

/-- The register-window accesses l of a mat come to the front (R79, R142, R285): none waits where the mat cannot serve them, the
first is presented to the design where it can, or waits while a border policy holds it. -/
structure WindowGoesOn (s t : State) (p : Nat) (l : List WinAcc) : Prop where
  dead : s.regchServes p = false → t.window p = [] ∧ t.flag (gREGCH_BUSY p) = false
  held : s.regchServes p = true → (s.policyAt p).isSome = true →
    t.window p = stampFront s.time l ∧ t.flag (gREGCH_BUSY p) = false
  next : s.regchServes p = true → s.policyAt p = none →
    t.window p = stampFront s.time l ∧ t.flag (gREGCH_BUSY p) = decide (l ≠ [])

/-- An access of a requester to a register is performed (R266, R501, R506): the device has power, no other core's lock and no
clock gate stops it, and a service core writes only where it may. -/
structure Performs (s : State) (req : Requester) (k : Nat) (write : Bool) : Prop where
  on : s.dev.off = false
  free : s.lockedOut req k = false
  clocked : s.gated k = false
  may : write = true → ∀ c, req = .service c → serviceWrites k = true

/-! ### Debug -/

/-- A halt was asked of a core with a cause (R521, R522, R524): it is REFUSED where the core may not be halted, held for a core in
core reset, deferred while the core holds a reservation or PBUS_LOCK, and else the core halts with the given registers. -/
structure HaltAsked (s t : State) (n cause : Nat) (reserved : Bool) (regs : CoreRegs) : Prop where
  refused : s.mayHalt n = false → t.flag (DBG_CORE_STATUS_REFUSED n) = true ∧ t.coreAt n = s.coreAt n
  kept : s.mayHalt n = true → (s.coreAt n).halted = true ∨ (s.coreAt n).deferred = true → t.coreAt n = s.coreAt n
  held : s.mayHalt n = true → (s.coreAt n).halted = false → (s.coreAt n).deferred = false → (s.coreAt n).inReset = true →
    t.coreAt n = { s.coreAt n with haltReq := some cause }
  deferred : s.mayHalt n = true → (s.coreAt n).halted = false → (s.coreAt n).deferred = false → (s.coreAt n).inReset = false →
    reserved = true ∨ s.core.lock = some (leader n) →
    t.coreAt n = { s.coreAt n with haltReq := some cause, deferred := true, resv := reserved, askedAt := s.time }
  halts : s.mayHalt n = true → (s.coreAt n).halted = false → (s.coreAt n).deferred = false → (s.coreAt n).inReset = false →
    reserved = false → s.core.lock ≠ some (leader n) →
    (t.coreAt n).halted = true ∧ (t.coreAt n).pc = regs.pc ∧ (t.coreAt n).haltReq = none ∧ (t.coreAt n).haltedAt = s.time ∧
      t.get (DBG_CORE_STATUS_CAUSE n) = cause ∧ t.ev.seq = s.ev.seq + 1
  others : ∀ m, m ≠ n → t.coreAt m = s.coreAt m

/-- A DBG_REG access that the level in force does not allow (R514, R515): it has no effect but ERROR at the next capture. -/
structure TapRefused (s t : State) : Prop where
  error : t.dbg.capture = BitVec.ofNat 48 (2 ^ 43)
  told : .debugRefused ∈ t.out.drop s.out.length
  frame : Framed [.dbg, .out] [] s t

/-! ### Pins -/

/-- Registers that show the level and the control of a pin (R307, R310, R325). -/
def pinKeys (v : Nat) : List Nat :=
  if v < 256 then [FP_STATUS (v / 2)] else [GPIO_OWNER (v - 256), GPIO_IN ((v - 256) / 32)]

/-- A pin's owner mat is offered the pad's level (R102, R311, R314, R329, R331): the pin lies on its I/O path and is no paced
input, its I/O rhizoids are in service, and nothing freezes the input. -/
def State.offersLevel (s : State) (v m : Nat) : Bool :=
  decide (s.pinMat v = some m) && s.pinOnPath v && !(decide (256 ≤ v) && s.pinPaced v) && !s.useOut (s.physMat m) 3 &&
    !s.flag (switchFld v) && decide ((s.pinCause v).toNat / 16 % 2 = 0) && !(s.pinCause v).getLsbD 6 &&
    (decide (256 ≤ v) || (s.flag (fpEN v) && !s.flag (FP_STATUS_SURVEYING (v / 2))))

/-- The driver of a pin whose owner's channel sets its level is on (R310, R311, R326). -/
def State.drivesOut (s : State) (v : Nat) : Bool :=
  if v < 256 then
    (decide (s.get (FP_CFG_MODE (v / 2)) = 0) &&
      s.flag (if v % 2 = 0 then FP_CFG_DIR_A (v / 2) else FP_CFG_DIR_B (v / 2))) ||
    (decide (s.get (FP_CFG_MODE (v / 2)) = 1 ∨ s.get (FP_CFG_MODE (v / 2)) = 2) && decide (v % 2 = 0) &&
      s.flag (FP_CFG_DIR_A (v / 2)))
  else decide (2 ≤ s.get (GPIO_OWNER_KIND (v - 256)))

/-! ### Boot -/

/-- The slot that the device boots from: that of a trial that is pending, else the selected one (R370, R371). -/
def State.bootSlot (s : State) : Nat :=
  if s.flag CFG_BOOT_TRIAL_PENDING then s.get CFG_BOOT_TRIAL_SLOT else s.get CFG_BOOT_SEL

/-- The device has chosen its boot image (R371): the slot's image where it passes, else the datum image, else none. -/
structure BootsFrom (s t : State) : Prop where
  pending : t.flag CFG_BOOT_TRIAL_PENDING = false
  slot : (s.verifySlot s.bootSlot).status = stOK → t.img.boot =
    some { source := s.bootSlot, trial := s.flag CFG_BOOT_TRIAL_PENDING, failed := none, passed := true }
  datum : (s.verifySlot s.bootSlot).status ≠ stOK → (s.verifySlot 2).status = stOK →
    t.flag CFG_BOOT_FALLBACK = true ∧
      t.img.boot = some { source := 2, trial := false, failed := some s.bootSlot, passed := true }
  none : (s.verifySlot s.bootSlot).status ≠ stOK → (s.verifySlot 2).status ≠ stOK →
    t.flag CFG_BOOT_NO_IMAGE = true ∧ t.img.boot = Option.none

/-! ### Swaps -/

/-- The mats that a swap names are distinct mats of the stack, each served by a physical mat of its own, and its slot is one of
the four (R122, R130, R459). -/
structure SwapOk (s : State) (mats : List Nat) (slot : Nat) : Prop where
  slot : slot < 4
  mats : ∀ m ∈ mats, s.physMat m < 512 ∧ s.logMat (s.physMat m) = m

/-- Every mat that takes part in a swap has flipped to the slot and says so (R135, R162). -/
def Flipped (s t : State) (r : SwapRun) : Prop :=
  ∀ m ∈ r.mats, t.activeSlot (s.physMat m) = r.slot ∧
    t.get (COL_CTX_SWAPRES_STATUS (matCol (s.physMat m)) (matG (s.physMat m))) = stOK ∧
    t.get (COL_CTX_SWAPRES_SLOT (matCol (s.physMat m)) (matG (s.physMat m))) = r.slot

/-- Every mat that takes part in a swap keeps its slot and shows the status (R135 step 5', R162). -/
def Abandoned (s t : State) (r : SwapRun) (status : Nat) : Prop :=
  ∀ m ∈ r.mats, t.activeSlot (s.physMat m) = s.activeSlot (s.physMat m) ∧
    t.get (COL_CTX_SWAPRES_STATUS (matCol (s.physMat m)) (matG (s.physMat m))) = status ∧
    t.get (COL_CTX_SWAPRES_SLOT (matCol (s.physMat m)) (matG (s.physMat m))) = r.slot

/-! ### Faults of elements -/

/-- Registers of a layer supervisor that a reported fault and its repair write (R21, R23, R43). -/
def supKeys (y : Nat) : List Nat :=
  [LSUP_STATUS y, LSUP_LAST y, LSUP_FAULTS y, LSUP_SAT y] ++ (upto 8).map (LSUP_DEGRADED y)

end Sys2Proof.Machine
end

