-- ==== Sys2Proof/Certificates/Slice0/Obligations.lean ====
section
/-! DEFINITION.  The obligations: what the provers are to show of the model. -/

open Sys2Proof Sys2Proof.Machine

/-- A step takes the command at the front of the queue and answers what the command does with the queue's rest. The queue is the
model's own: it stands for the order in which commands, accesses and happenings reach the device.
With no command waiting the fabric goes one step on: the model's choice, log entries 1 and 30. -/
def Obligations.StepTakesFrontCommand : Prop :=
  (∀ (c : Instr) (rest : List Instr) (s : State), s.pending = c :: rest → step s = exec c { s with pending := rest }) ∧
  (∀ s : State, s.pending = [] → step s = .next s.advance)

/-- Right after power-on no command waits, device time and the event counter are 0 (R32), nothing has been sent, every register
reads its reset value, the device stands before P3 with no rail but VAUX good (R404, R426), and no ring, queue, slot, session,
activity or tally exists.  The part of ordering code -EP differs by its fuses: it is PROVISIONED and shows EP and its root (R2). -/
def Obligations.ResetState : Prop :=
  State.reset.pending = [] ∧ State.reset.time = 0 ∧ State.reset.ev.seq = 0 ∧ State.reset.out = [] ∧
    (∀ k, State.reset.rd k = regReset k) ∧ State.reset.pow.good = 0 ∧ State.reset.dev.off = false ∧
    (∀ q, Tab.get none0 State.reset.que.queues q = none) ∧ State.reset.sec.sessions = [] ∧ State.reset.mnt.acts = [] ∧
    (∀ t, Tab.get nil0 State.reset.tal.tallies t = []) ∧ State.reset.core.lock = none ∧
    State.reset.get SEC_LIFE_STATE = 0 ∧ State.reset.sec.root = none ∧ State.reset.flag SEC_LIFE_EP = false ∧
    State.resetEP.get SEC_LIFE_STATE = 1 ∧ State.resetEP.flag SEC_LIFE_EP = true ∧
    State.resetEP.flag SEC_LIFE_ROOT_SET = true ∧ State.resetEP.sec.root = some Config.submittedRoot ∧
    (∀ k, k ≠ SEC_LIFE → State.resetEP.rd k = regReset k)

/-- The register file, the banks, the tightly coupled memories, the shared SRAM, the CSRs and the key store of State.reset stand
in the one canonical form of the model. -/
def Obligations.ResetCanonical : Prop := State.reset.wf = true

/-- Whatever command runs, in whatever state: if the register file, the banks, the tightly coupled memories, the shared SRAM, the
CSRs and the key store stand in canonical form before a step, they do so after it. -/
def Obligations.StepKeepsCanonicalForm : Prop :=
  ∀ s t : State, s.wf = true → step s = .next t → t.wf = true

/-- Whatever command runs, in whatever state: it leaves the commands that wait behind it as they are, what the device has sent
stays sent and in its order, and the two roots that no command writes, the Boryr root and the vendor debug key hash in fuses,
keep their values (R378, R516). -/
def Obligations.StepKeepsQueueOutputAndRoots : Prop :=
  ∀ (s t : State) (c : Instr) (rest : List Instr), s.pending = c :: rest → step s = .next t →
    t.pending = rest ∧ s.out <+: t.out ∧ s.free ≤ t.free ∧ t.sec.boryr = s.sec.boryr ∧ t.sec.vendor = s.sec.vendor

/-- No command of the device stops the machine: what the spec calls a fault or a refusal is an event, a status or a register bit
of the next state. -/
def Obligations.EveryCommandAnswers : Prop :=
  ∀ (c : Instr) (s : State), ∃ t, exec c s = .next t ∧ Keeps s t

/-- A register and a field read what was written to them and leave every other register and every field apart from them as they
are (R8); a statistics counter counts by a stated amount, stops at 0xFFFF_FFFF with its SAT bit set and never wraps (R33). -/
def Obligations.RegistersAndCounters : Prop :=
  (∀ (s : State) (k j : Nat) (v : Reg), (s.wr k v).rd j = if j = k then v else s.rd j) ∧
  (∀ (s : State) (f : Fld) (x : Nat), f.lo + f.w ≤ 32 → (s.set f x).get f = x % 2 ^ f.w) ∧
  (∀ (s : State) (f g : Fld) (x : Nat), f.reg ≠ g.reg ∨ f.lo + f.w ≤ g.lo ∨ g.lo + g.w ≤ f.lo →
    (s.set f x).get g = s.get g) ∧
  (∀ (s : State) (k n : Nat) (f : Fld), f.reg ≠ k → f.w = 1 → f.lo < 32 → 0 < n →
    (((s.rd k).toNat + n < 0xFFFFFFFF → ((s.count k f n).rd k).toNat = (s.rd k).toNat + n ∧
        (s.count k f n).flag f = s.flag f) ∧
      (0xFFFFFFFF ≤ (s.rd k).toNat + n → (s.count k f n).rd k = 0xFFFFFFFF ∧ (s.count k f n).flag f = true)))

/-- An event record gets the next SEQ of the one counter, which wraps (R32); with a severity of at least FBK_CTL.MIN_SEV and no
commit trigger it is the newest entry of the field-book ring, which drops its oldest entry when it is full (R488); nothing but
book-keeping changes. -/
def Obligations.EventIsRecorded : Prop :=
  ∀ (s : State) (code src status : Nat) (data : BitVec 112), code < 65536 → evSeverity code < 3 →
    s.get FBK_CTL_MIN_SEV ≤ evSeverity code →
    (s.raiseRaw code src status data none).ev.seq = s.ev.seq + 1 ∧
    (∃ e, e.time = s.time ∧ e.seq = s.ev.seq ∧ e.code = BitVec.ofNat 16 code ∧ e.source = BitVec.ofNat 16 src ∧
      e.status = BitVec.ofNat 8 status ∧ e.data = data ∧
      (s.raiseRaw code src status data none).fb.ring =
        if 4096 < s.fb.ring.length + 1 then s.fb.ring.drop 1 ++ [e] else s.fb.ring ++ [e]) ∧
    Framed evParts bookKeys s (s.raiseRaw code src status data none)

/-- SESSION_OPEN (R388 to R392): METHOD 0 writes both certificates to the host and answers their length, METHOD 2 writes a fresh
challenge of 64 bytes and holds it; the other methods open a session: METHOD 4 an ADMIN session of a BLANK device without credential; METHOD 1 a
session of the class named (in RETIRED only OBSERVE), when a password of 8 to 48 bytes matches the class's record, and clears the lockout's counts;
METHOD 3 a session of the class named, when a key response to a challenge at most 10 s old holds; the challenge is spent.
Sessions end and lockouts end (R391, R393): SESSION_CLOSE closes the issuing session or, from an ADMIN session, any open one;
SESSION_IDLE_TIMEOUT closes a session whose tag no command has borne for IDLE_S seconds; LOCKOUT_END, when its time has run out,
ends the lockout and leaves the count of failures; no other session is touched. -/
def Obligations.SessionsOpenAndEnd : Prop :=
  (∀ (s : State) (h : Hdr) (cls : Byte) (pw : List Byte) (addr : Word) (len : BitVec 32) (resp : KeyResp),
    Lets s h 0x01 → s.get SEC_LIFE_STATE = 0 → cls.toNat < 4 → s.sec.sessions.length < 16 →
    ∃ t tag, exec (.sessionOpen h 4 cls 0 pw addr len resp) s = .next t ∧ Opened s t h tag 3 ∧
      Framed (.free :: cmdParts) bookKeys s t) ∧
  (∀ (s : State) (h : Hdr) (cls : Byte) (pw : List Byte) (addr : Word) (len : BitVec 32) (resp : KeyResp),
    Lets s h 0x01 → addr.toNat % 64 = 0 → s.sec.cert.length ≤ len.toNat →
    ∃ t, exec (.sessionOpen h 0 cls 0 pw addr len resp) s = .next t ∧
      Done s t h 0x01 stOK (BitVec.ofNat 64 s.sec.cert.length) ∧
      (s.dmaOn = true → Out.hostWrite addr s.sec.cert ∈ t.out.drop s.out.length) ∧ Framed cmdParts bookKeys s t) ∧
  (∀ (s : State) (h : Hdr) (cls : Byte) (pw : List Byte) (addr : Word) (len : BitVec 32) (resp : KeyResp),
    Lets s h 0x01 → addr.toNat % 64 = 0 →
    ∃ t l, exec (.sessionOpen h 2 cls 0 pw addr len resp) s = .next t ∧ l.length = 64 ∧
      (s.get SEC_LIFE_STATE ≠ 0 → Done s t h 0x01 stOK 0 ∧
        t.sec.challenge = some (BitVec.ofNat 512 (ofLeBytes l), s.time) ∧
        (s.dmaOn = true → Out.hostWrite addr l ∈ t.out.drop s.out.length)) ∧
      (s.get SEC_LIFE_STATE = 0 → Done s t h 0x01 stREFUSED 0 ∧ t.sec.challenge = s.sec.challenge) ∧
      Framed (.free :: .sec :: cmdParts) bookKeys s t) ∧
  (∀ (s : State) (h : Hdr) (cls n : Byte) (pw : List Byte) (addr : Word) (len : BitVec 32) (resp : KeyResp) (r : PwdRec),
    Lets s h 0x01 → s.get SEC_LIFE_STATE ≠ 0 → (s.get SEC_LIFE_STATE = 4 → cls = 0) → cls.toNat < 4 →
    s.sec.sessions.length < 16 → n.toNat = pw.length → 8 ≤ pw.length → pw.length ≤ 48 → s.flag SEC_LOCK_LOCKED = false →
    Tab.get none0 s.sec.pwds cls.toNat = some r → passwordOk r pw = true →
    ∃ t tag, exec (.sessionOpen h 1 cls n pw addr len resp) s = .next t ∧ Opened s t h tag cls.toNat ∧
      t.get SEC_LOCK_FAILS = 0 ∧ t.get SEC_LOCK_LEVEL = 0 ∧
      Framed (.free :: cmdParts) (SEC_LOCK_FAILS.reg :: bookKeys) s t) ∧
  (∀ (s : State) (h : Hdr) (cls : Byte) (pw : List Byte) (addr : Word) (resp : KeyResp) (c : BitVec 512) (at_ : Word),
    Lets s h 0x01 → s.get SEC_LIFE_STATE ≠ 0 → (s.get SEC_LIFE_STATE = 4 → cls = 0) → cls.toNat < 4 →
    s.sec.sessions.length < 16 → addr.toNat % 64 = 0 → s.sec.challenge = some (c, at_) →
    (s.time - at_).toNat ≤ 10000000000 → s.keyOk resp cls.toNat = true →
    ∃ t tag, exec (.sessionOpen h 3 cls 0 pw addr 1608 resp) s = .next t ∧ Opened s t h tag cls.toNat ∧
      t.sec.challenge = none ∧ Framed (.free :: .sec :: cmdParts) bookKeys s t) ∧
  (∀ (s : State) (h : Hdr) (tag : BitVec 16) (cls : Nat), Lets s h 0x02 →
    s.sessionClass (if tag = 0 then h.session else tag) = some cls →
    tag = 0 ∨ tag = h.session ∨ s.sessionClass h.session = some 3 →
    ∃ t, exec (.sessionClose h tag) s = .next t ∧ Done s t h 0x02 stOK 0 ∧
      t.sessionClass (if tag = 0 then h.session else tag) = none ∧
      (∀ u, u ≠ (if tag = 0 then h.session else tag) → t.sessionClass u = s.sessionClass u) ∧
      Framed cmdParts bookKeys s t) ∧
  (∀ (s : State) (tag : BitVec 16) (x : Session), x ∈ s.sec.sessions → x.tag = tag → s.get SEC_SESS_CTL_IDLE_S ≠ 0 →
    s.get SEC_SESS_CTL_IDLE_S * 1000000000 ≤ (s.time - x.used).toNat →
    ∃ t, exec (.sessionIdleTimeout tag) s = .next t ∧ t.sessionClass tag = none ∧
      (∀ u, u ≠ tag → t.sessionClass u = s.sessionClass u) ∧ Framed (.sessions :: evParts) bookKeys s t) ∧
  (∀ s : State, s.flag SEC_LOCK_LOCKED = true → s.pace.timeOn = false ∨ s.sec.lockEnd ≤ s.time →
    ∃ t, exec .lockoutEnd s = .next t ∧ t.flag SEC_LOCK_LOCKED = false ∧ t.get SEC_LOCK_FAILS = s.get SEC_LOCK_FAILS ∧
      Framed [] [SEC_LOCK_FAILS.reg] s t)

/-- A password that fails is counted, and the eighth failure and every later one start a lockout of 60 s doubled with each
level, at most 3,600 s; no session opens (R390, R391). -/
def Obligations.PasswordFailureLocksOut : Prop :=
  ∀ (s : State) (h : Hdr) (cls n : Byte) (pw : List Byte) (addr : Word) (len : BitVec 32) (resp : KeyResp) (r : PwdRec),
    Lets s h 0x01 → s.get SEC_LIFE_STATE ≠ 0 → (s.get SEC_LIFE_STATE = 4 → cls = 0) → cls.toNat < 4 →
    s.sec.sessions.length < 16 → n.toNat = pw.length → 8 ≤ pw.length → pw.length ≤ 48 → s.flag SEC_LOCK_LOCKED = false →
    Tab.get none0 s.sec.pwds cls.toNat = some r → passwordOk r pw = false →
    ∃ t, exec (.sessionOpen h 1 cls n pw addr len resp) s = .next t ∧ Done s t h 0x01 stAUTH 0 ∧
      (∀ tag, t.sessionClass tag = s.sessionClass tag) ∧
      t.get SEC_LOCK_FAILS = min 8 (s.get SEC_LOCK_FAILS + 1) ∧
      (s.get SEC_LOCK_FAILS + 1 < 8 → t.flag SEC_LOCK_LOCKED = false ∧ t.get SEC_LOCK_LEVEL = s.get SEC_LOCK_LEVEL ∧
        t.sec.lockEnd = s.sec.lockEnd) ∧
      (8 ≤ s.get SEC_LOCK_FAILS + 1 → t.flag SEC_LOCK_LOCKED = true ∧
        t.get SEC_LOCK_LEVEL = min 6 (s.get SEC_LOCK_LEVEL + 1) ∧
        t.sec.lockEnd = s.time + BitVec.ofNat 64 (min 3600 (60 * 2 ^ s.get SEC_LOCK_LEVEL) * 1000000000)) ∧
      Framed (.sec :: cmdParts) (SEC_LOCK_FAILS.reg :: SEC_AUTHFAILS :: SEC_SAT_AUTHFAILS.reg :: bookKeys) s t

/-- ATTEST writes a report of 896 bytes to host memory, 384 of them the report's fields (R397, R398), and answers its length; its
signature is a free value. PROVISIONING_GO with a record that passes every check (R385) does its operations, in the order SET_ROOT,
KEYS, PASSWORDS, DEPLOY, RETIRE: the customer root is set and BLANK left for PROVISIONED, the keys of KEY_MASK are replaced, the
four password records are replaced, DEPLOYED is entered, RETIRED is entered with every session closed and the identity key and
the passwords erased (R386); its status is shown. -/
def Obligations.AttestAndProvisioningComplete : Prop :=
  (∀ (s : State) (h : Hdr) (addr : Word) (nonce : BitVec 256), Lets s h 0x03 → addr.toNat % 64 = 0 → s.sec.identity = true →
    ∃ t sig, exec (.attest h addr nonce) s = .next t ∧ Done s t h 0x03 stOK 896 ∧
      (s.dmaOn = true → Out.hostWrite addr (s.report nonce ++ sig) ∈ t.out.drop s.out.length) ∧
      (s.report nonce).length = 384 ∧ sig.length = 512 ∧ Framed (.free :: cmdParts) bookKeys s t) ∧
  (∀ (s : State) (req : Requester) (r : ProvRecord), Performs s req SEC_PROV_CTL true →
    s.get CFG_STAGE_STATE ≠ 2 → s.get CFG_STAGE_STATE ≠ 4 → s.get CFG_STAGE_STATE ≠ 5 →
    r.passwords.length = 4 → (provOp r 1 = true → (r.wrapped.getD []).length = 4) → s.provStatus r = stOK →
    ∃ t, exec (.provisioningGo req r) s = .next t ∧
      t.get SEC_PROV_STATUS_STATE = 2 ∧ t.get SEC_PROV_STATUS_STATUS = stOK ∧
      t.get SEC_LIFE_STATE = (if provOp r 4 then 4 else if provOp r 3 then 2 else if provOp r 0 then 1
        else s.get SEC_LIFE_STATE) ∧
      t.sec.root = (if provOp r 0 then some r.rootKey else s.sec.root) ∧
      t.flag SEC_LIFE_ROOT_SET = (provOp r 0 || s.flag SEC_LIFE_ROOT_SET) ∧
      (∀ c, c < 4 → Tab.get none0 t.sec.pwds c = if provOp r 4 then none
        else if provOp r 2 then r.passwords.getD c none else Tab.get none0 s.sec.pwds c) ∧
      (∀ k, k < 4 → provOp r 4 = false → Tab.get none0 t.sec.keys k =
        if provOp r 1 && r.keyMask.getLsbD k then some ((r.wrapped.getD []).getD k 0)
        else Tab.get none0 s.sec.keys k) ∧
      (∀ tag, t.sessionClass tag = if provOp r 4 then none else s.sessionClass tag) ∧
      t.sec.identity = (!provOp r 4 && s.sec.identity))

/-- IMAGE_STAGE and PACK_LOAD take the pieces of an image or a pack (R364, R367, R368, R373): a first piece, or one that goes on
where the piece before it ended, completes with the bytes staged while the whole is not present; the piece that completes the
whole waits for its verification.  STAGING_ABANDON, 10 s after the last piece, discards what was staged; a piece that does not
begin anew then ends TRUNCATED. -/
def Obligations.PiecesAreStaged : Prop :=
  (∀ (s : State) (h : Hdr) (addr : Word) (len off : BitVec 32) (i : Image), Lets s h 0x10 → Piece s 0 addr len off →
    off.toNat + len.toNat < 256 ∨ (s.headerStatus false i = stOK ∧ off.toNat + len.toNat < i.total.toNat) →
    ∃ t, exec (.imageStage h addr len off i) s = .next t ∧ Done s t h 0x10 stOK (BitVec.ofNat 64 (off.toNat + len.toNat)) ∧
      Staged t 0 1 (off.toNat + len.toNat) i ∧ t.img.stagedAt = s.time ∧
      Framed (.img :: cmdParts) (CFG_STAGE :: CFG_STAGE_BYTES :: bookKeys) s t) ∧
  (∀ (s : State) (h : Hdr) (addr : Word) (len off : BitVec 32) (i : Image), Lets s h 0x10 → Piece s 0 addr len off →
    256 ≤ i.total.toNat → off.toNat + len.toNat = i.total.toNat → s.headerStatus false i = stOK →
    ∃ t, exec (.imageStage h addr len off i) s = .next t ∧ Staged t 0 2 i.total.toNat i ∧
      t.img.ref = some (hdrRef h 0x10) ∧ (t.cmdOf h.ring.val h.id 0x10).isSome = true ∧
      Framed [.img, .cmds, .sessions] [CFG_STAGE, CFG_STAGE_BYTES] s t) ∧
  (∀ (s : State) (h : Hdr) (addr : Word) (len off : BitVec 32) (i : Image), Lets s h 0x10 → addr.toNat % 64 = 0 →
    len.toNat % 64 = 0 → 64 ≤ len.toNat → len.toNat ≤ 134217728 → s.stagingBusy 0 = false → off ≠ 0 →
    s.img.abandoned = true →
    ∃ t, exec (.imageStage h addr len off i) s = .next t ∧ Done s t h 0x10 stTRUNCATED 0 ∧ Framed cmdParts bookKeys s t) ∧
  (∀ (s : State) (h : Hdr) (addr : Word) (len off : BitVec 32) (i : Image), Lets s h 0x13 → Piece s 1 addr len off →
    off.toNat + len.toNat < 256 ∨ (s.headerStatus true i = stOK ∧ off.toNat + len.toNat < i.total.toNat) →
    ∃ t, exec (.packLoad h addr len off i) s = .next t ∧ Done s t h 0x13 stOK (BitVec.ofNat 64 (off.toNat + len.toNat)) ∧
      Staged t 1 1 (off.toNat + len.toNat) i ∧ t.img.stagedAt = s.time ∧
      Framed (.img :: cmdParts) (CFG_STAGE :: CFG_STAGE_BYTES :: bookKeys) s t) ∧
  (∀ (s : State) (h : Hdr) (addr : Word) (len off : BitVec 32) (i : Image), Lets s h 0x13 → Piece s 1 addr len off →
    256 ≤ i.total.toNat → off.toNat + len.toNat = i.total.toNat → s.headerStatus true i = stOK →
    ∃ t, exec (.packLoad h addr len off i) s = .next t ∧ Staged t 1 2 i.total.toNat i ∧
      t.img.ref = some (hdrRef h 0x13) ∧ (t.cmdOf h.ring.val h.id 0x13).isSome = true ∧
      Framed [.img, .cmds, .sessions] [CFG_STAGE, CFG_STAGE_BYTES] s t) ∧
  (∀ (s : State) (h : Hdr) (addr : Word) (len off : BitVec 32) (i : Image), Lets s h 0x13 → addr.toNat % 64 = 0 →
    len.toNat % 64 = 0 → 64 ≤ len.toNat → len.toNat ≤ 134217728 → s.stagingBusy 1 = false → off ≠ 0 →
    s.img.abandoned = true →
    ∃ t, exec (.packLoad h addr len off i) s = .next t ∧ Done s t h 0x13 stTRUNCATED 0 ∧ Framed cmdParts bookKeys s t) ∧
  (∀ s : State, s.get CFG_STAGE_STATE = 1 → s.img.boot ≠ some streamWait → s.elapsed s.img.stagedAt 10000000000 = true →
    ∃ t, exec .stagingAbandon s = .next t ∧ t.get CFG_STAGE_STATE = 0 ∧ t.img.staged = none ∧ t.img.abandoned = true ∧
      Framed [.img] [CFG_STAGE, CFG_STAGE_BYTES] s t)

/-- A wholly staged image that passes waits for its commit, and its command completes with ARV and N (R364, R367); a pack that
passes begins to be written entry by entry, or ends at once when it names no entry (R373); one that fails is discarded, and its
command completes with the failure's status (R365). -/
def Obligations.StagingAndVerificationComplete : Prop :=
  (∀ (s : State) (i : Image) (r : CmdRef), s.img.staged = some i → s.img.ref = some r →
    s.get CFG_STAGE_STATE = 2 → s.get CFG_STAGE_KIND ≠ 1 → (s.verify false i).status = stOK →
    ∃ t, exec .imageVerify s = .next t ∧ t.get CFG_STAGE_STATE = 3 ∧ t.img.staged = some i ∧
      Ended s t r stOK (BitVec.ofNat 64 (i.arv.toNat + i.n.toNat * 2 ^ 32)) ∧
      Framed (.img :: .cmds :: evParts) (CFG_STAGE :: bookKeys) s t) ∧
  (∀ (s : State) (i : Image) (r : CmdRef), s.img.staged = some i → s.img.ref = some r →
    s.get CFG_STAGE_STATE = 2 → s.get CFG_STAGE_KIND = 1 → (s.verify true i).status = stOK →
    ∃ t, exec .imageVerify s = .next t ∧
      (packEntries (s.ownFrames i) ≠ [] → t.get CFG_STAGE_STATE = 5 ∧ t.img.staged = some i ∧
        ∃ p, t.img.pack = some p ∧ p.ref = r ∧ p.image = i ∧ p.left = packEntries (s.ownFrames i) ∧ p.written = 0) ∧
      (packEntries (s.ownFrames i) = [] → t.get CFG_STAGE_STATE = 0 ∧ t.img.pack = none ∧ t.img.staged = none ∧
        Ended s t r stOK 0)) ∧
  (∀ (s : State) (i : Image) (r : CmdRef), s.img.staged = some i → s.img.ref = some r → s.get CFG_STAGE_STATE = 2 →
    (s.verify (decide (s.get CFG_STAGE_KIND = 1)) i).status ≠ stOK →
    ∃ t, exec .imageVerify s = .next t ∧ t.get CFG_STAGE_STATE = 0 ∧ t.img.staged = none ∧
      t.get CFG_LAST_STATUS = (s.verify (decide (s.get CFG_STAGE_KIND = 1)) i).status % 256 ∧
      Ended s t r (s.verify (decide (s.get CFG_STAGE_KIND = 1)) i).status 0 ∧
      Framed (.img :: .cmds :: evParts) ([CFG_STAGE, CFG_STAGE_BYTES, CFG_LAST, CFG_REJECTS, CFG_SAT] ++ bookKeys) s t)

/-- A library entry of a pack is written by its granted LIBRARY_LOAD, which counts it and leaves the other entries to come; the
last one ends the pack; a write that fails twice ends it with HW_FAULT and leaves the entries to come without VALID (R99, R373).
AX frame ports (R157 to R160): the first word of a stream claims the staging buffer, the words that follow are kept in order, a
last word after which a check fails has the stream rejected, and an incomplete stream that no word continues for 1 ms is
rejected with TRUNCATED; a rejection is answered on the status channel. -/
def Obligations.PackAndAxStreamsAdvance : Prop :=
  (∀ (s : State) (mat : MatId) (entry : Fin 16) (a : Act) (p : PackRun),
    s.runningTask (fun t => decide (t = .libLoad (s.logMat mat.val) entry.val)) = some a → s.img.pack = some p →
    s.pow.nvHeld = false →
    ∃ t, exec (.libraryLoad mat entry true) s = .next t ∧
      t.entry mat.val entry.val =
        packEntry (s.ownFrames p.image) (s.logMat mat.val, entry.val) (s.entry mat.val entry.val) ∧
      (∀ m e, (m, e) ≠ (mat.val, entry.val) → e < 16 → t.entry m e = s.entry m e) ∧
      (p.left.filter (fun e => decide (e ≠ (s.logMat mat.val, entry.val))) ≠ [] →
        ∃ q, t.img.pack = some q ∧ q.left = p.left.filter (fun e => decide (e ≠ (s.logMat mat.val, entry.val))) ∧
          q.written = p.written + 1 ∧ q.ref = p.ref ∧ q.image = p.image) ∧
      (p.left.filter (fun e => decide (e ≠ (s.logMat mat.val, entry.val))) = [] →
        t.img.pack = none ∧ t.get CFG_STAGE_STATE = 0 ∧ Ended s t p.ref stOK (BitVec.ofNat 64 (p.written + 1)))) ∧
  (∀ (s : State) (mat : MatId) (entry : Fin 16) (a : Act) (p : PackRun),
    s.runningTask (fun t => decide (t = .libLoad (s.logMat mat.val) entry.val)) = some a → s.img.pack = some p →
    s.pow.nvHeld = false →
    ∃ t, exec (.libraryLoad mat entry false) s = .next t ∧ t.img.pack = none ∧ t.get CFG_STAGE_STATE = 0 ∧
      (∀ m e, t.entry m e = s.entry m e) ∧
      (∀ y ∈ p.left, t.bit (COL_CTX_LIB (matCol (s.physMat y.1)) (matG (s.physMat y.1))) y.2 = false) ∧
      Ended s t p.ref stHW_FAULT 0) ∧
  (∀ (s : State) (n : Fin 4) (ok : Bool), s.flag (CFG_AX_STATUS_EN n.val) = true → s.get (CFG_AX_STATUS_STATE n.val) ≤ 1 →
    (s.axAt n.val).words = [] → s.get CFG_STAGE_STATE = 0 ∨ s.get CFG_STAGE_STATE = 3 → s.mnt.fwStaged = none →
    ∃ t, exec (.axStreamWord n 0x5A3C0E71#32 ok) s = .next t ∧ (t.axAt n.val).words = [0x5A3C0E71#32] ∧
      t.get (CFG_AX_STATUS_STATE n.val) = 1 ∧ t.get (CFG_AX_WORDS_WORDS n.val) = 1 ∧ t.get CFG_STAGE_STATE = 0 ∧
      (∀ m, m ≠ n.val → t.axAt m = s.axAt m) ∧
      Framed [.ctx, .img] [CFG_AX_STATUS n.val, CFG_AX_WORDS n.val, CFG_STAGE, CFG_STAGE_BYTES] s t) ∧
  (∀ (s : State) (n : Fin 4) (w : BitVec 32) (ok : Bool) (ws : List (BitVec 32)), s.flag (CFG_AX_STATUS_EN n.val) = true →
    s.get (CFG_AX_STATUS_STATE n.val) ≤ 1 → (s.axAt n.val).words = ws → ws ≠ [] →
    (ws.length = 1 → 83 ≤ w.toNat) → ws.length + 1 < axCount (ws ++ [w]) → axCount (ws ++ [w]) ≤ 2097152 →
    ∃ t, exec (.axStreamWord n w ok) s = .next t ∧ (t.axAt n.val).words = ws ++ [w] ∧
      t.get (CFG_AX_WORDS_WORDS n.val) = ws.length + 1 ∧ (∀ m, m ≠ n.val → t.axAt m = s.axAt m) ∧
      Framed [.ctx] [CFG_AX_WORDS n.val] s t) ∧
  (∀ (s : State) (n : Fin 4) (w : BitVec 32) (ok : Bool) (ws : List (BitVec 32)), s.flag (CFG_AX_STATUS_EN n.val) = true →
    s.get (CFG_AX_STATUS_STATE n.val) ≤ 1 → (s.axAt n.val).words = ws → 2 ≤ ws.length →
    ws.length + 1 = axCount ws → axCheck (s.axAt n.val) (ws ++ [w]) ok ≠ stOK →
    ∃ t, exec (.axStreamWord n w ok) s = .next t ∧ (t.axAt n.val).words = [] ∧ t.get (CFG_AX_STATUS_STATE n.val) = 0 ∧
      t.get (CFG_AX_STATUS_LAST_STATUS n.val) = axCheck (s.axAt n.val) (ws ++ [w]) ok ∧
      Out.token (s.physMat (s.axAt n.val).hostMat) (.ax n.val) (axCheck (s.axAt n.val) (ws ++ [w]) ok) ∈
        t.out.drop s.out.length ∧
      Framed (.ctx :: evParts) (CFG_AX_STATUS n.val :: CFG_AX_WORDS n.val :: bookKeys) s t) ∧
  (∀ (s : State) (n : Fin 4), s.get (CFG_AX_STATUS_STATE n.val) = 1 → (s.axAt n.val).words ≠ [] →
    s.elapsed (s.axAt n.val).wordAt 1000000 = true →
    ∃ t, exec (.axTruncated n) s = .next t ∧ (t.axAt n.val).words = [] ∧ t.get (CFG_AX_STATUS_STATE n.val) = 0 ∧
      t.get (CFG_AX_STATUS_LAST_STATUS n.val) = stTRUNCATED ∧
      Out.token (s.physMat (s.axAt n.val).hostMat) (.ax n.val) stTRUNCATED ∈ t.out.drop s.out.length ∧
      Framed (.ctx :: evParts) (CFG_AX_STATUS n.val :: bookKeys) s t)

/-- Image slots (R369, R370): IMAGE_COMMIT submits the write of a slot that is not in use, the datum slot from an ADMIN session
only; a granted one leaves the slot without a valid header, one that must wait answers QUEUED and leaves it (R471).
NV_IMAGE_WRITE makes the slot valid with the image's ARV and size and completes, or leaves it blank and completes with HW_FAULT
when the write fails. BOOT_SELECT selects a slot, names it for a trial, or confirms the running trial and raises the ARV where
the image's is greater. -/
def Obligations.ImageSlotCommandsComplete : Prop :=
  (∀ (s : State) (h : Hdr) (slot : Byte) (p : Nat) (a : Act) (k : Fin 3), Lets s h 0x11 → slot.toNat = k.val →
    (slot.toNat = 2 → s.sessionClass h.session = some 3) → s.get CFG_STAGE_STATE = 3 → s.get CFG_STAGE_KIND ≠ 1 →
    s.slotInUse slot.toNat = false → freePlace s.mnt.acts (.nvImage k) = some p →
    a = { place := p, task := .nvImage k, locks := [.nvSlot slot.toNat, .nvPath], st := .waiting, requester := 3,
          ref := some (hdrRef h 0x11), since := s.time, resource := slot.toNat } →
    ∃ t, exec (.imageCommit h slot) s = .next t ∧ t.get CFG_STAGE_STATE = 4 ∧
      (t.cmdOf h.ring.val h.id 0x11).isSome = true ∧
      (grantable (s.mnt.acts ++ [a]) a = true → t.mnt.acts = grantIn (s.mnt.acts ++ [a]) a ∧
        t.flag (CFG_SLOT_STATE_VALID slot.toNat) = false ∧ Tab.get none0 t.img.slots slot.toNat = none) ∧
      (grantable (s.mnt.acts ++ [a]) a = false → t.mnt.acts = s.mnt.acts ++ [a] ∧ Queued s t h 0x11 ∧
        t.rd (CFG_SLOT_STATE slot.toNat) = s.rd (CFG_SLOT_STATE slot.toNat) ∧ t.img = s.img) ∧
      Framed (.img :: cmdParts) ([CFG_STAGE, CFG_SLOT_STATE slot.toNat, CFG_SLOT_ARV slot.toNat,
        CFG_SLOT_SIZE slot.toNat] ++ bookKeys) s t) ∧
  (∀ (s : State) (slot : Fin 3) (a : Act) (i : Image),
    s.runningTask (fun t => decide (t = .nvImage slot)) = some a → s.img.staged = some i → s.pow.nvHeld = false →
    (∀ b ∈ s.mnt.acts, ∀ k, b.task = .nvImage k → b = a) →
    (∃ t, exec (.nvImageWrite slot true) s = .next t ∧ t.flag (CFG_SLOT_STATE_VALID slot.val) = true ∧
      t.rd (CFG_SLOT_ARV slot.val) = i.arv ∧ t.rd (CFG_SLOT_SIZE slot.val) = i.total ∧
      Tab.get none0 t.img.slots slot.val = some i ∧ t.get CFG_STAGE_STATE = 0 ∧ t.img.staged = none ∧
      (∀ r, a.ref = some r → Ended s t r stOK 0)) ∧
    (∃ t, exec (.nvImageWrite slot false) s = .next t ∧ t.flag (CFG_SLOT_STATE_VALID slot.val) = false ∧
      Tab.get none0 t.img.slots slot.val = none ∧ t.get CFG_STAGE_STATE = 0 ∧ t.img.staged = none ∧
      (∀ r, a.ref = some r → Ended s t r stHW_FAULT 0))) ∧
  (∀ (s : State) (h : Hdr) (slot : Byte), Lets s h 0x12 → slot.toNat < 2 → s.slotWriting slot.toNat = false →
    s.flag (CFG_SLOT_STATE_VALID slot.toNat) = true → (s.rd SEC_ARV).toNat ≤ (s.rd (CFG_SLOT_ARV slot.toNat)).toNat →
    (∃ t, exec (.bootSelect h 0 slot) s = .next t ∧ Done s t h 0x12 stOK 0 ∧ t.get CFG_BOOT_SEL = slot.toNat ∧
      t.get CFG_BOOT_SRC = s.get CFG_BOOT_SRC ∧ t.flag CFG_BOOT_TRIAL_PENDING = s.flag CFG_BOOT_TRIAL_PENDING ∧
      Framed cmdParts (CFG_BOOT :: bookKeys) s t) ∧
    (∃ t, exec (.bootSelect h 1 slot) s = .next t ∧ Done s t h 0x12 stOK 0 ∧ t.flag CFG_BOOT_TRIAL_PENDING = true ∧
      t.get CFG_BOOT_TRIAL_SLOT = slot.toNat ∧ t.get CFG_BOOT_SEL = s.get CFG_BOOT_SEL ∧
      Framed cmdParts (CFG_BOOT :: bookKeys) s t)) ∧
  (∀ (s : State) (h : Hdr) (slot : Byte) (v : BitVec 32) (m : BitVec 512), Lets s h 0x12 → slot.toNat < 2 →
    s.slotWriting slot.toNat = false → s.img.running = some (v, m) → s.flag CFG_BOOT_TRIAL_RUNNING = true →
    s.get CFG_BOOT_SRC = slot.toNat →
    ((s.rd SEC_ARV).toNat < v.toNat → v.toNat ≤ (s.rd (CFG_SLOT_ARV 2)).toNat) →
    ∃ t, exec (.bootSelect h 2 slot) s = .next t ∧ Done s t h 0x12 stOK 0 ∧ t.get CFG_BOOT_SEL = slot.toNat ∧
      t.flag CFG_BOOT_TRIAL_RUNNING = false ∧
      t.rd SEC_ARV = (if (s.rd SEC_ARV).toNat < v.toNat then v else s.rd SEC_ARV) ∧
      Framed cmdParts (CFG_BOOT :: SEC_ARV :: bookKeys) s t)

/-- Slot loads (R127 to R129): a CTX_LOAD whose named mats pass their tests writes the entry's context into the slot of each, which
is LOADING and not activated, and waits; while a named mat is under relocation it answers QUEUED and is held (R473). The write
whose check code matches makes the slot READY when its FLOOR lies at or below VDD_F, else WAIT_FLOOR, and the last one ends the
command unless a slot waits for its floor; a write that mismatches twice leaves the slot EMPTY. WAIT_FLOOR_MS after the writes
(0 acts as 10) the command completes with TIMEOUT and the slots wait on. -/
def Obligations.SlotLoadsComplete : Prop :=
  (∀ (s : State) (h : Hdr) (mat : BitVec 16) (scope group slot entry w : Byte) (mats : List Nat), Lets s h 0x20 →
    s.namedMats scope.toNat mat.toNat group.toNat = some mats → mats ≠ [] → slot.toNat < 4 → entry.toNat < 16 →
    (∀ m ∈ mats, s.physMat m < 512 ∧ s.relocLocked (s.physMat m) = false ∧
      s.loadTest mats m slot.toNat entry.toNat = stOK ∧
      s.needsOut (s.physMat m) (s.entry (s.physMat m) entry.toNat).ctx = false) →
    ∃ t, exec (.ctxLoad h mat scope group slot entry w) s = .next t ∧
      (∀ m ∈ mats, t.slotState (s.physMat m) slot.toNat = slLOADING ∧
        (t.slot (s.physMat m) slot.toNat).ctx = (s.entry (s.physMat m) entry.toNat).ctx ∧
        (t.slot (s.physMat m) slot.toNat).activated = false) ∧
      (∃ r ∈ t.ctx.loads, r.ref = hdrRef h 0x20 ∧ r.mats = mats ∧ r.writing = mats ∧ r.slot = slot.toNat ∧ r.held = false ∧
        r.waitMs = if w = 0 then 10 else w.toNat) ∧
      (∀ q k, k < 4 → (∀ m ∈ mats, s.physMat m = q → k ≠ slot.toNat) → t.slot q k = s.slot q k)) ∧
  (∀ (s : State) (h : Hdr) (mat : BitVec 16) (scope group slot entry w : Byte) (mats : List Nat), Lets s h 0x20 →
    s.namedMats scope.toNat mat.toNat group.toNat = some mats → slot.toNat < 4 → entry.toNat < 16 →
    (∃ m ∈ mats, s.relocLocked (s.physMat m) = true) →
    ∃ t r, exec (.ctxLoad h mat scope group slot entry w) s = .next t ∧ t.ctx.loads = s.ctx.loads ++ [r] ∧
      r.ref = hdrRef h 0x20 ∧ r.mats = mats ∧ r.slot = slot.toNat ∧ r.entry = entry.toNat ∧ r.held = true ∧
      Queued s t h 0x20 ∧ Framed (.ctx :: cmdParts) bookKeys s t) ∧
  (∀ (s : State) (mat : MatId) (slot : SlotId) (m1 m2 : Bool) (f : List (Fin 4 × Fin 56 × Fin 66)) (r : LoadRun),
    m1 = true ∨ m2 = true →
    s.ctx.loads.find? (fun r => decide (r.slot = slot.val) && decide (s.logMat mat.val ∈ r.writing)) = some r →
    (∀ x ∈ s.ctx.loads, x.ref = r.ref → x = r) →
    ∃ t, exec (.slotLoadDone mat slot m1 m2 f) s = .next t ∧
      t.slotState mat.val slot.val = (if floorMv (s.get (COL_CTX_SRC_FLOOR (matCol mat.val) (matG mat.val) slot.val)) ≤ s.vddF
        then slREADY else slWAIT_FLOOR) ∧
      (r.held = false → delNat (s.logMat mat.val) r.writing = [] → t.loadWaits r = false →
        (∀ x ∈ t.ctx.loads, x.ref ≠ r.ref) ∧
        Ended s t r.ref (if r.failed = [] then stOK else stHW_FAULT) (BitVec.ofNat 64 (t.loadedMats r).length)) ∧
      (r.held = true ∨ delNat (s.logMat mat.val) r.writing ≠ [] ∨ t.loadWaits r = true →
        ∃ q ∈ t.ctx.loads, q.ref = r.ref ∧ q.writing = delNat (s.logMat mat.val) r.writing ∧ q.endedAt = s.time) ∧
      (∀ q k, t.slot q k = s.slot q k) ∧
      Framed (.ctx :: .cmds :: evParts) ((slotFld mat.val 0).reg :: bookKeys) s t) ∧
  (∀ (s : State) (mat : MatId) (slot : SlotId) (f : List (Fin 4 × Fin 56 × Fin 66)) (r : LoadRun),
    s.ctx.loads.find? (fun r => decide (r.slot = slot.val) && decide (s.logMat mat.val ∈ r.writing)) = some r →
    ∃ t, exec (.slotLoadDone mat slot false false f) s = .next t ∧ t.slotState mat.val slot.val = slEMPTY) ∧
  (∀ (s : State) (ring : Fin 64) (id : BitVec 32) (r : LoadRun),
    s.ctx.loads.find? (fun r => decide (r.ref.ring = ring.val ∧ r.ref.id = id)) = some r → r.held = false → r.writing = [] →
    s.loadWaits r = true → s.elapsed r.endedAt (r.waitMs * 1000000) = true →
    ∃ t, exec (.ctxLoadWaitTimeout ring id) s = .next t ∧
      t.ctx.loads = s.ctx.loads.filter (fun x => decide (x.ref ≠ r.ref)) ∧
      Ended s t r.ref (if r.failed = [] then stTIMEOUT else stHW_FAULT) (BitVec.ofNat 64 (s.loadedMats r).length) ∧
      (∀ q k, t.slot q k = s.slot q k) ∧ Framed (.ctx :: .cmds :: evParts) bookKeys s t)

/-- CTX_SWAP (R130 to R135): one for a device time or a period to come waits with the group; one at once of a group whose members
all have the slot active completes with OK and 0 flips, one whose members pass the tests withdraws them, and one that meets a
swap in progress, or a tether's or a pacer's that waits, completes with BUSY.
Phase schedules (R145, R146, R148): SCHEDULE_SET with MODE 0 and FIRST all ones clears the schedules of a group at once, with
another FIRST its clear waits for that period; with a mode it makes its phases the pending schedule of the group. A phase that
falls at its offset withdraws the members that pass the tests, or waits with the group while a swap runs. -/
def Obligations.SwapsAndSchedulesComplete : Prop :=
  (∀ (s : State) (h : Hdr) (group slot tether : Byte) (at_ : Word), Lets s h 0x21 → group.toNat < 64 → slot.toNat < 4 →
    tether.toNat < 2 → (s.group group.toNat).mats ≠ [] →
    (s.time ≤ at_ → ∃ t r, exec (.ctxSwap h group slot 1 tether at_) s = .next t ∧
      t.group group.toNat = { s.group group.toNat with timed := (s.group group.toNat).timed ++ [r] } ∧
      r.slot = slot.toNat ∧ r.when_ = 1 ∧ r.at_ = at_ ∧ r.trigger = 0 ∧ r.ref = some (hdrRef h 0x21) ∧
      r.tether = decide (tether = 1) ∧ (∀ g, g ≠ group.toNat → t.group g = s.group g) ∧
      (t.cmdOf h.ring.val h.id 0x21).isSome = true ∧ Framed [.ctx, .cmds, .sessions] [] s t) ∧
    (∀ p, (s.group group.toNat).schedPacer = some p → s.periodPast p at_.toNat = false →
      ∃ t r, exec (.ctxSwap h group slot 2 tether at_) s = .next t ∧
      t.group group.toNat = { s.group group.toNat with timed := (s.group group.toNat).timed ++ [r] } ∧
      r.slot = slot.toNat ∧ r.when_ = 2 ∧ r.at_ = at_ ∧ r.trigger = 0 ∧ r.ref = some (hdrRef h 0x21) ∧
      r.tether = decide (tether = 1) ∧ (∀ g, g ≠ group.toNat → t.group g = s.group g) ∧
      (t.cmdOf h.ring.val h.id 0x21).isSome = true ∧ Framed [.ctx, .cmds, .sessions] [] s t)) ∧
  (∀ (s : State) (h : Hdr) (group slot tether : Byte) (at_ : Word), Lets s h 0x21 → group.toNat < 64 → slot.toNat < 4 →
    tether.toNat < 2 → (s.group group.toNat).mats ≠ [] → (s.group group.toNat).run = none →
    s.outranked group.toNat 0 = false → (tether = 1 → s.leadTethers = []) →
    (s.swapParts group.toNat slot.toNat = [] → s.groupStopped group.toNat = false → s.crosierMember group.toNat = none →
      ∃ t, exec (.ctxSwap h group slot 0 tether at_) s = .next t ∧ Done s t h 0x21 stOK 0 ∧ Framed cmdParts bookKeys s t) ∧
    (s.swapParts group.toNat slot.toNat ≠ [] →
      (s.swapTest group.toNat slot.toNat (s.swapParts group.toNat slot.toNat)).1 = stOK →
      ∃ t w, exec (.ctxSwap h group slot 0 tether at_) s = .next t ∧ (t.group group.toNat).run = some w ∧
        w.slot = slot.toNat ∧ w.trigger = 0 ∧ w.ref = some (hdrRef h 0x21) ∧
        w.mats = s.swapParts group.toNat slot.toNat ∧ w.withdrawnAt = s.time ∧ w.quiet = none ∧
        (∀ g, g ≠ group.toNat → t.group g = s.group g) ∧ (∀ q k, t.slot q k = s.slot q k))) ∧
  (∀ (s : State) (h : Hdr) (group slot tether : Byte) (at_ : Word), Lets s h 0x21 → group.toNat < 64 → slot.toNat < 4 →
    tether.toNat < 2 → (s.group group.toNat).mats ≠ [] →
    (s.group group.toNat).run.isSome = true ∨ s.outranked group.toNat 0 = true →
    ∃ t, exec (.ctxSwap h group slot 0 tether at_) s = .next t ∧ Done s t h 0x21 stBUSY 0 ∧ Framed cmdParts bookKeys s t) ∧
  (∀ (s : State) (h : Hdr) (group pacer count : Byte) (phases : List (BitVec 32)), Lets s h 0x22 → group.toNat < 64 →
    ∃ t, exec (.scheduleSet h group pacer 0 count (BitVec.allOnes 64) phases) s = .next t ∧ Done s t h 0x22 stOK 0 ∧
      (t.group group.toNat).sched = none ∧ (t.group group.toNat).pending = none ∧
      (t.group group.toNat).timed = (s.group group.toNat).timed.filter (fun r => decide (r.when_ ≠ 2)) ∧
      (t.group group.toNat).mats = (s.group group.toNat).mats ∧ (∀ g, g ≠ group.toNat → t.group g = s.group g) ∧
      Framed (.ctx :: cmdParts) bookKeys s t) ∧
  (∀ (s : State) (h : Hdr) (group pacer : Byte) (first : Word) (phases : List (BitVec 32)), Lets s h 0x22 →
    group.toNat < 64 → pacer.toNat < 64 → first ≠ BitVec.allOnes 64 → s.periodBegun pacer.toNat first.toNat = false →
    s.groupOnPacer group.toNat pacer.toNat = true →
    ∃ t, exec (.scheduleSet h group pacer 0 0 first phases) s = .next t ∧ Done s t h 0x22 stOK 0 ∧
      t.group group.toNat = { s.group group.toNat with pending := some (first, pacer.toNat, none) } ∧
      (∀ g, g ≠ group.toNat → t.group g = s.group g) ∧ Framed (.ctx :: cmdParts) bookKeys s t) ∧
  (∀ (s : State) (h : Hdr) (group pacer mode : Byte) (first : Word) (phases : List (BitVec 32)), Lets s h 0x22 →
    group.toNat < 64 → pacer.toNat < 64 → mode = 1 ∨ mode = 2 → 1 ≤ phases.length → phases.length ≤ 8 →
    offsetsOk (s.get (PACE_PERIOD_PERIOD_NS pacer.toNat) - s.get (PACE_MARGIN_MARGIN_NS pacer.toNat)) (schedPhases phases) = true →
    s.periodBegun pacer.toNat first.toNat = false → s.groupOnPacer group.toNat pacer.toNat = true →
    (s.group group.toNat).mats ≠ [] → s.schedClear group.toNat ((schedPhases phases).map Prod.fst) = true →
    ∃ t c, exec (.scheduleSet h group pacer mode (BitVec.ofNat 8 phases.length) first phases) s = .next t ∧
      Done s t h 0x22 stOK 0 ∧ (t.group group.toNat).pending = some (first, pacer.toNat, some c) ∧ c.pacer = pacer.toNat ∧
      c.phases = schedPhases phases ∧ c.every = decide (mode = 2) ∧ c.first = first ∧
      (t.group group.toNat).sched = (s.group group.toNat).sched ∧
      (∀ g, g ≠ group.toNat → t.group g = s.group g) ∧ Framed (.ctx :: cmdParts) bookKeys s t) ∧
  (∀ (s : State) (group : Id64) (phase : Fin 8) (c : Sched) (slot off : Nat),
    (s.group group.val).sched = some c → c.due = phase.val → c.phases[phase.val]? = some (slot, off) → off ≠ 0 →
    s.paceState c.pacer = 2 → (s.paceStart c.pacer).toNat + off ≤ s.time.toNat →
    ((s.group group.val).run.isSome = true ∨ s.outranked group.val 1 = true →
      ∃ t r, exec (.schedulePhase group phase) s = .next t ∧
      (t.group group.val).sched = some { c with due := if c.every then c.due + 1 else c.phases.length } ∧
      (t.group group.val).run = (s.group group.val).run ∧
      (t.group group.val).waiting = (s.group group.val).waiting ++ [r] ∧ r.slot = slot ∧ r.trigger = 1 ∧ r.no = c.no ∧
      (∀ g, g ≠ group.val → t.group g = s.group g) ∧ Framed [.ctx] [] s t) ∧
    ((s.group group.val).run = none → s.outranked group.val 1 = false →
      (s.group group.val).tetherFlag = false ∨ s.leadTethers = [] → s.swapParts group.val slot ≠ [] →
      (s.swapTest group.val slot (s.swapParts group.val slot)).1 = stOK →
      ∃ t w, exec (.schedulePhase group phase) s = .next t ∧
      (t.group group.val).sched = some { c with due := if c.every then c.due + 1 else c.phases.length } ∧
      (t.group group.val).run = some w ∧ w.slot = slot ∧ w.trigger = 1 ∧ w.no = c.no ∧
      w.mats = s.swapParts group.val slot ∧ w.withdrawnAt = s.time ∧ (∀ g, g ≠ group.val → t.group g = s.group g)))

/-- The steps of a swap (R131, R132, R135): a trigger that waits and passes the tests withdraws the inputs of the members that
are not on the slot, once the group's swap in progress is over; when they are quiescent in time every one of them has the new
slot active and activated, with its kept holds (R138); when the timer expires first every one keeps its old slot, and a member
that was not quiescent is reported and counted (R162). A swap request of the design is acknowledged (R142), and withdraws the
members that pass the tests or ends BUSY (R132, R133). -/
def Obligations.SwapStepsComplete : Prop :=
  (∀ (s : State) (group : Id64) (slot : SlotId) (trigger : Fin 4) (r : SwapReq),
    ((s.group group.val).waiting ++ (s.group group.val).timed).find? (fun r =>
      decide (r.slot = slot.val) && decide (r.trigger = trigger.val) && s.ripeNow r) = some r →
    (s.group group.val).run = none → s.outranked group.val trigger.val = false → r.boundary = none →
    (r.tether = true → r.strobed = [] → s.leadTethers = []) → s.swapParts group.val slot.val ≠ [] →
    (s.swapTest group.val slot.val (s.swapParts group.val slot.val)).1 = stOK →
    ∃ t w, exec (.swap group slot trigger) s = .next t ∧ (t.group group.val).run = some w ∧ w.slot = slot.val ∧
      w.mats = s.swapParts group.val slot.val ∧ w.withdrawnAt = s.time ∧ w.trigger = trigger.val ∧ w.ref = r.ref ∧
      w.quiet = none ∧ w.lead = r.lead ∧ w.awaiting = r.strobed ∧
      (t.group group.val).waiting = (s.group group.val).waiting.erase r ∧
      (t.group group.val).timed = (s.group group.val).timed.erase r ∧
      (∀ g, g ≠ group.val → t.group g = s.group g) ∧ (∀ q k, t.slot q k = s.slot q k) ∧
      ((∀ m ∈ s.swapParts group.val slot.val, s.pinsOf m = []) → Framed [.ctx] [] s t)) ∧
  (∀ (s : State) (group : Id64) (quiet : List (MatId × BitVec 32)) (w : SwapRun), (s.group group.val).run = some w →
    w.quiet = none → w.lead = none → w.awaiting = [] → w.boundary = none → w.slot < 4 →
    (∀ m ∈ w.mats, s.physMat m < 512 ∧ s.logMat (s.physMat m) = m ∧ s.mayRest (s.physMat m) = true ∧
      s.activeSlot (s.physMat m) ≠ w.slot ∧ ∃ e ∈ s.logQuiet quiet, e.1 = m ∧ e.2 ≤ w.limit) →
    ∃ t, exec (.swapFlip group quiet) s = .next t ∧ (t.group group.val).run = none ∧
      (∀ m ∈ w.mats, t.activeSlot (s.physMat m) = w.slot ∧ t.slotState (s.physMat m) w.slot = slACTIVE ∧
        (t.slot (s.physMat m) w.slot).activated = true ∧
        (t.slot (s.physMat m) w.slot).ctx = (s.slot (s.physMat m) w.slot).ctx ∧
        (t.slot (s.physMat m) w.slot).holds = (s.slot (s.physMat m) w.slot).holds ∧
        t.get (COL_CTX_SWAPRES_STATUS (matCol (s.physMat m)) (matG (s.physMat m))) = stOK ∧
        t.get (COL_CTX_SWAPRES_SLOT (matCol (s.physMat m)) (matG (s.physMat m))) = w.slot ∧
        t.flag (COL_CTX_SWAPRES_NOT_QUIET (matCol (s.physMat m)) (matG (s.physMat m))) = false) ∧
      (∀ q, (∀ m ∈ w.mats, s.physMat m ≠ q) → q < 512 → t.activeSlot q = s.activeSlot q ∧ ∀ k, k < 4 → t.slot q k = s.slot q k) ∧
      (∀ r, w.trigger = 0 → w.ref = some r → ∃ res : Word, Ended s t r stOK res ∧ res.toNat % 65536 = w.mats.length % 65536)) ∧
  (∀ (s : State) (group : Id64) (quiet : List (MatId × BitVec 32)) (w : SwapRun), (s.group group.val).run = some w →
    w.boundary = none → w.slot < 4 → s.elapsed w.withdrawnAt w.limit = true →
    (w.quiet = none → ∃ m ∈ w.mats, ∀ e ∈ s.logQuiet quiet, e.1 ≠ m) →
    (∀ m ∈ w.mats, s.physMat m < 512 ∧ s.logMat (s.physMat m) = m) →
    (∀ a, w.asker = some a → s.logMat (s.physMat a) = a) →
    ∃ t, exec (.swapTimeout group quiet) s = .next t ∧ (t.group group.val).run = none ∧
      (∀ q, q < 512 → t.activeSlot q = s.activeSlot q) ∧ (∀ q k, t.slot q k = s.slot q k) ∧
      (∀ m ∈ w.mats,
        t.get (COL_CTX_SWAPRES_STATUS (matCol (s.physMat m)) (matG (s.physMat m))) = stSWAP_TIMEOUT ∧
        ((∀ e ∈ w.quiet.getD (s.logQuiet quiet), e.1 ≠ m) →
          t.flag (COL_CTX_SWAPRES_NOT_QUIET (matCol (s.physMat m)) (matG (s.physMat m))) = true ∧
          t.get (COL_CTX_QUIETNS_TIME (matCol (s.physMat m)) (matG (s.physMat m))) = 0xFFFFFFFF)) ∧
      (∀ r, w.trigger = 0 → w.ref = some r → ∃ res, Ended s t r stSWAP_TIMEOUT res)) ∧
  (∀ (s : State) (mat : MatId) (slot : SlotId) (g : Nat), s.heldNull mat.val = false →
    s.flag (gCROSIER mat.val) = false → s.crosierOf (s.logMat mat.val) = none → s.groupOf (s.logMat mat.val) = some g →
    (s.activeCtx mat.val).swapreqEn = true →
    ((s.group g).run = none → s.outranked g 2 = false → s.swapParts g slot.val ≠ [] →
      (s.swapTest g slot.val (s.swapParts g slot.val)).1 = stOK →
      ∃ t w, exec (.swapRequestToken mat true slot) s = .next t ∧ Out.token mat.val (.auxAck 81) 1 ∈ t.out.drop s.out.length ∧
        (t.group g).run = some w ∧ w.slot = slot.val ∧ w.trigger = 2 ∧ w.asker = some (s.logMat mat.val) ∧
        w.mats = s.swapParts g slot.val ∧ (∀ x, x ≠ g → t.group x = s.group x)) ∧
    ((s.group g).run.isSome = true ∨ s.outranked g 2 = true →
      ∃ t, exec (.swapRequestToken mat true slot) s = .next t ∧ Out.token mat.val (.auxAck 81) 1 ∈ t.out.drop s.out.length ∧
        t.get (COL_CTX_SWAPRES_STATUS (matCol (s.physMat (s.logMat mat.val))) (matG (s.physMat (s.logMat mat.val)))) = stBUSY ∧
        t.get (COL_CTX_SWAPRES_TRIGGER (matCol (s.physMat (s.logMat mat.val))) (matG (s.physMat (s.logMat mat.val)))) = 2 ∧
        t.ctx = s.ctx ∧
        Framed evParts ((COL_CTX_SWAPRES_STATUS (matCol (s.physMat (s.logMat mat.val)))
          (matG (s.physMat (s.logMat mat.val)))).reg :: bookKeys) s t))

/-- Crosier loads (R152 to R155, R158): CROSIER_LOAD of mats whose entry is VALID enters their region and their contexts run on; once
drained the holds are held NULL and the active slots are written, from the entry or with the frames of the stream, and a CONTENTION
that this gives ends the load and leaves the region in crosier state; a write whose comparisons matched releases every mat under
the new context and completes the load, one that fails leaves the region in crosier state and ends it with HW_FAULT; a timeout
before the drain writes nothing and ends it with SWAP_TIMEOUT. -/
def Obligations.CrosierLoadsComplete : Prop :=
  (∀ (s : State) (h : Hdr) (mat : BitVec 16) (scope group entry : Byte) (mats : List Nat), Lets s h 0x23 →
    s.namedMats scope.toNat mat.toNat group.toNat = some mats → entry.toNat < 16 →
    s.crosierTest mats (some entry.toNat) = stOK →
    ∃ t c, exec (.crosierLoad h mat scope group entry) s = .next t ∧
      t.ctx.crosiers = s.ctx.crosiers.filter (fun x => decide (x.mats ≠ mats)) ++ [c] ∧ c.mats = mats ∧ c.stage = 0 ∧
      c.entry = some entry.toNat ∧ c.inst = none ∧ c.ref = some (hdrRef h 0x23) ∧ c.enteredAt = s.time ∧
      c.limit = s.swapTimeout (s.leadCol mats) ∧
      (∀ q k, t.slot q k = s.slot q k) ∧
      ((∀ m ∈ mats, s.pinsOf m = []) → (t.cmdOf h.ring.val h.id 0x23).isSome = true ∧
        Framed (.ctx :: .cmds :: .sessions :: evParts) bookKeys s t)) ∧
  (∀ (s : State) (q : MatId) (c : Crosier) (l : List (MatId × BitVec 32)), s.crosierOf (s.logMat q.val) = some c →
    c.stage = 0 → (∀ e ∈ s.logQuiet l, e.1 ∈ c.mats → e.2 ≤ c.limit) →
    (∀ m ∈ c.mats, s.physMat m < 512 ∧ s.logMat (s.physMat m) = m) →
    ∃ t, exec (.crosierDrained q l) s = .next t ∧
      (∀ m ∈ c.mats, t.flag (gCROSIER (s.physMat m)) = true ∧ t.heldNull (s.physMat m) = true ∧
        t.activeSlot (s.physMat m) = s.activeSlot (s.physMat m) ∧
        t.slotState (s.physMat m) (s.activeSlot (s.physMat m)) = slCROSIER ∧
        (∀ e, c.entry = some e → t.activeCtx (s.physMat m) = (s.entry (s.physMat m) e).ctx) ∧
        (∀ n, c.entry = none → c.inst = some n →
          t.activeCtx (s.physMat m) = axPatch (s.axStreamFrames n) m (s.activeCtx (s.physMat m)))) ∧
      (∀ p k, k < 4 → (∀ m ∈ c.mats, s.physMat m = p → k ≠ s.activeSlot p) → t.slot p k = s.slot p k) ∧
      ((∀ m ∈ c.mats, t.columnClear (matCol (s.physMat m)) (t.colCtx (matCol (s.physMat m))) none = true) →
        { c with stage := 1 } ∈ t.ctx.crosiers) ∧
      ((∃ m ∈ c.mats, t.columnClear (matCol (s.physMat m)) (t.colCtx (matCol (s.physMat m))) none = false) →
        { c with stage := 2 } ∈ t.ctx.crosiers ∧ ∀ r, c.ref = some r → Ended s t r stCONTENTION 0)) ∧
  (∀ (s : State) (q : MatId) (c : Crosier) (bad : List MatId), s.crosierOf (s.logMat q.val) = some c → c.stage = 1 →
    (∀ m ∈ c.mats, s.physMat m < 512 ∧ s.logMat (s.physMat m) = m) →
    ((∀ p ∈ bad, s.logMat p.val ∉ c.mats) →
      ∃ t, exec (.crosierWriteDone q bad) s = .next t ∧
        t.ctx.crosiers = s.ctx.crosiers.filter (fun x => decide (x.mats ≠ c.mats)) ∧
        (∀ m ∈ c.mats, t.flag (gCROSIER (s.physMat m)) = false ∧
          t.heldNull (s.physMat m) = (match s.regionOf m with
            | some p => (s.pacer p).flushing
            | none => false) ∧
          (c.back = [] → t.activeSlot (s.physMat m) = s.activeSlot (s.physMat m) ∧
            t.slotState (s.physMat m) (s.activeSlot (s.physMat m)) = slACTIVE ∧
            (t.slot (s.physMat m) (s.activeSlot (s.physMat m))).activated = true ∧
            t.activeCtx (s.physMat m) = s.activeCtx (s.physMat m))) ∧
        (∀ r, c.ref = some r → Ended s t r stOK 0) ∧
        (∀ n, c.inst = some n → n < 4 → t.get (CFG_AX_STATUS_STATE n) = 0 ∧ t.get (CFG_AX_STATUS_LAST_STATUS n) = stOK)) ∧
    ((∃ p ∈ bad, s.logMat p.val ∈ c.mats) →
      ∃ t, exec (.crosierWriteDone q bad) s = .next t ∧ { c with stage := 2 } ∈ t.ctx.crosiers ∧
        (∀ p k, t.slot p k = s.slot p k) ∧ (∀ r, c.ref = some r → Ended s t r stHW_FAULT 0))) ∧
  (∀ (s : State) (q : MatId) (c : Crosier) (l : List (MatId × BitVec 32)), s.crosierOf (s.logMat q.val) = some c →
    c.stage = 0 → s.elapsed c.enteredAt c.limit = true → (∀ m ∈ c.mats, s.physMat m < 512 ∧ s.logMat (s.physMat m) = m) →
    ∃ t, exec (.crosierTimeout q l) s = .next t ∧ (∀ p j, t.slot p j = s.slot p j) ∧
      (∀ m ∈ c.mats, (∀ e ∈ s.logQuiet l, e.1 ≠ m) →
        t.get (COL_CTX_QUIETNS_TIME (matCol (s.physMat m)) (matG (s.physMat m))) = 0xFFFFFFFF) ∧
      (∀ r, c.ref = some r → Ended s t r stSWAP_TIMEOUT 0) ∧
      ((∀ m ∈ c.mats, s.flag (gCROSIER (s.physMat m)) = false) →
        t.ctx.crosiers = s.ctx.crosiers.filter (fun x => decide (x.mats ≠ c.mats))) ∧
      ((∃ m ∈ c.mats, s.flag (gCROSIER (s.physMat m)) = true) → { c with stage := 2 } ∈ t.ctx.crosiers))

/-- PACER_SET (R170): OP 1 on an OFF pacer within the limits of R168 arms it with its PERIOD, PHASE and MARGIN (0 acts as 100 ns,
SLACK_PCT 0 as 15) for the first boundary at least 10 µs ahead; OP 0 leaves an OFF pacer, stops an ARMED one at once, and is held
with a RUNNING one until the end of its period, as is a change with OP 2.
REGION_BIND (R172, R174): mats that may enter or leave the region of an OFF pacer do so at once, the first ones with the anchor
named, and the command completes; with an ARMED or RUNNING pacer the command is held until the boundary. -/
def Obligations.PacersAndRegionsComplete : Prop :=
  (∀ (s : State) (h : Hdr) (pacer slackPct flags : Byte) (period phase margin : BitVec 32) (at_ : Word), Lets s h 0x30 →
    pacer.toNat < 64 → slackPct.toNat ≤ 50 → flags.toNat ≤ 1 →
    paceFieldsOk period.toNat phase.toNat (if margin = 0 then 100 else margin.toNat) = true → s.paceState pacer.toNat = 0 →
    ∃ t, exec (.pacerSet h pacer 1 slackPct flags period phase margin at_) s = .next t ∧ t.paceState pacer.toNat = 1 ∧
      t.get (PACE_PERIOD_PERIOD_NS pacer.toNat) = period.toNat ∧ t.get (PACE_PHASE_PHASE_NS pacer.toNat) = phase.toNat ∧
      t.get (PACE_MARGIN_MARGIN_NS pacer.toNat) = (if margin = 0 then 100 else margin.toNat) ∧
      t.get (PACE_STATUS_SLACK_PCT pacer.toNat) = (if slackPct = 0 then 15 else slackPct.toNat) ∧
      t.flag (PACE_STATUS_GOV_EXCLUDE pacer.toNat) = decide (flags = 1) ∧
      (t.pacer pacer.toNat).next = BitVec.ofNat 64 (firstBoundary s.time.toNat period.toNat phase.toNat) ∧
      (t.pacer pacer.toNat).mats = (s.pacer pacer.toNat).mats ∧ (t.cmdOf h.ring.val h.id 0x30).isSome = true ∧
      (∀ p, p ≠ pacer.toNat → t.pacer p = s.pacer p) ∧
      Framed [.pace, .cmds, .sessions]
        [PACE_STATUS pacer.toNat, PACE_PERIOD pacer.toNat, PACE_PHASE pacer.toNat, PACE_MARGIN pacer.toNat] s t) ∧
  (∀ (s : State) (h : Hdr) (pacer slackPct flags : Byte) (period phase margin : BitVec 32) (at_ : Word), Lets s h 0x30 →
    pacer.toNat < 64 → slackPct.toNat ≤ 50 → flags.toNat ≤ 1 →
    (s.paceState pacer.toNat = 0 →
      ∃ t, exec (.pacerSet h pacer 0 slackPct flags period phase margin at_) s = .next t ∧ Done s t h 0x30 stOK 0 ∧
        Framed cmdParts bookKeys s t) ∧
    (s.paceState pacer.toNat = 1 →
      ∃ t, exec (.pacerSet h pacer 0 slackPct flags period phase margin at_) s = .next t ∧ t.paceState pacer.toNat = 0 ∧
        t.cmdOf h.ring.val h.id 0x30 = none ∧ (t.pacer pacer.toNat).ops = [] ∧ (t.pacer pacer.toNat).binds = [] ∧
        (t.pacer pacer.toNat).mats = (s.pacer pacer.toNat).mats ∧ (∀ p, p ≠ pacer.toNat → t.pacer p = s.pacer p)) ∧
    (2 ≤ s.paceState pacer.toNat → s.periodBegun pacer.toNat at_.toNat = false →
      ∃ t o, exec (.pacerSet h pacer 0 slackPct flags period phase margin at_) s = .next t ∧
        t.pacer pacer.toNat = { s.pacer pacer.toNat with ops := (s.pacer pacer.toNat).ops ++ [o] } ∧ o.op = 0 ∧ o.at_ = at_ ∧
        o.ref = hdrRef h 0x30 ∧ (∀ p, p ≠ pacer.toNat → t.pacer p = s.pacer p) ∧
        Framed [.pace, .cmds, .sessions] [] s t) ∧
    (s.paceState pacer.toNat ≠ 0 → s.periodBegun pacer.toNat at_.toNat = false →
      paceFieldsOk period.toNat 0 (if margin = 0 then s.get (PACE_MARGIN_MARGIN_NS pacer.toNat) else margin.toNat) = true →
      s.phasesBeyond pacer.toNat
        (period.toNat - if margin = 0 then s.get (PACE_MARGIN_MARGIN_NS pacer.toNat) else margin.toNat) = false →
      ∃ t o, exec (.pacerSet h pacer 2 slackPct flags period phase margin at_) s = .next t ∧
        t.pacer pacer.toNat = { s.pacer pacer.toNat with ops := (s.pacer pacer.toNat).ops ++ [o] } ∧ o.op = 2 ∧ o.at_ = at_ ∧
        o.period = period.toNat ∧ o.margin = margin.toNat ∧ o.slackPct = slackPct.toNat ∧ o.excl = decide (flags = 1) ∧
        o.ref = hdrRef h 0x30 ∧ (∀ p, p ≠ pacer.toNat → t.pacer p = s.pacer p) ∧
        Framed [.pace, .cmds, .sessions] [] s t)) ∧
  (∀ (s : State) (h : Hdr) (pacer scope group : Byte) (mat anchor : BitVec 16) (mats new : List Nat), Lets s h 0x31 →
    pacer.toNat < 64 → s.namedMats scope.toNat mat.toNat group.toNat = some mats →
    new = mats.foldl (fun l m => insNat m l) (s.pacer pacer.toNat).membersThen →
    ((s.pacer pacer.toNat).membersThen = [] → anchor.toNat ∈ mats) → s.groupSplit new = false →
    (∀ m ∈ mats, ∀ r, s.regionOf m = some r → r = pacer.toNat) → (∀ m ∈ new, s.matLeaves new m = false) →
    (∀ m ∈ mats, s.flag (gCROSIER (s.physMat m)) = false ∧ s.crosierOf m = none ∧ s.relocLocked (s.physMat m) = false) →
    (s.paceState pacer.toNat = 0 → (s.pacer pacer.toNat).binds = [] →
      ∃ t, exec (.regionBind h pacer 1 scope group mat anchor) s = .next t ∧ Done s t h 0x31 stOK 0 ∧
        (t.pacer pacer.toNat).mats = new ∧ (t.pacer pacer.toNat).first = true ∧
        (t.pacer pacer.toNat).anchor =
          (if (s.pacer pacer.toNat).mats = [] then some anchor.toNat else (s.pacer pacer.toNat).anchor) ∧
        (∀ p, p ≠ pacer.toNat → t.pacer p = s.pacer p) ∧ Framed (.pace :: cmdParts) bookKeys s t) ∧
    (s.paceState pacer.toNat ≠ 0 →
      ∃ t o, exec (.regionBind h pacer 1 scope group mat anchor) s = .next t ∧
        t.pacer pacer.toNat = { s.pacer pacer.toNat with binds := (s.pacer pacer.toNat).binds ++ [o] } ∧ o.bind = true ∧
        o.mats = mats ∧ o.anchor = anchor.toNat ∧ o.ref = hdrRef h 0x31 ∧
        (∀ p, p ≠ pacer.toNat → t.pacer p = s.pacer p) ∧ Framed [.pace, .cmds, .sessions] [] s t)) ∧
  (∀ (s : State) (h : Hdr) (pacer scope group : Byte) (mat anchor : BitVec 16) (mats new : List Nat), Lets s h 0x31 →
    pacer.toNat < 64 → s.namedMats scope.toNat mat.toNat group.toNat = some mats →
    new = mats.foldl (fun l m => delNat m l) (s.pacer pacer.toNat).membersThen → s.groupSplit new = false →
    (new ≠ [] → ∀ m ∈ mats, (s.pacer pacer.toNat).anchorThen ≠ some m) →
    (∀ m ∈ mats, s.flag (gCROSIER (s.physMat m)) = false ∧ s.crosierOf m = none ∧ s.relocLocked (s.physMat m) = false) →
    (s.paceState pacer.toNat = 0 → (s.pacer pacer.toNat).binds = [] →
      ∃ t, exec (.regionBind h pacer 0 scope group mat anchor) s = .next t ∧ (t.pacer pacer.toNat).mats = new ∧
        (t.pacer pacer.toNat).anchor = (if new = [] then none else (s.pacer pacer.toNat).anchor) ∧
        t.cmdOf h.ring.val h.id 0x31 = none ∧ (∀ p, p ≠ pacer.toNat → t.pacer p = s.pacer p)) ∧
    (s.paceState pacer.toNat ≠ 0 →
      ∃ t o, exec (.regionBind h pacer 0 scope group mat anchor) s = .next t ∧
        t.pacer pacer.toNat = { s.pacer pacer.toNat with binds := (s.pacer pacer.toNat).binds ++ [o] } ∧ o.bind = false ∧
        o.mats = mats ∧ o.ref = hdrRef h 0x31 ∧
        (∀ p, p ≠ pacer.toNat → t.pacer p = s.pacer p) ∧ Framed [.pace, .cmds, .sessions] [] s t))

/-- The period of a pacer (R168 to R187): a boundary that comes begins the next period, at the boundary's device time, with the
pacer RUNNING, unless the pacer is to stop there; it is held while a LATE restore, a cut or one of its swaps is not over (R147,
R182). A done token makes its mat done, and the region once every mat with DONE_EN is; quiescence gives the commit time; at the
deadline a region done in time commits its working latch, and another ends LATE with its cause and its mats held NULL; the restore
ends the flush, counts the LATE period and gives every mat the holds and the slot of the period's start (R151).
A token of the anchor mat on the output-latch channel writes its bytes into the working latch until the region is done; one
that comes after is counted and not written (R171, R176). -/
def Obligations.PeriodStepsComplete : Prop :=
  (∀ (s : State) (pacer : Id64) (n : Nat), (s.pacer pacer.val).next ≤ s.time →
    s.paceState pacer.val = 1 ∧ n = s.firstNum pacer.val ∨
      s.paceState pacer.val = 2 ∧ (s.pacer pacer.val).ended.isSome = true ∧ n = (s.paceNum pacer.val).toNat + 1 →
    ((∀ o ∈ (s.pacer pacer.val).ops, o.op = 1 ∨ n ≤ o.at_.toNat) →
      ∃ t, exec (.periodBoundary pacer) s = .next t ∧ t.paceState pacer.val = 2 ∧ t.paceNum pacer.val = BitVec.ofNat 64 n ∧
        t.paceStart pacer.val = (s.pacer pacer.val).next ∧
        (t.pacer pacer.val).next =
          (s.pacer pacer.val).next + BitVec.ofNat 64 (s.get (PACE_PERIOD_PERIOD_NS pacer.val)) ∧
        (t.pacer pacer.val).ended = none ∧ (t.pacer pacer.val).isDone = false ∧ (t.pacer pacer.val).tc = none ∧
        (∀ p, p ≠ pacer.val → t.pacer p = s.pacer p) ∧
        ((s.pacer pacer.val).flushing = true → (t.pacer pacer.val).boundaryHeld = true) ∧
        ((s.pacer pacer.val).flushing = false → s.cutAwaits pacer.val = false → (s.pacer pacer.val).binds = [] →
          ((t.pacer pacer.val).boundaryHeld = true ↔ t.boundarySwap pacer.val = true))) ∧
    ((∃ o ∈ (s.pacer pacer.val).ops, o.op = 0 ∧ o.at_.toNat < n) → (s.pacer pacer.val).flushing = false →
      ∃ t, exec (.periodBoundary pacer) s = .next t ∧ t.paceState pacer.val = 0 ∧ (t.pacer pacer.val).ops = [] ∧
        (t.pacer pacer.val).binds = [] ∧ (∀ p, p ≠ pacer.val → t.pacer p = s.pacer p))) ∧
  (∀ (s : State) (mat : MatId) (p : Nat), s.heldNull mat.val = false → s.crosierOf (s.logMat mat.val) = none →
    s.regionOf (s.logMat mat.val) = some p → s.paceState p = 2 → (s.pacer p).ended = none →
    (s.activeCtx mat.val).doneEn = true →
    ∃ t, exec (.doneToken mat) s = .next t ∧ (t.pacer p).done = insNat (s.logMat mat.val) (s.pacer p).done ∧
      ((t.pacer p).isDone = true ↔ (s.pacer p).isDone = true ∨ ((s.pacer p).boundaryHeld = false ∧ s.doneMats p ≠ [] ∧
        (∀ m ∈ s.doneMats p, m ∈ insNat (s.logMat mat.val) (s.pacer p).done) ∧
        ∀ m ∈ (s.pacer p).mats, s.flag (gCROSIER (s.physMat m)) = false)) ∧
      t.out = s.out ++ [.token mat.val (.auxAck 80) 1] ∧ (∀ o, o ≠ p → t.pacer o = s.pacer o) ∧
      Framed [.pace, .out] [] s t) ∧
  (∀ (s : State) (pacer : Id64), (s.pacer pacer.val).isDone = true → (s.pacer pacer.val).ended = none →
    (s.pacer pacer.val).tc = none → (∀ m ∈ (s.pacer pacer.val).mats, s.mayRest (s.physMat m) = true) →
    ∃ t, exec (.regionQuiescent pacer) s = .next t ∧ (t.pacer pacer.val).tc = some s.time ∧
      (∀ m ∈ (s.pacer pacer.val).mats, t.flag (gQUIET (s.physMat m)) = true) ∧
      (∀ p, p ≠ pacer.val → t.pacer p = s.pacer p) ∧
      Framed [.pace] ((s.pacer pacer.val).mats.map (fun m => (gQUIET (s.physMat m)).reg)) s t) ∧
  (∀ (s : State) (pacer : Id64) (tc : Word), s.paceState pacer.val = 2 → (s.pacer pacer.val).ended = none →
    s.deadline pacer.val ≤ s.time.toNat → s.flag HIF_STATUS_CMD_READY = false ∨ s.relocIn pacer.val 2 = false →
    s.forcedNow pacer.val = false → (s.pacer pacer.val).isDone = true → (s.pacer pacer.val).tc = some tc →
    tc.toNat ≤ s.deadline pacer.val →
    ∃ t, exec (.periodDeadline pacer) s = .next t ∧ (t.pacer pacer.val).ended = some true ∧
      (t.pacer pacer.val).committed = (s.pacer pacer.val).work ∧ t.rd (PACE_COMMITS pacer.val) = s.rd (PACE_COMMITS pacer.val) + 1 ∧
      t.flag (PACE_STATUS_LAST_LATE pacer.val) = false ∧ (∀ p, p ≠ pacer.val → t.pacer p = s.pacer p) ∧
      (s.pacedQueues pacer.val = [] → Tab.get nil0 s.tal.paced pacer.val = [] →
        Framed [.pace, .tal] [PACE_COMMITS pacer.val, PACE_STATUS pacer.val, PACE_SLACK_LAST pacer.val,
          PACE_SLACK_MIN pacer.val, PACE_RUN_NS pacer.val] s t)) ∧
  (∀ (s : State) (pacer : Id64) (cause : Nat), s.paceState pacer.val = 2 → (s.pacer pacer.val).ended = none →
    s.deadline pacer.val ≤ s.time.toNat → s.flag HIF_STATUS_CMD_READY = false ∨ s.relocIn pacer.val 2 = false →
    s.forcedNow pacer.val = true ∧ cause = 2 ∨
      s.forcedNow pacer.val = false ∧ (s.pacer pacer.val).isDone = false ∧ cause = 0 ∨
      s.forcedNow pacer.val = false ∧ (s.pacer pacer.val).isDone = true ∧
        (∀ tc, (s.pacer pacer.val).tc = some tc → s.deadline pacer.val < tc.toNat) ∧ cause = 1 →
    ∃ t, exec (.periodDeadline pacer) s = .next t ∧ (t.pacer pacer.val).ended = some false ∧
      (t.pacer pacer.val).flushing = true ∧ (t.pacer pacer.val).work = (s.pacer pacer.val).committed ∧
      t.get (PACE_LATECAUSE_CAUSE pacer.val) = cause ∧
      (∀ m ∈ (s.pacer pacer.val).mats, t.heldNull (s.physMat m) = true ∧ t.flag (gQUIET (s.physMat m)) = true) ∧
      (∀ p, p ≠ pacer.val → t.pacer p = s.pacer p) ∧
      Framed [.pace, .tal, .ctx, .mem, .que]
        (PACE_LATECAUSE pacer.val :: (s.pacer pacer.val).mats.map (fun m => (gQUIET (s.physMat m)).reg)) s t) ∧
  (∀ (s : State) (pacer : Id64), (s.pacer pacer.val).flushing = true →
    ∃ t, exec (.lateRestore pacer) s = .next t ∧ (t.pacer pacer.val).flushing = false ∧
      t.flag (PACE_STATUS_LAST_LATE pacer.val) = true ∧
      (t.rd (PACE_LATE pacer.val)).toNat = max (s.rd (PACE_LATE pacer.val)).toNat
        (min 0xFFFFFFFF ((s.rd (PACE_LATE pacer.val)).toNat + 1)) ∧
      (∀ p, p ≠ pacer.val → t.pacer p = s.pacer p) ∧
      ((s.pacer pacer.val).boundaryHeld = false → ∀ m ∈ (s.pacer pacer.val).mats, s.physMat m < 512 →
        s.flag (gCROSIER (s.physMat m)) = false → (∀ n ∈ (s.pacer pacer.val).mats, s.physMat n = s.physMat m → n = m) →
        (∀ j, j < 4 → (t.slot (s.physMat m) j).holds = (s.slot (s.physMat m) j).shadow) ∧
        t.heldNull (s.physMat m) = (s.atCut (s.physMat m) || Tab.get bool0 s.mnt.stopped (s.physMat m)) ∧
        (∀ k, Tab.find (s.pacer pacer.val).startSlot m = some k → k < 4 → t.activeSlot (s.physMat m) = k))) ∧
  (∀ (s : State) (mat : MatId) (token : BitVec 76) (p : Nat), s.heldNull mat.val = false →
    s.regionOf (s.logMat mat.val) = some p → p < 64 → (s.pacer p).anchor = some (s.logMat mat.val) → s.paceState p ≠ 0 →
    ((s.pacer p).isDone = false →
      ∃ t, exec (.outputLatchWrite mat token) s = .next t ∧
        Tab.get word0 (t.pacer p).work (bitsAt token.toNat 0 4) =
          mergeBytes (bitsAt token.toNat 68 8) (Tab.get word0 (s.pacer p).work (bitsAt token.toNat 0 4))
            (BitVec.ofNat 64 (bitsAt token.toNat 4 64)) ∧
        (∀ k, k ≠ bitsAt token.toNat 0 4 → Tab.get word0 (t.pacer p).work k = Tab.get word0 (s.pacer p).work k) ∧
        (t.pacer p).committed = (s.pacer p).committed ∧ (∀ o, o ≠ p → t.pacer o = s.pacer o) ∧ Framed [.pace] [] s t) ∧
    ((s.pacer p).isDone = true →
      ∃ t, exec (.outputLatchWrite mat token) s = .next t ∧
        (t.rd (PACE_AFTERDONE p)).toNat = max (s.rd (PACE_AFTERDONE p)).toNat
          (min 0xFFFFFFFF ((s.rd (PACE_AFTERDONE p)).toNat + 1)) ∧
        Framed [] [PACE_AFTERDONE p, PACE_SAT p] s t))

/-- A TIME tick moves device time by 2 ns, by 4 ns when the declared spread is due, and by 4 ns or 0 once in the slewing gap while an
offset is slewed (R165, R167, R249); with nothing that waits for time it changes nothing else. While device time does not run it
changes nothing.
Corrections of device time (R166, R167): a CLK_TIME_ADJ write of at least 2 ns within the step limit is slewed, and one beyond
it while no pacer is ARMED or RUNNING sets device time once with STEPPED, else is slewed; a PTM exchange records its offset and
sets PTM_VALID, which four intervals without one clear. -/
def Obligations.TimeMovesAndIsCorrected : Prop :=
  (∀ s : State, s.pace.timeOn = true → s.meanPpm = 0 → s.pace.spread = 0 → s.pace.slew = 0 →
    (∀ t, t < 64 → s.trackOn t = false) → s.tal.recs = [] → s.mnt.again = [] →
    ∃ t, exec .timeTick s = .next t ∧ t.time = s.time + 2 ∧ t.pace.slew = 0 ∧ t.pace.pacers = s.pace.pacers ∧
      Framed [.time, .pace] [] s t) ∧
  (∀ s : State, s.pace.timeOn = true →
    ∃ t, exec .timeTick s = .next t ∧ t.time = s.time +
      (if 1000000 ≤ s.pace.spread + s.meanPpm then 4
        else if s.pace.slewWait = 0 ∧ s.pace.slew ≠ 0 then (if 0 < s.pace.slew then 4 else 0) else 2)) ∧
  (∀ s : State, s.pace.timeOn = false → exec .timeTick s = .next s) ∧
  (∀ (s : State) (req : Requester) (v : BitVec 32), Performs s req CLK_TIME_ADJ true → s.followsTether = false →
    v.toInt.natAbs ≤ s.get CLK_TIME_CTL_STEP_LIMIT_US * 1000 ∨ s.anyPacer = true → 2 ≤ v.toInt.natAbs →
    ∃ t, exec (.timeAdjWrite req v) s = .next t ∧ t.pace.slew = v.toInt ∧ t.flag CLK_TIME_STATUS_SLEWING = true ∧
      t.time = s.time ∧ t.pace.pacers = s.pace.pacers ∧ Framed [.pace, .cores] [CLK_TIME_STATUS] s t) ∧
  (∀ (s : State) (req : Requester) (v : BitVec 32), Performs s req CLK_TIME_ADJ true → s.followsTether = false →
    s.get CLK_TIME_CTL_STEP_LIMIT_US * 1000 < v.toInt.natAbs → s.anyPacer = false →
    ∃ t, exec (.timeAdjWrite req v) s = .next t ∧ t.time = s.time + v.signExtend 64 ∧ t.pace.slew = 0 ∧
      t.flag CLK_TIME_STATUS_STEPPED = true ∧ t.flag CLK_TIME_STATUS_SLEWING = false ∧
      ((∀ t, t < 64 → s.trackOn t = false) →
        Framed (.time :: .pace :: .cores :: evParts) (CLK_TIME_STATUS :: bookKeys) s t)) ∧
  (∀ (s : State) (offset : Word), s.flag CLK_TIME_CTL_PTM_EN = true → s.followsTether = true →
    ∃ t, exec (.ptmExchange offset) s = .next t ∧ t.rd CLK_TIME_OFFSET = satOffset offset ∧
      t.flag CLK_TIME_STATUS_PTM_VALID = true ∧ t.pace = { s.pace with ptmAt := s.time } ∧
      Framed [.pace] [CLK_TIME_OFFSET, CLK_TIME_STATUS] s t) ∧
  (∀ (s : State) (offset : Word), s.flag CLK_TIME_CTL_PTM_EN = true → s.followsTether = false →
    offset.toInt.natAbs ≤ s.get CLK_TIME_CTL_STEP_LIMIT_US * 1000 ∨ s.anyPacer = true → 2 ≤ offset.toInt.natAbs →
    ∃ t, exec (.ptmExchange offset) s = .next t ∧ t.rd CLK_TIME_OFFSET = satOffset offset ∧
      t.flag CLK_TIME_STATUS_PTM_VALID = true ∧ t.pace.slew = offset.toInt ∧ t.time = s.time ∧
      Framed [.pace] [CLK_TIME_OFFSET, CLK_TIME_STATUS] s t) ∧
  (∀ s : State, s.flag CLK_TIME_STATUS_PTM_VALID = true → s.elapsed s.pace.ptmAt (4 * s.ptmInterval) = true →
    ∃ t, exec .ptmLost s = .next t ∧ t.flag CLK_TIME_STATUS_PTM_VALID = false ∧
      Framed evParts (CLK_TIME_STATUS :: bookKeys) s t)

/-- Device time is a 64-bit number of ns (R36): a TIME tick of 2 ns with no correction under way leaves the number modulo 2^64, so
that the tick that ends 2^64 ns answers device time 0. -/
def Obligations.DeviceTimeWraps : Prop :=
  ∀ s : State, s.pace.timeOn = true → s.meanPpm = 0 → s.pace.spread = 0 → s.pace.slew = 0 →
    (∀ t, t < 64 → s.trackOn t = false) → s.tal.recs = [] → s.mnt.again = [] →
    ∃ t, exec .timeTick s = .next t ∧ t.time.toNat = (s.time.toNat + 2) % 2 ^ 64 ∧
      (s.time.toNat + 2 = 2 ^ 64 → t.time = 0)

/-- Host commands on queues (R215 to R217): a creation that passes its tests makes an empty queue with the given buffer and ends
and moves EPOCH on, and any other ends with the status of its first failed test; a ring is bound to a queue with a ring end, or
unbound; a reset clears pointers, packet and copy and moves EPOCH on, and a delete takes an unbound queue away.
A core opens a packet with a free word for its length slot, closing the packet that is open, and waits without one; closing
writes the length word with the packet's number of data words and SEQ into the slot and moves SEQ on (R207, R208). A core held in
core reset does neither (R214). QUEUE_BIND_RING of a queue that does not exist ends REFUSED (the model's choice, log entry 69). -/
def Obligations.QueuesAndPacketsComplete : Prop :=
  (∀ (s : State) (h : Hdr) (q base : BitVec 16) (lg flags prod cons : Byte), Lets s h 0x40 →
    s.createStatus q.toNat lg.toNat flags.toNat prod.toNat cons.toNat base.toNat = stOK →
    ∃ t x, exec (.queueCreate h q lg flags prod cons base) s = .next t ∧ Done s t h 0x40 stOK 0 ∧ t.queue q.toNat = some x ∧
      x.r = 0 ∧ x.w = 0 ∧ x.pw = 0 ∧ x.base = base.toNat ∧ x.size = 2 ^ lg.toNat ∧ x.packet = flags.getLsbD 0 ∧
      x.prod = prod.toNat ∧ x.cons = cons.toNat ∧ x.ring = none ∧ t.epochOf q.toNat = s.epochOf q.toNat + 1 ∧
      (∀ p, p ≠ q.toNat → t.queue p = s.queue p ∧ t.epochOf p = s.epochOf p) ∧ Framed (.que :: cmdParts) bookKeys s t) ∧
  (∀ (s : State) (h : Hdr) (q base : BitVec 16) (lg flags prod cons : Byte), Lets s h 0x40 →
    s.createStatus q.toNat lg.toNat flags.toNat prod.toNat cons.toNat base.toNat ≠ stOK →
    ∃ t, exec (.queueCreate h q lg flags prod cons base) s = .next t ∧
      Done s t h 0x40 (s.createStatus q.toNat lg.toNat flags.toNat prod.toNat cons.toNat base.toNat) 0 ∧
      Framed cmdParts bookKeys s t) ∧
  (∀ (s : State) (h : Hdr) (q n : BitVec 16) (op : Byte), Lets s h 0x41 → q.toNat < 8192 → n.toNat < 1024 → op.toNat ≤ 1 →
    (∀ x, s.queue q.toNat = some x → x.prod = 3 ∨ x.cons = 3 → 64 ≤ n.toNat → (op = 1 → x.ring = none) →
      (∀ e ∈ s.que.queues, e.1 ≠ q.toNat → ∀ y, e.2 = some y → y.ring ≠ some n.toNat) →
      ∃ t, exec (.queueBindRing h q n op) s = .next t ∧ Done s t h 0x41 stOK 0 ∧
        t.queue q.toNat = some { x with
          ring := if op = 1 then some n.toNat else if x.ring = some n.toNat then none else x.ring } ∧
        (∀ p, p ≠ q.toNat → t.queue p = s.queue p) ∧ Framed (.que :: cmdParts) bookKeys s t) ∧
    ((∀ x, s.queue q.toNat = some x → (x.prod ≠ 3 ∧ x.cons ≠ 3) ∨ n.toNat < 64 ∨ (op = 1 ∧ x.ring ≠ none) ∨
        ∃ e ∈ s.que.queues, e.1 ≠ q.toNat ∧ e.2.bind Queue.ring = some n.toNat) →
      ∃ t, exec (.queueBindRing h q n op) s = .next t ∧ Done s t h 0x41 stREFUSED 0 ∧ Framed cmdParts bookKeys s t)) ∧
  (∀ (s : State) (h : Hdr) (q : BitVec 16) (x : Queue), Lets s h 0x42 → q.toNat < 8192 → s.queue q.toNat = some x →
    (∃ t, exec (.queueReset h q 0) s = .next t ∧ Done s t h 0x42 stOK 0 ∧ t.queue q.toNat = some x.cleared ∧
      t.epochOf q.toNat = s.epochOf q.toNat + 1 ∧ (∀ p, p ≠ q.toNat → t.queue p = s.queue p) ∧
      Framed (.que :: cmdParts) bookKeys s t) ∧
    (s.queueBound q.toNat = false →
      ∃ t, exec (.queueReset h q 1) s = .next t ∧ Done s t h 0x42 stOK 0 ∧ t.queue q.toNat = none ∧
        t.epochOf q.toNat = s.epochOf q.toNat ∧ (∀ p, p ≠ q.toNat → t.queue p = s.queue p) ∧
        Framed (.que :: cmdParts) bookKeys s t) ∧
    (s.queueBound q.toNat = true →
      ∃ t, exec (.queueReset h q 1) s = .next t ∧ Done s t h 0x42 stREFUSED 0 ∧ Framed cmdParts bookKeys s t)) ∧
  (∀ (s : State) (req : Requester) (q : QueueId) (x : Queue), req ≠ .host → s.queue q.val = some x → x.packet = true →
    x.prod = 6 →
    (s.reqHeld req = false → x.free ≠ 0 → x.base + x.size ≤ 8192 →
      ∃ t, exec (.quePktOpen req q) s = .next t ∧
        t.queue q.val = some { x with slot := some x.w, len := 0, disc := 0, w := x.adv x.w 1, pw := x.adv x.w 1,
                                      seq := if x.slot = none then x.seq else x.seq + 1 } ∧
        (x.slot = none → t.mem = s.mem) ∧
        (∀ p, x.slot = some p →
          Wrote s t (s.engineBank q.val) (x.pos p) (BitVec.ofNat 64 (x.len + x.seq.toNat * 65536))) ∧
        (∀ p, p ≠ q.val → t.queue p = s.queue p) ∧ Framed [.que, .words, .mem, .cores] [] s t) ∧
    (s.reqHeld req = false → x.free = 0 →
      ∃ t, exec (.quePktOpen req q) s = .next t ∧
        (∀ n, reqCore req = some n → (Tab.get core0 t.core.cores n).wait = some (.queuePush q.val)) ∧
        Framed [.cores] [] s t) ∧
    (s.reqHeld req = false → ∀ p, x.slot = some p → x.pos p < 8192 →
      ∃ t, exec (.quePktClose req q) s = .next t ∧ t.queue q.val = some { x with slot := none, len := 0, seq := x.seq + 1 } ∧
        Wrote s t (s.engineBank q.val) (x.pos p) (BitVec.ofNat 64 (x.len + x.seq.toNat * 65536)) ∧
        (∀ p, p ≠ q.val → t.queue p = s.queue p) ∧ Framed [.que, .words, .mem] [] s t) ∧
    (s.reqHeld req = false → x.slot = none →
      ∃ t, exec (.quePktClose req q) s = .next t ∧
        t.queue q.val = some { x with disc := if x.disc = 1 then 0 else x.disc } ∧
        (∀ p, p ≠ q.val → t.queue p = s.queue p) ∧ Framed [.que] [] s t) ∧
    (s.reqHeld req = true → exec (.quePktOpen req q) s = .next s ∧ exec (.quePktClose req q) s = .next s))

/-- A push by an end that the queue accepts writes its word at W of the bank that serves the queue and moves W on (R199, R201),
published at once but in a paced period; a mat's push is acknowledged, also one by no end of the queue, and one to a full queue
waits (R204). In a packet queue a START, or a word with no packet open, opens a packet first, closing the one that is open; LAST
or a full queue closes it, an oversize packet loses its further words until LAST (R207 to R209). A pointer mismatch resets the
queue (R211; that the word is then acknowledged is the model's choice, log entry 69). A pop by an end that the queue accepts
delivers the word at R and moves R on (R201, R206); an uncorrectable length word resets the queue (R211), an uncorrectable data
item is delivered as read (R213). A core's QUE_DATA write pushes and its read pops, the low half latching the high half; it waits
at a full or an empty queue; the debug port reads the head (R202, R204). A core held in core reset does neither (R214). -/
def Obligations.QueuePushesAndPops : Prop :=
  (∀ (s : State) (q : QueueId) (e : QEnd) (w : Word) (st la : Bool) (x : Queue), s.queue q.val = some x →
    s.endMatches q.val true e = true → s.endPushes q.val e = true → x.base + x.size ≤ 8192 →
    (s.canPush q.val st = false → ∀ m, exec (.queuePush q e w st la m) s = .next s) ∧
    (s.canPush q.val st = true → x.packet = false →
      ∃ t, exec (.queuePush q e w st la false) s = .next t ∧ t.queue q.val = some { s.pushed q.val x 1 with len := 0 } ∧
        Wrote s t (s.engineBank q.val) (x.pos x.w) w ∧ t.out = (s.ackPush q.val e).out ∧
        (∀ p, p ≠ q.val → t.queue p = s.queue p) ∧ Framed [.que, .words, .mem, .out] [] s t) ∧
    (s.canPush q.val st = true → x.packet = true → st = true ∨ (x.slot = none ∧ x.disc = 0) → 4 ≤ x.sizeLog2 →
      ∃ t, exec (.queuePush q e w st la false) s = .next t ∧
        t.queue q.val = some { s.pushed q.val x 2 with
          slot := if la then none else some x.w, len := if la then 0 else 1, disc := 0,
          seq := x.seq + (if x.slot = none then 0 else 1) + (if la then 1 else 0) } ∧
        t.word (s.serving (s.engineBank q.val)) (x.pos (x.w + 1)) = wordOf w ∧
        (la = true → t.word (s.serving (s.engineBank q.val)) (x.pos x.w) = wordOf (BitVec.ofNat 64
          (1 + (x.seq + (if x.slot = none then 0 else 1)).toNat * 65536))) ∧
        (∀ p, x.slot = some p → x.pos p ≠ x.pos x.w → x.pos p ≠ x.pos (x.w + 1) →
          t.word (s.serving (s.engineBank q.val)) (x.pos p) =
            wordOf (BitVec.ofNat 64 (x.len + x.seq.toNat * 65536))) ∧
        t.out = (s.ackPush q.val e).out ∧ (∀ p, p ≠ q.val → t.queue p = s.queue p) ∧
        Framed [.que, .words, .mem, .out] [] s t) ∧
    (s.canPush q.val st = true → x.packet = true → st = false → x.disc = 0 → ∀ p, x.slot = some p → x.pos p ≠ x.pos x.w →
      ∃ t, exec (.queuePush q e w st la false) s = .next t ∧
        t.queue q.val = some { s.pushed q.val x 1 with
          slot := if la ∨ x.size ≤ x.len + 2 then none else some p,
          len := if la ∨ x.size ≤ x.len + 2 then 0 else x.len + 1,
          disc := if la = false ∧ x.size ≤ x.len + 2 then 1 else 0,
          seq := if la ∨ x.size ≤ x.len + 2 then x.seq + 1 else x.seq } ∧
        t.word (s.serving (s.engineBank q.val)) (x.pos x.w) = wordOf w ∧
        (la ∨ x.size ≤ x.len + 2 → t.word (s.serving (s.engineBank q.val)) (x.pos p) = wordOf (BitVec.ofNat 64
          (x.len + 1 + x.seq.toNat * 65536 + if la then 0 else 2 ^ 32))) ∧
        t.out = (s.ackPush q.val e).out ∧ (∀ p, p ≠ q.val → t.queue p = s.queue p) ∧
        Framed [.que, .words, .mem, .out] [] s t) ∧
    (s.canPush q.val st = true → x.packet = true → st = false → x.disc ≠ 0 →
      ∃ t, exec (.queuePush q e w st la false) s = .next t ∧
        t.queue q.val = some { x with disc := if la ∧ x.disc = 1 then 0 else x.disc } ∧ t.out = (s.ackPush q.val e).out ∧
        (∀ p, p ≠ q.val → t.queue p = s.queue p) ∧ Framed [.que, .out] [] s t) ∧
    (s.canPush q.val st = true →
      ∃ t, exec (.queuePush q e w st la true) s = .next t ∧ t.queue q.val = some x.cleared ∧
        t.epochOf q.val = s.epochOf q.val + 1 ∧ (∀ p, p ≠ q.val → t.queue p = s.queue p))) ∧
  (∀ (s : State) (q : QueueId) (g : Fin 2) (w : Word) (st la m : Bool), s.heldNull (s.endMat q.val g.val) = false →
    s.endMatches q.val true (.mat g) = false →
    ∃ t, exec (.queuePush q (.mat g) w st la m) s = .next t ∧
      t.out = s.out ++ [.token (s.endMat q.val g.val) (.pushAck q.val) 0] ∧ Framed [.out] [] s t) ∧
  (∀ (s : State) (q : QueueId) (e : QEnd) (ecc : Ecc) (x : Queue) (v : MemWord), s.queue q.val = some x →
    s.endMatches q.val false e = true → s.endPops e = true → x.ready = true →
    v = s.word (s.serving (s.engineBank q.val)) (x.pos x.r) →
    (ecc = .clean → v.poison = false →
      ∃ t, exec (.queuePop q e ecc false) s = .next t ∧ t.queue q.val = some (x.popped v.data false) ∧
        (∀ g, e = .mat g → t.out = s.out ++ [.token (s.endMat q.val g.val) (.popChannel q.val)
          (v.data.toNat + b2n x.headIsLength * 2 ^ 64 + (s.epochOf q.val).toNat * 2 ^ 66)]) ∧
        (∀ r, e = .core r → t.out = s.out ++ [.answer r v.data]) ∧
        (∀ p, p ≠ q.val → t.queue p = s.queue p) ∧ Framed [.que, .out] [] s t) ∧
    (v.poison = true → x.headIsLength = false →
      ∃ t, exec (.queuePop q e ecc false) s = .next t ∧ t.queue q.val = some (x.popped v.data true) ∧
        (∀ g, e = .mat g → .token (s.endMat q.val g.val) (.popChannel q.val)
          (v.data.toNat + 2 ^ 65 + (s.epochOf q.val).toNat * 2 ^ 66) ∈ t.out.drop s.out.length) ∧
        (∀ p, p ≠ q.val → t.queue p = s.queue p)) ∧
    (v.poison = true → x.headIsLength = true →
      ∃ t, exec (.queuePop q e ecc false) s = .next t ∧ t.queue q.val = some x.cleared ∧
        t.epochOf q.val = s.epochOf q.val + 1 ∧ (∀ p, p ≠ q.val → t.queue p = s.queue p)) ∧
    (∃ t, exec (.queuePop q e ecc true) s = .next t ∧ t.queue q.val = some x.cleared ∧
      t.epochOf q.val = s.epochOf q.val + 1 ∧ (∀ p, p ≠ q.val → t.queue p = s.queue p))) ∧
  (∀ (s : State) (req : Requester) (q : QueueId) (w : Word) (x : Queue), req ≠ .host → s.reqHeld req = false →
    s.queue q.val = some x → x.prod = 6 → x.base + x.size ≤ 8192 →
    (s.canPush q.val false = true → x.packet = false →
      ∃ t u, exec (.queDataWrite req q .whole w) s = .next t ∧
        t.queue q.val = some { s.pushed q.val x 1 with len := 0 } ∧ Wrote s t (s.engineBank q.val) (x.pos x.w) w ∧
        (∀ p, p ≠ q.val → t.queue p = s.queue p) ∧ Framed [.que, .words, .mem, .cores] [] s t ∧
        exec (.queDataWrite req q .lo w) s = .next u ∧ u.que.queues = s.que.queues ∧ Framed [.que] [] s u ∧
        ∀ w', ∃ v, exec (.queDataWrite req q .hi w') u = .next v ∧
          v.queue q.val = some { s.pushed q.val x 1 with len := 0 } ∧
          Wrote u v (s.engineBank q.val) (x.pos x.w) ((w' <<< 32) ||| (w.setWidth 32).setWidth 64) ∧
          Framed [.que, .words, .mem, .cores] [] u v) ∧
    (s.canPush q.val false = false → ∀ n, reqCore req = some n →
      ∃ t, exec (.queDataWrite req q .whole w) s = .next t ∧
        (Tab.get core0 t.core.cores n).wait = some (.queuePush q.val) ∧ Framed [.cores] [] s t)) ∧
  (∀ (s : State) (req : Requester) (q : QueueId) (x : Queue) (v : MemWord), req ≠ .host → s.reqHeld req = false →
    (req = .debug → s.flag DBG_ACCESS_SIDE = true) → s.queue q.val = some x → x.cons = 6 → x.ready = true →
    v = s.word (s.serving (s.engineBank q.val)) (x.pos x.r) → v.poison = false →
    (∃ t, exec (.queDataRead req q .whole .clean) s = .next t ∧ t.queue q.val = some (x.popped v.data false) ∧
      t.out = s.out ++ [.answer req v.data] ∧
      (∀ p, p ≠ q.val → t.queue p = s.queue p) ∧ Framed [.que, .out, .cores] [] s t) ∧
    (∃ t u, exec (.queDataRead req q .lo .clean) s = .next t ∧ t.queue q.val = some (x.popped v.data false) ∧
      t.out = s.out ++ [.answer req ((v.data.setWidth 32).setWidth 64)] ∧
      Framed [.que, .out, .cores] [] s t ∧ exec (.queDataRead req q .hi .clean) t = .next u ∧
      u.out = t.out ++ [.answer req (v.data >>> 32)] ∧ Framed [.out] [] t u)) ∧
  (∀ (s : State) (req : Requester) (q : QueueId) (x : Queue) (n : Nat), reqCore req = some n → s.reqHeld req = false →
    s.queue q.val = some x → x.cons ≠ 6 ∨ x.ready = false →
    ∃ t, exec (.queDataRead req q .whole .clean) s = .next t ∧
      (Tab.get core0 t.core.cores n).wait = some (.queuePop q.val) ∧ Framed [.cores] [] s t) ∧
  (∀ (s : State) (q : QueueId) (ecc : Ecc) (x : Queue), s.queue q.val = some x → s.flag DBG_ACCESS_SIDE = false →
    x.ready = true →
    ∃ t, exec (.queDataRead .debug q .whole ecc) s = .next t ∧
      t.out = s.out ++ [.answer .debug (s.word (s.serving (s.engineBank q.val)) (x.pos x.r)).data] ∧ Framed [.out] [] s t)

/-- Host commands on tallies: TRACK_SET of a track without tallies and actions configures it (OP 0: source, argument, flags, engine,
mats, limits; a TIME track starts at device time, a FOLLOW track at its source's position, R222), writes a rule word (OP 1), frees
the track's tallies and actions (OP 2), selects a rule bank at once, or holds the change for the boundary of a period (OP 3, R240);
STATION_SET writes a station's settings, also those of a GATE or an EDGE station whose pin its track's engine owns (R227, R241);
TALLY_QUERY of a live tally by id, by nearness to a station, or the oldest one, writes its record of 64 bytes to host memory and
answers its id, and 0 where there is none (R242). -/
def Obligations.TallyCommandsComplete : Prop :=
  (∀ (s : State) (h : Hdr) (track source arg flags engine : Byte) (note rec_ maxT : BitVec 16) (travel dec : BitVec 32),
    Lets s h 0x50 → track.toNat ≤ 63 → s.sourceOk track.toNat source.toNat arg.toNat = true → flags.toNat ≤ 7 →
    engine.toNat ≤ 7 → trackMatOk note = true → trackMatOk rec_ = true → maxT.toNat ≤ 8192 →
    s.travelOk track.toNat travel.toNat = true → s.tallies track.toNat = [] → (∀ a ∈ s.tal.acts, a.track ≠ track.toNat) →
    (source = 1 → s.portOfEngine arg.toNat engine.toNat = true ∧ s.portOfEngine (arg.toNat + 1) engine.toNat = true) →
    (flags.getLsbD 0 = true → s.gated (TAL_ENG_STATUS engine.toNat) = false) →
    ∃ t, exec (.trackSet h track 0 source arg flags engine note rec_ maxT travel dec) s = .next t ∧ Done s t h 0x50 stOK 0 ∧
      t.get (TAL_TRK_CFG_SOURCE track.toNat) = source.toNat ∧ t.get (TAL_TRK_CFG_SRC_ARG track.toNat) = arg.toNat ∧
      t.flag (TAL_TRK_CFG_EN track.toNat) = flags.getLsbD 0 ∧ t.flag (TAL_TRK_CFG_DIR track.toNat) = flags.getLsbD 1 ∧
      t.flag (TAL_TRK_CFG_POLICY track.toNat) = flags.getLsbD 2 ∧ t.get (TAL_TRK_CFG_ENGINE track.toNat) = engine.toNat ∧
      t.get (TAL_TRK_CFG_BANK track.toNat) = s.get (TAL_TRK_CFG_BANK track.toNat) ∧
      t.flag (TAL_TRK_MATS_NOTE_EN track.toNat) = decide (note ≠ 0xFFFF) ∧
      (note ≠ 0xFFFF → t.get (TAL_TRK_MATS_NOTE_MAT track.toNat) = note.toNat) ∧
      t.flag (TAL_TRK_MATS_REC_EN track.toNat) = decide (rec_ ≠ 0xFFFF) ∧
      (rec_ ≠ 0xFFFF → t.get (TAL_TRK_MATS_REC_MAT track.toNat) = rec_.toNat) ∧
      t.get (TAL_TRK_STATUS_MAX_TALLIES track.toNat) = maxT.toNat ∧ t.rd (TAL_TRK_TRAVEL track.toNat) = travel ∧
      t.rd (TAL_TRK_DECIDE track.toNat) = dec ∧
      (source = 3 → flags.getLsbD 0 = true → t.trackPos track.toNat = BitVec.ofNat 48 (s.time.toNat / 2 ^ arg.toNat)) ∧
      (source = 4 → flags.getLsbD 0 = true → t.trackPos track.toNat = s.trackPos arg.toNat) ∧
      (source ≠ 3 → Framed (.tal :: cmdParts) ([TAL_TRK_CFG track.toNat, TAL_TRK_MATS track.toNat, TAL_TRK_POS_LO track.toNat,
        TAL_TRK_POS_HI track.toNat, TAL_TRK_TRAVEL track.toNat, TAL_TRK_DECIDE track.toNat, TAL_TRK_STATUS track.toNat] ++
        bookKeys) s t)) ∧
  (∀ (s : State) (h : Hdr) (track bank rule : Byte) (lo hi : BitVec 32), Lets s h 0x50 → track.toNat ≤ 63 → bank.toNat ≤ 1 →
    rule.toNat ≤ 31 → s.ruleOk track.toNat (lo.toNat + hi.toNat * 2 ^ 32) = true →
    ∃ t, exec (.trackSet h track 1 bank rule 0 0 0 0 0 lo hi) s = .next t ∧ Done s t h 0x50 stOK 0 ∧
      t.rd (TAL_RULE_LO track.toNat bank.toNat rule.toNat) = lo ∧ t.rd (TAL_RULE_HI track.toNat bank.toNat rule.toNat) = hi ∧
      Framed cmdParts (TAL_RULE_LO track.toNat bank.toNat rule.toNat :: TAL_RULE_HI track.toNat bank.toNat rule.toNat :: bookKeys)
        s t) ∧
  (∀ (s : State) (h : Hdr) (track bank pacer : Byte) (lo hi : BitVec 32), Lets s h 0x50 → track.toNat ≤ 63 → bank.toNat ≤ 1 →
    pacer.toNat ≤ 63 →
    (∃ t, exec (.trackSet h track 3 bank 0 pacer 0 0 0 0 lo hi) s = .next t ∧ Done s t h 0x50 stOK 0 ∧
      t.get (TAL_TRK_CFG_BANK track.toNat) = bank.toNat ∧ Framed cmdParts (TAL_TRK_CFG track.toNat :: bookKeys) s t) ∧
    (s.paceState pacer.toNat ≠ 0 → s.periodPast pacer.toNat (lo.toNat + hi.toNat * 2 ^ 32) = false →
      ∃ t, exec (.trackSet h track 3 bank 1 pacer 0 0 0 0 lo hi) s = .next t ∧
        t.tal.bankOps = s.tal.bankOps ++
          [⟨hdrRef h 0x50, track.toNat, bank.toNat, pacer.toNat, BitVec.ofNat 64 (lo.toNat + hi.toNat * 2 ^ 32)⟩] ∧
        (t.cmdOf h.ring.val h.id 0x50).isSome = true ∧ Framed [.tal, .cmds, .sessions] [] s t)) ∧
  (∀ (s : State) (h : Hdr) (track : Byte), Lets s h 0x50 → track.toNat ≤ 63 →
    ∃ t, exec (.trackSet h track 2 0 0 0 0 0 0 0 0 0) s = .next t ∧ Done s t h 0x50 stOK 0 ∧ t.tallies track.toNat = [] ∧
      t.tal.acts = s.tal.acts.filter (fun a => decide (a.track ≠ track.toNat)) ∧
      t.flag (TAL_TRK_STATUS_POS_GAP track.toNat) = false ∧ (∀ u, u ≠ track.toNat → t.tallies u = s.tallies u) ∧
      Framed (.tal :: cmdParts) ((TAL_TRK_STATUS_POS_GAP track.toNat).reg ::
        (s.tal.acts.filter (fun a => decide (a.track = track.toNat))).flatMap (fun a => pinKeys a.pin) ++ bookKeys) s t) ∧
  (∀ (s : State) (h : Hdr) (station : BitVec 16) (kind track trigger flags zone field value pin : Byte) (offset : BitVec 32)
    (win holdoff : BitVec 16), Lets s h 0x51 → station.toNat ≤ 1023 → kind.toNat ≤ 4 → track.toNat ≤ 63 →
    trigger.toNat ≤ 3 → flags.toNat ≤ 63 → field.toNat ≤ 23 → value.toNat ≤ 15 →
    pin.toNat ≤ (if flags.getLsbD 2 = true then 95 else 127) → offset.toNat ≤ 0x7FFFFFFF →
    (kind = 2 → field.toNat < 16 → trigger = 0 ∨ trigger = 2 → value ≠ 0) →
    (kind = 3 → flags.getLsbD 2 = false ∧ s.portOfEngine pin.toNat (s.trackEngine track.toNat) = true) →
    (kind ≠ 0 → kind ≠ 3 → trigger = 0 → flags.getLsbD 2 = false →
      s.portOfEngine pin.toNat (s.trackEngine track.toNat) = true ∧ s.inputMode pin.toNat (flags.getLsbD 3) = true) →
    ∃ t, exec (.stationSet h station kind track trigger flags zone field value pin offset win holdoff) s = .next t ∧
      Done s t h 0x51 stOK 0 ∧ t.get (TAL_ST_CFG_KIND station.toNat) = kind.toNat ∧
      t.get (TAL_ST_CFG_TRACK station.toNat) = track.toNat ∧ t.get (TAL_ST_CFG_TRIGGER station.toNat) = trigger.toNat ∧
      t.get (TAL_ST_CFG_ZONE station.toNat) = zone.toNat ∧ t.get (TAL_ST_CFG_FIELD station.toNat) = field.toNat ∧
      t.get (TAL_ST_CFG_VALUE station.toNat) = value.toNat ∧ t.flag (TAL_ST_CFG_FALLING station.toNat) = flags.getLsbD 0 ∧
      t.flag (TAL_ST_CFG_DECIDE station.toNat) = flags.getLsbD 1 ∧ t.flag (TAL_ST_CFG_TIME_ACT station.toNat) = flags.getLsbD 4 ∧
      t.flag (TAL_ST_CFG_ACT_LEVEL station.toNat) = flags.getLsbD 5 ∧ t.rd (TAL_ST_OFFSET station.toNat) = offset ∧
      t.get (TAL_ST_WIN_TOL station.toNat) = win.toNat ∧ t.get (TAL_ST_WIN_HOLDOFF station.toNat) = holdoff.toNat ∧
      t.get (TAL_ST_PIN_PIN station.toNat) = pin.toNat ∧ t.flag (TAL_ST_PIN_GPIO station.toNat) = flags.getLsbD 2 ∧
      t.flag (TAL_ST_PIN_PIN_B station.toNat) = flags.getLsbD 3 ∧ t.tal.tallies = s.tal.tallies ∧ t.tal.acts = s.tal.acts ∧
      Framed (.tal :: cmdParts) ([TAL_ST_CFG station.toNat, TAL_ST_OFFSET station.toNat, TAL_ST_WIN station.toNat,
        TAL_ST_PIN station.toNat] ++
        ((s.stationPin station.toNat).toList ++ (t.stationPin station.toNat).toList).flatMap pinKeys ++ bookKeys) s t) ∧
  (∀ (s : State) (h : Hdr) (track mode : Byte) (station : BitVec 16) (id : BitVec 32) (addr : Word) (o : Option Tally),
    Lets s h 0x52 → track.toNat ≤ 63 → station.toNat ≤ 1023 → addr.toNat % 64 = 0 →
    (mode = 0 ∧ o = s.tally track.toNat id.toNat) ∨ (mode = 1 ∧ o = s.nearestTally track.toNat station.toNat) ∨
      (mode = 2 ∧ o = (s.tallies track.toNat).head?) →
    ∃ t, exec (.tallyQuery h track mode station id addr) s = .next t ∧
      Done s t h 0x52 stOK (match o with | some x => x.id.setWidth 64 | none => 0) ∧
      (∀ x, o = some x → s.dmaOn = true →
        Out.hostWrite addr (tallyBytes track.toNat x (s.tallyFlags track.toNat x)) ∈ t.out.drop s.out.length ∧
        (x.meas.length = 8 → (tallyBytes track.toNat x (s.tallyFlags track.toNat x)).length = 64)) ∧
      Framed cmdParts bookKeys s t)

/-- A taken edge of one encoder input moves its track one count, up when A leads B (R223), counted the other way with DIR; edges of
both inputs at once leave the position. An axis token replaces the position of every enabled VIRTUAL track of its note mat (R224,
R237); one of a mat in a running period is kept for the commit (R238), and a mat held NULL presents none (R59). ACT_LEN µs after a
pulse has asserted it ends and its action goes (R233). The frames name what a track without tallies and actions leaves. -/
def Obligations.PositionsMove : Prop :=
  (∀ (s : State) (track : Id64) (a b : Bool) (p : Nat), s.get (TAL_TRK_CFG_SOURCE track.val) = 1 →
    s.get (TAL_TRK_CFG_SRC_ARG track.val) = p → p + 1 < 128 → s.portOfEngine p (s.trackEngine track.val) = true →
    s.portOfEngine (p + 1) (s.trackEngine track.val) = true → s.get (FP_CFG_MODE p) = 3 → s.get (FP_CFG_MODE (p + 1)) = 3 →
    s.flag CLK_STATUS_HREF_PRESENT = true → s.trackOn track.val = true →
    (((Tab.get enc0 s.tal.enc track.val).getLsbD 0 ≠ a ↔ (Tab.get enc0 s.tal.enc track.val).getLsbD 1 = b) →
      ∃ t, exec (.encoderEdge track a b) s = .next t ∧
        t.trackPos track.val = (if (encUp (Tab.get enc0 s.tal.enc track.val) a b != s.flag (TAL_TRK_CFG_DIR track.val)) = true
          then s.trackPos track.val + 1 else s.trackPos track.val - 1) ∧
        Tab.get enc0 t.tal.enc track.val = BitVec.ofNat 2 (b2n a + 2 * b2n b) ∧ t.tal.stims = s.tal.stims ∧
        (s.tal.acts = [] → s.tallies track.val = [] → (∀ u, u < 64 → s.get (TAL_TRK_CFG_SOURCE u) ≠ 4) →
          Framed [.tal] [TAL_TRK_POS_LO track.val, TAL_TRK_POS_HI track.val, FP_STATUS p, FP_STATUS (p + 1)] s t)) ∧
    ((Tab.get enc0 s.tal.enc track.val).getLsbD 0 ≠ a → (Tab.get enc0 s.tal.enc track.val).getLsbD 1 ≠ b →
      ∃ t, exec (.encoderEdge track a b) s = .next t ∧ t.trackPos track.val = s.trackPos track.val ∧
        Tab.get enc0 t.tal.enc track.val = BitVec.ofNat 2 (b2n a + 2 * b2n b) ∧ t.tal.tallies = s.tal.tallies)) ∧
  (∀ (s : State) (mat : MatId) (pos : BitVec 48), s.heldNull mat.val = false →
    (s.pacedBy (s.logMat mat.val) = none →
      ∃ t, exec (.axisToken mat pos) s = .next t ∧
        (∀ u, u < 64 → s.get (TAL_TRK_CFG_SOURCE u) = 2 → s.flag (TAL_TRK_MATS_NOTE_EN u) = true →
          s.get (TAL_TRK_MATS_NOTE_MAT u) = s.logMat mat.val → s.trackOn u = true → t.trackPos u = pos) ∧
        (∀ u, u < 64 → s.get (TAL_TRK_CFG_SOURCE u) ≠ 2 → s.get (TAL_TRK_CFG_SOURCE u) ≠ 4 → t.trackPos u = s.trackPos u) ∧
        (s.tal.acts = [] → s.tal.tallies = [] →
          Framed [] ((upto 64).map TAL_TRK_POS_LO ++ (upto 64).map TAL_TRK_POS_HI) s t)) ∧
    (∀ p, s.pacedBy (s.logMat mat.val) = some p →
      ∃ t, exec (.axisToken mat pos) s = .next t ∧
        Tab.get nil0 t.tal.paced p = Tab.get nil0 s.tal.paced p ++ [.axis (s.logMat mat.val) pos] ∧
        t.tal.tallies = s.tal.tallies ∧ Framed [.tal] [] s t)) ∧
  (∀ (s : State) (track : Id64) (station : StationId) (tally : BitVec 32) (a : Action), a ∈ s.tal.acts →
    a.track = track.val → a.station = station.val → a.tally = tally.toNat → a.pulse = true → a.asserted = true →
    s.elapsed a.since (1000 * a.len) = true →
    (∀ b ∈ s.tal.acts, b.track = track.val → b.station = station.val → b.tally = tally.toNat → b = a) →
    ∃ t, exec (.pulseEnd track station tally) s = .next t ∧ t.tal.acts = s.tal.acts.erase a ∧
      t.tal.tallies = s.tal.tallies ∧ Framed [.tal] (pinKeys a.pin) s t)

/-- A stimulus of an EDGE, FABRIC or CORE station of an enabled track is taken into its engine's buffer, behind those of earlier
periods, while that holds fewer than 256, with the station's settings and the track's position (R226, R227, R229, R237, R239); an
edge within HOLDOFF of the last taken one is not. A note token waits at a full buffer, one of no station of its note mat is
dropped, one of a mat in a running period is kept for the commit (R238), and a mat held NULL presents none (R59).
NOTE takes the stimulus at the buffer's front off it. A SENSE station's writes its field, the zone and LAST_US of the tally nearest
within TOL and leaves the other fields; on a DECIDED tally it is LATE_NOTE; with DECIDE it decides; a DISCHARGE station's takes the
tally away; without such a tally nothing changes (R228, R230). -/
def Obligations.StimuliAndVerdictsComplete : Prop :=
  (∀ (s : State) (st : StationId), s.get (TAL_ST_CFG_TRIGGER st.val) = 0 → s.stationLive st.val = true →
    s.edgePinOk st.val = true →
    ((∀ p, Tab.get none0 s.tal.lastEdge st.val = some p →
        s.get (TAL_ST_WIN_HOLDOFF st.val) ≤ (trackDist p (s.trackPos (s.get (TAL_ST_CFG_TRACK st.val)))).natAbs) →
      s.takesStim st.val = true →
      ∃ t x, exec (.edgeStimulus st) s = .next t ∧
        Tab.get slist0 t.tal.stims (s.trackEngine (s.get (TAL_ST_CFG_TRACK st.val))) =
          insertStim x (Tab.get slist0 s.tal.stims (s.trackEngine (s.get (TAL_ST_CFG_TRACK st.val)))) ∧
        x.station = st.val ∧ x.track = s.get (TAL_ST_CFG_TRACK st.val) ∧ x.cfg = s.rd (TAL_ST_CFG st.val) ∧
        x.pos = s.trackPos (s.get (TAL_ST_CFG_TRACK st.val)) ∧ x.value = s.get (TAL_ST_CFG_VALUE st.val) ∧
        Tab.get none0 t.tal.lastEdge st.val = some x.pos ∧ t.tal.tallies = s.tal.tallies ∧ Framed [.tal] [] s t) ∧
    (∀ p, Tab.get none0 s.tal.lastEdge st.val = some p →
      (trackDist p (s.trackPos (s.get (TAL_ST_CFG_TRACK st.val)))).natAbs < s.get (TAL_ST_WIN_HOLDOFF st.val) →
      exec (.edgeStimulus st) s = .next s)) ∧
  (∀ (s : State) (mat : MatId) (k : BitVec 96), s.heldNull mat.val = false →
    (s.pacedBy (s.logMat mat.val) = none → s.noteOk (s.logMat mat.val) k = true → s.takesStim (noteStation k) = true →
      ∃ t x, exec (.noteToken mat k) s = .next t ∧
        Tab.get slist0 t.tal.stims (s.trackEngine (s.get (TAL_ST_CFG_TRACK (noteStation k)))) =
          insertStim x (Tab.get slist0 s.tal.stims (s.trackEngine (s.get (TAL_ST_CFG_TRACK (noteStation k))))) ∧
        x.station = noteStation k ∧ x.value = noteValue k ∧ x.meas = noteMeas k ∧
        x.pos = (if noteUsePos k = true then notePos k else s.trackPos (s.get (TAL_ST_CFG_TRACK (noteStation k)))) ∧
        t.tal.tallies = s.tal.tallies ∧ Framed [.tal] [] s t) ∧
    (s.pacedBy (s.logMat mat.val) = none → s.noteWaits (s.logMat mat.val) k = true → exec (.noteToken mat k) s = .next s) ∧
    (s.pacedBy (s.logMat mat.val) = none → s.noteOk (s.logMat mat.val) k = false →
      ∃ t, exec (.noteToken mat k) s = .next t ∧
        Framed [] [TAL_ENG_STIMDROPS (s.trackEngine (s.get (TAL_ST_CFG_TRACK (noteStation k)))),
          TAL_ENG_SAT (s.trackEngine (s.get (TAL_ST_CFG_TRACK (noteStation k))))] s t) ∧
    (∀ p, s.pacedBy (s.logMat mat.val) = some p →
      ∃ t, exec (.noteToken mat k) s = .next t ∧ Tab.get nil0 t.tal.paced p = Tab.get nil0 s.tal.paced p ++
          [.note (s.logMat mat.val) k (s.trackPos (s.get (TAL_ST_CFG_TRACK (noteStation k))))] ∧
        t.tal.stims = s.tal.stims ∧ t.tal.tallies = s.tal.tallies ∧ Framed [.tal] [] s t)) ∧
  (∀ (s : State) (req : Requester) (v : Reg), Performs s req TAL_STIM true → req ≠ .host →
    s.get (TAL_ST_CFG_TRIGGER (fldGet v 0 10)) = 3 → s.takesStim (fldGet v 0 10) = true →
    ∃ t x, exec (.talStimWrite req v) s = .next t ∧
      Tab.get slist0 t.tal.stims (s.trackEngine (s.get (TAL_ST_CFG_TRACK (fldGet v 0 10)))) =
        insertStim x (Tab.get slist0 s.tal.stims (s.trackEngine (s.get (TAL_ST_CFG_TRACK (fldGet v 0 10))))) ∧
      x.station = fldGet v 0 10 ∧ x.value = fldGet v 10 4 ∧ x.pos = s.trackPos (s.get (TAL_ST_CFG_TRACK (fldGet v 0 10))) ∧
      t.tal.tallies = s.tal.tallies ∧ Framed [.tal, .cores, .free] [] s t) ∧
  (∀ (s : State) (e : EngineId) (x : Stim) (l : List Stim) (u : State) (d : BitVec 48) (m : BitVec 32),
    Tab.get slist0 s.tal.stims e.val = x :: l → fldGet x.cfg 0 3 ≠ 1 → u = s.popStim e.val →
    d = x.pos - BitVec.ofNat 48 x.offset.toNat →
    (s.tal.committed = [] → u.tal.tallies = s.tal.tallies ∧ Tab.get slist0 u.tal.stims e.val = l) ∧
    (findNote (u.tallies x.track) d (fldGet x.win 0 16) = none →
      ∃ t, exec (.note e) s = .next t ∧ t.tallies x.track = u.tallies x.track ∧
        (∀ v, v ≠ x.track → t.tallies v = u.tallies v) ∧ Tab.get slist0 t.tal.stims e.val = Tab.get slist0 u.tal.stims e.val) ∧
    (∀ y, findNote (u.tallies x.track) d (fldGet x.win 0 16) = some y → u.tally x.track y.id.toNat = some y →
      m = (if fldGet x.cfg 3 2 = 0 then sat32 (trackDist y.birthPos d) else x.meas) →
      (fldGet x.cfg 0 3 ≠ 4 → y.flags &&& flDECIDED ≠ 0 ∨ fldGet x.cfg 29 1 = 0 →
        ∃ t z, exec (.note e) s = .next t ∧ t.tally x.track y.id.toNat = some z ∧ z.id = y.id ∧ z.zone = fldGet x.cfg 11 8 ∧
          (fldGet x.cfg 0 3 = 2 → fldGet x.cfg 19 5 < 16 →
            bitsAt z.verdict.toNat (4 * fldGet x.cfg 19 5) 4 = x.value % 16 ∧ z.meas = y.meas ∧
            ∀ f, f < 16 → f ≠ fldGet x.cfg 19 5 → bitsAt z.verdict.toNat (4 * f) 4 = bitsAt y.verdict.toNat (4 * f) 4) ∧
          (fldGet x.cfg 0 3 = 2 → 16 ≤ fldGet x.cfg 19 5 →
            z.meas = y.meas.set (fldGet x.cfg 19 5 - 16) m ∧ z.verdict = y.verdict) ∧
          (fldGet x.cfg 0 3 ≠ 2 → z.meas = y.meas ∧ z.verdict = y.verdict) ∧
          z.flags = (if y.flags &&& flDECIDED ≠ 0 then y.flags ||| flLATE_NOTE else y.flags) ∧
          z.lastUs = satBits 32 ((u.time - y.birthTime).toNat / 1000) ∧
          (∀ v, v ≠ x.track → t.tallies v = u.tallies v) ∧
          (s.tal.committed = [] → y.flags &&& flDECIDED = 0 → Framed [.tal] [] s t)) ∧
      (fldGet x.cfg 0 3 ≠ 4 → y.flags &&& flDECIDED = 0 → fldGet x.cfg 29 1 = 1 →
        ∃ t z, exec (.note e) s = .next t ∧ t.tally x.track y.id.toNat = some z ∧ z.flags &&& flDECIDED ≠ 0 ∧
          (fldGet x.cfg 0 3 = 2 → fldGet x.cfg 19 5 < 16 →
            bitsAt z.verdict.toNat (4 * fldGet x.cfg 19 5) 4 = x.value % 16)) ∧
      (fldGet x.cfg 0 3 = 4 →
        ∃ t, exec (.note e) s = .next t ∧
          t.tallies x.track = (u.tallies x.track).filter (fun z => decide (z.id.toNat ≠ y.id.toNat)))))

/-- A BIRTH on a track that is not full gives its tally the 32-bit id that is next (R37); after 0xFFFF_FFFF the next id is 1; a
track whose next id is not 0 and no tally of which has id 0 is such a track again, and State.reset has only such tracks, so
that 0 never names a tally. A BIRTH on a full track draws no id. The state u has the stimulus taken off the buffer. -/
def Obligations.TallyIdsNeverZero : Prop :=
  (∀ (s : State) (e : EngineId) (x : Stim) (l : List Stim) (u : State), Tab.get slist0 s.tal.stims e.val = x :: l →
    fldGet x.cfg 0 3 = 1 → x.track < 64 → u = s.popStim e.val →
    (s.tal.committed = [] → u.tal.tallies = s.tal.tallies ∧ Tab.get slist0 u.tal.stims e.val = l) ∧
    (u.trackFull x.track = false →
      ∃ t y, exec (.birth e) s = .next t ∧ t.tallies x.track = u.tallies x.track ++ [y] ∧
        y.id = u.rd (TAL_TRK_NEXTID x.track) ∧
        y.birthPos = x.pos - BitVec.ofNat 48 x.offset.toNat ∧ y.birthTime = u.time ∧ y.verdict = 0 ∧
        y.zone = fldGet x.cfg 11 8 ∧
        t.rd (TAL_TRK_NEXTID x.track) =
          (if u.rd (TAL_TRK_NEXTID x.track) = 0xFFFFFFFF then 0x00000001#32 else u.rd (TAL_TRK_NEXTID x.track) + 1) ∧
        (u.rd (TAL_TRK_NEXTID x.track) ≠ 0 → (∀ z ∈ u.tallies x.track, z.id ≠ 0) →
          t.rd (TAL_TRK_NEXTID x.track) ≠ 0 ∧ ∀ z ∈ t.tallies x.track, z.id ≠ 0) ∧
        (∀ v, v ≠ x.track → t.tallies v = u.tallies v) ∧
        Framed [.tal] [TAL_TRK_NEXTID x.track, TAL_TRK_CNT x.track 0, TAL_TRK_SAT x.track] u t) ∧
    (u.trackFull x.track = true → (∀ z ∈ u.tallies x.track, z.id ≠ 0) →
      ∃ t, exec (.birth e) s = .next t ∧ t.tallies x.track = u.tallies x.track ∧
        t.rd (TAL_TRK_NEXTID x.track) = u.rd (TAL_TRK_NEXTID x.track))) ∧
  (∀ u, u < 64 → State.reset.rd (TAL_TRK_NEXTID u) = 1 ∧ State.reset.tallies u = [])

/-- Pins (R307, R311, R325): a pad that the device drives or that has no supply keeps its level; on another a level held shows in
the pin's register and is offered to the mat that owns the pin, unless its input is frozen (R314); an output token of the mat is
kept and drives a pin that follows its owner, the output channel of a paced pin is ignored, and a mat held NULL or out of I/O
rhizoids presents none (R59, R102); a lost supply shows 0 and its pins read 0, and a restored one shows its code. -/
def Obligations.PinLevelsFollow : Prop :=
  (∀ (s : State) (pin : Fin 352) (b : Bool),
    (s.padDrive pin.val ≠ .off → exec (.fpInputChange pin b) s = .next s) ∧
    (s.padDrive pin.val = .off →
      ∃ t, exec (.fpInputChange pin b) s = .next t ∧ t.pinLevel pin.val = b ∧
        (∀ v, v < 352 → v ≠ pin.val → t.pinLevel v = s.pinLevel v) ∧
        (∀ m, s.offersLevel pin.val m = true → t.out = s.out ++ [.token (s.physMat m) (.pin pin.val) (b2n b)]) ∧
        ((∀ m, s.pinMat pin.val = some m → s.offersLevel pin.val m = false) → t.out = s.out) ∧
        Framed [.out] (pinKeys pin.val) s t)) ∧
  (∀ (s : State) (pin : Fin 352) (b : Bool) (m : Nat), s.pinMat pin.val = some m →
    (s.pinPaced pin.val = false → s.pinOnPath pin.val = true → s.heldNull (s.physMat m) = false →
      s.useOut (s.physMat m) 3 = false →
      ∃ t, exec (.fpOutputToken pin b) s = .next t ∧ t.pinOutLevel pin.val = some b ∧
        (∀ v, v ≠ pin.val → t.pinOutLevel v = s.pinOutLevel v) ∧
        (s.pinFree pin.val = true → s.drivesOut pin.val = true → t.pinLevel pin.val = b) ∧
        Framed [.pins] (pinKeys pin.val) s t) ∧
    (s.pinPaced pin.val = true → exec (.fpOutputToken pin b) s = .next s)) ∧
  (∀ (s : State) (gpio : Bool) (k : Fin 8), supplyExists gpio k.val = true →
    (s.get (supplyFld (if gpio then 256 + 16 * k.val else 32 * k.val)) ≠ 0 →
      ∃ t, exec (.vioLost gpio k) s = .next t ∧ t.get (supplyFld (if gpio then 256 + 16 * k.val else 32 * k.val)) = 0 ∧
        (∀ v ∈ supplyPins gpio k.val, t.pinLevel v = false) ∧
        Framed evParts (GPIO_SUPPLY :: ((supplyPins gpio k.val).flatMap pinKeys ++ bookKeys)) s t) ∧
    (s.get (supplyFld (if gpio then 256 + 16 * k.val else 32 * k.val)) = 0 → exec (.vioLost gpio k) s = .next s)) ∧
  (∀ (s : State) (gpio : Bool) (k : Fin 8) (code : BitVec 2), supplyExists gpio k.val = true → code ≠ 0 →
    gpio = true ∨ code ≠ 3 →
    ∃ t, exec (.vioRestored gpio k code) s = .next t ∧
      t.get (supplyFld (if gpio then 256 + 16 * k.val else 32 * k.val)) = code.toNat ∧
      Framed [] (GPIO_SUPPLY :: (supplyPins gpio k.val).flatMap pinKeys) s t)

/-- A port with a queue owner pushes a received item into its RXQ, as a push of the queue does, with START and LAST at its gaps, and
counts the item's bits as overrun when the queue has no room (R312, R313); it sends the item that it pops from its TXQ, counting a
code error for one with an illegal COUNT (R312); a code error is counted (R333), and three commas set SYNC (R309); AT_LIMIT follows
the driver, 1 ms at the limit folds it back, which turns it off and is counted, and RETRY turns it on (R315). -/
def Obligations.PortItemsAndLimits : Prop :=
  (∀ (s : State) (p : PortId) (bits : BitVec 56) (n : BitVec 6) (i g a : Bool) (q : QueueId),
    s.flag (FP_CFG_EN p.val) = true → s.get (FP_OWNER_KIND p.val) = 3 → s.flag (FP_QUEUES_RX_EN p.val) = true →
    s.get (supplyFld (2 * p.val)) ≠ 0 → s.flag (FP_STATUS_SURVEYING p.val) = false → s.get (FP_QUEUES_RXQ p.val) = q.val →
    s.endMatches q.val true (.port p) = true →
    (s.canPush q.val g = true →
      exec (.fpRxItem p bits n i g a) s =
        exec (.queuePush q (.port p) (rxItem (s.get (FP_CFG_CODE p.val)) bits n i) g a false) s ∧
      ∀ x, s.queue q.val = some x → x.packet = false → x.base + x.size ≤ 8192 →
        ∃ t, exec (.fpRxItem p bits n i g a) s = .next t ∧ t.queue q.val = some { s.pushed q.val x 1 with len := 0 } ∧
          Wrote s t (s.engineBank q.val) (x.pos x.w) (rxItem (s.get (FP_CFG_CODE p.val)) bits n i) ∧
          Framed [.que, .words, .mem] [] s t) ∧
    (s.canPush q.val g = false →
      ∃ t, exec (.fpRxItem p bits n i g a) s = .next t ∧
        (t.rd (FP_OVERRUNS p.val)).toNat = min 0xFFFFFFFF ((s.rd (FP_OVERRUNS p.val)).toNat + n.toNat) ∧
        Framed (.pins :: evParts) (FP_OVERRUNS p.val :: (FP_SAT_OVERRUNS p.val).reg :: bookKeys) s t)) ∧
  (∀ (s : State) (p : PortId) (q : Nat) (x : Queue) (w : Word), s.flag (FP_CFG_EN p.val) = true →
    s.get (FP_OWNER_KIND p.val) = 3 → s.flag (FP_QUEUES_TX_EN p.val) = true → s.get (FP_QUEUES_TXQ p.val) = q →
    s.endMatches q false (.port p) = true → s.queue q = some x → x.ready = true →
    (s.word (s.serving (s.engineBank q)) (x.pos x.r)).data = w →
    (s.word (s.serving (s.engineBank q)) (x.pos x.r)).poison = false →
    (bitsAt w.toNat 56 6 ≠ 0 → bitsAt w.toNat 56 6 ≤ (if s.get (FP_CFG_CODE p.val) = 2 then 6 else 56) →
      ∃ t, exec (.fpTxItem p .clean) s = .next t ∧ t.queue q = some (x.popped w false) ∧
        t.out = (if s.pinFree (2 * p.val) = true then s.out ++ [.portItem p.val w.toNat] else s.out) ∧
        Framed [.que, .out] [] s t) ∧
    (bitsAt w.toNat 56 6 = 0 ∨ (if s.get (FP_CFG_CODE p.val) = 2 then 6 else 56) < bitsAt w.toNat 56 6 →
      ∃ t, exec (.fpTxItem p .clean) s = .next t ∧ t.queue q = some (x.popped w false) ∧
        (t.rd (FP_CODEERRS p.val)).toNat = min 0xFFFFFFFF ((s.rd (FP_CODEERRS p.val)).toNat + 1) ∧
        Framed [.que] [FP_CODEERRS p.val, (FP_SAT_CODEERRS p.val).reg] s t)) ∧
  (∀ (s : State) (p : PortId) (lost : Bool),
    ∃ t, exec (.fpCodeError p lost) s = .next t ∧
      (t.rd (FP_CODEERRS p.val)).toNat = min 0xFFFFFFFF ((s.rd (FP_CODEERRS p.val)).toNat + 1) ∧
      (lost = true → s.get (FP_CFG_CODE p.val) = 2 → t.flag (FP_STATUS_SYNC p.val) = false) ∧
      Framed (.pins :: evParts) (FP_CODEERRS p.val :: (FP_SAT_CODEERRS p.val).reg :: FP_STATUS p.val :: bookKeys) s t) ∧
  (∀ (s : State) (p : PortId), s.get (FP_CFG_CODE p.val) = 2 → s.flag (FP_CFG_EN p.val) = true →
    ∃ t, exec (.fpSync p) s = .next t ∧ t.flag (FP_STATUS_SYNC p.val) = true ∧ Framed [] [FP_STATUS p.val] s t) ∧
  (∀ (s : State) (p : PortId) (b : Bool), s.flag (FP_STATUS_FOLDED p.val) = false →
    ∃ t, exec (.atLimit p b) s = .next t ∧ t.flag (FP_STATUS_AT_LIMIT p.val) = b ∧
      (b = true → s.flag (FP_STATUS_AT_LIMIT p.val) = false → Tab.get none0 s.pins.limitEnd p.val = none →
        Tab.get word0 t.pins.limitAt p.val = s.time) ∧
      Framed [.pins] [FP_STATUS p.val] s t) ∧
  (∀ (s : State) (p : PortId) (pin : Fin 3), s.flag (FP_STATUS_FOLDED p.val) = false → s.flag (FP_STATUS_AT_LIMIT p.val) = true →
    s.elapsed (Tab.get word0 s.pins.limitAt p.val) 1000000 = true →
    ∃ t, exec (.fpFoldback p pin) s = .next t ∧ t.flag (FP_STATUS_FOLDED p.val) = true ∧
      t.flag (FP_STATUS_AT_LIMIT p.val) = false ∧
      (t.rd (FP_FOLDS p.val)).toNat = min 0xFFFFFFFF ((s.rd (FP_FOLDS p.val)).toNat + 1) ∧
      Framed (.pins :: evParts) (FP_FOLDS p.val :: (FP_SAT_FOLDS p.val).reg :: FP_STATUS p.val :: bookKeys) s t) ∧
  (∀ (s : State) (req : Requester) (p : PortId) (v : Reg), Performs s req (FP_CTL p.val) true →
    ∃ t, exec (.fpRetry req p v) s = .next t ∧
      t.flag (FP_STATUS_FOLDED p.val) = (s.flag (FP_STATUS_FOLDED p.val) && !v.getLsbD 0) ∧
      Framed [.cores] [FP_STATUS p.val] s t)

/-- A write of FP_CFG, FP_OWNER or GPIO_OWNERn that the owner's kind allows is stored, and one that changes the function or enables
the port starts the switch (R326, R329); a mode that the owner may not have, or a SUSPECT port's EN, is REFUSED (R310, R483), a
queue owner without its queues is stored with EN 0 (R312), and a change during a switch waits for its end. Two cycles later the
new function is enabled with FOLDED clear (R329). A core's pin-port write sets the levels of the pins it owns, and is denied of
others (R327); an edge or a level of an EXTL line sets PEND by its MODE (R328). -/
def Obligations.FunctionsSwitch : Prop :=
  (∀ (s : State) (req : Requester) (p : PortId) (v : Reg), Performs s req (FP_CFG p.val) true →
    (ownerModeOk (s.get (FP_OWNER_KIND p.val)) (fldGet (v &&& 0x3FFFF#32) 1 3) = true →
      s.flag (FP_STATUS_SWITCHING p.val) = false ∨ fldGet (s.rd (FP_CFG p.val)) 1 5 = fldGet (v &&& 0x3FFFF#32) 1 5 →
      (v.getLsbD 0 = true → s.unitSuspect 0 p.val = false) →
      ∃ t, exec (.functionSwitch req (.cfg p) v) s = .next t ∧
        t.rd (FP_CFG p.val) = (if v.getLsbD 0 = true ∧ s.get (FP_OWNER_KIND p.val) = 3 ∧ s.portQueuesOk p.val = false then
          v &&& 0x3FFFE#32 else v &&& 0x3FFFF#32) ∧
        (v.getLsbD 0 = true → s.get (FP_OWNER_KIND p.val) = 3 → s.portQueuesOk p.val = false →
          t.flag (FP_STATUS_REFUSED p.val) = true) ∧
        (fldGet (s.rd (FP_CFG p.val)) 1 5 ≠ fldGet (v &&& 0x3FFFF#32) 1 5 ∨
            ((s.rd (FP_CFG p.val)).getLsbD 0 = false ∧ (t.rd (FP_CFG p.val)).getLsbD 0 = true) →
          t.flag (FP_STATUS_SWITCHING p.val) = true ∧ t.flag (FP_STATUS_AT_LIMIT p.val) = false) ∧
        ((t.rd (FP_CFG p.val)).getLsbD 0 = true → s.mnt.acts = [] →
          Framed [.cores, .pins] [FP_CFG p.val, FP_STATUS p.val] s t)) ∧
    (ownerModeOk (s.get (FP_OWNER_KIND p.val)) (fldGet (v &&& 0x3FFFF#32) 1 3) = false ∨
        (v.getLsbD 0 = true ∧ s.unitSuspect 0 p.val = true ∧ (s.flag (FP_STATUS_SWITCHING p.val) = false ∨
          fldGet (s.rd (FP_CFG p.val)) 1 5 = fldGet (v &&& 0x3FFFF#32) 1 5)) →
      ∃ t, exec (.functionSwitch req (.cfg p) v) s = .next t ∧ t.rd (FP_CFG p.val) = s.rd (FP_CFG p.val) ∧
        t.flag (FP_STATUS_REFUSED p.val) = true ∧ Framed [.cores] [FP_STATUS p.val] s t) ∧
    (ownerModeOk (s.get (FP_OWNER_KIND p.val)) (fldGet (v &&& 0x3FFFF#32) 1 3) = true →
      s.flag (FP_STATUS_SWITCHING p.val) = true → fldGet (s.rd (FP_CFG p.val)) 1 5 ≠ fldGet (v &&& 0x3FFFF#32) 1 5 →
      ∃ t, exec (.functionSwitch req (.cfg p) v) s = .next t ∧
        Tab.get none0 t.pins.heldCfg p.val = some (v &&& 0x3FFFF#32) ∧ Framed [.cores, .pins] [] s t)) ∧
  (∀ (s : State) (req : Requester) (p : PortId) (v : Reg), Performs s req (FP_OWNER p.val) true →
    (ownerModeOk (fldGet (v &&& 0xFFFF#32) 0 3) (s.get (FP_CFG_MODE p.val)) = true → v &&& 0xFFFF#32 ≠ s.rd (FP_OWNER p.val) →
      (s.flag (FP_STATUS_SWITCHING p.val) = false →
        ∃ t, exec (.functionSwitch req (.owner p) v) s = .next t ∧ t.rd (FP_OWNER p.val) = v &&& 0xFFFF#32 ∧
          t.flag (FP_STATUS_SWITCHING p.val) = true ∧ t.pinOutLevel (2 * p.val) = none ∧
          t.pinOutLevel (2 * p.val + 1) = none ∧ Framed [.cores, .pins] [FP_OWNER p.val, FP_STATUS p.val] s t) ∧
      (s.flag (FP_STATUS_SWITCHING p.val) = true →
        ∃ t, exec (.functionSwitch req (.owner p) v) s = .next t ∧
          Tab.get none0 t.pins.heldOwner p.val = some (v &&& 0xFFFF#32) ∧ Framed [.cores, .pins] [] s t)) ∧
    (ownerModeOk (fldGet (v &&& 0xFFFF#32) 0 3) (s.get (FP_CFG_MODE p.val)) = false →
      ∃ t, exec (.functionSwitch req (.owner p) v) s = .next t ∧ t.flag (FP_STATUS_REFUSED p.val) = true ∧
        Framed [.cores] [FP_STATUS p.val] s t)) ∧
  (∀ (s : State) (req : Requester) (n : Fin 96) (v : Reg), Performs s req (GPIO_OWNER n.val) true →
    (fldGet (v &&& 0x3FFFF#32) 0 4 < 10 → fldGet (s.rd (GPIO_OWNER n.val)) 0 14 ≠ fldGet (v &&& 0x3FFFF#32) 0 14 →
      (s.flag (GPIO_OWNER_SWITCHING n.val) = false →
        ∃ t, exec (.functionSwitch req (.gpio n) v) s = .next t ∧
          fldGet (t.rd (GPIO_OWNER n.val)) 0 18 = fldGet (v &&& 0x3FFFF#32) 0 18 ∧
          t.flag (GPIO_OWNER_SWITCHING n.val) = true ∧ t.pinOutLevel (256 + n.val) = none ∧
          Framed [.cores, .pins] (pinKeys (256 + n.val)) s t) ∧
      (s.flag (GPIO_OWNER_SWITCHING n.val) = true →
        ∃ t w, exec (.functionSwitch req (.gpio n) v) s = .next t ∧ Tab.get none0 t.pins.heldGpio n.val = some w ∧
          fldGet w 0 18 = fldGet (v &&& 0x3FFFF#32) 0 18 ∧ Framed [.cores, .pins] [] s t)) ∧
    (10 ≤ fldGet (v &&& 0x3FFFF#32) 0 4 →
      ∃ t, exec (.functionSwitch req (.gpio n) v) s = .next t ∧ t.flag GPIO_DENIED_REFUSED = true ∧
        Framed [.cores] [GPIO_DENIED] s t)) ∧
  (∀ (s : State) (p : PortId), s.flag (FP_STATUS_SWITCHING p.val) = true → s.kept p.val = true →
    ∃ t, exec (.functionSwitchEnd (.port p)) s = .next t ∧ t.flag (FP_STATUS_FOLDED p.val) = false ∧
      Tab.get none0 t.pins.heldCfg p.val = none ∧
      (Tab.get none0 s.pins.heldCfg p.val = none → Tab.get none0 s.pins.heldOwner p.val = none →
        t.flag (FP_STATUS_SWITCHING p.val) = false ∧ t.rd (FP_CFG p.val) = s.rd (FP_CFG p.val) ∧
        Framed [.pins] [FP_STATUS p.val] s t)) ∧
  (∀ (s : State) (n : Fin 96), s.flag (GPIO_OWNER_SWITCHING n.val) = true → s.kept (256 + n.val) = true →
    ∃ t, exec (.functionSwitchEnd (.gpio n)) s = .next t ∧ Tab.get none0 t.pins.heldGpio n.val = none ∧
      (Tab.get none0 s.pins.heldGpio n.val = none → t.flag (GPIO_OWNER_SWITCHING n.val) = false ∧
        fldGet (t.rd (GPIO_OWNER n.val)) 0 18 = fldGet (s.rd (GPIO_OWNER n.val)) 0 18 ∧
        Framed [.pins] (pinKeys (256 + n.val)) s t)) ∧
  (∀ (s : State) (c : CoreId) (fp : Bool) (k : Fin 8) (v : Word) (n base : Nat), fp = true ∨ k.val < 6 →
    n = (if fp then 32 else 16) → base = (if fp then 32 * k.val else 256 + 16 * k.val) →
    ∃ t, exec (.pinPortWrite c fp k v) s = .next t ∧
      (∀ i, i < n → v.getLsbD i = true → s.coreOwns c.val (base + i) = true →
        t.pinOutLevel (base + i) = some (v.getLsbD (32 + i))) ∧
      (∀ u, (∀ i, i < n → v.getLsbD i = true → s.coreOwns c.val (base + i) = true → u ≠ base + i) →
        t.pinOutLevel u = s.pinOutLevel u) ∧
      ((∀ i, i < n → v.getLsbD i = true → s.coreOwns c.val (base + i) = true) →
        Framed [.pins] ((upto n).flatMap (fun i => pinKeys (base + i))) s t) ∧
      (∀ i, i < n → v.getLsbD i = true → s.coreOwns c.val (base + i) = false →
        t.flag GPIO_DENIED_DENIED = true ∧ t.get GPIO_DENIED_CORE = c.val)) ∧
  (∀ (s : State) (l : Fin 16) (b lv taken : Bool), s.get (GPIO_EXTL_GROUP l.val) < 6 →
    lv = (b && !s.gated (GPIO_OWNER (16 * s.get (GPIO_EXTL_GROUP l.val) + l.val))) →
    taken = (match Tab.get none0 s.pins.extAt l.val with | some t => s.elapsed t 10 | none => true) →
    ∃ t, exec (.extlEdge l b) s = .next t ∧ t.flag (GPIO_EXTL_LEVEL l.val) = lv ∧
      (s.get (GPIO_EXTL_MODE l.val) = 1 → t.flag (GPIO_EXTL_PEND l.val) =
        (s.flag (GPIO_EXTL_PEND l.val) || (lv && !s.flag (GPIO_EXTL_LEVEL l.val) && taken))) ∧
      (s.get (GPIO_EXTL_MODE l.val) = 2 → t.flag (GPIO_EXTL_PEND l.val) =
        (s.flag (GPIO_EXTL_PEND l.val) || (!lv && s.flag (GPIO_EXTL_LEVEL l.val) && taken))) ∧
      (s.get (GPIO_EXTL_MODE l.val) = 3 → t.flag (GPIO_EXTL_PEND l.val) =
        (s.flag (GPIO_EXTL_PEND l.val) || (lv != s.flag (GPIO_EXTL_LEVEL l.val) && taken))) ∧
      (s.get (GPIO_EXTL_MODE l.val) = 4 → t.flag (GPIO_EXTL_PEND l.val) = lv) ∧
      (s.get (GPIO_EXTL_MODE l.val) = 5 → t.flag (GPIO_EXTL_PEND l.val) = !lv) ∧
      (s.get (GPIO_EXTL_MODE l.val) = 0 → t.flag (GPIO_EXTL_PEND l.val) = s.flag (GPIO_EXTL_PEND l.val)) ∧
      t.get (GPIO_EXTL_GROUP l.val) = s.get (GPIO_EXTL_GROUP l.val) ∧ Framed [.pins, .out] [GPIO_EXTL l.val] s t)

/-- Surveys (R317 to R323): a SURVEY within its limits submits its activity to the arbiter, is QUEUED when that must wait and ends
NO_SPACE when the arbiter holds no more (R471); a granted one takes the port with SURVEYING, or ends REFUSED on an enabled port
without TAKE and on a barred pin; at its end the record stands in the port's record buffer, RESULT in FP_SURV, the port is
returned and the command completes with RESULT. -/
def Obligations.SurveysComplete : Prop :=
  (∀ (s : State) (h : Hdr) (port what : Byte) (vf : BitVec 16) (pins flags : Byte), Lets s h 0x60 → port.toNat ≤ 127 → what ≠ 0 →
    what.toNat ≤ 7 → vf = 0 ∨ (500 ≤ vf.toNat ∧ vf.toNat ≤ 990) → pins.toNat ≤ 2 → flags.toNat ≤ 1 →
    (∀ p a, freePlace s.mnt.acts (.survey port.toNat) = some p →
      a = { place := p, task := .survey port.toNat, locks := [.port port.toNat], st := .waiting, requester := 3,
            ref := some (hdrRef h 0x60), since := s.time, resource := port.toNat } →
      ∃ t x, exec (.survey h port what vf pins flags) s = .next t ∧ t.pins.surveys = s.pins.surveys ++ [x] ∧
        x.port = port.toNat ∧ x.what = what.toNat ∧ x.vf = (if vf = 0 then 660 else vf.toNat) ∧ x.pins = pins.toNat ∧
        x.take = flags.getLsbD 0 ∧ x.ref = hdrRef h 0x60 ∧ x.running = false ∧
        (t.cmdOf h.ring.val h.id 0x60).isSome = true ∧
        (grantable (s.mnt.acts ++ [a]) a = true → t.mnt.acts = grantIn (s.mnt.acts ++ [a]) a) ∧
        (grantable (s.mnt.acts ++ [a]) a = false → t.mnt.acts = s.mnt.acts ++ [a] ∧ Queued s t h 0x60) ∧
        Framed (.pins :: cmdParts) bookKeys s t) ∧
    (freePlace s.mnt.acts (.survey port.toNat) = none →
      ∃ t, exec (.survey h port what vf pins flags) s = .next t ∧ Done s t h 0x60 stNO_SPACE 0 ∧
        Framed cmdParts bookKeys s t)) ∧
  (∀ (s : State) (p : PortId) (x : SurveyRun) (a : Act), s.surveyOf p.val false = some (x, a) →
    (s.flag (FP_CFG_EN p.val) = false ∨ x.take = true → s.pinBarred (2 * p.val) = false → s.pinBarred (2 * p.val + 1) = false →
      ∃ t, exec (.surveyRun p) s = .next t ∧ t.flag (FP_STATUS_SURVEYING p.val) = true ∧
        { x with running := true } ∈ t.pins.surveys ∧ Framed [.pins] [FP_STATUS p.val] s t) ∧
    ((s.flag (FP_CFG_EN p.val) = true ∧ x.take = false) ∨ s.pinBarred (2 * p.val) = true ∨
        s.pinBarred (2 * p.val + 1) = true →
      ∃ t, exec (.surveyRun p) s = .next t ∧ Ended s t x.ref stREFUSED 0 ∧ x ∉ t.pins.surveys ∧
        Framed (.pins :: .cmds :: (evParts ++ grantParts)) (bookKeys ++ grantKeys) s t)) ∧
  (∀ (s : State) (p : PortId) (f : Survey) (x : SurveyRun) (a : Act), s.surveyOf p.val true = some (x, a) →
    ∃ t r, exec (.surveyDone p f) s = .next t ∧ t.flag (FP_STATUS_SURVEYING p.val) = false ∧
      t.rd64 (FP_SURV_LO p.val) (FP_SURV_HI p.val) = surveyResult x.what f ∧
      Tab.get none0 t.pins.records (p.val * 16 + (Tab.get byte0 s.pins.recSeq p.val).toNat % 16) = some r ∧
      r.result = surveyResult x.what f ∧ r.time = s.time ∧ r.what = x.what ∧ r.pins = x.pins ∧ r.vf = x.vf ∧
      Tab.get byte0 t.pins.recSeq p.val = Tab.get byte0 s.pins.recSeq p.val + 1 ∧ x ∉ t.pins.surveys ∧
      Ended s t x.ref stOK (surveyResult x.what f) ∧
      Framed (.pins :: .cmds :: (evParts ++ grantParts))
        (FP_SURV_LO p.val :: FP_SURV_HI p.val :: FP_STATUS p.val :: (bookKeys ++ grantKeys)) s t)

/-- Lanes (R339, R345, R350): a write of XL_CFG with EN 1 in a coding, rate and owner of R340 takes the synthesiser that runs at its
base or is free, keeps the lane's when rate, coding and TS stay, and is REFUSED with its reason where it may not be enabled; one
with EN 0 frees the lane and submits its slice (R479); a lost lock, alignment or HI_BER raises LANE_DOWN, and a lane that locks
again shows RX_LOCK without HI_BER.
A token that a lane receives while it delivers goes to the mat that takes it, or as an item to its queue, with its code errors
counted; what cannot be taken is counted; far-end loopback also sends it out again, near-end loopback receives what the lane sent.
A token that the mat presents, or an item of the queue, is sent on the lane (R341, R342, R344, R345). -/
def Obligations.LanesAndTheirTokensComplete : Prop :=
  (∀ (s : State) (req : Requester) (x : LaneId) (v cfg : Reg), Performs s req (XL_CFG x.val) true →
    cfg = regAfter (XL_CFG x.val) (s.rd (XL_CFG x.val))
      (if fldGet v 5 3 = 5 then fldPut v 5 3 (fldGet (s.rd (XL_CFG x.val)) 5 3) else v) →
    (cfg.getLsbD 0 = true → s.get (XL_OWNER_KIND x.val) ≠ 3 → s.unitSuspect 1 x.val = false →
      laneModeOk (fldGet cfg 5 3) (fldGet cfg 1 4) (s.get (XL_OWNER_KIND x.val)) = true →
      (s.get (XL_OWNER_KIND x.val) = 2 → s.laneQueuesOk x.val = true) →
      (s.flag CLK_STATUS_SSC_SEEN = true → laneEthernet (fldGet cfg 5 3) = false) →
      ((s.rd (XL_CFG x.val)).getLsbD 0 = false ∨ fldGet (s.rd (XL_CFG x.val)) 1 7 ≠ fldGet cfg 1 7 →
        ∀ y, s.takeSynth (lanePll x.val) (rateBase (fldGet cfg 1 4)) [x.val] = some y →
        ∃ t, exec (.laneEnable req x v) s = .next t ∧ t.rd (XL_CFG x.val) = cfg ∧ t.get (XL_STATUS_SYNTH x.val) = y ∧
          t.flag (XL_STATUS_RX_LOCK x.val) = false ∧
          (s.mnt.acts = [] → Framed [.lane, .cores] [XL_CFG x.val, XL_STATUS x.val] s t)) ∧
      ((s.rd (XL_CFG x.val)).getLsbD 0 = false ∨ fldGet (s.rd (XL_CFG x.val)) 1 7 ≠ fldGet cfg 1 7 →
        s.takeSynth (lanePll x.val) (rateBase (fldGet cfg 1 4)) [x.val] = none →
        ∃ t, exec (.laneEnable req x v) s = .next t ∧ t.flag (XL_CFG_EN x.val) = false ∧
          t.flag (XL_STATUS_REFUSED x.val) = true ∧ t.get (XL_STATUS_REASON x.val) = 1) ∧
      ((s.rd (XL_CFG x.val)).getLsbD 0 = true → fldGet (s.rd (XL_CFG x.val)) 1 7 = fldGet cfg 1 7 →
        ∃ t, exec (.laneEnable req x v) s = .next t ∧ t.rd (XL_CFG x.val) = cfg ∧
          (s.get (XL_CFG_LOOP x.val) ≠ fldGet cfg 8 2 → t.flag (XL_STATUS_ALIGNED x.val) = false) ∧
          Framed [.lane, .cores] [XL_CFG x.val, XL_STATUS x.val] s t)) ∧
    (cfg.getLsbD 0 = true → s.get (XL_OWNER_KIND x.val) ≠ 3 → s.unitSuspect 1 x.val = true →
      ∃ t, exec (.laneEnable req x v) s = .next t ∧ t.flag (XL_STATUS_REFUSED x.val) = true ∧
        t.get (XL_STATUS_REASON x.val) = 4 ∧ Framed [.cores] [XL_STATUS x.val] s t) ∧
    (cfg.getLsbD 0 = true → s.get (XL_OWNER_KIND x.val) ≠ 3 → s.unitSuspect 1 x.val = false →
      laneModeOk (fldGet cfg 5 3) (fldGet cfg 1 4) (s.get (XL_OWNER_KIND x.val)) = false ∨
        (s.get (XL_OWNER_KIND x.val) = 2 ∧ s.laneQueuesOk x.val = false) ∨
        (s.flag CLK_STATUS_SSC_SEEN = true ∧ laneEthernet (fldGet cfg 5 3) = true) →
      ∃ t, exec (.laneEnable req x v) s = .next t ∧ t.flag (XL_CFG_EN x.val) = false ∧
        t.flag (XL_STATUS_REFUSED x.val) = true ∧ t.get (XL_STATUS_REASON x.val) = 2) ∧
    (cfg.getLsbD 0 = false → s.get (XL_OWNER_KIND x.val) ≠ 3 →
      ∃ t, exec (.laneDisable req x v) s = .next t ∧ t.rd (XL_CFG x.val) = cfg ∧
        (s.flag (XL_CFG_EN x.val) = false → Framed [.cores] [XL_CFG x.val] s t) ∧
        (s.flag (XL_CFG_EN x.val) = true → s.mnt.acts = [] →
          (∃ a ∈ t.mnt.acts, a.task = .slice 1 x.val false ∧ a.st = .running ∧ a.locks = [.lane x.val]) ∧
          Framed [.lane, .acts, .bist, .cores] [XL_CFG x.val, XL_STATUS x.val] s t)) ∧
    (s.get (XL_OWNER_KIND x.val) = 3 →
      ∃ t, exec (.laneEnable req x v) s = .next t ∧ exec (.laneDisable req x v) s = .next t ∧
        t.flag (XL_STATUS_REFUSED x.val) = true ∧ t.get (XL_STATUS_REASON x.val) = 2 ∧
        Framed [.cores] [XL_STATUS x.val] s t)) ∧
  (∀ (s : State) (x : LaneId) (cause : Fin 3), s.flag (XL_CFG_EN x.val) = true →
    (s.canLose x.val cause.val = true →
      ∃ t, exec (.laneDown x cause) s = .next t ∧ (cause = 0 → t.flag (XL_STATUS_RX_LOCK x.val) = false) ∧
        (cause ≠ 2 → t.flag (XL_STATUS_ALIGNED x.val) = false) ∧ (cause = 2 → t.flag (XL_STATUS_HI_BER x.val) = true) ∧
        (Tab.get none0 t.lane.downAt x.val).isSome = true ∧
        Framed (.lane :: evParts) (XL_STATUS x.val :: bookKeys) s t) ∧
    (s.canLose x.val cause.val = false → exec (.laneDown x cause) s = .next s)) ∧
  (∀ (s : State) (x : LaneId), s.flag (XL_CFG_EN x.val) = true → s.laneClocked x.val = true →
    ∃ t, exec (.laneUp x) s = .next t ∧ t.flag (XL_STATUS_RX_LOCK x.val) = true ∧
      t.flag (XL_STATUS_ALIGNED x.val) = decide (s.get (XL_CFG_CODE x.val) ≠ 0) ∧ t.flag (XL_STATUS_HI_BER x.val) = false ∧
      Tab.get none0 t.lane.downAt x.val = none ∧ Framed (.lane :: evParts) (XL_STATUS x.val :: bookKeys) s t) ∧
  (∀ (s u : State) (x : LaneId) (rx r : LaneRx), s.laneReceives x.val = true → s.loopRx x.val rx = (u, some r) →
    (s.get (XL_CFG_LOOP x.val) = 0 → u = s ∧ r = rx) ∧
    (s.get (XL_CFG_LOOP x.val) = 3 → r = rx ∧ u.out = s.out ++ [.laneItem x.val (some rx.bits.toNat) false] ∧
      Framed [.out] [] s u) ∧
    (s.get (XL_CFG_LOOP x.val) = 1 ∨ s.get (XL_CFG_LOOP x.val) = 2 → ∃ b k l,
      Tab.get nil0 s.lane.looped x.val = (b, k) :: l ∧ Tab.get nil0 u.lane.looped x.val = l ∧ r.bits = b ∧ r.errors = 0 ∧
        Framed [.lane] [] s u) ∧
    (s.get (XL_OWNER_KIND x.val) = 1 →
      (r.ready = true → s.matBlocked (s.physMat (s.get (XL_OWNER_MAT x.val))) = false →
        ∃ t, exec (.laneRxToken x rx) s = .next t ∧
          Out.token (s.physMat (s.get (XL_OWNER_MAT x.val))) (.lane x.val) (laneBits (s.get (XL_CFG_CODE x.val)) r.bits) ∈
            t.out.drop u.out.length ∧
          (t.rd (XL_CODEERRS x.val)).toNat = min 0xFFFFFFFF ((s.rd (XL_CODEERRS x.val)).toNat + r.errors.toNat) ∧
          (r.block ≠ .start → Framed [.out] [XL_CODEERRS x.val, XL_SAT x.val] u t)) ∧
      (r.block ≠ .start → r.ready = false ∨ s.matBlocked (s.physMat (s.get (XL_OWNER_MAT x.val))) = true →
        ∃ t, exec (.laneRxToken x rx) s = .next t ∧
          (t.rd (XL_CODEERRS x.val)).toNat = min 0xFFFFFFFF ((s.rd (XL_CODEERRS x.val)).toNat + r.errors.toNat) ∧
          (t.rd (XL_OVERRUNS x.val)).toNat = min 0xFFFFFFFF ((s.rd (XL_OVERRUNS x.val)).toNat + 1) ∧
          Framed (.lane :: evParts) (XL_CODEERRS x.val :: XL_OVERRUNS x.val :: XL_SAT x.val :: bookKeys) u t)) ∧
    (∀ (q : QueueId) (w : Word), s.get (XL_OWNER_KIND x.val) = 2 → s.get (XL_QUEUES_RXQ x.val) = q.val →
      s.endMatches q.val true (.lane x) = true →
      w = (if s.get (XL_CFG_CODE x.val) = 1 then rxItem 2 (r.bits.setWidth 56) r.count false else r.bits.setWidth 64) →
      (s.canPush q.val r.gapBefore = true →
        exec (.laneRxToken x rx) s = exec (.queuePush q (.lane x) w r.gapBefore r.gapAfter false)
          (u.count (XL_CODEERRS x.val) ⟨XL_SAT x.val, 0, 1⟩ r.errors.toNat)) ∧
      (s.canPush q.val r.gapBefore = false →
        ∃ t, exec (.laneRxToken x rx) s = .next t ∧ t.que = s.que ∧
          (t.rd (XL_OVERRUNS x.val)).toNat = min 0xFFFFFFFF ((s.rd (XL_OVERRUNS x.val)).toNat + 1)))) ∧
  (∀ (s : State) (x : LaneId) (b : BitVec 72) (k : LaneBlock) (e : Ecc) (taken : Bool), s.flag (XL_CFG_EN x.val) = true →
    s.laneClocked x.val = true → s.get (XL_OWNER_KIND x.val) = 1 →
    (s.get (XL_CFG_LOOP x.val) ≠ 3 → s.matBlocked (s.physMat (s.get (XL_OWNER_MAT x.val))) = false →
      ∃ t, exec (.laneTxToken x { token := some b, block := k, ecc := e, stampTaken := taken }) s = .next t ∧
        (s.get (XL_CFG_LOOP x.val) < 2 →
          Out.laneItem x.val (some (laneBits (s.get (XL_CFG_CODE x.val)) b)) false ∈ t.out.drop s.out.length) ∧
        (s.get (XL_CFG_LOOP x.val) = 1 ∨ s.get (XL_CFG_LOOP x.val) = 2 →
          Tab.get nil0 t.lane.looped x.val = Tab.get nil0 s.lane.looped x.val ++ [(b, k)]) ∧
        Framed [.out, .lane, .free] [XL_OVERRUNS x.val, XL_SAT x.val] s t) ∧
    (s.get (XL_CFG_LOOP x.val) = 3 →
      exec (.laneTxToken x { token := some b, block := k, ecc := e, stampTaken := taken }) s = .next s)) ∧
  (∀ (s : State) (x : LaneId) (k : LaneBlock) (e : Ecc) (taken : Bool), s.flag (XL_CFG_EN x.val) = true →
    s.laneClocked x.val = true → s.get (XL_OWNER_KIND x.val) = 1 → s.get (XL_CFG_LOOP x.val) < 2 →
    ∃ t, exec (.laneTxToken x { token := none, block := k, ecc := e, stampTaken := taken }) s = .next t ∧
      t.out = s.out ++ [.laneItem x.val none
        (laneEthernet (s.get (XL_CFG_CODE x.val)) && Tab.get bool0 s.lane.inFrame x.val)] ∧
      Framed [.out] [XL_UNDERRUNS x.val, XL_SAT x.val] s t) ∧
  (∀ (s : State) (x : LaneId) (q : Nat) (y : Queue) (w : Word) (tx : LaneTx), s.flag (XL_CFG_EN x.val) = true →
    s.laneClocked x.val = true → s.get (XL_OWNER_KIND x.val) = 2 → s.get (XL_CFG_LOOP x.val) ≠ 3 →
    s.get (XL_QUEUES_TXQ x.val) = q → s.endMatches q false (.lane x) = true → s.queue q = some y → y.ready = true →
    tx.ecc = .clean → (s.word (s.serving (s.engineBank q)) (y.pos y.r)).data = w →
    (s.word (s.serving (s.engineBank q)) (y.pos y.r)).poison = false →
    ∃ t, exec (.laneTxToken x tx) s = .next t ∧ t.queue q = some (y.popped w false) ∧
      (s.get (XL_CFG_CODE x.val) = 1 → bitsAt w.toNat 56 6 = 0 ∨ 6 < bitsAt w.toNat 56 6 →
        (t.rd (XL_CODEERRS x.val)).toNat = min 0xFFFFFFFF ((s.rd (XL_CODEERRS x.val)).toNat + 1) ∧ t.out = s.out) ∧
      ((s.get (XL_CFG_CODE x.val) = 1 → bitsAt w.toNat 56 6 ≠ 0 ∧ bitsAt w.toNat 56 6 ≤ 6) →
        s.get (XL_CFG_LOOP x.val) < 2 → t.out = s.out ++ [.laneItem x.val (some w.toNat) false]) ∧
      Framed [.que, .out, .lane] [XL_CODEERRS x.val, XL_SAT x.val] s t)

/-- Tethers (R346, R347, R349): a TH_CTL write that may enable one gives its four lanes CODE 5 and trains it, one that may not shows
its reason, and one with EN 0 frees the lanes; a bring-up makes it UP with its peer and latency, and a duplicate peer or role is
refused; TIME makes a follower slew or step towards the lead, and goes out every 100 µs on every tether of a lead; credits add up.
A tether that loses all its lanes goes DOWN with its credits; one that loses one of several is degraded (R347, R348); blocks of a
configuration stream are staged and acknowledged by credits, whose number the spec leaves open (log entry 6), a whole stream that
passes is booted from, and one that fails, or does not begin within 100 ms, leaves the follower to boot from its own NV (R374). -/
def Obligations.TethersComplete : Prop :=
  (∀ (s u : State) (req : Requester) (k : TetherId) (v : Reg), Performs s req (TH_CTL k.val) true →
    regAfter (TH_CTL k.val) (s.rd (TH_CTL k.val)) v ≠ s.rd (TH_CTL k.val) →
    u = (if (s.rd (TH_CTL k.val)).getLsbD 0 = true then s.offTether k.val else s) →
    (v.getLsbD 0 = true → u.tetherBar k.val v = 0 → ∀ y,
      u.takeSynth (lanePll (4 * k.val)) (rateBase 11) (tetherLanes k.val) = some y →
      ∃ t, exec (.tetherEnable req k v) s = .next t ∧ t.get (TH_STATUS_STATE k.val) = 1 ∧
        t.rd (TH_CTL k.val) = regAfter (TH_CTL k.val) (s.rd (TH_CTL k.val)) v ∧
        (∀ x ∈ tetherLanes k.val, t.get (XL_OWNER_KIND x) = 3 ∧ t.rd (XL_CFG x) = tetherCfg ∧ t.get (XL_STATUS_SYNTH x) = y) ∧
        ((s.rd (TH_CTL k.val)).getLsbD 0 = false → (∀ x ∈ tetherLanes k.val, s.flag (XL_CFG_EN x) = false) → s.mnt.acts = [] →
          Framed [.lane, .cores] ([TH_CTL k.val, (TH_STATUS_STATE k.val).reg] ++ (tetherLanes k.val).map XL_CFG ++
            (tetherLanes k.val).map XL_STATUS ++ (tetherLanes k.val).map (fun x => (XL_OWNER_KIND x).reg)) s t)) ∧
    (v.getLsbD 0 = true → u.tetherBar k.val v ≠ 0 →
      ∃ t, exec (.tetherEnable req k v) s = .next t ∧ t.flag (TH_CTL_EN k.val) = false ∧
        t.flag (XL_STATUS_REFUSED (4 * k.val)) = true ∧ t.get (XL_STATUS_REASON (4 * k.val)) = u.tetherBar k.val v) ∧
    (v.getLsbD 0 = true → u.tetherBar k.val v = 0 →
      u.takeSynth (lanePll (4 * k.val)) (rateBase 11) (tetherLanes k.val) = none →
      ∃ t, exec (.tetherEnable req k v) s = .next t ∧ t.flag (TH_CTL_EN k.val) = false ∧
        t.flag (XL_STATUS_REFUSED (4 * k.val)) = true ∧ t.get (XL_STATUS_REASON (4 * k.val)) = 1) ∧
    (v.getLsbD 0 = false →
      ∃ t, exec (.tetherEnable req k v) s = .next t ∧ t.rd (TH_CTL k.val) = regAfter (TH_CTL k.val) (s.rd (TH_CTL k.val)) v ∧
        ((s.rd (TH_CTL k.val)).getLsbD 0 = true → t.get (TH_STATUS_STATE k.val) = 0 ∧
          ∀ x ∈ tetherLanes k.val, t.get (XL_OWNER_KIND x) = 0 ∧ t.rd (XL_CFG x) = 0))) ∧
  (∀ (s : State) (k : TetherId) (peer : Fin 8) (role : BitVec 2) (lat : BitVec 10) (lanes : BitVec 4),
    s.flag (TH_CTL_EN k.val) = true → s.laneClocked (4 * k.val) = true → s.tetherUp k.val = false → lanes ≠ 0 →
    (s.peerRefused k.val peer.val role.toNat = false →
      ∃ t, exec (.tetherUp k peer role lat lanes) s = .next t ∧ t.tetherUp k.val = true ∧
        t.get (TH_STATUS_PEER k.val) = peer.val ∧ t.get (TH_STATUS_LAT_NS k.val) = lat.toNat ∧
        t.get (TH_STATUS_LANES_UP k.val) = lanes.toNat ∧
        Framed (.lane :: evParts) ((TH_STATUS_STATE k.val).reg :: ((tetherLanes k.val).map XL_STATUS ++ bookKeys)) s t) ∧
    (s.peerRefused k.val peer.val role.toNat = true →
      ∃ t, exec (.tetherUp k peer role lat lanes) s = .next t ∧ t.flag (XL_STATUS_REFUSED (4 * k.val)) = true ∧
        t.get (XL_STATUS_REASON (4 * k.val)) = 3 ∧ Framed [] [XL_STATUS (4 * k.val)] s t)) ∧
  (∀ (s : State) (k : TetherId) (lead : Word) (off : Int), s.tetherUp k.val = true → s.get (TH_CTL_ROLE k.val) = 2 →
    off = (lead + BitVec.ofNat 64 (s.get (TH_STATUS_LAT_NS k.val)) - s.time).toInt →
    (off.natAbs ≤ 1000 ∨ s.anyPacer = true →
      ∃ t, exec (.tetherTime k lead) s = .next t ∧ t.pace.slew = (if off.natAbs < 2 then 0 else off) ∧ t.time = s.time ∧
        t.flag CLK_TIME_STATUS_SLEWING = decide (2 ≤ off.natAbs) ∧ t.pace.pacers = s.pace.pacers ∧
        (20 < off.natAbs → t.flag (TH_STATUS_TIME_ALIGNED k.val) = false) ∧
        Framed [.lane, .pace] [CLK_TIME_STATUS, (TH_STATUS_STATE k.val).reg] s t) ∧
    (1000 < off.natAbs → s.anyPacer = false →
      ∃ t, exec (.tetherTime k lead) s = .next t ∧ t.time = lead + BitVec.ofNat 64 (s.get (TH_STATUS_LAT_NS k.val)) ∧
        t.pace.slew = 0 ∧ t.flag CLK_TIME_STATUS_STEPPED = true)) ∧
  (∀ (s : State) (l : List (BitVec 16)),
    (s.lane.sentAt = none ∨ (∃ a, s.lane.sentAt = some a ∧ s.elapsed a 100000 = true) →
      ∃ t, exec (.tetherTimeSend l) s = .next t ∧ t.out = s.out ++ s.leadTethers.map (fun k => .tether k 6 s.time.toNat) ∧
        t.lane.sentAt = some s.time ∧
        Framed [.out, .lane] ((upto 8).map TH_RETRIES ++ (upto 8).map (fun k => (TH_SAT_RETRIES k).reg)) s t) ∧
    (∀ a, s.lane.sentAt = some a → s.elapsed a 100000 = false → exec (.tetherTimeSend l) s = .next s)) ∧
  (∀ (s : State) (k : TetherId) (n : BitVec 16), s.tetherUp k.val = true → s.get (TH_CTL_ROLE k.val) = 1 →
    ∃ t, exec (.tetherCredit k n) s = .next t ∧
      Tab.get nat0 t.lane.credits k.val = Tab.get nat0 s.lane.credits k.val + n.toNat ∧
      (∀ j, j ≠ k.val → Tab.get nat0 t.lane.credits j = Tab.get nat0 s.lane.credits j) ∧ Framed [.lane] [] s t) ∧
  (∀ (s : State) (k : TetherId), s.tetherUp k.val = true →
    ∃ t, exec (.tetherDown k) s = .next t ∧ t.tetherUp k.val = false ∧ t.get (TH_STATUS_LANES_UP k.val) = 0 ∧
      Tab.get nat0 t.lane.credits k.val = 0 ∧ (∀ j, j < 8 → j ≠ k.val → t.tetherUp j = s.tetherUp j) ∧
      (s.ctx.groups = [] → s.awaitsStream = false →
        (∀ e ∈ t.ctx.acks, e.1 ≠ k.val) ∧ Framed (.lane :: .ctx :: evParts) (TH_STATUS k.val :: bookKeys) s t)) ∧
  (∀ (s : State) (k : TetherId) (lane : Fin 4), s.tetherUp k.val = true →
    bitAt (s.get (TH_STATUS_LANES_UP k.val)) lane.val = true → s.get (TH_STATUS_LANES_UP k.val) ≠ 2 ^ lane.val →
    ∃ t, exec (.tetherDegraded k lane) s = .next t ∧
      t.get (TH_STATUS_LANES_UP k.val) = s.get (TH_STATUS_LANES_UP k.val) - 2 ^ lane.val ∧ t.tetherUp k.val = true ∧
      t.flag (XL_STATUS_RX_LOCK (4 * k.val + lane.val)) = false ∧ t.ev.seq = s.ev.seq + 2 ∧
      Framed (.lane :: evParts) (TH_STATUS k.val :: XL_STATUS (4 * k.val + lane.val) :: bookKeys) s t) ∧
  (∀ (s : State) (k : TetherId) (bytes : BitVec 32) (image : Image) (n : Nat), s.tetherUp k.val = true →
    s.get (TH_CTL_ROLE k.val) = 2 → s.awaitsStream = true → bytes ≠ 0 → n = s.img.streamed + bytes.toNat → n < 2 ^ 28 →
    (n < image.total.toNat → (256 ≤ n → s.headerStatus false image = stOK) →
      ∃ t v, exec (.tetherConfig k bytes image) s = .next t ∧ t.img.streamed = n ∧ t.img.staged = some image ∧
        t.get CFG_STAGE_STATE = 1 ∧ t.get CFG_STAGE_BYTES_BYTES = n ∧ t.out = s.out ++ [.tether k.val 8 v] ∧ v < 65536 ∧
        Framed [.img, .free, .out] [CFG_STAGE, CFG_STAGE_BYTES] s t) ∧
    (n = image.total.toNat → (256 ≤ n → s.headerStatus false image = stOK) → (s.verify false image).status = stOK →
      ∃ t, exec (.tetherConfig k bytes image) s = .next t ∧ t.get CFG_STAGE_STATE = 3 ∧ t.img.staged = some image ∧
        t.img.boot = some { source := 3, trial := false, failed := none, passed := true } ∧
        Framed [.img, .free, .out] [CFG_STAGE, CFG_STAGE_BYTES] s t) ∧
    ((256 ≤ n ∧ s.headerStatus false image ≠ stOK) ∨ image.total.toNat < n ∨
        (n = image.total.toNat ∧ (s.verify false image).status ≠ stOK) →
      ∃ t, exec (.tetherConfig k bytes image) s = .next t ∧ t.img.streamed = 0 ∧ t.img.staged = none ∧ BootsFrom s t)) ∧
  (∀ s : State, s.awaitsStream = true → s.img.streamed = 0 → s.elapsed s.dev.lockAt 100000000 = true →
    ∃ t, exec .tetherStreamTimeout s = .next t ∧ BootsFrom s t ∧
      ((s.verifySlot s.bootSlot).status = stOK → Framed [.img, .out] [CFG_BOOT] s t))

/-- Tethered swaps (R149, R348): a follower keeps a STROBE's swap for its device time; a lead notes that a follower is quiet, and
flips with FLIP to every follower once all are, or abandons everywhere when one failed; FLIP flips the follower's members and is
acknowledged, and ABANDON makes them keep their slots, or drops the swap that has not begun; FLIP_ACK ends the wait for that
acknowledgement. -/
def Obligations.TetheredSwapsComplete : Prop :=
  (∀ (s : State) (k : TetherId) (g : Id64) (slot : SlotId) (w : Word), s.tetherUp k.val = true → s.get (TH_CTL_ROLE k.val) = 2 →
    ∃ t r, exec (.tetherStrobe k g slot w) s = .next t ∧
      t.group g.val = { s.group g.val with waiting := (s.group g.val).waiting ++ [r] } ∧ r.slot = slot.val ∧ r.at_ = w ∧
      r.when_ = 1 ∧ r.trigger = 3 ∧ r.lead = some k.val ∧ (∀ j, j ≠ g.val → t.group j = s.group j) ∧ Framed [.ctx] [] s t) ∧
  (∀ (s : State) (k : TetherId) (g : Id64) (r : SwapRun), (s.group g.val).run = some r → k.val ∈ r.awaiting →
    (r.quiet = none ∨ r.lead.isSome = true ∨ delNat k.val r.awaiting ≠ [] →
      ∃ t, exec (.tetherReport k g 0) s = .next t ∧
        (t.group g.val).run = some { r with awaiting := delNat k.val r.awaiting } ∧
        (∀ j, j ≠ g.val → t.group j = s.group j) ∧ Framed [.ctx] [] s t) ∧
    (∀ l, r.quiet = some l → r.lead = none → delNat k.val r.awaiting = [] → r.boundary = none → SwapOk s r.mats r.slot →
      ∃ t, exec (.tetherReport k g 0) s = .next t ∧ (t.group g.val).run = none ∧ Flipped s t r ∧
        (∀ j ∈ r.strobed, s.tetherUp j = true → Out.tether j 3 g.val ∈ t.out.drop s.out.length) ∧
        (∀ j ∈ r.strobed, (j, g.val, r.slot) ∈ t.ctx.acks)) ∧
    (∀ st : Byte, st ≠ 0 → r.boundary = none → SwapOk s r.mats r.slot →
      ∃ t, exec (.tetherReport k g st) s = .next t ∧ (t.group g.val).run = none ∧ Abandoned s t r st.toNat ∧
        (∀ j ∈ delNat k.val r.strobed, s.tetherUp j = true →
          Out.tether j 4 (g.val + st.toNat * 256) ∈ t.out.drop s.out.length))) ∧
  (∀ (s : State) (k : TetherId) (g : Id64) (r : SwapRun) (l : List (Nat × Nat)), (s.group g.val).run = some r →
    r.quiet = some l → r.lead = some k.val → r.boundary = none → SwapOk s r.mats r.slot →
    ∃ t, exec (.tetherFlip k g) s = .next t ∧ (t.group g.val).run = none ∧ Flipped s t r ∧
      (s.tetherUp k.val = true → Out.tether k.val 5 g.val ∈ t.out.drop s.out.length) ∧
      (∀ q, r.mats = [s.logMat q] → r.trigger = 3 → r.asker = none → s.physMat (s.logMat q) = q →
        s.pinsOf (s.logMat q) = [] → (s.slot q r.slot).ctx.clocked = false → s.flag (gCLK_HELD q) = false → s.window q = [] →
        s.regionOf (s.logMat q) = none →
        Framed [.ctx, .free, .out]
          [(slotFld q 0).reg, (gACTIVE q).reg, COL_CTX_SWAPS (matCol q) (matG q), (COL_CTX_SAT_SWAPS (matCol q) (matG q)).reg,
           (COL_CTX_SWAPRES_STATUS (matCol q) (matG q)).reg, (COL_CTX_QUIETNS_TIME (matCol q) (matG q)).reg] s t)) ∧
  (∀ (s : State) (k : TetherId) (g : Id64) (r : SwapRun) (st : Byte), (s.group g.val).run = some r →
    r.lead = some k.val → r.boundary = none → SwapOk s r.mats r.slot →
    ∃ t, exec (.tetherAbandon k g st) s = .next t ∧ (t.group g.val).run = none ∧ Abandoned s t r st.toNat ∧
      (∀ p j, t.slot p j = s.slot p j) ∧
      (∀ q, r.mats = [s.logMat q] → r.trigger = 3 → r.asker = none → r.strobed = [] → s.physMat (s.logMat q) = q →
        s.pinsOf (s.logMat q) = [] → s.window q = [] →
        Framed (.ctx :: .free :: evParts)
          ((gQUIET q).reg :: (COL_CTX_SWAPRES_STATUS (matCol q) (matG q)).reg ::
           (COL_CTX_QUIETNS_TIME (matCol q) (matG q)).reg :: COL_CTX_SWAPTOS (matCol q) (matG q) ::
           (COL_CTX_SAT_SWAPTOS (matCol q) (matG q)).reg :: bookKeys) s t)) ∧
  (∀ (s : State) (k : TetherId) (g : Id64) (st : Byte), (∀ r, (s.group g.val).run = some r → r.lead ≠ some k.val) →
    ∃ t, exec (.tetherAbandon k g st) s = .next t ∧ t.group g.val = { s.group g.val with
        waiting := (s.group g.val).waiting.filter (fun r => decide (r.lead ≠ some k.val)) } ∧
      (∀ j, j ≠ g.val → t.group j = s.group j) ∧ Framed [.ctx] [] s t) ∧
  (∀ (s : State) (k : TetherId) (g : Id64),
    ∃ t, exec (.tetherFlipAck k g) s = .next t ∧
      (∀ e, e ∈ t.ctx.acks ↔ e ∈ s.ctx.acks ∧ ¬ (e.1 = k.val ∧ e.2.1 = g.val)) ∧ t.ctx.groups = s.ctx.groups ∧
      Framed [.ctx] [] s t)

/-- The fabric's rows (R60 to R92, R142): an illegal code is recorded with its place, counted, disables the inbound channel or asks
for relocation, and abandons a swap of the mat's group (R91); a channel that passes its re-test is enabled again and its sender's
relocation asked for, else its failed wire sets are noted and the receiver's (R90); a CLOCKED hold that meets NULL is counted
(R60); VDD_F below the greatest floor stops the CLOCKED holds of every mat that has them, and 20 mV above it all resume (R86,
R410); a MAC operation that its tile is free for stores its accumulator, offers its result and acknowledges its input (R81); a
token at a DRAIN border is acknowledged and counted (R142). -/
def Obligations.FabricRowsComplete : Prop :=
  (∀ (s : State) (m : MatId) (w : Fin 5) (i : BitVec 10),
    ∃ t, exec (.illegalCode m w i) s = .next t ∧ t.flag (gILLEGAL m.val) = true ∧
      t.rd (COL_GATE_ILLEGAL (matCol m.val) (matG m.val)) =
        BitVec.ofNat 32 (w.val + i.toNat * 16 + s.activeSlot m.val * 16384) ∧
      (t.rd (COL_GATE_ILLEGALS (matCol m.val) (matG m.val))).toNat =
        min 0xFFFFFFFF ((s.rd (COL_GATE_ILLEGALS (matCol m.val) (matG m.val))).toNat + 1) ∧
      (w = 1 → t.flag (chDisFld m.val (i.toNat % 64)) = true) ∧ (w ≠ 1 → m.val ∈ t.mnt.wanted) ∧
      (∀ g r, s.groupOf (s.logMat m.val) = some g → (s.group g).run = some r → r.boundary = none → SwapOk s r.mats r.slot →
        (t.group g).run = none ∧ Abandoned s t r stHW_FAULT) ∧
      (s.groupOf (s.logMat m.val) = none → (w.val, i.toNat) ∈ (t.fab m.val).bad ∧ (w = 1 → t.mnt.wanted = s.mnt.wanted) ∧
        Framed (.mnt :: .col :: .ctx :: evParts)
          ([(gILLEGAL m.val).reg, COL_GATE_ILLEGAL (matCol m.val) (matG m.val), COL_GATE_ILLEGALS (matCol m.val) (matG m.val),
            (COL_GATE_SAT_ILLEGALS (matCol m.val) (matG m.val)).reg, COL_GATE_CHDIS_LO (matCol m.val) (matG m.val),
            COL_GATE_CHDIS_HI (matCol m.val) (matG m.val)] ++ supKeys (matLayer m.val) ++ bookKeys) s t)) ∧
  (∀ (s : State) (m : MatId) (h : Fin 64) (failed : List (MatId × Fin 64 × Fin 4)),
    (s.flag (chDisFld m.val h.val) = true → (∀ w ∈ failed, (w.1.val, w.2.1.val, w.2.2.val) ∉ s.channelSets m.val h.val) →
      ∃ t, exec (.channelRetest m h failed) s = .next t ∧ t.flag (chDisFld m.val h.val) = false ∧
        t.flag (gILLEGAL m.val) = false ∧ (1, h.val) ∉ (t.fab m.val).bad ∧
        (∀ q, (s.sender m.val h.val).map Prod.fst = some q → q ∈ t.mnt.wanted) ∧
        Framed [.mnt, .col, .ctx] ([(gILLEGAL m.val).reg, COL_GATE_CHDIS_LO (matCol m.val) (matG m.val),
          COL_GATE_CHDIS_HI (matCol m.val) (matG m.val)] ++ supKeys (matLayer m.val)) s t) ∧
    (s.flag (chDisFld m.val h.val) = true → (∃ w ∈ failed, (w.1.val, w.2.1.val, w.2.2.val) ∈ s.channelSets m.val h.val) →
      ∃ t, exec (.channelRetest m h failed) s = .next t ∧ m.val ∈ t.mnt.wanted ∧
        (∀ w ∈ failed, (w.1.val, w.2.1.val, w.2.2.val) ∈ s.channelSets m.val h.val →
          Tab.get bool0 t.col.badWires ((w.1.val * 64 + w.2.1.val) * 4 + w.2.2.val) = true) ∧
        Framed [.mnt, .col] [] s t) ∧
    (s.flag (chDisFld m.val h.val) = false → exec (.channelRetest m h failed) s = .next s)) ∧
  (∀ (s : State) (m : MatId) (f : Fin 1024),
    (fwMODE ((s.activeCtx m.val).word f.val) = 5 → s.clocksRun m.val = true →
      ∃ t, exec (.clockedNull m f) s = .next t ∧ (t.rd (COL_GATE_CLKNULLS (matCol m.val) (matG m.val))).toNat =
          min 0xFFFFFFFF ((s.rd (COL_GATE_CLKNULLS (matCol m.val) (matG m.val))).toNat + 1) ∧
        Framed evParts (COL_GATE_CLKNULLS (matCol m.val) (matG m.val) ::
          (COL_GATE_SAT_CLKNULLS (matCol m.val) (matG m.val)).reg :: bookKeys) s t) ∧
    (fwMODE ((s.activeCtx m.val).word f.val) ≠ 5 ∨ s.clocksRun m.val = false → exec (.clockedNull m f) s = .next s)) ∧
  (∀ (s : State) (mv : BitVec 16), (∀ e ∈ s.ctx.slots, e.1 < 2048) →
    (mv.toNat < floorMv s.greatestFloor →
      ∃ t, exec (.clockHeld mv) s = .next t ∧ t.ctx.clkStopped = true ∧ (∀ m ∈ s.clockedMats, t.flag (gCLK_HELD m) = true) ∧
        t.measuredF = mv.toNat ∧ t.ctx.slots = s.ctx.slots ∧
        Framed (.ctx :: .pow :: evParts) ((upto 512).map (fun m => (gCLK_HELD m).reg) ++ bookKeys) s t) ∧
    (floorMv s.greatestFloor ≤ mv.toNat → exec (.clockHeld mv) s = .next s)) ∧
  (∀ (s : State) (mv : BitVec 16),
    (s.ctx.clkStopped = true → floorMv s.greatestFloor + 20 ≤ mv.toNat →
      ∃ t, exec (.clockReleased mv) s = .next t ∧ t.ctx.clkStopped = false ∧ (∀ m, m < 512 → t.flag (gCLK_HELD m) = false) ∧
        t.measuredF = mv.toNat ∧ t.ctx.slots = s.ctx.slots ∧
        Framed (.ctx :: .pow :: evParts) ((upto 512).map (fun m => (gCLK_HELD m).reg) ++ bookKeys) s t) ∧
    (s.ctx.clkStopped = false ∨ mv.toNat < floorMv s.greatestFloor + 20 → exec (.clockReleased mv) s = .next s)) ∧
  (∀ (s : State) (m : MatId) (tile : Fin 8) (x : BitVec 122),
    (∀ a : Word, s.tileFree m.val tile.val = true → (s.holds m.val).acc[tile.val]? = some a →
      ∃ t, exec (.macOperation m tile x) s = .next t ∧
        (t.slot m.val (s.activeSlot m.val)).holds.acc[tile.val]? = some (macOp x a).acc ∧
        (∀ j, j ≠ tile.val → (t.slot m.val (s.activeSlot m.val)).holds.acc[j]? = (s.holds m.val).acc[j]?) ∧
        Tab.get none0 (t.slot m.val (s.activeSlot m.val)).holds.res tile.val =
          some (BitVec.ofNat 65 ((macOp x a).result.toNat + b2n (macOp x a).ovf * 2 ^ 64)) ∧
        Tab.get bool0 (t.fab m.val).ackUp tile.val = true ∧
        t.out = s.out ++ [.token m.val (.mac tile.val) ((macOp x a).result.toNat + b2n (macOp x a).ovf * 2 ^ 64)] ∧
        (t.slot m.val (s.activeSlot m.val)).ctx = (s.slot m.val (s.activeSlot m.val)).ctx ∧
        Framed [.ctx, .out] [COL_GATE_OVFS (matCol m.val) (matG m.val), (COL_GATE_SAT_OVFS (matCol m.val) (matG m.val)).reg]
          s t) ∧
    (s.tileFree m.val tile.val = false → exec (.macOperation m tile x) s = .next s)) ∧
  (∀ (s : State) (m : MatId) (lane : Bool) (w : Fin 256) (drains : Bool),
    drains = (if lane then s.drainsLane m.val w.val else decide (w.val < 64) && s.drainsChannel m.val w.val) →
    (drains = true →
      ∃ t, exec (.drainToken m lane w) s = .next t ∧ (t.rd (COL_CTX_DRAINED (matCol m.val) (matG m.val))).toNat =
          min 0xFFFFFFFF ((s.rd (COL_CTX_DRAINED (matCol m.val) (matG m.val))).toNat + 1) ∧
        (lane = false → Tab.get bool0 (t.fab m.val).gateAck w.val = true) ∧
        (lane = true → t.laneBuf (matOf (matCol m.val) (1 - matG m.val)) w.val = 0) ∧
        Framed [.ctx] [COL_CTX_DRAINED (matCol m.val) (matG m.val), (COL_CTX_SAT_DRAINED (matCol m.val) (matG m.val)).reg]
          s t) ∧
    (drains = false → exec (.drainToken m lane w) s = .next s))

/-- Rhizoids and trunk lanes (R97 to R107): a sounding that fails a rhizoid once notes it, one that passes takes the note away, and
a second failure, or one of a re-test, fails the rhizoid and exhausts a group without usable spare; SOUND_MISS notes a rhizoid
that was not visited; a granted spare swap moves the position to the lowest usable spare whose sounding passes, and exhausts the
group when none does, whose use is then out of service (R102); a trunk timeout is counted and reported and keeps a token that
the far end has not, and the lane's failed rhizoids are spared (R101); contention disables the lane and loses its token (R106); a
re-test that finds nothing enables it, one that finds failed rhizoids waits for their spares, and one that finds a stray driver
or an exhausted group leaves it disabled (R107). -/
def Obligations.RhizoidsAndLanesComplete : Prop :=
  (∀ (s : State) (c : ColId) (i : Fin 4) (g : Fin 56) (x : Fin 66) (quiet pass : Bool) (r : Rhz),
    quiet = true ∨ 64 ≤ x.val → s.flag (COL_RHZ_CTL_SOUND_EN c.val) = true ∨ s.aheadNow c.val i.val g.val ≠ 0 →
    r = s.rhz c.val i.val g.val →
    (x.val ∈ r.failed ∨ pass = true ∨ (x.val ∉ r.strikes ∧
        (s.aheadNow c.val i.val g.val < 2 ∨ 4 < s.aheadNow c.val i.val g.val)) →
      ∃ t, exec (.soundingStep c i g x quiet pass) s = .next t ∧
        t.rhz c.val i.val g.val = { r with
          missed := delNat x.val r.missed,
          strikes := if x.val ∈ r.failed then r.strikes
            else if pass then delNat x.val r.strikes else insNat x.val r.strikes } ∧
        (x.val = 65 → aheadOf t c.val i.val g.val = 0) ∧
        (x.val ≠ 65 ∨ s.aheadNow c.val i.val g.val = 0 → Framed [.col] [] s t)) ∧
    (x.val ∉ r.failed → pass = false →
        x.val ∈ r.strikes ∨ (2 ≤ s.aheadNow c.val i.val g.val ∧ s.aheadNow c.val i.val g.val ≤ 4) →
      ∃ t, exec (.soundingStep c i g x quiet pass) s = .next t ∧ x.val ∈ (t.rhz c.val i.val g.val).failed ∧
        (t.rd (COL_RHZ_FAILS c.val)).toNat = min 0xFFFFFFFF ((s.rd (COL_RHZ_FAILS c.val)).toNat + 1) ∧
        (x.val < 64 → r.usable = [] → (t.rhz c.val i.val g.val).exhausted = true))) ∧
  (∀ (s : State) (c : ColId) (i : Fin 4) (g : Fin 56) (x : Fin 66) (quiet pass : Bool),
    (quiet = false ∧ x.val < 64) ∨
      (s.flag (COL_RHZ_CTL_SOUND_EN c.val) = false ∧ s.aheadNow c.val i.val g.val = 0) →
    exec (.soundingStep c i g x quiet pass) s = .next s) ∧
  (∀ (s : State) (c : ColId) (i : Fin 4) (g : Fin 56) (x : Fin 64),
    (s.flag (COL_RHZ_CTL_SOUND_EN c.val) = true →
      ∃ t, exec (.soundMiss c i g x) s = .next t ∧ t.rhz c.val i.val g.val = { s.rhz c.val i.val g.val with
          missed := insNat x.val (s.rhz c.val i.val g.val).missed } ∧ Framed [.col] [] s t) ∧
    (s.flag (COL_RHZ_CTL_SOUND_EN c.val) = false → exec (.soundMiss c i g x) s = .next s)) ∧
  (∀ (s : State) (c : ColId) (i : Fin 4) (g : Fin 56) (p : Fin 64) (ok0 ok1 : Bool) (a : Act) (r : Rhz),
    s.runningTask (isSwapOf c.val i.val g.val p.val) = some a → r = s.rhz c.val i.val g.val →
    (∀ sp l, r.usable = sp :: l → ok0 = true →
      ∃ t, exec (.spareSwap c i g p ok0 ok1) s = .next t ∧
        (t.rhz c.val i.val g.val).moved = r.moved ++ [(p.val, sp)] ∧ sp ∈ (t.rhz c.val i.val g.val).used ∧
        (t.rhz c.val i.val g.val).failed = r.failed ∧ (∀ b ∈ t.mnt.acts, b.place ≠ a.place) ∧
        (t.rd (COL_RHZ_SWAPS c.val)).toNat = min 0xFFFFFFFF ((s.rd (COL_RHZ_SWAPS c.val)).toNat + 1) ∧
        (s.col.repairs = [] → groupUse c.val i.val g.val ≠ 0 →
          Framed (.col :: evParts ++ grantParts)
            ([COL_RHZ_SWAPS c.val, COL_RHZ_SAT c.val] ++ supKeys i.val ++ bookKeys ++ grantKeys) s t)) ∧
    (∀ sp sq, r.usable = [sp, sq] → ok0 = false → ok1 = true →
      ∃ t, exec (.spareSwap c i g p ok0 ok1) s = .next t ∧
        (t.rhz c.val i.val g.val).moved = r.moved ++ [(p.val, sq)] ∧ sp ∈ (t.rhz c.val i.val g.val).used ∧
        sq ∈ (t.rhz c.val i.val g.val).used ∧ (∀ b ∈ t.mnt.acts, b.place ≠ a.place)) ∧
    (r.usable = [] ∨ (ok0 = false ∧ (r.usable.length = 1 ∨ ok1 = false)) →
      ∃ t, exec (.spareSwap c i g p ok0 ok1) s = .next t ∧ (t.rhz c.val i.val g.val).exhausted = true ∧
        (t.rhz c.val i.val g.val).moved = r.moved ∧ (∀ b ∈ t.mnt.acts, b.place ≠ a.place) ∧
        (groupUse c.val i.val g.val = 1 → t.useOut (matOf c.val (i.val / 2)) 0 = true) ∧
        (groupUse c.val i.val g.val = 3 → t.useOut (matOf c.val 0) 2 = true ∧ t.useOut (matOf c.val 1) 2 = true) ∧
        ((s.dependents c.val i.val g.val).1 = true → matOf c.val 0 ∈ t.mnt.wanted) ∧
        ((s.dependents c.val i.val g.val).2 = true → matOf c.val 1 ∈ t.mnt.wanted))) ∧
  (∀ (s : State) (c : ColId) (k : Fin 256) (g : Fin 2) (np : Bool) (failed : List (Fin 2 × Fin 66)) (b : BitVec 2),
    s.flag (laneDis c.val k.val) = false → s.laneOut c.val k.val = false → s.drivesNow (matOf c.val g.val) k.val = true →
    b = s.laneBuf (matOf c.val g.val) k.val → np = true ∨ b ≠ 0 →
    ∃ t, exec (.trunkTimeout c k g np failed) s = .next t ∧
      (t.rd (COL_TRUNK_FAULTS c.val)).toNat = min 0xFFFFFFFF ((s.rd (COL_TRUNK_FAULTS c.val)).toNat + 1) ∧
      (∀ w ∈ failed, (lanePositions k.val).any (fun p => (s.rhz c.val (1 + w.1.val) (k.val / 16)).carries p w.2.val) = true →
        w.2.val ∈ (t.rhz c.val (1 + w.1.val) (k.val / 16)).failed) ∧
      (failed = [] → Tab.get code0 s.col.kept (matOf c.val g.val * 256 + k.val) = 0 →
        Tab.get none0 s.col.restoring (c.val * 256 + k.val) = none → t.flag (laneDis c.val k.val) = false ∧
        t.laneBuf (matOf c.val g.val) k.val = (if s.laneBuf (matOf c.val (1 - g.val)) k.val = 0 then b else 0) ∧
        Tab.get code0 t.col.kept (matOf c.val g.val * 256 + k.val) = 0 ∧
        Framed (.col :: .ctx :: evParts) ([COL_TRUNK_FAULTS c.val, COL_RHZ_SAT c.val] ++ supKeys 1 ++ supKeys 3 ++ bookKeys)
          s t)) ∧
  (∀ (s : State) (c : ColId) (k : Fin 256) (g : Fin 2), s.flag (laneDis c.val k.val) = false →
    ∃ t, exec (.trunkContention c k g) s = .next t ∧ t.flag (laneDis c.val k.val) = true ∧
      (∀ j, j < 256 → j ≠ k.val → t.flag (laneDis c.val j) = s.flag (laneDis c.val j)) ∧
      (t.rd (COL_TRUNK_FAULTS c.val)).toNat = min 0xFFFFFFFF ((s.rd (COL_TRUNK_FAULTS c.val)).toNat + 1) ∧
      t.laneBuf (matOf c.val 0) k.val = 0 ∧ t.laneBuf (matOf c.val 1) k.val = 0 ∧
      Framed (.col :: .ctx :: evParts) ([(laneDis c.val k.val).reg, COL_TRUNK_FAULTS c.val, COL_RHZ_SAT c.val] ++ supKeys 1 ++
        supKeys 3 ++ bookKeys) s t) ∧
  (∀ (s u : State) (c : ColId) (k : Fin 256) (g : Fin 2) (failed : List (Fin 2 × Fin 66)) (stray : Option (Fin 2)),
    s.flag (laneDis c.val k.val) = true → s.laneDead c.val k.val = false →
    Tab.get none0 s.col.restoring (c.val * 256 + k.val) = none →
    u = s.failLane c.val k.val 0 (s.dependents c.val 1 (k.val / 16)) failed →
    (failed = [] → u = s) ∧
    ((∀ e, stray = some e → s.drivesNow (matOf c.val e.val) k.val = true) →
      (u.laneDead c.val k.val = false → u.laneOut c.val k.val = false →
        ∃ t, exec (.laneRetest c k g failed stray) s = .next t ∧ t.flag (laneDis c.val k.val) = false ∧
          (∀ j, j < 256 → j ≠ k.val → t.flag (laneDis c.val j) = u.flag (laneDis c.val j)) ∧
          (∀ r, s.col.retests.find? (fun e => decide (e.1 = c.val * 256 + k.val)) = some r → Ended s t r.2 stOK 0) ∧
          (s.col.retests = [] → Framed (.col :: evParts) ([(laneDis c.val k.val).reg] ++ supKeys 1 ++ supKeys 3 ++ bookKeys)
            u t)) ∧
      (u.laneDead c.val k.val = false → u.laneOut c.val k.val = true →
        ∃ t, exec (.laneRetest c k g failed stray) s = .next t ∧
          Tab.get none0 t.col.restoring (c.val * 256 + k.val) = some g.val ∧ Framed [.col] [] u t) ∧
      (u.laneDead c.val k.val = true →
        ∃ t, exec (.laneRetest c k g failed stray) s = .next t ∧
          t.flag (laneDis c.val k.val) = u.flag (laneDis c.val k.val) ∧
          (∀ r, s.col.retests.find? (fun e => decide (e.1 = c.val * 256 + k.val)) = some r → Ended s t r.2 stHW_FAULT 0))) ∧
    (∀ e, stray = some e → s.drivesNow (matOf c.val e.val) k.val = false →
      ∃ t, exec (.laneRetest c k g failed stray) s = .next t ∧ matOf c.val e.val ∈ t.mnt.wanted ∧
        t.flag (laneDis c.val k.val) = u.flag (laneDis c.val k.val) ∧
        (∀ r, s.col.retests.find? (fun e => decide (e.1 = c.val * 256 + k.val)) = some r → Ended s t r.2 stHW_FAULT 0)))

/-- Memory ports (R108 to R112): a request that a port takes is answered and acknowledged; a read answers the data with CORR or
UNCORR, a write lands where the bank is served, partial writes merge, a word of a fenced queue or a retired bank answers UNCORR,
a parity error is counted and reported (R99); requests that arrive together are performed in the order of R110; a response keeps
its bank from a next request of the port until it is acknowledged; a re-read that is clean counts a corrected port error. -/
def Obligations.MemoryPortsComplete : Prop :=
  (∀ (s : State) (x : PortArrival) (r : PortReq) (b p : Nat), r = portReq x.request → b = bankId (matCol x.mat.val) r.bank →
    p = s.serving b →
    (s.takesRequest x = false → exec (.mportRequest x []) s = .next s) ∧
    (s.takesRequest x = true →
      ∃ t a l, exec (.mportRequest x []) s = .next t ∧ t.portResp x.mat.val r.bank = some a ∧ a.tag = r.tag ∧
        a.write = r.write ∧ a.parity = x.parityBad ∧
        (∀ n j, j < 8 → (n, j) ≠ (x.mat.val, r.bank) → t.portResp n j = s.portResp n j) ∧
        Tab.get bool0 (t.fab x.mat.val).ackUp (8 + x.rq.val) = true ∧
        t.out = l ++ [.token x.mat.val (.mport r.bank) (respBits a)] ∧
        (x.parityBad = true → a.uncorr = true ∧ a.rdata = 0 ∧ a.corr = false ∧ t.mem.words = s.mem.words ∧
          (matG x.mat.val = 0 → (t.rd (COL_MPORT_PARA (matCol x.mat.val))).toNat =
            min 0xFFFFFFFF ((s.rd (COL_MPORT_PARA (matCol x.mat.val))).toNat + 1)) ∧
          (matG x.mat.val = 1 → (t.rd (COL_MPORT_PARB (matCol x.mat.val))).toNat =
            min 0xFFFFFFFF ((s.rd (COL_MPORT_PARB (matCol x.mat.val))).toNat + 1)) ∧
          (∀ k, k < 56 → groupUse (matCol x.mat.val) (1 + matG x.mat.val) k = 1 →
            aheadOf t (matCol x.mat.val) (1 + matG x.mat.val) k = 2)) ∧
        (x.parityBad = false → x.respParityBad = false →
          (s.fenced b r.word = true ∨ s.bankRetired b = true → a.uncorr = true ∧ a.rdata = 0 ∧
            l = s.out ∧ Framed [.mem, .ctx, .out] [] s t) ∧
          (s.fenced b r.word = false → s.bankRetired b = false → r.write = false →
            ((s.word p r.word).poison = true → a.rdata = (s.word p r.word).data ∧ a.uncorr = true ∧ a.corr = false ∧
              l = s.out ∧ Framed [.mem, .ctx, .out] [] s t) ∧
            ((s.word p r.word).poison = false → x.ecc = .clean → a.rdata = (s.word p r.word).data ∧ a.uncorr = false ∧
              a.corr = false ∧ l = s.out ∧ Framed [.mem, .ctx, .out] [] s t) ∧
            (∀ e, (s.word p r.word).poison = false → x.ecc = .ce e → a.rdata = (s.word p r.word).data ∧ a.uncorr = false ∧
              a.corr = true ∧ l = s.out ∧ Tab.get nil0 t.col.reread (matCol x.mat.val) =
                Tab.get nil0 s.col.reread (matCol x.mat.val) ++ [(x.mat.val, r.bank, r.word)] ∧
              Framed [.mem, .ctx, .col, .out] [] s t) ∧
            (∀ v e, (s.word p r.word).poison = false → x.ecc = .ue v e → a.rdata = v ∧ a.uncorr = true ∧ a.corr = false ∧
              t.word p r.word = { data := v, syn := e, poison := true } ∧
              (∀ c w, w < 8192 → (c, w) ≠ (p, r.word) → t.word c w = s.word c w) ∧
              (t.rd (COL_BANK_UES (bankCol p) (bankIdx p))).toNat =
                min 0xFFFFFFFF ((s.rd (COL_BANK_UES (bankCol p) (bankIdx p))).toNat + 1))) ∧
          (s.fenced b r.word = false → s.bankRetired b = false → r.write = true →
            (r.be = 255 → a.uncorr = false ∧ Wrote { s with mem := { s.mem with resp := t.mem.resp } } t b r.word r.wdata ∧
              l = s.out ∧ Framed [.mem, .words, .ctx, .out] [] s t) ∧
            (r.be ≠ 255 → (s.word p r.word).poison = true → a.uncorr = true ∧ l = s.out ∧
              Framed [.mem, .ctx, .out] [] s t) ∧
            (r.be ≠ 255 → (s.word p r.word).poison = false → x.ecc = .clean → a.uncorr = false ∧
              Wrote { s with mem := { s.mem with resp := t.mem.resp } } t b r.word
                (mergeBytes r.be (s.word p r.word).data r.wdata) ∧
              l = s.out ∧ Framed [.mem, .words, .ctx, .out] [] s t) ∧
            (∀ e, r.be ≠ 255 → (s.word p r.word).poison = false → x.ecc = .ce e → a.uncorr = false ∧
              (∀ d ∈ s.copiesOf b r.word, t.word d.1 d.2 = wordOf (mergeBytes r.be (s.word p r.word).data r.wdata)) ∧
              (t.rd (COL_BANK_CES (bankCol p) (bankIdx p))).toNat =
                min 0xFFFFFFFF ((s.rd (COL_BANK_CES (bankCol p) (bankIdx p))).toNat + 1)) ∧
            (∀ v e, r.be ≠ 255 → (s.word p r.word).poison = false → x.ecc = .ue v e → a.uncorr = true ∧
              t.word p r.word = { data := v, syn := e, poison := true }))) ∧
        (∀ u y, x.parityBad = false → x.respParityBad = true →
          exec (.mportRequest { x with respParityBad := false } []) s = .next u → u.portResp x.mat.val r.bank = some y →
          a = { y with uncorr := y.uncorr || !r.write } ∧ t.mem.words = u.mem.words))) ∧
  (∀ (s : State) (x y : PortArrival), ¬ (y.mat = x.mat ∧ arrivalBank y = arrivalBank x) →
    matCol y.mat.val = matCol x.mat.val → s.takesRequest x = true → s.takesRequest y = true →
    (arrivalWrites x = false ∧ arrivalWrites y = true) ∨
      (arrivalWrites x = true ∧ arrivalWrites y = true ∧ matG x.mat.val = 0 ∧ matG y.mat.val = 1) →
    ∀ u, exec (.mportRequest x []) s = .next u → u.takesRequest y = true →
      exec (.mportRequest x [y]) s = exec (.mportRequest y []) u ∧ exec (.mportRequest y [x]) s = exec (.mportRequest y []) u) ∧
  (∀ (s : State) (x y : PortArrival), y.mat = x.mat → arrivalBank y = arrivalBank x → x.rq = 0 → y.rq = 1 →
    s.takesRequest x = true →
    exec (.mportRequest x [y]) s = exec (.mportRequest x []) s ∧ exec (.mportRequest y [x]) s = exec (.mportRequest x []) s) ∧
  (∀ (s : State) (x : PortArrival) (l : List PortArrival), ∃ t, exec (.mportRequest x l) s = .next t ∧
    ∀ m b, b < 8 → (t.portResp m b).isSome = ((s.portResp m b).isSome ||
      (x :: l).any (fun y => decide (matCol y.mat.val = matCol x.mat.val ∧ y.mat.val = m ∧ arrivalBank y = b) &&
        s.takesRequest y))) ∧
  (∀ (s : State) (m : MatId) (b : Fin 8),
    ∃ t, exec (.mportResponseAck m b) s = .next t ∧ t.portResp m.val b.val = none ∧
      (∀ n j, j < 8 → (n, j) ≠ (m.val, b.val) → t.portResp n j = s.portResp n j) ∧ Framed [.mem] [] s t) ∧
  (∀ (s : State) (m : MatId) (b : Fin 8) (w : BitVec 13) (p : Nat), p = s.serving (bankId (matCol m.val) b.val) →
    ((m.val, b.val, w.toNat) ∈ Tab.get nil0 s.col.reread (matCol m.val) →
      (∃ t, exec (.ceReread m b w none) s = .next t ∧
        Tab.get nil0 t.col.reread (matCol m.val) = (Tab.get nil0 s.col.reread (matCol m.val)).erase (m.val, b.val, w.toNat) ∧
        (matG m.val = 0 → (t.rd (COL_MPORT_CESA (matCol m.val))).toNat =
          min 0xFFFFFFFF ((s.rd (COL_MPORT_CESA (matCol m.val))).toNat + 1)) ∧
        (matG m.val = 1 → (t.rd (COL_MPORT_CESB (matCol m.val))).toNat =
          min 0xFFFFFFFF ((s.rd (COL_MPORT_CESB (matCol m.val))).toNat + 1)) ∧
        (∀ k, k < 56 → groupUse (matCol m.val) (1 + matG m.val) k = 1 → aheadOf t (matCol m.val) (1 + matG m.val) k = 3) ∧
        Framed [.col] [COL_MPORT_CESA (matCol m.val), COL_MPORT_CESB (matCol m.val), COL_RHZ_SAT (matCol m.val)] s t) ∧
      (∀ e : Byte, ∃ t, exec (.ceReread m b w (some e)) s = .next t ∧
        Tab.get nil0 t.col.reread (matCol m.val) = (Tab.get nil0 s.col.reread (matCol m.val)).erase (m.val, b.val, w.toNat) ∧
        (t.rd (COL_BANK_CES (bankCol p) (bankIdx p))).toNat =
          min 0xFFFFFFFF ((s.rd (COL_BANK_CES (bankCol p) (bankIdx p))).toNat + 1) ∧
        t.get (COL_BANK_LAST_WORD (bankCol p) (bankIdx p)) = w.toNat ∧
        t.get (COL_BANK_LAST_SYNDROME (bankCol p) (bankIdx p)) = e.toNat ∧
        Framed [.col] [COL_BANK_CES (bankCol p) (bankIdx p), COL_BANK_SAT (bankCol p),
          (COL_BANK_LAST_WORD (bankCol p) (bankIdx p)).reg] s t)) ∧
    ((m.val, b.val, w.toNat) ∉ Tab.get nil0 s.col.reread (matCol m.val) →
      ∀ e, exec (.ceReread m b w e) s = .next s))

/-- Banks (R113 to R117): a scrub pass counts and shows the errors it finds, poisons the words it cannot correct, and makes a bank
with CE_LIMIT such words failing, whose remap or whose mats' relocation is asked for; a pass over a free b8 says whether it is
clean, and marks a bad one failed; a granted remap begins to mirror, and its end leaves in b8 every word of the bank that was not
mirrored, keeps the mirrored ones, and has b8 serve the bank; where b8 fails, it is marked failed and the mats are to be moved.
REPAIR (R118): arguments out of range end BAD_ARG and a column whose control rhizoids are out ends HW_FAULT; a bank becomes failing
and its remap is submitted, NO_SPACE without b8 and REFUSED where the bank is not in service; a group is to be sounded ahead under
its lock; a lane that is enabled is done at once, one of an exhausted group ends HW_FAULT, and any other waits for its re-test. -/
def Obligations.BanksRepair : Prop :=
  (∀ (s : State) (b : BankId) (ces : List (BitVec 13 × Byte)) (ues : List (BitVec 13 × Word × Byte)) (c i lim : Nat),
    c = bankCol b.val → i = bankIdx b.val → lim = s.get (COL_BANK_CTL_CE_LIMIT c i) →
    (s.flag (COL_SCRUB_CTL_EN c) = false ∨ s.get (bankState b.val) ≠ 0 ∨ s.scrubFree b.val = false →
      exec (.scrubPass b ces ues) s = .next s) ∧
    (s.flag (COL_SCRUB_CTL_EN c) = true → s.get (bankState b.val) = 0 → s.scrubFree b.val = true →
      (i = 8 → s.get (spareServes c) = 15 →
        ∃ t, exec (.scrubPass b ces ues) s = .next t ∧
          (t.rd (COL_BANK_CES c i)).toNat = min 0xFFFFFFFF ((s.rd (COL_BANK_CES c i)).toNat + ces.length) ∧
          (t.rd (COL_BANK_UES c i)).toNat = min 0xFFFFFFFF ((s.rd (COL_BANK_UES c i)).toNat + ues.length) ∧
          (Tab.get bool0 t.col.spareClean c = true ↔ ces = [] ∧ ues = []) ∧
          (t.get (bankState b.val) = 3 ↔ ues ≠ [] ∨ (lim ≠ 0 ∧ lim ≤ (ces.map Prod.fst).eraseDups.length)) ∧
          Framed [.col] [COL_BANK_CES c i, COL_BANK_UES c i, COL_BANK_SAT c, (COL_BANK_LAST_WORD c i).reg,
            (bankState b.val).reg] s t) ∧
      (i ≠ 8 ∨ s.get (spareServes c) ≠ 15 →
        (ues = [] → (∀ e ∈ ces, (s.word b.val e.1.toNat).poison = false) →
          ∃ t, exec (.scrubPass b ces ues) s = .next t ∧
            (t.rd (COL_BANK_CES c i)).toNat = min 0xFFFFFFFF ((s.rd (COL_BANK_CES c i)).toNat + ces.length) ∧
            (∀ w y, ces.getLast? = some (w, y) → t.get (COL_BANK_LAST_WORD c i) = w.toNat ∧
              t.get (COL_BANK_LAST_SYNDROME c i) = y.toNat ∧ t.flag (COL_BANK_LAST_UE c i) = false) ∧
            t.mem.words = s.mem.words ∧
            (lim = 0 ∨ (ces.map Prod.fst).eraseDups.length < lim →
              Framed [] [COL_BANK_CES c i, COL_BANK_SAT c, (COL_BANK_LAST_WORD c i).reg] s t) ∧
            (lim ≠ 0 → lim ≤ (ces.map Prod.fst).eraseDups.length → i ≠ 8 → s.get (spareServes c) ≠ i →
              Tab.get bool0 s.col.failing b.val = false → Tab.get bool0 t.col.failing b.val = true ∧
                (s.spareReady c = true → t.get (spareServes c) = i) ∧
                (s.spareReady c = false → matOf c 0 ∈ t.mnt.wanted ∧ matOf c 1 ∈ t.mnt.wanted))) ∧
        (∃ t, exec (.scrubPass b ces ues) s = .next t ∧ (∀ e ∈ ues, (t.word b.val e.1.toNat).poison = true) ∧
          (∀ k w, w < 8192 → (k ≠ b.val ∨ ∀ e ∈ ues, e.1.toNat ≠ w) → t.word k w = s.word k w))))) ∧
  (∀ (s : State) (b : Fin 2048),
    (∀ a, s.runningTask (fun t => decide (t = .remap b.val)) = some a → s.get (bankState b.val) = 0 →
      ∃ t, exec (.bankRemap b) s = .next t ∧ t.get (bankState b.val) = 1 ∧ Tab.get nil0 t.mem.mirrored (bankCol b.val) = [] ∧
        Framed [.mem] [(bankState b.val).reg] s t) ∧
    (s.runningTask (fun t => decide (t = .remap b.val)) = none ∨ s.get (bankState b.val) ≠ 0 →
      exec (.bankRemap b) s = .next s)) ∧
  (∀ (s : State) (b : Fin 2048) (ces : List (BitVec 13 × Byte)) (ues : List (BitVec 13 × Word × Byte)) (ns : BitVec 32)
    (a : Act) (c : Nat), c = bankCol b.val → s.wf = true → s.runningTask (fun t => decide (t = .remap b.val)) = some a →
    s.get (bankState b.val) = 1 →
    (∃ t, exec (.bankRemapped b ces ues false ns) s = .next t ∧ t.get (bankState b.val) = 2 ∧
      t.flag (bankSuspect b.val) = true ∧ Tab.get bool0 t.col.failing b.val = false ∧ Tab.get nil0 t.mem.mirrored c = [] ∧
      (∀ w, w < 8192 → w ∉ Tab.get nil0 s.mem.mirrored c → t.word (2048 + c) w = t.word b.val w) ∧
      (∀ w, w < 8192 → w ∈ Tab.get nil0 s.mem.mirrored c → t.word (2048 + c) w = s.word (2048 + c) w) ∧
      (∀ k w, w < 8192 → k ≠ 2048 + c → (k ≠ b.val ∨ ∀ e ∈ ues, e.1.toNat ≠ w) → t.word k w = s.word k w) ∧
      (∀ r, a.ref = some r → Ended s t r stOK 0) ∧
      ((∃ x ∈ t.mnt.acts, isSlice 6 b.val x.task = true) ∨ t.mnt.again ≠ [])) ∧
    (∃ t, exec (.bankRemapped b ces ues true ns) s = .next t ∧ t.get (bankState b.val) = 0 ∧
      t.get (bankState (2048 + c)) = 3 ∧ t.get (spareServes c) = 15 ∧ Tab.get bool0 t.col.failing b.val = true ∧
      matOf c 0 ∈ t.mnt.wanted ∧ matOf c 1 ∈ t.mnt.wanted ∧ (∀ x ∈ t.mnt.acts, x.place ≠ a.place) ∧
      (∀ r, a.ref = some r → Ended s t r stHW_FAULT 0))) ∧
  (∀ (s : State) (b : Fin 2048) (ces : List (BitVec 13 × Byte)) (ues : List (BitVec 13 × Word × Byte)) (f : Bool)
    (ns : BitVec 32), s.runningTask (fun t => decide (t = .remap b.val)) = none ∨ s.get (bankState b.val) ≠ 1 →
    exec (.bankRemapped b ces ues f ns) s = .next s) ∧
  (∀ (s : State) (h : Hdr) (kind : Byte) (column : BitVec 16) (unit group : Byte) (c : Nat), Lets s h 0x62 → c = column.toNat →
    (repairArgsOk kind.toNat c unit.toNat group.toNat = false →
      ∃ t, exec (.repair h kind column unit group) s = .next t ∧ Done s t h 0x62 stBAD_ARG 0 ∧ Framed cmdParts bookKeys s t) ∧
    (repairArgsOk kind.toNat c unit.toNat group.toNat = true → s.controlOut c = true →
      ∃ t, exec (.repair h kind column unit group) s = .next t ∧ Done s t h 0x62 stHW_FAULT 0 ∧ Framed cmdParts bookKeys s t) ∧
    (repairArgsOk kind.toNat c unit.toNat group.toNat = true → s.controlOut c = false →
      (kind = 0 → s.spareReady c = false →
        ∃ t, exec (.repair h kind column unit group) s = .next t ∧ Done s t h 0x62 stNO_SPACE 0 ∧
          Framed cmdParts bookKeys s t) ∧
      (kind = 0 → s.spareReady c = true → s.get (bankState (bankId c unit.toNat)) ≠ 0 →
        ∃ t, exec (.repair h kind column unit group) s = .next t ∧ Done s t h 0x62 stREFUSED 0 ∧
          Framed cmdParts bookKeys s t) ∧
      (kind = 0 → s.spareReady c = true → s.get (bankState (bankId c unit.toNat)) = 0 →
        ∃ t, exec (.repair h kind column unit group) s = .next t ∧
          ((∃ a ∈ t.mnt.acts, a.task = .remap (bankId c unit.toNat) ∧ a.ref = some (hdrRef h 0x62) ∧
              a.locks = remapLocks (bankId c unit.toNat) ∧ (a.st = .waiting → Queued s t h 0x62) ∧
              Tab.get bool0 t.col.failing (bankId c unit.toNat) = true ∧
              (t.cmdOf h.ring.val h.id 0x62).isSome = true ∧
              Framed (.col :: cmdParts) ((spareServes c).reg :: (supKeys 2 ++ bookKeys)) s t) ∨
            ((∀ p, p < 32 → ∃ x ∈ t.mnt.acts, x.place = p) ∧ Done s t h 0x62 stNO_SPACE 0))) ∧
      (kind = 1 → ∀ p a, freePlace s.mnt.acts (.spareSwap c unit.toNat group.toNat 66) = some p →
        a = { place := p, task := .spareSwap c unit.toNat group.toNat 66, locks := [.rgroup c unit.toNat group.toNat],
              st := .waiting, requester := 3, ref := some (hdrRef h 0x62), since := s.time, resource := c } →
        ∃ t, exec (.repair h kind column unit group) s = .next t ∧
          t.col.repairs = s.col.repairs ++ [(groupKey c unit.toNat group.toNat, hdrRef h 0x62)] ∧
          (t.cmdOf h.ring.val h.id 0x62).isSome = true ∧
          (grantable (s.mnt.acts ++ [a]) a = true → t.mnt.acts = grantIn (s.mnt.acts ++ [a]) a) ∧
          (grantable (s.mnt.acts ++ [a]) a = false → t.mnt.acts = s.mnt.acts ++ [a] ∧ Queued s t h 0x62) ∧
          Framed (.col :: cmdParts) bookKeys s t) ∧
      (kind = 1 → freePlace s.mnt.acts (.spareSwap c unit.toNat group.toNat 66) = none →
        ∃ t, exec (.repair h kind column unit group) s = .next t ∧ Done s t h 0x62 stNO_SPACE 0 ∧
          Framed cmdParts bookKeys s t) ∧
      (kind = 2 → s.flag (laneDis c unit.toNat) = false →
        ∃ t, exec (.repair h kind column unit group) s = .next t ∧ Done s t h 0x62 stOK 0 ∧ Framed cmdParts bookKeys s t) ∧
      (kind = 2 → s.flag (laneDis c unit.toNat) = true → s.laneDead c unit.toNat = true →
        ∃ t, exec (.repair h kind column unit group) s = .next t ∧ Done s t h 0x62 stHW_FAULT 0 ∧
          Framed cmdParts bookKeys s t) ∧
      (kind = 2 → s.flag (laneDis c unit.toNat) = true → s.laneDead c unit.toNat = false →
        ∃ t, exec (.repair h kind column unit group) s = .next t ∧
          t.col.retests = s.col.retests ++ [(c * 256 + unit.toNat, hdrRef h 0x62)] ∧
          (t.cmdOf h.ring.val h.id 0x62).isSome = true ∧ Framed [.col, .cmds, .sessions] [] s t)))

/-- Rings of a RUNNING kind: a doorbell index within reach of the previous one is taken, on either side, and one out of reach puts
the ring in FAULT with cause 0 (R289, R290); a write of EN 1 with a valid set-up starts the ring empty and mirrors index 0, one with
an invalid set-up is refused, and on an enabled ring KIND and SIZE_LOG2 stay; EN 0 stops a ring, and with a completion ring the
command rings that name it (cause 3); a failed DMA request is FAULT cause 1 (R290); a fetched command that its session may issue is
accepted, any other completes with BAD_ARG or AUTH, with C moved on and mirrored (R288, R293); held completions are written while
there is room (R295); the time limit of a message raises it (R291). -/
def Obligations.RingsComplete : Prop :=
  (∀ (s : State) (ring : RingId) (v : Word) (n md : Nat), n = ring.val → md = 2 * s.ringSize n →
    (s.get (ringSTATE n) ≠ 1 → exec (.doorbellWrite ring v) s = .next s) ∧
    (s.get (ringSTATE n) = 1 → s.hostProduces n = true → v.toNat < md →
      (v.toNat + md - (s.ring n).p) % md ≤ ((s.ring n).c + s.ringSize n + md - (s.ring n).p) % md →
      ∃ t, exec (.doorbellWrite ring v) s = .next t ∧ t.ring n = { s.ring n with p := v.toNat } ∧
        (∀ m, m ≠ n → t.ring m = s.ring m) ∧ Framed [.rings] [] s t) ∧
    (s.get (ringSTATE n) = 1 → s.hostProduces n = false → v.toNat < md →
      (v.toNat + md - (s.ring n).c) % md ≤ ((s.ring n).p + md - (s.ring n).c) % md →
      ∃ t, exec (.doorbellWrite ring v) s = .next t ∧ t.ring n = { s.ring n with c := v.toNat } ∧
        (∀ m, m ≠ n → t.ring m = s.ring m) ∧ Framed [.rings] [] s t) ∧
    (s.get (ringSTATE n) = 1 → md ≤ v.toNat ∨
        (s.hostProduces n = true ∧
          ((s.ring n).c + s.ringSize n + md - (s.ring n).p) % md < (v.toNat + md - (s.ring n).p) % md) ∨
        (s.hostProduces n = false ∧ ((s.ring n).p + md - (s.ring n).c) % md < (v.toNat + md - (s.ring n).c) % md) →
      ∃ t, exec (.doorbellWrite ring v) s = .next t ∧ RingFault s t n 0)) ∧
  (∀ (s : State) (ring : RingId) (cfg : Reg) (n : Nat), n = ring.val → cfg.getLsbD 0 = true →
    (s.flag (ringEN n) = false → s.ringValid n cfg = true →
      ∃ t, exec (.ringEnable ring cfg) s = .next t ∧ t.rd (ringCfg n) = cfg &&& ringMask n ∧
        t.get (ringSTATE n) = 1 ∧ t.ring n = { s.ring n with p := 0, c := 0, unsig := 0, pushed := 0 } ∧
        t.out = s.out ++ [.hostWrite (BitVec.ofNat 64 ((s.rd64 (ringMirrorLo n) (ringMirrorLo n + 4)).toNat / 8 * 8))
          (leBytes 8 0)] ∧ (∀ m, m ≠ n → t.ring m = s.ring m) ∧
        Framed [.rings, .out] [ringCfg n, ringKey n 0x1C] s t) ∧
    (s.flag (ringEN n) = false → s.ringValid n cfg = false →
      ∃ t, exec (.ringEnable ring cfg) s = .next t ∧ t.flag (ringEN n) = false ∧
        t.flag (ringREFUSED n) = true ∧ t.get (ringSTATE n) = s.get (ringSTATE n) ∧
        Framed [] [ringCfg n, ringKey n 0x1C] s t) ∧
    (s.flag (ringEN n) = true →
      ∃ t, exec (.ringEnable ring cfg) s = .next t ∧ t.flag (ringEN n) = true ∧ t.get (ringKIND n) = s.get (ringKIND n) ∧
        t.get (ringSIZE n) = s.get (ringSIZE n) ∧ t.flag (ringVEC_EN n) = cfg.getLsbD 19 ∧
        Framed [] [ringCfg n] s t)) ∧
  (∀ (s : State) (ring : RingId) (cfg : Reg) (n : Nat), n = ring.val → cfg.getLsbD 0 = false →
    ∃ t, exec (.ringDisable ring cfg) s = .next t ∧ t.get (ringSTATE n) = 0 ∧ t.flag (ringEN n) = false ∧
      (s.ringRuns n 1 = false → Framed [] [ringCfg n, ringKey n 0x1C] s t) ∧
      (s.ringRuns n 1 = true → ∀ r, r < 64 → s.ringRuns r 0 = true → s.get ⟨ringAux r, 0, 6⟩ = n →
        t.get (ringSTATE r) = 2 ∧ t.get (ringCAUSE r) = 3)) ∧
  (∀ (s : State) (ring : RingId) (cfg : Reg), (cfg.getLsbD 0 = false → exec (.ringEnable ring cfg) s = .next s) ∧
    (cfg.getLsbD 0 = true → exec (.ringDisable ring cfg) s = .next s)) ∧
  (∀ (s : State) (ring : RingId) (index : BitVec 32),
    (s.get (ringSTATE ring.val) = 1 → ∃ t, exec (.dmaError ring index) s = .next t ∧ RingFault s t ring.val 1) ∧
    (s.get (ringSTATE ring.val) ≠ 1 → exec (.dmaError ring index) s = .next s)) ∧
  (∀ (s : State) (ring : Fin 64) (opcode flags : Byte) (session : BitVec 16) (id : BitVec 32) (n c : Nat), n = ring.val →
    c = ((s.ring n).c + 1) % (2 * s.ringSize n) →
    (s.mayFetch n (flags.getLsbD 0) = false → exec (.commandFetch ring opcode flags session id) s = .next s) ∧
    (s.mayFetch n (flags.getLsbD 0) = true → (opcodeNeed opcode.toNat).isSome = true → flags.toNat ≤ 1 →
      s.mayIssue opcode.toNat session = true →
      ∃ t, exec (.commandFetch ring opcode flags session id) s = .next t ∧
        t.host.cmds = s.host.cmds ++ [⟨n, id, opcode.toNat, session, false, false⟩] ∧
        t.ring n = { s.ring n with c := c } ∧
        t.out = s.out ++ [.hostWrite (BitVec.ofNat 64 ((s.rd64 (ringMirrorLo n) (ringMirrorLo n + 4)).toNat / 8 * 8))
          (leBytes 8 c)] ∧ Framed [.rings, .out, .cmds, .sessions] [] s t) ∧
    (s.mayFetch n (flags.getLsbD 0) = true → (opcodeNeed opcode.toNat).isSome = true → flags.toNat ≤ 1 →
      s.mayIssue opcode.toNat session = false →
      ∃ t, exec (.commandFetch ring opcode flags session id) s = .next t ∧ (t.ring n).c = c ∧
        Ended s t ⟨n, id, opcode.toNat⟩ stAUTH 0 ∧ Framed [.rings, .out, .cmds] [] s t) ∧
    (s.mayFetch n (flags.getLsbD 0) = true → opcodeNeed opcode.toNat = none ∨ 1 < flags.toNat →
      ∃ t, exec (.commandFetch ring opcode flags session id) s = .next t ∧ (t.ring n).c = c ∧
        Ended s t ⟨n, id, opcode.toNat⟩ stBAD_ARG 0 ∧ Framed [.rings, .out, .cmds] [] s t)) ∧
  (∀ (s : State) (ring : Fin 64) (n : Nat), n = ring.val →
    (∀ c cs, s.ringRuns n 1 = true → s.dmaOn = true → s.ringFull n = false → (s.ring n).held = c :: cs →
      ∃ t, exec (.completionFlush ring) s = .next t ∧ (t.ring n).held <:+ cs ∧
        ((t.ring n).held = [] ∨ t.ringFull n = true) ∧
        (t.ring n).p = ((s.ring n).p + ((s.ring n).held.length - (t.ring n).held.length)) % (2 * s.ringSize n) ∧
        Out.hostWrite (s.entryAddr n (s.ring n).p 16) (complBytes c) ∈ t.out.drop s.out.length ∧
        (∀ m, m ≠ n → t.ring m = s.ring m) ∧ Framed [.rings, .out] [] s t) ∧
    (s.ringRuns n 1 = false ∨ s.dmaOn = false ∨ s.ringFull n = true ∨ (s.ring n).held = [] →
      exec (.completionFlush ring) s = .next s)) ∧
  (∀ (s : State) (ring : RingId) (n : Nat) (due : Bool), n = ring.val →
    due = decide (s.get (ringSTATE n) = 1 ∧ s.get (ringKIND n) ≠ 0 ∧ s.flag (ringVEC_EN n) = true ∧ 0 < (s.ring n).unsig ∧
      0 < s.get (ringUS n) ∧ s.dmaOn = true ∧ s.elapsed (s.ring n).since (s.get (ringUS n) * 1000) = true) →
    (due = true →
      ∃ t, exec (.msixCoalesceTimeout ring) s = .next t ∧ t.ring n = { s.ring n with unsig := 0 } ∧
        t.out = s.out ++ [.msix (if n < 64 then 0 else 1) (s.get (ringVECTOR n))] ∧
        (∀ m, m ≠ n → t.ring m = s.ring m) ∧ Framed [.rings, .out] [] s t) ∧
    (due = false → exec (.msixCoalesceTimeout ring) s = .next s))

/-- A data ring bound to a queue (R298 to R300): a posted entry is filled with the words present, up to its LEN, and written back
with their number, EPOCH and time, at once where COAL.US is 0 and after the time limit where it is not; a packet is written back
whole once its words and the space for it are there, and one whose length word is uncorrectable resets its queue; an entry against
the format is a ring fault; the words of a host-to-device entry are pushed in order while the queue takes them, and C moves on when
all are. -/
def Obligations.DataRingsComplete : Prop :=
  (∀ (s : State) (ring : RingId) (l : List DEntry) (found : List (Nat × Ecc)) (n : Nat), n = ring.val →
    (s.ringRuns n 3 = false ∨ s.dmaOn = false ∨ s.posted n < l.length ∨ s.boundQueue n = none ∨ l = [] →
      exec (.dataRingWriteback ring l found) s = .next s) ∧
    (∀ qi x e es, l = e :: es → s.ringRuns n 3 = true → s.dmaOn = true → l.length ≤ s.posted n → s.boundQueue n = some qi →
      s.queue qi = some x →
      (x.cons ≠ 3 → exec (.dataRingWriteback ring l found) s = .next s) ∧
      (∀ k, x.cons = 3 → x.packet = false → k = min (e.len.toNat / 8) x.count →
        (DEntryOk e = false → ∃ t, exec (.dataRingWriteback ring l found) s = .next t ∧ RingFault s t n 2) ∧
        (DEntryOk e = true → k = 0 ∨ (k < e.len.toNat / 8 ∧ s.get (ringUS n) ≠ 0) →
          exec (.dataRingWriteback ring l found) s = .next s) ∧
        (DEntryOk e = true → 0 < k → k = e.len.toNat / 8 ∨ s.get (ringUS n) = 0 →
          ((∀ i, i < k → (s.itemAt qi i).poison = false ∧ eccAt found i = .clean) →
            ∃ t, exec (.dataRingWriteback ring l found) s = .next t ∧ Filled s t n qi e x 0 k 0 16) ∧
          (∀ u p ps, s.popItems qi found 0 k = (u, p :: ps) →
            ∃ t, exec (.dataRingWriteback ring l found) s = .next t ∧ (t.ring n).c = ((u.ring n).c + 1) % (2 * u.ringSize n) ∧
              (u.out ++ [.hostWrite e.addr (((p :: ps).map Popped.item).foldr (fun w b => leBytes 8 w.toNat ++ b) []),
                .hostWrite (u.entryAddr n (u.ring n).c 32 + 16) (writeBackBytes (8 * (ps.length + 1)) 0
                  (16 + 8 * b2n ((p :: ps).any Popped.uncorr)) p.epoch u.time)]) <+: t.out ∧
              Framed [.rings, .out] [] u t) ∧
          (∀ u, s.popItems qi found 0 k = (u, []) → exec (.dataRingWriteback ring l found) s = .next u))) ∧
      (∀ k need, x.cons = 3 → x.packet = true → k = bitsAt (s.itemAt qi 0).data.toNat 0 16 → need = entriesFor l k →
        (s.headReady qi = false → exec (.dataRingWriteback ring l found) s = .next s) ∧
        (s.headReady qi = true → x.left = 0 → (s.itemAt qi 0).poison = true ∨ eccUe (eccAt found 0) = true →
          ∃ t, exec (.dataRingWriteback ring l found) s = .next t ∧ t.queue qi = some x.cleared) ∧
        (s.headReady qi = true → (s.itemAt qi 0).poison = false → eccUe (eccAt found 0) = false →
          (x.count < k + 1 ∨ entriesWords l < k → exec (.dataRingWriteback ring l found) s = .next s) ∧
          (k + 1 ≤ x.count → k ≤ entriesWords l → need.all DEntryOk = false →
            ∃ t, exec (.dataRingWriteback ring l found) s = .next t ∧ RingFault s t n 2) ∧
          (k + 1 ≤ x.count → k ≤ entriesWords l → need.all DEntryOk = true →
            (need = [e] → x.left = 0 → (∀ i, i ≤ k → (s.itemAt qi i).poison = false ∧ eccAt found i = .clean) →
              ∃ t, exec (.dataRingWriteback ring l found) s = .next t ∧
                Filled s t n qi e x 1 k (bitsAt (s.itemAt qi 0).data.toNat 16 16)
                  (19 + 4 * b2n (bitAt (s.itemAt qi 0).data.toNat 32))) ∧
            (∀ u len v items, s.popItem qi (eccAt found 0) = (u, some len) → u.popItems qi found 1 k = (v, items) →
              (items.length = k → exec (.dataRingWriteback ring l found) s = .next (v.fillPacket n len need items true)) ∧
              (items.length < k → ∃ t, exec (.dataRingWriteback ring l found) s = .next t ∧
                (t.rd HDR_DISCARDS).toNat = min 0xFFFFFFFF ((v.rd HDR_DISCARDS).toNat + 1) ∧
                Framed [] [HDR_DISCARDS, HDR_SAT_DISCARDS.reg] v t))))))) ∧
  (∀ (s : State) (ring : RingId) (e : DEntry) (found : List (Nat × Ecc)) (n : Nat), n = ring.val →
    (s.ringRuns n 3 = false ∨ s.dmaOn = false ∨ s.posted n = 0 ∨ s.get (ringUS n) = 0 ∨ s.boundQueue n = none →
      exec (.dataRingCoalTimeout ring e found) s = .next s) ∧
    (∀ qi x k, s.ringRuns n 3 = true → s.dmaOn = true → 0 < s.posted n → 0 < s.get (ringUS n) → s.boundQueue n = some qi →
      s.queue qi = some x → k = min (e.len.toNat / 8) x.count →
      (x.cons ≠ 3 ∨ x.packet = true ∨ s.elapsed x.freshAt (s.get (ringUS n) * 1000) = false →
        exec (.dataRingCoalTimeout ring e found) s = .next s) ∧
      (x.cons = 3 → x.packet = false → s.elapsed x.freshAt (s.get (ringUS n) * 1000) = true →
        (DEntryOk e = false → ∃ t, exec (.dataRingCoalTimeout ring e found) s = .next t ∧ RingFault s t n 2) ∧
        (DEntryOk e = true → k = 0 → exec (.dataRingCoalTimeout ring e found) s = .next s) ∧
        (DEntryOk e = true → 0 < k → (∀ i, i < k → (s.itemAt qi i).poison = false ∧ eccAt found i = .clean) →
          ∃ t, exec (.dataRingCoalTimeout ring e found) s = .next t ∧ Filled s t n qi e x 0 k 0 16) ∧
        (DEntryOk e = true → 0 < k → ∀ u, s.popItems qi found 0 k = (u, []) →
          exec (.dataRingCoalTimeout ring e found) s = .next u)))) ∧
  (∀ (s : State) (ring : RingId) (e : DEntry) (words : List Word) (n : Nat), n = ring.val →
    (s.ringRuns n 3 = false ∨ s.dmaOn = false ∨ s.ringEmpty n = true ∨ s.boundQueue n = none →
      exec (.dataRingFetch ring e words) s = .next s) ∧
    (∀ qi x d ws, s.ringRuns n 3 = true → s.dmaOn = true → s.ringEmpty n = false → s.boundQueue n = some qi →
      s.queue qi = some x → d = (s.ring n).pushed → ws = (words.take (e.len.toNat / 8)).drop d →
      (x.prod ≠ 3 → exec (.dataRingFetch ring e words) s = .next s) ∧
      (x.prod = 3 → DEntryOk e = false → ∃ t, exec (.dataRingFetch ring e words) s = .next t ∧ RingFault s t n 2) ∧
      (x.prod = 3 → DEntryOk e = true → ∀ u, u = s.pushWords n qi (e.hflags.getLsbD 0) (e.hflags.getLsbD 1) d ws →
        ((u.ring n).pushed < e.len.toNat / 8 → exec (.dataRingFetch ring e words) s = .next u) ∧
        (e.len.toNat / 8 ≤ (u.ring n).pushed → ∃ t, exec (.dataRingFetch ring e words) s = .next t ∧
          t.ring n = { u.ring n with c := ((u.ring n).c + 1) % (2 * u.ringSize n), pushed := 0 } ∧
          t.out = u.out ++ [.hostWrite (BitVec.ofNat 64 ((u.rd64 (ringMirrorLo n) (ringMirrorLo n + 4)).toNat / 8 * 8))
            (leBytes 8 (((u.ring n).c + 1) % (2 * u.ringSize n)))] ∧ Framed [.rings, .out] [] u t) ∧
        (∀ j, x.packet = false → s.bankRetired (s.engineBank qi) = false → x.base + x.size ≤ 8192 → x.r < 2 * x.size →
          j = min ws.length x.free → 0 < j →
          u.queue qi = some { s.pushed qi x j with len := 0 } ∧ u.ring n = { s.ring n with pushed := d + j } ∧
          (∀ i w, i < j → ws[i]? = some w → ∀ b ∈ s.copiesOf (s.engineBank qi) (x.pos (x.w + i)), u.word b.1 b.2 = wordOf w) ∧
          (∀ b a, a < 8192 → (∀ i, i < j → (b, a) ∉ s.copiesOf (s.engineBank qi) (x.pos (x.w + i))) →
            u.word b a = s.word b a) ∧
          (∀ p, p ≠ qi → u.queue p = s.queue p) ∧ Framed [.que, .words, .mem, .rings] [] s u) ∧
        (ws = [] ∨ s.canPush qi (e.hflags.getLsbD 0 && decide (d = 0)) = false → u = s))))

/-- The host's presence (R279 to R282, R301, R302): a heartbeat write restarts the timer of a heartbeat that is enabled and ends
host-absent mode, HIF_HB_CTL starts and stops it, its expiry begins host-absent mode with cause 0 and closes every session;
PERST# and an FLR take the set-ups of their rings, return registers to reset and close sessions, PERST# with host-absent mode where
the heartbeat is enabled; the link's state shows in HIF_STATUS, HIF_LINK and HL_STATUS, and rings keep their set-ups over a link
loss. -/
def Obligations.HostPresenceComplete : Prop :=
  (∀ (s : State) (v : Reg),
    (s.flag HIF_HB_CTL_EN = false → ∃ t, exec (.heartbeatWrite v) s = .next t ∧ t.rd HIF_HEARTBEAT = v ∧
      Framed [] [HIF_HEARTBEAT] s t) ∧
    (s.flag HIF_HB_CTL_EN = true → s.flag HIF_STATUS_HOST_ABSENT = false →
      ∃ t, exec (.heartbeatWrite v) s = .next t ∧ t.rd HIF_HEARTBEAT = v ∧ t.host.hbAt = s.time ∧ t.host.hbRun = true ∧
        Framed [.host] [HIF_HEARTBEAT] s t) ∧
    (s.flag HIF_HB_CTL_EN = true → s.flag HIF_STATUS_HOST_ABSENT = true →
      ∃ t, exec (.heartbeatWrite v) s = .next t ∧ t.rd HIF_HEARTBEAT = v ∧ t.host.hbAt = s.time ∧ t.host.hbRun = true ∧
        t.flag HIF_STATUS_HOST_ABSENT = false ∧ t.ev.seq = s.ev.seq + 1 ∧
        Framed (.host :: evParts) (HIF_HEARTBEAT :: HIF_STATUS :: bookKeys) s t)) ∧
  (∀ (s : State) (v : Reg), ∃ t, exec (.heartbeatEnable v) s = .next t ∧ t.rd HIF_HB_CTL = v &&& 0xFFFF0001#32 ∧
    t.host.hbRun = v.getLsbD 0 ∧ (v.getLsbD 0 = true → t.host.hbAt = s.time) ∧ Framed [.host] [HIF_HB_CTL] s t) ∧
  (∀ (s : State) (due : Bool), due = (s.flag HIF_HB_CTL_EN && s.host.hbRun &&
      s.elapsed s.host.hbAt (max 10 (s.get HIF_HB_CTL_TIMEOUT_MS) * 1000000)) →
    (due = true → s.flag HIF_STATUS_HOST_ABSENT = false →
      ∃ t, exec .heartbeatTimeout s = .next t ∧ t.flag HIF_STATUS_HOST_ABSENT = true ∧
        t.get HIF_STATUS_ABSENT_CAUSE = 0 ∧ t.sec.sessions = [] ∧ t.host.hbRun = false ∧ t.host.absentAt = s.time ∧
        Framed (.host :: .sessions :: evParts) (HIF_STATUS :: bookKeys) s t) ∧
    (due = false ∨ s.flag HIF_STATUS_HOST_ABSENT = true → exec .heartbeatTimeout s = .next s)) ∧
  (∀ (s : State) (b : Bool), s.wf = true → ∃ t, exec (.perst b) s = .next t ∧ t.host.perst = b ∧ t.host.hbRun = false ∧
      (b = true → t.flag HIF_STATUS_LINK_UP = false ∧ t.rd HIF_LINK = 0) ∧
      (s.flag HIF_HB_CTL_EN = true → t.flag HIF_STATUS_HOST_ABSENT = true ∧
        (s.flag HIF_STATUS_HOST_ABSENT = false → t.get HIF_STATUS_ABSENT_CAUSE = 1)) ∧
      (s.flag HIF_HB_CTL_EN = false ∨ s.flag HIF_STATUS_HOST_ABSENT = false → t.sec.sessions = []) ∧
      (∀ n, n < 1024 → t.ring n = ring0 n ∧ t.flag (ringEN n) = false ∧ t.get (ringSTATE n) = 0) ∧
      (∀ k, 0x1000 ≤ k → k < 0x2000 → k ≠ HIF_STATUS → k ≠ HIF_LINK → t.rd k = regReset k) ∧
      (∀ c ∈ t.host.cmds, c.ring < 1024 → c.discard = true ∧ c.started = true) ∧
      (∀ k, k < 0x1000 ∨ (0x2000 ≤ k ∧ k < 0x1000000) → k ∉ bookKeys → t.rd k = s.rd k)) ∧
  (∀ s : State, s.wf = true →
    (∃ t, exec .flrPf0 s = .next t ∧ t.sec.sessions = [] ∧ t.rd HIF_LINK = s.rd HIF_LINK ∧
      t.flag HIF_STATUS_HOST_ABSENT = s.flag HIF_STATUS_HOST_ABSENT ∧
      (∀ n, n < 64 → t.ring n = ring0 n ∧ t.flag (ringEN n) = false ∧ t.get (ringSTATE n) = 0) ∧
      (∀ n, 64 ≤ n → n < 1024 → t.get (ringSTATE n) = s.get (ringSTATE n) ∧ t.rd (ringCfg n) = s.rd (ringCfg n)) ∧
      (∀ k, 0x1000 ≤ k → k < 0x2000 → k ≠ HIF_STATUS → k ≠ HIF_LINK → t.rd k = regReset k) ∧
      (∀ c ∈ t.host.cmds, c.ring < 64 → c.discard = true ∧ c.started = true)) ∧
    (∃ t, exec .flrPf1 s = .next t ∧ t.sec.sessions = s.sec.sessions ∧
      (∀ n, 64 ≤ n → n < 1024 → t.ring n = ring0 n ∧ t.flag (ringEN n) = false ∧ t.get (ringSTATE n) = 0) ∧
      (∀ n, n < 64 → t.ring n = s.ring n) ∧ (∀ k, k < 0x1000000 → t.rd k = s.rd k) ∧
      (∀ c ∈ t.host.cmds, 64 ≤ c.ring → c.ring < 1024 → c.discard = true ∧ c.started = true))) ∧
  (∀ s : State,
    (s.flag HIF_STATUS_LINK_UP = false → exec .linkDown s = .next s) ∧
    (s.flag HIF_STATUS_LINK_UP = true → s.flag HIF_HB_CTL_EN = false ∨ s.flag HIF_STATUS_HOST_ABSENT = true →
      ∃ t, exec .linkDown s = .next t ∧ t.flag HIF_STATUS_LINK_UP = false ∧
        (∀ l, l < 16 → t.flag (HL_STATUS_ACTIVE l) = false) ∧
        t.flag HIF_STATUS_HOST_ABSENT = s.flag HIF_STATUS_HOST_ABSENT ∧
        Framed [] (HIF_STATUS :: (upto 16).map HL_STATUS) s t) ∧
    (s.flag HIF_STATUS_LINK_UP = true → s.flag HIF_HB_CTL_EN = true → s.flag HIF_STATUS_HOST_ABSENT = false →
      ∃ t, exec .linkDown s = .next t ∧ t.flag HIF_STATUS_LINK_UP = false ∧ t.flag HIF_STATUS_HOST_ABSENT = true ∧
        t.get HIF_STATUS_ABSENT_CAUSE = 2 ∧ t.sec.sessions = [] ∧
        Framed (.host :: .sessions :: evParts) (HIF_STATUS :: ((upto 16).map HL_STATUS ++ bookKeys)) s t)) ∧
  (∀ (s : State) (width : BitVec 5) (rate : BitVec 3) (rev deg may : Bool),
    may = decide (s.dev.off = false ∧ s.host.perst = false ∧ s.flag CLK_STATUS_HREF_PRESENT = true ∧
      s.bit CLK_STATUS 10 = true ∧ width.toNat ∈ [1, 4, 8, 16] ∧ 1 ≤ rate.toNat ∧ rate.toNat ≤ 5) →
    (may = false → exec (.linkUp width rate rev deg) s = .next s) ∧
    (may = true → ∃ t, exec (.linkUp width rate rev deg) s = .next t ∧ t.flag HIF_STATUS_LINK_UP = true ∧
      t.get HIF_LINK_WIDTH = width.toNat ∧ t.get HIF_LINK_RATE = rate.toNat ∧ t.flag HIF_LINK_DEGRADED = deg ∧
      t.flag HIF_LINK_REVERSED = rev ∧
      (∀ l, l < 16 → t.flag (HL_STATUS_ACTIVE l) = decide (l < width.toNat) ∧ t.get (HL_STATUS_RATE l) = rate.toNat) ∧
      (deg = false → Framed [] (HIF_STATUS :: HIF_LINK :: (upto 16).map HL_STATUS) s t) ∧
      (deg = true → t.ev.seq = s.ev.seq + 1 ∧
        Framed evParts (HIF_STATUS :: HIF_LINK :: ((upto 16).map HL_STATUS ++ bookKeys)) s t)))

/-- Accesses (R8, R33, R38, R42, R266, R284, R285): a performed write of a register without a rule of its own takes its RW bits,
clears its W1C bits and sets its W1S bits; any write of a statistics counter clears it and its SAT bit; a read of an RC register
answers its value and clears it, unless the debug port peeks; a read of a low word latches the high word for its requester; an access
that another core's lock stops waits, and one of a gated block is reported, answered with all ones or refused; bad accesses are
reported and not performed; a window access is handed to a design that serves it, waits behind others or while a policy holds it,
and ends by the design's answer or by none in time, and is answered with all ones where no design serves it. -/
def Obligations.RegisterAccessesComplete : Prop :=
  (∀ (s : State) (req : Requester) (offset : BitVec 32) (v : Reg) (k : Nat), k = offset.toNat →
    (s.dev.off = true → exec (.registerWrite req offset v) s = .next s) ∧
    (s.dev.off = false → (regClass k).isNone = true ∨ (0x3000 ≤ k ∧ k < 0x4000 ∧ req ≠ .debug) ∨ (0x1000000 ≤ k ∧ req ≠ .host) →
      ∃ t, exec (.registerWrite req offset v) s = .next t ∧
        (req = .host → k < 0x1000000 → t.ev.seq = s.ev.seq + 1 ∧ Framed evParts bookKeys s t) ∧
        (req = .host → 0x1000000 ≤ k → t = s) ∧ (req = .debug → t = s.emit .debugRefused) ∧
        (req ≠ .host → req ≠ .debug → t = s.emit (.busError req))) ∧
    (s.dev.off = false → (regClass k).isSome = true → (0x3000 ≤ k → k < 0x4000 → req = .debug) →
      (0x1000000 ≤ k → req = .host) → ¬ (0x100000 ≤ k ∧ k < 0x120000 ∧ 8 ≤ k % 0x10) →
      (∀ t, s.ownRow req k v = some t → exec (.registerWrite req offset v) s = .next t) ∧
      (s.ownRow req k v = none → s.lockedOut req k = true →
        exec (.registerWrite req offset v) s = .next (s.coreWaits req (some .lock))) ∧
      (s.ownRow req k v = none → Performs s req k true →
        (satOf k = none → ¬ (0x400 ≤ k ∧ k < 0x600) → ¬ (0xA010 ≤ k ∧ k < 0xA030) → ¬ (0xA300 ≤ k ∧ k < 0xA340) →
          ¬ (0x10000 ≤ k ∧ k < 0x18000 ∧ k % 0x100 = 0x0C) → ¬ (0x1C000 ≤ k ∧ k < 0x24000 ∧ k % 0x400 = 4) →
          ¬ (0x100000 ≤ k ∧ k < 0x120000 ∧ k % 0x10 = 4) → s.ringHeld k = false →
          ∃ t, exec (.registerWrite req offset v) s = .next t ∧ t.rd k = regAfter k (s.rd k) v ∧ Framed [.cores] [k] s t) ∧
        (∀ f, satOf k = some f → ∃ t, exec (.registerWrite req offset v) s = .next t ∧ t.rd k = 0 ∧ t.flag f = false ∧
          Framed [.cores] [k, f.reg] s t) ∧
        (satOf k = none → 0x400 ≤ k → k < 0x600 → ∃ t, exec (.registerWrite req offset v) s = .next t ∧
          (∀ c, req = .service c → t.bit k (2 + c.val) = v.getLsbD (2 + c.val) ∧
            ∀ i, i ≠ 2 + c.val → t.bit k i = s.bit k i) ∧
          ((∀ c, req ≠ .service c) → t.rd k = regAfter k (s.rd k) v) ∧ Framed [.cores] [k] s t) ∧
        (∀ top, satOf k = none → 0x10000 ≤ k → k < 0x18000 → k % 0x100 = 0x0C →
          s.maxRate ((k - 0x10000) / 0x100) = some top → top < fldGet v 0 21 →
          ∃ t, exec (.registerWrite req offset v) s = .next t ∧ t.flag (FP_STATUS_REFUSED ((k - 0x10000) / 0x100)) = true ∧
            t.rd k = s.rd k ∧ Framed [.cores] [FP_STATUS ((k - 0x10000) / 0x100)] s t) ∧
        (∀ x, satOf k = none → 0x100000 ≤ k → k < 0x120000 → k % 0x10 = 4 → s.queue ((k - 0x100000) / 0x10) = some x →
          ∃ t, exec (.registerWrite req offset v) s = .next t ∧
            t.queue ((k - 0x100000) / 0x10) = some { x with ue := x.ue && !v.getLsbD 20 } ∧
            (∀ p, p ≠ (k - 0x100000) / 0x10 → t.queue p = s.queue p) ∧ Framed [.cores, .que] [] s t) ∧
        (satOf k = none → s.ringHeld k = true → ∃ t, exec (.registerWrite req offset v) s = .next t ∧
          Framed [.cores] [] s t)))) ∧
  (∀ (s : State) (req : Requester) (offset : BitVec 32),
    (∀ f, Performs s req offset.toNat true → satOf offset.toNat = some f →
      ∃ t, exec (.counterClear req offset) s = .next t ∧ t.rd offset.toNat = 0 ∧ t.flag f = false ∧
        Framed [.cores] [offset.toNat, f.reg] s t) ∧
    (satOf offset.toNat = none → exec (.counterClear req offset) s = .next s)) ∧
  (∀ (s : State) (req : Requester) (offset : BitVec 32) (peek : Bool),
    peek = (decide (req = .debug) && !s.flag DBG_ACCESS_SIDE) → Performs s req offset.toNat false →
    (isRC offset.toNat = true →
      ∃ t, exec (.rcRead req offset) s = .next t ∧
        t.out = s.out ++ [.answer req ((s.view offset.toNat).setWidth 64)] ∧
        (peek = true → Framed [.out] [] s t) ∧
        (peek = false → (offset.toNat = PMU_RAIL_MIN → Tab.get low0 t.pow.low (s.get PMU_RAIL_SEL_RAIL) = 0xFFFF) ∧
          (offset.toNat = PMU_POWER → t.get PMU_POWER_PEAK = 0) ∧
          (offset.toNat ≠ PMU_RAIL_MIN → offset.toNat ≠ PMU_POWER → t.rd offset.toNat = regReset offset.toNat) ∧
          Framed [.cores, .out, .pow] [offset.toNat] s t)) ∧
    (isLowWord offset.toNat = true →
      ∃ t, exec (.lowWordRead req offset) s = .next t ∧
        t.out = s.out ++ [.answer req ((s.view offset.toNat).setWidth 64)] ∧
        Tab.get reg0 t.host.latch (reqNo req) = s.view (offset.toNat + 4) ∧
        (∀ r, r ≠ reqNo req → Tab.get reg0 t.host.latch r = Tab.get reg0 s.host.latch r) ∧
        Framed [.cores, .out, .host] [] s t)) ∧
  (∀ (s : State) (req : Requester) (offset : BitVec 32),
    (isRC offset.toNat = false → exec (.rcRead req offset) s = .next s) ∧
    (isLowWord offset.toNat = false → exec (.lowWordRead req offset) s = .next s) ∧
    (s.dev.off = true → exec (.rcRead req offset) s = .next s ∧ exec (.lowWordRead req offset) s = .next s) ∧
    (s.dev.off = false → s.lockedOut req offset.toNat = true →
      (isRC offset.toNat = true → exec (.rcRead req offset) s = .next (s.coreWaits req (some .lock))) ∧
      (isLowWord offset.toNat = true → exec (.lowWordRead req offset) s = .next (s.coreWaits req (some .lock))))) ∧
  (∀ (s : State) (req : Requester) (offset : BitVec 32) (size : Byte) (write : Bool) (data : Word) (k n : Nat),
    k = offset.toNat → n = size.toNat →
    (s.dev.off = true ∨ req = .debug → exec (.badAccess req offset size write data) s = .next s) ∧
    (s.dev.off = false → req = .host →
      (¬ ((n = 4 ∨ n = 8) ∧ k % n = 0) ∨ (n = 4 ∧ hostPerforms k write = false) →
        ∃ t, exec (.badAccess req offset size write data) s = .next t ∧ t.ev.seq = s.ev.seq + 1 ∧
          (write = false → .answer .host 0 ∈ t.out.drop s.out.length) ∧ Framed evParts bookKeys s t) ∧
      (n = 4 ∨ n = 8 → k % n = 0 → hostPerforms k write = true → n = 4 ∨ hostPerforms (k + 4) write = true →
        exec (.badAccess req offset size write data) s = .next s) ∧
      (n = 8 → k % 8 = 0 → hostPerforms k write = false → hostPerforms (k + 4) write = false → s.lockedOut .host k = false →
        ∃ t, exec (.badAccess req offset size write data) s = .next t ∧ t.ev.seq = s.ev.seq + 1 ∧
          (write = false → .answer .host 0 ∈ t.out.drop s.out.length) ∧ Framed evParts bookKeys s t) ∧
      (n = 8 → k % 8 = 0 → ¬ (hostPerforms k write = true ∧ hostPerforms (k + 4) write = true) →
        (s.lockedOut .host k = true → exec (.badAccess req offset size write data) s = .next s) ∧
        (s.lockedOut .host k = false → write = false → ∃ t v, exec (.badAccess req offset size write data) s = .next t ∧
          .answer .host v ∈ t.out.drop s.out.length)) ∧
      (∀ u (o : BitVec 32) (v : Reg), n = 8 → k % 8 = 0 → write = true → s.lockedOut .host k = false →
        (hostPerforms k true = true ∧ hostPerforms (k + 4) true = false ∧ o.toNat = k ∧ v = data.setWidth 32) ∨
          (hostPerforms k true = false ∧ hostPerforms (k + 4) true = true ∧ o.toNat = k + 4 ∧ v = (data >>> 32).setWidth 32) →
        exec (.registerWrite .host o v) s = .next u →
        ∃ t, exec (.badAccess req offset size write data) s = .next t ∧ t.ev.seq = u.ev.seq + 1 ∧
          Framed evParts bookKeys u t)) ∧
    (s.dev.off = false → req ≠ .host → req ≠ .debug →
      exec (.badAccess req offset size write data) s =
        .next (if coreAccessBad k n = true then s.emit (.busError req) else s))) ∧
  (∀ (s : State) (bar : Fin 3) (offset : BitVec 32) (size : Byte) (write bad : Bool),
    bad = (if bar.val < 2 then doorbellBad bar.val offset.toNat size.toNat
      else !decide (size = 8 ∧ offset.toNat % 8 = 0 ∨ size = 4 ∧ offset.toNat % 4 = 0)) →
    (bad = true → ∃ t, exec (.hostBadAccess bar offset size write) s = .next t ∧
      (t.rd HIF_WINBAD).toNat = min 0xFFFFFFFF ((s.rd HIF_WINBAD).toNat + 1) ∧
      (write = false → .answer .host 0 ∈ t.out.drop s.out.length) ∧
      Framed evParts (HIF_WINBAD :: HIF_SAT_WINBAD.reg :: bookKeys) s t) ∧
    (bad = false → exec (.hostBadAccess bar offset size write) s = .next s)) ∧
  (∀ (s : State) (req : Requester) (offset : BitVec 32) (size : Byte) (write : Bool),
    (s.dev.off = true ∨ s.gated offset.toNat = false → exec (.gatedAccess req offset size write) s = .next s) ∧
    (s.dev.off = false → s.gated offset.toNat = true →
      (req = .host → ∃ t, exec (.gatedAccess req offset size write) s = .next t ∧
        (t.rd CLK_GATEDS).toNat = min 0xFFFFFFFF ((s.rd CLK_GATEDS).toNat + 1) ∧
        (write = false → .answer .host (BitVec.ofNat 64 (256 ^ size.toNat - 1)) ∈ t.out.drop s.out.length) ∧
        Framed evParts (CLK_GATEDS :: CLK_SAT_GATEDS.reg :: bookKeys) s t) ∧
      (req = .debug → exec (.gatedAccess req offset size write) s = .next (s.emit .debugRefused)) ∧
      (req ≠ .host → req ≠ .debug → exec (.gatedAccess req offset size write) s = .next (s.emit (.busError req))))) ∧
  (∀ (s : State) (offset : BitVec 24) (size : Byte) (write : Bool) (data : Word) (p : Nat) (a : WinAcc),
    p = s.physMat (offset.toNat / 0x8000) →
    a = { write := write, word := offset.toNat % 0x8000 / 8, data := data,
          half := if size = 8 then none else some (decide (offset.toNat % 8 = 4)), since := s.time } →
    ((size = 8 ∧ offset.toNat % 8 = 0) ∨ (size = 4 ∧ offset.toNat % 4 = 0 ∧ write = false) →
      (s.window p = [] → s.regchServes p = true → s.policyAt p = none →
        ∃ t, exec (.windowAccess offset size write data) s = .next t ∧ t.flag (gREGCH_BUSY p) = true ∧ t.window p = [a] ∧
          t.out = s.out ++ [.token p (.regch write a.word)
            (a.word + 4096 * b2n write + 8192 * (if write then data.toNat else 0))] ∧
          Framed [.host, .out] [(gREGCH_BUSY p).reg] s t) ∧
      (s.window p = [] → s.regchServes p = true → (s.policyAt p).isSome = true →
        ∃ t, exec (.windowAccess offset size write data) s = .next t ∧ t.window p = [a] ∧ Framed [.host] [] s t) ∧
      (s.window p = [] → s.regchServes p = false →
        ∃ t, exec (.windowAccess offset size write data) s = .next t ∧
          t.out = s.out ++ (if write then [] else [.answer .host (a.answer 0xFFFFFFFFFFFFFFFF#64)]) ∧ t.window p = [] ∧
          Framed [.host, .out] [] s t) ∧
      (s.window p ≠ [] → (s.window p).length < 16 →
        ∃ t, exec (.windowAccess offset size write data) s = .next t ∧ t.window p = s.window p ++ [a] ∧
          Framed [.host] [] s t) ∧
      (16 ≤ (s.window p).length → exec (.windowAccess offset size write data) s = .next s)) ∧
    (size = 4 → offset.toNat % 4 = 0 → write = true → exec (.windowAccess offset size write data) s = .next s) ∧
    (¬ (size = 8 ∧ offset.toNat % 8 = 0) → ¬ (size = 4 ∧ offset.toNat % 4 = 0) →
      ∃ t, exec (.windowAccess offset size write data) s = .next t ∧
        (t.rd HIF_WINBAD).toNat = min 0xFFFFFFFF ((s.rd HIF_WINBAD).toNat + 1) ∧
        (write = false → .answer .host 0 ∈ t.out.drop s.out.length) ∧
        Framed evParts (HIF_WINBAD :: HIF_SAT_WINBAD.reg :: bookKeys) s t)) ∧
  (∀ (s : State) (mat : MatId) (v : Word) (late : Bool),
    (s.flag (gREGCH_BUSY mat.val) = false ∨ late = true ∨ s.window mat.val = [] →
      exec (.regchResponse mat v late) s = .next s) ∧
    (∀ a l, s.flag (gREGCH_BUSY mat.val) = true → s.window mat.val = a :: l →
      ∃ t, exec (.regchResponse mat v false) s = .next t ∧ WindowGoesOn s t mat.val l ∧
        (s.out ++ (if a.write then [] else [.answer .host (a.answer v)])) <+: t.out ∧
        (l = [] → t.out = s.out ++ (if a.write then [] else [.answer .host (a.answer v)])) ∧
        Framed [.host, .out] [(gREGCH_BUSY mat.val).reg] s t)) ∧
  (∀ (s : State) (mat : MatId),
    (s.window mat.val = [] → exec (.regchTimeout mat) s = .next s) ∧
    (∀ a l, s.window mat.val = a :: l →
      (s.elapsed a.since (s.regchLimit mat.val) = false → exec (.regchTimeout mat) s = .next s) ∧
      (s.elapsed a.since (s.regchLimit mat.val) = true →
        ∃ t, exec (.regchTimeout mat) s = .next t ∧ WindowGoesOn s t mat.val l ∧
          (t.rd (COL_GATE_REGTOS (matCol mat.val) (matG mat.val))).toNat =
            min 0xFFFFFFFF ((s.rd (COL_GATE_REGTOS (matCol mat.val) (matG mat.val))).toNat + 1) ∧
          (a.write = false → .answer .host (a.answer 0xFFFFFFFFFFFFFFFF#64) ∈ t.out.drop s.out.length) ∧
          Framed (.host :: evParts) ((gREGCH_BUSY mat.val).reg :: COL_GATE_REGTOS (matCol mat.val) (matG mat.val) ::
            (COL_GATE_SAT_REGTOS (matCol mat.val) (matG mat.val)).reg :: bookKeys) s t)))

/-- Clocks at their source (R247, R250, R251, R273): the loss of HREF takes every PLL's lock, begins holdover, stops device time with
GAP, takes the link, the lanes' locks and the tethers down and freezes each RUNNING pacer; its return locks the PLLs, ends holdover,
lets device time run and the FROZEN pacers go on, marks the positions that missed motion and frees pins; PLL_S or PLL_F that unlocks
begins holdover, PLL_H takes the link, any other its lanes and tethers; a PLL that locks shows it, and PLL_S starts device time;
modulation beyond the limit sets SSC_SEEN and stops Ethernet lanes and tethers. -/
def Obligations.ClockSourcesComplete : Prop :=
  (∀ s : State,
    (s.flag CLK_STATUS_HREF_PRESENT = false → exec .hrefLost s = .next s) ∧
    (s.flag CLK_STATUS_HREF_PRESENT = true →
      ∃ t, exec .hrefLost s = .next t ∧ t.flag CLK_STATUS_HREF_PRESENT = false ∧ t.flag CLK_STATUS_HOLDOVER = true ∧
        t.get CLK_STATUS_PLL_LOCK = 0 ∧ t.flag CLK_TIME_STATUS_GAP = true ∧ t.pace.timeOn = false ∧ t.time = s.time ∧
        t.flag HIF_STATUS_LINK_UP = false ∧
        (∀ x, x < 32 → s.flag (XL_CFG_EN x) = true → t.flag (XL_STATUS_RX_LOCK x) = false) ∧
        (∀ k, k < 8 → t.tetherUp k = false) ∧
        ((∀ k, k < 8 → s.tetherUp k = false) →
          (∀ p, p < 64 → t.paceState p = if s.paceState p = 2 then 3 else s.paceState p) ∧
          (4 ≤ s.get DEV_STATUS_PHASE → ∀ v ∈ s.hrefPins, (t.pinCause v).getLsbD 1 = true)) ∧
        (s.flag HIF_STATUS_LINK_UP = false → s.hrefPins = [] → (∀ x, x < 32 → s.flag (XL_CFG_EN x) = false) →
          (∀ k, k < 8 → s.tetherUp k = false) → s.mnt.acts = [] → s.bist.down = 0 → s.img.boot ≠ some streamWait →
          Framed (.pace :: evParts)
            (DEV_STATUS :: CLK_STATUS :: CLK_TIME_STATUS :: ((upto 64).map PACE_STATUS ++ bookKeys)) s t))) ∧
  (∀ (s : State) (us : BitVec 32),
    (s.flag CLK_STATUS_HREF_PRESENT = true → exec (.hrefRestored us) s = .next s) ∧
    (s.flag CLK_STATUS_HREF_PRESENT = false → s.flag CLK_STATUS_HOLDOVER = false →
      ∃ t, exec (.hrefRestored us) s = .next t ∧ t.flag CLK_STATUS_HREF_PRESENT = true ∧
        Framed [] [CLK_STATUS, DEV_STATUS] s t) ∧
    (s.flag CLK_STATUS_HREF_PRESENT = false → s.flag CLK_STATUS_HOLDOVER = true →
      ∃ t, exec (.hrefRestored us) s = .next t ∧ t.flag CLK_STATUS_HREF_PRESENT = true ∧
        t.flag CLK_STATUS_HOLDOVER = false ∧ t.get CLK_STATUS_PLL_LOCK = 0x7F ∧ t.pace.timeOn = true ∧ t.time = s.time ∧
        (∀ p, p < 64 → t.paceState p = if s.paceState p = 3 then 2 else s.paceState p) ∧
        (∀ p, p < 64 → s.paceState p = 3 → (s.pacer p).lostBefore = true → (s.pacer p).ended = none →
          (t.pacer p).ended = some false) ∧
        (∀ r ∈ s.gapTracks, t.flag (TAL_TRK_STATUS_POS_GAP r) = true) ∧
        (∀ v ∈ allPins, v ∉ s.hrefPins ∨ s.gatePin v = true → (t.pinCause v).getLsbD 1 = false) ∧
        (s.gapTracks = [] → (∀ v ∈ allPins, s.pinCause v &&& causeBit 1 = 0) →
          (∀ p, p < 64 → s.paceState p = 3 → (s.pacer p).ended ≠ none) →
          Framed (.pace :: evParts) (DEV_STATUS :: CLK_STATUS :: ((upto 64).map PACE_STATUS ++ bookKeys)) s t))) ∧
  (∀ (s : State) (pll : Fin 7) (n : Nat), n = pll.val →
    (s.flag CLK_STATUS_HREF_PRESENT = false ∨ s.pllLocked n = false → exec (.pllUnlock pll) s = .next s) ∧
    (s.flag CLK_STATUS_HREF_PRESENT = true → s.pllLocked n = true →
      ∃ t, exec (.pllUnlock pll) s = .next t ∧ t.pllLocked n = false ∧
        (∀ m, m < 7 → m ≠ n → t.pllLocked m = s.pllLocked m) ∧
        t.flag CLK_STATUS_HOLDOVER = (s.flag CLK_STATUS_HOLDOVER || decide (n < 2)) ∧
        (n = 2 → t.flag HIF_STATUS_LINK_UP = false) ∧
        (2 < n → (∀ x, x < 32 → lanePll x = n → s.flag (XL_CFG_EN x) = true → t.flag (XL_STATUS_RX_LOCK x) = false) ∧
          (∀ k, k < 8 → (tetherLanes k).any (fun x => decide (lanePll x = n)) = true → t.tetherUp k = false)) ∧
        (n < 2 ∨ (n = 2 ∧ s.flag HIF_STATUS_LINK_UP = false) →
          t.ev.seq = s.ev.seq + 1 ∧ Framed evParts (CLK_STATUS :: bookKeys) s t))) ∧
  (∀ (s : State) (pll : Fin 7) (n : Nat) (lost : Bool), n = pll.val →
    lost = (s.flag CLK_STATUS_HOLDOVER && !s.flag CLK_STATUS_HREF_PRESENT) →
    (s.get DEV_STATUS_PHASE < 3 ∨ s.pllLocked n = true ∨ lost = true → exec (.pllLock pll) s = .next s) ∧
    (3 ≤ s.get DEV_STATUS_PHASE → s.pllLocked n = false → lost = false →
      ∃ t, exec (.pllLock pll) s = .next t ∧ t.pllLocked n = true ∧ t.flag CLK_STATUS_HREF_PRESENT = true ∧
        (∀ m, m < 7 → m ≠ n → t.pllLocked m = s.pllLocked m) ∧
        t.pace.timeOn = (s.pace.timeOn || decide (n = 0)) ∧
        t.dev = (if n = 0 then { s.dev with lockAt := s.time } else s.dev) ∧
        (t.rootLocked = true → t.flag CLK_STATUS_HOLDOVER = false) ∧
        t.get DEV_STATUS_PHASE = (if s.get DEV_STATUS_PHASE = 4 ∧ t.rootLocked = true then 5 else s.get DEV_STATUS_PHASE) ∧
        Framed [.pace, .dev] [CLK_STATUS, DEV_STATUS] s t)) ∧
  (∀ s : State,
    (s.flag CLK_STATUS_SSC_SEEN = true → exec .sscDetected s = .next s) ∧
    (s.flag CLK_STATUS_SSC_SEEN = false →
      ∃ t, exec .sscDetected s = .next t ∧ t.flag CLK_STATUS_SSC_SEEN = true ∧
        (∀ x, x < 32 → s.flag (XL_CFG_EN x) = true → s.get (XL_OWNER_KIND x) ≠ 3 →
          laneEthernet (s.get (XL_CFG_CODE x)) = true → t.flag (XL_CFG_EN x) = false) ∧
        (∀ k, k < 8 → t.flag (TH_CTL_EN k) = false) ∧
        ((∀ x, x < 32 → s.flag (XL_CFG_EN x) = false) → (∀ k, k < 8 → s.flag (TH_CTL_EN k) = false) →
          s.img.boot ≠ some streamWait → Framed [] [CLK_STATUS] s t)))

/-- Clock registers (R254 to R258, R267, R269, R405): a divider takes its value; an entry takes a rated value and refuses another; a
request for another entry requests its VDD_B, unless AVSBus has failed, or is PENDING while a transition runs or the root is HALVED,
and one for the entry in force changes nothing more; a set point reached is counted and shown, ends the transition and starts the one
that waits, and clears AVS_FAULT; an enable bit is set where its group is on and cleared where its condition holds, and is refused
otherwise; a group is turned on under a running root, and off where none of its blocks is enabled. -/
def Obligations.ClockControlsComplete : Prop :=
  (∀ (s : State) (req : Requester) (fabric : Bool) (v : Reg) (k : Nat), k = (if fabric then CLK_FDIV else CLK_DIV) →
    Performs s req k true →
    ∃ t, exec (.clkDivWrite req fabric v) s = .next t ∧ t.rd k = regAfter k (s.rd k) v ∧ Framed [.cores] [k] s t) ∧
  (∀ (s : State) (req : Requester) (e : Fin 4) (v : Reg), Performs s req (CLK_OP e.val) true →
    (opRated v = true →
      ∃ t, exec (.opEntryWrite req e v) s = .next t ∧ t.get (CLK_OP_ROOT_DIV e.val) = fldGet v 0 6 ∧
        t.get (CLK_OP_VDDB_MV e.val) = fldGet v 16 10 ∧ Framed [.cores] [CLK_OP e.val] s t) ∧
    (opRated v = false →
      ∃ t, exec (.opEntryWrite req e v) s = .next t ∧ t.flag CLK_OP_CTL_REFUSED = true ∧ Framed [.cores] [CLK_OP_CTL] s t)) ∧
  (∀ (s : State) (req : Requester) (v : Reg), Performs s req CLK_OP_CTL true →
    (s.clk.op = none → s.flag CLK_STATUS_HALVED = false → fldGet v 0 2 ≠ s.get CLK_STATUS_OP_CUR →
      ∃ t, exec (.opRequest req v) s = .next t ∧ t.flag CLK_STATUS_OP_BUSY = true ∧
        t.clk.op = some { dest := fldGet v 0 2, orig := s.get CLK_STATUS_OP_CUR,
                          raising := decide (s.pow.setB < s.get (CLK_OP_VDDB_MV (fldGet v 0 2))),
                          requested := !s.flag PMU_STATUS_AVS_FAULT } ∧
        t.pow.reqB = (if s.flag PMU_STATUS_AVS_FAULT then s.pow.reqB else some (s.get (CLK_OP_VDDB_MV (fldGet v 0 2)))) ∧
        t.get CLK_STATUS_OP_CUR = s.get CLK_STATUS_OP_CUR ∧
        Framed [.cores, .clk, .pow] [CLK_OP_CTL, CLK_STATUS] s t) ∧
    (s.clk.op = none → s.flag CLK_STATUS_HALVED = false → fldGet v 0 2 = s.get CLK_STATUS_OP_CUR →
      ∃ t, exec (.opRequest req v) s = .next t ∧ t.get CLK_OP_CTL_REQ = fldGet v 0 2 ∧ Framed [.cores] [CLK_OP_CTL] s t) ∧
    (s.clk.op.isSome = true ∨ s.flag CLK_STATUS_HALVED = true →
      ∃ t, exec (.opRequest req v) s = .next t ∧ t.flag CLK_OP_CTL_PENDING = true ∧ t.get CLK_OP_CTL_REQ = fldGet v 0 2 ∧
        Framed [.cores] [CLK_OP_CTL] s t)) ∧
  (∀ s : State, (s.pow.reqF = none → exec (.setPointReached 0) s = .next s) ∧
    (∀ mv, s.pow.reqF = some mv → mv < 1024 →
      ∃ t, exec (.setPointReached 0) s = .next t ∧ t.vddF = mv ∧ t.flag PMU_STATUS_AVS_FAULT = false ∧
        (s.vddF ≠ 0 → s.vddF < mv → (t.rd PMU_GOV_UPS).toNat =
          min 0xFFFFFFFF ((s.rd PMU_GOV_UPS).toNat + (mv - s.vddF + 4) / 5)) ∧
        (s.vddF ≠ 0 → mv < s.vddF → (t.rd PMU_GOV_DOWNS).toNat =
          min 0xFFFFFFFF ((s.rd PMU_GOV_DOWNS).toNat + (s.vddF - mv + 4) / 5)) ∧
        (s.ctx.loads = [] → t.pow.reqF = none ∧ t.flag PMU_GOV_STATUS_AT_FLOOR = decide (mv ≤ s.lowerBound) ∧
          t.flag PMU_GOV_STATUS_CAP_HELD = (s.flag PMU_GOV_STATUS_CAP_ACTIVE && decide (mv ≤ s.lowerBound)) ∧
          (∀ e ∈ s.ctx.slots, s.slotState (e.1 / 4) (e.1 % 4) = slWAIT_FLOOR →
            floorMv (s.get (COL_CTX_SRC_FLOOR (matCol (e.1 / 4)) (matG (e.1 / 4)) (e.1 % 4))) ≤ mv →
            t.slotState (e.1 / 4) (e.1 % 4) = slREADY)) ∧
        (s.ctx.loads = [] → s.ctx.slots = [] → s.flag PMU_STATUS_AVS_FAULT = false →
          Framed (.pow :: evParts) (PMU_GOV_STATUS :: PMU_GOV_FLOOR :: PMU_GOV_UPS :: PMU_GOV_DOWNS :: PMU_GOV_SAT_UPS.reg ::
            bookKeys) s t))) ∧
  (∀ s : State, (s.pow.reqB = none → exec (.setPointReached 1) s = .next s) ∧
    (∀ mv, s.pow.reqB = some mv → ∃ t, exec (.setPointReached 1) s = .next t ∧ t.pow.setB = mv ∧
      t.flag PMU_STATUS_AVS_FAULT = false ∧
      (∀ o, s.clk.op = some o → o.requested = true → o.dest < 4 → o.raising = false ∨ s.flag CLK_STATUS_HALVED = false →
        t.get CLK_STATUS_OP_CUR = o.dest ∧
        (s.flag CLK_OP_CTL_PENDING = false ∨ s.flag CLK_STATUS_HALVED = true → t.clk.op = none ∧ t.pow.reqB = none ∧
          t.flag CLK_STATUS_OP_BUSY = false ∧ t.ev.seq = s.ev.seq + 1 ∧
          Framed (.clk :: .pow :: evParts) (CLK_STATUS :: PMU_STATUS :: bookKeys) s t) ∧
        (s.flag CLK_OP_CTL_PENDING = true → s.flag CLK_STATUS_HALVED = false → t.flag CLK_OP_CTL_PENDING = false ∧
          (s.get CLK_OP_CTL_REQ ≠ o.dest → ∃ q, t.clk.op = some q ∧ q.dest = s.get CLK_OP_CTL_REQ ∧ q.orig = o.dest ∧
            t.flag CLK_STATUS_OP_BUSY = true))) ∧
      (∀ o, s.clk.op = some o → o.raising = true → s.flag CLK_STATUS_HALVED = true → t.clk.op = some o ∧
        Framed [.pow] [PMU_STATUS] s t))) ∧
  (∀ (s : State) (req : Requester) (second : Bool) (v : Reg), Performs s req (enReg second) true →
    ∃ t, exec (.clkEnWrite req second v) s = .next t ∧
      (∀ i g, i < 20 → enGroup second i = some g →
        t.bit (enReg second) i =
          if s.bit (enReg second) i = v.getLsbD i then s.bit (enReg second) i
          else if (if v.getLsbD i then s.bit CLK_GRP g else s.mayGate second i) then v.getLsbD i
          else s.bit (enReg second) i) ∧
      (∀ i, i < 20 → enGroup second i = none → t.bit (enReg second) i = s.bit (enReg second) i) ∧
      Framed [.cores] [enReg second, CLK_GATE_STATUS] s t) ∧
  (∀ (s : State) (req : Requester) (v : Reg) (root : Bool), Performs s req CLK_GRP true →
    root = (v.getLsbD 0 || (s.bit CLK_GRP 0 && [1, 2, 3, 4, 5].any (fun g => s.bit CLK_GRP g && (v.getLsbD g || s.groupUsed g)))) →
    ∃ t, exec (.clkGrpWrite req v) s = .next t ∧ t.bit CLK_GRP 0 = root ∧
      (∀ g, 1 ≤ g → g ≤ 5 → t.bit CLK_GRP g =
        if s.bit CLK_GRP g then v.getLsbD g || s.groupUsed g else v.getLsbD g && root) ∧
      Framed [.cores] [CLK_GRP, CLK_GATE_STATUS] s t)

/-- Regional trees (R260 to R265): a performed write of CLK_TREEn_CTL above FMAX, or one that moves SRC or DIV while a switch is
pending, is IGNORED; one that changes SRC switches at once while both sources are present, and is pending, with the output held low
once the old source is released, until they are; one with FORCE switches whatever is present; one that keeps SRC changes the divider;
a switch pending for 1 µs is HUNG; the loss of the source in use stops the output, its return lets it run, or a switch go on. -/
def Obligations.TreesComplete : Prop :=
  (∀ (s : State) (req : Requester) (tree : Fin 32) (v : Reg) (n : Nat) (i : Instr), n = tree.val →
    i ∈ [Instr.treeSourceSwitch req tree v, .treeForcedSwitch req tree v, .treeDividerChange req tree v] →
    Performs s req (CLK_TREE_CTL n) true →
    (s.overFmax n v = true ∨ (s.flag (CLK_TREE_STATUS_SWITCH_PENDING n) = true ∧
        fldGet v 0 10 ≠ fldGet (s.rd (CLK_TREE_CTL n)) 0 10 ∧ v.getLsbD 31 = false) →
      ∃ t, exec i s = .next t ∧ t.flag (CLK_TREE_STATUS_IGNORED n) = true ∧ Framed [.cores] [CLK_TREE_STATUS n] s t) ∧
    (s.overFmax n v = false → v.getLsbD 31 = true →
      ∃ t, exec i s = .next t ∧ t.get (CLK_TREE_STATUS_SRC_CUR n) = fldGet v 0 2 ∧
        t.flag (CLK_TREE_STATUS_SWITCH_PENDING n) = false ∧ t.flag (CLK_TREE_STATUS_HUNG n) = false ∧
        t.flag (CLK_TREE_STATUS_STOPPED n) = (!(t.flag (CLK_TREE_CTL_RUN n) && s.srcPresent n (fldGet v 0 2))) ∧
        Tab.get bool0 t.clk.refusing n = true ∧ t.ev.seq = s.ev.seq + 1 ∧
        Framed (.cores :: .clk :: .ctx :: evParts) (CLK_TREE_CTL n :: CLK_TREE_STATUS n :: bookKeys) s t) ∧
    (s.overFmax n v = false → v.getLsbD 31 = false → s.flag (CLK_TREE_STATUS_SWITCH_PENDING n) = false →
      fldGet v 0 2 ≠ s.get (CLK_TREE_CTL_SRC n) →
      (s.srcPresent n (s.get (CLK_TREE_STATUS_SRC_CUR n)) = true → s.srcPresent n (fldGet v 0 2) = true →
        ∃ t, exec i s = .next t ∧ t.get (CLK_TREE_STATUS_SRC_CUR n) = fldGet v 0 2 ∧
          t.get (CLK_TREE_CTL_SRC n) = fldGet v 0 2 ∧ t.flag (CLK_TREE_STATUS_SWITCH_PENDING n) = false ∧
          t.flag (CLK_TREE_STATUS_STOPPED n) = !t.flag (CLK_TREE_CTL_RUN n) ∧ Tab.get bool0 t.clk.released n = false ∧
          Framed [.cores, .clk] [CLK_TREE_CTL n, CLK_TREE_STATUS n] s t) ∧
      (s.srcPresent n (s.get (CLK_TREE_STATUS_SRC_CUR n)) = true → s.srcPresent n (fldGet v 0 2) = false →
        ∃ t, exec i s = .next t ∧ t.get (CLK_TREE_STATUS_SRC_CUR n) = s.get (CLK_TREE_STATUS_SRC_CUR n) ∧
          t.get (CLK_TREE_CTL_SRC n) = fldGet v 0 2 ∧ t.flag (CLK_TREE_STATUS_SWITCH_PENDING n) = true ∧
          t.flag (CLK_TREE_STATUS_STOPPED n) = true ∧ Tab.get bool0 t.clk.released n = true ∧
          Tab.get word0 t.clk.switchAt n = s.time ∧ Framed [.cores, .clk] [CLK_TREE_CTL n, CLK_TREE_STATUS n] s t) ∧
      (s.srcPresent n (s.get (CLK_TREE_STATUS_SRC_CUR n)) = false → Tab.get bool0 s.clk.released n = false →
        ∃ t, exec i s = .next t ∧ t.get (CLK_TREE_STATUS_SRC_CUR n) = s.get (CLK_TREE_STATUS_SRC_CUR n) ∧
          t.get (CLK_TREE_CTL_SRC n) = fldGet v 0 2 ∧ t.flag (CLK_TREE_STATUS_SWITCH_PENDING n) = true ∧
          Tab.get word0 t.clk.switchAt n = s.time ∧ Framed [.cores, .clk] [CLK_TREE_CTL n, CLK_TREE_STATUS n] s t)) ∧
    (s.overFmax n v = false → v.getLsbD 31 = false → fldGet v 0 2 = s.get (CLK_TREE_CTL_SRC n) →
      s.flag (CLK_TREE_STATUS_SWITCH_PENDING n) = false ∨ fldGet v 0 10 = fldGet (s.rd (CLK_TREE_CTL n)) 0 10 →
      ∃ t, exec i s = .next t ∧ t.get (CLK_TREE_CTL_DIV n) = fldGet v 2 8 ∧
        t.get (CLK_TREE_STATUS_SRC_CUR n) = s.get (CLK_TREE_STATUS_SRC_CUR n) ∧
        t.flag (CLK_TREE_STATUS_SWITCH_PENDING n) = s.flag (CLK_TREE_STATUS_SWITCH_PENDING n) ∧
        Framed [.cores] [CLK_TREE_CTL n, CLK_TREE_STATUS n] s t)) ∧
  (∀ (s : State) (n : Fin 32) (due : Bool), due = (s.flag (CLK_TREE_STATUS_SWITCH_PENDING n.val) &&
      !s.flag (CLK_TREE_STATUS_HUNG n.val) && s.elapsed (Tab.get word0 s.clk.switchAt n.val) 1000) →
    (due = true → ∃ t, exec (.switchHung n) s = .next t ∧ t.flag (CLK_TREE_STATUS_HUNG n.val) = true ∧
      t.ev.seq = s.ev.seq + 1 ∧ Framed evParts (CLK_TREE_STATUS n.val :: bookKeys) s t) ∧
    (due = false → exec (.switchHung n) s = .next s)) ∧
  (∀ (s : State) (n : Fin 32) (x : Fin 4),
    (s.srcPresent n.val x.val = false → exec (.treeSourceLost n x) s = .next s) ∧
    (s.srcPresent n.val x.val = true → s.get (CLK_TREE_STATUS_SRC_CUR n.val) = x.val → Tab.get bool0 s.clk.released n.val = false →
      ∃ t, exec (.treeSourceLost n x) s = .next t ∧ t.srcPresent n.val x.val = false ∧
        t.flag (CLK_TREE_STATUS_STOPPED n.val) = true ∧ Framed evParts (CLK_TREE_STATUS n.val :: bookKeys) s t) ∧
    (s.srcPresent n.val x.val = true →
        s.get (CLK_TREE_STATUS_SRC_CUR n.val) ≠ x.val ∨ Tab.get bool0 s.clk.released n.val = true →
      ∃ t, exec (.treeSourceLost n x) s = .next t ∧ t.srcPresent n.val x.val = false ∧
        t.flag (CLK_TREE_STATUS_STOPPED n.val) = s.flag (CLK_TREE_STATUS_STOPPED n.val) ∧
        Framed [] [CLK_TREE_STATUS n.val] s t)) ∧
  (∀ (s : State) (n : Fin 32) (x : Fin 4) (goes : Bool),
    goes = ((Tab.get bool0 s.clk.released n.val || decide (s.get (CLK_TREE_STATUS_SRC_CUR n.val) = x.val) ||
        s.srcPresent n.val (s.get (CLK_TREE_STATUS_SRC_CUR n.val))) &&
      (decide (s.get (CLK_TREE_CTL_SRC n.val) = x.val) || s.srcPresent n.val (s.get (CLK_TREE_CTL_SRC n.val)))) →
    (s.srcPresent n.val x.val = true → exec (.treeSourceRestored n x) s = .next s) ∧
    (s.srcPresent n.val x.val = false → s.flag (CLK_TREE_STATUS_SWITCH_PENDING n.val) = false →
      ∃ t, exec (.treeSourceRestored n x) s = .next t ∧ t.srcPresent n.val x.val = true ∧
        (s.get (CLK_TREE_STATUS_SRC_CUR n.val) = x.val →
          t.flag (CLK_TREE_STATUS_STOPPED n.val) = !s.flag (CLK_TREE_CTL_RUN n.val)) ∧
        Framed [] [CLK_TREE_STATUS n.val] s t) ∧
    (s.srcPresent n.val x.val = false → s.flag (CLK_TREE_STATUS_SWITCH_PENDING n.val) = true →
      ∃ t, exec (.treeSourceRestored n x) s = .next t ∧ t.srcPresent n.val x.val = true ∧
        t.flag (CLK_TREE_STATUS_SWITCH_PENDING n.val) = !goes ∧
        (goes = true → t.get (CLK_TREE_STATUS_SRC_CUR n.val) = s.get (CLK_TREE_CTL_SRC n.val) ∧
          t.flag (CLK_TREE_STATUS_HUNG n.val) = false ∧ Tab.get bool0 t.clk.released n.val = false ∧
          t.flag (CLK_TREE_STATUS_STOPPED n.val) = !s.flag (CLK_TREE_CTL_RUN n.val)) ∧
        Framed [.clk] [CLK_TREE_STATUS n.val] s t))

/-- Supplies (R402 to R412, R426): power-on releases the first enable with every session, ring and activity gone and what NV and
fuses hold kept; a good rail is noted, and while the device starts every step whose rails are good is taken; a rail that fails stops
the sequence with FAULT_N; a rail in warning holds NV writes, is counted and, when it is VDD_B, halves the root; its recovery ends
this, and goes on with the reset that it began; below its reset level RDY falls, FAULT_N is driven and every pin goes under charter;
the loss of VAUX stops the device. -/
def Obligations.SuppliesComplete : Prop :=
  (∀ s : State, ∃ t, exec .powerOn s = .next t ∧ t.dev.off = false ∧ t.get DEV_STATUS_PHASE = 1 ∧ t.get PMU_SEQ_STEP = 1 ∧
    t.pow.enables = 1 ∧ t.pow.good = 0 ∧ t.time = 0 ∧ t.sec.sessions = [] ∧ t.mnt.acts = [] ∧ t.host.rings = [] ∧
    t.host.cmds = [] ∧ t.mem.words = [] ∧ t.img.slots = s.img.slots ∧ t.fb.pages = s.fb.pages ∧ t.sec.keys = s.sec.keys ∧
    t.sec.pwds = s.sec.pwds ∧ t.mnt.matMap = s.mnt.matMap ∧ t.mnt.bankMap = s.mnt.bankMap ∧
    (∀ v ∈ allPins, t.pinCause v = causeBit 0) ∧ t.pending = s.pending ∧ t.out = s.out) ∧
  (∀ s : State, ∃ t, exec .vauxLost s = .next t ∧ t.dev.off = true ∧ t.sec.sessions = [] ∧ t.mnt.acts = [] ∧
    t.host.rings = [] ∧ t.img.slots = s.img.slots ∧ t.fb.pages = s.fb.pages ∧ t.pending = s.pending ∧ t.out = s.out) ∧
  (∀ (s : State) (rail : Fin 8) (d : DevState) (p : PowState) (good : Nat → Bool),
    good = (fun q => s.railIsGood q || decide (q = rail.val)) →
    d = (if rail.val = 0 ∧ s.dev.fRestart = 2 then { s.dev with fRestart := if s.dev.warm.isSome then 0 else 3 } else s.dev) →
    p = { s.pow with good := s.pow.good ||| (1#8 <<< rail.val),
                     fOff := s.pow.fOff && !decide (rail.val = 0 ∧ s.dev.fRestart = 2) } →
    (s.dev.off = true ∨ rail.val = 7 → exec (.railGood rail) s = .next s) ∧
    (s.dev.off = false → rail.val ≠ 7 → 3 ≤ s.get DEV_STATUS_PHASE →
      ∃ t, exec (.railGood rail) s = .next t ∧ t.pow = p ∧ t.dev = d ∧ Framed [.pow, .dev] [] s t) ∧
    (s.dev.off = false → rail.val ≠ 7 → s.get DEV_STATUS_PHASE < 3 →
      ∃ t, exec (.railGood rail) s = .next t ∧ s.get PMU_SEQ_STEP ≤ t.get PMU_SEQ_STEP ∧
        (∀ k, s.get PMU_SEQ_STEP < k → k ≤ t.get PMU_SEQ_STEP → s.flag PMU_SEQ_FAIL = false ∧ (stepRails k).all good = true) ∧
        (t.get PMU_SEQ_STEP < 6 → s.flag PMU_SEQ_FAIL = true ∨ (stepRails (t.get PMU_SEQ_STEP + 1)).all good = false) ∧
        t.get DEV_STATUS_PHASE = (if t.get PMU_SEQ_STEP = 6 then 3
          else if 2 ≤ t.get PMU_SEQ_STEP ∧ s.get DEV_STATUS_PHASE = 1 then 2 else s.get DEV_STATUS_PHASE) ∧
        (t.get PMU_SEQ_STEP ≠ 6 → t.dev = d ∧ (∃ e, t.pow = { p with enables := e }) ∧
          (∀ i, i < 5 → t.pow.enables.getLsbD i =
            (s.pow.enables.getLsbD i || decide (s.get PMU_SEQ_STEP ≤ i ∧ i < t.get PMU_SEQ_STEP))) ∧
          Framed [.pow, .dev] [PMU_SEQ, DEV_STATUS] s t))) ∧
  (∀ (s : State) (due : Bool), due = (decide (s.dev.fRestart = 2) && s.elapsed s.dev.fAt 20000000) →
    (s.dev.off = true ∨ s.flag PMU_SEQ_FAIL = true ∨ (due = false ∧ 3 ≤ s.get DEV_STATUS_PHASE) →
      exec .sequencerFail s = .next s) ∧
    (s.dev.off = false → s.flag PMU_SEQ_FAIL = false → due = true ∨ s.get DEV_STATUS_PHASE < 3 →
      ∃ t, exec .sequencerFail s = .next t ∧ t.flag PMU_SEQ_FAIL = true ∧
        t.get PMU_SEQ_FAIL_STEP = (if due then 5 else (s.get PMU_SEQ_STEP + 1) % 8) ∧
        t.bit DEV_FAULT 0 = true ∧ t.flag DEV_STATUS_FAULT = true ∧ Framed [] [PMU_SEQ, DEV_FAULT, DEV_STATUS] s t)) ∧
  (∀ (s : State) (rail : Fin 8) (mv : BitVec 16),
    (s.inWarn rail.val = true ∨ s.railWatched rail.val = false ∨ s.warnLevel rail.val ≤ mv.toNat →
      exec (.railWarn rail mv) s = .next s) ∧
    (s.inWarn rail.val = false → s.railWatched rail.val = true → mv.toNat < s.warnLevel rail.val →
      ∃ t, exec (.railWarn rail mv) s = .next t ∧ t.inWarn rail.val = true ∧ t.flag PMU_STATUS_ANY_WARN = true ∧
        t.pow.nvHeld = true ∧ Tab.get nat0 t.pow.mv rail.val = mv.toNat ∧
        (t.rd (PMU_DIPS rail.val)).toNat = min 0xFFFFFFFF ((s.rd (PMU_DIPS rail.val)).toNat + 1) ∧
        t.flag CLK_STATUS_HALVED = (s.flag CLK_STATUS_HALVED || decide (rail.val = 3)) ∧
        Framed (.pow :: .clk :: evParts) ([PMU_RAIL_WARN, PMU_STATUS, PMU_DIPS rail.val, PMU_SAT, CLK_STATUS] ++
          (upto 5).map LSUP_STATUS ++ bookKeys) s t)) ∧
  (∀ (s : State) (rail : Fin 8) (mv low : BitVec 16) (r : Nat), r = rail.val →
    (s.dev.off = true ∨ mv.toNat ≤ s.warnLevel r + 20 → exec (.railRecovered rail mv low) s = .next s) ∧
    (s.dev.off = false → s.warnLevel r + 20 < mv.toNat →
      (s.dev.restart = none → ¬ (r = 0 ∧ s.dev.fRestart = 3) →
        ∃ t, exec (.railRecovered rail mv low) s = .next t ∧ Tab.get nat0 t.pow.mv r = mv.toNat ∧
          (∀ q, q < 8 → t.inWarn q = (s.inWarn q && decide (q ≠ r))) ∧
          (s.inWarn r = false → Framed [.pow] [] s t) ∧
          (s.inWarn r = true → t.flag PMU_STATUS_ANY_WARN = (upto 8).any (fun q => decide (q ≠ r) && s.inWarn q) ∧
            t.pow.nvHeld = (s.pow.nvHeld && (upto 8).any (fun q => decide (q ≠ r) && s.inWarn q)) ∧
            (r = 3 → t.flag CLK_STATUS_HALVED = false) ∧
            (r ≠ 3 → t.ev.seq = s.ev.seq + 1 ∧
              Framed (.pow :: evParts) ([PMU_RAIL_WARN, PMU_STATUS] ++ (upto 5).map LSUP_STATUS ++ bookKeys) s t))) ∧
      (∀ k (ready : Bool), s.dev.restart = some k → k < 8 →
        ready = (decide (r ≠ 0) && (upto 7).all (fun q => decide (q = 0 ∨ q = r) || s.railIsGood q) &&
          (upto 8).all (fun q => decide (q = 0 ∨ q = r) || !s.inWarn q)) →
        (ready = false → ∃ t, exec (.railRecovered rail mv low) s = .next t ∧ t.railIsGood r = true ∧ t.inWarn r = false ∧
          t.dev = s.dev) ∧
        (ready = true → ∃ t, exec (.railRecovered rail mv low) s = .next t ∧ t.get DEV_RESET_CAUSE_CAUSE = 5 ∧
            t.get DEV_RESET_CAUSE_RAIL = k ∧ 2 ≤ t.get DEV_STATUS_PHASE ∧ t.dev.restart = none)) ∧
      (s.dev.restart = none → r = 0 → s.dev.fRestart = 3 →
        ∃ t, exec (.railRecovered rail mv low) s = .next t ∧ t.flag DEV_STATUS_WARM_BUSY = true ∧
          t.flag DEV_STATUS_RDY = false ∧ t.get DEV_RESET_CAUSE_CAUSE = 3 ∧ t.dev.warm = some (3, false) ∧
          t.inWarn 0 = false ∧ (∀ v ∈ allPins, (t.pinCause v).getLsbD 5 = true)))) ∧
  (∀ (s : State) (rail : Fin 8) (mv : BitVec 16) (r : Nat), r = rail.val →
    (s.railWatched r = false ∨ resetLevel r ≤ mv.toNat → exec (.railReset rail mv) s = .next s) ∧
    (s.railWatched r = true → mv.toNat < resetLevel r →
      (r = 7 → ∃ t, exec (.railReset rail mv) s = .next t ∧ t.dev.off = true ∧ t.sec.sessions = [] ∧ t.mnt.acts = []) ∧
      (r ≠ 7 → s.wf = true → ∃ t, exec (.railReset rail mv) s = .next t ∧ t.flag DEV_STATUS_RDY = false ∧
        t.bit DEV_FAULT 2 = true ∧ t.flag DEV_STATUS_FAULT = true ∧ t.railIsGood r = false ∧
        t.flag DEV_STATUS_WARM_BUSY = false ∧ t.dev.warm = none ∧ (∀ v ∈ allPins, (t.pinCause v).getLsbD 5 = true) ∧
        (r = 0 → t.dev.fRestart = 1 ∧ t.dev.fAt = s.time ∧ t.pow.fOff = true) ∧
        (r ≠ 0 → t.dev.restart = some r) ∧ (r = 1 → t.mem.words = [] ∧ t.que.queues = []) ∧
        (r = 2 → t.pace.timeOn = false) ∧ (r = 3 → t.sec.sessions = [] ∧ t.flag HIF_STATUS_CMD_READY = false) ∧
        (r = 4 → t.fb.run = none) ∧ (r = 5 ∨ r = 6 → t.flag HIF_STATUS_LINK_UP = false)))) ∧
  (∀ s : State,
    (s.dev.fRestart = 1 → s.elapsed s.dev.fAt 10000000 = true →
      ∃ t, exec .vddFRestart s = .next t ∧ t.dev = { s.dev with fRestart := 2, fAt := s.time } ∧
        t.pow = { s.pow with reqF := some s.vddF } ∧ Framed [.dev, .pow] [] s t) ∧
    (s.dev.fRestart ≠ 1 ∨ s.elapsed s.dev.fAt 10000000 = false → exec .vddFRestart s = .next s)) ∧
  (∀ (s : State) (rail : Fin 2) (st : Byte),
    (s.dev.off = true → exec (.avsFault rail st) s = .next s) ∧
    (s.dev.off = false →
      ∃ t, exec (.avsFault rail st) s = .next t ∧ t.flag PMU_STATUS_AVS_FAULT = true ∧ t.ev.seq = s.ev.seq + 1 ∧
        Framed evParts (PMU_STATUS :: bookKeys) s t))

/-- Power (R188 to R191, R406, R407): a measurement takes each rail's voltage and current, averages the last ten powers, keeps the
peak and ends an AVSBus fault, and an average above 170 W makes the cap active; a cap held at the lower bound for 100 ms is critical;
an IR-drop alarm marks its column degraded, reports it and moves its mats; an interval steps VDD_F by the least slack of the regions
that take part, within its bounds and by one step down under a cap or throttle, and keeps their slack. That an interval without a
slack value names the lowest-numbered region is the model's choice (log entry 44) and no clause says it. -/
def Obligations.PackagePowerComplete : Prop :=
  (∀ (s : State) (rails : List (BitVec 16 × BitVec 16)) (mw avg : Nat) (w : List Nat) (was act held : Bool),
    mw = ((upto 22).zip rails).foldl (fun a e => a + e.2.1.toNat * e.2.2.toNat) 0 / 100 →
    w = (mw :: s.pow.samples).take 10 → avg = w.foldl (fun a x => a + x) 0 / w.length →
    was = s.flag PMU_GOV_STATUS_CAP_ACTIVE → act = decide (170000 < avg) → held = (act && decide (s.vddF ≤ s.lowerBound)) →
    (s.dev.off = true → exec (.powerMeasurement rails) s = .next s) ∧
    (s.dev.off = false →
      ∃ t, exec (.powerMeasurement rails) s = .next t ∧ t.pow.samples = w ∧ t.get PMU_POWER_AVG = satBits 16 (avg / 100) ∧
        t.get PMU_POWER_PEAK = max (s.get PMU_POWER_PEAK) (satBits 16 (avg / 100)) ∧
        (∀ i e, i < 22 → rails[i]? = some e →
          Tab.get nat0 t.pow.mv i = e.1.toNat ∧ Tab.get nat0 t.pow.cur i = e.2.toNat) ∧
        t.flag PMU_STATUS_AVS_FAULT = false ∧ t.flag PMU_GOV_STATUS_CAP_ACTIVE = act ∧
        t.flag PMU_GOV_STATUS_CAP_HELD = held ∧
        t.pow.capAt = (if act = was then s.pow.capAt else if act then some s.time else none) ∧
        t.pow.heldAt = (if held = s.flag PMU_GOV_STATUS_CAP_HELD then s.pow.heldAt else if held then some s.time else none) ∧
        t.ev.seq = s.ev.seq + (if act = was then 0 else 1) + (if held = true ∧ s.flag PMU_GOV_STATUS_CAP_HELD = false then 1 else 0) ∧
        Framed (.pow :: .clk :: evParts) (PMU_POWER :: PMU_GOV_STATUS :: PMU_STATUS :: bookKeys) s t ∧
        (act = was → held = s.flag PMU_GOV_STATUS_CAP_HELD → s.flag PMU_STATUS_AVS_FAULT = false →
          Framed [.pow] [PMU_POWER, PMU_GOV_STATUS] s t))) ∧
  (∀ (s : State) (due : Bool), due = (s.flag PMU_GOV_STATUS_CAP_ACTIVE && !s.flag THM_STATUS_CRITICAL &&
      s.pow.heldAt.any (fun a => s.elapsed a 100000000)) →
    (due = false → exec .powerCapExceeded s = .next s) ∧
    (due = true → ∃ t, exec .powerCapExceeded s = .next t ∧ t.flag THM_STATUS_CRITICAL = true ∧ t.flag DEV_STATUS_RDY = false ∧
      t.bit DEV_FAULT 4 = true ∧ t.flag DEV_STATUS_FAULT = true ∧ t.pow.fOff = true ∧ t.thm.criticalAt = s.time ∧
      (∀ v ∈ allPins, (t.pinCause v).getLsbD 2 = true))) ∧
  (∀ (s : State) (layer : Fin 4) (col : ColId) (here l0 : BitVec 16) (y : Nat) (moves : List Nat), y = layer.val + 1 →
    moves = ((if y = 1 then [matOf col.val 0] else if y = 3 then [matOf col.val 1]
      else [matOf col.val 0, matOf col.val 1]).filter (fun p => !(s.isReserve p || s.matRetired p))) →
    (l0.toNat ≤ here.toNat + max 30 (s.get PMU_IR_CTL_LIMIT_MV) → exec (.irDrop layer col here l0) s = .next s) ∧
    (here.toNat + max 30 (s.get PMU_IR_CTL_LIMIT_MV) < l0.toNat → (∀ e ∈ s.pow.degraded, e.1 < 1280) →
      ∃ t, exec (.irDrop layer col here l0) s = .next t ∧ Tab.get bool0 t.pow.degraded (y * 256 + col.val) = true ∧
        Tab.get bool0 t.pow.irRecords (y * 256 + col.val) = true ∧
        t.bit (LSUP_DEGRADED y (col.val / 32)) (col.val % 32) = true ∧ t.flag (LSUP_STATUS_POWER_DEGRADED y) = true ∧
        (t.rd PMU_IRS).toNat = min 0xFFFFFFFF ((s.rd PMU_IRS).toNat + 1) ∧
        (∀ p ∈ moves, .supply (matG p) ∈ t.openFaults y col.val ∧ p ∈ t.mnt.wanted) ∧
        (∀ f ∈ s.openFaults y col.val, f ∈ t.openFaults y col.val) ∧ (∀ p ∈ s.mnt.wanted, p ∈ t.mnt.wanted) ∧
        (moves = [] → t.mnt.wanted = s.mnt.wanted ∧ t.openFaults y col.val = s.openFaults y col.val) ∧
        Framed (.pow :: .col :: .mnt :: evParts) (PMU_IRS :: PMU_SAT :: ((upto 5).flatMap supKeys ++ bookKeys)) s t)) ∧
  (∀ (s : State) (low : Nat → Nat → Bool) (some_ : Bool) (n : Int),
    low = (fun p d => (s.regionSlack p).any (fun v => decide (v * d < 100 * s.get (PACE_STATUS_SLACK_PCT p)))) →
    some_ = (upto 64).any s.takesPart →
    n = (if s.flag PMU_GOV_STATUS_CAP_ACTIVE = true ∨ s.flag PMU_GOV_STATUS_THROTTLE = true then -1
      else if some_ = false ∨ s.flag PMU_GOV_CTL_EN = false ∨ s.inWarn 0 = true then 0
      else if (upto 64).any (fun p => s.takesPart p && ((s.pacer p).ivLate || low p 2)) then 4
      else if (upto 64).any (fun p => s.takesPart p && low p 1) then 1
      else if (upto 64).all (fun p => !s.takesPart p || (s.regionSlack p).any (fun v =>
          decide (100 * s.get (PACE_STATUS_SLACK_PCT p) + 100 * s.get PMU_GOV_CTL_HYST_PCT ≤ v))) then -1
      else 0) →
    (s.dev.off = true → exec .governorInterval s = .next s) ∧
    (s.dev.off = false →
      ∃ t, exec .governorInterval s = .next t ∧ t.flag PMU_GOV_WORST_VALID = some_ ∧
        (∀ p v, p < 64 → s.takesPart p = true → s.regionSlack p = some v → v < 16384 →
          (∀ q w, q < 64 → s.takesPart q = true → s.regionSlack q = some w → v ≤ w ∧ (w = v → p ≤ q)) →
          t.get PMU_GOV_WORST_PACER = p ∧ t.get PMU_GOV_WORST_SLACK = v) ∧
        t.flag PMU_GOV_STATUS_AT_MAX = (decide (0 < n) && decide (900 ≤ s.vddF)) ∧
        (∀ p, p < 64 → t.pacer p = { s.pacer p with slackVal := s.regionSlack p, ivSlack := none, ivLate := false }) ∧
        t.pow = { s.pow with reqF :=
          if s.pow.reqF.isSome = true ∨ s.flag PMU_STATUS_AVS_FAULT = true ∨ s.pow.fOff = true then s.pow.reqF
          else if 0 < n ∧ s.vddF < 900 then some (min 900 (s.vddF + 5 * n.toNat))
          else if n < 0 ∧ s.lowerBound < s.vddF then some (max s.lowerBound (s.vddF - 5)) else none } ∧
        Framed (.pace :: .pow :: evParts) (PMU_GOV_WORST :: PMU_GOV_STATUS :: bookKeys) s t ∧
        (n ≤ 0 ∨ s.vddF < 900 ∨ s.flag PMU_GOV_STATUS_AT_MAX = true →
          Framed [.pace, .pow] [PMU_GOV_WORST, PMU_GOV_STATUS] s t)))

/-- Heat (R414 to R421): a plausible sample of a sensor becomes its value, an implausible one makes it SUSPECT with the mean of its
reference set in its place; a level is entered at its threshold, left after ten values 3 °C below, and shows in THM_STATUS; critical
ends RDY, VDD_F and the pins; an evaluation gives a region its two estimates and finds a sensor that is 8 °C off; a SUSPECT sensor is
released after the time that it agreed; AUTO_RESTART begins a device warm reset from critical; a recalibration is submitted when due
and a second after its grant moves the regions' constants within their bounds. -/
def Obligations.HeatComplete : Prop :=
  (∀ (s : State) (layer : Fin 5) (index : Byte) (y k : Nat), y = layer.val → k = sensorKey y index.toNat →
    (∀ r, s.dev.off = true ∨ sensorCount y ≤ index.toNat ∨ (y = 2 ∧ r = none) →
      exec (.sensorSample layer index r) s = .next s) ∧
    (∀ v : BitVec 16, s.dev.off = false → index.toNat < sensorCount y → y ≠ 2 →
      s.implausible y index.toNat (some v.toInt) = false →
      ∃ t, exec (.sensorSample layer index (some v)) s = .next t ∧ (t.sensor k).reading = v ∧
        (t.sensor k).sampled = true ∧ (t.sensor k).suspect = (s.sensor k).suspect ∧ (∀ j, j ≠ k → t.sensor j = s.sensor j) ∧
        ((s.sensor k).suspect = true → (t.sensor k).agree = (s.sensor k).agree + 1 ∧
          (∀ m, s.refMean y index.toNat = some m → (t.sensor k).used = BitVec.ofInt 16 m)) ∧
        ((s.sensor k).suspect = false → (t.sensor k).used = v ∧
          (∀ l th, (l, th) ∈ [(1, (1050 : Int)), (2, 1100), (3, 1200)] →
            (th ≤ v.toInt → l ≤ (t.sensor k).level) ∧
            ((s.sensor k).level = l → th - 30 ≤ v.toInt ∨ (s.sensor k).below.getD (l - 1) 0 < 9 → l ≤ (t.sensor k).level) ∧
            ((s.sensor k).level ≤ l → v.toInt < th - 30 → 9 ≤ (s.sensor k).below.getD (l - 1) 0 → (t.sensor k).level < l) ∧
            ((s.sensor k).level < l → v.toInt < th → (t.sensor k).level < l)) ∧
          (1200 ≤ v.toInt → (s.sensor k).level < 3 → s.flag THM_STATUS_CRITICAL = false →
            t.flag THM_STATUS_CRITICAL = true ∧ t.flag DEV_STATUS_RDY = false ∧ t.pow.fOff = true ∧ t.bit DEV_FAULT 3 = true ∧
            (∀ p ∈ allPins, (t.pinCause p).getLsbD 2 = true)) ∧
          (v.toInt < 1200 → Framed (.thm :: evParts) ([THM_STATUS, PMU_GOV_STATUS, THM_THROTTLES, THM_SAT] ++
            (upto 5).flatMap supKeys ++ (upto 8).map TAL_ENG_STATUS ++ bookKeys) s t)) ∧
        (1 ≤ (t.sensor k).level → t.flag THM_STATUS_WARNING = true) ∧
        (2 ≤ (t.sensor k).level → t.flag THM_STATUS_THROTTLE = true ∧ t.flag PMU_GOV_STATUS_THROTTLE = true ∧
          t.flag (LSUP_STATUS_THROTTLE y) = true)) ∧
    (∀ r : Option (BitVec 16), s.dev.off = false → index.toNat < sensorCount y → y ≠ 2 →
      s.implausible y index.toNat (r.map BitVec.toInt) = true →
      ∃ t, exec (.sensorSample layer index r) s = .next t ∧ (t.sensor k).suspect = true ∧ (t.sensor k).sampled = true ∧
        (t.sensor k).reading = r.getD (s.sensor k).reading ∧ (t.sensor k).caseAt = s.time ∧ (t.sensor k).agree = 0 ∧
        (∀ m, s.refMean y index.toNat = some m → (t.sensor k).used = BitVec.ofInt 16 m) ∧
        (∀ j, j ≠ k → t.sensor j = s.sensor j) ∧
        ((s.sensor k).suspect = false → t.flag (LSUP_STATUS_SENSOR_SUSPECT y) = true ∧
          (t.rd THM_SUSPECTN).toNat = min 0xFFFFFFFF ((s.rd THM_SUSPECTN).toNat + 1))) ∧
    (∀ v : BitVec 16, s.dev.off = false → index.toNat < sensorCount y → y = 2 →
      ∃ t, exec (.sensorSample layer index (some v)) s = .next t ∧ (t.sensor k).reading = v ∧ (t.sensor k).sampled = true ∧
        (t.sensor k).used = (if (s.sensor k).suspect = true ∨
          ((s.sensor k).sampled = true ∧ v.toInt < (s.sensor k).est.toInt) then (s.sensor k).used else v) ∧
        (∀ j, j ≠ k → t.sensor j = s.sensor j) ∧
        ((s.sensor k).suspect = true → Framed [.thm] [] s t) ∧
        ((s.sensor k).suspect = false → 1050 ≤ v.toInt → t.flag THM_STATUS_WARNING = true) ∧
        ((s.sensor k).suspect = false → v.toInt < 1200 →
          Framed (.thm :: evParts) ([THM_STATUS, PMU_GOV_STATUS, THM_THROTTLES, THM_SAT] ++
            (upto 5).flatMap supKeys ++ (upto 8).map TAL_ENG_STATUS ++ bookKeys) s t))) ∧
  (∀ (s : State) (l : List (BitVec 32 × BitVec 32)),
    (s.dev.off = true ∨ s.flag THM_TRI_VALID = false → exec (.triangulation l) s = .next s) ∧
    (s.dev.off = false → s.flag THM_TRI_VALID = true →
      ∃ t, exec (.triangulation l) s = .next t ∧
        (∀ r w req k gap, r < 64 → l[r]? = some (w, req) → k = sensorKey 2 r →
          gap = ((s.sensor k).temp - s.estimate r w.toNat).natAbs →
          (t.sensor k).est = BitVec.ofInt 16 (s.estimate r w.toNat) ∧
          (t.sensor k).req = BitVec.ofInt 16 (s.estimate r req.toNat) ∧ (t.sensor k).sampled = true ∧
          (t.sensor k).suspect = ((s.sensor k).suspect || ((s.sensor k).sampled && decide (80 < gap))) ∧
          ((s.sensor k).suspect = true → (t.sensor k).agree = if gap ≤ 40 then (s.sensor k).agree + 1 else 0) ∧
          (t.sensor k).used = BitVec.ofInt 16 (if (t.sensor k).suspect = true ∨ (s.sensor k).sampled = false
            then s.estimate r w.toNat else max (s.sensor k).temp (s.estimate r w.toNat))) ∧
        (∀ j, (∀ r, r < 64 → r < l.length → j ≠ sensorKey 2 r) → t.sensor j = s.sensor j) ∧
        ((∀ r w req, r < 64 → l[r]? = some (w, req) →
            s.estimate r w.toNat < 1200 ∧ (s.sensor (sensorKey 2 r)).temp < 1200) →
          Framed (.thm :: evParts) ([THM_STATUS, PMU_GOV_STATUS, THM_SUSPECTN, THM_THROTTLES, THM_SAT] ++
            (upto 5).flatMap supKeys ++ (upto 8).map TAL_ENG_STATUS ++ bookKeys) s t))) ∧
  (∀ (s : State) (layer : Fin 5) (index : Byte) (y k : Nat) (due : Bool), y = layer.val → k = sensorKey y index.toNat →
    due = (decide (index.toNat < sensorCount y) && (s.sensor k).suspect &&
      (if y = 2 then decide (10000 ≤ (s.sensor k).agree)
       else decide (1 ≤ (s.sensor k).agree) && s.elapsed (s.sensor k).caseAt 10000000000) &&
      !s.unitSuspect 2 (sensorInst y index.toNat)) →
    (due = true → ∃ t, exec (.sensorReleased layer index) s = .next t ∧
      t.sensor k = { s.sensor k with suspect := false, agree := 0 } ∧
      (∀ j, j ≠ k → t.sensor j = s.sensor j) ∧ t.ev.seq = s.ev.seq + 1 ∧
      Framed (.thm :: evParts) (LSUP_STATUS y :: bookKeys) s t) ∧
    (due = false → exec (.sensorReleased layer index) s = .next s)) ∧
  (∀ (s : State) (due : Bool), due = (s.flag THM_STATUS_CRITICAL && s.flag THM_CTL_AUTO_RESTART && !s.dev.off &&
      !s.dev.restart.isSome && !s.dev.warm.isSome && s.liveSensors.all (fun e => decide (e.2.value < 1000)) &&
      s.elapsed s.thm.hotAt 1000000000) →
    (due = false → exec .criticalRestart s = .next s) ∧
    (due = true → ∃ t, exec .criticalRestart s = .next t ∧ t.flag THM_STATUS_CRITICAL = false ∧ t.flag DEV_STATUS_RDY = false ∧
      t.flag DEV_STATUS_WARM_BUSY = true ∧ t.get DEV_RESET_CAUSE_CAUSE = 4 ∧ t.dev.warm = some (4, false) ∧
      t.dev.fRestart = 2 ∧ (t.rd DEV_WARMS).toNat = min 0xFFFFFFFF ((s.rd DEV_WARMS).toNat + 1) ∧
      (∀ v ∈ allPins, (t.pinCause v).getLsbD 5 = true))) ∧
  (∀ (s : State) (means : List (Int × Bool)) (goes : Bool), goes = (!s.dev.off && s.flag THM_TRI_VALID) →
    (goes = false ∨ (s.runningTask (fun x => decide (x = .recal)) = none ∧ (s.hasTask (fun x => decide (x = .recal)) = true ∨
        s.flag THM_CTL_RECAL_EN = false ∨ s.elapsed s.thm.recalAt s.recalPeriod = false)) →
      exec (.triangulationRecal means) s = .next s) ∧
    (∀ p a, goes = true → s.hasTask (fun x => decide (x = .recal)) = false → s.flag THM_CTL_RECAL_EN = true →
      s.pace.timeOn = true → s.elapsed s.thm.recalAt s.recalPeriod = true → freePlace s.mnt.acts .recal = some p →
      a = { place := p, task := .recal, locks := [.triModel, .sensor none], st := .waiting, requester := 1, ref := none,
            since := s.time, resource := 0 } →
      ∃ t, exec (.triangulationRecal means) s = .next t ∧
        (grantable (s.mnt.acts ++ [a]) a = true →
          t.mnt.acts = grantIn (s.mnt.acts ++ [a]) a ∧ t.thm = { s.thm with recalAt := s.time }) ∧
        (grantable (s.mnt.acts ++ [a]) a = false → t.mnt.acts = s.mnt.acts ++ [a] ∧ t.thm = s.thm)) ∧
    (∀ a, goes = true → s.runningTask (fun x => decide (x = .recal)) = some a →
      (s.elapsed s.thm.recalAt 1000000000 = false → exec (.triangulationRecal means) s = .next s) ∧
      (s.elapsed s.thm.recalAt 1000000000 = true → ∃ t, exec (.triangulationRecal means) s = .next t ∧
        (∀ r d, r < 64 → means[r]? = some (d, true) → (s.sensor (sensorKey 2 r)).suspect = false →
          Tab.get int0 t.thm.moved r = clampInt (-60) 60 (Tab.get int0 s.thm.moved r + clampInt (-30) 30 d)) ∧
        (∀ r, 64 ≤ r ∨ (s.sensor (sensorKey 2 r)).suspect = true ∨ (∀ d, means[r]? ≠ some (d, true)) →
          Tab.get int0 t.thm.moved r = Tab.get int0 s.thm.moved r) ∧
        t.get THM_TRI_RECALS = (s.get THM_TRI_RECALS + 1) % 65536 ∧ (∀ x ∈ t.mnt.acts, x.place ≠ a.place) ∧
        Framed grantParts (THM_TRI :: grantKeys) s t)))

/-- Start-up (R372, R426, R427): a verified image is applied and noted as the one that runs, with its charter kept, the image fault
over and P4 entered, or P5 where both root PLLs are locked; a steward pair that runs Jenulo sets CMD_READY with the other pair as
standby, or none where that is SUSPECT; the wake runs the trees, releases the holds of every mat that may run, hands over the pins
that no pacer holds, arms the image's pacers and releases RDY. -/
def Obligations.StartUpComplete : Prop :=
  (∀ (s : State) (failed : List MatId) (chains : List Chain),
    (s.img.boot = none ∨ s.get DEV_STATUS_PHASE ≠ 3 ∨ s.pow.fOff = true ∨
        (∃ b, s.img.boot = some b ∧ (b.passed = false ∨ s.bootImage b = none)) →
      exec (.imageApply failed chains) s = .next s) ∧
    (∀ b i, s.img.boot = some b → s.bootImage b = some i → b.passed = true → s.get DEV_STATUS_PHASE = 3 → s.pow.fOff = false →
      b.source < 4 →
      ∃ t, exec (.imageApply failed chains) s = .next t ∧ t.img.boot = none ∧ t.img.running = some (i.arv, i.measure) ∧
        t.get CFG_BOOT_SRC = b.source ∧ t.flag CFG_BOOT_TRIAL_RUNNING = b.trial ∧
        t.flag CFG_BOOT_STREAMED = decide (b.source = 3) ∧ t.flag CFG_BOOT_NO_IMAGE = false ∧ t.bit DEV_FAULT 1 = false ∧
        t.get DEV_STATUS_PHASE = (if t.rootLocked then 5 else 4) ∧ t.img.charterCopy = i.charter ∧
        (s.ownFrames i = [] → s.mnt.chains = [] → failed = [] → t.img.slots = s.img.slots))) ∧
  (∀ (s : State) (pair : Fin 2) (p : Nat) (ready : Bool), p = pair.val →
    ready = (!s.dev.off && decide (3 ≤ s.get DEV_STATUS_PHASE) && s.rootLocked && !s.flag HIF_STATUS_CMD_READY &&
      !s.unitSuspect 7 p) →
    (ready = false → exec (.stackManagerReady pair) s = .next s) ∧
    (ready = true → ∃ t, exec (.stackManagerReady pair) s = .next t ∧ t.flag HIF_STATUS_CMD_READY = true ∧
      t.get MNT_STEWARD_ACTIVE = p ∧ t.get MNT_STEWARD_STANDBY = (if s.unitSuspect 7 (1 - p) then 3 else 1) ∧
      (∀ n, t.coreAt n = if n < 4 ∧ (n / 2 = p ∨ s.unitSuspect 7 (1 - p) = false)
        then { s.coreAt n with inReset := false, program := true, wdRun := true } else s.coreAt n) ∧
      Framed [.cores] [MNT_STEWARD, HIF_STATUS] s t)) ∧
  (∀ (s : State) (us : BitVec 32),
    (s.get DEV_STATUS_PHASE ≠ 5 ∨ s.rootLocked = false ∨ s.pow.fOff = true → exec (.wake us) s = .next s) ∧
    (s.get DEV_STATUS_PHASE = 5 → s.rootLocked = true → s.pow.fOff = false →
      ∃ t, exec (.wake us) s = .next t ∧ t.get DEV_STATUS_PHASE = 6 ∧ t.flag DEV_STATUS_RDY = true ∧
        t.flag DEV_STATUS_WARM_BUSY = false ∧ t.dev.warm = none ∧ t.get DEV_BOOT_US_TIME = us.toNat ∧
        (∀ i, 2 ≤ i → i ≤ 4 → t.bit DEV_FAULT i = false) ∧
        (∀ n, n < 32 → t.flag (CLK_TREE_CTL_RUN n) = true) ∧
        (∀ v ∈ allPins, s.pinPaced v = false → (t.pinCause v).getLsbD 0 = false) ∧
        (∀ p, p < 512 → s.slotState p (s.activeSlot p) = slACTIVE → Tab.get bool0 s.mnt.stopped p = false →
          t.heldNull p = false ∧ (t.slot p (s.activeSlot p)).activated = true) ∧
        (∀ p ∈ s.img.starts, p < 64 → t.paceState p = 1) ∧ t.img.starts = [] ∧ t.bist.clean = false))

/-- DEV_RESET_REQ (R439 to R444): an accepted device warm reset takes RDY, counts, names its cause and puts every pin under charter,
and goes on once no field-book commit runs, with sessions, commands, slots and queues gone and the banks' words kept; an accepted
reset of a group gives its mats their first holds anew, their active slots keeping the lane buffers of a column whose other mat is no
member; an accepted core reset holds its core until it is released after 1 µs at its entry point, halted where a request was held
for it, or with its load due; a request that is not accepted is REFUSED with its status. -/
def Obligations.RequestedResetsComplete : Prop :=
  (∀ (s : State) (req : Requester) (v : Reg),
    (fldGet v 0 2 ≠ 1 → exec (.deviceWarmReset req v) s = .next s) ∧
    (fldGet v 0 2 ≠ 2 → exec (.swapGroupFabricReset req v) s = .next s) ∧
    (fldGet v 0 2 ≠ 3 → exec (.coreReset req v) s = .next s)) ∧
  (∀ (s : State) (req : Requester) (v : Reg), Performs s req DEV_RESET_REQ true → s.resetStatus req v = stOK →
    (fldGet v 0 2 = 1 →
      ∃ t, exec (.deviceWarmReset req v) s = .next t ∧ t.flag DEV_STATUS_RDY = false ∧ t.flag DEV_STATUS_WARM_BUSY = true ∧
        t.dev.warm = some (resetWho req, false) ∧ t.get DEV_RESET_STATUS_LAST_STATUS = stOK ∧
        t.get DEV_RESET_CAUSE_CAUSE = (match req with | .host => 1 | .debug => 6 | _ => 2) ∧
        (t.rd DEV_WARMS).toNat = min 0xFFFFFFFF ((s.rd DEV_WARMS).toNat + 1) ∧
        (∀ x ∈ allPins, (t.pinCause x).getLsbD 5 = true) ∧ (∀ n, 4 ≤ n → n < 8 → (t.coreAt n).inReset = true)) ∧
    (∀ (g : Nat) (l : List Nat), g = fldGet v 2 6 → l = (s.group g).mats → fldGet v 0 2 = 2 → (s.group g).run = none →
      (∀ m ∈ l, s.physMat m < 512 ∧ s.logMat (s.physMat m) = m ∧ s.flag (gREGCH_BUSY (s.physMat m)) = false) →
      ∃ t, exec (.swapGroupFabricReset req v) s = .next t ∧ t.get DEV_RESET_STATUS_LAST_STATUS = stOK ∧
        (t.rd DEV_GRPRESETS).toNat = min 0xFFFFFFFF ((s.rd DEV_GRPRESETS).toNat + 1) ∧
        (∀ m ∈ l, ∀ p k w, p = s.physMat m → k < 4 →
          w = (if k = s.activeSlot p ∧ s.logMat (matOf (matCol p) (1 - matG p)) ∉ l then (s.holds p).lanes else []) →
          (t.slot p k).ctx = (s.slot p k).ctx ∧
          (t.slot p k).shadow.fronds = (s.slot p k).ctx.firstFronds ∧ (t.slot p k).shadow.res = [] ∧
          (t.slot p k).shadow.border = [] ∧ (t.slot p k).shadow.lanes = [] ∧
          (t.slot p k).holds = { (t.slot p k).shadow with lanes := w }) ∧
        (∀ q k, (∀ m ∈ l, q ≠ s.physMat m) → k < 4 → t.slot q k = s.slot q k) ∧
        Framed (.cores :: .ctx :: .mem :: .free :: evParts)
          (DEV_RESET_STATUS :: DEV_GRPRESETS :: DEV_SAT :: (l.map (fun m => (gQUIET (s.physMat m)).reg) ++ bookKeys)) s t) ∧
    (∀ (g : Nat) (r : SwapRun), g = fldGet v 2 6 → fldGet v 0 2 = 2 → (s.group g).run = some r →
      ∃ t, exec (.swapGroupFabricReset req v) s = .next t ∧ t.get DEV_RESET_STATUS_LAST_STATUS = stOK ∧
        (t.rd DEV_GRPRESETS).toNat = min 0xFFFFFFFF ((s.rd DEV_GRPRESETS).toNat + 1)) ∧
    (∀ n, n = fldGet v 2 6 → fldGet v 0 2 = 3 → s.wf = true →
      ∃ t, exec (.coreReset req v) s = .next t ∧ t.get DEV_RESET_STATUS_LAST_STATUS = stOK ∧ (t.coreAt n).inReset = true ∧
        (t.coreAt n).resetBy = some 0 ∧ (t.coreAt n).resetAt = s.time ∧ (t.coreAt n).program = (s.coreAt n).program ∧
        Framed [.cores, .csr, .core, .host] (DEV_RESET_STATUS :: DBG_CORE_STATUS n :: (upto 64).map (0x3200 + 0x40 * n + ·)) s t)) ∧
  (∀ (s : State) (req : Requester) (v : Reg), Performs s req DEV_RESET_REQ true → s.resetStatus req v ≠ stOK →
    ∀ c, (c = .deviceWarmReset req v ∧ fldGet v 0 2 = 1) ∨ (c = .swapGroupFabricReset req v ∧ fldGet v 0 2 = 2) ∨
        (c = .coreReset req v ∧ fldGet v 0 2 = 3) →
      ∃ t, exec c s = .next t ∧ t.flag DEV_RESET_STATUS_REFUSED = true ∧
        t.get DEV_RESET_STATUS_LAST_STATUS = s.resetStatus req v ∧ Framed [.cores] [DEV_RESET_STATUS] s t) ∧
  (∀ s : State,
    (s.fb.run.isSome = true ∨ (∀ who, s.dev.warm ≠ some (who, false)) → exec .warmResetContinue s = .next s) ∧
    (∀ who, s.fb.run = none → s.dev.warm = some (who, false) →
      ∃ t, exec .warmResetContinue s = .next t ∧ t.get DEV_STATUS_PHASE = 3 ∧ t.dev.warm = some (who, true) ∧
        t.sec.sessions = [] ∧ t.host.cmds = [] ∧ t.ctx.slots = [] ∧ t.ctx.groups = [] ∧ t.que.queues = [] ∧
        (s.dbg.pendingErase = none → t.mem.words = s.mem.words) ∧ t.mnt.matMap = s.mnt.matMap ∧
        t.mnt.bankMap = s.mnt.bankMap ∧ t.fb.pages = s.fb.pages)) ∧
  (∀ (s : State) (core : Fin 4) (n : Nat), n = core.val + 4 →
    ((s.coreAt n).resetBy = none ∨ s.coreClocked n = false ∨ s.elapsed (s.coreAt n).resetAt 1000 = false →
      exec (.coreResetRelease core) s = .next s) ∧
    (∀ by_, (s.coreAt n).resetBy = some by_ → s.coreClocked n = true → s.elapsed (s.coreAt n).resetAt 1000 = true →
      (∀ p, s.progOf n = some p → (s.coreAt n).program = true → (s.coreAt n).haltReq = none →
        ∃ t, exec (.coreResetRelease core) s = .next t ∧
          t.coreAt n = { s.coreAt n with inReset := false, resetBy := none, loadDue := false, wdRun := true, wdAt := s.time,
                                         wdFrozen := false, pc := p.entry, gpr := [], wait := none } ∧
          t.ev.seq = s.ev.seq + 1 ∧ (∀ m, m ≠ n → t.coreAt m = s.coreAt m) ∧ Framed (.cores :: evParts) bookKeys s t) ∧
      (∀ p c, s.progOf n = some p → (s.coreAt n).program = true → (s.coreAt n).haltReq = some c →
        ∃ t, exec (.coreResetRelease core) s = .next t ∧ (t.coreAt n).inReset = false ∧ (t.coreAt n).pc = p.entry ∧
          (t.coreAt n).halted = true ∧ (t.coreAt n).haltReq = none ∧ (t.coreAt n).resetBy = none ∧
          t.ev.seq = s.ev.seq + 2 ∧ (∀ m, m ≠ n → t.coreAt m = s.coreAt m) ∧
          Framed (.cores :: evParts) (DBG_CORE_STATUS n :: bookKeys) s t) ∧
      ((s.progOf n = none ∨ (s.coreAt n).program = false) →
        ∃ t, exec (.coreResetRelease core) s = .next t ∧
          t.coreAt n = { s.coreAt n with resetBy := none, loadDue := (s.coreAt n).loadDue || (s.progOf n).isSome } ∧
          t.ev.seq = s.ev.seq + 1 ∧ (∀ m, m ≠ n → t.coreAt m = s.coreAt m) ∧ Framed (.cores :: evParts) bookKeys s t)))

/-- Relocations (R452 to R462): a request of a mat that may move, and a RELOCATE to an eligible target, is submitted; without a target
the mat's groups stop; once granted the relocation copies the library and the bank set; its preparation copies the slots, or gives
up a target that failed; its cut, once no mat of the set is busy or COL_SWAP_TIMEOUT has passed, moves the holds, switches the map,
retires the source, counts, and ends the command; a stop that waited takes effect on its group. -/
def Obligations.RelocationsComplete : Prop :=
  (∀ (s : State) (mat : MatId) (chains : List Chain) (p : Nat) (goes : Bool), p = mat.val →
    goes = (decide (p ∈ s.mnt.wanted) && s.canRelocate && !s.inReloc p) →
    (goes = false → exec (.relocationRequest mat chains) s = .next s) ∧
    (goes = true → s.isReserve p = true ∨ s.matRetired p = true ∨ Tab.get bool0 s.mnt.stopped p = true →
      ∃ t, exec (.relocationRequest mat chains) s = .next t ∧ (∀ q, q ∈ t.mnt.wanted ↔ q ∈ s.mnt.wanted ∧ q ≠ p) ∧
        Framed [.mnt] [] s t) ∧
    (goes = true → s.isReserve p = false → s.matRetired p = false → Tab.get bool0 s.mnt.stopped p = false →
      (s.chooseTarget p chains = none →
        ∃ t, exec (.relocationRequest mat chains) s = .next t ∧ (∀ q ∈ s.relocSet p, q ∉ t.mnt.wanted) ∧
          (∀ g, g < 64 → (s.group g).mats.any (fun m => decide (m ∈ (s.relocSet p).map s.logMat)) = true →
            ((s.group g).run = none → t.groupStopped g = true) ∧
            ((s.group g).run.isSome = true → (t.group g).stopWaits = true))) ∧
      (∀ d r, s.chooseTarget p chains = some d → r = s.newReloc (s.relocSet p) d chains →
        (∀ n a, freePlace s.mnt.acts (.reloc r) = some n →
          a = { place := n, task := .reloc r, locks := r.locks, st := .waiting, requester := 0, ref := none, since := s.time,
                resource := matCol p } →
          ∃ t, exec (.relocationRequest mat chains) s = .next t ∧
            t.mnt.acts = (if grantable (s.mnt.acts ++ [a]) a then grantIn (s.mnt.acts ++ [a]) a else s.mnt.acts ++ [a]) ∧
            (∀ q, q ∈ t.mnt.wanted ↔ q ∈ s.mnt.wanted ∧ q ∉ s.relocSet p) ∧
            Framed (.mnt :: evParts) (LSUP_CONFLICTS 2 :: LSUP_SAT 2 :: bookKeys) s t) ∧
        (freePlace s.mnt.acts (.reloc r) = none →
          ∃ t, exec (.relocationRequest mat chains) s = .next t ∧ t.mnt.acts = s.mnt.acts ∧
            t.mnt.again = s.mnt.again ++ [(s.time + 1000000, .reloc r, r.locks, 0, matCol p)])))) ∧
  (∀ (s : State) (h : Hdr) (mat target : BitVec 16) (flags : Byte) (chains : List Chain) (p : Nat) (given : Bool),
    Lets s h 0x63 → p = s.physMat mat.toNat → given = flags.getLsbD 0 →
    (512 ≤ mat.toNat ∨ 1 < flags.toNat ∨ (given = true ∧ 512 ≤ target.toNat) →
      ∃ t, exec (.relocate h mat flags target chains) s = .next t ∧ Done s t h 0x63 stBAD_ARG 0 ∧ Framed cmdParts bookKeys s t) ∧
    (mat.toNat < 512 → flags.toNat ≤ 1 → (given = true → target.toNat < 512) →
      (s.matRetired p = true →
        ∃ t, exec (.relocate h mat flags target chains) s = .next t ∧ Done s t h 0x63 stREFUSED 0 ∧
          Framed cmdParts bookKeys s t) ∧
      (s.matRetired p = false → s.inReloc p = true →
        ∃ t, exec (.relocate h mat flags target chains) s = .next t ∧ Done s t h 0x63 stBUSY 0 ∧
          Framed cmdParts bookKeys s t) ∧
      (s.matRetired p = false → s.inReloc p = false →
        (given = true → (matG target.toNat ≠ matG p ∨
            s.eligible (s.relocSet p) (s.bankSet (s.relocSet p)) chains target.toNat = false) →
          ∃ t, exec (.relocate h mat flags target chains) s = .next t ∧ Done s t h 0x63 stREFUSED 0 ∧
            Framed cmdParts bookKeys s t) ∧
        (given = false → s.chooseTarget p chains = none →
          ∃ t, exec (.relocate h mat flags target chains) s = .next t ∧ Done s t h 0x63 stUNPLACEABLE 0) ∧
        (∀ d r, (given = true ∧ d = target.toNat ∧ matG d = matG p ∧
              s.eligible (s.relocSet p) (s.bankSet (s.relocSet p)) chains d = true) ∨
            (given = false ∧ s.chooseTarget p chains = some d) → r = s.newReloc (s.relocSet p) d chains →
          (∀ n a, freePlace s.mnt.acts (.reloc r) = some n →
            a = { place := n, task := .reloc r, locks := r.locks, st := .waiting, requester := 3, ref := some (hdrRef h 0x63),
                  since := s.time, resource := matCol p } →
            ∃ t, exec (.relocate h mat flags target chains) s = .next t ∧ (t.cmdOf h.ring.val h.id 0x63).isSome = true ∧
              (grantable (s.mnt.acts ++ [a]) a = true → t.mnt.acts = grantIn (s.mnt.acts ++ [a]) a) ∧
              (grantable (s.mnt.acts ++ [a]) a = false → t.mnt.acts = s.mnt.acts ++ [a] ∧ Queued s t h 0x63) ∧
              Framed cmdParts bookKeys s t) ∧
          (freePlace s.mnt.acts (.reloc r) = none →
            ∃ t, exec (.relocate h mat flags target chains) s = .next t ∧ Done s t h 0x63 stNO_SPACE 0 ∧
              Framed cmdParts bookKeys s t))))) ∧
  (∀ (s : State) (mat : MatId) (bad : List (MatId × Fin 16)),
    (s.relocOf mat.val 0 = none → exec (.relocation mat bad) s = .next s) ∧
    (∀ a r, s.relocOf mat.val 0 = some (a, r) → r.dst.Nodup → (∀ d ∈ r.dst, d < 512 ∧ d ∉ r.src) → (∀ p ∈ r.src, p < 512) →
      ∃ t, exec (.relocation mat bad) s = .next t ∧
        t.mnt.acts = s.mnt.acts.map (fun x => if x.place = a.place then
          { x with task := .reloc { r with stage := 1, mirroring := true, grantedAt := s.time } } else x) ∧
        (∀ i p d e : Nat, r.src[i]? = some p → r.dst[i]? = some d → e < 16 → t.entry d e = s.entry p e ∧
          t.entryValid d e = (s.entryValid p e && !bad.any (fun x => decide (x.1.val = p ∧ x.2.val = e)))) ∧
        (∀ m e, m ∉ r.dst → e < 16 → t.entry m e = s.entry m e) ∧
        (s.wf = true → ∀ p d, r.src.head? = some p → r.dst.head? = some d → r.banks.Nodup → (∀ b ∈ r.banks, b < 8) →
          (∀ b ∈ r.banks, s.serving (bankId (matCol d) b) = bankId (matCol d) b) →
          (∀ b ∈ r.banks, ∀ c ∈ r.banks, s.serving (bankId (matCol p) b) ≠ bankId (matCol d) c) →
          ∀ b ∈ r.banks, ∀ w, w < 8192 → t.word (bankId (matCol d) b) w = s.word (s.serving (bankId (matCol p) b)) w) ∧
        Framed [.acts, .ctx, .words] (r.dst.map (fun d => COL_CTX_LIB (matCol d) (matG d))) s t)) ∧
  (∀ (s : State) (mat : MatId) (failed : Bool) (lost : List (MatId × SlotId)) (chains : List Chain),
    (s.relocOf mat.val 1 = none → exec (.relocationPrepared mat failed lost chains) s = .next s) ∧
    (∀ a r (gone : Nat → Nat → Bool) (waits : Bool), s.relocOf mat.val 1 = some (a, r) → r.dst.Nodup →
      (∀ d ∈ r.dst, d < 512 ∧ d ∉ r.src) → (∀ p ∈ r.src, p < 512) →
      gone = (fun p k => s.flag (COL_CTX_SRC_AX (matCol p) (matG p) k) &&
        lost.any (fun x => decide (x.1.val = p ∧ x.2.val = k))) →
      waits = (!s.canRelocate || r.src.any (fun p => s.pacedCut (s.logMat p)) || s.cutWaits r) →
      (failed = false →
        ∃ t z, exec (.relocationPrepared mat failed lost chains) s = .next t ∧
          t.mnt.acts = s.mnt.acts.map (fun x => if x.place = a.place then { x with task := .reloc z } else x) ∧
          z.stage = (if waits then 2 else 3) ∧ z.cutAt = (if waits then r.cutAt else s.time) ∧
          z.axLost = (r.src.zip r.dst).any (fun e => (upto 4).any (gone e.1)) ∧
          (∀ i p d k : Nat, r.src[i]? = some p → r.dst[i]? = some d → k < 4 →
            (gone p k = false → t.slot d k = s.slot p k ∧ t.slotState d k = s.slotState p k) ∧
            (gone p k = true → t.slot d k = slot0 0 ∧ t.slotState d k = slEMPTY)) ∧
          (∀ m k, m ∉ r.dst → k < 4 → t.slot m k = s.slot m k)) ∧
      (failed = true →
        ∃ t, exec (.relocationPrepared mat failed lost chains) s = .next t ∧
          ∀ d ∈ r.dst, (t.unit 5 d).suspect = true ∧ ∀ k, k < 4 → t.slot d k = slot0 0))) ∧
  (∀ (s : State) (mat : MatId) (intact : Bool) (p : Nat), p = mat.val →
    (s.canRelocate = false ∨ (s.relocOf p 3 = none ∧ s.relocOf p 2 = none) → exec (.relocationCut mat intact) s = .next s) ∧
    (∀ a r, s.canRelocate = true → s.relocOf p 3 = none → s.relocOf p 2 = some (a, r) →
      (r.src.any (fun q => s.pacedCut (s.logMat q)) = true ∨ s.cutWaits r = true →
        exec (.relocationCut mat intact) s = .next s) ∧
      (r.src.any (fun q => s.pacedCut (s.logMat q)) = false → s.cutWaits r = false → r.src.all s.mayRest = false →
        ∃ t, exec (.relocationCut mat intact) s = .next t ∧
          t.mnt.acts = s.mnt.acts.map (fun x => if x.place = a.place then
            { x with task := .reloc { r with stage := 3, cutAt := s.time } } else x) ∧ Framed [.acts] [] s t)) ∧
    (∀ a r (due : Bool), due = (r.src.all (fun q => s.pacedCut (s.logMat q) || s.mayRest q) ||
        (!intact && decide (r.stage = 3) && s.elapsed r.cutAt (s.swapTimeout (s.cutLead r)))) → s.canRelocate = true →
      s.relocOf p 3 = some (a, r) ∨ (s.relocOf p 3 = none ∧ s.relocOf p 2 = some (a, r) ∧ s.cutWaits r = false ∧
        r.src.any (fun q => s.pacedCut (s.logMat q)) = false) →
      (due = false → s.relocOf p 3 = some (a, r) → exec (.relocationCut mat intact) s = .next s) ∧
      (due = true → r.src.Nodup → r.dst.Nodup → r.dst.length = r.src.length → (∀ d ∈ r.dst, d < 512 ∧ d ∉ r.src) →
        (∀ q ∈ r.src, q < 512 ∧ s.physMat (s.logMat q) = q) →
        ∃ t, exec (.relocationCut mat intact) s = .next t ∧
          (∀ i q d : Nat, r.src[i]? = some q → r.dst[i]? = some d → t.physMat (s.logMat q) = d ∧ t.matRetired q = true) ∧
          ((∀ q ∈ r.src, s.regionOf (s.logMat q) = none) → (∀ l ∈ s.ctx.loads, l.held = false) →
            (t.rd MNT_RELOCS).toNat = min 0xFFFFFFFF ((s.rd MNT_RELOCS).toNat + 1) ∧
            (∀ x ∈ t.mnt.acts, x.place = a.place → taskCode x.task ≠ 4) ∧
            (∀ c, a.ref = some c → (∀ x ∈ s.mnt.acts, x.ref = some c → x = a) → Ended s t c stOK (BitVec.ofNat 64
              (r.dst.headD 0 + (r.dst.drop 1).headD 0 * 65536 + (if intact then 0 else 2 ^ 32)))) ∧
            (∀ i q d k : Nat, r.src[i]? = some q → r.dst[i]? = some d → k < 4 → t.slot q k = slot0 0 ∧
              (s.slotState d k ≠ slEMPTY → (t.slot d k).ctx = (s.slot d k).ctx ∧
                (intact = true → (t.slot d k).holds = (s.slot q k).holds) ∧
                (intact = false → (t.slot d k).holds.fronds = (s.slot d k).ctx.firstFronds))))))) ∧
  (∀ (s : State) (mat : MatId) (g : Nat), s.groupOf (s.logMat mat.val) = some g →
    ((s.group g).stopWaits = false ∨ (s.group g).run.isSome = true → exec (.groupStop mat) s = .next s) ∧
    (g < 64 → (s.group g).stopWaits = true → (s.group g).run = none →
      ∃ t, exec (.groupStop mat) s = .next t ∧ t.groupStopped g = true ∧ t.group g = { s.group g with stopWaits := false } ∧
        (∀ m ∈ (s.group g).mats, Tab.get bool0 t.mnt.stopped (s.physMat m) = true ∧ t.heldNull (s.physMat m) = true ∧
          ∀ v ∈ s.pinsOf m, (t.pinCause v).getLsbD 3 = true) ∧
        ((∀ m ∈ (s.group g).mats, s.pinsOf m = []) → Framed [.ctx, .mnt, .mem] (MNT_UNPLACED_LO :: MNT_UNPLACED_HI ::
          (s.group g).mats.map (fun m => (gQUIET (s.physMat m)).reg)) s t))) ∧
  (∀ (s : State) (mat : MatId), s.groupOf (s.logMat mat.val) = none → exec (.groupStop mat) s = .next s)

/-- The stack manager (R463 to R469, R474): an activity whose wait has passed its limit ends its command with TIMEOUT, or is submitted
again; a fault of the active pair hands its work to a READY standby, or leaves the device without a stack manager; the standby becomes
READY; a firmware image that passes is submitted with QUEUED and another ends with its status, a bundle that reads back is in use, a
steward image starts the standby from it and is given up when the standby is not READY in time. -/
def Obligations.StewardsComplete : Prop :=
  (∀ (s : State) (place : Fin 32) (o : Option Act), o = s.mnt.acts.find? (fun a => decide (a.place = place.val ∧ a.st = .waiting)) →
    (o = none → exec (.mntTimeout place) s = .next s) ∧
    (∀ (a : Act) (limit waited : Nat), o = some a → limit = s.get (MNT_LIMIT_LIMIT_MS (taskCode a.task)) →
      waited = (s.time - a.since).toNat →
      (limit = 0 ∨ waited ≤ limit * 1000000 → exec (.mntTimeout place) s = .next s) ∧
      (limit ≠ 0 → limit * 1000000 < waited →
        ∃ t, exec (.mntTimeout place) s = .next t ∧
          (t.rd MNT_TIMEOUTS).toNat = min 0xFFFFFFFF ((s.rd MNT_TIMEOUTS).toNat + 1) ∧
          (∀ r, a.ref = some r → taskCode a.task ≠ 8 →
            Ended s t r stTIMEOUT 0 ∧ (∀ x ∈ t.mnt.acts, x.place ≠ place.val)) ∧
          (a.ref = none → taskCode a.task ≠ 8 → taskCode a.task ≠ 6 → a.task ≠ .commit →
            ∃ x ∈ t.mnt.acts, x.task = a.task ∧ x.locks = a.locks ∧ x.requester = a.requester ∧ x.ref = none ∧
              x.since = s.time) ∧
          (taskCode a.task = 8 → t.img.pack = none ∧ (∀ x ∈ t.mnt.acts, x.place ≠ place.val) ∧
            ∀ k, s.img.pack = some k → Ended s t k.ref stTIMEOUT 0)))) ∧
  (∀ (s : State) (cause : Fin 4) (us : BitVec 32) (old : Nat), old = s.get MNT_STEWARD_ACTIVE → s.wf = true →
    (s.flag HIF_STATUS_CMD_READY = false ∨ (cause.val = 3 ∧ s.mnt.fwPhase ≠ 3) →
      exec (.stewardFailover cause us) s = .next s) ∧
    (s.flag HIF_STATUS_CMD_READY = true → cause.val ≠ 3 ∨ s.mnt.fwPhase = 3 →
      (s.get MNT_STEWARD_STANDBY = 2 →
        ∃ t, exec (.stewardFailover cause us) s = .next t ∧ t.get MNT_STEWARD_ACTIVE = 1 - old ∧
          t.get MNT_STEWARD_STANDBY = 0 ∧ t.flag HIF_STATUS_CMD_READY = true ∧
          (t.rd MNT_FAILOVERS).toNat = min 0xFFFFFFFF ((s.rd MNT_FAILOVERS).toNat + 1) ∧
          (t.coreAt (2 * old)).inReset = true ∧ (t.coreAt (2 * old + 1)).inReset = true ∧
          (∀ n, n < 96 → s.get (GPIO_OWNER_KIND n) = 4 + old → s.flag (GPIO_OWNER_SWITCHING n) = false →
            t.get (GPIO_OWNER_KIND n) = 4 + (1 - old)) ∧
          (∀ fw, s.mnt.fwPhase = 3 → s.mnt.fwStaged = some fw → t.mnt.fwPhase = 0 ∧ t.mnt.fwStaged = none ∧
            t.get MNT_STEWARD_FW_COPY = 1 - s.get MNT_STEWARD_FW_COPY ∧ t.rd MNT_FW_VER = fw.version)) ∧
      (s.get MNT_STEWARD_STANDBY ≠ 2 →
        ∃ t, exec (.stewardFailover cause us) s = .next t ∧ t.flag HIF_STATUS_CMD_READY = false ∧
          t.get MNT_STEWARD_ACTIVE = old ∧ (t.coreAt (2 * old)).inReset = true ∧ (t.coreAt (2 * old + 1)).inReset = true))) ∧
  (∀ (s : State) (ready : Bool), ready = (decide (s.get MNT_STEWARD_STANDBY = 1) && s.flag HIF_STATUS_CMD_READY &&
      !(s.coreAt (2 * (1 - s.get MNT_STEWARD_ACTIVE))).halted && !(s.coreAt (2 * (1 - s.get MNT_STEWARD_ACTIVE) + 1)).halted) →
    (ready = false → exec .standbyReady s = .next s) ∧
    (ready = true → ∃ t, exec .standbyReady s = .next t ∧ t.get MNT_STEWARD_STANDBY = 2 ∧
      t.mnt.fwPhase = (if s.mnt.fwPhase = 2 then 3 else s.mnt.fwPhase) ∧ Framed [.mnt] [MNT_STEWARD] s t)) ∧
  (∀ (s : State) (h : Hdr) (target : Byte) (addr : Word) (len : BitVec 32) (fw : Firmware) (st : Nat), Lets s h 0x81 →
    st = s.fwStatus target.toNat len.toNat fw →
    (1 < target.toNat ∨ addr.toNat % 64 ≠ 0 →
      ∃ t, exec (.fwUpdate h target addr len fw) s = .next t ∧ Done s t h 0x81 stBAD_ARG 0 ∧ Framed cmdParts bookKeys s t) ∧
    (target.toNat ≤ 1 → addr.toNat % 64 = 0 → s.stagingBusy 2 = true →
      ∃ t, exec (.fwUpdate h target addr len fw) s = .next t ∧ Done s t h 0x81 stBUSY 0 ∧ Framed cmdParts bookKeys s t) ∧
    (target.toNat ≤ 1 → addr.toNat % 64 = 0 → s.stagingBusy 2 = false →
      (st ≠ stOK → ∃ t, exec (.fwUpdate h target addr len fw) s = .next t ∧ Done s t h 0x81 st 0 ∧
        Framed (.img :: cmdParts) (CFG_STAGE :: CFG_STAGE_BYTES :: bookKeys) s t) ∧
      (st = stOK → freePlace s.mnt.acts (.fwUpdate target.toNat) = none →
        ∃ t, exec (.fwUpdate h target addr len fw) s = .next t ∧ Done s t h 0x81 stNO_SPACE 0 ∧
          Framed (.img :: cmdParts) (CFG_STAGE :: CFG_STAGE_BYTES :: bookKeys) s t) ∧
      (∀ p a, st = stOK → freePlace s.mnt.acts (.fwUpdate target.toNat) = some p →
        a = { place := p, task := .fwUpdate target.toNat, locks := s.fwLocks target.toNat, st := .waiting, requester := 3,
              ref := some (hdrRef h 0x81), since := s.time, resource := 0 } →
        ∃ t, exec (.fwUpdate h target addr len fw) s = .next t ∧ t.mnt.fwStaged = some fw ∧ Queued s t h 0x81 ∧
          t.mnt.acts = (if grantable (s.mnt.acts ++ [a]) a then grantIn (s.mnt.acts ++ [a]) a else s.mnt.acts ++ [a]) ∧
          Framed (.mnt :: .img :: cmdParts) (CFG_STAGE :: CFG_STAGE_BYTES :: bookKeys) s t))) ∧
  (∀ (s : State) (pass : Bool) (o : Option Act), o = s.mnt.acts.find? (fun a => decide (taskCode a.task = 10)) →
    (s.runningTask (fun x => decide (taskCode x = 10)) = none ∨ s.mnt.fwStaged = none ∨ s.mnt.fwPhase ≠ 0 →
      exec (.firmwareUpdateRun pass) s = .next s) ∧
    (∀ a fw r, o = some a → a.st = .running → a.ref = some r → s.mnt.fwStaged = some fw → s.mnt.fwPhase = 0 →
      (pass = false ∨ (fw.target.toNat = 0 ∧ s.get MNT_STEWARD_STANDBY ≠ 2) →
        ∃ t, exec (.firmwareUpdateRun pass) s = .next t ∧ t.mnt.fwStaged = none ∧ Ended s t r stHW_FAULT 0 ∧
          t.mnt.fwCopies = s.mnt.fwCopies ∧ (∀ x ∈ t.mnt.acts, x.place ≠ a.place)) ∧
      (pass = true → fw.target.toNat = 1 →
        ∃ t, exec (.firmwareUpdateRun pass) s = .next t ∧ t.get MNT_STEWARD_SVC_COPY = 1 - s.get MNT_STEWARD_SVC_COPY ∧
          t.rd MNT_SVC_VER = fw.version ∧ t.mnt.fwStaged = none ∧ Ended s t r stOK (fw.version.setWidth 64) ∧
          t.mnt.fwCopies = s.mnt.fwCopies.set (2 + (1 - s.get MNT_STEWARD_SVC_COPY)) (fw.version, fw.measure) ∧
          (∀ i, i < 4 → Tab.get none0 t.core.progs ((1 - s.get MNT_STEWARD_SVC_COPY) * 4 + i) = fw.progs[i]?)) ∧
      (pass = true → fw.target.toNat = 0 → s.get MNT_STEWARD_STANDBY = 2 →
        ∃ t, exec (.firmwareUpdateRun pass) s = .next t ∧ t.mnt.fwPhase = 2 ∧ t.mnt.fwAt = s.time ∧
          t.get MNT_STEWARD_STANDBY = 1 ∧
          t.mnt.fwCopies = s.mnt.fwCopies.set (1 - s.get MNT_STEWARD_FW_COPY) (fw.version, fw.measure) ∧
          t.mnt.acts = s.mnt.acts ∧ Framed [.mnt] [MNT_STEWARD] s t))) ∧
  (∀ s : State,
    (s.mnt.fwPhase ≠ 2 ∨ s.elapsed s.mnt.fwAt 200000000 = false → exec .fwStandbyTimeout s = .next s) ∧
    (s.mnt.fwPhase = 2 → s.elapsed s.mnt.fwAt 200000000 = true →
      ∃ t, exec .fwStandbyTimeout s = .next t ∧ t.mnt.fwPhase = 0 ∧ t.mnt.fwStaged = none ∧
        t.get MNT_STEWARD_STANDBY = (if s.get MNT_STEWARD_STANDBY = 2 then 1 else s.get MNT_STEWARD_STANDBY) ∧
        (∀ a, s.mnt.acts.find? (fun a => decide (taskCode a.task = 10)) = some a → (∀ x ∈ t.mnt.acts, x.place ≠ a.place) ∧
          ∀ r, a.ref = some r → Ended s t r stHW_FAULT 0) ∧
        Framed (.mnt :: .cmds :: .sessions :: .rings :: .out :: grantParts) (MNT_STEWARD :: grantKeys) s t))

/-- Slices (R479 to R487): BIST_RUN runs a slice on a unit out of use or releases it; a phase shed submits the rail's slice; a granted
slice empties its mat, overwrites its bank with values that the spec leaves open (log entry 6), holds its pair, and changes nothing
else of other units; its end compares the signature with the benchmark, keeps the outcome and ends its command, a failure marks the
unit SUSPECT and a mat that passed returns; POWER_DOWN puts every pin under charter, stops the pacers and starts a commit, or joins
the one that runs, then the traverse, and ends with the clean record and RDY low. -/
def Obligations.SlicesComplete : Prop :=
  (∀ (s : State) (h : Hdr) (op kind : Byte) (inst : BitVec 16) (k i : Nat), Lets s h 0x61 → k = kind.toNat → i = inst.toNat →
    (1 < op.toNat ∨ i ∉ sliceInsts k →
      ∃ t, exec (.bistRun h op kind inst) s = .next t ∧ Done s t h 0x61 stBAD_ARG 0 ∧ Framed cmdParts bookKeys s t) ∧
    (op = 0 → i ∈ sliceInsts k →
      (s.unitUsed k i = true →
        ∃ t, exec (.bistRun h op kind inst) s = .next t ∧ Done s t h 0x61 stREFUSED 0 ∧ Framed cmdParts bookKeys s t) ∧
      (s.unitUsed k i = false → freePlace s.mnt.acts (.slice k i false) = none →
        ∃ t, exec (.bistRun h op kind inst) s = .next t ∧ Done s t h 0x61 stNO_SPACE 0 ∧ Framed cmdParts bookKeys s t) ∧
      (∀ p a, s.unitUsed k i = false → freePlace s.mnt.acts (.slice k i false) = some p →
        a = { place := p, task := .slice k i false, locks := sliceLocks k i, st := .waiting, requester := 3,
              ref := some (hdrRef h 0x61), since := s.time, resource := i } →
        ∃ t, exec (.bistRun h op kind inst) s = .next t ∧ (t.cmdOf h.ring.val h.id 0x61).isSome = true ∧
          (grantable (s.mnt.acts ++ [a]) a = true → t.mnt.acts = grantIn (s.mnt.acts ++ [a]) a) ∧
          (grantable (s.mnt.acts ++ [a]) a = false → t.mnt.acts = s.mnt.acts ++ [a] ∧ Queued s t h 0x61) ∧
          Framed cmdParts bookKeys s t)) ∧
    (op = 1 → i ∈ sliceInsts k →
      ∃ t, exec (.bistRun h op kind inst) s = .next t ∧ Done s t h 0x61 stOK 0 ∧ t.unitSuspect k i = false ∧
        (k ≠ 0 → t.ev.seq = s.ev.seq + 1) ∧ (k = 2 → ∀ x, x = instSensor i → (t.sensor (sensorKey x.1 x.2)).suspect = false) ∧
        (k = 5 → t.matRetired i = false) ∧ (k = 6 → t.flag (bankSuspect i) = false) ∧
        (k = 1 ∨ k = 3 ∨ k = 4 → Framed (.bist :: cmdParts) bookKeys s t))) ∧
  (∀ (s : State) (rail : Fin 2) (i : Nat), i = (if rail.val = 0 then 0 else 3) →
    (s.dev.off = true → exec (.phaseShed rail) s = .next s) ∧
    (s.dev.off = false → s.hasTask (isSlice 3 i) = true →
      ∃ t, exec (.phaseShed rail) s = .next t ∧ t.unit 3 i = { s.unit 3 i with calKept := false } ∧ Framed [.bist] [] s t) ∧
    (∀ p a, s.dev.off = false → s.hasTask (isSlice 3 i) = false → freePlace s.mnt.acts (.slice 3 i false) = some p →
      a = { place := p, task := .slice 3 i false, locks := sliceLocks 3 i, st := .waiting, requester := 2, ref := none,
            since := s.time, resource := i } →
      ∃ t, exec (.phaseShed rail) s = .next t ∧ t.unit 3 i = { s.unit 3 i with calKept := false } ∧
        t.mnt.acts = (if grantable (s.mnt.acts ++ [a]) a then grantIn (s.mnt.acts ++ [a]) a else s.mnt.acts ++ [a]) ∧
        Framed [.acts, .bist] [MNT_PREEMPTS, MNT_QUEUEDS, MNT_SAT] s t)) ∧
  (∀ (s : State) (kind : Fin 8) (inst : BitVec 12) (i : Nat), i = inst.toNat →
    (s.runningTask (isSlice kind.val i) = none ∨ kind.val < 5 ∨ (kind.val = 7 ∧ s.get MNT_STEWARD_ACTIVE = i) →
      exec (.slice kind inst) s = .next s) ∧
    ((s.runningTask (isSlice kind.val i)).isSome = true →
      (kind.val = 5 → ∃ t, exec (.slice kind inst) s = .next t ∧
        (∀ k, k < 4 → t.slot i k = slot0 0 ∧ t.slotState i k = slEMPTY) ∧
        (∀ m k, m ≠ i → k < 4 → t.slot m k = s.slot m k)) ∧
      (kind.val = 6 → ∃ t, exec (.slice kind inst) s = .next t ∧
        (∀ w, w < 8192 → t.word i w = { data := Config.freeWord (s.free + w), syn := 0, poison := false }) ∧
        (∀ b w, w < 8192 → b ≠ i → t.word b w = s.word b w) ∧ t.free = s.free + 8192 ∧
        Framed [.words, .free] [] s t) ∧
      (kind.val = 7 → s.get MNT_STEWARD_ACTIVE ≠ i → ∃ t, exec (.slice kind inst) s = .next t ∧
        t.get MNT_STEWARD_STANDBY = 0 ∧ (t.coreAt (2 * i)).inReset = true ∧ (t.coreAt (2 * i + 1)).inReset = true))) ∧
  (∀ (s : State) (kind : Fin 8) (inst : BitVec 12) (sig : Word) (us : BitVec 16) (overrun : Bool) (k i : Nat),
    k = kind.val → i = inst.toNat →
    (s.runningTask (isSlice k i) = none → exec (.sliceDone kind inst sig us overrun) s = .next s) ∧
    (∀ (a : Act) (o : Nat) (bad : Bool), s.runningTask (isSlice k i) = some a →
      o = (if overrun = true ∨ sliceBudget k < us.toNat then 2 else if (s.unit k i).bench = none then 4
        else if (s.unit k i).bench = some sig then 0 else 1) → bad = decide (o = 1 ∨ o = 2) →
      ∃ t, exec (.sliceDone kind inst sig us overrun) s = .next t ∧ (t.unit k i).outcome = o ∧
        (t.unit k i).calKept = decide (o = 0) ∧ (t.unit k i).duration = us.toNat ∧ (t.unit k i).sig = sig ∧
        (t.unit k i).suspect = (if bad then true else if o = 0 then false else (s.unit k i).suspect) ∧
        (∀ r, a.ref = some r → Ended s t r stOK (BitVec.ofNat 64 o)) ∧
        (bad = true → k < 6 → (t.rd BIST_FAILS).toNat = min 0xFFFFFFFF ((s.rd BIST_FAILS).toNat + 1)) ∧
        (k = 5 → (∀ n, n < 4 → t.slot i n = slot0 0) ∧ (o = 0 → t.matRetired i = false)) ∧
        (k = 7 → s.wf = true → s.get MNT_STEWARD_ACTIVE ≠ i → bad = true → t.get MNT_STEWARD_STANDBY = 3) ∧
        (isTraverse a.task = true → t.bist.ran = s.bist.ran + 1 ∧ t.bist.bad = s.bist.bad + b2n bad) ∧
        (isTraverse a.task = false → (∀ x ∈ t.mnt.acts, x.place ≠ a.place) ∧
          (k = 1 ∨ k = 3 ∨ k = 4 → Framed (.bist :: .cmds :: .sessions :: .img :: .thm :: evParts)
            (BIST_FAILS :: BIST_SAT :: (grantKeys ++ bookKeys)) s t)))) ∧
  (∀ (s : State) (h : Hdr), Lets s h 0x80 →
    ∃ t, exec (.powerDown h) s = .next t ∧ t.bist.down = 1 ∧ t.bist.downRef = some (hdrRef h 0x80) ∧
      (∀ v ∈ allPins, (t.pinCause v).getLsbD 5 = true) ∧
      (∀ p, p < 64 → t.paceState p = 0) ∧ (∀ p, p < 512 → t.heldNull p = true) ∧
      (∀ g, g < 64 → (t.group g).sched = none ∧ (t.group g).pending = none) ∧
      (s.fb.run = none → ∃ n pg, t.fb.run = some (n, pg) ∧ pg.cause = 4 ∧ t.flag FBK_STATUS_COMMITTING = true) ∧
      (∀ n pg, s.fb.run = some (n, pg) → pg.extras.length < 8 →
        ∃ q, t.fb.run = some (n, { pg with extras := pg.extras ++ [(4, q)] }))) ∧
  (∀ s : State, (s.bist.down ≠ 1 ∨ s.fb.run.isSome = true → exec .traverse s = .next s) ∧
    (s.bist.down = 1 → s.fb.run = none →
      ∃ t, exec .traverse s = .next t ∧ t.bist.down = 3 ∧ t.flag BIST_STATUS_TRAVERSE = true ∧ t.bist.left <:+ s.traverseUnits ∧
        Framed [.bist, .acts, .mnt] [BIST_STATUS, MNT_PREEMPTS, MNT_QUEUEDS, MNT_SAT] s t)) ∧
  (∀ (s : State) (us : BitVec 32),
    (s.bist.down ≠ 3 ∨ s.bist.left ≠ [] ∨ s.traverseOut ≠ [] → exec (.traverseDone us) s = .next s) ∧
    (s.bist.down = 3 → s.bist.left = [] → s.traverseOut = [] →
      ∃ t, exec (.traverseDone us) s = .next t ∧ t.bist.down = 4 ∧ t.bist.clean = true ∧ t.flag DEV_STATUS_RDY = false ∧
        t.flag BIST_STATUS_DOWN = true ∧ t.flag BIST_STATUS_TRAVERSE = false ∧
        (∀ r, s.bist.downRef = some r → Ended s t r stOK (BitVec.ofNat 64 (s.bist.ran + s.bist.bad * 65536))) ∧
        Framed (.bist :: cmdParts) (BIST_STATUS :: DEV_STATUS :: bookKeys) s t))

/-- The field book (R488 to R496): a granted commit erases its page; one that ends makes the page valid with its commit number, counts,
shows wear, and ends the FIELDBOOK_MARK that started it; FIELDBOOK_MARK records its event and starts a commit, or is BUSY while one
runs; FIELDBOOK_READ writes the ring or a valid page to host memory with its length as result, and ends with a status where its
source, its address or its length does not allow it; a read of FBK_RD_DATA7 answers word 7 and advances INDEX. -/
def Obligations.FieldBookComplete : Prop :=
  (∀ s : State, s.runningTask (fun x => decide (x = .commit)) = none ∨ s.fb.run = none →
    exec .fieldBookCommit s = .next s ∧ exec .fbCommitted s = .next s) ∧
  (∀ (s : State) (a : Act) (n : Nat) (pg : Page), s.runningTask (fun x => decide (x = .commit)) = some a →
    s.fb.run = some (n, pg) → n < 8 →
    (∃ t, exec .fieldBookCommit s = .next t ∧ Tab.get none0 t.fb.pages n = none ∧ t.rd (FBK_PAGE n) = 0 ∧
      t.bit FBK_STATUS (8 + n) = false ∧ (∀ m, m ≠ n → Tab.get none0 t.fb.pages m = Tab.get none0 s.fb.pages m) ∧
      Framed [.fb] [FBK_STATUS, FBK_PAGE n] s t) ∧
    (∃ t, exec .fbCommitted s = .next t ∧ Tab.get none0 t.fb.pages n = some pg ∧ t.fb.run = none ∧ t.fb.markRef = none ∧
      (∀ m, m ≠ n → Tab.get none0 t.fb.pages m = Tab.get none0 s.fb.pages m) ∧
      t.flag FBK_STATUS_COMMITTING = false ∧ t.bit FBK_STATUS (8 + n) = true ∧ t.get FBK_STATUS_LAST_PAGE = n ∧
      t.rd (FBK_PAGE n) = pg.commit ∧ t.rd FBK_COMMITS = s.rd FBK_COMMITS + 1 ∧
      (100000 ≤ (s.rd FBK_COMMITS + 1).toNat → t.flag FBK_STATUS_WORN = true) ∧
      t.ev.seq = s.ev.seq + (if 90000 ≤ (s.rd FBK_COMMITS + 1).toNat ∧ s.fb.wearRaised = false then 2 else 1) ∧
      (pg.cause = 1 → t.pow.railCommitEnd = some s.time) ∧ (∀ x ∈ t.mnt.acts, x.place ≠ a.place) ∧
      (∀ r, s.fb.markRef = some r → Ended s t r stOK (pg.commit.setWidth 64)) ∧
      Framed (.fb :: .pow :: .cmds :: .sessions :: .img :: .thm :: evParts)
        (FBK_PAGE n :: FBK_COMMITS :: (grantKeys ++ bookKeys)) s t)) ∧
  (∀ (s : State) (h : Hdr) (mark : BitVec 16) (data : BitVec 96), Lets s h 0x71 →
    (s.fb.run.isSome = true →
      ∃ t, exec (.fieldbookMark h mark data) s = .next t ∧ Done s t h 0x71 stBUSY 0 ∧ Framed cmdParts bookKeys s t) ∧
    (s.fb.run = none →
      ∃ t n pg, exec (.fieldbookMark h mark data) s = .next t ∧ t.fb.run = some (n, pg) ∧ pg.cause = 3 ∧ pg.seq = s.ev.seq ∧
        pg.commit = s.rd FBK_COMMITS + 1 ∧ t.fb.markRef = some (hdrRef h 0x71) ∧ t.ev.seq = s.ev.seq + 1 ∧
        t.flag FBK_STATUS_COMMITTING = true ∧ (t.cmdOf h.ring.val h.id 0x71).isSome = true ∧
        Framed (.fb :: .cmds :: .sessions :: evParts) bookKeys s t)) ∧
  (∀ (s : State) (h : Hdr) (source : Byte) (addr : Word) (len : BitVec 32) (o : Option (List Byte)), Lets s h 0x70 →
    o = (if source = 0 then some (entryBytes s.fb.ring) else (Tab.get none0 s.fb.pages (source.toNat - 1)).map pageBytes) →
    (8 < source.toNat ∨ addr.toNat % 64 ≠ 0 →
      ∃ t, exec (.fieldbookRead h source addr len) s = .next t ∧ Done s t h 0x70 stBAD_ARG 0 ∧ Framed cmdParts bookKeys s t) ∧
    (source.toNat ≤ 8 → addr.toNat % 64 = 0 →
      (o = none →
        ∃ t, exec (.fieldbookRead h source addr len) s = .next t ∧ Done s t h 0x70 stREFUSED 0 ∧ Framed cmdParts bookKeys s t) ∧
      (∀ b, o = some b → len.toNat < b.length →
        ∃ t, exec (.fieldbookRead h source addr len) s = .next t ∧ Done s t h 0x70 stNO_SPACE 0 ∧
          Framed cmdParts bookKeys s t) ∧
      (∀ b, o = some b → b.length ≤ len.toNat →
        ∃ t, exec (.fieldbookRead h source addr len) s = .next t ∧ Done s t h 0x70 stOK (BitVec.ofNat 64 b.length) ∧
          .hostWrite addr b ∈ t.out.drop s.out.length ∧ Framed cmdParts bookKeys s t))) ∧
  (∀ (s : State) (req : Requester), Performs s req (FBK_RD_DATA 7) false →
    ∃ t, exec (.fbkRdData7Read req) s = .next t ∧ t.out = s.out ++ [.answer req ((s.fbkWord 7).setWidth 64)] ∧
      t.get FBK_RD_SEL_INDEX = (s.get FBK_RD_SEL_INDEX + 1) % 4096 ∧
      t.get FBK_RD_SEL_SOURCE = s.get FBK_RD_SEL_SOURCE ∧ Framed [.cores, .out] [FBK_RD_SEL] s t)

/-- Control cores (R498 to R512): the watchdog of a service core that expires, and an uncorrectable error in its TCM, hold it in core
reset with their event; those of a steward core of the active pair are a failover (R464), whose duration is a free value; a program
whose copy passes starts at its entry with its SRAM share cleared; kwdkick restarts the watchdog, kack clears the core's latch,
kdoorbell asserts its target's source; PBUS_LOCK is taken by one core, for which another waits, and leaves it by release or, with
BROKEN, by expiry, and a deferred halt then takes effect; an access that waits too long ends as a bus error. -/
def Obligations.CoresComplete : Prop :=
  (∀ (s : State) (core : CoreId) (n : Nat) (c : Core) (due : Bool), n = core.val → c = s.coreAt n →
    due = (!c.inReset && c.wdRun && !c.wdFrozen && (decide (n < 4) || s.elapsed c.wdAt (s.wdPeriod n))) →
    (due = false → exec (.coreWatchdog core) s = .next s) ∧
    (due = true → 4 ≤ n → s.wf = true →
      ∃ t, exec (.coreWatchdog core) s = .next t ∧ (t.coreAt n).inReset = true ∧ (t.coreAt n).resetBy = some 1 ∧
        (t.coreAt n).resetAt = s.time ∧ (t.coreAt n).program = c.program ∧ t.ev.seq = s.ev.seq + 1 ∧
        (∀ m, m ≠ n → t.coreAt m = s.coreAt m) ∧
        Framed (.cores :: .core :: .host :: evParts)
          (DBG_CORE_STATUS n :: ((upto 64).map (0x3200 + 0x40 * n + ·) ++ bookKeys)) s t) ∧
    (due = true → n < 4 → n / 2 ≠ s.get MNT_STEWARD_ACTIVE →
      ∃ t, exec (.coreWatchdog core) s = .next t ∧ t.ev.seq = s.ev.seq + 1 ∧ Framed evParts bookKeys s t) ∧
    (due = true → n < 4 → n / 2 = s.get MNT_STEWARD_ACTIVE →
      ∃ t u us, exec (.coreWatchdog core) s = .next t ∧ exec (.stewardFailover 1 us) u = .next t ∧ u.ev.seq = s.ev.seq + 1 ∧
        Framed (.free :: evParts) bookKeys s u)) ∧
  (∀ (s : State) (core : CoreId) (sram : Bool) (n : Nat), n = core.val →
    (s.coreRuns n = false ∨ (sram = false ∧ n < 4 ∧ n / 2 ≠ s.get MNT_STEWARD_ACTIVE) →
      exec (.coreFault core sram) s = .next s) ∧
    (s.coreRuns n = true → sram = true →
      ∃ t, exec (.coreFault core sram) s = .next t ∧ .busError (coreRequester n) ∈ t.out.drop s.out.length ∧
        t.ev.seq = s.ev.seq + 1 ∧ Framed evParts bookKeys s t) ∧
    (s.coreRuns n = true → sram = false → n < 4 → n / 2 = s.get MNT_STEWARD_ACTIVE →
      ∃ t u us, exec (.coreFault core sram) s = .next t ∧ exec (.stewardFailover 2 us) u = .next t ∧ Framed [.free] [] s u) ∧
    (s.coreRuns n = true → sram = false → 4 ≤ n →
      ∃ t, exec (.coreFault core sram) s = .next t ∧ (t.coreAt n).inReset = true ∧ (t.coreAt n).program = false ∧
        (t.coreAt n).measure = 0 ∧ (∀ m, m ≠ n → t.coreAt m = s.coreAt m) ∧ t.ev.seq = s.ev.seq + 1)) ∧
  (∀ (s : State) (core : Fin 4) (code : List Byte) (pass : Bool) (n : Nat), n = core.val + 4 →
    (s.progOf n = none ∨ (s.coreAt n).loadDue = false ∨ (s.coreAt n).inReset = false ∨ s.coreClocked n = false →
      exec (.programLoad core code pass) s = .next s) ∧
    (∀ p, s.progOf n = some p → (s.coreAt n).loadDue = true → (s.coreAt n).inReset = true → s.coreClocked n = true →
      (pass = true → (s.coreAt n).haltReq = none →
        ∃ t, exec (.programLoad core code pass) s = .next t ∧ (t.coreAt n).inReset = false ∧ (t.coreAt n).halted = (s.coreAt n).halted ∧
          (t.coreAt n).pc = p.entry ∧ (t.coreAt n).program = true ∧ (t.coreAt n).loadDue = false ∧
          (t.coreAt n).measure = p.sha ∧ (t.coreAt n).wdRun = true ∧ (t.coreAt n).wdAt = s.time ∧
          (∀ i b, (code.take (min p.length 262144))[i]? = some b → Tab.get byte0 t.core.tcm (n * 262144 + i) = b) ∧
          (∀ i, i < 262144 → (code.take (min p.length 262144)).length ≤ i → Tab.get byte0 t.core.tcm (n * 262144 + i) = 0) ∧
          (∀ a, a / 262144 ≠ n → Tab.get byte0 t.core.tcm a = Tab.get byte0 s.core.tcm a) ∧
          (∀ a, Tab.get byte0 t.core.sram a =
            if (s.shareOf n).1 ≤ a ∧ a < (s.shareOf n).1 + (s.shareOf n).2 then 0 else Tab.get byte0 s.core.sram a) ∧
          (∀ m, m ≠ n → t.coreAt m = s.coreAt m) ∧ Framed [.cores, .csr, .tcm, .core] [] s t) ∧
      (∀ c, pass = true → (s.coreAt n).haltReq = some c →
        ∃ t, exec (.programLoad core code pass) s = .next t ∧ (t.coreAt n).inReset = false ∧ (t.coreAt n).halted = true ∧
          (t.coreAt n).pc = p.entry ∧ (t.coreAt n).program = true ∧ (t.coreAt n).measure = p.sha ∧ t.ev.seq = s.ev.seq + 1 ∧
          (∀ m, m ≠ n → t.coreAt m = s.coreAt m)) ∧
      (pass = false →
        ∃ t, exec (.programLoad core code pass) s = .next t ∧ (t.coreAt n).inReset = true ∧ (t.coreAt n).program = false ∧
          (t.coreAt n).measure = 0 ∧ (t.coreAt n).loadDue = false ∧ (∀ m, m ≠ n → t.coreAt m = s.coreAt m) ∧
          t.ev.seq = s.ev.seq + 1))) ∧
  (∀ (s : State) (core : CoreId) (v : Word) (n src : Nat), n = core.val →
    (s.coreRuns n = false → exec (.kwdkickWrite core) s = .next s ∧ exec (.kackWrite core v) s = .next s ∧
      exec (.kdoorbellWrite core v) s = .next s ∧ exec (.pbusLockTake core) s = .next s) ∧
    (n < 4 → exec (.kwdkickWrite core) s = .next s) ∧
    (s.coreRuns n = true → 4 ≤ n →
      ∃ t, exec (.kwdkickWrite core) s = .next t ∧ t.coreAt n = { s.coreAt n with wdAt := s.time } ∧
        (∀ m, m ≠ n → t.coreAt m = s.coreAt m) ∧ Framed [.cores] [] s t) ∧
    (src = bitsAt v.toNat 0 10 → 32 ≤ src ∧ src < 48 → exec (.kackWrite core v) s = .next s) ∧
    (s.coreRuns n = true → src = bitsAt v.toNat 0 10 → ¬ (32 ≤ src ∧ src < 48) →
      ∃ t, exec (.kackWrite core v) s = .next t ∧ (Tab.get latch0 t.ev.latch src).getLsbD (coreTarget n) = false ∧
        (∀ i, i ≠ coreTarget n → (Tab.get latch0 t.ev.latch src).getLsbD i = (Tab.get latch0 s.ev.latch src).getLsbD i) ∧
        (∀ x, x ≠ src → Tab.get latch0 t.ev.latch x = Tab.get latch0 s.ev.latch x) ∧ Framed [.ev] [] s t) ∧
    (6 ≤ bitsAt v.toNat 0 3 → exec (.kdoorbellWrite core v) s = .next s) ∧
    (s.coreRuns n = true → bitsAt v.toNat 0 3 < 6 → src = 48 + bitsAt v.toNat 0 3 →
      ∃ t, exec (.kdoorbellWrite core v) s = .next t ∧
        Tab.get latch0 t.ev.latch src = Tab.get latch0 s.ev.latch src ||| BitVec.ofNat 6 (s.get (EVR_ROUTE_CORES src)) ∧
        (∀ x, x ≠ src → Tab.get latch0 t.ev.latch x = Tab.get latch0 s.ev.latch x) ∧ Framed [.ev, .out] [] s t)) ∧
  (∀ (s : State) (core : CoreId) (l : Nat), l = leader core.val → s.coreRuns core.val = true →
    (s.core.lock = none → ∃ t, exec (.pbusLockTake core) s = .next t ∧ t.core.lock = some l ∧ t.core.lockAt = s.time ∧
      (∀ m ∈ members l, (t.csr m 0x7C8).getLsbD 0 = true) ∧ Framed [.cores, .csr, .core] [] s t) ∧
    (s.core.lock = some l → exec (.pbusLockTake core) s = .next s) ∧
    (∀ c, s.core.lock = some c → c ≠ l →
      ∃ t, exec (.pbusLockTake core) s = .next t ∧ t.core.lock = some c ∧ (t.coreAt l).wait = some .lock ∧
        Framed [.cores] [] s t)) ∧
  (∀ (s : State) (core : CoreId) (reserved : Bool) (regs : CoreRegs) (l : Nat), l = leader core.val →
    ((reserved = true ∨ ∀ m ∈ members l, (s.coreAt m).deferred = false) →
      ∃ t, exec (.pbusLockRelease core reserved regs) s = .next t ∧
        t.core.lock = (if s.core.lock = some l then none else s.core.lock) ∧
        (∀ m ∈ members l, t.coreAt m = { s.coreAt m with resv := reserved } ∧
          (s.core.lock = some l → (t.csr m 0x7C8).getLsbD 0 = false)) ∧
        (∀ m, m ∉ members l → t.coreAt m = s.coreAt m) ∧
        Framed (if s.core.lock = some l then [.cores, .csr, .core] else [.cores]) [] s t) ∧
    (reserved = false → 4 ≤ l → (s.coreAt l).deferred = true →
      ∃ t, exec (.pbusLockRelease core reserved regs) s = .next t ∧ t.core.lock ≠ some l ∧ (t.coreAt l).halted = true ∧
        (t.coreAt l).deferred = false ∧ (t.coreAt l).pc = regs.pc ∧ t.ev.seq = s.ev.seq + 1 ∧
        (∀ m, m ≠ l → t.coreAt m = s.coreAt m) ∧
        Framed (.cores :: .core :: evParts) (DBG_CORE_STATUS l :: bookKeys) s t)) ∧
  (∀ s : State,
    (s.core.lock = none ∨ s.elapsed s.core.lockAt (s.coreCycles 4096) = false → exec .pbusLockExpiry s = .next s) ∧
    (∀ l, s.core.lock = some l → s.elapsed s.core.lockAt (s.coreCycles 4096) = true →
      ∃ t, exec .pbusLockExpiry s = .next t ∧ t.core.lock = none ∧
        (∀ m ∈ members l, (t.csr m 0x7C8).getLsbD 0 = false ∧ (t.csr m 0x7C8).getLsbD 1 = true) ∧
        ((∀ m ∈ members l, (s.coreAt m).deferred = false ∨ (s.coreAt m).resv = true) → Framed [.csr, .core] [] s t) ∧
        (4 ≤ l → (s.coreAt l).deferred = true → (s.coreAt l).resv = false → (t.coreAt l).halted = true ∧
          (t.coreAt l).deferred = false ∧ ∀ m, m ≠ l → t.coreAt m = s.coreAt m))) ∧
  (∀ (s : State) (core : CoreId) (l : Nat) (due : Bool), l = leader core.val →
    due = ((s.coreAt l).wait.isSome && s.elapsed (s.coreAt l).waitAt (s.busLimit l)) →
    (due = false → exec (.busTimeout core) s = .next s) ∧
    (due = true → ∃ t, exec (.busTimeout core) s = .next t ∧ (t.coreAt l).wait = none ∧
      t.out = s.out ++ [.busError (coreRequester l)] ∧ (∀ m, m ≠ l → t.coreAt m = s.coreAt m) ∧ Framed [.cores, .out] [] s t))

/-- The test access port (R513, R514): IDCODE shifts out 0x1512_0C7B, BYPASS and SAMPLE/PRELOAD select their registers, EXTEST, CLAMP
and HIGHZ do so where they are available and act as BYPASS elsewhere; TRST_N resets the controller; a DBG_REG read captures the
register that it names, a write writes it, or does what DBG_AUTH, DBG_ACCESS or DBG_REG_DATA do; an access beyond the level's reach,
or with a reserved bit, is refused. -/
def Obligations.TapComplete : Prop :=
  (∀ s : State, s.dev.off = true → ∀ i ∈ [Instr.extest, .clamp, .highz, .bypass, .idcode, .samplePreload, .tapReset],
    exec i s = .next s) ∧
  (∀ s : State, s.dev.off = false →
    (∃ t, exec .extest s = .next t ∧ t.dbg.ir = (if s.pinTests then 0x00#6 else 0x3F#6) ∧ Framed [.dbg] [] s t) ∧
    (∃ t, exec .clamp s = .next t ∧ t.dbg.ir = (if s.pinTests then 0x03#6 else 0x3F#6) ∧ Framed [.dbg] [] s t) ∧
    (∃ t, exec .highz s = .next t ∧ t.dbg.ir = (if s.pinTests then 0x04#6 else 0x3F#6) ∧ Framed [.dbg] [] s t) ∧
    (∃ t, exec .bypass s = .next t ∧ t.dbg.ir = 0x3F#6 ∧ Framed [.dbg] [] s t) ∧
    (∃ t, exec .idcode s = .next t ∧ t.dbg.ir = 0x01#6 ∧ t.out = s.out ++ [.tdo 0x15120C7B] ∧ Framed [.dbg, .out] [] s t) ∧
    (∃ t v, exec .samplePreload s = .next t ∧ t.dbg.ir = 0x02#6 ∧ t.out = s.out ++ [.tdo v] ∧
      Framed [.dbg, .out, .free] [] s t) ∧
    (∃ t, exec .tapReset s = .next t ∧ t.dbg.ir = 0x01#6 ∧ t.dbgLevel = s.dbgLevel ∧ Framed [.dbg] [] s t)) ∧
  (∀ (s u : State) (q : BitVec 48) (k : Nat) (v : Reg), k = 0x3000 + 4 * bitsAt q.toNat 32 10 → v = q.setWidth 32 →
    u = { s with dbg := { s.dbg with ir := 0x10#6 }, out := s.out ++ [.tdo s.dbg.capture.toNat] } →
    (s.dev.off = true → exec (.dbgReg q) s = .next s) ∧
    (s.dev.off = false → bitsAt q.toNat 43 5 ≠ 0 ∨ s.dbgReaches k = false →
      ∃ t, exec (.dbgReg q) s = .next t ∧ t.dbg.ir = 0x10#6 ∧ TapRefused s t) ∧
    (s.dev.off = false → bitsAt q.toNat 43 5 = 0 → s.dbgReaches k = true → q.getLsbD 42 = false →
      ∃ t, exec (.dbgReg q) s = .next t ∧ t.dbg.ir = 0x10#6 ∧ t.dbg.lastAt = s.time ∧
        t.dbg.capture = (if (k = DBG_REG_DATA_LO ∨ k = DBG_REG_DATA_HI) ∧ s.selHalted = false then BitVec.ofNat 48 (2 ^ 43)
          else (s.view k).setWidth 48) ∧ t.out = s.out ++ [.tdo s.dbg.capture.toNat] ∧ Framed [.dbg, .out] [] s t) ∧
    (s.dev.off = false → bitsAt q.toNat 43 5 = 0 → s.dbgReaches k = true → q.getLsbD 42 = true →
      (k = DBG_AUTH → (fldGet v 0 3 = 1 → exec (.dbgReg q) s = exec (.dbgAuthChallenge v) u) ∧
        (fldGet v 0 3 = 2 → exec (.dbgReg q) s = exec (.dbgAuthPassword v) u) ∧
        (fldGet v 0 3 = 4 → exec (.dbgReg q) s = exec (.dbgAuthClose v) u) ∧
        (fldGet v 0 3 = 5 → exec (.dbgReg q) s = exec (.dbgAuthNoCredential v) u)) ∧
      (k = DBG_ACCESS → (fldGet v 6 2 = 1 → exec (.dbgReg q) s = exec (.dbgAccessRead v .clean) u) ∧
        (fldGet v 6 2 = 2 → exec (.dbgReg q) s = exec (.dbgAccessWrite v) u)) ∧
      (k = DBG_REG_DATA_HI → exec (.dbgReg q) s = exec (.dbgRegDataWrite v) u) ∧
      ((k = DBG_REG_DATA_LO ∧ s.selHalted = true) ∨ k ∈ (upto 512).map DBG_AUTH_DATA →
        ∃ t, exec (.dbgReg q) s = .next t ∧ t.rd k = v ∧ t.dbg.capture = 0 ∧ Framed [.dbg, .out] [k] s t) ∧
      (k = DBG_REG_DATA_LO → s.selHalted = false →
        ∃ t, exec (.dbgReg q) s = .next t ∧ t.dbg.capture = BitVec.ofNat 48 (2 ^ 43) ∧ Framed [.dbg, .out] [] s t) ∧
      (∀ n, n < 8 → k = DBG_CORE_CTL n →
        (v.toNat % 8 = 0 → ∃ t, exec (.dbgReg q) s = .next t ∧ t.rd k = regAfter k (s.rd k) v ∧ Framed [.dbg, .out] [k] s t) ∧
        (v.toNat % 8 = 1 → ∃ t reserved regs, exec (.dbgReg q) s = .next t ∧ HaltAsked s t n 0 reserved regs) ∧
        (v.toNat % 8 = 2 → ∃ t, exec (.dbgReg q) s = .next t ∧ (t.coreAt n).halted = false) ∧
        (v.toNat % 8 = 4 → ∃ t, exec (.dbgReg q) s = .next t ∧ (t.coreAt n).halted = (s.coreAt n).halted)) ∧
      (∀ n c, n < 8 → c < 8 → k = DBG_CMP_CTL n c →
        (s.comparatorOk n c v = true →
          ∃ t, exec (.dbgReg q) s = .next t ∧ t.rd k = regAfter k (s.rd k) v ∧ Framed [.dbg, .out] [k] s t) ∧
        (s.comparatorOk n c v = false → ∃ t, exec (.dbgReg q) s = .next t ∧ t.flag (DBG_CORE_STATUS_REFUSED n) = true ∧
          t.dbg.capture = BitVec.ofNat 48 (2 ^ 43) ∧ Framed [.dbg, .out] [DBG_CORE_STATUS n] s t)) ∧
      (k ∈ [DBG_CTL, DBG_ADDR, DBG_DATA_LO, DBG_DATA_HI, DBG_REG_SEL] →
        ∃ t, exec (.dbgReg q) s = .next t ∧ t.rd k = regAfter k (s.rd k) v ∧ t.dbg.capture = 0 ∧
          Framed [.dbg, .out] [k] s t)))

/-- Debug levels (R515 to R518): a challenge is drawn of values that the spec leaves open (log entry 6); a password or a key response
that passes opens its level with its event and clears DBG_AUTH_DATA, as does a request that needs no credential; level 2 in DEPLOYED
waits for the erasure of the user secrets; a request that does not pass, or comes while another runs, shows its status and opens
nothing; OP 4 and the idle time close the level; the end of an erasure that an opening waited for opens level 2. -/
def Obligations.DebugLevelsComplete : Prop :=
  (∀ (s : State) (v : Reg) (r : KeyResp),
    (s.dev.off = true ∨ fldGet v 0 3 ≠ 1 → exec (.dbgAuthChallenge v) s = .next s) ∧
    (s.dev.off = true ∨ fldGet v 0 3 ≠ 2 → exec (.dbgAuthPassword v) s = .next s) ∧
    (s.dev.off = true ∨ fldGet v 0 3 ≠ 3 → exec (.dbgAuthKey v r) s = .next s) ∧
    (s.dev.off = true ∨ fldGet v 0 3 ≠ 4 → exec (.dbgAuthClose v) s = .next s) ∧
    (s.dev.off = true ∨ fldGet v 0 3 ≠ 5 → exec (.dbgAuthNoCredential v) s = .next s)) ∧
  (∀ (s : State) (v : Reg) (r : KeyResp) (i : Instr), s.dev.off = false → s.wf = true → s.authBusy = true →
    (i = .dbgAuthChallenge v ∧ fldGet v 0 3 = 1) ∨ (i = .dbgAuthPassword v ∧ fldGet v 0 3 = 2) ∨
      (i = .dbgAuthKey v r ∧ fldGet v 0 3 = 3) ∨ (i = .dbgAuthClose v ∧ fldGet v 0 3 = 4) ∨
      (i = .dbgAuthNoCredential v ∧ fldGet v 0 3 = 5) →
    ∃ t, exec i s = .next t ∧ t.get DBG_AUTH_STATUS_STATUS = stBUSY ∧
      Framed [.dbg] (DBG_AUTH_STATUS :: (upto 2048).map (0x3800 + ·)) s t) ∧
  (∀ (s : State) (v : Reg), s.dev.off = false → s.wf = true → s.authBusy = false → fldGet v 0 3 = 1 →
    ∃ t, exec (.dbgAuthChallenge v) s = .next t ∧ t.dbg.challengeAt = some s.time ∧
      t.get DBG_AUTH_STATUS_STATUS = stOK ∧ t.free = s.free + 8 ∧
      Framed [.dbg, .free] (DBG_AUTH_STATUS :: ((upto 16).map DBG_CHALLENGE ++ (upto 2048).map (0x3800 + ·))) s t) ∧
  (∀ (s : State) (v : Reg) (r : KeyResp) (i : Instr) (op level method st : Nat), s.dev.off = false → s.wf = true →
    s.authBusy = false → op = fldGet v 0 3 → level = fldGet v 3 2 →
    (op = 2 ∧ i = .dbgAuthPassword v ∧ method = 0 ∧
        st = (if s.levelAllowed level = false ∨ s.lockedNow = true ∨ fldGet v 5 6 < 8 ∨ 48 < fldGet v 5 6 then stREFUSED
          else (s.tryPassword (levelClass level) (s.authBytes (fldGet v 5 6))).2)) ∨
      (op = 3 ∧ i = .dbgAuthKey v r ∧ method = (if r.flags = 2#8 then 2 else 1) ∧
        st = (if s.levelAllowed level = false ∨ (r.flags = 2#8 ∧ level ≠ 2) ∨ s.dbg.challengeAt = none then stREFUSED
          else if s.dbg.challengeAt.any (fun a => decide (10000000000 < (s.time - a).toNat)) then stTIMEOUT
          else if (if r.flags = 2#8 then s.vendorOk r else s.keyOk r (levelClass level)) then stOK else stAUTH)) ∨
      (op = 5 ∧ i = .dbgAuthNoCredential v ∧ method = 3 ∧
        st = (if s.levelAllowed level = true ∧ (s.get SEC_LIFE_STATE = 0 ∨ (s.get SEC_LIFE_STATE = 4 ∧ level = 1)) then stOK
          else stREFUSED)) →
    (st = stOK → ¬ (level = 2 ∧ s.get SEC_LIFE_STATE = 2) →
      ∃ t, exec i s = .next t ∧ t.dbgLevel = level ∧ t.flag DBG_STATUS_VENDOR = decide (method = 2) ∧
        t.get DBG_AUTH_STATUS_STATUS = stOK ∧ t.ev.seq = s.ev.seq + 1 ∧
        (∀ k, k < 2048 → t.rd (0x3800 + k) = regReset (0x3800 + k)) ∧
        Framed (.dbg :: .sec :: evParts) (DBG_STATUS :: DBG_AUTH_STATUS :: SEC_LOCK :: ((upto 8).map DBG_CORE_CTL ++
          (upto 2048).map (0x3800 + ·) ++ bookKeys)) s t) ∧
    (st = stOK → level = 2 → s.get SEC_LIFE_STATE = 2 →
      ∃ t, exec i s = .next t ∧ t.dbg.pendingErase = some method ∧ t.flag SEC_ERASED_ERASING = true ∧
        t.flag DBG_AUTH_STATUS_BUSY = true ∧ t.get DBG_AUTH_STATUS_STATUS = stBUSY ∧ t.sec.keys = []) ∧
    (st ≠ stOK →
      ∃ t, exec i s = .next t ∧ t.dbgLevel = s.dbgLevel ∧ t.get DBG_AUTH_STATUS_STATUS = st ∧
        t.dbg.pendingErase = none ∧ t.ev.seq.toNat ≠ s.ev.seq.toNat)) ∧
  (∀ (s : State) (v : Reg), s.dev.off = false → s.wf = true → s.authBusy = false → fldGet v 0 3 = 4 →
    ∃ t, exec (.dbgAuthClose v) s = .next t ∧ t.dbgLevel = 0 ∧ t.get DBG_AUTH_STATUS_STATUS = stOK ∧
      (s.dbgLevel ≠ 0 → t.flag DBG_ACCESS_SIDE = false ∧ (∀ n, n < 8 → (t.coreAt n).halted = false) ∧
        ((∀ n, n < 8 → (s.coreAt n).halted = false) → t.ev.seq = s.ev.seq + 1)) ∧
      (s.dbgLevel = 0 → Framed [.dbg] (DBG_AUTH_STATUS :: (upto 2048).map (0x3800 + ·)) s t)) ∧
  (∀ (s : State) (us : BitVec 32), s.wf = true →
    (s.flag SEC_ERASED_ERASING = false → exec (.secretsErased us) s = .next s) ∧
    (s.flag SEC_ERASED_ERASING = true →
      (s.dbg.pendingErase = none → ∃ t, exec (.secretsErased us) s = .next t ∧ t.flag SEC_ERASED_ERASING = false ∧
        t.ev.seq = s.ev.seq + 1 ∧ Framed evParts (SEC_ERASED :: bookKeys) s t) ∧
      (∀ m, s.dbg.pendingErase = some m →
        ∃ t, exec (.secretsErased us) s = .next t ∧ t.flag SEC_ERASED_ERASING = false ∧ t.dbgLevel = 2 ∧
          t.get SEC_LIFE_DEBUG_OPENS = min 255 (s.get SEC_LIFE_DEBUG_OPENS + 1) ∧
          t.flag DBG_STATUS_VENDOR = decide (m = 2) ∧ t.dbg.pendingErase = none ∧
          t.flag DBG_AUTH_STATUS_BUSY = false ∧ t.get DBG_AUTH_STATUS_STATUS = stOK))) ∧
  (∀ (s : State) (due : Bool), s.wf = true → due = (decide (s.get DBG_CTL_IDLE_S ≠ 0) &&
      decide (s.get DBG_CTL_IDLE_S * 1000000000 ≤ (s.time - s.dbg.lastAt).toNat) && decide (s.dbgLevel ≠ 0)) →
    (due = false → exec .debugIdleClose s = .next s) ∧
    (due = true → ∃ t, exec .debugIdleClose s = .next t ∧ t.dbgLevel = 0 ∧ t.flag DBG_ACCESS_SIDE = false ∧
      (∀ n, n < 8 → (t.coreAt n).halted = false) ∧
      ((∀ n, n < 8 → (s.coreAt n).halted = false) → t.ev.seq = s.ev.seq + 1)))

/-- Debug at level 2 (R519 to R525): DBG_ACCESS reads and writes a core's TCM, the shared SRAM, a bank and the registers with STATUS OK,
BAD_ARG outside the address space and REFUSED below level 2, in a bank of secrets and in a gated register; a halt is refused, held,
deferred or takes effect with the core's registers; a halted core resumes, and steps; a deferred halt takes effect at its limit and
takes PBUS_LOCK away; DBG_REG_DATA writes a register of a halted core; a comparator that matches counts, and halts, reports or only
counts by its ACTION. -/
def Obligations.DebugAccessComplete : Prop :=
  (∀ (s : State) (v : Reg) (ecc : Ecc),
    (s.dev.off = true ∨ fldGet v 6 2 ≠ 1 → exec (.dbgAccessRead v ecc) s = .next s) ∧
    (s.dev.off = true ∨ fldGet v 6 2 ≠ 2 → exec (.dbgAccessWrite v) s = .next s) ∧
    (s.dev.off = false → s.dbgReaches DBG_ACCESS = false →
      (fldGet v 6 2 = 1 → ∃ t, exec (.dbgAccessRead v ecc) s = .next t ∧ TapRefused s t) ∧
      (fldGet v 6 2 = 2 → ∃ t, exec (.dbgAccessWrite v) s = .next t ∧ TapRefused s t))) ∧
  (∀ (s : State) (v : Reg) (ecc : Ecc) (a n sz k : Nat) (w : Word), s.dev.off = false → s.dbgReaches DBG_ACCESS = true →
    a = (s.rd DBG_ADDR).toNat → n = fldGet v 1 3 → sz = 2 ^ fldGet v 4 2 → k = a - 0x80000000 →
    w = s.rd64 DBG_DATA_LO DBG_DATA_HI →
    (fldGet v 6 2 = 1 →
      (dbgRangeOk a sz = false →
        ∃ t, exec (.dbgAccessRead v ecc) s = .next t ∧ t.get DBG_ACCESS_STATUS = stBAD_ARG ∧ Framed [.dbg] [DBG_ACCESS] s t) ∧
      (dbgRangeOk a sz = true → a < 0x80000000 → s.dbgLevel < 2 →
        ∃ t, exec (.dbgAccessRead v ecc) s = .next t ∧ t.get DBG_ACCESS_STATUS = stREFUSED ∧ Framed [.dbg] [DBG_ACCESS] s t) ∧
      (dbgRangeOk a sz = true → 2 ≤ s.dbgLevel →
        (a < 0x40000 → ∃ t, exec (.dbgAccessRead v ecc) s = .next t ∧ t.get DBG_ACCESS_STATUS = stOK ∧
          t.rd64 DBG_DATA_LO DBG_DATA_HI = BitVec.ofNat 64 (ofLeBytes (getBytes s.core.tcm (n * 262144 + a) sz)) ∧
          Framed [.dbg] [DBG_ACCESS, DBG_DATA_LO, DBG_DATA_HI] s t) ∧
        (0x10000000 ≤ a → a < 0x20000000 → ∃ t, exec (.dbgAccessRead v ecc) s = .next t ∧ t.get DBG_ACCESS_STATUS = stOK ∧
          t.rd64 DBG_DATA_LO DBG_DATA_HI = BitVec.ofNat 64 (ofLeBytes (getBytes s.core.sram (a - 0x10000000) sz)) ∧
          Framed [.dbg] [DBG_ACCESS, DBG_DATA_LO, DBG_DATA_HI] s t) ∧
        (∀ b, 0x20000000 ≤ a → a < 0x80000000 → b = (a - 0x20000000) / 0x10000 →
          (s.secretBank b = true → ∃ t, exec (.dbgAccessRead v ecc) s = .next t ∧ t.get DBG_ACCESS_STATUS = stREFUSED ∧
            Framed [.dbg] [DBG_ACCESS] s t) ∧
          (∀ x, s.secretBank b = false → x = s.word (s.serving (s.physBank b)) (a % 0x10000 / 8) →
            ∃ t, exec (.dbgAccessRead v ecc) s = .next t ∧ t.get DBG_ACCESS_STATUS = stOK ∧
            t.rd64 DBG_DATA_LO DBG_DATA_HI = (match ecc with
              | .ue y _ => if x.poison then x.data else y
              | _ => x.data) ∧
            (ecc = .clean → Framed [.dbg, .free] [DBG_ACCESS, DBG_DATA_LO, DBG_DATA_HI] s t)))) ∧
      (dbgRangeOk a sz = true → 0x80000000 ≤ a →
        (sz < 4 ∨ dbgRegister k = false ∨ (sz = 8 ∧ dbgRegister (k + 4) = false) →
          ∃ t, exec (.dbgAccessRead v ecc) s = .next t ∧ t.get DBG_ACCESS_STATUS = stBAD_ARG ∧ Framed [.dbg] [DBG_ACCESS] s t) ∧
        (sz = 4 → dbgRegister k = true → (s.dbgLevel < 2 ∧ level1Reads k = false) ∨ s.gated k = true →
          ∃ t, exec (.dbgAccessRead v ecc) s = .next t ∧ t.get DBG_ACCESS_STATUS = stREFUSED ∧
            Framed [.dbg] [DBG_ACCESS] s t) ∧
        (∀ u, sz = 4 → dbgRegister k = true → 2 ≤ s.dbgLevel ∨ level1Reads k = true → s.gated k = false → isQueData k = false →
          u = ({ s with dbg := { s.dbg with lastAt := s.time } } : State).plainWrite DBG_ACCESS v →
          ∃ t, exec (.dbgAccessRead v ecc) s = .next t ∧ t.get DBG_ACCESS_STATUS = stOK ∧
            t.rd DBG_DATA_LO = (u.readReg .debug (!u.flag DBG_ACCESS_SIDE) k).1))) ∧
    (fldGet v 6 2 = 2 →
      (dbgRangeOk a sz = false →
        ∃ t, exec (.dbgAccessWrite v) s = .next t ∧ t.get DBG_ACCESS_STATUS = stBAD_ARG ∧ Framed [.dbg] [DBG_ACCESS] s t) ∧
      (dbgRangeOk a sz = true → s.dbgLevel < 2 →
        ∃ t, exec (.dbgAccessWrite v) s = .next t ∧ t.get DBG_ACCESS_STATUS = stREFUSED ∧ Framed [.dbg] [DBG_ACCESS] s t) ∧
      (dbgRangeOk a sz = true → 2 ≤ s.dbgLevel →
        (a < 0x40000 → ∃ t, exec (.dbgAccessWrite v) s = .next t ∧ t.get DBG_ACCESS_STATUS = stOK ∧
          (∀ i, i < sz → Tab.get byte0 t.core.tcm (n * 262144 + a + i) = (w >>> (8 * i)).setWidth 8) ∧
          (∀ x, (∀ i, i < sz → x ≠ n * 262144 + a + i) → Tab.get byte0 t.core.tcm x = Tab.get byte0 s.core.tcm x) ∧
          Framed [.dbg, .tcm] [DBG_ACCESS] s t) ∧
        (0x10000000 ≤ a → a < 0x20000000 → ∃ t, exec (.dbgAccessWrite v) s = .next t ∧ t.get DBG_ACCESS_STATUS = stOK ∧
          (∀ i, i < sz → Tab.get byte0 t.core.sram (a - 0x10000000 + i) = (w >>> (8 * i)).setWidth 8) ∧
          (∀ x, (∀ i, i < sz → x ≠ a - 0x10000000 + i) → Tab.get byte0 t.core.sram x = Tab.get byte0 s.core.sram x) ∧
          Framed [.dbg, .core] [DBG_ACCESS] s t) ∧
        (∀ b, 0x20000000 ≤ a → a < 0x80000000 → b = s.physBank ((a - 0x20000000) / 0x10000) →
          ∃ t, exec (.dbgAccessWrite v) s = .next t ∧ t.get DBG_ACCESS_STATUS = stOK ∧ Wrote s t b (a % 0x10000 / 8) w ∧
            Framed [.dbg, .words, .mem] [DBG_ACCESS] s t) ∧
        (0x80000000 ≤ a → sz < 4 ∨ dbgRegister k = false ∨ (sz = 8 ∧ dbgRegister (k + 4) = false) →
          ∃ t, exec (.dbgAccessWrite v) s = .next t ∧ t.get DBG_ACCESS_STATUS = stBAD_ARG ∧ Framed [.dbg] [DBG_ACCESS] s t) ∧
        (0x80000000 ≤ a → sz = 4 → dbgRegister k = true → s.gated k = true ∨ (0x3000 ≤ k ∧ k < 0x4000) →
          ∃ t, exec (.dbgAccessWrite v) s = .next t ∧ t.get DBG_ACCESS_STATUS = stREFUSED ∧ Framed [.dbg] [DBG_ACCESS] s t) ∧
        (0x80000000 ≤ a → sz = 4 → dbgRegister k = true → s.gated k = false → ¬ (0x3000 ≤ k ∧ k < 0x4000) →
          ¬ (SEC_PROV_NONCE 0 ≤ k ∧ k ≤ SEC_PROV_NONCE 15) → isQueData k = false →
          ∃ t, exec (.dbgAccessWrite v) s = .next t ∧ t.get DBG_ACCESS_STATUS = stOK)))) ∧
  (∀ (s : State) (core : CoreId) (reserved : Bool) (regs : CoreRegs) (n : Nat), n = core.val →
    (s.dev.off = true → ∀ i ∈ [Instr.dbgCoreHalt core reserved regs, .dbgCoreResume core, .dbgCoreStep core regs],
      exec i s = .next s) ∧
    (s.dev.off = false → s.dbgLevel ≠ 2 →
      ∀ i ∈ [Instr.dbgCoreHalt core reserved regs, .dbgCoreResume core, .dbgCoreStep core regs],
        ∃ t, exec i s = .next t ∧ TapRefused s t) ∧
    (s.dev.off = false → s.dbgLevel = 2 →
      (∃ t, exec (.dbgCoreHalt core reserved regs) s = .next t ∧ t.bit (DBG_CORE_CTL n) 0 = true ∧
        HaltAsked s t n 0 reserved regs ∧ t.dbg.capture = BitVec.ofNat 48 (b2n (!s.mayHalt n) * 2 ^ 43) ∧
        Framed (.dbg :: .cores :: evParts) (DBG_CORE_CTL n :: DBG_CORE_STATUS n :: MNT_STEWARD :: bookKeys) s t) ∧
      ((s.coreAt n).halted = true →
        (∃ t, exec (.dbgCoreResume core) s = .next t ∧ (t.coreAt n).halted = false ∧ t.ev.seq = s.ev.seq + 1 ∧
          (t.coreAt n).pc = (s.coreAt n).pc ∧
          (t.coreAt n).wdAt = (if (s.coreAt n).wdFrozen then s.time else (s.coreAt n).wdAt) ∧
          t.bit (DBG_CORE_CTL n) 1 = true ∧ (∀ m, m ≠ n → t.coreAt m = s.coreAt m) ∧
          Framed (.dbg :: .cores :: evParts) (DBG_CORE_CTL n :: bookKeys) s t) ∧
        (∃ t, exec (.dbgCoreStep core regs) s = .next t ∧ (t.coreAt n).halted = true ∧ (t.coreAt n).pc = regs.pc ∧
          t.get (DBG_CORE_STATUS_CAUSE n) = 1 ∧ t.bit (DBG_CORE_CTL n) 2 = true ∧ t.ev.seq = s.ev.seq + 1 ∧
          (∀ m, m ≠ n → t.coreAt m = s.coreAt m) ∧
          Framed (.dbg :: .cores :: evParts) (DBG_CORE_CTL n :: DBG_CORE_STATUS n :: MNT_STEWARD :: bookKeys) s t)) ∧
      ((s.coreAt n).halted = false →
        (∃ t, exec (.dbgCoreResume core) s = .next t ∧ t.bit (DBG_CORE_CTL n) 1 = true ∧
          Framed [.dbg] [DBG_CORE_CTL n] s t) ∧
        (∃ t, exec (.dbgCoreStep core regs) s = .next t ∧ t.bit (DBG_CORE_CTL n) 2 = true ∧
          Framed [.dbg] [DBG_CORE_CTL n] s t)))) ∧
  (∀ (s : State) (core : CoreId) (regs : CoreRegs) (n : Nat) (due : Bool), n = core.val →
    due = ((s.coreAt n).deferred && s.elapsed (s.coreAt n).askedAt (s.coreCycles 512)) →
    (due = false → exec (.haltDeferredExpiry core regs) s = .next s) ∧
    (due = true → ∃ t, exec (.haltDeferredExpiry core regs) s = .next t ∧ (t.coreAt n).halted = true ∧
      (t.coreAt n).deferred = false ∧ (t.coreAt n).pc = regs.pc ∧ t.core.lock ≠ some (leader n) ∧
      (s.core.lock = some (leader n) → t.flag (DBG_CORE_STATUS_LOCK_BROKEN n) = true ∧
        ∀ m ∈ members (leader n), (t.csr m 0x7C8).getLsbD 0 = false ∧ (t.csr m 0x7C8).getLsbD 1 = true) ∧
      t.ev.seq = s.ev.seq + 1 ∧ (∀ m, m ≠ n → t.coreAt m = s.coreAt m) ∧
      Framed (.cores :: .core :: evParts) (DBG_CORE_STATUS n :: MNT_STEWARD :: bookKeys) s t)) ∧
  (∀ (s : State) (v : Reg) (n r : Nat) (w : Word), n = s.get DBG_REG_SEL_CORE → r = s.get DBG_REG_SEL_REG →
    w = ((v.setWidth 64 <<< 32) ||| (s.rd DBG_REG_DATA_LO).setWidth 64) →
    (s.dev.off = true → exec (.dbgRegDataWrite v) s = .next s) ∧
    (s.dev.off = false → s.dbgLevel ≠ 2 → ∃ t, exec (.dbgRegDataWrite v) s = .next t ∧ TapRefused s t) ∧
    (s.dev.off = false → s.dbgLevel = 2 → (s.coreAt n).halted = false →
      ∃ t, exec (.dbgRegDataWrite v) s = .next t ∧ t.dbg.capture = BitVec.ofNat 48 (2 ^ 43) ∧ Framed [.dbg] [] s t) ∧
    (s.dev.off = false → s.dbgLevel = 2 → (s.coreAt n).halted = true →
      (∃ t, exec (.dbgRegDataWrite v) s = .next t ∧ t.dbg.capture = 0) ∧
      (r = 0 ∨ r = 0x7C2 ∨ 0xC00 ≤ r → ∃ t, exec (.dbgRegDataWrite v) s = .next t ∧ t.dbg.capture = 0 ∧ Framed [.dbg] [] s t) ∧
      (1 ≤ r → r < 32 → ∃ t, exec (.dbgRegDataWrite v) s = .next t ∧ Tab.get word0 (t.coreAt n).gpr r = w ∧
        (∀ x, x ≠ r → Tab.get word0 (t.coreAt n).gpr x = Tab.get word0 (s.coreAt n).gpr x) ∧
        (t.coreAt n).pc = (s.coreAt n).pc ∧ (∀ m, m ≠ n → t.coreAt m = s.coreAt m) ∧ Framed [.dbg, .cores] [] s t) ∧
      (r = 0x7B1 → ∃ t, exec (.dbgRegDataWrite v) s = .next t ∧ t.coreAt n = { s.coreAt n with pc := w } ∧
        (∀ m, m ≠ n → t.coreAt m = s.coreAt m) ∧ Framed [.dbg, .cores] [] s t) ∧
      (32 ≤ r → r < 0xC00 → r ∉ [0x7B1, 0x7C0, 0x7C2, 0x7C3, 0x7C4, 0x7C8] → ¬ (0x7D0 ≤ r ∧ r < 0x7E0) →
        ∃ t, exec (.dbgRegDataWrite v) s = .next t ∧ t.csr n r = w ∧ Framed [.dbg, .csr] [] s t))) ∧
  (∀ (s : State) (core : CoreId) (c : Fin 8) (addr : Word) (reserved : Bool) (regs : CoreRegs) (n act : Nat), n = core.val →
    act = s.get (DBG_CMP_CTL_ACTION n c.val) →
    (s.coreRuns n = false ∨ s.comparatorHits n c.val addr = false → exec (.cmpHit core c addr reserved regs) s = .next s) ∧
    (s.coreRuns n = true → s.comparatorHits n c.val addr = true →
      ∃ t, exec (.cmpHit core c addr reserved regs) s = .next t ∧ t.flag (DBG_CMP_CTL_HIT n c.val) = true ∧
        t.get (DBG_CMP_CTL_HITS n c.val) = (s.get (DBG_CMP_CTL_HITS n c.val) + 1) % 65536 ∧
        (act = 0 → HaltAsked s t n (2 + c.val) reserved regs ∧ Framed (.cores :: evParts)
          (DBG_CMP_CTL n c.val :: DBG_CORE_STATUS n :: MNT_STEWARD :: bookKeys) s t) ∧
        (act = 1 → t.ev.seq = (if s.mayRaise 0x1208 (srcCore n) then s.ev.seq + 1 else s.ev.seq) ∧
          Framed evParts (DBG_CMP_CTL n c.val :: bookKeys) s t) ∧
        (2 ≤ act → Framed [] [DBG_CMP_CTL n c.val] s t)))
end

