-- ==== Sys2Proof/Laws/Tab.lean ====
section
/-! SUPPORT.  Laws of sparse tables: what a read gives after each operation, and that each operation keeps
the canonical form. -/

namespace Sys2Proof.Machine

open Sys2Proof

variable {α : Type}

theorem Tab.sortedFrom_weaken {lo hi : Nat} (h : lo ≤ hi) {t : Tab α} (ht : Tab.sortedFrom (some hi) t = true) :
    Tab.sortedFrom (some lo) t = true := by
  cases t with
  | nil => rfl
  | cons e t => simp only [Tab.sortedFrom, Bool.and_eq_true, decide_eq_true_eq] at ht ⊢; exact ⟨by omega, ht.2⟩

theorem Tab.sortedFrom_none {lo : Nat} {t : Tab α} (ht : Tab.sortedFrom (some lo) t = true) :
    Tab.sortedFrom none t = true := by
  cases t with
  | nil => rfl
  | cons e t => simp only [Tab.sortedFrom, Bool.and_eq_true] at ht ⊢; exact ⟨trivial, ht.2⟩

theorem Tab.find_insert (t : Tab α) (q r : Nat) (x : α) :
    Tab.find (Tab.insert t q x) r = if r = q then some x else Tab.find t r := by
  induction t with
  | nil => rfl
  | cons e t ih =>
    obtain ⟨k, v⟩ := e
    simp only [Tab.insert]
    split
    · subst_vars; simp only [Tab.find]; split <;> simp_all
    · split
      · rfl
      · simp only [Tab.find, ih]
        by_cases h1 : r = q
        · subst h1; simp [*]
        · simp [h1]

theorem Tab.find_erase (t : Tab α) (q r : Nat) :
    Tab.find (Tab.erase t q) r = if r = q then none else Tab.find t r := by
  unfold Tab.erase
  induction t with
  | nil => simp [Tab.find]
  | cons e t ih =>
    obtain ⟨k, v⟩ := e
    by_cases h1 : k = q <;> by_cases h2 : r = k <;> by_cases h3 : r = q <;> simp_all [Tab.find]

theorem Tab.insert_sorted {lo : Option Nat} {t : Tab α} (ht : Tab.sortedFrom lo t = true) {q : Nat}
    (hq : ∀ b, lo = some b → b < q) (x : α) : Tab.sortedFrom lo (Tab.insert t q x) = true := by
  induction t generalizing lo with
  | nil => cases lo <;> simp_all [Tab.insert, Tab.sortedFrom]
  | cons e t ih =>
    obtain ⟨k, v⟩ := e
    simp only [Tab.sortedFrom, Bool.and_eq_true] at ht
    simp only [Tab.insert]
    split
    · subst_vars; simp only [Tab.sortedFrom, Bool.and_eq_true]; exact ht
    · split
      · simp only [Tab.sortedFrom, Bool.and_eq_true, decide_eq_true_eq]
        refine ⟨?_, by assumption, ht.2⟩
        cases lo <;> simp_all
      · simp only [Tab.sortedFrom, Bool.and_eq_true]
        exact ⟨ht.1, ih ht.2 (by intro b hb; cases hb; omega)⟩

theorem Tab.filter_sorted {lo : Option Nat} {t : Tab α} (ht : Tab.sortedFrom lo t = true)
    (p : Nat × α → Bool) : Tab.sortedFrom lo (List.filter p t) = true := by
  induction t generalizing lo with
  | nil => exact ht
  | cons e t ih =>
    obtain ⟨k, v⟩ := e
    simp only [Tab.sortedFrom, Bool.and_eq_true] at ht
    rw [List.filter_cons]
    split
    · simp only [Tab.sortedFrom, Bool.and_eq_true]; exact ⟨ht.1, ih ht.2⟩
    · cases lo with
      | none => exact ih (Tab.sortedFrom_none ht.2)
      | some b => exact ih (Tab.sortedFrom_weaken (by simp at ht; omega) ht.2)

theorem Tab.erase_sorted {lo : Option Nat} {t : Tab α} (ht : Tab.sortedFrom lo t = true) (q : Nat) :
    Tab.sortedFrom lo (Tab.erase t q) = true := Tab.filter_sorted ht _

theorem Tab.map_sorted {lo : Option Nat} {t : Tab α} (ht : Tab.sortedFrom lo t = true) (f : Nat → α → α) :
    Tab.sortedFrom lo (List.map (fun e : Nat × α => (e.1, f e.1 e.2)) t) = true := by
  induction t generalizing lo with
  | nil => exact ht
  | cons e t ih =>
    obtain ⟨k, v⟩ := e
    simp only [Tab.sortedFrom, List.map_cons, Bool.and_eq_true] at ht ⊢
    exact ⟨ht.1, ih ht.2⟩

theorem Tab.mem_insert {t : Tab α} {q : Nat} {x : α} {e : Nat × α} (h : e ∈ Tab.insert t q x) :
    e = (q, x) ∨ e ∈ t := by
  induction t with
  | nil => simp_all [Tab.insert]
  | cons a t ih =>
    obtain ⟨k, v⟩ := a
    simp only [Tab.insert] at h
    split at h
    · simp only [List.mem_cons] at h ⊢; rcases h with h | h <;> simp [h]
    · split at h
      · simpa using h
      · simp only [List.mem_cons] at h ⊢
        rcases h with h | h
        · exact .inr (.inl h)
        · rcases ih h with h | h
          · exact .inl h
          · exact .inr (.inr h)

theorem Tab.mem_erase {t : Tab α} {q : Nat} {e : Nat × α} (h : e ∈ Tab.erase t q) : e ∈ t :=
  (List.mem_filter.1 h).1

variable [DecidableEq α]

theorem Tab.proper_iff (d : Nat → α) (t : Tab α) : Tab.proper d t = true ↔ ∀ e ∈ t, e.2 ≠ d e.1 := by
  induction t with
  | nil => simp [Tab.proper]
  | cons e t ih => obtain ⟨k, v⟩ := e; simp [Tab.proper, ih]

theorem Tab.wf_iff (d : Nat → α) (t : Tab α) :
    Tab.wf d t = true ↔ Tab.sortedFrom none t = true ∧ ∀ e ∈ t, e.2 ≠ d e.1 := by
  rw [Tab.wf, Bool.and_eq_true, Tab.proper_iff]

@[simp] theorem Tab.wf_nil (d : Nat → α) : Tab.wf d [] = true := rfl

/-- A store keeps the canonical form. -/
@[simp] theorem Tab.put_wf {d : Nat → α} {t : Tab α} (ht : Tab.wf d t = true) (q : Nat) (x : α) :
    Tab.wf d (Tab.put d t q x) = true := by
  rw [Tab.wf_iff] at ht ⊢
  unfold Tab.put
  split
  · exact ⟨Tab.erase_sorted ht.1 q, fun e he => ht.2 e (Tab.mem_erase he)⟩
  · rename_i hx
    refine ⟨Tab.insert_sorted ht.1 (by simp) x, fun e he => ?_⟩
    rcases Tab.mem_insert he with rfl | he
    · exact hx
    · exact ht.2 e he

/-- Dropping entries keeps the canonical form. -/
@[simp] theorem Tab.filter_wf {d : Nat → α} {t : Tab α} (ht : Tab.wf d t = true) (p : Nat × α → Bool) :
    Tab.wf d (List.filter p t) = true := by
  rw [Tab.wf_iff] at ht ⊢
  exact ⟨Tab.filter_sorted ht.1 _, fun e he => ht.2 e (List.mem_filter.1 he).1⟩

@[simp] theorem Tab.keep_wf {d : Nat → α} {t : Tab α} (ht : Tab.wf d t = true) (p : Nat → Bool) :
    Tab.wf d (Tab.keep p t) = true := Tab.filter_wf ht _

/-- Changing every listed entry keeps the canonical form. -/
@[simp] theorem Tab.mapAll_wf {d : Nat → α} {t : Tab α} (ht : Tab.wf d t = true) (f : Nat → α → α) :
    Tab.wf d (Tab.mapAll d f t) = true := by
  rw [Tab.wf_iff] at ht ⊢
  refine ⟨Tab.filter_sorted (Tab.map_sorted ht.1 f) _, fun e he => ?_⟩
  simpa using (List.mem_filter.1 he).2

theorem Tab.sorted_of_wf {d : Nat → α} {t : Tab α} (ht : Tab.wf d t = true) :
    Tab.sortedFrom none t = true := ((Tab.wf_iff d t).1 ht).1

/-- A read after a store: the value stored under its key, what stood there before elsewhere. -/
theorem Tab.get_put (d : Nat → α) (t : Tab α) (q r : Nat) (x : α) :
    Tab.get d (Tab.put d t q x) r = if r = q then x else Tab.get d t r := by
  unfold Tab.put Tab.get
  split
  · rename_i hx
    rw [Tab.find_erase]
    split
    · subst_vars; rfl
    · rfl
  · rw [Tab.find_insert]
    split <;> rfl

/-- Storing somewhere else changes nothing, in any table. -/
theorem Tab.get_put_ne (d : Nat → α) (t : Tab α) {q r : Nat} (h : r ≠ q) (x : α) :
    Tab.get d (Tab.put d t q x) r = Tab.get d t r := by
  rw [Tab.get_put, if_neg h]

/-- A store reads back. -/
@[simp] theorem Tab.get_put_self (d : Nat → α) (t : Tab α) (q : Nat) (x : α) :
    Tab.get d (Tab.put d t q x) q = x := by
  rw [Tab.get_put, if_pos rfl]

end Sys2Proof.Machine
end

