-- ==== Sys2Proof/Laws/Keeps.lean ====
section
/-! SUPPORT.  The relation between a state and a later one (Keeps), for the record updates of State and for folds.  Every
operation of the machine has a lemma of this kind in the files beside this one: it says that the operation's result is a
later state of any state that its argument is a later state of. -/

namespace Sys2Proof.Machine

open Sys2Proof

@[simp ↓] theorem Keeps.refl (s : State) : Keeps s s := ⟨rfl, List.prefix_rfl, Nat.le_refl _, rfl, rfl, id⟩

theorem Keeps.trans {s t u : State} (h : Keeps s t) (k : Keeps t u) : Keeps s u :=
  ⟨k.pending.trans h.pending, h.out.trans k.out, Nat.le_trans h.free k.free, k.boryr.trans h.boryr,
    k.vendor.trans h.vendor, fun w => k.wf (h.wf w)⟩

theorem State.wf_iff (s : State) : s.wf = true ↔ Tab.wf regReset s.regs = true ∧ Tab.wf memWord0 s.mem.words = true ∧
    Tab.wf byte0 s.core.tcm = true ∧ Tab.wf byte0 s.core.sram = true ∧ Tab.wf csr0 s.core.csr = true ∧
    Tab.wf byte0 s.sec.keyStore = true := by
  simp [State.wf, and_assoc]

/-- A record update: the tracked parts must be kept, the others are free. -/
@[simp ↓] theorem keeps_mk {s0 s : State} {regs : Tab Reg} {time : Word} {ev : EvState} {host : HostState} {que : QueState} {mem : MemState} {col : ColState} {ctx : CtxState} {pace : PaceState} {mnt : MntState} {bist : BistState} {fb : FbState} {core : CoreState} {sec : SecState} {img : ImgState} {pow : PowState} {thm : ThmState} {pins : PinState} {tal : TalState} {lane : LaneState} {clk : ClkState} {dev : DevState} {dbg : DbgState} {out : List Out} {free : Nat}
    (h : Keeps s0 s) (ho : s.out <+: out) (hf : s.free ≤ free) (hb : sec.boryr = s.sec.boryr)
    (hv : sec.vendor = s.sec.vendor)
    (h1 : Tab.wf regReset s.regs = true → Tab.wf regReset regs = true)
    (h2 : Tab.wf memWord0 s.mem.words = true → Tab.wf memWord0 mem.words = true)
    (h3 : Tab.wf byte0 s.core.tcm = true → Tab.wf byte0 core.tcm = true)
    (h4 : Tab.wf byte0 s.core.sram = true → Tab.wf byte0 core.sram = true)
    (h5 : Tab.wf csr0 s.core.csr = true → Tab.wf csr0 core.csr = true)
    (h6 : Tab.wf byte0 s.sec.keyStore = true → Tab.wf byte0 sec.keyStore = true) :
    Keeps s0 (State.mk s.pending regs time ev host que mem col ctx pace mnt bist fb core sec img pow thm pins tal lane clk dev dbg out free) := by
  refine h.trans ⟨rfl, ho, hf, hb, hv, fun w => ?_⟩
  rw [State.wf_iff] at w ⊢
  exact ⟨h1 w.1, h2 w.2.1, h3 w.2.2.1, h4 w.2.2.2.1, h5 w.2.2.2.2.1, h6 w.2.2.2.2.2⟩

@[simp ↓] theorem keeps_ite {s0 s t : State} {c : Prop} [Decidable c] (h1 : Keeps s0 s) (h2 : Keeps s0 t) :
    Keeps s0 (if c then s else t) := by split <;> assumption

@[simp ↓] theorem keeps_ite_fst {α : Type} {s0 : State} {c : Prop} [Decidable c] {x y : State × α}
    (h1 : Keeps s0 x.1) (h2 : Keeps s0 y.1) : Keeps s0 (if c then x else y).1 := by split <;> assumption

@[simp ↓] theorem keeps_ite_snd {α : Type} {s0 : State} {c : Prop} [Decidable c] {x y : α × State}
    (h1 : Keeps s0 x.2) (h2 : Keeps s0 y.2) : Keeps s0 (if c then x else y).2 := by split <;> assumption

@[simp ↓] theorem goes_next {s0 s : State} (h : Keeps s0 s) : Goes s0 (.next s) := ⟨s, rfl, h⟩

@[simp ↓] theorem goes_ite {s0 : State} {c : Prop} [Decidable c] {x y : Host.Outcome State Fault Refusal}
    (h1 : Goes s0 x) (h2 : Goes s0 y) : Goes s0 (if c then x else y) := by split <;> assumption

/-- A fold of operations that each keep. -/
@[simp ↓] theorem keeps_foldl {α : Type} {s0 s : State} {f : State → α → State} (h : Keeps s0 s)
    (hf : ∀ t a, Keeps s0 t → Keeps s0 (f t a)) (l : List α) : Keeps s0 (l.foldl f s) := by
  induction l generalizing s with
  | nil => exact h
  | cons a l ih => exact ih (hf s a h)

end Sys2Proof.Machine
end

