-- ==== Sys2Proof/Laws/KeepsFlags.lean ====
section
/-! SUPPORT.  Each operation of Flags.lean gives a later state (Keeps). -/

set_option linter.unreachableTactic false
set_option linter.unusedTactic false

namespace Sys2Proof.Machine

open Sys2Proof

@[simp ↓] theorem State.wr_keeps {s0 : State} {s : State} (k : Nat) (v : Reg) (hk : Keeps s0 s) : Keeps s0 (State.wr
    s k v) := by
  unfold State.wr
  simp (maxDischargeDepth := 40) (contextual := true) [*]

@[simp ↓] theorem State.set_keeps {s0 : State} {s : State} (f : Fld) (x : Nat) (hk : Keeps s0 s) : Keeps s0
    (State.set s f x) := by
  unfold State.set
  simp (maxDischargeDepth := 40) [*]

@[simp ↓] theorem State.setFlag_keeps {s0 : State} {s : State} (f : Fld) (b : Bool) (hk : Keeps s0 s) : Keeps s0
    (State.setFlag s f b) := by
  unfold State.setFlag
  simp (maxDischargeDepth := 40) [*]

@[simp ↓] theorem State.setBit_keeps {s0 : State} {s : State} (k : Nat) (i : Nat) (b : Bool) (hk : Keeps s0 s) :
    Keeps s0 (State.setBit s k i b) := by
  unfold State.setBit
  simp (maxDischargeDepth := 40) [*]

@[simp ↓] theorem State.wr64_keeps {s0 : State} {s : State} (lo : Nat) (hi : Nat) (v : Word) (hk : Keeps s0 s) :
    Keeps s0 (State.wr64 s lo hi v) := by
  unfold State.wr64
  simp (maxDischargeDepth := 40) [*]

@[simp ↓] theorem State.count_keeps {s0 : State} {s : State} (k : Nat) (sat : Fld) (n : Nat) (hk : Keeps s0 s) :
    Keeps s0 (State.count s k sat n) := by
  unfold State.count
  simp (maxDischargeDepth := 40) [*]

@[simp ↓] theorem State.countClear_keeps {s0 : State} {s : State} (k : Nat) (hk : Keeps s0 s) : Keeps s0
    (State.countClear s k) := by
  unfold State.countClear
  repeat' first
    | (simp (maxDischargeDepth := 40) (contextual := true) [*]; done)
    | split
    | (with_reducible refine keeps_foldl ?_ (fun t a ht => ?_) _)
    | dsimp only

@[simp ↓] theorem State.fresh_keeps {s0 : State} {s : State}  (hk : Keeps s0 s) : Keeps s0 (State.fresh s).2 := by
  unfold State.fresh
  simp (maxDischargeDepth := 40) [*]

@[simp] theorem resetRegs_wf (p : Nat → Bool) {t : Tab Reg} (h : Tab.wf regReset t = true) :
    Tab.wf regReset (resetRegs p t) = true := Tab.mapAll_wf h _

@[simp ↓] theorem State.resetRegs_keeps {s0 : State} {s : State} (p : Nat → Bool) (hk : Keeps s0 s) : Keeps s0
    (State.resetRegs s p) := by
  unfold State.resetRegs
  simp (maxDischargeDepth := 40) (contextual := true) [*]

end Sys2Proof.Machine
end

