-- ==== Sys2Proof/Laws/KeepsOps.lean ====
section
/-! SUPPORT.  Each operation of Ops.lean gives a later state (Keeps). -/

set_option linter.unreachableTactic false
set_option linter.unusedTactic false

namespace Sys2Proof.Machine

open Sys2Proof

@[simp ↓] theorem State.emit_keeps {s0 : State} {s : State} (o : Out) (hk : Keeps s0 s) : Keeps s0 (State.emit s o) := by
  unfold State.emit
  simp (maxDischargeDepth := 40) [*]

@[simp ↓] theorem State.setRing_keeps {s0 : State} {s : State} (n : Nat) (r : Ring) (hk : Keeps s0 s) : Keeps s0
    (State.setRing s n r) := by
  unfold State.setRing
  simp (maxDischargeDepth := 40) [*]

@[simp ↓] theorem State.mirror_keeps {s0 : State} {s : State} (n : Nat) (idx : Nat) (hk : Keeps s0 s) : Keeps s0
    (State.mirror s n idx) := by
  unfold State.mirror
  simp (maxDischargeDepth := 40) [*]

@[simp ↓] theorem State.ringMsg_keeps {s0 : State} {s : State} (n : Nat) (hk : Keeps s0 s) : Keeps s0 (State.ringMsg
    s n) := by
  unfold State.ringMsg
  simp (maxDischargeDepth := 40) [*]

@[simp ↓] theorem State.ringSignal_keeps {s0 : State} {s : State} (n : Nat) (hk : Keeps s0 s) : Keeps s0
    (State.ringSignal s n) := by
  unfold State.ringSignal
  simp (maxDischargeDepth := 40) [*]

@[simp ↓] theorem State.produce_keeps {s0 : State} {s : State} (n : Nat) (size : Nat) (bytes : List Byte) (hk :
    Keeps s0 s) : Keeps s0 (State.produce s n size bytes) := by
  unfold State.produce
  simp (maxDischargeDepth := 40) [*]

@[simp ↓] theorem State.setActs_keeps {s0 : State} {s : State} (acts : List Act) (hk : Keeps s0 s) : Keeps s0
    (State.setActs s acts) := by
  unfold State.setActs
  simp (maxDischargeDepth := 40) [*]

@[simp ↓] theorem State.blankSlot_keeps {s0 : State} {s : State} (k : Nat) (hk : Keeps s0 s) : Keeps s0
    (State.blankSlot s k) := by
  unfold State.blankSlot
  simp (maxDischargeDepth := 40) [*]

@[simp ↓] theorem State.onGrant_keeps {s0 : State} {s : State} (x0 : Task) (hk : Keeps s0 s) : Keeps s0
    (State.onGrant s x0) := by
  unfold State.onGrant
  repeat' first
    | (simp (maxDischargeDepth := 40) (contextual := true) [*]; done)
    | split
    | (with_reducible refine keeps_foldl ?_ (fun t a ht => ?_) _)
    | dsimp only

@[simp ↓] theorem State.grant_keeps {s0 : State} {s : State} (a : Act) (hk : Keeps s0 s) : Keeps s0 (State.grant s
    a) := by
  unfold State.grant
  simp (maxDischargeDepth := 40) [*]

@[simp ↓] theorem State.grantAll_keeps {s0 : State} {s : State} (x0 : List Act) (hk : Keeps s0 s) : Keeps s0
    (State.grantAll s x0) := by
  induction x0 generalizing s with
  | nil => exact hk
  | cons a as ih => unfold State.grantAll; exact ih (by split <;> simp [hk])

@[simp ↓] theorem State.submitRaw_keeps {s0 : State} {s : State} (t : Task) (locks : List Lock) (requester : Nat)
    (resource : Nat) (ref : Option CmdRef) (hk : Keeps s0 s) : Keeps s0 (State.submitRaw s t locks requester
    resource ref).1 := by
  unfold State.submitRaw
  repeat' first
    | (simp (maxDischargeDepth := 40) (contextual := true) [*]; done)
    | split
    | (with_reducible refine keeps_foldl ?_ (fun t a ht => ?_) _)
    | dsimp only

@[simp ↓] theorem State.release_keeps {s0 : State} {s : State} (place : Nat) (hk : Keeps s0 s) : Keeps s0
    (State.release s place) := by
  unfold State.release
  simp (maxDischargeDepth := 40) [*]

@[simp ↓] theorem State.setTask_keeps {s0 : State} {s : State} (place : Nat) (t : Task) (hk : Keeps s0 s) : Keeps s0
    (State.setTask s place t) := by
  unfold State.setTask
  simp (maxDischargeDepth := 40) [*]

@[simp ↓] theorem State.fbTake_keeps {s0 : State} {s : State} (e : Event) (hk : Keeps s0 s) : Keeps s0 (State.fbTake
    s e) := by
  unfold State.fbTake
  simp (maxDischargeDepth := 40) [*]

@[simp ↓] theorem State.commitTrigger_keeps {s0 : State} {s : State} (cause : Nat) (seq : BitVec 32) (hk : Keeps s0
    s) : Keeps s0 (State.commitTrigger s cause seq) := by
  unfold State.commitTrigger
  repeat' first
    | (simp (maxDischargeDepth := 40) (contextual := true) [*]; done)
    | split
    | (with_reducible refine keeps_foldl ?_ (fun t a ht => ?_) _)
    | dsimp only

@[simp ↓] theorem State.assertSource_keeps {s0 : State} {s : State} (src : Nat) (hk : Keeps s0 s) : Keeps s0
    (State.assertSource s src) := by
  unfold State.assertSource
  simp (maxDischargeDepth := 40) [*]

@[simp ↓] theorem State.toEventRing_keeps {s0 : State} {s : State} (e : Event) (n : Nat) (hk : Keeps s0 s) : Keeps
    s0 (State.toEventRing e s n) := by
  unfold State.toEventRing
  simp (maxDischargeDepth := 40) [*]

@[simp ↓] theorem State.setCsr_keeps {s0 : State} {s : State} (core : Nat) (n : Nat) (v : Word) (hk : Keeps s0 s) :
    Keeps s0 (State.setCsr s core n v) := by
  unfold State.setCsr
  simp (maxDischargeDepth := 40) (contextual := true) [*]

@[simp] theorem putBytes_wf {t : Tab Byte} (h : Tab.wf byte0 t = true) (base : Nat) (l : List Byte) :
    Tab.wf byte0 (putBytes t base l) = true := by
  induction l generalizing t base with
  | nil => exact h
  | cons b l ih => exact ih (Tab.put_wf h _ _) _

@[simp ↓] theorem State.toCoreRing_keeps {s0 : State} {s : State} (e : Event) (target : Nat) (hk : Keeps s0 s) :
    Keeps s0 (State.toCoreRing e s target) := by
  unfold State.toCoreRing
  simp (maxDischargeDepth := 40) (contextual := true) [*]

@[simp ↓] theorem State.raiseRaw_keeps {s0 : State} {s : State} (code : Nat) (src : Nat) (status : Nat) (data :
    BitVec 112) (trigger : Option Nat) (hk : Keeps s0 s) : Keeps s0 (State.raiseRaw s code src status data trigger) := by
  unfold State.raiseRaw
  repeat' first
    | (simp (maxDischargeDepth := 40) (contextual := true) [*]; done)
    | split
    | (with_reducible refine keeps_foldl ?_ (fun t a ht => ?_) _)
    | dsimp only

@[simp ↓] theorem State.raise_keeps {s0 : State} {s : State} (code : Nat) (src : Nat) (data : List (Nat × Nat ×
    Nat)) (hk : Keeps s0 s) : Keeps s0 (State.raise s code src data) := by
  unfold State.raise
  simp (maxDischargeDepth := 40) [*]

@[simp ↓] theorem State.raiseSt_keeps {s0 : State} {s : State} (code : Nat) (src : Nat) (status : Nat) (data : List
    (Nat × Nat × Nat)) (hk : Keeps s0 s) : Keeps s0 (State.raiseSt s code src status data) := by
  unfold State.raiseSt
  simp (maxDischargeDepth := 40) [*]

@[simp ↓] theorem State.raiseTrig_keeps {s0 : State} {s : State} (code : Nat) (src : Nat) (cause : Nat) (data : List
    (Nat × Nat × Nat)) (hk : Keeps s0 s) : Keeps s0 (State.raiseTrig s code src cause data) := by
  unfold State.raiseTrig
  simp (maxDischargeDepth := 40) [*]

@[simp ↓] theorem State.raiseLim_keeps {s0 : State} {s : State} (code : Nat) (src : Nat) (data : List (Nat × Nat ×
    Nat)) (hk : Keeps s0 s) : Keeps s0 (State.raiseLim s code src data) := by
  unfold State.raiseLim
  simp (maxDischargeDepth := 40) [*]

@[simp ↓] theorem State.setOpen_keeps {s0 : State} {s : State} (layer : Nat) (col : Nat) (l : List FaultItem) (hk :
    Keeps s0 s) : Keeps s0 (State.setOpen s layer col l) := by
  unfold State.setOpen
  simp (maxDischargeDepth := 40) [*]

@[simp ↓] theorem State.closeFaults_keeps {s0 : State} {s : State} (layer : Nat) (col : Nat) (p : FaultItem → Bool)
    (hk : Keeps s0 s) : Keeps s0 (State.closeFaults s layer col p) := by
  unfold State.closeFaults
  simp (maxDischargeDepth := 40) [*]

@[simp ↓] theorem State.closeFault_keeps {s0 : State} {s : State} (layer : Nat) (col : Nat) (x : FaultItem) (hk :
    Keeps s0 s) : Keeps s0 (State.closeFault s layer col x) := by
  unfold State.closeFault
  simp (maxDischargeDepth := 40) [*]

@[simp ↓] theorem State.noteFault_keeps {s0 : State} {s : State} (layer : Nat) (code : Nat) (src : Nat) (hk : Keeps
    s0 s) : Keeps s0 (State.noteFault s layer code src) := by
  unfold State.noteFault
  simp (maxDischargeDepth := 40) [*]

@[simp ↓] theorem State.reportFault_keeps {s0 : State} {s : State} (layer : Nat) (col : Nat) (x : FaultItem) (code :
    Nat) (src : Nat) (data : List (Nat × Nat × Nat)) (hk : Keeps s0 s) : Keeps s0 (State.reportFault s layer col x
    code src data) := by
  unfold State.reportFault
  simp (maxDischargeDepth := 40) [*]

@[simp ↓] theorem State.submit_keeps {s0 : State} {s : State} (t : Task) (locks : List Lock) (requester : Nat)
    (resource : Nat) (ref : Option CmdRef) (hk : Keeps s0 s) : Keeps s0 (State.submit s t locks requester resource
    ref).1 := by
  unfold State.submit
  repeat' first
    | (simp (maxDischargeDepth := 40) (contextual := true) [*]; done)
    | split
    | (with_reducible refine keeps_foldl ?_ (fun t a ht => ?_) _)
    | dsimp only

@[simp ↓] theorem State.post_keeps {s0 : State} {s : State} (c : Compl) (hk : Keeps s0 s) : Keeps s0 (State.post s
    c) := by
  unfold State.post
  simp (maxDischargeDepth := 40) [*]

@[simp ↓] theorem State.finish_keeps {s0 : State} {s : State} (r : CmdRef) (status : Nat) (result : Word) (hk :
    Keeps s0 s) : Keeps s0 (State.finish s r status result) := by
  unfold State.finish
  repeat' first
    | (simp (maxDischargeDepth := 40) (contextual := true) [*]; done)
    | split
    | (with_reducible refine keeps_foldl ?_ (fun t a ht => ?_) _)
    | dsimp only

@[simp ↓] theorem State.finishRef_keeps {s0 : State} {s : State} (r : Option CmdRef) (status : Nat) (result : Word)
    (hk : Keeps s0 s) : Keeps s0 (State.finishRef s r status result) := by
  unfold State.finishRef
  repeat' first
    | (simp (maxDischargeDepth := 40) (contextual := true) [*]; done)
    | split
    | (with_reducible refine keeps_foldl ?_ (fun t a ht => ?_) _)
    | dsimp only

@[simp ↓] theorem State.interim_keeps {s0 : State} {s : State} (r : CmdRef) (hk : Keeps s0 s) : Keeps s0
    (State.interim s r) := by
  unfold State.interim
  simp (maxDischargeDepth := 40) [*]

@[simp ↓] theorem State.useSession_keeps {s0 : State} {s : State} (tag : BitVec 16) (hk : Keeps s0 s) : Keeps s0
    (State.useSession s tag) := by
  unfold State.useSession
  simp (maxDischargeDepth := 40) [*]

@[simp ↓] theorem keeps_ite_st {s0 : State} {c : Prop} [Decidable c] {x y : CmdRes}
    (h1 : Keeps s0 x.st) (h2 : Keeps s0 y.st) : Keeps s0 (if c then x else y).st := by split <;> assumption

@[simp ↓] theorem State.ends_keeps {s0 : State} {s : State} (status : Nat) (hk : Keeps s0 s) : Keeps s0 (State.ends
    s status).st := by
  unfold State.ends
  simp (maxDischargeDepth := 40) [*]

@[simp ↓] theorem State.endsWith_keeps {s0 : State} {s : State} (status : Nat) (result : Nat) (hk : Keeps s0 s) :
    Keeps s0 (State.endsWith s status result).st := by
  unfold State.endsWith
  simp (maxDischargeDepth := 40) [*]

@[simp ↓] theorem State.goesOn_keeps {s0 : State} {s : State}  (hk : Keeps s0 s) : Keeps s0 (State.goesOn s).st := by
  unfold State.goesOn
  simp (maxDischargeDepth := 40) [*]

@[simp ↓] theorem Submitted.report_keeps {s0 : State} {x : State × Submitted} (r : CmdRef) (h : Keeps s0 x.1) :
    Keeps s0 (Submitted.report x r).st := by
  unfold Submitted.report
  split <;> simp (maxDischargeDepth := 40) [h]

@[simp ↓] theorem State.markStarted_keeps {s0 : State} {s : State} (r : CmdRef) (hk : Keeps s0 s) : Keeps s0
    (State.markStarted s r) := by
  unfold State.markStarted
  simp (maxDischargeDepth := 40) [*]

@[simp ↓] theorem State.hostCmd_keeps {s0 : State} {s : State} (h : Hdr) (op : Nat) (body : State → CmdRes) (hk :
    Keeps s0 s) (kbody : ∀ a : State, Keeps s0 a → Keeps s0 (body a).st) : Keeps s0 (State.hostCmd s h op body) := by
  unfold State.hostCmd
  repeat' first
    | (simp (maxDischargeDepth := 40) (contextual := true) [*]; done)
    | split
    | (with_reducible refine keeps_foldl ?_ (fun t a ht => ?_) _)
    | dsimp only

@[simp ↓] theorem State.putWord_keeps {s0 : State} {s : State} (bank : Nat) (w : Nat) (x : MemWord) (hk : Keeps s0
    s) : Keeps s0 (State.putWord s bank w x) := by
  unfold State.putWord
  simp (maxDischargeDepth := 40) (contextual := true) [*]

@[simp ↓] theorem State.writeBank_keeps {s0 : State} {s : State} (b : Nat) (w : Nat) (x : MemWord) (hk : Keeps s0 s)
    : Keeps s0 (State.writeBank s b w x) := by
  unfold State.writeBank
  repeat' first
    | (simp (maxDischargeDepth := 40) (contextual := true) [*]; done)
    | split
    | (with_reducible refine keeps_foldl ?_ (fun t a ht => ?_) _)
    | dsimp only

end Sys2Proof.Machine
end

