-- ==== Sys2Proof/Laws/KeepsQueueOps.lean ====
section
/-! SUPPORT.  Each operation of QueueOps.lean gives a later state (Keeps). -/

set_option linter.unreachableTactic false
set_option linter.unusedTactic false

namespace Sys2Proof.Machine

open Sys2Proof

@[simp ↓] theorem State.setQueue_keeps {s0 : State} {s : State} (q : Nat) (x : Option Queue) (hk : Keeps s0 s) :
    Keeps s0 (State.setQueue s q x) := by
  unfold State.setQueue
  simp (maxDischargeDepth := 40) [*]

@[simp ↓] theorem State.setEpoch_keeps {s0 : State} {s : State} (q : Nat) (e : BitVec 4) (hk : Keeps s0 s) : Keeps
    s0 (State.setEpoch s q e) := by
  unfold State.setEpoch
  simp (maxDischargeDepth := 40) [*]

@[simp ↓] theorem State.advanceR_keeps {s0 : State} {s : State} (q : Nat) (hk : Keeps s0 s) : Keeps s0
    (State.advanceR s q) := by
  unfold State.advanceR
  repeat' first
    | (simp (maxDischargeDepth := 40) (contextual := true) [*]; done)
    | split
    | (with_reducible refine keeps_foldl ?_ (fun t a ht => ?_) _)
    | dsimp only

@[simp ↓] theorem State.queueClear_keeps {s0 : State} {s : State} (q : Nat) (hk : Keeps s0 s) : Keeps s0
    (State.queueClear s q) := by
  unfold State.queueClear
  repeat' first
    | (simp (maxDischargeDepth := 40) (contextual := true) [*]; done)
    | split
    | (with_reducible refine keeps_foldl ?_ (fun t a ht => ?_) _)
    | dsimp only

@[simp ↓] theorem State.queueFault_keeps {s0 : State} {s : State} (q : Nat) (cause : Nat) (hk : Keeps s0 s) : Keeps
    s0 (State.queueFault s q cause) := by
  unfold State.queueFault
  repeat' first
    | (simp (maxDischargeDepth := 40) (contextual := true) [*]; done)
    | split
    | (with_reducible refine keeps_foldl ?_ (fun t a ht => ?_) _)
    | dsimp only

@[simp ↓] theorem State.closePacket_keeps {s0 : State} {s : State} (q : Nat) (oversize : Bool) (hk : Keeps s0 s) :
    Keeps s0 (State.closePacket s q oversize) := by
  unfold State.closePacket
  repeat' first
    | (simp (maxDischargeDepth := 40) (contextual := true) [*]; done)
    | split
    | (with_reducible refine keeps_foldl ?_ (fun t a ht => ?_) _)
    | dsimp only

@[simp ↓] theorem State.openPacket_keeps {s0 : State} {s : State} (q : Nat) (hk : Keeps s0 s) : Keeps s0
    (State.openPacket s q) := by
  unfold State.openPacket
  repeat' first
    | (simp (maxDischargeDepth := 40) (contextual := true) [*]; done)
    | split
    | (with_reducible refine keeps_foldl ?_ (fun t a ht => ?_) _)
    | dsimp only

@[simp ↓] theorem State.putItem_keeps {s0 : State} {s : State} (q : Nat) (w : Word) (hk : Keeps s0 s) : Keeps s0
    (State.putItem s q w) := by
  unfold State.putItem
  repeat' first
    | (simp (maxDischargeDepth := 40) (contextual := true) [*]; done)
    | split
    | (with_reducible refine keeps_foldl ?_ (fun t a ht => ?_) _)
    | dsimp only

@[simp ↓] theorem State.pushItem_keeps {s0 : State} {s : State} (q : Nat) (w : Word) (start : Bool) (last : Bool)
    (hk : Keeps s0 s) : Keeps s0 (State.pushItem s q w start last) := by
  unfold State.pushItem
  repeat' first
    | (simp (maxDischargeDepth := 40) (contextual := true) [*]; done)
    | split
    | (with_reducible refine keeps_foldl ?_ (fun t a ht => ?_) _)
    | dsimp only

@[simp ↓] theorem State.cutPacket_keeps {s0 : State} {s : State} (q : Nat) (hk : Keeps s0 s) : Keeps s0
    (State.cutPacket s q) := by
  unfold State.cutPacket
  repeat' first
    | (simp (maxDischargeDepth := 40) (contextual := true) [*]; done)
    | split
    | (with_reducible refine keeps_foldl ?_ (fun t a ht => ?_) _)
    | dsimp only

end Sys2Proof.Machine
end

