-- ==== Sys2Proof/Laws/KeepsBanks.lean ====
section
/-! SUPPORT.  Each operation of Banks.lean gives a later state (Keeps). -/

set_option linter.unreachableTactic false
set_option linter.unusedTactic false

namespace Sys2Proof.Machine

open Sys2Proof

@[simp ↓] theorem State.countCE_keeps {s0 : State} {s : State} (b : Nat) (n : Nat) (hk : Keeps s0 s) : Keeps s0
    (State.countCE s b n) := by
  unfold State.countCE
  simp (maxDischargeDepth := 40) [*]

@[simp ↓] theorem State.countUE_keeps {s0 : State} {s : State} (b : Nat) (n : Nat) (hk : Keeps s0 s) : Keeps s0
    (State.countUE s b n) := by
  unfold State.countUE
  simp (maxDischargeDepth := 40) [*]

@[simp ↓] theorem State.lastError_keeps {s0 : State} {s : State} (b : Nat) (w : Nat) (ue : Bool) (syndrome : Nat)
    (hk : Keeps s0 s) : Keeps s0 (State.lastError s b w ue syndrome) := by
  unfold State.lastError
  simp (maxDischargeDepth := 40) [*]

@[simp ↓] theorem State.wantReloc_keeps {s0 : State} {s : State} (m : Nat) (hk : Keeps s0 s) : Keeps s0
    (State.wantReloc s m) := by
  unfold State.wantReloc
  simp (maxDischargeDepth := 40) [*]

@[simp ↓] theorem State.submitOwn_keeps {s0 : State} {s : State} (t : Task) (locks : List Lock) (requester : Nat)
    (resource : Nat) (hk : Keeps s0 s) : Keeps s0 (State.submitOwn s t locks requester resource) := by
  unfold State.submitOwn
  repeat' first
    | (intro x; have hx : Keeps s0 x; on_goal 2 => clear_value x; on_goal 1 => subst x)
    | (intro x; subst x)
    | (simp (maxDischargeDepth := 40) (contextual := true) [*]; done)
    | (rename_i e; simp only [Prod.ext_iff] at e; obtain ⟨e1, e2⟩ := e; (try subst e1); (try subst e2))
    | split
    | (with_reducible refine keeps_foldl ?_ (fun t a ht => ?_) _)
    | (with_reducible refine keeps_mk ?_ ?_ ?_ ?_ ?_ ?_ ?_ ?_ ?_ ?_ ?_)

@[simp ↓] theorem State.freeSpare_keeps {s0 : State} {s : State} (c : Nat) (hk : Keeps s0 s) : Keeps s0
    (State.freeSpare s c) := by
  unfold State.freeSpare
  simp (maxDischargeDepth := 40) (contextual := true) [*]

@[simp ↓] theorem State.retireBank_keeps {s0 : State} {s : State} (b : Nat) (hk : Keeps s0 s) : Keeps s0
    (State.retireBank s b) := by
  unfold State.retireBank
  simp (maxDischargeDepth := 40) (contextual := true) [*]

@[simp ↓] theorem State.startRemap_keeps {s0 : State} {s : State} (b : Nat) (hk : Keeps s0 s) : Keeps s0
    (State.startRemap s b) := by
  unfold State.startRemap
  simp (maxDischargeDepth := 40) [*]

@[simp ↓] theorem State.setBankUes_keeps {s0 : State} {s : State} (b : Nat) (n : Nat) (hk : Keeps s0 s) : Keeps s0
    (State.setBankUes s b n) := by
  unfold State.setBankUes
  simp (maxDischargeDepth := 40) [*]

@[simp ↓] theorem State.bankFailing_keeps {s0 : State} {s : State} (b : Nat) (ue : Bool) (hk : Keeps s0 s) : Keeps
    s0 (State.bankFailing s b ue) := by
  unfold State.bankFailing
  simp (maxDischargeDepth := 40) [*]

@[simp ↓] theorem State.foundCE_keeps {s0 : State} {s : State} (b : Nat) (w : Nat) (syndrome : Nat) (hk : Keeps s0
    s) : Keeps s0 (State.foundCE s b w syndrome) := by
  unfold State.foundCE
  simp (maxDischargeDepth := 40) [*]

@[simp ↓] theorem State.foundUE_keeps {s0 : State} {s : State} (b : Nat) (w : Nat) (asRead : Word) (syndrome : Nat)
    (by_ : Nat) (hk : Keeps s0 s) : Keeps s0 (State.foundUE s b w asRead syndrome by_) := by
  unfold State.foundUE
  simp (maxDischargeDepth := 40) [*]

@[simp ↓] theorem State.readBank_keeps {s0 : State} {s : State} (b : Nat) (w : Nat) (ecc : Ecc) (by_ : Nat) (hk :
    Keeps s0 s) : Keeps s0 (State.readBank s b w ecc by_).1 := by
  unfold State.readBank
  repeat' first
    | (simp (maxDischargeDepth := 40) (contextual := true) [*]; done)
    | split
    | (with_reducible refine keeps_foldl ?_ (fun t a ht => ?_) _)
    | dsimp only

end Sys2Proof.Machine
end

