-- ==== Sys2Proof/Laws/KeepsRhizoids.lean ====
section
/-! SUPPORT.  Each operation of Rhizoids.lean gives a later state (Keeps). -/

set_option linter.unreachableTactic false
set_option linter.unusedTactic false

namespace Sys2Proof.Machine

open Sys2Proof

@[simp ↓] theorem State.setRhz_keeps {s0 : State} {s : State} (c : Nat) (i : Nat) (g : Nat) (r : Rhz) (hk : Keeps s0
    s) : Keeps s0 (State.setRhz s c i g r) := by
  unfold State.setRhz
  simp (maxDischargeDepth := 40) [*]

@[simp ↓] theorem State.setAhead_keeps {s0 : State} {s : State} (c : Nat) (i : Nat) (g : Nat) (n : Nat) (hk : Keeps
    s0 s) : Keeps s0 (State.setAhead s c i g n) := by
  unfold State.setAhead
  simp (maxDischargeDepth := 40) [*]

@[simp ↓] theorem State.setUseOut_keeps {s0 : State} {s : State} (m : Nat) (use : Nat) (hk : Keeps s0 s) : Keeps s0
    (State.setUseOut s m use) := by
  unfold State.setUseOut
  simp (maxDischargeDepth := 40) [*]

@[simp ↓] theorem State.onDependents_keeps {s0 : State} {s : State} (c : Nat) (d : Bool × Bool) (f : State → Nat →
    State) (hk : Keeps s0 s) (kf : ∀ (a0 : State) (a1 : Nat), Keeps s0 a0 → Keeps s0 (f a0 a1)) : Keeps s0
    (State.onDependents s c d f) := by
  unfold State.onDependents
  simp (maxDischargeDepth := 40) [*]

@[simp ↓] theorem State.exhaust_keeps {s0 : State} {s : State} (c : Nat) (i : Nat) (g : Nat) (p : Nat) (depends :
    Bool × Bool) (hk : Keeps s0 s) : Keeps s0 (State.exhaust s c i g p depends) := by
  unfold State.exhaust
  repeat' first
    | (simp (maxDischargeDepth := 40) (contextual := true) [*]; done)
    | split
    | (with_reducible refine keeps_foldl ?_ (fun t a ht => ?_) _)
    | dsimp only

@[simp ↓] theorem State.rhizoidFails_keeps {s0 : State} {s : State} (c : Nat) (i : Nat) (g : Nat) (idx : Nat) (by_ :
    Nat) (hk : Keeps s0 s) : Keeps s0 (State.rhizoidFails s c i g idx by_) := by
  unfold State.rhizoidFails
  simp (maxDischargeDepth := 40) [*]

@[simp ↓] theorem State.closePosition_keeps {s0 : State} {s : State} (c : Nat) (i : Nat) (g : Nat) (p : Nat) (hk :
    Keeps s0 s) : Keeps s0 (State.closePosition s c i g p) := by
  unfold State.closePosition
  simp (maxDischargeDepth := 40) [*]

@[simp ↓] theorem State.moveToSpare_keeps {s0 : State} {s : State} (c : Nat) (i : Nat) (g : Nat) (p : Nat) (depends
    : Bool × Bool) (x0 : List Nat) (x1 : List Bool) (hk : Keeps s0 s) : Keeps s0 (State.moveToSpare s c i g p
    depends x0 x1) := by
  induction x0 generalizing s x1 with
  | nil => cases x1 <;> (unfold State.moveToSpare; simp [hk])
  | cons a as ih =>
    cases x1 with
    | nil => unfold State.moveToSpare; simp [hk]
    | cons b bs =>
      unfold State.moveToSpare
      repeat' first
        | (intro x; have hx : Keeps s0 x; on_goal 2 => clear_value x; on_goal 1 => subst x)
        | (intro x; subst x)
        | (simp (maxDischargeDepth := 40) (contextual := true) [*]; done)
        | split
        | (with_reducible refine keeps_foldl ?_ (fun t a ht => ?_) _)
        | (refine ih ?_ ..)

@[simp ↓] theorem State.spareOrExhaust_keeps {s0 : State} {s : State} (c : Nat) (i : Nat) (g : Nat) (p : Nat)
    (depends : Bool × Bool) (hk : Keeps s0 s) : Keeps s0 (State.spareOrExhaust s c i g p depends) := by
  unfold State.spareOrExhaust
  simp (maxDischargeDepth := 40) [*]

@[simp ↓] theorem State.failRhizoid_keeps {s0 : State} {s : State} (c : Nat) (i : Nat) (g : Nat) (idx : Nat) (by_ :
    Nat) (depends : Bool × Bool) (hk : Keeps s0 s) : Keeps s0 (State.failRhizoid s c i g idx by_ depends) := by
  unfold State.failRhizoid
  repeat' first
    | (simp (maxDischargeDepth := 40) (contextual := true) [*]; done)
    | split
    | (with_reducible refine keeps_foldl ?_ (fun t a ht => ?_) _)
    | dsimp only

@[simp ↓] theorem State.endRepair_keeps {s0 : State} {s : State} (c : Nat) (i : Nat) (g : Nat) (hk : Keeps s0 s) :
    Keeps s0 (State.endRepair s c i g) := by
  unfold State.endRepair
  repeat' first
    | (simp (maxDischargeDepth := 40) (contextual := true) [*]; done)
    | split
    | (with_reducible refine keeps_foldl ?_ (fun t a ht => ?_) _)
    | dsimp only

@[simp ↓] theorem State.releaseRepair_keeps {s0 : State} {s : State} (c : Nat) (i : Nat) (g : Nat) (hk : Keeps s0 s)
    : Keeps s0 (State.releaseRepair s c i g) := by
  unfold State.releaseRepair
  repeat' first
    | (simp (maxDischargeDepth := 40) (contextual := true) [*]; done)
    | split
    | (with_reducible refine keeps_foldl ?_ (fun t a ht => ?_) _)
    | dsimp only

@[simp ↓] theorem State.visited_keeps {s0 : State} {s : State} (c : Nat) (i : Nat) (g : Nat) (x : Nat) (hk : Keeps
    s0 s) : Keeps s0 (State.visited s c i g x) := by
  unfold State.visited
  simp (maxDischargeDepth := 40) [*]

@[simp ↓] theorem State.failLane_keeps {s0 : State} {s : State} (c : Nat) (lane : Nat) (by_ : Nat) (depends : Bool ×
    Bool) (x0 : List (Fin 2 × Fin 66)) (hk : Keeps s0 s) : Keeps s0 (State.failLane s c lane by_ depends x0) := by
  induction x0 generalizing s with
  | nil => exact hk
  | cons e l ih => exact ih (keeps_ite (State.failRhizoid_keeps _ _ _ _ _ _ hk) hk)

@[simp ↓] theorem State.endRetest_keeps {s0 : State} {s : State} (c : Nat) (lane : Nat) (status : Nat) (hk : Keeps
    s0 s) : Keeps s0 (State.endRetest s c lane status) := by
  unfold State.endRetest
  repeat' first
    | (simp (maxDischargeDepth := 40) (contextual := true) [*]; done)
    | split
    | (with_reducible refine keeps_foldl ?_ (fun t a ht => ?_) _)
    | dsimp only

end Sys2Proof.Machine
end

