-- ==== Sys2Proof/Laws/KeepsSliceOps.lean ====
section
/-! SUPPORT.  Each operation of SliceOps.lean gives a later state (Keeps). -/

set_option linter.unreachableTactic false
set_option linter.unusedTactic false

namespace Sys2Proof.Machine

open Sys2Proof

@[simp ↓] theorem State.setUnit_keeps {s0 : State} {s : State} (kind : Nat) (inst : Nat) (u : BistUnit) (hk : Keeps
    s0 s) : Keeps s0 (State.setUnit s kind inst u) := by
  unfold State.setUnit
  simp (maxDischargeDepth := 40) [*]

@[simp ↓] theorem State.submitSlice_keeps {s0 : State} {s : State} (kind : Nat) (inst : Nat) (hk : Keeps s0 s) :
    Keeps s0 (State.submitSlice s kind inst) := by
  unfold State.submitSlice
  simp (maxDischargeDepth := 40) [*]

@[simp ↓] theorem State.abortSlice_keeps {s0 : State} {s : State} (kind : Nat) (inst : Nat) (hk : Keeps s0 s) :
    Keeps s0 (State.abortSlice s kind inst) := by
  unfold State.abortSlice
  repeat' first
    | (simp (maxDischargeDepth := 40) (contextual := true) [*]; done)
    | split
    | (with_reducible refine keeps_foldl ?_ (fun t a ht => ?_) _)
    | dsimp only

end Sys2Proof.Machine
end

