-- ==== Sys2Proof/Laws/KeepsMemory.lean ====
section
/-! SUPPORT.  Each operation of Memory.lean gives a later state (Keeps). -/

set_option linter.unreachableTactic false
set_option linter.unusedTactic false

namespace Sys2Proof.Machine

open Sys2Proof

@[simp ↓] theorem State.setPortResp_keeps {s0 : State} {s : State} (m : Nat) (b : Nat) (r : Option MResp) (hk :
    Keeps s0 s) : Keeps s0 (State.setPortResp s m b r) := by
  unfold State.setPortResp
  simp (maxDischargeDepth := 40) [*]

@[simp ↓] theorem State.soundPort_keeps {s0 : State} {s : State} (c : Nat) (g : Nat) (code : Nat) (hk : Keeps s0 s)
    : Keeps s0 (State.soundPort s c g code) := by
  unfold State.soundPort
  simp (maxDischargeDepth := 40) (contextual := true) [*]

@[simp ↓] theorem State.portParity_keeps {s0 : State} {s : State} (m : Nat) (b : Nat) (response : Bool) (hk : Keeps
    s0 s) : Keeps s0 (State.portParity s m b response) := by
  unfold State.portParity
  simp (maxDischargeDepth := 40) [*]

@[simp ↓] theorem State.portRead_keeps {s0 : State} {s : State} (m : Nat) (b : Nat) (w : Nat) (ecc : Ecc) (hk :
    Keeps s0 s) : Keeps s0 (State.portRead s m b w ecc).1 := by
  unfold State.portRead
  repeat' first
    | (simp (maxDischargeDepth := 40) (contextual := true) [*]; done)
    | split
    | (with_reducible refine keeps_foldl ?_ (fun t a ht => ?_) _)
    | dsimp only

@[simp ↓] theorem State.portWrite_keeps {s0 : State} {s : State} (m : Nat) (b : Nat) (w : Nat) (be : Nat) (v : Word)
    (ecc : Ecc) (hk : Keeps s0 s) : Keeps s0 (State.portWrite s m b w be v ecc).1 := by
  unfold State.portWrite
  simp (maxDischargeDepth := 40) [*]

@[simp ↓] theorem State.portServe_keeps {s0 : State} {s : State} (m : Nat) (b : Nat) (r : PortReq) (ecc : Ecc) (hk :
    Keeps s0 s) : Keeps s0 (State.portServe s m b r ecc).1 := by
  unfold State.portServe
  simp (maxDischargeDepth := 40) [*]

@[simp ↓] theorem execCeReread_goes {s0 : State} {s : State} (mat : MatId) (bank : Fin 8) (word : BitVec 13) (again
    : Option Byte) (hk : Keeps s0 s) : Goes s0 (execCeReread mat bank word again s) := by
  unfold execCeReread
  repeat' first
    | (simp (maxDischargeDepth := 40) (contextual := true) [*]; done)
    | split
    | (with_reducible refine keeps_foldl ?_ (fun t a ht => ?_) _)
    | dsimp only

@[simp ↓] theorem State.foundCEs_keeps {s0 : State} {s : State} (b : Nat) (l : List (BitVec 13 × Byte)) (hk : Keeps
    s0 s) : Keeps s0 (State.foundCEs s b l) := by
  unfold State.foundCEs
  simp (maxDischargeDepth := 40) (contextual := true) [*]

@[simp ↓] theorem State.foundUEs_keeps {s0 : State} {s : State} (b : Nat) (by_ : Nat) (l : List (BitVec 13 × Word ×
    Byte)) (hk : Keeps s0 s) : Keeps s0 (State.foundUEs s b by_ l) := by
  unfold State.foundUEs
  simp (maxDischargeDepth := 40) (contextual := true) [*]

@[simp ↓] theorem State.foundSpare_keeps {s0 : State} {s : State} (b : Nat) (ces : List (BitVec 13 × Byte)) (ues :
    List (BitVec 13 × Word × Byte)) (hk : Keeps s0 s) : Keeps s0 (State.foundSpare s b ces ues) := by
  unfold State.foundSpare
  simp (maxDischargeDepth := 40) (contextual := true) [*]

@[simp ↓] theorem execScrubPass_goes {s0 : State} {s : State} (bank : BankId) (ces : List (BitVec 13 × Byte)) (ues :
    List (BitVec 13 × Word × Byte)) (hk : Keeps s0 s) : Goes s0 (execScrubPass bank ces ues s) := by
  unfold execScrubPass
  simp (maxDischargeDepth := 40) [*]

@[simp ↓] theorem execBankRemap_goes {s0 : State} {s : State} (bank : Fin 2048) (hk : Keeps s0 s) : Goes s0
    (execBankRemap bank s) := by
  unfold execBankRemap
  repeat' first
    | (simp (maxDischargeDepth := 40) (contextual := true) [*]; done)
    | split
    | (with_reducible refine keeps_foldl ?_ (fun t a ht => ?_) _)
    | dsimp only

@[simp ↓] theorem State.dropRemap_keeps {s0 : State} {s : State} (b : Nat) (hk : Keeps s0 s) : Keeps s0
    (State.dropRemap s b) := by
  unfold State.dropRemap
  simp (maxDischargeDepth := 40) [*]

@[simp] theorem remapCopy_wf (b c : Nat) (skip : List Nat) {t : Tab MemWord} (h : Tab.wf memWord0 t = true) :
    Tab.wf memWord0 (remapCopy b c skip t) = true := by
  unfold remapCopy
  lift_lets
  intro p t'
  have hk : Tab.wf memWord0 t' = true := Tab.filter_wf h _
  clear_value t'
  generalize List.filter _ t = l
  induction l generalizing t' with
  | nil => exact hk
  | cons a l ih => exact ih _ (Tab.put_wf hk _ _)

@[simp ↓] theorem execBankRemapped_goes {s0 : State} {s : State} (bank : Fin 2048) (ces : List (BitVec 13 × Byte))
    (ues : List (BitVec 13 × Word × Byte)) (spareFails : Bool) (copyNs : BitVec 32) (hk : Keeps s0 s) : Goes s0
    (execBankRemapped bank ces ues spareFails copyNs s) := by
  unfold execBankRemapped
  repeat' first
    | (simp (maxDischargeDepth := 40) (contextual := true) [*]; done)
    | split
    | (with_reducible refine keeps_foldl ?_ (fun t a ht => ?_) _)
    | dsimp only

@[simp ↓] theorem State.repairBank_keeps {s0 : State} {s : State} (c : Nat) (b : Nat) (r : CmdRef) (hk : Keeps s0 s)
    : Keeps s0 (State.repairBank s c b r).st := by
  unfold State.repairBank
  refine keeps_ite_st (by simp [hk]) (keeps_ite_st (by simp [hk]) ?_)
  dsimp only
  split
  · simp [hk]
  · exact Submitted.report_keeps _ (State.submit_keeps _ _ _ _ _ (by simp (maxDischargeDepth := 40) [hk]))

@[simp ↓] theorem State.repairGroup_keeps {s0 : State} {s : State} (c : Nat) (i : Nat) (g : Nat) (r : CmdRef) (hk :
    Keeps s0 s) : Keeps s0 (State.repairGroup s c i g r).st := by
  unfold State.repairGroup
  split
  · simp [hk]
  · rename_i s x _ e
    have h := State.submit_keeps (.spareSwap c i g 66) [.rgroup c i g] 3 c (some r) hk
    rw [e] at h
    simp (maxDischargeDepth := 40) [h]

@[simp ↓] theorem State.repairLane_keeps {s0 : State} {s : State} (c : Nat) (lane : Nat) (r : CmdRef) (hk : Keeps s0
    s) : Keeps s0 (State.repairLane s c lane r).st := by
  unfold State.repairLane
  simp (maxDischargeDepth := 40) [*]

@[simp ↓] theorem execRepair_goes {s0 : State} {s : State} (h : Hdr) (kind : Byte) (column : BitVec 16) (unit :
    Byte) (group : Byte) (hk : Keeps s0 s) : Goes s0 (execRepair h kind column unit group s) := by
  unfold execRepair
  repeat' first
    | (simp (maxDischargeDepth := 40) (contextual := true) [*]; done)
    | split
    | (with_reducible refine keeps_foldl ?_ (fun t a ht => ?_) _)
    | dsimp only

end Sys2Proof.Machine
end

