-- ==== Sys2Proof/Laws/KeepsSupply.lean ====
section
/-! SUPPORT.  Each operation of Supply.lean gives a later state (Keeps). -/

set_option linter.unreachableTactic false
set_option linter.unusedTactic false

namespace Sys2Proof.Machine

open Sys2Proof

@[simp ↓] theorem State.requestF_keeps {s0 : State} {s : State} (mv : Nat) (hk : Keeps s0 s) : Keeps s0
    (State.requestF s mv) := by
  unfold State.requestF
  simp (maxDischargeDepth := 40) [*]

@[simp ↓] theorem State.countSteps_keeps {s0 : State} {s : State} (mv : Nat) (hk : Keeps s0 s) : Keeps s0
    (State.countSteps s mv) := by
  unfold State.countSteps
  simp (maxDischargeDepth := 40) [*]

@[simp ↓] theorem State.showCapHeld_keeps {s0 : State} {s : State}  (hk : Keeps s0 s) : Keeps s0 (State.showCapHeld
    s) := by
  unfold State.showCapHeld
  simp (maxDischargeDepth := 40) [*]

@[simp ↓] theorem State.showBound_keeps {s0 : State} {s : State}  (hk : Keeps s0 s) : Keeps s0 (State.showBound s) := by
  unfold State.showBound
  simp (maxDischargeDepth := 40) [*]

@[simp ↓] theorem State.raiseToFloor_keeps {s0 : State} {s : State}  (hk : Keeps s0 s) : Keeps s0
    (State.raiseToFloor s) := by
  unfold State.raiseToFloor
  repeat' first
    | (simp (maxDischargeDepth := 40) (contextual := true) [*]; done)
    | split
    | (with_reducible refine keeps_foldl ?_ (fun t a ht => ?_) _)
    | dsimp only

end Sys2Proof.Machine
end

