-- ==== Sys2Proof/Laws/KeepsSlots.lean ====
section
/-! SUPPORT.  Each operation of Slots.lean gives a later state (Keeps). -/

namespace Sys2Proof.Machine

open Sys2Proof

@[simp ↓] theorem State.setSlot_keeps {s0 : State} {s : State} (m : Nat) (k : Nat) (x : Slot) (hk : Keeps s0 s) :
    Keeps s0 (State.setSlot s m k x) := by
  unfold State.setSlot
  simp (maxDischargeDepth := 40) [*]

@[simp ↓] theorem State.setSlotState_keeps {s0 : State} {s : State} (m : Nat) (k : Nat) (st : Nat) (hk : Keeps s0 s)
    : Keeps s0 (State.setSlotState s m k st) := by
  unfold State.setSlotState
  simp (maxDischargeDepth := 40) [*]

@[simp ↓] theorem State.setEntry_keeps {s0 : State} {s : State} (m : Nat) (e : Nat) (x : LibEntry) (valid : Bool)
    (hk : Keeps s0 s) : Keeps s0 (State.setEntry s m e x valid) := by
  unfold State.setEntry
  simp (maxDischargeDepth := 40) [*]

@[simp ↓] theorem State.setHeld_keeps {s0 : State} {s : State} (m : Nat) (b : Bool) (hk : Keeps s0 s) : Keeps s0
    (State.setHeld s m b) := by
  unfold State.setHeld
  simp (maxDischargeDepth := 40) [*]

@[simp ↓] theorem State.freshN_keeps {s0 : State} {x1 : State} (x0 : Nat) (hk : Keeps s0 x1) : Keeps s0
    (State.freshN x0 x1).1 := by
  induction x0 generalizing x1 with
  | zero => exact hk
  | succ n ih => exact ih (State.fresh_keeps hk)

@[simp ↓] theorem State.firstHolds_keeps {s0 : State} {s : State} (c : Ctx) (hk : Keeps s0 s) : Keeps s0
    (State.firstHolds s c).1 := by
  unfold State.firstHolds
  simp (maxDischargeDepth := 40) [*]

@[simp ↓] theorem State.noteFloor_keeps {s0 : State} {s : State} (m : Nat) (hk : Keeps s0 s) : Keeps s0
    (State.noteFloor s m) := by
  unfold State.noteFloor
  simp (maxDischargeDepth := 40) [*]

@[simp ↓] theorem State.recomputeOwn_keeps {s0 : State} {s : State} (m : Nat) (k : Nat) (hk : Keeps s0 s) : Keeps s0
    (State.recomputeOwn s m k) := by
  unfold State.recomputeOwn
  simp (maxDischargeDepth := 40) [*]

@[simp ↓] theorem State.writeSlot_keeps {s0 : State} {s : State} (m : Nat) (k : Nat) (w : SlotWrite) (hk : Keeps s0
    s) : Keeps s0 (State.writeSlot s m k w) := by
  unfold State.writeSlot
  simp (maxDischargeDepth := 40) [*]

@[simp ↓] theorem State.emptySlot_keeps {s0 : State} {s : State} (m : Nat) (k : Nat) (hk : Keeps s0 s) : Keeps s0
    (State.emptySlot s m k) := by
  unfold State.emptySlot
  simp (maxDischargeDepth := 40) [*]

@[simp ↓] theorem State.settleSlot_keeps {s0 : State} {s : State} (m : Nat) (k : Nat) (hk : Keeps s0 s) : Keeps s0
    (State.settleSlot s m k) := by
  unfold State.settleSlot
  simp (maxDischargeDepth := 40) [*]

@[simp ↓] theorem State.reinitSlot_keeps {s0 : State} {s : State} (m : Nat) (k : Nat) (hk : Keeps s0 s) : Keeps s0
    (State.reinitSlot s m k) := by
  unfold State.reinitSlot
  simp (maxDischargeDepth := 40) [*]

@[simp ↓] theorem State.setGroup_keeps {s0 : State} {s : State} (g : Nat) (x : Group) (hk : Keeps s0 s) : Keeps s0
    (State.setGroup s g x) := by
  unfold State.setGroup
  simp (maxDischargeDepth := 40) [*]

@[simp ↓] theorem State.holdClocks_keeps {s0 : State} {s : State} (m : Nat) (hk : Keeps s0 s) : Keeps s0
    (State.holdClocks s m) := by
  unfold State.holdClocks
  simp (maxDischargeDepth := 40) [*]

@[simp ↓] theorem State.releaseClocks_keeps {s0 : State} {s : State} (m : Nat) (hk : Keeps s0 s) : Keeps s0
    (State.releaseClocks s m) := by
  unfold State.releaseClocks
  simp (maxDischargeDepth := 40) [*]

@[simp ↓] theorem State.clocksAfterFlip_keeps {s0 : State} {s : State} (m : Nat) (hk : Keeps s0 s) : Keeps s0
    (State.clocksAfterFlip s m) := by
  unfold State.clocksAfterFlip
  simp (maxDischargeDepth := 40) [*]

end Sys2Proof.Machine
end

