-- ==== Sys2Proof/Laws/KeepsAccessOps.lean ====
section
/-! SUPPORT.  Each operation of AccessOps.lean gives a later state (Keeps). -/

set_option linter.unreachableTactic false
set_option linter.unusedTactic false

namespace Sys2Proof.Machine

open Sys2Proof

@[simp ↓] theorem State.badAccess_keeps {s0 : State} {s : State} (offset : Nat) (size : Nat) (write : Bool) (hk :
    Keeps s0 s) : Keeps s0 (State.badAccess s offset size write) := by
  unfold State.badAccess
  simp (maxDischargeDepth := 40) [*]

@[simp ↓] theorem State.coreWaits_keeps {s0 : State} {s : State} (r : Requester) (w : Option BusWait) (hk : Keeps s0
    s) : Keeps s0 (State.coreWaits s r w) := by
  unfold State.coreWaits
  repeat' first
    | (simp (maxDischargeDepth := 40) (contextual := true) [*]; done)
    | split
    | (with_reducible refine keeps_foldl ?_ (fun t a ht => ?_) _)
    | dsimp only

@[simp ↓] theorem State.coreBusError_keeps {s0 : State} {s : State} (r : Requester) (hk : Keeps s0 s) : Keeps s0
    (State.coreBusError s r) := by
  unfold State.coreBusError
  simp (maxDischargeDepth := 40) [*]

@[simp ↓] theorem State.noteGated_keeps {s0 : State} {s : State} (k : Nat) (size : Nat) (write : Bool) (hk : Keeps
    s0 s) : Keeps s0 (State.noteGated s k size write) := by
  unfold State.noteGated
  simp (maxDischargeDepth := 40) [*]

@[simp ↓] theorem State.gatedAccess_keeps {s0 : State} {s : State} (req : Requester) (k : Nat) (size : Nat) (write :
    Bool) (hk : Keeps s0 s) : Keeps s0 (State.gatedAccess s req k size write) := by
  unfold State.gatedAccess
  repeat' first
    | (simp (maxDischargeDepth := 40) (contextual := true) [*]; done)
    | split
    | (with_reducible refine keeps_foldl ?_ (fun t a ht => ?_) _)
    | dsimp only

@[simp ↓] theorem State.regAccess_keeps {s0 : State} {s : State} (req : Requester) (k : Nat) (size : Nat) (write :
    Bool) (body : State → State) (hk : Keeps s0 s) (kbody : ∀ (a0 : State), Keeps s0 a0 → Keeps s0 (body a0)) :
    Keeps s0 (State.regAccess s req k size write body) := by
  unfold State.regAccess
  repeat' first
    | (simp (maxDischargeDepth := 40) (contextual := true) [*]; done)
    | split
    | (with_reducible refine keeps_foldl ?_ (fun t a ht => ?_) _)
    | dsimp only

@[simp ↓] theorem State.regWrite_keeps {s0 : State} {s : State} (req : Requester) (k : Nat) (body : State → State)
    (hk : Keeps s0 s) (kbody : ∀ (a0 : State), Keeps s0 a0 → Keeps s0 (body a0)) : Keeps s0 (State.regWrite s req k
    body) := by
  unfold State.regWrite
  simp (maxDischargeDepth := 40) (contextual := true) [*]

@[simp ↓] theorem State.plainWrite_keeps {s0 : State} {s : State} (k : Nat) (v : Reg) (hk : Keeps s0 s) : Keeps s0
    (State.plainWrite s k v) := by
  unfold State.plainWrite
  simp (maxDischargeDepth := 40) [*]

end Sys2Proof.Machine
end

