-- ==== Sys2Proof/Laws/KeepsPinOps.lean ====
section
/-! SUPPORT.  Each operation of PinOps.lean gives a later state (Keeps). -/

set_option linter.unreachableTactic false
set_option linter.unusedTactic false

namespace Sys2Proof.Machine

open Sys2Proof

@[simp ↓] theorem State.setPinLevel_keeps {s0 : State} {s : State} (v : Nat) (b : Bool) (hk : Keeps s0 s) : Keeps s0
    (State.setPinLevel s v b) := by
  unfold State.setPinLevel
  simp (maxDischargeDepth := 40) [*]

@[simp ↓] theorem State.setPinOut_keeps {s0 : State} {s : State} (v : Nat) (b : Option Bool) (hk : Keeps s0 s) :
    Keeps s0 (State.setPinOut s v b) := by
  unfold State.setPinOut
  simp (maxDischargeDepth := 40) [*]

@[simp ↓] theorem State.settlePin_keeps {s0 : State} {s : State} (v : Nat) (hk : Keeps s0 s) : Keeps s0
    (State.settlePin s v) := by
  unfold State.settlePin
  repeat' first
    | (simp (maxDischargeDepth := 40) (contextual := true) [*]; done)
    | split
    | (with_reducible refine keeps_foldl ?_ (fun t a ht => ?_) _)
    | dsimp only

@[simp ↓] theorem State.settlePins_keeps {s0 : State} {s : State} (vs : List Nat) (hk : Keeps s0 s) : Keeps s0
    (State.settlePins s vs) := by
  unfold State.settlePins
  simp (maxDischargeDepth := 40) (contextual := true) [*]

@[simp ↓] theorem State.settlePort_keeps {s0 : State} {s : State} (p : Nat) (hk : Keeps s0 s) : Keeps s0
    (State.settlePort s p) := by
  unfold State.settlePort
  simp (maxDischargeDepth := 40) [*]

@[simp ↓] theorem State.setPinCause_keeps {s0 : State} {s : State} (v : Nat) (c : Byte) (hk : Keeps s0 s) : Keeps s0
    (State.setPinCause s v c) := by
  unfold State.setPinCause
  simp (maxDischargeDepth := 40) [*]

@[simp ↓] theorem State.abandonSurvey_keeps {s0 : State} {s : State} (p : Nat) (hk : Keeps s0 s) : Keeps s0
    (State.abandonSurvey s p) := by
  unfold State.abandonSurvey
  repeat' first
    | (simp (maxDischargeDepth := 40) (contextual := true) [*]; done)
    | split
    | (with_reducible refine keeps_foldl ?_ (fun t a ht => ?_) _)
    | dsimp only

@[simp ↓] theorem State.barPin_keeps {s0 : State} {s : State} (i : Nat) (v : Nat) (hk : Keeps s0 s) : Keeps s0
    (State.barPin s i v) := by
  unfold State.barPin
  simp (maxDischargeDepth := 40) [*]

@[simp ↓] theorem State.startSwitch_keeps {s0 : State} {s : State} (v : Nat) (hk : Keeps s0 s) : Keeps s0
    (State.startSwitch s v) := by
  unfold State.startSwitch
  simp (maxDischargeDepth := 40) [*]

@[simp ↓] theorem State.unbarPin_keeps {s0 : State} {s : State} (mask : Byte) (v : Nat) (hk : Keeps s0 s) : Keeps s0
    (State.unbarPin s mask v) := by
  unfold State.unbarPin
  simp (maxDischargeDepth := 40) [*]

@[simp ↓] theorem State.holdPins_keeps {s0 : State} {s : State} (m : Nat) (slot : Nat) (hk : Keeps s0 s) : Keeps s0
    (State.holdPins s m slot) := by
  unfold State.holdPins
  simp (maxDischargeDepth := 40) (contextual := true) [*]

@[simp ↓] theorem State.freePins_keeps {s0 : State} {s : State} (m : Nat) (hk : Keeps s0 s) : Keeps s0
    (State.freePins s m) := by
  unfold State.freePins
  simp (maxDischargeDepth := 40) (contextual := true) [*]

@[simp ↓] theorem State.settlePaced_keeps {s0 : State} {s : State} (mats : List Nat) (hk : Keeps s0 s) : Keeps s0
    (State.settlePaced s mats) := by
  unfold State.settlePaced
  simp (maxDischargeDepth := 40) (contextual := true) [*]

@[simp ↓] theorem State.endLimit_keeps {s0 : State} {s : State} (p : Nat) (hk : Keeps s0 s) : Keeps s0
    (State.endLimit s p) := by
  unfold State.endLimit
  simp (maxDischargeDepth := 40) [*]

@[simp ↓] theorem State.switchPort_keeps {s0 : State} {s : State} (p : Nat) (hk : Keeps s0 s) : Keeps s0
    (State.switchPort s p) := by
  unfold State.switchPort
  simp (maxDischargeDepth := 40) [*]

@[simp ↓] theorem State.storeCfg_keeps {s0 : State} {s : State} (p : Nat) (v : Reg) (hk : Keeps s0 s) : Keeps s0
    (State.storeCfg s p v) := by
  unfold State.storeCfg
  simp (maxDischargeDepth := 40) [*]

@[simp ↓] theorem State.writeCfg_keeps {s0 : State} {s : State} (p : Nat) (v0 : Reg) (hk : Keeps s0 s) : Keeps s0
    (State.writeCfg s p v0) := by
  unfold State.writeCfg
  simp (maxDischargeDepth := 40) [*]

@[simp ↓] theorem State.writeOwner_keeps {s0 : State} {s : State} (p : Nat) (v0 : Reg) (hk : Keeps s0 s) : Keeps s0
    (State.writeOwner s p v0) := by
  unfold State.writeOwner
  simp (maxDischargeDepth := 40) [*]

@[simp ↓] theorem State.writeGpioOwner_keeps {s0 : State} {s : State} (n : Nat) (v0 : Reg) (hk : Keeps s0 s) : Keeps
    s0 (State.writeGpioOwner s n v0) := by
  unfold State.writeGpioOwner
  simp (maxDischargeDepth := 40) [*]

end Sys2Proof.Machine
end

