-- ==== Sys2Proof/Laws/KeepsTallyOps.lean ====
section
/-! SUPPORT.  Each operation of TallyOps.lean gives a later state (Keeps). -/

set_option linter.unreachableTactic false
set_option linter.unusedTactic false

namespace Sys2Proof.Machine

open Sys2Proof

@[simp ↓] theorem State.storePos_keeps {s0 : State} {s : State} (t : Nat) (p : BitVec 48) (hk : Keeps s0 s) : Keeps
    s0 (State.storePos s t p) := by
  unfold State.storePos
  simp (maxDischargeDepth := 40) [*]

@[simp ↓] theorem State.setPacer_keeps {s0 : State} {s : State} (p : Nat) (x : Pacer) (hk : Keeps s0 s) : Keeps s0
    (State.setPacer s p x) := by
  unfold State.setPacer
  simp (maxDischargeDepth := 40) [*]

@[simp ↓] theorem State.updPacer_keeps {s0 : State} {s : State} (p : Nat) (f : Pacer → Pacer) (hk : Keeps s0 s) :
    Keeps s0 (State.updPacer s p f) := by
  unfold State.updPacer
  simp (maxDischargeDepth := 40) [*]

@[simp ↓] theorem State.trackCount_keeps {s0 : State} {s : State} (t : Nat) (i : Nat) (hk : Keeps s0 s) : Keeps s0
    (State.trackCount s t i) := by
  unfold State.trackCount
  simp (maxDischargeDepth := 40) [*]

@[simp ↓] theorem State.stimDrop_keeps {s0 : State} {s : State} (e : Nat) (hk : Keeps s0 s) : Keeps s0
    (State.stimDrop s e) := by
  unfold State.stimDrop
  simp (maxDischargeDepth := 40) [*]

@[simp ↓] theorem State.setTallies_keeps {s0 : State} {s : State} (t : Nat) (l : List Tally) (hk : Keeps s0 s) :
    Keeps s0 (State.setTallies s t l) := by
  unfold State.setTallies
  simp (maxDischargeDepth := 40) [*]

@[simp ↓] theorem State.updTally_keeps {s0 : State} {s : State} (t : Nat) (id : Nat) (f : Tally → Tally) (hk : Keeps
    s0 s) : Keeps s0 (State.updTally s t id f) := by
  unfold State.updTally
  simp (maxDischargeDepth := 40) [*]

@[simp ↓] theorem State.drainRecords_keeps {s0 : State} {s : State} (e : Nat) (x0 : List (Nat × Tally)) (hk : Keeps
    s0 s) : Keeps s0 (State.drainRecords s e x0) := by
  induction x0 generalizing s with
  | nil => unfold State.drainRecords; simp [hk]
  | cons a as ih =>
    obtain ⟨t, x⟩ := a
    unfold State.drainRecords
    simp (maxDischargeDepth := 40) (contextual := true) [hk, ih]

@[simp ↓] theorem State.offerRecord_keeps {s0 : State} {s : State} (t : Nat) (x : Tally) (hk : Keeps s0 s) : Keeps
    s0 (State.offerRecord s t x) := by
  unfold State.offerRecord
  simp (maxDischargeDepth := 40) [*]

@[simp ↓] theorem State.removeTally_keeps {s0 : State} {s : State} (t : Nat) (id : Nat) (expire : Bool) (hk : Keeps
    s0 s) : Keeps s0 (State.removeTally s t id expire) := by
  unfold State.removeTally
  repeat' first
    | (simp (maxDischargeDepth := 40) (contextual := true) [*]; done)
    | split
    | (with_reducible refine keeps_foldl ?_ (fun t a ht => ?_) _)
    | dsimp only

@[simp ↓] theorem State.actMissed_keeps {s0 : State} {s : State} (t : Nat) (id : Nat) (cause : Nat) (hk : Keeps s0
    s) : Keeps s0 (State.actMissed s t id cause) := by
  unfold State.actMissed
  simp (maxDischargeDepth := 40) [*]

@[simp ↓] theorem State.schedule_keeps {s0 : State} {s : State} (t : Nat) (st : Nat) (id : Nat) (birth : BitVec 48)
    (hk : Keeps s0 s) : Keeps s0 (State.schedule s t st id birth) := by
  unfold State.schedule
  simp (maxDischargeDepth := 40) [*]

@[simp ↓] theorem State.stepActs_keeps {s0 : State} {s : State} (t : Nat) (old : BitVec 48) (new : BitVec 48) (l :
    List Action) (hk : Keeps s0 s) : Keeps s0 (State.stepActs s t old new l) := by
  unfold State.stepActs
  simp (maxDischargeDepth := 40) (contextual := true) [*]

@[simp ↓] theorem State.decideTally_keeps {s0 : State} {s : State} (t : Nat) (id : Nat) (hk : Keeps s0 s) : Keeps s0
    (State.decideTally s t id) := by
  unfold State.decideTally
  repeat' first
    | (simp (maxDischargeDepth := 40) (contextual := true) [*]; done)
    | split
    | (with_reducible refine keeps_foldl ?_ (fun t a ht => ?_) _)
    | dsimp only

@[simp ↓] theorem State.noteTally_keeps {s0 : State} {s : State} (t : Nat) (id : Nat) (cfg : Reg) (v : NoteVal) (hk
    : Keeps s0 s) : Keeps s0 (State.noteTally s t id cfg v) := by
  unfold State.noteTally
  simp (maxDischargeDepth := 40) [*]

@[simp ↓] theorem State.tallyPoints_keeps {s0 : State} {s : State} (t : Nat) (new : BitVec 48) (id : Nat) (hk :
    Keeps s0 s) : Keeps s0 (State.tallyPoints s t new id) := by
  unfold State.tallyPoints
  split
  · exact hk
  · lift_lets
    intro d f a dec b u lim
    have h : Keeps s0 b := by simp (maxDischargeDepth := 40) [b, a, hk]
    have k : Keeps s0 u := by
      refine keeps_foldl h (fun t x ht => ?_) _
      beta_reduce
      refine keeps_ite ?_ ht
      generalize e : t.fresh = y
      have h : Keeps s0 y.2 := e ▸ State.fresh_keeps ht
      obtain ⟨v, u⟩ := y
      simp (maxDischargeDepth := 40) [ht, h]
    clear_value u
    simp (maxDischargeDepth := 40) [k]

@[simp ↓] theorem State.moveOne_keeps {s0 : State} {s : State} (t : Nat) (new : BitVec 48) (hk : Keeps s0 s) : Keeps
    s0 (State.moveOne s t new) := by
  unfold State.moveOne
  simp (maxDischargeDepth := 40) (contextual := true) [*]

@[simp ↓] theorem State.moveTrack_keeps {s0 : State} {s : State} (t : Nat) (new : BitVec 48) (hk : Keeps s0 s) :
    Keeps s0 (State.moveTrack s t new) := by
  unfold State.moveTrack
  simp (maxDischargeDepth := 40) (contextual := true) [*]

@[simp ↓] theorem State.moveTimeTracks_keeps {s0 : State} {s : State}  (hk : Keeps s0 s) : Keeps s0
    (State.moveTimeTracks s) := by
  unfold State.moveTimeTracks
  simp (maxDischargeDepth := 40) (contextual := true) [*]

@[simp ↓] theorem State.axisMove_keeps {s0 : State} {s : State} (m : Nat) (pos : BitVec 48) (hk : Keeps s0 s) :
    Keeps s0 (State.axisMove s m pos) := by
  unfold State.axisMove
  simp (maxDischargeDepth := 40) (contextual := true) [*]

@[simp ↓] theorem State.takeStim_keeps {s0 : State} {s : State} (st : Nat) (pos : BitVec 48) (value : Nat) (meas :
    BitVec 32) (hk : Keeps s0 s) : Keeps s0 (State.takeStim s st pos value meas) := by
  unfold State.takeStim
  simp (maxDischargeDepth := 40) [*]

@[simp ↓] theorem State.applyNote_keeps {s0 : State} {s : State} (m : Nat) (k : BitVec 96) (taken : BitVec 48) (hk :
    Keeps s0 s) : Keeps s0 (State.applyNote s m k taken) := by
  unfold State.applyNote
  simp (maxDischargeDepth := 40) [*]

@[simp ↓] theorem State.applyToks_keeps {s0 : State} {s : State} (p : Nat) (x0 : List PacedTok) (hk : Keeps s0 s) :
    Keeps s0 (State.applyToks s p x0) := by
  fun_induction State.applyToks s p x0
  all_goals simp (maxDischargeDepth := 40) [*]

@[simp ↓] theorem State.applyPaced_keeps {s0 : State} {s : State} (p : Nat) (hk : Keeps s0 s) : Keeps s0
    (State.applyPaced s p) := by
  unfold State.applyPaced
  simp (maxDischargeDepth := 40) [*]

@[simp ↓] theorem State.applyWaiting_keeps {s0 : State} {s : State}  (hk : Keeps s0 s) : Keeps s0
    (State.applyWaiting s) := by
  unfold State.applyWaiting
  simp (maxDischargeDepth := 40) (contextual := true) [*]

@[simp ↓] theorem State.dropPaced_keeps {s0 : State} {s : State} (p : Nat) (hk : Keeps s0 s) : Keeps s0
    (State.dropPaced s p) := by
  unfold State.dropPaced
  simp (maxDischargeDepth := 40) [*]

@[simp ↓] theorem State.keepPaced_keeps {s0 : State} {s : State} (p : Nat) (k : PacedTok) (hk : Keeps s0 s) : Keeps
    s0 (State.keepPaced s p k) := by
  unfold State.keepPaced
  simp (maxDischargeDepth := 40) [*]

end Sys2Proof.Machine
end

