-- ==== Sys2Proof/Laws/KeepsWindowOps.lean ====
section
/-! SUPPORT.  Each operation of WindowOps.lean gives a later state (Keeps). -/

set_option linter.unreachableTactic false
set_option linter.unusedTactic false

namespace Sys2Proof.Machine

open Sys2Proof

@[simp ↓] theorem State.setWindow_keeps {s0 : State} {s : State} (p : Nat) (l : List WinAcc) (hk : Keeps s0 s) :
    Keeps s0 (State.setWindow s p l) := by
  unfold State.setWindow
  simp (maxDischargeDepth := 40) [*]

@[simp ↓] theorem State.winAnswer_keeps {s0 : State} {s : State} (a : WinAcc) (v : Word) (hk : Keeps s0 s) : Keeps
    s0 (State.winAnswer s a v) := by
  unfold State.winAnswer
  simp (maxDischargeDepth := 40) [*]

@[simp ↓] theorem State.serveWindow_keeps {s0 : State} {s : State} (p : Nat) (x0 : List WinAcc) (hk : Keeps s0 s) :
    Keeps s0 (State.serveWindow s p x0) := by
  fun_induction State.serveWindow s p x0
  all_goals simp (maxDischargeDepth := 40) [*]

@[simp ↓] theorem State.endWindow_keeps {s0 : State} {s : State} (p : Nat) (v : Word) (hk : Keeps s0 s) : Keeps s0
    (State.endWindow s p v) := by
  unfold State.endWindow
  repeat' first
    | (simp (maxDischargeDepth := 40) (contextual := true) [*]; done)
    | split
    | (with_reducible refine keeps_foldl ?_ (fun t a ht => ?_) _)
    | dsimp only

@[simp ↓] theorem State.serveHeld_keeps {s0 : State} {s : State} (p : Nat) (hk : Keeps s0 s) : Keeps s0
    (State.serveHeld s p) := by
  unfold State.serveHeld
  simp (maxDischargeDepth := 40) [*]

@[simp ↓] theorem State.flushWindow_keeps {s0 : State} {s : State} (p : Nat) (hk : Keeps s0 s) : Keeps s0
    (State.flushWindow s p) := by
  unfold State.flushWindow
  simp (maxDischargeDepth := 40) (contextual := true) [*]

@[simp ↓] theorem State.flushWindows_keeps {s0 : State} {s : State}  (hk : Keeps s0 s) : Keeps s0
    (State.flushWindows s) := by
  unfold State.flushWindows
  simp (maxDischargeDepth := 40) (contextual := true) [*]

@[simp ↓] theorem State.dropWindow_keeps {s0 : State} {s : State} (p : Nat) (hk : Keeps s0 s) : Keeps s0
    (State.dropWindow s p) := by
  unfold State.dropWindow
  simp (maxDischargeDepth := 40) [*]

end Sys2Proof.Machine
end

