-- ==== Sys2Proof/Laws/KeepsPaceOps.lean ====
section
/-! SUPPORT.  Each operation of PaceOps.lean gives a later state (Keeps). -/

set_option linter.unreachableTactic false
set_option linter.unusedTactic false

namespace Sys2Proof.Machine

open Sys2Proof

@[simp ↓] theorem State.setRunning_keeps {s0 : State} {s : State} (m : Nat) (hk : Keeps s0 s) : Keeps s0
    (State.setRunning s m) := by
  unfold State.setRunning
  simp (maxDischargeDepth := 40) [*]

@[simp ↓] theorem State.updQueue_keeps {s0 : State} {s : State} (q : Nat) (f : Queue → Queue) (hk : Keeps s0 s) :
    Keeps s0 (State.updQueue s q f) := by
  unfold State.updQueue
  repeat' first
    | (simp (maxDischargeDepth := 40) (contextual := true) [*]; done)
    | split
    | (with_reducible refine keeps_foldl ?_ (fun t a ht => ?_) _)
    | dsimp only

@[simp ↓] theorem State.onPacedQueues_keeps {s0 : State} {s : State} (p : Nat) (f : Queue → Queue) (hk : Keeps s0 s)
    : Keeps s0 (State.onPacedQueues s p f) := by
  unfold State.onPacedQueues
  simp (maxDischargeDepth := 40) (contextual := true) [*]

@[simp ↓] theorem State.refusePending_keeps {s0 : State} {s : State} (p : Nat) (hk : Keeps s0 s) : Keeps s0
    (State.refusePending s p) := by
  unfold State.refusePending
  simp (maxDischargeDepth := 40) (contextual := true) [*]

@[simp ↓] theorem State.refuseWhen2_keeps {s0 : State} {s : State} (g : Nat) (hk : Keeps s0 s) : Keeps s0
    (State.refuseWhen2 s g) := by
  unfold State.refuseWhen2
  simp (maxDischargeDepth := 40) (contextual := true) [*]

@[simp ↓] theorem State.clearSchedules_keeps {s0 : State} {s : State} (p : Nat) (hk : Keeps s0 s) : Keeps s0
    (State.clearSchedules s p) := by
  unfold State.clearSchedules
  simp (maxDischargeDepth := 40) (contextual := true) [*]

@[simp ↓] theorem State.stopPacer_keeps {s0 : State} {s : State} (p : Nat) (hk : Keeps s0 s) : Keeps s0
    (State.stopPacer s p) := by
  unfold State.stopPacer
  simp (maxDischargeDepth := 40) (contextual := true) [*]

@[simp ↓] theorem State.changePacer_keeps {s0 : State} {s : State} (p : Nat) (o : PaceOp) (b : Word) (hk : Keeps s0
    s) : Keeps s0 (State.changePacer s p o b) := by
  unfold State.changePacer
  simp (maxDischargeDepth := 40) [*]

@[simp ↓] theorem State.applyBind_keeps {s0 : State} {s : State} (p : Nat) (o : BindOp) (hk : Keeps s0 s) : Keeps s0
    (State.applyBind s p o) := by
  unfold State.applyBind
  simp (maxDischargeDepth := 40) (contextual := true) [*]

@[simp ↓] theorem State.showCommitted_keeps {s0 : State} {s : State} (p : Nat) (mats : List Nat) (hk : Keeps s0 s) :
    Keeps s0 (State.showCommitted s p mats) := by
  unfold State.showCommitted
  simp (maxDischargeDepth := 40) (contextual := true) [*]

@[simp ↓] theorem State.checkpoint_keeps {s0 : State} {s : State} (m : Nat) (hk : Keeps s0 s) : Keeps s0
    (State.checkpoint s m) := by
  unfold State.checkpoint
  simp (maxDischargeDepth := 40) (contextual := true) [*]

@[simp ↓] theorem State.boundaryRest_keeps {s0 : State} {s : State} (p : Nat) (hk : Keeps s0 s) : Keeps s0
    (State.boundaryRest s p) := by
  unfold State.boundaryRest
  repeat' first
    | (simp (maxDischargeDepth := 40) (contextual := true) [*]; done)
    | split
    | (with_reducible refine keeps_foldl ?_ (fun t a ht => ?_) _)
    | dsimp only

@[simp ↓] theorem State.checkDone_keeps {s0 : State} {s : State} (p : Nat) (hk : Keeps s0 s) : Keeps s0
    (State.checkDone s p) := by
  unfold State.checkDone
  simp (maxDischargeDepth := 40) [*]

@[simp ↓] theorem State.boundaryGoesOn_keeps {s0 : State} {s : State} (p : Nat) (hk : Keeps s0 s) : Keeps s0
    (State.boundaryGoesOn s p) := by
  unfold State.boundaryGoesOn
  simp (maxDischargeDepth := 40) [*]

@[simp ↓] theorem State.commitPeriod_keeps {s0 : State} {s : State} (p : Nat) (tc : Nat) (hk : Keeps s0 s) : Keeps
    s0 (State.commitPeriod s p tc) := by
  unfold State.commitPeriod
  simp (maxDischargeDepth := 40) [*]

@[simp ↓] theorem State.dropResponses_keeps {s0 : State} {s : State} (q : Nat) (hk : Keeps s0 s) : Keeps s0
    (State.dropResponses s q) := by
  unfold State.dropResponses
  simp (maxDischargeDepth := 40) [*]

@[simp ↓] theorem State.holdNull_keeps {s0 : State} {s : State} (q : Nat) (hk : Keeps s0 s) : Keeps s0
    (State.holdNull s q) := by
  unfold State.holdNull
  simp (maxDischargeDepth := 40) [*]

@[simp ↓] theorem State.latePeriod_keeps {s0 : State} {s : State} (p : Nat) (cause : Nat) (hk : Keeps s0 s) : Keeps
    s0 (State.latePeriod s p cause) := by
  unfold State.latePeriod
  simp (maxDischargeDepth := 40) (contextual := true) [*]

@[simp ↓] theorem State.selectSlot_keeps {s0 : State} {s : State} (q : Nat) (k : Nat) (hk : Keeps s0 s) : Keeps s0
    (State.selectSlot s q k) := by
  unfold State.selectSlot
  simp (maxDischargeDepth := 40) [*]

@[simp ↓] theorem State.holdsBack_keeps {s0 : State} {s : State} (q : Nat) (hk : Keeps s0 s) : Keeps s0
    (State.holdsBack s q) := by
  unfold State.holdsBack
  simp (maxDischargeDepth := 40) (contextual := true) [*]

@[simp ↓] theorem State.restoreMat_keeps {s0 : State} {s : State} (p : Nat) (m : Nat) (hk : Keeps s0 s) : Keeps s0
    (State.restoreMat s p m) := by
  unfold State.restoreMat
  simp (maxDischargeDepth := 40) [*]

@[simp ↓] theorem State.restorePeriod_keeps {s0 : State} {s : State} (p : Nat) (hk : Keeps s0 s) : Keeps s0
    (State.restorePeriod s p) := by
  unfold State.restorePeriod
  simp (maxDischargeDepth := 40) (contextual := true) [*]

end Sys2Proof.Machine
end

