-- ==== Sys2Proof/Laws/KeepsWires.lean ====
section
/-! SUPPORT.  Each operation of Wires.lean gives a later state (Keeps). -/

namespace Sys2Proof.Machine

open Sys2Proof

@[simp ↓] theorem State.setFab_keeps {s0 : State} {s : State} (q : Nat) (x : MatFab) (hk : Keeps s0 s) : Keeps s0
    (State.setFab s q x) := by
  unfold State.setFab
  simp (maxDischargeDepth := 40) [*]

@[simp ↓] theorem State.setLaneBuf_keeps {s0 : State} {s : State} (q : Nat) (lane : Nat) (v : BitVec 2) (hk : Keeps
    s0 s) : Keeps s0 (State.setLaneBuf s q lane v) := by
  unfold State.setLaneBuf
  simp (maxDischargeDepth := 40) [*]

end Sys2Proof.Machine
end

