-- ==== Sys2Proof/Laws/KeepsSwapOps.lean ====
section
/-! SUPPORT.  Each operation of SwapOps.lean gives a later state (Keeps). -/

set_option linter.unreachableTactic false
set_option linter.unusedTactic false

namespace Sys2Proof.Machine

open Sys2Proof

@[simp ↓] theorem State.sendTether_keeps {s0 : State} {s : State} (k : Nat) (kind : Nat) (v : Nat) (hk : Keeps s0 s)
    : Keeps s0 (State.sendTether s k kind v) := by
  unfold State.sendTether
  simp (maxDischargeDepth := 40) [*]

@[simp ↓] theorem State.setSwapRes_keeps {s0 : State} {s : State} (q : Nat) (status : Nat) (slot : Nat) (trigger :
    Nat) (notQuiet : Bool) (hk : Keeps s0 s) : Keeps s0 (State.setSwapRes s q status slot trigger notQuiet) := by
  unfold State.setSwapRes
  simp (maxDischargeDepth := 40) [*]

@[simp ↓] theorem State.dropSched_keeps {s0 : State} {s : State} (g : Nat) (hk : Keeps s0 s) : Keeps s0
    (State.dropSched s g) := by
  unfold State.dropSched
  repeat' first
    | (simp (maxDischargeDepth := 40) (contextual := true) [*]; done)
    | split
    | (with_reducible refine keeps_foldl ?_ (fun t a ht => ?_) _)
    | dsimp only

@[simp ↓] theorem State.phaseEnds_keeps {s0 : State} {s : State} (g : Nat) (no : Nat) (ok : Bool) (hk : Keeps s0 s)
    : Keeps s0 (State.phaseEnds s g no ok) := by
  unfold State.phaseEnds
  repeat' first
    | (simp (maxDischargeDepth := 40) (contextual := true) [*]; done)
    | split
    | (with_reducible refine keeps_foldl ?_ (fun t a ht => ?_) _)
    | dsimp only

@[simp ↓] theorem State.reportSwap_keeps {s0 : State} {s : State} (g : Nat) (slot : Nat) (trigger : Nat) (ref :
    Option CmdRef) (retries : Nat) (no : Nat) (status : Nat) (flips : Nat) (ns : Nat) (failing : Option Nat) (hk :
    Keeps s0 s) : Keeps s0 (State.reportSwap s g slot trigger ref retries no status flips ns failing) := by
  unfold State.reportSwap
  simp (maxDischargeDepth := 40) [*]

@[simp ↓] theorem State.withdraw_keeps {s0 : State} {s : State} (parts : List Nat) (hk : Keeps s0 s) : Keeps s0
    (State.withdraw s parts) := by
  unfold State.withdraw
  simp (maxDischargeDepth := 40) (contextual := true) [*]

@[simp ↓] theorem State.resume_keeps {s0 : State} {s : State} (mats : List Nat) (hk : Keeps s0 s) : Keeps s0
    (State.resume s mats) := by
  unfold State.resume
  simp (maxDischargeDepth := 40) (contextual := true) [*]

@[simp ↓] theorem State.setRun_keeps {s0 : State} {s : State} (g : Nat) (r : Option SwapRun) (hk : Keeps s0 s) :
    Keeps s0 (State.setRun s g r) := by
  unfold State.setRun
  simp (maxDischargeDepth := 40) [*]

@[simp ↓] theorem State.askerRes_keeps {s0 : State} {s : State} (asker : Option Nat) (parts : List Nat) (status :
    Nat) (slot : Nat) (hk : Keeps s0 s) : Keeps s0 (State.askerRes s asker parts status slot) := by
  unfold State.askerRes
  repeat' first
    | (simp (maxDischargeDepth := 40) (contextual := true) [*]; done)
    | split
    | (with_reducible refine keeps_foldl ?_ (fun t a ht => ?_) _)
    | dsimp only

@[simp ↓] theorem State.startSwap_keeps {s0 : State} {s : State} (g : Nat) (r : SwapReq) (hk : Keeps s0 s) : Keeps
    s0 (State.startSwap s g r) := by
  unfold State.startSwap
  repeat' first
    | (simp (maxDischargeDepth := 40) (contextual := true) [*]; done)
    | split
    | (with_reducible refine keeps_foldl ?_ (fun t a ht => ?_) _)
    | dsimp only

@[simp ↓] theorem State.strobe_keeps {s0 : State} {s : State} (g : Nat) (r : SwapReq) (hk : Keeps s0 s) : Keeps s0
    (State.strobe s g r).2 := by
  unfold State.strobe
  simp (maxDischargeDepth := 40) (contextual := true) [*]

@[simp ↓] theorem State.trigger_keeps {s0 : State} {s : State} (g : Nat) (r : SwapReq) (hk : Keeps s0 s) : Keeps s0
    (State.trigger s g r) := by
  unfold State.trigger
  simp (maxDischargeDepth := 40) (contextual := true) [*]

@[simp ↓] theorem State.flipMember_keeps {s0 : State} {s : State} (mats : List Nat) (m : Nat) (slot : Nat) (hk :
    Keeps s0 s) : Keeps s0 (State.flipMember s mats m slot) := by
  unfold State.flipMember
  simp (maxDischargeDepth := 40) [*]

@[simp ↓] theorem State.flipGroup_keeps {s0 : State} {s : State} (g : Nat) (r : SwapRun) (quiet : List (Nat × Nat))
    (hk : Keeps s0 s) : Keeps s0 (State.flipGroup s g r quiet) := by
  unfold State.flipGroup
  repeat' first
    | (simp (maxDischargeDepth := 40) (contextual := true) [*]; done)
    | split
    | (with_reducible refine keeps_foldl ?_ (fun t a ht => ?_) _)
    | dsimp only

@[simp ↓] theorem State.abandonGroup_keeps {s0 : State} {s : State} (g : Nat) (r : SwapRun) (status : Nat) (quiet :
    List (Nat × Nat)) (bad : Option Nat) (hk : Keeps s0 s) : Keeps s0 (State.abandonGroup s g r status quiet bad) := by
  unfold State.abandonGroup
  simp (maxDischargeDepth := 40) (contextual := true) [*]

@[simp ↓] theorem State.leadAbandon_keeps {s0 : State} {s : State} (g : Nat) (r : SwapRun) (status : Nat) (quiet :
    List (Nat × Nat)) (bad : Option Nat) (hk : Keeps s0 s) : Keeps s0 (State.leadAbandon s g r status quiet bad) := by
  unfold State.leadAbandon
  simp (maxDischargeDepth := 40) (contextual := true) [*]

@[simp ↓] theorem State.abandonSwap_keeps {s0 : State} {s : State} (g : Nat) (status : Nat) (quiet : Option (List
    (Nat × Nat))) (bad : Option Nat) (hk : Keeps s0 s) : Keeps s0 (State.abandonSwap s g status quiet bad) := by
  unfold State.abandonSwap
  repeat' first
    | (simp (maxDischargeDepth := 40) (contextual := true) [*]; done)
    | split
    | (with_reducible refine keeps_foldl ?_ (fun t a ht => ?_) _)
    | dsimp only

@[simp ↓] theorem State.leadFlips_keeps {s0 : State} {s : State} (g : Nat) (hk : Keeps s0 s) : Keeps s0
    (State.leadFlips s g) := by
  unfold State.leadFlips
  repeat' first
    | (simp (maxDischargeDepth := 40) (contextual := true) [*]; done)
    | split
    | (with_reducible refine keeps_foldl ?_ (fun t a ht => ?_) _)
    | dsimp only

@[simp ↓] theorem State.afterSwap_keeps {s0 : State} {s : State} (b : Option Nat) (hk : Keeps s0 s) : Keeps s0
    (State.afterSwap s b) := by
  unfold State.afterSwap
  repeat' first
    | (simp (maxDischargeDepth := 40) (contextual := true) [*]; done)
    | split
    | (with_reducible refine keeps_foldl ?_ (fun t a ht => ?_) _)
    | dsimp only

@[simp ↓] theorem State.adoptSchedule_keeps {s0 : State} {s : State} (p : Nat) (g : Nat) (n : Nat) (hk : Keeps s0 s)
    : Keeps s0 (State.adoptSchedule s p g n) := by
  unfold State.adoptSchedule
  repeat' first
    | (simp (maxDischargeDepth := 40) (contextual := true) [*]; done)
    | split
    | (with_reducible refine keeps_foldl ?_ (fun t a ht => ?_) _)
    | dsimp only

@[simp ↓] theorem State.armPhases_keeps {s0 : State} {s : State} (p : Nat) (g : Nat) (n : Nat) (hk : Keeps s0 s) :
    Keeps s0 (State.armPhases s p g n) := by
  unfold State.armPhases
  repeat' first
    | (simp (maxDischargeDepth := 40) (contextual := true) [*]; done)
    | split
    | (with_reducible refine keeps_foldl ?_ (fun t a ht => ?_) _)
    | dsimp only

@[simp ↓] theorem State.firePhase_keeps {s0 : State} {s : State} (g : Nat) (boundary : Option Nat) (hk : Keeps s0 s)
    : Keeps s0 (State.firePhase s g boundary) := by
  unfold State.firePhase
  repeat' first
    | (simp (maxDischargeDepth := 40) (contextual := true) [*]; done)
    | split
    | (with_reducible refine keeps_foldl ?_ (fun t a ht => ?_) _)
    | dsimp only

@[simp ↓] theorem State.boundarySwaps_keeps {s0 : State} {s : State} (p : Nat) (n : Nat) (hk : Keeps s0 s) : Keeps
    s0 (State.boundarySwaps s p n) := by
  unfold State.boundarySwaps
  simp (maxDischargeDepth := 40) (contextual := true) [*]

@[simp ↓] theorem State.dropOp_keeps {s0 : State} {s : State} (p : Nat) (o : PaceOp) (hk : Keeps s0 s) : Keeps s0
    (State.dropOp s p o) := by
  unfold State.dropOp
  simp (maxDischargeDepth := 40) [*]

@[simp ↓] theorem State.boundaryOps_keeps {s0 : State} {s : State} (p : Nat) (n : Nat) (b : Word) (x0 : List PaceOp)
    (hk : Keeps s0 s) : Keeps s0 (State.boundaryOps s p n b x0).1 := by
  induction x0 generalizing s with
  | nil => exact hk
  | cons o l ih =>
    unfold State.boundaryOps
    simp (maxDischargeDepth := 40) [hk, ih]

@[simp ↓] theorem State.boundaryBanks_keeps {s0 : State} {s : State} (p : Nat) (n : Nat) (hk : Keeps s0 s) : Keeps
    s0 (State.boundaryBanks s p n) := by
  unfold State.boundaryBanks
  simp (maxDischargeDepth := 40) (contextual := true) [*]

@[simp ↓] theorem State.boundaryActs_keeps {s0 : State} {s : State} (p : Nat) (hk : Keeps s0 s) : Keeps s0
    (State.boundaryActs s p) := by
  unfold State.boundaryActs
  repeat' first
    | (intro x; have hx : Keeps s0 x; on_goal 2 => clear_value x; on_goal 1 => subst x)
    | (intro x; subst x)
    | (simp (maxDischargeDepth := 40) (contextual := true) [*]; done)
    | (rename_i e; simp only [Prod.ext_iff] at e; obtain ⟨e1, e2⟩ := e; (try subst e1); (try subst e2))
    | split
    | (with_reducible refine keeps_foldl ?_ (fun t a ht => ?_) _)
    | (with_reducible refine keeps_mk ?_ ?_ ?_ ?_ ?_ ?_ ?_ ?_ ?_ ?_ ?_)

@[simp ↓] theorem State.resumeBoundary_keeps {s0 : State} {s : State} (p : Nat) (hk : Keeps s0 s) : Keeps s0
    (State.resumeBoundary s p) := by
  unfold State.resumeBoundary
  simp (maxDischargeDepth := 40) [*]

end Sys2Proof.Machine
end

