-- ==== Sys2Proof/Laws/KeepsLoadOps.lean ====
section
/-! SUPPORT.  Each operation of LoadOps.lean gives a later state (Keeps). -/

set_option linter.unreachableTactic false
set_option linter.unusedTactic false

namespace Sys2Proof.Machine

open Sys2Proof

@[simp ↓] theorem State.loadFailed_keeps {s0 : State} {s : State} (q : Nat) (k : Nat) (entry : Nat) (kind : Nat) (hk
    : Keeps s0 s) : Keeps s0 (State.loadFailed s q k entry kind) := by
  unfold State.loadFailed
  simp (maxDischargeDepth := 40) [*]

@[simp ↓] theorem State.soundConfig_keeps {s0 : State} {s : State} (q : Nat) (hk : Keeps s0 s) : Keeps s0
    (State.soundConfig s q) := by
  unfold State.soundConfig
  simp (maxDischargeDepth := 40) (contextual := true) [*]

@[simp ↓] theorem State.configFails_keeps {s0 : State} {s : State} (q : Nat) (x0 : List (Fin 4 × Fin 56 × Fin 66))
    (hk : Keeps s0 s) : Keeps s0 (State.configFails s q x0) := by
  fun_induction State.configFails s q x0
  all_goals simp (maxDischargeDepth := 40) [*]

@[simp ↓] theorem State.setLoads_keeps {s0 : State} {s : State} (l : List LoadRun) (hk : Keeps s0 s) : Keeps s0
    (State.setLoads s l) := by
  unfold State.setLoads
  simp (maxDischargeDepth := 40) [*]

@[simp ↓] theorem State.putLoad_keeps {s0 : State} {s : State} (r : LoadRun) (hk : Keeps s0 s) : Keeps s0
    (State.putLoad s r) := by
  unfold State.putLoad
  simp (maxDischargeDepth := 40) [*]

@[simp ↓] theorem State.endLoad_keeps {s0 : State} {s : State} (r : LoadRun) (hk : Keeps s0 s) : Keeps s0
    (State.endLoad s r) := by
  unfold State.endLoad
  simp (maxDischargeDepth := 40) [*]

@[simp ↓] theorem State.checkLoads_keeps {s0 : State} {s : State}  (hk : Keeps s0 s) : Keeps s0 (State.checkLoads s) := by
  unfold State.checkLoads
  simp (maxDischargeDepth := 40) (contextual := true) [*]

@[simp ↓] theorem State.beginLoad_keeps {s0 : State} {s : State} (m : Nat) (k : Nat) (e : Nat) (hk : Keeps s0 s) :
    Keeps s0 (State.beginLoad s m k e).1 := by
  unfold State.beginLoad
  simp (maxDischargeDepth := 40) [*]

@[simp ↓] theorem State.beginLoads_keeps {s0 : State} {s : State} (r : LoadRun) (x0 : List Nat) (hk : Keeps s0 s) :
    Keeps s0 (State.beginLoads s r x0).1 := by
  induction x0 generalizing s r with
  | nil => exact hk
  | cons m l ih =>
    unfold State.beginLoads
    have h := State.beginLoad_keeps m r.slot r.entry hk
    split <;> (rename_i e; rw [e] at h; exact ih _ h)

@[simp ↓] theorem State.startLoad_keeps {s0 : State} {s : State} (r : LoadRun) (hk : Keeps s0 s) : Keeps s0
    (State.startLoad s r) := by
  unfold State.startLoad
  simp (maxDischargeDepth := 40) [*]

@[simp ↓] theorem State.resumeLoads_keeps {s0 : State} {s : State}  (hk : Keeps s0 s) : Keeps s0 (State.resumeLoads
    s) := by
  unfold State.resumeLoads
  simp (maxDischargeDepth := 40) (contextual := true) [*]

@[simp ↓] theorem State.floorsReached_keeps {s0 : State} {s : State}  (hk : Keeps s0 s) : Keeps s0
    (State.floorsReached s) := by
  unfold State.floorsReached
  simp (maxDischargeDepth := 40) (contextual := true) [*]

@[simp ↓] theorem State.axReturn_keeps {s0 : State} {s : State} (n : Nat) (status : Nat) (hk : Keeps s0 s) : Keeps
    s0 (State.axReturn s n status) := by
  unfold State.axReturn
  simp (maxDischargeDepth := 40) [*]

@[simp ↓] theorem State.axReject_keeps {s0 : State} {s : State} (n : Nat) (status : Nat) (hk : Keeps s0 s) : Keeps
    s0 (State.axReject s n status) := by
  unfold State.axReject
  simp (maxDischargeDepth := 40) [*]

@[simp ↓] theorem State.setCrosiers_keeps {s0 : State} {s : State} (l : List Crosier) (hk : Keeps s0 s) : Keeps s0
    (State.setCrosiers s l) := by
  unfold State.setCrosiers
  simp (maxDischargeDepth := 40) [*]

@[simp ↓] theorem State.dropCrosier_keeps {s0 : State} {s : State} (c : Crosier) (hk : Keeps s0 s) : Keeps s0
    (State.dropCrosier s c) := by
  unfold State.dropCrosier
  simp (maxDischargeDepth := 40) [*]

@[simp ↓] theorem State.putCrosier_keeps {s0 : State} {s : State} (c : Crosier) (hk : Keeps s0 s) : Keeps s0
    (State.putCrosier s c) := by
  unfold State.putCrosier
  simp (maxDischargeDepth := 40) [*]

@[simp ↓] theorem State.crosierStatus_keeps {s0 : State} {s : State} (c : Crosier) (status : Nat) (hk : Keeps s0 s)
    : Keeps s0 (State.crosierStatus s c status) := by
  unfold State.crosierStatus
  repeat' first
    | (simp (maxDischargeDepth := 40) (contextual := true) [*]; done)
    | split
    | (with_reducible refine keeps_foldl ?_ (fun t a ht => ?_) _)
    | dsimp only

@[simp ↓] theorem State.crosierBarred_keeps {s0 : State} {s : State} (mats : List Nat) (entry : Option Nat) (hk :
    Keeps s0 s) : Keeps s0 (State.crosierBarred s mats entry) := by
  unfold State.crosierBarred
  simp (maxDischargeDepth := 40) (contextual := true) [*]

@[simp ↓] theorem State.crosierEnter_keeps {s0 : State} {s : State} (mats : List Nat) (entry : Option Nat) (inst :
    Option Nat) (ref : Option CmdRef) (hk : Keeps s0 s) : Keeps s0 (State.crosierEnter s mats entry inst ref) := by
  unfold State.crosierEnter
  simp (maxDischargeDepth := 40) (contextual := true) [*]

@[simp ↓] theorem State.crosierWrite_keeps {s0 : State} {s : State} (c : Crosier) (m : Nat) (hk : Keeps s0 s) :
    Keeps s0 (State.crosierWrite s c m).1 := by
  unfold State.crosierWrite
  repeat' first
    | (simp (maxDischargeDepth := 40) (contextual := true) [*]; done)
    | split
    | (with_reducible refine keeps_foldl ?_ (fun t a ht => ?_) _)
    | dsimp only

@[simp ↓] theorem State.crosierDrain_keeps {s0 : State} {s : State} (c : Crosier) (ns : Nat) (m : Nat) (hk : Keeps
    s0 s) : Keeps s0 (State.crosierDrain s c ns m) := by
  unfold State.crosierDrain
  simp (maxDischargeDepth := 40) [*]

@[simp ↓] theorem State.crosierStays_keeps {s0 : State} {s : State} (c : Crosier) (status : Nat) (hk : Keeps s0 s) :
    Keeps s0 (State.crosierStays s c status) := by
  unfold State.crosierStays
  simp (maxDischargeDepth := 40) [*]

@[simp ↓] theorem State.crosierFree_keeps {s0 : State} {s : State} (c : Crosier) (m : Nat) (hk : Keeps s0 s) : Keeps
    s0 (State.crosierFree s c m) := by
  unfold State.crosierFree
  repeat' first
    | (simp (maxDischargeDepth := 40) (contextual := true) [*]; done)
    | split
    | (with_reducible refine keeps_foldl ?_ (fun t a ht => ?_) _)
    | dsimp only

@[simp ↓] theorem State.crosierRelease_keeps {s0 : State} {s : State} (c : Crosier) (hk : Keeps s0 s) : Keeps s0
    (State.crosierRelease s c) := by
  unfold State.crosierRelease
  repeat' first
    | (simp (maxDischargeDepth := 40) (contextual := true) [*]; done)
    | split
    | (with_reducible refine keeps_foldl ?_ (fun t a ht => ?_) _)
    | dsimp only

end Sys2Proof.Machine
end

