-- ==== Sys2Proof/Laws/KeepsFabricRows.lean ====
section
/-! SUPPORT.  Each operation of FabricRows.lean gives a later state (Keeps). -/

set_option linter.unreachableTactic false
set_option linter.unusedTactic false

namespace Sys2Proof.Machine

open Sys2Proof

@[simp ↓] theorem State.failSwapOf_keeps {s0 : State} {s : State} (p : Nat) (hk : Keeps s0 s) : Keeps s0
    (State.failSwapOf s p) := by
  unfold State.failSwapOf
  repeat' first
    | (simp (maxDischargeDepth := 40) (contextual := true) [*]; done)
    | split
    | (with_reducible refine keeps_foldl ?_ (fun t a ht => ?_) _)
    | dsimp only

@[simp ↓] theorem State.illegalAt_keeps {s0 : State} {s : State} (m : Nat) (where_ : Nat) (index : Nat) (hk : Keeps
    s0 s) : Keeps s0 (State.illegalAt s m where_ index) := by
  unfold State.illegalAt
  simp (maxDischargeDepth := 40) [*]

@[simp ↓] theorem execIllegalCode_goes {s0 : State} {s : State} (mat : MatId) (where_ : Fin 5) (index : BitVec 10)
    (hk : Keeps s0 s) : Goes s0 (execIllegalCode mat where_ index s) := by
  unfold execIllegalCode
  simp (maxDischargeDepth := 40) [*]

@[simp ↓] theorem execChannelRetest_goes {s0 : State} {s : State} (mat : MatId) (channel : Fin 64) (failed : List
    (MatId × Fin 64 × Fin 4)) (hk : Keeps s0 s) : Goes s0 (execChannelRetest mat channel failed s) := by
  unfold execChannelRetest
  repeat' first
    | (intro x; have hx : Keeps s0 x; on_goal 2 => clear_value x; on_goal 1 => subst x)
    | (intro x; subst x)
    | (lift_lets; intro x; have hx : Keeps s0 x; on_goal 2 => clear_value x; on_goal 1 => subst x)
    | (lift_lets; intro x; subst x)
    | (simp (maxDischargeDepth := 40) (contextual := true) [*]; done)
    | (rename_i e; simp only [Prod.ext_iff] at e; obtain ⟨e1, e2⟩ := e; (try subst e1); (try subst e2))
    | split
    | (with_reducible refine keeps_foldl ?_ (fun t a ht => ?_) _)
    | (with_reducible refine keeps_mk ?_ ?_ ?_ ?_ ?_ ?_ ?_ ?_ ?_ ?_ ?_)
    | intro _
    | dsimp only

@[simp ↓] theorem State.clockedNull_keeps {s0 : State} {s : State} (m : Nat) (frond : Nat) (hk : Keeps s0 s) : Keeps
    s0 (State.clockedNull s m frond) := by
  unfold State.clockedNull
  simp (maxDischargeDepth := 40) [*]

@[simp ↓] theorem execClockedNull_goes {s0 : State} {s : State} (mat : MatId) (frond : Fin 1024) (hk : Keeps s0 s) :
    Goes s0 (execClockedNull mat frond s) := by
  unfold execClockedNull
  simp (maxDischargeDepth := 40) [*]

@[simp ↓] theorem execClockHeld_goes {s0 : State} {s : State} (mv : BitVec 16) (hk : Keeps s0 s) : Goes s0
    (execClockHeld mv s) := by
  unfold execClockHeld
  simp (maxDischargeDepth := 40) (contextual := true) [*]

@[simp ↓] theorem execClockReleased_goes {s0 : State} {s : State} (mv : BitVec 16) (hk : Keeps s0 s) : Goes s0
    (execClockReleased mv s) := by
  unfold execClockReleased
  simp (maxDischargeDepth := 40) (contextual := true) [*]

@[simp ↓] theorem execMacOperation_goes {s0 : State} {s : State} (mat : MatId) (tile : Fin 8) (input : BitVec 122)
    (hk : Keeps s0 s) : Goes s0 (execMacOperation mat tile input s) := by
  unfold execMacOperation
  repeat' first
    | (simp (maxDischargeDepth := 40) (contextual := true) [*]; done)
    | split
    | (with_reducible refine keeps_foldl ?_ (fun t a ht => ?_) _)
    | dsimp only

@[simp ↓] theorem execDrainToken_goes {s0 : State} {s : State} (mat : MatId) (lane : Bool) (wire : Fin 256) (hk :
    Keeps s0 s) : Goes s0 (execDrainToken mat lane wire s) := by
  unfold execDrainToken
  simp (maxDischargeDepth := 40) [*]

end Sys2Proof.Machine
end

