-- ==== Sys2Proof/Laws/KeepsQueues.lean ====
section
/-! SUPPORT.  Each operation of Queues.lean gives a later state (Keeps). -/

set_option linter.unreachableTactic false
set_option linter.unusedTactic false

namespace Sys2Proof.Machine

open Sys2Proof

@[simp ↓] theorem State.ackPush_keeps {s0 : State} {s : State} (q : Nat) (e : QEnd) (hk : Keeps s0 s) : Keeps s0
    (State.ackPush s q e) := by
  unfold State.ackPush
  repeat' first
    | (simp (maxDischargeDepth := 40) (contextual := true) [*]; done)
    | split
    | (with_reducible refine keeps_foldl ?_ (fun t a ht => ?_) _)
    | dsimp only

@[simp ↓] theorem State.pushFrom_keeps {s0 : State} {s : State} (q : Nat) (e : QEnd) (w : Word) (start : Bool) (last
    : Bool) (mismatch : Bool) (hk : Keeps s0 s) : Keeps s0 (State.pushFrom s q e w start last mismatch) := by
  unfold State.pushFrom
  simp (maxDischargeDepth := 40) [*]

@[simp ↓] theorem execQueuePush_goes {s0 : State} {s : State} (queue : QueueId) (src : QEnd) (item : Word) (start :
    Bool) (last : Bool) (mismatch : Bool) (hk : Keeps s0 s) : Goes s0 (execQueuePush queue src item start last
    mismatch s) := by
  unfold execQueuePush
  simp (maxDischargeDepth := 40) [*]

@[simp ↓] theorem State.popItem_keeps {s0 : State} {s : State} (q : Nat) (ecc : Ecc) (hk : Keeps s0 s) : Keeps s0
    (State.popItem s q ecc).1 := by
  unfold State.popItem
  repeat' first
    | (simp (maxDischargeDepth := 40) (contextual := true) [*]; done)
    | split
    | (with_reducible refine keeps_foldl ?_ (fun t a ht => ?_) _)
    | dsimp only

@[simp ↓] theorem execQueuePop_goes {s0 : State} {s : State} (queue : QueueId) (dst : QEnd) (ecc : Ecc) (mismatch :
    Bool) (hk : Keeps s0 s) : Goes s0 (execQueuePop queue dst ecc mismatch s) := by
  unfold execQueuePop
  repeat' first
    | (intro x; subst x)
    | (simp (maxDischargeDepth := 40) (contextual := true) [*]; done)
    | (rename_i e; simp only [Prod.ext_iff] at e; obtain ⟨e1, e2⟩ := e; (try subst e1); (try subst e2))
    | split
    | (with_reducible refine keeps_foldl ?_ (fun t a ht => ?_) _)
    | (with_reducible refine keeps_mk ?_ ?_ ?_ ?_ ?_ ?_ ?_ ?_ ?_ ?_ ?_)
    | dsimp only

@[simp ↓] theorem State.setQueLatch_keeps {s0 : State} {s : State} (r : Requester) (q : Nat) (v : Reg) (hk : Keeps
    s0 s) : Keeps s0 (State.setQueLatch s r q v) := by
  unfold State.setQueLatch
  simp (maxDischargeDepth := 40) [*]

@[simp ↓] theorem State.setQueHeld_keeps {s0 : State} {s : State} (r : Requester) (q : Nat) (v : Reg) (hk : Keeps s0
    s) : Keeps s0 (State.setQueHeld s r q v) := by
  unfold State.setQueHeld
  simp (maxDischargeDepth := 40) [*]

@[simp ↓] theorem State.queWord_keeps {s0 : State} {s : State} (r : Requester) (q : Nat) (part : QPart) (v : Word)
    (hk : Keeps s0 s) : Keeps s0 (State.queWord s r q part v).1 := by
  unfold State.queWord
  repeat' first
    | (simp (maxDischargeDepth := 40) (contextual := true) [*]; done)
    | split
    | (with_reducible refine keeps_foldl ?_ (fun t a ht => ?_) _)
    | dsimp only

@[simp ↓] theorem State.debugQueRead_keeps {s0 : State} {s : State} (q : Nat) (part : QPart) (ecc : Ecc) (hk : Keeps
    s0 s) : Keeps s0 (State.debugQueRead s q part ecc).1 := by
  unfold State.debugQueRead
  repeat' first
    | (intro x; have hx : Keeps s0 x; on_goal 2 => clear_value x; on_goal 1 => subst x)
    | (intro x; subst x)
    | (simp (maxDischargeDepth := 40) (contextual := true) [*]; done)
    | (rename_i e; simp only [Prod.ext_iff] at e; obtain ⟨e1, e2⟩ := e; (try subst e1); (try subst e2))
    | split
    | (with_reducible refine keeps_foldl ?_ (fun t a ht => ?_) _)
    | (with_reducible refine keeps_mk ?_ ?_ ?_ ?_ ?_ ?_ ?_ ?_ ?_ ?_ ?_)

@[simp ↓] theorem State.coreQueRead_keeps {s0 : State} {s : State} (r : Requester) (q : Nat) (part : QPart) (ecc :
    Ecc) (hk : Keeps s0 s) : Keeps s0 (State.coreQueRead s r q part ecc) := by
  unfold State.coreQueRead
  repeat' first
    | (intro x; have hx : Keeps s0 x; on_goal 2 => clear_value x; on_goal 1 => subst x)
    | (intro x; subst x)
    | (simp (maxDischargeDepth := 40) (contextual := true) [*]; done)
    | (rename_i e; simp only [Prod.ext_iff] at e; obtain ⟨e1, e2⟩ := e; (try subst e1); (try subst e2))
    | split
    | (with_reducible refine keeps_foldl ?_ (fun t a ht => ?_) _)
    | (with_reducible refine keeps_mk ?_ ?_ ?_ ?_ ?_ ?_ ?_ ?_ ?_ ?_ ?_)

@[simp ↓] theorem execQueDataRead_goes {s0 : State} {s : State} (req : Requester) (queue : QueueId) (part : QPart)
    (ecc : Ecc) (hk : Keeps s0 s) : Goes s0 (execQueDataRead req queue part ecc s) := by
  unfold execQueDataRead
  repeat' first
    | (intro x; subst x)
    | (simp (maxDischargeDepth := 40) (contextual := true) [*]; done)
    | (rename_i e; simp only [Prod.ext_iff] at e; obtain ⟨e1, e2⟩ := e; (try subst e1); (try subst e2))
    | split
    | (with_reducible refine keeps_foldl ?_ (fun t a ht => ?_) _)
    | (with_reducible refine keeps_mk ?_ ?_ ?_ ?_ ?_ ?_ ?_ ?_ ?_ ?_ ?_)
    | dsimp only

@[simp ↓] theorem State.corePush_keeps {s0 : State} {s : State} (r : Requester) (q : Nat) (w : Word) (hk : Keeps s0
    s) : Keeps s0 (State.corePush s r q w) := by
  unfold State.corePush
  simp (maxDischargeDepth := 40) [*]

@[simp ↓] theorem State.coreQueWrite_keeps {s0 : State} {s : State} (r : Requester) (q : Nat) (part : QPart) (v :
    Word) (hk : Keeps s0 s) : Keeps s0 (State.coreQueWrite s r q part v) := by
  unfold State.coreQueWrite
  repeat' first
    | (simp (maxDischargeDepth := 40) (contextual := true) [*]; done)
    | split
    | (with_reducible refine keeps_foldl ?_ (fun t a ht => ?_) _)
    | dsimp only

theorem State.debugQueWrite_keeps {s0 s t : State} {q : Nat} {part : QPart} {v : Word} (hk : Keeps s0 s)
    (e : State.debugQueWrite s q part v = some t) : Keeps s0 t := by
  unfold State.debugQueWrite at e
  repeat' first
    | cases e
    | (simp (maxDischargeDepth := 40) [hk]; done)
    | split at e

@[simp ↓] theorem execQueDataWrite_goes {s0 : State} {s : State} (req : Requester) (queue : QueueId) (part : QPart)
    (value : Word) (hk : Keeps s0 s) : Goes s0 (execQueDataWrite req queue part value s) := by
  unfold execQueDataWrite
  dsimp only
  split
  · simp (maxDischargeDepth := 40) [hk]
  · split
    · simp [hk]
    · exact goes_next (State.debugQueWrite_keeps hk ‹_›)
  · exact goes_next (keeps_ite hk (State.coreQueWrite_keeps _ _ _ _ hk))

@[simp ↓] theorem execQuePktOpen_goes {s0 : State} {s : State} (req : Requester) (queue : QueueId) (hk : Keeps s0 s)
    : Goes s0 (execQuePktOpen req queue s) := by
  unfold execQuePktOpen
  repeat' first
    | (simp (maxDischargeDepth := 40) (contextual := true) [*]; done)
    | split
    | (with_reducible refine keeps_foldl ?_ (fun t a ht => ?_) _)
    | dsimp only

@[simp ↓] theorem execQuePktClose_goes {s0 : State} {s : State} (req : Requester) (queue : QueueId) (hk : Keeps s0
    s) : Goes s0 (execQuePktClose req queue s) := by
  unfold execQuePktClose
  repeat' first
    | (simp (maxDischargeDepth := 40) (contextual := true) [*]; done)
    | split
    | (with_reducible refine keeps_foldl ?_ (fun t a ht => ?_) _)
    | dsimp only

@[simp ↓] theorem State.queueCreate_keeps {s0 : State} {s : State} (queue : BitVec 16) (sizeLog2 : Byte) (flags :
    Byte) (prod : Byte) (cons : Byte) (base : BitVec 16) (hk : Keeps s0 s) : Keeps s0 (State.queueCreate queue
    sizeLog2 flags prod cons base s).st := by
  unfold State.queueCreate
  simp (maxDischargeDepth := 40) [*]

@[simp ↓] theorem execQueueCreate_goes {s0 : State} {s : State} (h : Hdr) (queue : BitVec 16) (sizeLog2 : Byte)
    (flags : Byte) (prod : Byte) (cons : Byte) (base : BitVec 16) (hk : Keeps s0 s) : Goes s0 (execQueueCreate h
    queue sizeLog2 flags prod cons base s) := by
  unfold execQueueCreate
  simp (maxDischargeDepth := 40) (contextual := true) [*]

@[simp ↓] theorem execQueueBindRing_goes {s0 : State} {s : State} (h : Hdr) (queue : BitVec 16) (ring : BitVec 16)
    (op : Byte) (hk : Keeps s0 s) : Goes s0 (execQueueBindRing h queue ring op s) := by
  unfold execQueueBindRing
  refine goes_next (State.hostCmd_keeps _ _ _ hk (fun t ht => ?_))
  clear hk
  lift_lets
  repeat' first
    | exact State.ends_keeps _ ht
    | (intro x; subst x)
    | (with_reducible refine keeps_ite_st ?_ ?_)
    | (simp (maxDischargeDepth := 40) (contextual := true) [*]; done)
    | (rename_i e; simp only [Prod.ext_iff] at e; obtain ⟨e1, e2⟩ := e; (try subst e1); (try subst e2))
    | split
    | dsimp only

@[simp ↓] theorem execQueueReset_goes {s0 : State} {s : State} (h : Hdr) (queue : BitVec 16) (op : Byte) (hk : Keeps
    s0 s) : Goes s0 (execQueueReset h queue op s) := by
  unfold execQueueReset
  simp (maxDischargeDepth := 40) (contextual := true) [*]

end Sys2Proof.Machine
end

