-- ==== Sys2Proof/Laws/KeepsPins.lean ====
section
/-! SUPPORT.  Each operation of Pins.lean gives a later state (Keeps). -/

set_option linter.unreachableTactic false
set_option linter.unusedTactic false

namespace Sys2Proof.Machine

open Sys2Proof

@[simp ↓] theorem execFpInputChange_goes {s0 : State} {s : State} (pin : Fin 352) (level : Bool) (hk : Keeps s0 s) :
    Goes s0 (execFpInputChange pin level s) := by
  unfold execFpInputChange
  lift_lets
  intro v
  split
  · intro t frozen
    have h : Keeps s0 t := State.setPinLevel_keeps _ _ hk
    clear_value t frozen
    split
    · exact goes_ite (goes_next h) (goes_next (State.emit_keeps _ h))
    · exact goes_next h
  · exact goes_next hk

@[simp ↓] theorem execFpOutputToken_goes {s0 : State} {s : State} (pin : Fin 352) (level : Bool) (hk : Keeps s0 s) :
    Goes s0 (execFpOutputToken pin level s) := by
  unfold execFpOutputToken
  repeat' first
    | (simp (maxDischargeDepth := 40) (contextual := true) [*]; done)
    | split
    | (with_reducible refine keeps_foldl ?_ (fun t a ht => ?_) _)
    | dsimp only

@[simp ↓] theorem State.portOverrun_keeps {s0 : State} {s : State} (p : Nat) (q : Nat) (n : Nat) (hk : Keeps s0 s) :
    Keeps s0 (State.portOverrun s p q n) := by
  unfold State.portOverrun
  simp (maxDischargeDepth := 40) [*]

@[simp ↓] theorem execFpRxItem_goes {s0 : State} {s : State} (port : PortId) (bits : BitVec 56) (count : BitVec 6)
    (idleBefore : Bool) (gapBefore : Bool) (gapAfter : Bool) (hk : Keeps s0 s) : Goes s0 (execFpRxItem port bits
    count idleBefore gapBefore gapAfter s) := by
  unfold execFpRxItem
  simp (maxDischargeDepth := 40) [*]

@[simp ↓] theorem execFpTxItem_goes {s0 : State} {s : State} (port : PortId) (ecc : Ecc) (hk : Keeps s0 s) : Goes s0
    (execFpTxItem port ecc s) := by
  unfold execFpTxItem
  repeat' first
    | (intro x; subst x)
    | (simp (maxDischargeDepth := 40) (contextual := true) [*]; done)
    | (rename_i e; simp only [Prod.ext_iff] at e; obtain ⟨e1, e2⟩ := e; (try subst e1); (try subst e2))
    | split
    | (with_reducible refine keeps_foldl ?_ (fun t a ht => ?_) _)
    | (with_reducible refine keeps_mk ?_ ?_ ?_ ?_ ?_ ?_ ?_ ?_ ?_ ?_ ?_)
    | dsimp only

@[simp ↓] theorem execFpCodeError_goes {s0 : State} {s : State} (port : PortId) (lostSync : Bool) (hk : Keeps s0 s)
    : Goes s0 (execFpCodeError port lostSync s) := by
  unfold execFpCodeError
  simp (maxDischargeDepth := 40) [*]

@[simp ↓] theorem execFpSync_goes {s0 : State} {s : State} (port : PortId) (hk : Keeps s0 s) : Goes s0 (execFpSync
    port s) := by
  unfold execFpSync
  simp (maxDischargeDepth := 40) [*]

@[simp ↓] theorem State.markLimit_keeps {s0 : State} {s : State} (p : Nat) (reached : Bool) (hk : Keeps s0 s) :
    Keeps s0 (State.markLimit s p reached) := by
  unfold State.markLimit
  simp (maxDischargeDepth := 40) [*]

@[simp ↓] theorem execAtLimit_goes {s0 : State} {s : State} (port : PortId) (reached : Bool) (hk : Keeps s0 s) :
    Goes s0 (execAtLimit port reached s) := by
  unfold execAtLimit
  simp (maxDischargeDepth := 40) [*]

@[simp ↓] theorem execFpFoldback_goes {s0 : State} {s : State} (port : PortId) (pin : Fin 3) (hk : Keeps s0 s) :
    Goes s0 (execFpFoldback port pin s) := by
  unfold execFpFoldback
  simp (maxDischargeDepth := 40) [*]

@[simp ↓] theorem execFpRetry_goes {s0 : State} {s : State} (req : Requester) (port : PortId) (value : Reg) (hk :
    Keeps s0 s) : Goes s0 (execFpRetry req port value s) := by
  unfold execFpRetry
  simp (maxDischargeDepth := 40) (contextual := true) [*]

@[simp ↓] theorem execFunctionSwitch_goes {s0 : State} {s : State} (req : Requester) (target : FnReg) (value : Reg)
    (hk : Keeps s0 s) : Goes s0 (execFunctionSwitch req target value s) := by
  unfold execFunctionSwitch
  repeat' first
    | (simp (maxDischargeDepth := 40) (contextual := true) [*]; done)
    | split
    | (with_reducible refine keeps_foldl ?_ (fun t a ht => ?_) _)
    | dsimp only

@[simp ↓] theorem State.endPortSwitch_keeps {s0 : State} {s : State} (p : Nat) (hk : Keeps s0 s) : Keeps s0
    (State.endPortSwitch s p) := by
  unfold State.endPortSwitch
  repeat' first
    | (simp (maxDischargeDepth := 40) (contextual := true) [*]; done)
    | split
    | (with_reducible refine keeps_foldl ?_ (fun t a ht => ?_) _)
    | dsimp only

@[simp ↓] theorem execFunctionSwitchEnd_goes {s0 : State} {s : State} (target : FnUnit) (hk : Keeps s0 s) : Goes s0
    (execFunctionSwitchEnd target s) := by
  unfold execFunctionSwitchEnd
  repeat' first
    | (simp (maxDischargeDepth := 40) (contextual := true) [*]; done)
    | split
    | (with_reducible refine keeps_foldl ?_ (fun t a ht => ?_) _)
    | dsimp only

@[simp ↓] theorem execVioLost_goes {s0 : State} {s : State} (gpio : Bool) (index : Fin 8) (hk : Keeps s0 s) : Goes
    s0 (execVioLost gpio index s) := by
  unfold execVioLost
  simp (maxDischargeDepth := 40) [*]

@[simp ↓] theorem execVioRestored_goes {s0 : State} {s : State} (gpio : Bool) (index : Fin 8) (code : BitVec 2) (hk
    : Keeps s0 s) : Goes s0 (execVioRestored gpio index code s) := by
  unfold execVioRestored
  simp (maxDischargeDepth := 40) [*]

@[simp ↓] theorem execSurvey_goes {s0 : State} {s : State} (h : Hdr) (port : Byte) (what : Byte) (vf : BitVec 16)
    (pins : Byte) (flags : Byte) (hk : Keeps s0 s) : Goes s0 (execSurvey h port what vf pins flags s) := by
  unfold execSurvey
  refine goes_next (State.hostCmd_keeps _ _ _ hk (fun t ht => ?_))
  clear hk
  lift_lets
  repeat' first
    | exact State.ends_keeps _ ht
    | (intro x; subst x)
    | (with_reducible refine keeps_ite_st ?_ ?_)
    | (simp (maxDischargeDepth := 40) (contextual := true) [*]; done)
    | (rename_i e; simp only [Prod.ext_iff] at e; obtain ⟨e1, e2⟩ := e; (try subst e1); (try subst e2))
    | split
    | dsimp only

@[simp ↓] theorem State.dropSurvey_keeps {s0 : State} {s : State} (x : SurveyRun) (a : Act) (hk : Keeps s0 s) :
    Keeps s0 (State.dropSurvey s x a) := by
  unfold State.dropSurvey
  simp (maxDischargeDepth := 40) [*]

@[simp ↓] theorem execSurveyRun_goes {s0 : State} {s : State} (port : PortId) (hk : Keeps s0 s) : Goes s0
    (execSurveyRun port s) := by
  unfold execSurveyRun
  repeat' first
    | (simp (maxDischargeDepth := 40) (contextual := true) [*]; done)
    | split
    | (with_reducible refine keeps_foldl ?_ (fun t a ht => ?_) _)
    | dsimp only

@[simp ↓] theorem execSurveyDone_goes {s0 : State} {s : State} (port : PortId) (found : Survey) (hk : Keeps s0 s) :
    Goes s0 (execSurveyDone port found s) := by
  unfold execSurveyDone
  repeat' first
    | (simp (maxDischargeDepth := 40) (contextual := true) [*]; done)
    | split
    | (with_reducible refine keeps_foldl ?_ (fun t a ht => ?_) _)
    | dsimp only

@[simp ↓] theorem execPinPortWrite_goes {s0 : State} {s : State} (core : CoreId) (fieldPorts : Bool) (index : Fin 8)
    (value : Word) (hk : Keeps s0 s) : Goes s0 (execPinPortWrite core fieldPorts index value s) := by
  unfold execPinPortWrite
  dsimp only
  refine goes_ite (goes_next hk) ?_
  generalize hT : List.foldl _ s _ = t
  have h : Keeps s0 t := hT ▸ keeps_foldl hk (fun t a ht => keeps_ite (by simp [ht]) ht) _
  split
  · exact goes_next h
  · simp (maxDischargeDepth := 40) [h]

@[simp ↓] theorem State.putPend_keeps {s0 : State} {s : State} (l : Nat) (pend : Bool) (hk : Keeps s0 s) : Keeps s0
    (State.putPend s l pend) := by
  unfold State.putPend
  simp (maxDischargeDepth := 40) [*]

@[simp ↓] theorem State.writeExtl_keeps {s0 : State} {s : State} (l : Nat) (v : Reg) (hk : Keeps s0 s) : Keeps s0
    (State.writeExtl s l v) := by
  unfold State.writeExtl
  lift_lets
  intro t g lv u
  have h : Keeps s0 u := State.setFlag_keeps _ _ (State.wr_keeps _ _ hk)
  clear_value u
  split <;> simp [h]

@[simp ↓] theorem execExtlEdge_goes {s0 : State} {s : State} (line : Fin 16) (level : Bool) (hk : Keeps s0 s) : Goes
    s0 (execExtlEdge line level s) := by
  unfold execExtlEdge
  simp (maxDischargeDepth := 40) [*]

end Sys2Proof.Machine
end

