-- ==== Sys2Proof/Laws/KeepsLaneOps.lean ====
section
/-! SUPPORT.  Each operation of LaneOps.lean gives a later state (Keeps). -/

set_option linter.unreachableTactic false
set_option linter.unusedTactic false

namespace Sys2Proof.Machine

open Sys2Proof

@[simp ↓] theorem State.sscConflict_keeps {s0 : State} {s : State} (src : Nat) (kind : Nat) (n : Nat) (hk : Keeps s0
    s) : Keeps s0 (State.sscConflict s src kind n) := by
  unfold State.sscConflict
  simp (maxDischargeDepth := 40) [*]

@[simp ↓] theorem State.laneRefused_keeps {s0 : State} {s : State} (x : Nat) (reason : Nat) (hk : Keeps s0 s) :
    Keeps s0 (State.laneRefused s x reason) := by
  unfold State.laneRefused
  simp (maxDischargeDepth := 40) [*]

@[simp ↓] theorem State.setLane_keeps {s0 : State} {s : State} (l : LaneState) (hk : Keeps s0 s) : Keeps s0
    (State.setLane s l) := by
  unfold State.setLane
  simp (maxDischargeDepth := 40) [*]

@[simp ↓] theorem State.forgetLane_keeps {s0 : State} {s : State} (x : Nat) (hk : Keeps s0 s) : Keeps s0
    (State.forgetLane s x) := by
  unfold State.forgetLane
  simp (maxDischargeDepth := 40) [*]

@[simp ↓] theorem State.loseLane_keeps {s0 : State} {s : State} (x : Nat) (cause : Nat) (hk : Keeps s0 s) : Keeps s0
    (State.loseLane s x cause) := by
  unfold State.loseLane
  repeat' first
    | (simp (maxDischargeDepth := 40) (contextual := true) [*]; done)
    | split
    | (with_reducible refine keeps_foldl ?_ (fun t a ht => ?_) _)
    | dsimp only

@[simp ↓] theorem State.downLane_keeps {s0 : State} {s : State} (x : Nat) (cause : Nat) (hk : Keeps s0 s) : Keeps s0
    (State.downLane s x cause) := by
  unfold State.downLane
  simp (maxDischargeDepth := 40) [*]

@[simp ↓] theorem State.upLane_keeps {s0 : State} {s : State} (x : Nat) (hk : Keeps s0 s) : Keeps s0 (State.upLane s
    x) := by
  unfold State.upLane
  repeat' first
    | (simp (maxDischargeDepth := 40) (contextual := true) [*]; done)
    | split
    | (with_reducible refine keeps_foldl ?_ (fun t a ht => ?_) _)
    | dsimp only

@[simp ↓] theorem State.freeLane_keeps {s0 : State} {s : State} (x : Nat) (hk : Keeps s0 s) : Keeps s0
    (State.freeLane s x) := by
  unfold State.freeLane
  simp (maxDischargeDepth := 40) [*]

@[simp ↓] theorem State.startLane_keeps {s0 : State} {s : State} (x : Nat) (synth : Nat) (cfg : Reg) (hk : Keeps s0
    s) : Keeps s0 (State.startLane s x synth cfg) := by
  unfold State.startLane
  simp (maxDischargeDepth := 40) [*]

@[simp ↓] theorem State.laneOverrun_keeps {s0 : State} {s : State} (x : Nat) (hk : Keeps s0 s) : Keeps s0
    (State.laneOverrun s x) := by
  unfold State.laneOverrun
  simp (maxDischargeDepth := 40) [*]

@[simp ↓] theorem State.stampTime_keeps {s0 : State} {s : State}  (hk : Keeps s0 s) : Keeps s0 (State.stampTime s).2 := by
  unfold State.stampTime
  simp (maxDischargeDepth := 40) [*]

@[simp ↓] theorem State.laneStamp_keeps {s0 : State} {s : State} (x : Nat) (tx : Bool) (taken : Bool) (hk : Keeps s0
    s) : Keeps s0 (State.laneStamp s x tx taken) := by
  unfold State.laneStamp
  simp (maxDischargeDepth := 40) [*]

@[simp ↓] theorem State.leadLoses_keeps {s0 : State} {s : State} (k : Nat) (g : Nat) (hk : Keeps s0 s) : Keeps s0
    (State.leadLoses s k g) := by
  unfold State.leadLoses
  repeat' first
    | (simp (maxDischargeDepth := 40) (contextual := true) [*]; done)
    | split
    | (with_reducible refine keeps_foldl ?_ (fun t a ht => ?_) _)
    | dsimp only

@[simp ↓] theorem State.strobeLost_keeps {s0 : State} {s : State} (k : Nat) (g : Nat) (hk : Keeps s0 s) : Keeps s0
    (State.strobeLost s k g) := by
  unfold State.strobeLost
  repeat' first
    | (simp (maxDischargeDepth := 40) (contextual := true) [*]; done)
    | split
    | (with_reducible refine keeps_foldl ?_ (fun t a ht => ?_) _)
    | dsimp only

@[simp ↓] theorem State.splitTether_keeps {s0 : State} {s : State} (k : Nat) (peer : Nat) (hk : Keeps s0 s) : Keeps
    s0 (State.splitTether s k peer) := by
  unfold State.splitTether
  simp (maxDischargeDepth := 40) (contextual := true) [*]

@[simp ↓] theorem State.downTether_keeps {s0 : State} {s : State} (k : Nat) (hk : Keeps s0 s) : Keeps s0
    (State.downTether s k) := by
  unfold State.downTether
  simp (maxDischargeDepth := 40) (contextual := true) [*]

@[simp ↓] theorem State.offTether_keeps {s0 : State} {s : State} (k : Nat) (hk : Keeps s0 s) : Keeps s0
    (State.offTether s k) := by
  unfold State.offTether
  simp (maxDischargeDepth := 40) (contextual := true) [*]

@[simp ↓] theorem State.sendStream_keeps {s0 : State} {s : State} (k : Nat) (hk : Keeps s0 s) : Keeps s0
    (State.sendStream s k) := by
  unfold State.sendStream
  repeat' first
    | (simp (maxDischargeDepth := 40) (contextual := true) [*]; done)
    | split
    | (with_reducible refine keeps_foldl ?_ (fun t a ht => ?_) _)
    | dsimp only

end Sys2Proof.Machine
end

