-- ==== Sys2Proof/Laws/KeepsRelocOps.lean ====
section
/-! SUPPORT.  Each operation of RelocOps.lean gives a later state (Keeps). -/

set_option linter.unreachableTactic false
set_option linter.unusedTactic false

namespace Sys2Proof.Machine

open Sys2Proof

@[simp ↓] theorem State.noteReserves_keeps {s0 : State} {s : State} (before : List (Nat × Nat)) (hk : Keeps s0 s) :
    Keeps s0 (State.noteReserves s before) := by
  unfold State.noteReserves
  simp (maxDischargeDepth := 40) (contextual := true) [*]

@[simp ↓] theorem State.copyLibrary_keeps {s0 : State} {s : State} (p : Nat) (d : Nat) (bad : List Nat) (hk : Keeps
    s0 s) : Keeps s0 (State.copyLibrary s p d bad) := by
  unfold State.copyLibrary
  simp (maxDischargeDepth := 40) (contextual := true) [*]

@[simp ↓] theorem State.copySlot_keeps {s0 : State} {s : State} (p : Nat) (d : Nat) (k : Nat) (hk : Keeps s0 s) :
    Keeps s0 (State.copySlot s p d k) := by
  unfold State.copySlot
  simp (maxDischargeDepth := 40) [*]

@[simp ↓] theorem State.copySlots_keeps {s0 : State} {s : State} (p : Nat) (d : Nat) (hk : Keeps s0 s) : Keeps s0
    (State.copySlots s p d) := by
  unfold State.copySlots
  simp (maxDischargeDepth := 40) (contextual := true) [*]

@[simp] theorem copyBankWords_wf {t : Tab MemWord} (h : Tab.wf memWord0 t = true) (b d : Nat) :
    Tab.wf memWord0 (copyBankWords b d t) = true := by
  unfold copyBankWords
  generalize List.filter _ t = l
  have hk := Tab.keep_wf h (fun k => decide (k / 8192 ≠ d))
  generalize Tab.keep _ t = u at hk ⊢
  induction l generalizing u with
  | nil => exact hk
  | cons a l ih => exact ih _ (Tab.put_wf hk _ _)

@[simp ↓] theorem State.copyBanks_keeps {s0 : State} {s : State} (banks : List Nat) (p : Nat) (d : Nat) (hk : Keeps
    s0 s) : Keeps s0 (State.copyBanks s banks p d) := by
  unfold State.copyBanks
  exact keeps_foldl hk (fun t a ht => by simp (maxDischargeDepth := 40) (contextual := true) [ht]) _

@[simp ↓] theorem State.switchMat_keeps {s0 : State} {s : State} (p : Nat) (d : Nat) (hk : Keeps s0 s) : Keeps s0
    (State.switchMat s p d) := by
  unfold State.switchMat
  simp (maxDischargeDepth := 40) [*]

@[simp ↓] theorem State.switchBanks_keeps {s0 : State} {s : State} (banks : List Nat) (p : Nat) (d : Nat) (hk :
    Keeps s0 s) : Keeps s0 (State.switchBanks s banks p d) := by
  unfold State.switchBanks
  simp (maxDischargeDepth := 40) (contextual := true) [*]

@[simp ↓] theorem State.writePaths_keeps {s0 : State} {s : State} (l : List (Nat × Reg)) (hk : Keeps s0 s) : Keeps
    s0 (State.writePaths s l) := by
  unfold State.writePaths
  simp (maxDischargeDepth := 40) (contextual := true) [*]

@[simp ↓] theorem State.enablePaths_keeps {s0 : State} {s : State} (d : Nat) (l : List (Nat × Reg)) (hk : Keeps s0
    s) : Keeps s0 (State.enablePaths s d l) := by
  unfold State.enablePaths
  simp (maxDischargeDepth := 40) [*]

@[simp ↓] theorem State.retireMat_keeps {s0 : State} {s : State} (p : Nat) (hk : Keeps s0 s) : Keeps s0
    (State.retireMat s p) := by
  unfold State.retireMat
  simp (maxDischargeDepth := 40) (contextual := true) [*]

@[simp ↓] theorem State.stopMat_keeps {s0 : State} {s : State} (m : Nat) (hk : Keeps s0 s) : Keeps s0 (State.stopMat
    s m) := by
  unfold State.stopMat
  simp (maxDischargeDepth := 40) (contextual := true) [*]

@[simp ↓] theorem State.stopGroup_keeps {s0 : State} {s : State} (g : Nat) (hk : Keeps s0 s) : Keeps s0
    (State.stopGroup s g) := by
  unfold State.stopGroup
  simp (maxDischargeDepth := 40) (contextual := true) [*]

@[simp ↓] theorem State.retireFailing_keeps {s0 : State} {s : State} (c : Nat) (hk : Keeps s0 s) : Keeps s0
    (State.retireFailing s c) := by
  unfold State.retireFailing
  simp (maxDischargeDepth := 40) (contextual := true) [*]

@[simp ↓] theorem State.unplaceable_keeps {s0 : State} {s : State} (src : List Nat) (hk : Keeps s0 s) : Keeps s0
    (State.unplaceable s src) := by
  unfold State.unplaceable
  repeat' first
    | (simp (maxDischargeDepth := 40) (contextual := true) [*]; done)
    | split
    | (with_reducible refine keeps_foldl ?_ (fun t a ht => ?_) _)
    | dsimp only

end Sys2Proof.Machine
end

