-- ==== Sys2Proof/Laws/KeepsProtectOps.lean ====
section
/-! SUPPORT.  Each operation of ProtectOps.lean gives a later state (Keeps). -/

set_option linter.unreachableTactic false
set_option linter.unusedTactic false

namespace Sys2Proof.Machine

open Sys2Proof

@[simp ↓] theorem State.showFault_keeps {s0 : State} {s : State}  (hk : Keeps s0 s) : Keeps s0 (State.showFault s) := by
  unfold State.showFault
  simp (maxDischargeDepth := 40) [*]

@[simp ↓] theorem State.setFault_keeps {s0 : State} {s : State} (i : Nat) (hk : Keeps s0 s) : Keeps s0
    (State.setFault s i) := by
  unfold State.setFault
  simp (maxDischargeDepth := 40) [*]

@[simp ↓] theorem State.clearFaults_keeps {s0 : State} {s : State} (is : List Nat) (hk : Keeps s0 s) : Keeps s0
    (State.clearFaults s is) := by
  unfold State.clearFaults
  simp (maxDischargeDepth := 40) (contextual := true) [*]

@[simp ↓] theorem State.charterAll_keeps {s0 : State} {s : State} (i : Nat) (hk : Keeps s0 s) : Keeps s0
    (State.charterAll s i) := by
  unfold State.charterAll
  simp (maxDischargeDepth := 40) (contextual := true) [*]

@[simp ↓] theorem State.stopPacers_keeps {s0 : State} {s : State}  (hk : Keeps s0 s) : Keeps s0 (State.stopPacers s) := by
  unfold State.stopPacers
  simp (maxDischargeDepth := 40) (contextual := true) [*]

@[simp ↓] theorem State.nullAll_keeps {s0 : State} {s : State}  (hk : Keeps s0 s) : Keeps s0 (State.nullAll s) := by
  unfold State.nullAll
  simp (maxDischargeDepth := 40) (contextual := true) [*]

@[simp ↓] theorem State.unstage_keeps {s0 : State} {s : State}  (hk : Keeps s0 s) : Keeps s0 (State.unstage s) := by
  unfold State.unstage
  simp (maxDischargeDepth := 40) [*]

@[simp ↓] theorem State.chainPack_keeps {s0 : State} {s : State} (p : PackRun) (hk : Keeps s0 s) : Keeps s0
    (State.chainPack s p) := by
  unfold State.chainPack
  simp (maxDischargeDepth := 40) [*]

@[simp ↓] theorem State.failPack_keeps {s0 : State} {s : State} (status : Nat) (hk : Keeps s0 s) : Keeps s0
    (State.failPack s status) := by
  unfold State.failPack
  repeat' first
    | (simp (maxDischargeDepth := 40) (contextual := true) [*]; done)
    | split
    | (with_reducible refine keeps_foldl ?_ (fun t a ht => ?_) _)
    | dsimp only

@[simp ↓] theorem State.repairAgain_keeps {s0 : State} {s : State} (a : Act) (hk : Keeps s0 s) : Keeps s0
    (State.repairAgain s a) := by
  unfold State.repairAgain
  simp (maxDischargeDepth := 40) [*]

@[simp ↓] theorem State.dropReloc_keeps {s0 : State} {s : State} (r : Reloc) (ref : Option CmdRef) (hk : Keeps s0 s)
    : Keeps s0 (State.dropReloc s r ref) := by
  unfold State.dropReloc
  repeat' first
    | (simp (maxDischargeDepth := 40) (contextual := true) [*]; done)
    | split
    | (with_reducible refine keeps_foldl ?_ (fun t a ht => ?_) _)
    | dsimp only

@[simp ↓] theorem State.endWaitingSurvey_keeps {s0 : State} {s : State} (a : Act) (status : Nat) (hk : Keeps s0 s) :
    Keeps s0 (State.endWaitingSurvey s a status) := by
  unfold State.endWaitingSurvey
  simp (maxDischargeDepth := 40) [*]

@[simp ↓] theorem State.abandonAct_keeps {s0 : State} {s : State} (a : Act) (hk : Keeps s0 s) : Keeps s0
    (State.abandonAct s a) := by
  unfold State.abandonAct
  repeat' first
    | (simp (maxDischargeDepth := 40) (contextual := true) [*]; done)
    | split
    | (with_reducible refine keeps_foldl ?_ (fun t a ht => ?_) _)
    | dsimp only

@[simp ↓] theorem State.dropTraverse_keeps {s0 : State} {s : State}  (hk : Keeps s0 s) : Keeps s0
    (State.dropTraverse s) := by
  unfold State.dropTraverse
  refine keeps_ite ?_ hk
  lift_lets; intro r t
  have h : Keeps s0 t := keeps_foldl hk (fun t a ht => by split <;> simp [ht]) _
  clear_value t
  simp (maxDischargeDepth := 40) (contextual := true) [h]

@[simp ↓] theorem State.protect_keeps {s0 : State} {s : State} (scope : Task → Bool) (hk : Keeps s0 s) : Keeps s0
    (State.protect s scope) := by
  unfold State.protect
  simp (maxDischargeDepth := 40) (contextual := true) [*]

@[simp ↓] theorem State.failCrosier_keeps {s0 : State} {s : State} (c : Crosier) (hk : Keeps s0 s) : Keeps s0
    (State.failCrosier s c) := by
  unfold State.failCrosier
  simp (maxDischargeDepth := 40) (contextual := true) [*]

@[simp ↓] theorem State.failLoad_keeps {s0 : State} {s : State} (r : LoadRun) (hk : Keeps s0 s) : Keeps s0
    (State.failLoad s r) := by
  unfold State.failLoad
  simp (maxDischargeDepth := 40) (contextual := true) [*]

@[simp ↓] theorem State.endFabricWork_keeps {s0 : State} {s : State}  (hk : Keeps s0 s) : Keeps s0
    (State.endFabricWork s) := by
  unfold State.endFabricWork
  simp (maxDischargeDepth := 40) (contextual := true) [*]

@[simp ↓] theorem State.loseFabric_keeps {s0 : State} {s : State}  (hk : Keeps s0 s) : Keeps s0 (State.loseFabric s) := by
  unfold State.loseFabric
  simp (maxDischargeDepth := 40) (contextual := true) [*]

end Sys2Proof.Machine
end

