-- ==== Sys2Proof/Laws/KeepsClockOps.lean ====
section
/-! SUPPORT.  Each operation of ClockOps.lean gives a later state (Keeps). -/

set_option linter.unreachableTactic false
set_option linter.unusedTactic false

namespace Sys2Proof.Machine

open Sys2Proof

@[simp ↓] theorem State.phaseFive_keeps {s0 : State} {s : State}  (hk : Keeps s0 s) : Keeps s0 (State.phaseFive s) := by
  unfold State.phaseFive
  simp (maxDischargeDepth := 40) [*]

@[simp ↓] theorem State.showWait_keeps {s0 : State} {s : State}  (hk : Keeps s0 s) : Keeps s0 (State.showWait s) := by
  unfold State.showWait
  simp (maxDischargeDepth := 40) [*]

@[simp ↓] theorem State.dropLanes_keeps {s0 : State} {s : State} (on : Nat → Bool) (hk : Keeps s0 s) : Keeps s0
    (State.dropLanes s on) := by
  unfold State.dropLanes
  simp (maxDischargeDepth := 40) (contextual := true) [*]

@[simp ↓] theorem State.dropTethers_keeps {s0 : State} {s : State} (on : Nat → Bool) (hk : Keeps s0 s) : Keeps s0
    (State.dropTethers s on) := by
  unfold State.dropTethers
  simp (maxDischargeDepth := 40) (contextual := true) [*]

@[simp ↓] theorem State.freezePacers_keeps {s0 : State} {s : State}  (hk : Keeps s0 s) : Keeps s0
    (State.freezePacers s) := by
  unfold State.freezePacers
  simp (maxDischargeDepth := 40) (contextual := true) [*]

@[simp ↓] theorem State.thawPacers_keeps {s0 : State} {s : State}  (hk : Keeps s0 s) : Keeps s0 (State.thawPacers s) := by
  unfold State.thawPacers
  simp (maxDischargeDepth := 40) (contextual := true) [*]

@[simp ↓] theorem State.setOp_keeps {s0 : State} {s : State} (o : Option OpRun) (hk : Keeps s0 s) : Keeps s0
    (State.setOp s o) := by
  unfold State.setOp
  simp (maxDischargeDepth := 40) [*]

@[simp ↓] theorem State.opAsk_keeps {s0 : State} {s : State}  (hk : Keeps s0 s) : Keeps s0 (State.opAsk s) := by
  unfold State.opAsk
  repeat' first
    | (simp (maxDischargeDepth := 40) (contextual := true) [*]; done)
    | split
    | (with_reducible refine keeps_foldl ?_ (fun t a ht => ?_) _)
    | dsimp only

@[simp ↓] theorem State.startOp_keeps {s0 : State} {s : State} (k : Nat) (hk : Keeps s0 s) : Keeps s0 (State.startOp
    s k) := by
  unfold State.startOp
  simp (maxDischargeDepth := 40) [*]

@[simp ↓] theorem State.pendingOp_keeps {s0 : State} {s : State}  (hk : Keeps s0 s) : Keeps s0 (State.pendingOp s) := by
  unfold State.pendingOp
  simp (maxDischargeDepth := 40) [*]

@[simp ↓] theorem State.endOp_keeps {s0 : State} {s : State}  (hk : Keeps s0 s) : Keeps s0 (State.endOp s) := by
  unfold State.endOp
  repeat' first
    | (simp (maxDischargeDepth := 40) (contextual := true) [*]; done)
    | split
    | (with_reducible refine keeps_foldl ?_ (fun t a ht => ?_) _)
    | dsimp only

@[simp ↓] theorem State.avsWorks_keeps {s0 : State} {s : State}  (hk : Keeps s0 s) : Keeps s0 (State.avsWorks s) := by
  unfold State.avsWorks
  simp (maxDischargeDepth := 40) [*]

@[simp ↓] theorem State.halve_keeps {s0 : State} {s : State} (mv : Nat) (hk : Keeps s0 s) : Keeps s0 (State.halve s
    mv) := by
  unfold State.halve
  simp (maxDischargeDepth := 40) [*]

@[simp ↓] theorem State.unhalve_keeps {s0 : State} {s : State}  (hk : Keeps s0 s) : Keeps s0 (State.unhalve s) := by
  unfold State.unhalve
  simp (maxDischargeDepth := 40) [*]

@[simp ↓] theorem State.showTree_keeps {s0 : State} {s : State} (n : Nat) (hk : Keeps s0 s) : Keeps s0
    (State.showTree s n) := by
  unfold State.showTree
  simp (maxDischargeDepth := 40) [*]

@[simp ↓] theorem State.setReleased_keeps {s0 : State} {s : State} (n : Nat) (b : Bool) (hk : Keeps s0 s) : Keeps s0
    (State.setReleased s n b) := by
  unfold State.setReleased
  simp (maxDischargeDepth := 40) [*]

@[simp ↓] theorem State.runSwitch_keeps {s0 : State} {s : State} (n : Nat) (hk : Keeps s0 s) : Keeps s0
    (State.runSwitch s n) := by
  unfold State.runSwitch
  simp (maxDischargeDepth := 40) [*]

@[simp ↓] theorem State.forceSwitch_keeps {s0 : State} {s : State} (n : Nat) (src : Nat) (hk : Keeps s0 s) : Keeps
    s0 (State.forceSwitch s n src) := by
  unfold State.forceSwitch
  simp (maxDischargeDepth := 40) [*]

@[simp ↓] theorem State.writeTree_keeps {s0 : State} {s : State} (n : Nat) (v : Reg) (hk : Keeps s0 s) : Keeps s0
    (State.writeTree s n v) := by
  unfold State.writeTree
  simp (maxDischargeDepth := 40) [*]

@[simp ↓] theorem State.gateRefused_keeps {s0 : State} {s : State} (reg : Nat) (bit : Nat) (hk : Keeps s0 s) : Keeps
    s0 (State.gateRefused s reg bit) := by
  unfold State.gateRefused
  simp (maxDischargeDepth := 40) [*]

@[simp ↓] theorem State.writeEnBit_keeps {s0 : State} {s : State} (second : Bool) (i : Nat) (b : Bool) (hk : Keeps
    s0 s) : Keeps s0 (State.writeEnBit s second i b) := by
  unfold State.writeEnBit
  repeat' first
    | (simp (maxDischargeDepth := 40) (contextual := true) [*]; done)
    | split
    | (with_reducible refine keeps_foldl ?_ (fun t a ht => ?_) _)
    | dsimp only

@[simp ↓] theorem State.writeGrp_keeps {s0 : State} {s : State} (v : Reg) (hk : Keeps s0 s) : Keeps s0
    (State.writeGrp s v) := by
  unfold State.writeGrp
  simp (maxDischargeDepth := 40) (contextual := true) [*]

end Sys2Proof.Machine
end

