-- ==== Sys2Proof/Laws/KeepsTimeOps.lean ====
section
/-! SUPPORT.  Each operation of TimeOps.lean gives a later state (Keeps). -/

set_option linter.unreachableTactic false
set_option linter.unusedTactic false

namespace Sys2Proof.Machine

open Sys2Proof

@[simp ↓] theorem State.setSlew_keeps {s0 : State} {s : State} (x : Int) (hk : Keeps s0 s) : Keeps s0 (State.setSlew
    s x) := by
  unfold State.setSlew
  simp (maxDischargeDepth := 40) [*]

@[simp ↓] theorem State.stepTime_keeps {s0 : State} {s : State} (off : Int) (hk : Keeps s0 s) : Keeps s0
    (State.stepTime s off) := by
  unfold State.stepTime
  simp (maxDischargeDepth := 40) [*]

@[simp ↓] theorem State.correctTime_keeps {s0 : State} {s : State} (off : Int) (hk : Keeps s0 s) : Keeps s0
    (State.correctTime s off) := by
  unfold State.correctTime
  simp (maxDischargeDepth := 40) [*]

@[simp ↓] theorem State.tick_keeps {s0 : State} {s : State}  (hk : Keeps s0 s) : Keeps s0 (State.tick s) := by
  unfold State.tick
  simp (maxDischargeDepth := 40) [*]

@[simp ↓] theorem State.submitRepair_keeps {s0 : State} {s : State} (again : Bool) (t : Task) (locks : List Lock)
    (requester : Nat) (resource : Nat) (hk : Keeps s0 s) : Keeps s0 (State.submitRepair s again t locks requester
    resource) := by
  unfold State.submitRepair
  repeat' first
    | (simp (maxDischargeDepth := 40) (contextual := true) [*]; done)
    | split
    | (with_reducible refine keeps_foldl ?_ (fun t a ht => ?_) _)
    | dsimp only

@[simp ↓] theorem State.submitAgain_keeps {s0 : State} {s : State}  (hk : Keeps s0 s) : Keeps s0 (State.submitAgain
    s) := by
  unfold State.submitAgain
  simp (maxDischargeDepth := 40) (contextual := true) [*]

@[simp ↓] theorem State.armPacer_keeps {s0 : State} {s : State} (p : Nat) (ops : List PaceOp) (hk : Keeps s0 s) :
    Keeps s0 (State.armPacer s p ops) := by
  unfold State.armPacer
  simp (maxDischargeDepth := 40) [*]

@[simp ↓] theorem State.beginPeriod_keeps {s0 : State} {s : State} (p : Nat) (n : Nat) (b : Word) (record : List
    Word) (hk : Keeps s0 s) : Keeps s0 (State.beginPeriod s p n b record) := by
  unfold State.beginPeriod
  simp (maxDischargeDepth := 40) [*]

@[simp ↓] theorem State.boundary_keeps {s0 : State} {s : State} (p : Nat) (n : Nat) (b : Word) (hk : Keeps s0 s) :
    Keeps s0 (State.boundary s p n b) := by
  unfold State.boundary
  simp (maxDischargeDepth := 40) [*]

@[simp ↓] theorem State.reachCut_keeps {s0 : State} {s : State} (p : Nat) (hk : Keeps s0 s) : Keeps s0
    (State.reachCut s p) := by
  unfold State.reachCut
  repeat' first
    | (simp (maxDischargeDepth := 40) (contextual := true) [*]; done)
    | split
    | (with_reducible refine keeps_foldl ?_ (fun t a ht => ?_) _)
    | dsimp only

@[simp ↓] theorem State.deadlineAt_keeps {s0 : State} {s : State} (p : Nat) (hk : Keeps s0 s) : Keeps s0
    (State.deadlineAt s p) := by
  unfold State.deadlineAt
  repeat' first
    | (simp (maxDischargeDepth := 40) (contextual := true) [*]; done)
    | split
    | (with_reducible refine keeps_foldl ?_ (fun t a ht => ?_) _)
    | dsimp only

end Sys2Proof.Machine
end

