-- ==== Sys2Proof/Laws/KeepsLanes.lean ====
section
/-! SUPPORT.  Each operation of Lanes.lean gives a later state (Keeps). -/

set_option linter.unreachableTactic false
set_option linter.unusedTactic false

namespace Sys2Proof.Machine

open Sys2Proof


@[simp ↓] theorem State.stopLane_keeps {s0 : State} {s : State} (x : Nat) (cfg : Reg) (reason : Nat) (hk : Keeps s0
    s) : Keeps s0 (State.stopLane s x cfg reason) := by
  unfold State.stopLane
  simp (maxDischargeDepth := 40) [*]

@[simp ↓] theorem State.retuneLane_keeps {s0 : State} {s : State} (x : Nat) (cfg : Reg) (hk : Keeps s0 s) : Keeps s0
    (State.retuneLane s x cfg) := by
  unfold State.retuneLane
  simp (maxDischargeDepth := 40) [*]

@[simp ↓] theorem State.writeLane_keeps {s0 : State} {s : State} (x : Nat) (v : Reg) (hk : Keeps s0 s) : Keeps s0
    (State.writeLane s x v) := by
  unfold State.writeLane
  repeat (refine keeps_ite (by simp (maxDischargeDepth := 40) [hk]) ?_)
  split <;> simp (maxDischargeDepth := 40) [hk]

@[simp ↓] theorem execLaneEnable_goes {s0 : State} {s : State} (req : Requester) (lane : LaneId) (value : Reg) (hk :
    Keeps s0 s) : Goes s0 (execLaneEnable req lane value s) := by
  unfold execLaneEnable
  simp (maxDischargeDepth := 40) (contextual := true) [*]

@[simp ↓] theorem execLaneDisable_goes {s0 : State} {s : State} (req : Requester) (lane : LaneId) (value : Reg) (hk
    : Keeps s0 s) : Goes s0 (execLaneDisable req lane value s) := by
  unfold execLaneDisable
  simp (maxDischargeDepth := 40) (contextual := true) [*]

@[simp ↓] theorem execLaneDown_goes {s0 : State} {s : State} (lane : LaneId) (cause : Fin 3) (hk : Keeps s0 s) :
    Goes s0 (execLaneDown lane cause s) := by
  unfold execLaneDown
  simp (maxDischargeDepth := 40) [*]

@[simp ↓] theorem execLaneUp_goes {s0 : State} {s : State} (lane : LaneId) (hk : Keeps s0 s) : Goes s0 (execLaneUp
    lane s) := by
  unfold execLaneUp
  simp (maxDischargeDepth := 40) [*]

@[simp ↓] theorem State.laneToMat_keeps {s0 : State} {s : State} (x : Nat) (rx : LaneRx) (hk : Keeps s0 s) : Keeps
    s0 (State.laneToMat s x rx) := by
  unfold State.laneToMat
  simp (maxDischargeDepth := 40) [*]

@[simp ↓] theorem State.laneToQueue_keeps {s0 : State} {s : State} (lane : LaneId) (rx : LaneRx) (hk : Keeps s0 s) :
    Keeps s0 (State.laneToQueue s lane rx) := by
  unfold State.laneToQueue
  simp (maxDischargeDepth := 40) [*]

@[simp ↓] theorem State.loopRx_keeps {s0 : State} {s : State} (x : Nat) (rx : LaneRx) (hk : Keeps s0 s) : Keeps s0
    (State.loopRx s x rx).1 := by
  unfold State.loopRx
  repeat' first
    | (simp (maxDischargeDepth := 40) (contextual := true) [*]; done)
    | split
    | (with_reducible refine keeps_foldl ?_ (fun t a ht => ?_) _)
    | dsimp only

@[simp ↓] theorem execLaneRxToken_goes {s0 : State} {s : State} (lane : LaneId) (rx : LaneRx) (hk : Keeps s0 s) :
    Goes s0 (execLaneRxToken lane rx s) := by
  unfold execLaneRxToken
  repeat' first
    | (intro x; subst x)
    | (simp (maxDischargeDepth := 40) (contextual := true) [*]; done)
    | (rename_i e; simp only [Prod.ext_iff] at e; obtain ⟨e1, e2⟩ := e; (try subst e1); (try subst e2))
    | split
    | (with_reducible refine keeps_foldl ?_ (fun t a ht => ?_) _)
    | (with_reducible refine keeps_mk ?_ ?_ ?_ ?_ ?_ ?_ ?_ ?_ ?_ ?_ ?_)
    | dsimp only

@[simp ↓] theorem State.laneEmit_keeps {s0 : State} {s : State} (x : Nat) (item : Option Nat) (err : Bool) (hk :
    Keeps s0 s) : Keeps s0 (State.laneEmit s x item err) := by
  unfold State.laneEmit
  simp (maxDischargeDepth := 40) [*]

@[simp ↓] theorem State.loopTx_keeps {s0 : State} {s : State} (x : Nat) (b : BitVec 72) (k : LaneBlock) (hk : Keeps
    s0 s) : Keeps s0 (State.loopTx s x b k) := by
  unfold State.loopTx
  simp (maxDischargeDepth := 40) [*]

@[simp ↓] theorem State.laneFromMat_keeps {s0 : State} {s : State} (x : Nat) (tx : LaneTx) (hk : Keeps s0 s) : Keeps
    s0 (State.laneFromMat s x tx) := by
  unfold State.laneFromMat
  repeat' first
    | (simp (maxDischargeDepth := 40) (contextual := true) [*]; done)
    | split
    | (with_reducible refine keeps_foldl ?_ (fun t a ht => ?_) _)
    | dsimp only

@[simp ↓] theorem State.laneFromQueue_keeps {s0 : State} {s : State} (lane : LaneId) (tx : LaneTx) (hk : Keeps s0 s)
    : Keeps s0 (State.laneFromQueue s lane tx) := by
  unfold State.laneFromQueue
  repeat' first
    | (intro x; have hx : Keeps s0 x; on_goal 2 => clear_value x; on_goal 1 => subst x)
    | (intro x; subst x)
    | (simp (maxDischargeDepth := 40) (contextual := true) [*]; done)
    | (rename_i e; simp only [Prod.ext_iff] at e; obtain ⟨e1, e2⟩ := e; (try subst e1); (try subst e2))
    | split
    | (with_reducible refine keeps_foldl ?_ (fun t a ht => ?_) _)
    | (with_reducible refine keeps_mk ?_ ?_ ?_ ?_ ?_ ?_ ?_ ?_ ?_ ?_ ?_)

@[simp ↓] theorem execLaneTxToken_goes {s0 : State} {s : State} (lane : LaneId) (tx : LaneTx) (hk : Keeps s0 s) :
    Goes s0 (execLaneTxToken lane tx s) := by
  unfold execLaneTxToken
  repeat' first
    | (simp (maxDischargeDepth := 40) (contextual := true) [*]; done)
    | split
    | (with_reducible refine keeps_foldl ?_ (fun t a ht => ?_) _)
    | dsimp only

@[simp ↓] theorem State.tetherRefused_keeps {s0 : State} {s : State} (k : Nat) (v : Reg) (reason : Nat) (hk : Keeps
    s0 s) : Keeps s0 (State.tetherRefused s k v reason) := by
  unfold State.tetherRefused
  simp (maxDischargeDepth := 40) [*]

@[simp ↓] theorem State.onTether_keeps {s0 : State} {s : State} (k : Nat) (synth : Nat) (v : Reg) (hk : Keeps s0 s)
    : Keeps s0 (State.onTether s k synth v) := by
  unfold State.onTether
  simp (maxDischargeDepth := 40) (contextual := true) [*]

@[simp ↓] theorem State.writeTether_keeps {s0 : State} {s : State} (k : Nat) (v : Reg) (hk : Keeps s0 s) : Keeps s0
    (State.writeTether s k v) := by
  unfold State.writeTether
  refine keeps_ite hk ?_
  lift_lets; intro t
  have h : Keeps s0 t := by simp (maxDischargeDepth := 40) [t, hk]
  clear_value t
  repeat (refine keeps_ite (by simp (maxDischargeDepth := 40) [h]) ?_)
  split <;> simp (maxDischargeDepth := 40) [h]

@[simp ↓] theorem execTetherEnable_goes {s0 : State} {s : State} (req : Requester) (tether : TetherId) (value : Reg)
    (hk : Keeps s0 s) : Goes s0 (execTetherEnable req tether value s) := by
  unfold execTetherEnable
  simp (maxDischargeDepth := 40) (contextual := true) [*]

@[simp ↓] theorem execTetherUp_goes {s0 : State} {s : State} (tether : TetherId) (peer : Fin 8) (peerRole : BitVec
    2) (latNs : BitVec 10) (lanes : BitVec 4) (hk : Keeps s0 s) : Goes s0 (execTetherUp tether peer peerRole latNs
    lanes s) := by
  unfold execTetherUp
  simp (maxDischargeDepth := 40) (contextual := true) [*]

@[simp ↓] theorem execTetherStrobe_goes {s0 : State} {s : State} (tether : TetherId) (group : Id64) (slot : SlotId)
    (at_ : Word) (hk : Keeps s0 s) : Goes s0 (execTetherStrobe tether group slot at_ s) := by
  unfold execTetherStrobe
  simp (maxDischargeDepth := 40) [*]

@[simp ↓] theorem State.ifEnded_keeps {s0 : State} {s : State} (g : Nat) (b : Option Nat) (hk : Keeps s0 s) : Keeps
    s0 (State.ifEnded s g b) := by
  unfold State.ifEnded
  simp (maxDischargeDepth := 40) [*]

@[simp ↓] theorem execTetherReport_goes {s0 : State} {s : State} (tether : TetherId) (group : Id64) (status : Byte)
    (hk : Keeps s0 s) : Goes s0 (execTetherReport tether group status s) := by
  unfold execTetherReport
  repeat' first
    | (simp (maxDischargeDepth := 40) (contextual := true) [*]; done)
    | split
    | (with_reducible refine keeps_foldl ?_ (fun t a ht => ?_) _)
    | dsimp only

@[simp ↓] theorem execTetherFlip_goes {s0 : State} {s : State} (tether : TetherId) (group : Id64) (hk : Keeps s0 s)
    : Goes s0 (execTetherFlip tether group s) := by
  unfold execTetherFlip
  repeat' first
    | (simp (maxDischargeDepth := 40) (contextual := true) [*]; done)
    | split
    | (with_reducible refine keeps_foldl ?_ (fun t a ht => ?_) _)
    | dsimp only

@[simp ↓] theorem execTetherAbandon_goes {s0 : State} {s : State} (tether : TetherId) (group : Id64) (status : Byte)
    (hk : Keeps s0 s) : Goes s0 (execTetherAbandon tether group status s) := by
  unfold execTetherAbandon
  repeat' first
    | (simp (maxDischargeDepth := 40) (contextual := true) [*]; done)
    | split
    | (with_reducible refine keeps_foldl ?_ (fun t a ht => ?_) _)
    | dsimp only

@[simp ↓] theorem execTetherFlipAck_goes {s0 : State} {s : State} (tether : TetherId) (group : Id64) (hk : Keeps s0
    s) : Goes s0 (execTetherFlipAck tether group s) := by
  unfold execTetherFlipAck
  simp (maxDischargeDepth := 40) [*]

@[simp ↓] theorem State.noteAlign_keeps {s0 : State} {s : State} (k : Nat) (off : Nat) (hk : Keeps s0 s) : Keeps s0
    (State.noteAlign s k off) := by
  unfold State.noteAlign
  simp (maxDischargeDepth := 40) [*]

@[simp ↓] theorem execTetherTime_goes {s0 : State} {s : State} (tether : TetherId) (lead : Word) (hk : Keeps s0 s) :
    Goes s0 (execTetherTime tether lead s) := by
  unfold execTetherTime
  simp (maxDischargeDepth := 40) [*]

@[simp ↓] theorem execTetherTimeSend_goes {s0 : State} {s : State} (resent : List (BitVec 16)) (hk : Keeps s0 s) :
    Goes s0 (execTetherTimeSend resent s) := by
  unfold execTetherTimeSend
  simp (maxDischargeDepth := 40) (contextual := true) [*]

@[simp ↓] theorem execTetherCredit_goes {s0 : State} {s : State} (tether : TetherId) (blocks : BitVec 16) (hk :
    Keeps s0 s) : Goes s0 (execTetherCredit tether blocks s) := by
  unfold execTetherCredit
  simp (maxDischargeDepth := 40) [*]

end Sys2Proof.Machine
end

