-- ==== Sys2Proof/Laws/KeepsContexts.lean ====
section
/-! SUPPORT.  Each operation of Contexts.lean gives a later state (Keeps). -/

set_option linter.unreachableTactic false
set_option linter.unusedTactic false

namespace Sys2Proof.Machine

open Sys2Proof

@[simp ↓] theorem execCtxLoad_goes {s0 : State} {s : State} (h : Hdr) (mat : BitVec 16) (scope : Byte) (group :
    Byte) (slot : Byte) (entry : Byte) (waitMs : Byte) (hk : Keeps s0 s) : Goes s0 (execCtxLoad h mat scope group
    slot entry waitMs s) := by
  unfold execCtxLoad
  refine goes_next (State.hostCmd_keeps _ _ _ hk (fun t ht => ?_))
  clear hk
  lift_lets
  repeat' first
    | exact State.ends_keeps _ ht
    | (intro x; subst x)
    | (with_reducible refine keeps_ite_st ?_ ?_)
    | (simp (maxDischargeDepth := 40) (contextual := true) [*]; done)
    | (rename_i e; simp only [Prod.ext_iff] at e; obtain ⟨e1, e2⟩ := e; (try subst e1); (try subst e2))
    | split
    | dsimp only

@[simp ↓] theorem execSlotLoadDone_goes {s0 : State} {s : State} (mat : MatId) (slot : SlotId) (match1 : Bool)
    (match2 : Bool) (failed : List (Fin 4 × Fin 56 × Fin 66)) (hk : Keeps s0 s) : Goes s0 (execSlotLoadDone mat slot
    match1 match2 failed s) := by
  unfold execSlotLoadDone
  repeat' first
    | (simp (maxDischargeDepth := 40) (contextual := true) [*]; done)
    | split
    | (with_reducible refine keeps_foldl ?_ (fun t a ht => ?_) _)
    | dsimp only

@[simp ↓] theorem execCtxLoadWaitTimeout_goes {s0 : State} {s : State} (ring : Fin 64) (id : BitVec 32) (hk : Keeps
    s0 s) : Goes s0 (execCtxLoadWaitTimeout ring id s) := by
  unfold execCtxLoadWaitTimeout
  repeat' first
    | (simp (maxDischargeDepth := 40) (contextual := true) [*]; done)
    | split
    | (with_reducible refine keeps_foldl ?_ (fun t a ht => ?_) _)
    | dsimp only

@[simp ↓] theorem execCtxSwap_goes {s0 : State} {s : State} (h : Hdr) (group : Byte) (slot : Byte) (when_ : Byte)
    (tether : Byte) (at_ : Word) (hk : Keeps s0 s) : Goes s0 (execCtxSwap h group slot when_ tether at_ s) := by
  unfold execCtxSwap
  refine goes_next (State.hostCmd_keeps _ _ _ hk (fun t ht => ?_))
  clear hk
  lift_lets
  repeat' first
    | exact State.ends_keeps _ ht
    | (intro x; subst x)
    | (with_reducible refine keeps_ite_st ?_ ?_)
    | (simp (maxDischargeDepth := 40) (contextual := true) [*]; done)
    | (rename_i e; simp only [Prod.ext_iff] at e; obtain ⟨e1, e2⟩ := e; (try subst e1); (try subst e2))
    | split
    | dsimp only

@[simp ↓] theorem execSwap_goes {s0 : State} {s : State} (group : Id64) (slot : SlotId) (trigger : Fin 4) (hk :
    Keeps s0 s) : Goes s0 (execSwap group slot trigger s) := by
  unfold execSwap
  repeat' first
    | (simp (maxDischargeDepth := 40) (contextual := true) [*]; done)
    | split
    | (with_reducible refine keeps_foldl ?_ (fun t a ht => ?_) _)
    | dsimp only

@[simp ↓] theorem execSwapFlip_goes {s0 : State} {s : State} (group : Id64) (quiet : List (MatId × BitVec 32)) (hk :
    Keeps s0 s) : Goes s0 (execSwapFlip group quiet s) := by
  unfold execSwapFlip
  repeat' first
    | (simp (maxDischargeDepth := 40) (contextual := true) [*]; done)
    | split
    | (with_reducible refine keeps_foldl ?_ (fun t a ht => ?_) _)
    | dsimp only

@[simp ↓] theorem execSwapTimeout_goes {s0 : State} {s : State} (group : Id64) (quiet : List (MatId × BitVec 32))
    (hk : Keeps s0 s) : Goes s0 (execSwapTimeout group quiet s) := by
  unfold execSwapTimeout
  repeat' first
    | (simp (maxDischargeDepth := 40) (contextual := true) [*]; done)
    | split
    | (with_reducible refine keeps_foldl ?_ (fun t a ht => ?_) _)
    | dsimp only

@[simp ↓] theorem execSwapRequestToken_goes {s0 : State} {s : State} (mat : MatId) (valid : Bool) (slot : SlotId)
    (hk : Keeps s0 s) : Goes s0 (execSwapRequestToken mat valid slot s) := by
  unfold execSwapRequestToken
  repeat' first
    | (simp (maxDischargeDepth := 40) (contextual := true) [*]; done)
    | split
    | (with_reducible refine keeps_foldl ?_ (fun t a ht => ?_) _)
    | dsimp only

@[simp ↓] theorem State.scheduleSet_keeps {s0 : State} {s : State} (group : Byte) (pacer : Byte) (mode : Byte)
    (count : Byte) (first : Word) (phases : List (BitVec 32)) (hk : Keeps s0 s) : Keeps s0 (State.scheduleSet group
    pacer mode count first phases s).st := by
  unfold State.scheduleSet
  simp (maxDischargeDepth := 40) [*]

@[simp ↓] theorem execScheduleSet_goes {s0 : State} {s : State} (h : Hdr) (group : Byte) (pacer : Byte) (mode :
    Byte) (count : Byte) (first : Word) (phases : List (BitVec 32)) (hk : Keeps s0 s) : Goes s0 (execScheduleSet h
    group pacer mode count first phases s) := by
  unfold execScheduleSet
  simp (maxDischargeDepth := 40) (contextual := true) [*]

@[simp ↓] theorem execSchedulePhase_goes {s0 : State} {s : State} (group : Id64) (phase : Fin 8) (hk : Keeps s0 s) :
    Goes s0 (execSchedulePhase group phase s) := by
  unfold execSchedulePhase
  repeat' first
    | (simp (maxDischargeDepth := 40) (contextual := true) [*]; done)
    | split
    | (with_reducible refine keeps_foldl ?_ (fun t a ht => ?_) _)
    | dsimp only

@[simp ↓] theorem execCrosierLoad_goes {s0 : State} {s : State} (h : Hdr) (mat : BitVec 16) (scope : Byte) (group :
    Byte) (entry : Byte) (hk : Keeps s0 s) : Goes s0 (execCrosierLoad h mat scope group entry s) := by
  unfold execCrosierLoad
  refine goes_next (State.hostCmd_keeps _ _ _ hk (fun t ht => ?_))
  clear hk
  lift_lets
  repeat' first
    | exact State.ends_keeps _ ht
    | (intro x; subst x)
    | (with_reducible refine keeps_ite_st ?_ ?_)
    | (simp (maxDischargeDepth := 40) (contextual := true) [*]; done)
    | (rename_i e; simp only [Prod.ext_iff] at e; obtain ⟨e1, e2⟩ := e; (try subst e1); (try subst e2))
    | split
    | dsimp only

@[simp ↓] theorem execCrosierDrained_goes {s0 : State} {s : State} (mat : MatId) (quiet : List (MatId × BitVec 32))
    (hk : Keeps s0 s) : Goes s0 (execCrosierDrained mat quiet s) := by
  unfold execCrosierDrained
  repeat' first
    | (simp (maxDischargeDepth := 40) (contextual := true) [*]; done)
    | split
    | (with_reducible refine keeps_foldl ?_ (fun t a ht => ?_) _)
    | dsimp only

@[simp ↓] theorem execCrosierWriteDone_goes {s0 : State} {s : State} (mat : MatId) (failing : List MatId) (hk :
    Keeps s0 s) : Goes s0 (execCrosierWriteDone mat failing s) := by
  unfold execCrosierWriteDone
  repeat' first
    | (simp (maxDischargeDepth := 40) (contextual := true) [*]; done)
    | split
    | (with_reducible refine keeps_foldl ?_ (fun t a ht => ?_) _)
    | dsimp only

@[simp ↓] theorem execCrosierTimeout_goes {s0 : State} {s : State} (mat : MatId) (quiet : List (MatId × BitVec 32))
    (hk : Keeps s0 s) : Goes s0 (execCrosierTimeout mat quiet s) := by
  unfold execCrosierTimeout
  repeat' first
    | (simp (maxDischargeDepth := 40) (contextual := true) [*]; done)
    | split
    | (with_reducible refine keeps_foldl ?_ (fun t a ht => ?_) _)
    | dsimp only

end Sys2Proof.Machine
end

