-- ==== Sys2Proof/Laws/KeepsPacing.lean ====
section
/-! SUPPORT.  Each operation of Pacing.lean gives a later state (Keeps). -/

set_option linter.unreachableTactic false
set_option linter.unusedTactic false

namespace Sys2Proof.Machine

open Sys2Proof

@[simp ↓] theorem execPacerSet_goes {s0 : State} {s : State} (h : Hdr) (pacer : Byte) (op : Byte) (slackPct : Byte)
    (flags : Byte) (period : BitVec 32) (phase : BitVec 32) (margin : BitVec 32) (at_ : Word) (hk : Keeps s0 s) :
    Goes s0 (execPacerSet h pacer op slackPct flags period phase margin at_ s) := by
  unfold execPacerSet
  repeat' first
    | (simp (maxDischargeDepth := 40) (contextual := true) [*]; done)
    | split
    | (with_reducible refine keeps_foldl ?_ (fun t a ht => ?_) _)
    | dsimp only

@[simp ↓] theorem execRegionBind_goes {s0 : State} {s : State} (h : Hdr) (pacer : Byte) (op : Byte) (scope : Byte)
    (group : Byte) (mat : BitVec 16) (anchor : BitVec 16) (hk : Keeps s0 s) : Goes s0 (execRegionBind h pacer op
    scope group mat anchor s) := by
  unfold execRegionBind
  refine goes_next (State.hostCmd_keeps _ _ _ hk (fun t ht => ?_))
  clear hk
  lift_lets
  repeat' first
    | exact State.ends_keeps _ ht
    | (intro x; subst x)
    | (with_reducible refine keeps_ite_st ?_ ?_)
    | (simp (maxDischargeDepth := 40) (contextual := true) [*]; done)
    | (rename_i e; simp only [Prod.ext_iff] at e; obtain ⟨e1, e2⟩ := e; (try subst e1); (try subst e2))
    | split
    | dsimp only

@[simp ↓] theorem execPeriodBoundary_goes {s0 : State} {s : State} (pacer : Id64) (hk : Keeps s0 s) : Goes s0
    (execPeriodBoundary pacer s) := by
  unfold execPeriodBoundary
  simp (maxDischargeDepth := 40) [*]

@[simp ↓] theorem execPeriodDeadline_goes {s0 : State} {s : State} (pacer : Id64) (hk : Keeps s0 s) : Goes s0
    (execPeriodDeadline pacer s) := by
  unfold execPeriodDeadline
  simp (maxDischargeDepth := 40) [*]

@[simp ↓] theorem execLateRestore_goes {s0 : State} {s : State} (pacer : Id64) (hk : Keeps s0 s) : Goes s0
    (execLateRestore pacer s) := by
  unfold execLateRestore
  simp (maxDischargeDepth := 40) [*]

@[simp ↓] theorem execDoneToken_goes {s0 : State} {s : State} (mat : MatId) (hk : Keeps s0 s) : Goes s0
    (execDoneToken mat s) := by
  unfold execDoneToken
  repeat' first
    | (simp (maxDischargeDepth := 40) (contextual := true) [*]; done)
    | split
    | (with_reducible refine keeps_foldl ?_ (fun t a ht => ?_) _)
    | dsimp only

@[simp ↓] theorem execRegionQuiescent_goes {s0 : State} {s : State} (pacer : Id64) (hk : Keeps s0 s) : Goes s0
    (execRegionQuiescent pacer s) := by
  unfold execRegionQuiescent
  simp (maxDischargeDepth := 40) (contextual := true) [*]

@[simp ↓] theorem execOutputLatchWrite_goes {s0 : State} {s : State} (mat : MatId) (token : BitVec 76) (hk : Keeps
    s0 s) : Goes s0 (execOutputLatchWrite mat token s) := by
  unfold execOutputLatchWrite
  repeat' first
    | (simp (maxDischargeDepth := 40) (contextual := true) [*]; done)
    | split
    | (with_reducible refine keeps_foldl ?_ (fun t a ht => ?_) _)
    | dsimp only

@[simp ↓] theorem execTimeTick_goes {s0 : State} {s : State}  (hk : Keeps s0 s) : Goes s0 (execTimeTick s) := by
  unfold execTimeTick
  simp (maxDischargeDepth := 40) (contextual := true) [*]

@[simp ↓] theorem execTimeAdjWrite_goes {s0 : State} {s : State} (req : Requester) (value : BitVec 32) (hk : Keeps
    s0 s) : Goes s0 (execTimeAdjWrite req value s) := by
  unfold execTimeAdjWrite
  simp (maxDischargeDepth := 40) (contextual := true) [*]

@[simp ↓] theorem execPtmExchange_goes {s0 : State} {s : State} (offset : Word) (hk : Keeps s0 s) : Goes s0
    (execPtmExchange offset s) := by
  unfold execPtmExchange
  simp (maxDischargeDepth := 40) [*]

@[simp ↓] theorem execPtmLost_goes {s0 : State} {s : State}  (hk : Keeps s0 s) : Goes s0 (execPtmLost s) := by
  unfold execPtmLost
  simp (maxDischargeDepth := 40) [*]

end Sys2Proof.Machine
end

