-- ==== Sys2Proof/Laws/KeepsTallies.lean ====
section
/-! SUPPORT.  Each operation of Tallies.lean gives a later state (Keeps). -/

set_option linter.unreachableTactic false
set_option linter.unusedTactic false

namespace Sys2Proof.Machine

open Sys2Proof

@[simp ↓] theorem State.configTrack_keeps {s0 : State} {s : State} (t : Nat) (cfg : Reg) (note : BitVec 16) (rec_ :
    BitVec 16) (maxT : Nat) (travel : Nat) (dec : Nat) (hk : Keeps s0 s) : Keeps s0 (State.configTrack s t cfg note
    rec_ maxT travel dec) := by
  unfold State.configTrack
  repeat' first
    | (simp (maxDischargeDepth := 40) (contextual := true) [*]; done)
    | split
    | (with_reducible refine keeps_foldl ?_ (fun t a ht => ?_) _)
    | dsimp only

@[simp ↓] theorem State.flushTrack_keeps {s0 : State} {s : State} (t : Nat) (hk : Keeps s0 s) : Keeps s0
    (State.flushTrack s t) := by
  unfold State.flushTrack
  simp (maxDischargeDepth := 40) [*]

@[simp ↓] theorem State.trackSet_keeps {s0 : State} {s : State} (r : CmdRef) (track : Byte) (op : Byte) (b10 : Byte)
    (b11 : Byte) (b12 : Byte) (b13 : Byte) (h14 : BitVec 16) (h16 : BitVec 16) (h18 : BitVec 16) (w20 : BitVec 32)
    (w24 : BitVec 32) (hk : Keeps s0 s) : Keeps s0 (State.trackSet r track op b10 b11 b12 b13 h14 h16 h18 w20 w24
    s).st := by
  unfold State.trackSet
  dsimp only
  refine keeps_ite_st (by simp [hk]) ?_
  split <;> simp (maxDischargeDepth := 40) [hk]

@[simp ↓] theorem execTrackSet_goes {s0 : State} {s : State} (h : Hdr) (track : Byte) (op : Byte) (b10 : Byte) (b11
    : Byte) (b12 : Byte) (b13 : Byte) (h14 : BitVec 16) (h16 : BitVec 16) (h18 : BitVec 16) (w20 : BitVec 32) (w24 :
    BitVec 32) (hk : Keeps s0 s) : Goes s0 (execTrackSet h track op b10 b11 b12 b13 h14 h16 h18 w20 w24 s) := by
  unfold execTrackSet
  simp (maxDischargeDepth := 40) (contextual := true) [*]

@[simp ↓] theorem State.stationSet_keeps {s0 : State} {s : State} (station : BitVec 16) (kind : Byte) (track : Byte)
    (trigger : Byte) (flags : Byte) (zone : Byte) (field : Byte) (value : Byte) (pin : Byte) (offset : BitVec 32)
    (win : BitVec 16) (holdoff : BitVec 16) (hk : Keeps s0 s) : Keeps s0 (State.stationSet station kind track
    trigger flags zone field value pin offset win holdoff s).st := by
  unfold State.stationSet
  refine keeps_ite_st (State.ends_keeps _ hk) (keeps_ite_st (State.ends_keeps _ hk) (keeps_ite_st (State.ends_keeps _ hk) ?_))
  simp (maxDischargeDepth := 40) [hk]

@[simp ↓] theorem execStationSet_goes {s0 : State} {s : State} (h : Hdr) (station : BitVec 16) (kind : Byte) (track
    : Byte) (trigger : Byte) (flags : Byte) (zone : Byte) (field : Byte) (value : Byte) (pin : Byte) (offset :
    BitVec 32) (win : BitVec 16) (holdoff : BitVec 16) (hk : Keeps s0 s) : Goes s0 (execStationSet h station kind
    track trigger flags zone field value pin offset win holdoff s) := by
  unfold execStationSet
  simp (maxDischargeDepth := 40) (contextual := true) [*]

@[simp ↓] theorem execTallyQuery_goes {s0 : State} {s : State} (h : Hdr) (track : Byte) (mode : Byte) (station :
    BitVec 16) (id : BitVec 32) (addr : Word) (hk : Keeps s0 s) : Goes s0 (execTallyQuery h track mode station id
    addr s) := by
  unfold execTallyQuery
  refine goes_next (State.hostCmd_keeps _ _ _ hk (fun t ht => ?_))
  clear hk
  lift_lets
  repeat' first
    | exact State.ends_keeps _ ht
    | (intro x; subst x)
    | (with_reducible refine keeps_ite_st ?_ ?_)
    | (simp (maxDischargeDepth := 40) (contextual := true) [*]; done)
    | (rename_i e; simp only [Prod.ext_iff] at e; obtain ⟨e1, e2⟩ := e; (try subst e1); (try subst e2))
    | split
    | dsimp only

@[simp ↓] theorem execEncoderEdge_goes {s0 : State} {s : State} (track : Id64) (a : Bool) (b : Bool) (hk : Keeps s0
    s) : Goes s0 (execEncoderEdge track a b s) := by
  unfold execEncoderEdge
  simp (maxDischargeDepth := 40) [*]

@[simp ↓] theorem execPulseEnd_goes {s0 : State} {s : State} (track : Id64) (station : StationId) (tally : BitVec
    32) (hk : Keeps s0 s) : Goes s0 (execPulseEnd track station tally s) := by
  unfold execPulseEnd
  repeat' first
    | (simp (maxDischargeDepth := 40) (contextual := true) [*]; done)
    | split
    | (with_reducible refine keeps_foldl ?_ (fun t a ht => ?_) _)
    | dsimp only

@[simp ↓] theorem execAxisToken_goes {s0 : State} {s : State} (mat : MatId) (pos : BitVec 48) (hk : Keeps s0 s) :
    Goes s0 (execAxisToken mat pos s) := by
  unfold execAxisToken
  repeat' first
    | (simp (maxDischargeDepth := 40) (contextual := true) [*]; done)
    | split
    | (with_reducible refine keeps_foldl ?_ (fun t a ht => ?_) _)
    | dsimp only

@[simp ↓] theorem execEdgeStimulus_goes {s0 : State} {s : State} (station : StationId) (hk : Keeps s0 s) : Goes s0
    (execEdgeStimulus station s) := by
  unfold execEdgeStimulus
  simp (maxDischargeDepth := 40) [*]

@[simp ↓] theorem execNoteToken_goes {s0 : State} {s : State} (mat : MatId) (token : BitVec 96) (hk : Keeps s0 s) :
    Goes s0 (execNoteToken mat token s) := by
  unfold execNoteToken
  repeat' first
    | (simp (maxDischargeDepth := 40) (contextual := true) [*]; done)
    | split
    | (with_reducible refine keeps_foldl ?_ (fun t a ht => ?_) _)
    | dsimp only

@[simp ↓] theorem execTalStimWrite_goes {s0 : State} {s : State} (req : Requester) (value : Reg) (hk : Keeps s0 s) :
    Goes s0 (execTalStimWrite req value s) := by
  unfold execTalStimWrite
  repeat' first
    | (simp (maxDischargeDepth := 40) (contextual := true) [*]; done)
    | split
    | (with_reducible refine keeps_foldl ?_ (fun t a ht => ?_) _)
    | dsimp only

@[simp ↓] theorem State.popStim_keeps {s0 : State} {s : State} (e : Nat) (hk : Keeps s0 s) : Keeps s0 (State.popStim
    s e) := by
  unfold State.popStim
  simp (maxDischargeDepth := 40) [*]

@[simp ↓] theorem State.birth_keeps {s0 : State} {s : State} (x : Stim) (hk : Keeps s0 s) : Keeps s0 (State.birth s
    x) := by
  unfold State.birth
  repeat' first
    | (simp (maxDischargeDepth := 40) (contextual := true) [*]; done)
    | split
    | (with_reducible refine keeps_foldl ?_ (fun t a ht => ?_) _)
    | dsimp only

@[simp ↓] theorem execBirth_goes {s0 : State} {s : State} (engine : EngineId) (hk : Keeps s0 s) : Goes s0 (execBirth
    engine s) := by
  unfold execBirth
  repeat' first
    | (simp (maxDischargeDepth := 40) (contextual := true) [*]; done)
    | split
    | (with_reducible refine keeps_foldl ?_ (fun t a ht => ?_) _)
    | dsimp only

@[simp ↓] theorem execNote_goes {s0 : State} {s : State} (engine : EngineId) (hk : Keeps s0 s) : Goes s0 (execNote
    engine s) := by
  unfold execNote
  repeat' first
    | (simp (maxDischargeDepth := 40) (contextual := true) [*]; done)
    | split
    | (with_reducible refine keeps_foldl ?_ (fun t a ht => ?_) _)
    | dsimp only

end Sys2Proof.Machine
end

