-- ==== Sys2Proof/Laws/KeepsLayOps.lean ====
section
/-! SUPPORT.  Each operation of LayOps.lean gives a later state (Keeps). -/

set_option linter.unreachableTactic false
set_option linter.unusedTactic false

namespace Sys2Proof.Machine

open Sys2Proof

@[simp ↓] theorem State.layCharter_keeps {s0 : State} {s : State} (l : List Byte) (hk : Keeps s0 s) : Keeps s0
    (State.layCharter s l) := by
  unfold State.layCharter
  simp (maxDischargeDepth := 40) [*]

@[simp ↓] theorem State.layEarly_keeps {s0 : State} {s : State} (warm : Bool) (k : Nat) (v : Reg) (hk : Keeps s0 s)
    : Keeps s0 (State.layEarly s warm k v) := by
  unfold State.layEarly
  simp (maxDischargeDepth := 40) [*]

@[simp ↓] theorem layAll_keeps {α : Type} {s0 : State} {f : State → α → Laid} {r : Laid} (h : Keeps s0 r.1)
    (hf : ∀ t a, Keeps s0 t → Keeps s0 (f t a).1) (l : List α) : Keeps s0 (layAll f l r).1 := by
  induction l generalizing r with
  | nil => exact h
  | cons a l ih => exact ih (hf r.1 a h)

@[simp ↓] theorem CmdRes.laid_keeps {s0 : State} {r : CmdRes} (h : Keeps s0 r.st) : Keeps s0 r.laid.1 := h


@[simp ↓] theorem layFirst_keeps {s0 : State} {s : State} (warm : Bool) (x0 : Frame) (hk : Keeps s0 s) : Keeps s0
    (layFirst warm s x0).1 := by
  unfold layFirst
  repeat' first
    | (simp (maxDischargeDepth := 40) (contextual := true) [*]; done)
    | split
    | (with_reducible refine keeps_foldl ?_ (fun t a ht => ?_) _)
    | dsimp only

@[simp ↓] theorem State.ungate_keeps {s0 : State} {s : State} (f : Fld) (hk : Keeps s0 s) : Keeps s0 (State.ungate s
    f) := by
  unfold State.ungate
  repeat' first
    | (simp (maxDischargeDepth := 40) (contextual := true) [*]; done)
    | split
    | (with_reducible refine keeps_foldl ?_ (fun t a ht => ?_) _)
    | dsimp only

@[simp ↓] theorem layGates_keeps {s0 : State} {s : State} (f : Frame) (hk : Keeps s0 s) : Keeps s0 (layGates s f).1 := by
  unfold layGates
  simp (maxDischargeDepth := 40) (contextual := true) [*]

@[simp ↓] theorem State.joinGroup_keeps {s0 : State} {s : State} (m : Nat) (g : Option Nat) (hk : Keeps s0 s) :
    Keeps s0 (State.joinGroup s m g) := by
  unfold State.joinGroup
  repeat' first
    | (simp (maxDischargeDepth := 40) (contextual := true) [*]; done)
    | split
    | (with_reducible refine keeps_foldl ?_ (fun t a ht => ?_) _)
    | dsimp only

@[simp ↓] theorem layColumn_keeps {s0 : State} {s : State} (x0 : Frame) (hk : Keeps s0 s) : Keeps s0 (layColumn s
    x0).1 := by
  unfold layColumn
  repeat' first
    | (simp (maxDischargeDepth := 40) (contextual := true) [*]; done)
    | split
    | (with_reducible refine keeps_foldl ?_ (fun t a ht => ?_) _)
    | dsimp only

@[simp ↓] theorem State.onDest_keeps {s0 : State} {s : State} (d : MatDest) (slot : State → Nat → Nat → State)
    (entry : State → Nat → Nat → State) (hk : Keeps s0 s) (kslot : ∀ (a0 : State) (a1 : Nat) (a2 : Nat), Keeps s0 a0
    → Keeps s0 (slot a0 a1 a2)) (kentry : ∀ (a0 : State) (a1 : Nat) (a2 : Nat), Keeps s0 a0 → Keeps s0 (entry a0 a1
    a2)) : Keeps s0 (State.onDest s d slot entry) := by
  unfold State.onDest
  simp (maxDischargeDepth := 40) (contextual := true) [*]

@[simp ↓] theorem State.laySlot_keeps {s0 : State} {s : State} (c : Ctx) (check : Word) (active : Bool) (p : Nat) (k
    : Nat) (hk : Keeps s0 s) : Keeps s0 (State.laySlot s c check active p k) := by
  unfold State.laySlot
  simp (maxDischargeDepth := 40) [*]

@[simp ↓] theorem layContext_keeps {s0 : State} {s : State} (x0 : Frame) (hk : Keeps s0 s) : Keeps s0 (layContext s
    x0).1 := by
  unfold layContext
  repeat' first
    | (simp (maxDischargeDepth := 40) (contextual := true) [*]; done)
    | split
    | (with_reducible refine keeps_foldl ?_ (fun t a ht => ?_) _)
    | dsimp only

@[simp ↓] theorem State.settleSlots_keeps {s0 : State} {s : State} (reached : List Nat) (hk : Keeps s0 s) : Keeps s0
    (State.settleSlots s reached) := by
  unfold State.settleSlots
  simp (maxDischargeDepth := 40) (contextual := true) [*]

@[simp ↓] theorem State.fillBank_keeps {s0 : State} {s : State} (b : Nat) (x0 : Nat) (x1 : List Word) (hk : Keeps s0
    s) : Keeps s0 (State.fillBank s b x0 x1) := by
  induction x1 generalizing s x0 with
  | nil => exact hk
  | cons x l ih => exact ih _ (State.putWord_keeps _ _ _ hk)

@[simp ↓] theorem layBank_keeps {s0 : State} {s : State} (x0 : Frame) (hk : Keeps s0 s) : Keeps s0 (layBank s x0).1 := by
  unfold layBank
  repeat' first
    | (simp (maxDischargeDepth := 40) (contextual := true) [*]; done)
    | split
    | (with_reducible refine keeps_foldl ?_ (fun t a ht => ?_) _)
    | dsimp only

@[simp ↓] theorem layQueue_keeps {s0 : State} {s : State} (x0 : Frame) (hk : Keeps s0 s) : Keeps s0 (layQueue s
    x0).1 := by
  unfold layQueue
  repeat' first
    | (simp (maxDischargeDepth := 40) (contextual := true) [*]; done)
    | split
    | (with_reducible refine keeps_foldl ?_ (fun t a ht => ?_) _)
    | dsimp only

@[simp ↓] theorem layLate_keeps {s0 : State} {s : State} (x0 : Frame) (hk : Keeps s0 s) : Keeps s0 (layLate s x0).1 := by
  unfold layLate
  repeat' first
    | (simp (maxDischargeDepth := 40) (contextual := true) [*]; done)
    | split
    | (with_reducible refine keeps_foldl ?_ (fun t a ht => ?_) _)
    | dsimp only

@[simp ↓] theorem State.checkPort_keeps {s0 : State} {s : State} (p : Nat) (hk : Keeps s0 s) : Keeps s0
    (State.checkPort s p) := by
  unfold State.checkPort
  simp (maxDischargeDepth := 40) [*]

@[simp ↓] theorem State.checkGpio_keeps {s0 : State} {s : State} (n : Nat) (hk : Keeps s0 s) : Keeps s0
    (State.checkGpio s n) := by
  unfold State.checkGpio
  simp (maxDischargeDepth := 40) [*]

@[simp ↓] theorem State.checkPins_keeps {s0 : State} {s : State}  (hk : Keeps s0 s) : Keeps s0 (State.checkPins s) := by
  unfold State.checkPins
  simp (maxDischargeDepth := 40) (contextual := true) [*]

@[simp ↓] theorem layLanes_keeps {s0 : State} {s : State} (x0 : Frame) (hk : Keeps s0 s) : Keeps s0 (layLanes s
    x0).1 := by
  unfold layLanes
  repeat' first
    | (simp (maxDischargeDepth := 40) (contextual := true) [*]; done)
    | split
    | (with_reducible refine keeps_foldl ?_ (fun t a ht => ?_) _)
    | dsimp only

@[simp ↓] theorem layTether_keeps {s0 : State} {s : State} (x0 : Frame) (hk : Keeps s0 s) : Keeps s0 (layTether s
    x0).1 := by
  unfold layTether
  repeat' first
    | (simp (maxDischargeDepth := 40) (contextual := true) [*]; done)
    | split
    | (with_reducible refine keeps_foldl ?_ (fun t a ht => ?_) _)
    | dsimp only

@[simp ↓] theorem State.dropUnsetTethers_keeps {s0 : State} {s : State} (fs : List Frame) (hk : Keeps s0 s) : Keeps
    s0 (State.dropUnsetTethers s fs) := by
  unfold State.dropUnsetTethers
  simp (maxDischargeDepth := 40) (contextual := true) [*]

@[simp ↓] theorem layRegion_keeps {s0 : State} {s : State} (x0 : Frame) (hk : Keeps s0 s) : Keeps s0 (layRegion s
    x0).1 := by
  unfold layRegion
  repeat' first
    | (simp (maxDischargeDepth := 40) (contextual := true) [*]; done)
    | split
    | (with_reducible refine keeps_foldl ?_ (fun t a ht => ?_) _)
    | dsimp only

@[simp ↓] theorem layTally_keeps {s0 : State} {s : State} (x0 : Frame) (hk : Keeps s0 s) : Keeps s0 (layTally s
    x0).1 := by
  unfold layTally
  repeat' first
    | (simp (maxDischargeDepth := 40) (contextual := true) [*]; done)
    | split
    | (with_reducible refine keeps_foldl ?_ (fun t a ht => ?_) _)
    | dsimp only

@[simp ↓] theorem laySchedule_keeps {s0 : State} {s : State} (x0 : Frame) (hk : Keeps s0 s) : Keeps s0 (laySchedule
    s x0).1 := by
  unfold laySchedule
  repeat' first
    | (simp (maxDischargeDepth := 40) (contextual := true) [*]; done)
    | split
    | (with_reducible refine keeps_foldl ?_ (fun t a ht => ?_) _)
    | dsimp only

@[simp ↓] theorem State.layChains_keeps {s0 : State} {s : State} (chains : List Chain) (slots : Tab Slot) (hk :
    Keeps s0 s) : Keeps s0 (State.layChains chains slots s).1 := by
  unfold State.layChains
  have step : ∀ (l : List (Nat × List (Nat × Reg))) (r : State × List Nat), Keeps s0 r.1 →
      Keeps s0 (l.foldl (fun r e =>
        let s := r.1
        if s.chainTaken e.2 = false then (s.writePaths e.2, r.2)
        else match s.chainBeside slots chains e.1 with
          | some c => (s.enablePaths e.1 (chainPaths c), r.2)
          | none => (s, r.2 ++ [e.1])) r).1 := by
    intro l
    induction l with
    | nil => exact fun r h => h
    | cons e l ih =>
      intro r h
      refine ih _ (keeps_ite_fst (by simp [h]) ?_)
      split <;> simp [h]
  exact step _ _ hk

@[simp ↓] theorem State.layHead_keeps {s0 : State} {s : State} (warm : Bool) (i : Image) (fs : List Frame) (hk :
    Keeps s0 s) : Keeps s0 (State.layHead s warm i fs).1 := by
  unfold State.layHead
  simp (maxDischargeDepth := 40) (contextual := true) [*]

end Sys2Proof.Machine
end

