-- ==== Sys2Proof/Laws/KeepsResetOps.lean ====
section
/-! SUPPORT.  Each operation of ResetOps.lean gives a later state (Keeps). -/

set_option linter.unreachableTactic false
set_option linter.unusedTactic false

namespace Sys2Proof.Machine

open Sys2Proof

@[simp ↓] theorem State.warmRegs_keeps {s0 : State} {s : State}  (hk : Keeps s0 s) : Keeps s0 (State.warmRegs s) := by
  unfold State.warmRegs
  simp (maxDischargeDepth := 40) (contextual := true) [*]

@[simp ↓] theorem State.dropRemaps_keeps {s0 : State} {s : State}  (hk : Keeps s0 s) : Keeps s0 (State.dropRemaps s) := by
  unfold State.dropRemaps
  generalize upto 2048 = l
  exact keeps_foldl hk (fun t a ht => by simp (maxDischargeDepth := 40) [ht]) _

@[simp ↓] theorem State.warmHost_keeps {s0 : State} {s : State}  (hk : Keeps s0 s) : Keeps s0 (State.warmHost s) := by
  unfold State.warmHost
  simp (maxDischargeDepth := 40) [*]

@[simp ↓] theorem State.idleColumns_keeps {s0 : State} {s : State}  (hk : Keeps s0 s) : Keeps s0 (State.idleColumns
    s) := by
  unfold State.idleColumns
  simp (maxDischargeDepth := 40) [*]

@[simp ↓] theorem State.warmColumns_keeps {s0 : State} {s : State}  (hk : Keeps s0 s) : Keeps s0 (State.warmColumns
    s) := by
  unfold State.warmColumns
  simp (maxDischargeDepth := 40) [*]

@[simp ↓] theorem State.warmContexts_keeps {s0 : State} {s : State}  (hk : Keeps s0 s) : Keeps s0
    (State.warmContexts s) := by
  unfold State.warmContexts
  simp (maxDischargeDepth := 40) (contextual := true) [*]

@[simp ↓] theorem State.warmMaint_keeps {s0 : State} {s : State}  (hk : Keeps s0 s) : Keeps s0 (State.warmMaint s) := by
  unfold State.warmMaint
  simp (maxDischargeDepth := 40) [*]

@[simp ↓] theorem State.warmPins_keeps {s0 : State} {s : State}  (hk : Keeps s0 s) : Keeps s0 (State.warmPins s) := by
  unfold State.warmPins
  simp (maxDischargeDepth := 40) [*]

@[simp ↓] theorem State.warmRest_keeps {s0 : State} {s : State}  (hk : Keeps s0 s) : Keeps s0 (State.warmRest s) := by
  unfold State.warmRest
  repeat' first
    | (intro x; have hx : Keeps s0 x; on_goal 2 => clear_value x; on_goal 1 => subst x)
    | (intro x; subst x)
    | (simp (maxDischargeDepth := 40) (contextual := true) [*]; done)
    | (rename_i e; simp only [Prod.ext_iff] at e; obtain ⟨e1, e2⟩ := e; (try subst e1); (try subst e2))
    | split
    | (with_reducible refine keeps_foldl ?_ (fun t a ht => ?_) _)
    | (with_reducible refine keeps_mk ?_ ?_ ?_ ?_ ?_ ?_ ?_ ?_ ?_ ?_ ?_)

@[simp ↓] theorem State.warmClear_keeps {s0 : State} {s : State}  (hk : Keeps s0 s) : Keeps s0 (State.warmClear s) := by
  unfold State.warmClear
  simp (maxDischargeDepth := 40) [*]

@[simp ↓] theorem State.nvRegs_keeps {s0 : State} {s : State}  (hk : Keeps s0 s) : Keeps s0 (State.nvRegs s) := by
  unfold State.nvRegs
  simp (maxDischargeDepth := 40) (contextual := true) [*]

@[simp ↓] theorem State.nvRepairs_keeps {s0 : State} {s : State} {o : State}  (hk : Keeps s0 s) : Keeps s0
    (State.nvRepairs s o) := by
  unfold State.nvRepairs
  simp (maxDischargeDepth := 40) [*]

@[simp ↓] theorem State.nvRecords_keeps {s0 s o : State} (hp : s.pending = s0.pending) (ho : s0.out <+: s.out)
    (hf : s0.free ≤ s.free) (hw : s0.wf = true → s.wf = true) (hb : o.sec.boryr = s0.sec.boryr)
    (hv : o.sec.vendor = s0.sec.vendor)
    (hk : s0.wf = true → Tab.wf byte0 o.sec.keyStore = true) : Keeps s0 (State.nvRecords s o) := by
  unfold State.nvRecords
  refine ⟨hp, ho, hf, hb, hv, fun w => ?_⟩
  have h := hw w
  have k := hk w
  rw [State.wf_iff] at h ⊢
  exact ⟨h.1, h.2.1, h.2.2.1, h.2.2.2.1, h.2.2.2.2.1, k⟩

@[simp ↓] theorem State.showDegraded_keeps {s0 : State} {s : State}  (hk : Keeps s0 s) : Keeps s0
    (State.showDegraded s) := by
  unfold State.showDegraded
  simp (maxDischargeDepth := 40) (contextual := true) [*]

@[simp ↓] theorem State.failedSensors_keeps {s0 : State} {s : State}  (hk : Keeps s0 s) : Keeps s0
    (State.failedSensors s) := by
  unfold State.failedSensors
  simp (maxDischargeDepth := 40) (contextual := true) [*]

@[simp ↓] theorem State.vauxKept_keeps {s0 : State} {s : State} {o : State}  (hk : Keeps s0 s) : Keeps s0
    (State.vauxKept s o) := by
  unfold State.vauxKept
  lift_lets
  intro pad t u m
  have h : Keeps s0 t := keeps_foldl hk (fun t a ht => by simp (maxDischargeDepth := 40) [ht]) _
  have k : Keeps s0 u := by simp (maxDischargeDepth := 40) [u, h]
  clear_value u
  simp (maxDischargeDepth := 40) (contextual := true) [k]

@[simp ↓] theorem State.powerOnClear_keeps {s0 s : State} (vaux : Bool) (hk : Keeps s0 s) :
    Keeps s0 (State.powerOnClear s vaux) := by
  refine hk.trans ?_
  unfold State.powerOnClear
  lift_lets
  intro z z1 z2 cause z0 z3
  have h0 : Keeps { z with pending := s.pending, regs := s.regs, out := s.out, free := s.free } (z1.nvRepairs s) := by
    simp (maxDischargeDepth := 40) [z1]
  have hw : s.wf = true → (z1.nvRepairs s).wf = true := fun w => h0.wf (by
    rw [State.wf_iff] at w ⊢
    exact ⟨w.1, rfl, rfl, rfl, rfl, rfl⟩)
  have h2 : Keeps s z2 := by
    refine State.failedSensors_keeps (State.showDegraded_keeps (State.nvRecords_keeps h0.pending h0.out h0.free hw rfl rfl ?_))
    intro w
    rw [State.wf_iff] at w
    exact w.2.2.2.2.2
  have h3 : Keeps s z3 := by simp (maxDischargeDepth := 40) [z3, h2]
  clear_value z3
  simp (maxDischargeDepth := 40) [h3]

end Sys2Proof.Machine
end

