-- ==== Sys2Proof/Laws/KeepsImageOps.lean ====
section
/-! SUPPORT.  Each operation of ImageOps.lean gives a later state (Keeps). -/

set_option linter.unreachableTactic false
set_option linter.unusedTactic false

namespace Sys2Proof.Machine

open Sys2Proof

@[simp ↓] theorem State.reject_keeps {s0 : State} {s : State} (v : Verdict) (source : Nat) (slot : Nat) (hk : Keeps
    s0 s) : Keeps s0 (State.reject s v source slot) := by
  unfold State.reject
  simp (maxDischargeDepth := 40) [*]

@[simp ↓] theorem State.placeFailed_keeps {s0 : State} {s : State} (p : Nat) (chains : List Chain) (hk : Keeps s0 s)
    : Keeps s0 (State.placeFailed s p chains) := by
  unfold State.placeFailed
  repeat' first
    | (simp (maxDischargeDepth := 40) (contextual := true) [*]; done)
    | split
    | (with_reducible refine keeps_foldl ?_ (fun t a ht => ?_) _)
    | dsimp only

@[simp ↓] theorem State.noteApplied_keeps {s0 : State} {s : State} (i : Image) (b : Boot) (hk : Keeps s0 s) : Keeps
    s0 (State.noteApplied s i b) := by
  unfold State.noteApplied
  simp (maxDischargeDepth := 40) [*]

theorem layBody_keeps {s0 : State} (fs : List Frame) {r : Laid} (h : Keeps s0 r.1) : Keeps s0 (layBody fs r).1 := by
  unfold layBody
  simp (maxDischargeDepth := 40) (contextual := true) [h]

@[simp ↓] theorem State.applyImage_keeps {s0 : State} {s : State} (i : Image) (failed : List Nat) (chains : List
    Chain) (hk : Keeps s0 s) : Keeps s0 (State.applyImage s i failed chains) := by
  unfold State.applyImage
  lift_lets
  intro fs warm a b z
  have hz : Keeps s0 z.1 := by simp (maxDischargeDepth := 40) [z, a, b, hk]
  have h := State.layChains_keeps chains (layBody fs z).1.ctx.slots hz
  generalize z.1.layChains chains _ = y at h
  obtain ⟨t, l⟩ := y
  refine State.settlePins_keeps _ (keeps_foldl ?_ (fun t a ht => by simp [ht]) _)
  exact layBody_keeps fs h

end Sys2Proof.Machine
end

