-- ==== Sys2Proof/Laws/KeepsHost.lean ====
section
/-! SUPPORT.  Each operation of Host.lean gives a later state (Keeps). -/

set_option linter.unreachableTactic false
set_option linter.unusedTactic false

namespace Sys2Proof.Machine

open Sys2Proof

@[simp ↓] theorem State.ringFault_keeps {s0 : State} {s : State} (n : Nat) (cause : Nat) (value : Nat) (hk : Keeps
    s0 s) : Keeps s0 (State.ringFault s n cause value) := by
  unfold State.ringFault
  simp (maxDischargeDepth := 40) [*]

@[simp ↓] theorem State.closeSessions_keeps {s0 : State} {s : State} (cause : Nat) (hk : Keeps s0 s) : Keeps s0
    (State.closeSessions s cause) := by
  unfold State.closeSessions
  simp (maxDischargeDepth := 40) (contextual := true) [*]

@[simp ↓] theorem State.enterAbsent_keeps {s0 : State} {s : State} (cause : Nat) (hk : Keeps s0 s) : Keeps s0
    (State.enterAbsent s cause) := by
  unfold State.enterAbsent
  simp (maxDischargeDepth := 40) [*]

@[simp ↓] theorem State.flushHeld_keeps {s0 : State} {s : State} (n : Nat) (x0 : Nat) (hk : Keeps s0 s) : Keeps s0
    (State.flushHeld s n x0) := by
  fun_induction State.flushHeld s n x0
  all_goals simp (maxDischargeDepth := 40) [*]

@[simp ↓] theorem execCommandFetch_goes {s0 : State} {s : State} (ring : Fin 64) (opcode : Byte) (flags : Byte)
    (session : BitVec 16) (id : BitVec 32) (hk : Keeps s0 s) : Goes s0 (execCommandFetch ring opcode flags session
    id s) := by
  unfold execCommandFetch
  simp (maxDischargeDepth := 40) [*]

@[simp ↓] theorem execCompletionFlush_goes {s0 : State} {s : State} (ring : Fin 64) (hk : Keeps s0 s) : Goes s0
    (execCompletionFlush ring s) := by
  unfold execCompletionFlush
  simp (maxDischargeDepth := 40) [*]

@[simp ↓] theorem execDoorbellWrite_goes {s0 : State} {s : State} (ring : RingId) (value : Word) (hk : Keeps s0 s) :
    Goes s0 (execDoorbellWrite ring value s) := by
  unfold execDoorbellWrite
  simp (maxDischargeDepth := 40) [*]

@[simp ↓] theorem execRingEnable_goes {s0 : State} {s : State} (ring : RingId) (cfg : Reg) (hk : Keeps s0 s) : Goes
    s0 (execRingEnable ring cfg s) := by
  unfold execRingEnable
  simp (maxDischargeDepth := 40) [*]

@[simp ↓] theorem execRingDisable_goes {s0 : State} {s : State} (ring : RingId) (cfg : Reg) (hk : Keeps s0 s) : Goes
    s0 (execRingDisable ring cfg s) := by
  unfold execRingDisable
  simp (maxDischargeDepth := 40) (contextual := true) [*]

@[simp ↓] theorem execDmaError_goes {s0 : State} {s : State} (ring : RingId) (index : BitVec 32) (hk : Keeps s0 s) :
    Goes s0 (execDmaError ring index s) := by
  unfold execDmaError
  simp (maxDischargeDepth := 40) [*]

@[simp ↓] theorem State.writeBackEntry_keeps {s0 : State} {s : State} (n : Nat) (e : DEntry) (items : List Word)
    (seq : Nat) (flags : Nat) (epoch : Nat) (hk : Keeps s0 s) : Keeps s0 (State.writeBackEntry s n e items seq flags
    epoch) := by
  unfold State.writeBackEntry
  simp (maxDischargeDepth := 40) [*]

@[simp ↓] theorem State.popItems_keeps {s0 : State} {s : State} (q : Nat) (found : List (Nat × Ecc)) (pos : Nat) (x0
    : Nat) (hk : Keeps s0 s) : Keeps s0 (State.popItems s q found pos x0).1 := by
  induction x0 generalizing s pos with
  | zero => exact hk
  | succ k ih =>
    unfold State.popItems
    have h := State.popItem_keeps q (eccAt found pos) hk
    generalize s.popItem q (eccAt found pos) = y at h
    obtain ⟨t, _ | p⟩ := y
    · exact h
    · exact ih (pos + 1) h

@[simp ↓] theorem State.fillEntry_keeps {s0 : State} {s : State} (n : Nat) (q : Nat) (e : DEntry) (found : List (Nat
    × Ecc)) (partly : Bool) (hk : Keeps s0 s) : Keeps s0 (State.fillEntry s n q e found partly) := by
  unfold State.fillEntry
  repeat' first
    | (intro x; have hx : Keeps s0 x; on_goal 2 => clear_value x; on_goal 1 => subst x)
    | (intro x; subst x)
    | (simp (maxDischargeDepth := 40) (contextual := true) [*]; done)
    | (rename_i e; simp only [Prod.ext_iff] at e; obtain ⟨e1, e2⟩ := e; (try subst e1); (try subst e2))
    | split
    | (with_reducible refine keeps_foldl ?_ (fun t a ht => ?_) _)
    | (with_reducible refine keeps_mk ?_ ?_ ?_ ?_ ?_ ?_ ?_ ?_ ?_ ?_ ?_)

@[simp ↓] theorem State.fillPacket_keeps {s0 : State} {s : State} (n : Nat) (len : Popped) (x0 : List DEntry) (x1 :
    List Popped) (x2 : Bool) (hk : Keeps s0 s) : Keeps s0 (State.fillPacket s n len x0 x1 x2) := by
  induction x0 generalizing s x1 x2 with
  | nil => unfold State.fillPacket; exact hk
  | cons a as ih =>
    unfold State.fillPacket
    repeat' first
      | (intro x; have hx : Keeps s0 x; on_goal 2 => clear_value x; on_goal 1 => subst x)
      | (intro x; subst x)
      | (simp (maxDischargeDepth := 40) (contextual := true) [*]; done)
      | split
      | (with_reducible refine keeps_foldl ?_ (fun t a ht => ?_) _)
      | (refine ih ?_ ..)

@[simp ↓] theorem State.takePacket_keeps {s0 : State} {s : State} (n : Nat) (q : Nat) (need : List DEntry) (k : Nat)
    (found : List (Nat × Ecc)) (hk : Keeps s0 s) : Keeps s0 (State.takePacket s n q need k found) := by
  unfold State.takePacket
  repeat' first
    | (intro x; have hx : Keeps s0 x; on_goal 2 => clear_value x; on_goal 1 => subst x)
    | (intro x; subst x)
    | (simp (maxDischargeDepth := 40) (contextual := true) [*]; done)
    | (rename_i e; simp only [Prod.ext_iff] at e; obtain ⟨e1, e2⟩ := e; (try subst e1); (try subst e2))
    | split
    | (with_reducible refine keeps_foldl ?_ (fun t a ht => ?_) _)
    | (with_reducible refine keeps_mk ?_ ?_ ?_ ?_ ?_ ?_ ?_ ?_ ?_ ?_ ?_)

@[simp ↓] theorem execDataRingWriteback_goes {s0 : State} {s : State} (ring : RingId) (entries : List DEntry) (found
    : List (Nat × Ecc)) (hk : Keeps s0 s) : Goes s0 (execDataRingWriteback ring entries found s) := by
  unfold execDataRingWriteback
  lift_lets
  repeat' first
    | exact goes_next hk
    | (intro x; subst x)
    | (with_reducible refine goes_ite ?_ ?_)
    | (simp (maxDischargeDepth := 40) (contextual := true) [*]; done)
    | (rename_i e; simp only [Prod.ext_iff] at e; obtain ⟨e1, e2⟩ := e; (try subst e1); (try subst e2))
    | split
    | dsimp only

@[simp ↓] theorem execDataRingCoalTimeout_goes {s0 : State} {s : State} (ring : RingId) (entry : DEntry) (found :
    List (Nat × Ecc)) (hk : Keeps s0 s) : Goes s0 (execDataRingCoalTimeout ring entry found s) := by
  unfold execDataRingCoalTimeout
  repeat' first
    | (simp (maxDischargeDepth := 40) (contextual := true) [*]; done)
    | split
    | (with_reducible refine keeps_foldl ?_ (fun t a ht => ?_) _)
    | dsimp only

@[simp ↓] theorem State.pushWords_keeps {s0 : State} {s : State} (n : Nat) (q : Nat) (start : Bool) (last : Bool)
    (x0 : Nat) (x1 : List Word) (hk : Keeps s0 s) : Keeps s0 (State.pushWords s n q start last x0 x1) := by
  induction x1 generalizing s x0 with
  | nil => unfold State.pushWords; exact hk
  | cons a as ih =>
    unfold State.pushWords
    repeat' first
      | (intro x; have hx : Keeps s0 x; on_goal 2 => clear_value x; on_goal 1 => subst x)
      | (intro x; subst x)
      | (simp (maxDischargeDepth := 40) (contextual := true) [*]; done)
      | split
      | (with_reducible refine keeps_foldl ?_ (fun t a ht => ?_) _)
      | (refine ih ?_ ..)

@[simp ↓] theorem execDataRingFetch_goes {s0 : State} {s : State} (ring : RingId) (entry : DEntry) (words : List
    Word) (hk : Keeps s0 s) : Goes s0 (execDataRingFetch ring entry words s) := by
  unfold execDataRingFetch
  repeat' first
    | (simp (maxDischargeDepth := 40) (contextual := true) [*]; done)
    | split
    | (with_reducible refine keeps_foldl ?_ (fun t a ht => ?_) _)
    | dsimp only

@[simp ↓] theorem execMsixCoalesceTimeout_goes {s0 : State} {s : State} (ring : RingId) (hk : Keeps s0 s) : Goes s0
    (execMsixCoalesceTimeout ring s) := by
  unfold execMsixCoalesceTimeout
  simp (maxDischargeDepth := 40) [*]

@[simp ↓] theorem execHeartbeatWrite_goes {s0 : State} {s : State} (value : Reg) (hk : Keeps s0 s) : Goes s0
    (execHeartbeatWrite value s) := by
  unfold execHeartbeatWrite
  simp (maxDischargeDepth := 40) [*]

@[simp ↓] theorem execHeartbeatEnable_goes {s0 : State} {s : State} (value : Reg) (hk : Keeps s0 s) : Goes s0
    (execHeartbeatEnable value s) := by
  unfold execHeartbeatEnable
  simp (maxDischargeDepth := 40) [*]

@[simp ↓] theorem execHeartbeatTimeout_goes {s0 : State} {s : State}  (hk : Keeps s0 s) : Goes s0
    (execHeartbeatTimeout s) := by
  unfold execHeartbeatTimeout
  simp (maxDischargeDepth := 40) [*]

@[simp ↓] theorem State.dropRings_keeps {s0 : State} {s : State} (lo : Nat) (hi : Nat) (hk : Keeps s0 s) : Keeps s0
    (State.dropRings s lo hi) := by
  unfold State.dropRings
  repeat' first
    | (intro x; have hx : Keeps s0 x; on_goal 2 => clear_value x; on_goal 1 => subst x)
    | (intro x; subst x)
    | (simp (maxDischargeDepth := 40) (contextual := true) [*]; done)
    | (rename_i e; simp only [Prod.ext_iff] at e; obtain ⟨e1, e2⟩ := e; (try subst e1); (try subst e2))
    | split
    | (with_reducible refine keeps_foldl ?_ (fun t a ht => ?_) _)
    | (with_reducible refine keeps_mk ?_ ?_ ?_ ?_ ?_ ?_ ?_ ?_ ?_ ?_ ?_)

@[simp ↓] theorem State.resetHif_keeps {s0 : State} {s : State}  (hk : Keeps s0 s) : Keeps s0 (State.resetHif s) := by
  unfold State.resetHif
  simp (maxDischargeDepth := 40) [*]

@[simp ↓] theorem State.resetHdr_keeps {s0 : State} {s : State}  (hk : Keeps s0 s) : Keeps s0 (State.resetHdr s) := by
  unfold State.resetHdr
  simp (maxDischargeDepth := 40) [*]

@[simp ↓] theorem execPerst_goes {s0 : State} {s : State} (asserted : Bool) (hk : Keeps s0 s) : Goes s0 (execPerst
    asserted s) := by
  unfold execPerst
  simp (maxDischargeDepth := 40) [*]

@[simp ↓] theorem execFlrPf0_goes {s0 : State} {s : State}  (hk : Keeps s0 s) : Goes s0 (execFlrPf0 s) := by
  unfold execFlrPf0
  simp (maxDischargeDepth := 40) [*]

@[simp ↓] theorem execFlrPf1_goes {s0 : State} {s : State}  (hk : Keeps s0 s) : Goes s0 (execFlrPf1 s) := by
  unfold execFlrPf1
  simp (maxDischargeDepth := 40) [*]

@[simp ↓] theorem State.linkDown_keeps {s0 : State} {s : State}  (hk : Keeps s0 s) : Keeps s0 (State.linkDown s) := by
  unfold State.linkDown
  simp (maxDischargeDepth := 40) (contextual := true) [*]

@[simp ↓] theorem execLinkDown_goes {s0 : State} {s : State}  (hk : Keeps s0 s) : Goes s0 (execLinkDown s) := by
  unfold execLinkDown
  simp (maxDischargeDepth := 40) [*]

@[simp ↓] theorem execLinkUp_goes {s0 : State} {s : State} (width : BitVec 5) (rate : BitVec 3) (reversed : Bool)
    (degraded : Bool) (hk : Keeps s0 s) : Goes s0 (execLinkUp width rate reversed degraded s) := by
  unfold execLinkUp
  simp (maxDischargeDepth := 40) (contextual := true) [*]

end Sys2Proof.Machine
end

