-- ==== Sys2Proof/Laws/KeepsCoreOps.lean ====
section
/-! SUPPORT.  Each operation of CoreOps.lean gives a later state (Keeps). -/

set_option linter.unreachableTactic false
set_option linter.unusedTactic false

namespace Sys2Proof.Machine

open Sys2Proof

@[simp ↓] theorem State.setCore_keeps {s0 : State} {s : State} (n : Nat) (c : Core) (hk : Keeps s0 s) : Keeps s0
    (State.setCore s n c) := by
  unfold State.setCore
  simp (maxDischargeDepth := 40) [*]

@[simp ↓] theorem State.dropLock_keeps {s0 : State} {s : State} (n : Nat) (hk : Keeps s0 s) : Keeps s0
    (State.dropLock s n) := by
  unfold State.dropLock
  simp (maxDischargeDepth := 40) [*]

@[simp ↓] theorem State.resetCsrs_keeps {s0 : State} {s : State} (n : Nat) (hk : Keeps s0 s) : Keeps s0
    (State.resetCsrs s n) := by
  unfold State.resetCsrs
  simp (maxDischargeDepth := 40) (contextual := true) [*]

@[simp ↓] theorem State.resetCoreDebug_keeps {s0 : State} {s : State} (n : Nat) (hk : Keeps s0 s) : Keeps s0
    (State.resetCoreDebug s n) := by
  unfold State.resetCoreDebug
  simp (maxDischargeDepth := 40) [*]

@[simp ↓] theorem State.holdCore_keeps {s0 : State} {s : State} (n : Nat) (by_ : Option Nat) (hk : Keeps s0 s) :
    Keeps s0 (State.holdCore s n by_) := by
  unfold State.holdCore
  simp (maxDischargeDepth := 40) [*]

@[simp ↓] theorem State.flushCoreWaits_keeps {s0 : State} {s : State}  (hk : Keeps s0 s) : Keeps s0
    (State.flushCoreWaits s) := by
  unfold State.flushCoreWaits
  repeat' first
    | (simp (maxDischargeDepth := 40) (contextual := true) [*]; done)
    | split
    | (with_reducible refine keeps_foldl ?_ (fun t a ht => ?_) _)
    | dsimp only

@[simp ↓] theorem State.autoLoads_keeps {s0 : State} {s : State}  (hk : Keeps s0 s) : Keeps s0 (State.autoLoads s) := by
  unfold State.autoLoads
  repeat' first
    | (simp (maxDischargeDepth := 40) (contextual := true) [*]; done)
    | split
    | (with_reducible refine keeps_foldl ?_ (fun t a ht => ?_) _)
    | dsimp only

@[simp ↓] theorem State.haltCore_keeps {s0 : State} {s : State} (n : Nat) (cause : Nat) (broken : Bool) (hk : Keeps
    s0 s) : Keeps s0 (State.haltCore s n cause broken) := by
  unfold State.haltCore
  simp (maxDischargeDepth := 40) [*]

@[simp ↓] theorem State.startCore_keeps {s0 : State} {s : State} (n : Nat) (entry : Word) (hk : Keeps s0 s) : Keeps
    s0 (State.startCore s n entry) := by
  unfold State.startCore
  repeat' first
    | (simp (maxDischargeDepth := 40) (contextual := true) [*]; done)
    | split
    | (with_reducible refine keeps_foldl ?_ (fun t a ht => ?_) _)
    | dsimp only

end Sys2Proof.Machine
end

