-- ==== Sys2Proof/Laws/KeepsTrustOps.lean ====
section
/-! SUPPORT.  Each operation of TrustOps.lean gives a later state (Keeps). -/

set_option linter.unreachableTactic false
set_option linter.unusedTactic false

namespace Sys2Proof.Machine

open Sys2Proof

@[simp ↓] theorem State.setSec_keeps {s0 s : State} {x : SecState} (hk : Keeps s0 s)
    (hb : x.boryr = s.sec.boryr) (hv : x.vendor = s.sec.vendor)
    (h6 : Tab.wf byte0 s.sec.keyStore = true → Tab.wf byte0 x.keyStore = true) : Keeps s0 (s.setSec x) := by
  unfold State.setSec
  simp (maxDischargeDepth := 40) (contextual := true) [*]

@[simp ↓] theorem State.eraseKeys_keeps {s0 : State} {s : State}  (hk : Keeps s0 s) : Keeps s0 (State.eraseKeys s) := by
  unfold State.eraseKeys
  simp (maxDischargeDepth := 40) (contextual := true) [*]

@[simp ↓] theorem State.erasePack_keeps {s0 : State} {s : State}  (hk : Keeps s0 s) : Keeps s0 (State.erasePack s) := by
  unfold State.erasePack
  simp (maxDischargeDepth := 40) (contextual := true) [*]

@[simp ↓] theorem State.freeCorePins_keeps {s0 : State} {s : State}  (hk : Keeps s0 s) : Keeps s0
    (State.freeCorePins s) := by
  unfold State.freeCorePins
  simp (maxDischargeDepth := 40) (contextual := true) [*]

@[simp ↓] theorem State.bareCore_keeps {s0 : State} {s : State} (n : Nat) (hk : Keeps s0 s) : Keeps s0
    (State.bareCore s n) := by
  unfold State.bareCore
  simp (maxDischargeDepth := 40) [*]

@[simp ↓] theorem State.zeroCores_keeps {s0 : State} {s : State}  (hk : Keeps s0 s) : Keeps s0 (State.zeroCores s) := by
  unfold State.zeroCores
  repeat' first
    | (intro x; have hx : Keeps s0 x; on_goal 2 => clear_value x; on_goal 1 => subst x)
    | (intro x; subst x)
    | (simp (maxDischargeDepth := 40) (contextual := true) [*]; done)
    | (rename_i e; simp only [Prod.ext_iff] at e; obtain ⟨e1, e2⟩ := e; (try subst e1); (try subst e2))
    | split
    | (with_reducible refine keeps_foldl ?_ (fun t a ht => ?_) _)
    | (with_reducible refine keeps_mk ?_ ?_ ?_ ?_ ?_ ?_ ?_ ?_ ?_ ?_ ?_)

@[simp ↓] theorem State.eraseCores_keeps {s0 : State} {s : State}  (hk : Keeps s0 s) : Keeps s0 (State.eraseCores s) := by
  unfold State.eraseCores
  simp (maxDischargeDepth := 40) [*]

@[simp ↓] theorem State.eraseBanks_keeps {s0 : State} {s : State}  (hk : Keeps s0 s) : Keeps s0 (State.eraseBanks s) := by
  unfold State.eraseBanks
  simp (maxDischargeDepth := 40) (contextual := true) [*]

@[simp ↓] theorem State.eraseSecrets_keeps {s0 : State} {s : State} (cause : Nat) (hk : Keeps s0 s) : Keeps s0
    (State.eraseSecrets s cause) := by
  unfold State.eraseSecrets
  simp (maxDischargeDepth := 40) [*]

@[simp ↓] theorem State.setLife_keeps {s0 : State} {s : State} (into : Nat) (hk : Keeps s0 s) : Keeps s0
    (State.setLife s into) := by
  unfold State.setLife
  simp (maxDischargeDepth := 40) [*]

@[simp ↓] theorem State.endErase_keeps {s0 : State} {s : State} (us : Nat) (hk : Keeps s0 s) : Keeps s0
    (State.endErase s us) := by
  unfold State.endErase
  repeat' first
    | (simp (maxDischargeDepth := 40) (contextual := true) [*]; done)
    | split
    | (with_reducible refine keeps_foldl ?_ (fun t a ht => ?_) _)
    | dsimp only

@[simp ↓] theorem State.resumeErase_keeps {s0 : State} {s : State}  (hk : Keeps s0 s) : Keeps s0 (State.resumeErase
    s) := by
  unfold State.resumeErase
  repeat' first
    | (simp (maxDischargeDepth := 40) (contextual := true) [*]; done)
    | split
    | (with_reducible refine keeps_foldl ?_ (fun t a ht => ?_) _)
    | dsimp only

@[simp ↓] theorem State.passwordFails_keeps {s0 : State} {s : State}  (hk : Keeps s0 s) : Keeps s0
    (State.passwordFails s) := by
  unfold State.passwordFails
  simp (maxDischargeDepth := 40) [*]

@[simp ↓] theorem State.passwordPasses_keeps {s0 : State} {s : State}  (hk : Keeps s0 s) : Keeps s0
    (State.passwordPasses s) := by
  unfold State.passwordPasses
  simp (maxDischargeDepth := 40) [*]

@[simp ↓] theorem State.tryPassword_keeps {s0 : State} {s : State} (cls : Nat) (password : List Byte) (hk : Keeps s0
    s) : Keeps s0 (State.tryPassword s cls password).1 := by
  unfold State.tryPassword
  repeat' first
    | (simp (maxDischargeDepth := 40) (contextual := true) [*]; done)
    | split
    | (with_reducible refine keeps_foldl ?_ (fun t a ht => ?_) _)
    | dsimp only

@[simp ↓] theorem State.drawTag_keeps {s0 : State} {s : State}  (hk : Keeps s0 s) : Keeps s0 (State.drawTag s).1 := by
  unfold State.drawTag
  simp (maxDischargeDepth := 40) [*]

@[simp ↓] theorem State.openSession_keeps {s0 : State} {s : State} (cls : Nat) (method : Nat) (hk : Keeps s0 s) :
    Keeps s0 (State.openSession s cls method).st := by
  unfold State.openSession
  simp (maxDischargeDepth := 40) [*]

@[simp ↓] theorem State.closeSession_keeps {s0 : State} {s : State} (tag : BitVec 16) (cause : Nat) (hk : Keeps s0
    s) : Keeps s0 (State.closeSession s tag cause) := by
  unfold State.closeSession
  simp (maxDischargeDepth := 40) [*]

end Sys2Proof.Machine
end

