-- ==== Sys2Proof/Laws/KeepsBootOps.lean ====
section
/-! SUPPORT.  Each operation of BootOps.lean gives a later state (Keeps). -/

set_option linter.unreachableTactic false
set_option linter.unusedTactic false

namespace Sys2Proof.Machine

open Sys2Proof

@[simp ↓] theorem State.setBoot_keeps {s0 : State} {s : State} (b : Option Boot) (hk : Keeps s0 s) : Keeps s0
    (State.setBoot s b) := by
  unfold State.setBoot
  simp (maxDischargeDepth := 40) [*]

@[simp ↓] theorem State.streamAll_keeps {s0 : State} {s : State}  (hk : Keeps s0 s) : Keeps s0 (State.streamAll s) := by
  unfold State.streamAll
  simp (maxDischargeDepth := 40) (contextual := true) [*]

@[simp ↓] theorem State.bootDatum_keeps {s0 : State} {s : State} (first : Nat) (status : Nat) (hk : Keeps s0 s) :
    Keeps s0 (State.bootDatum s first status) := by
  unfold State.bootDatum
  simp (maxDischargeDepth := 40) [*]

@[simp ↓] theorem State.bootChoice_keeps {s0 : State} {s : State}  (hk : Keeps s0 s) : Keeps s0 (State.bootChoice s) := by
  unfold State.bootChoice
  simp (maxDischargeDepth := 40) [*]

@[simp ↓] theorem State.enterP3_keeps {s0 : State} {s : State}  (hk : Keeps s0 s) : Keeps s0 (State.enterP3 s) := by
  unfold State.enterP3
  simp (maxDischargeDepth := 40) (contextual := true) [*]

@[simp ↓] theorem State.streamFails_keeps {s0 : State} {s : State} (v : Verdict) (hk : Keeps s0 s) : Keeps s0
    (State.streamFails s v) := by
  unfold State.streamFails
  simp (maxDischargeDepth := 40) [*]

@[simp ↓] theorem State.streamLost_keeps {s0 : State} {s : State}  (hk : Keeps s0 s) : Keeps s0 (State.streamLost s) := by
  unfold State.streamLost
  simp (maxDischargeDepth := 40) [*]

@[simp ↓] theorem State.setGood_keeps {s0 : State} {s : State} (r : Nat) (b : Bool) (hk : Keeps s0 s) : Keeps s0
    (State.setGood s r b) := by
  unfold State.setGood
  simp (maxDischargeDepth := 40) [*]

@[simp ↓] theorem State.seqSteps_keeps {s0 : State} {x1 : State} (x0 : Nat) (hk : Keeps s0 x1) : Keeps s0
    (State.seqSteps x0 x1) := by
  induction x0 generalizing x1 with
  | zero => exact hk
  | succ n ih =>
    unfold State.seqSteps
    exact keeps_ite hk (ih (by simp (maxDischargeDepth := 40) [hk]))

@[simp ↓] theorem State.seqAdvance_keeps {s0 : State} {s : State}  (hk : Keeps s0 s) : Keeps s0 (State.seqAdvance s) := by
  unfold State.seqAdvance
  simp (maxDischargeDepth := 40) [*]

@[simp ↓] theorem State.restartP2_keeps {s0 : State} {s : State} (rail : Nat) (hk : Keeps s0 s) : Keeps s0
    (State.restartP2 s rail) := by
  unfold State.restartP2
  simp (maxDischargeDepth := 40) [*]

@[simp ↓] theorem State.cutNvWrites_keeps {s0 : State} {s : State}  (hk : Keeps s0 s) : Keeps s0 (State.cutNvWrites
    s) := by
  unfold State.cutNvWrites
  repeat' first
    | (simp (maxDischargeDepth := 40) (contextual := true) [*]; done)
    | split
    | (with_reducible refine keeps_foldl ?_ (fun t a ht => ?_) _)
    | dsimp only

@[simp ↓] theorem State.leaveCritical_keeps {s0 : State} {s : State}  (hk : Keeps s0 s) : Keeps s0
    (State.leaveCritical s) := by
  unfold State.leaveCritical
  simp (maxDischargeDepth := 40) [*]

@[simp ↓] theorem State.beginWarm_keeps {s0 : State} {s : State} (who : Nat) (rail : Nat) (hk : Keeps s0 s) : Keeps
    s0 (State.beginWarm s who rail) := by
  unfold State.beginWarm
  simp (maxDischargeDepth := 40) [*]

@[simp ↓] theorem State.continueWarm_keeps {s0 : State} {s : State}  (hk : Keeps s0 s) : Keeps s0
    (State.continueWarm s) := by
  unfold State.continueWarm
  repeat' first
    | (simp (maxDischargeDepth := 40) (contextual := true) [*]; done)
    | split
    | (with_reducible refine keeps_foldl ?_ (fun t a ht => ?_) _)
    | dsimp only

@[simp ↓] theorem State.resetRequest_keeps {s0 : State} {s : State} (req : Requester) (kind : Nat) (v : Reg) (act :
    State → Nat → State) (hk : Keeps s0 s) (kact : ∀ (a0 : State) (a1 : Nat), Keeps s0 a0 → Keeps s0 (act a0 a1)) :
    Keeps s0 (State.resetRequest s req kind v act) := by
  unfold State.resetRequest
  simp (maxDischargeDepth := 40) (contextual := true) [*]

end Sys2Proof.Machine
end

