-- ==== Sys2Proof/Laws/KeepsHeatOps.lean ====
section
/-! SUPPORT.  Each operation of HeatOps.lean gives a later state (Keeps). -/

set_option linter.unreachableTactic false
set_option linter.unusedTactic false

namespace Sys2Proof.Machine

open Sys2Proof

@[simp ↓] theorem State.setSensor_keeps {s0 : State} {s : State} (k : Nat) (x : Sensor) (hk : Keeps s0 s) : Keeps s0
    (State.setSensor s k x) := by
  unfold State.setSensor
  simp (maxDischargeDepth := 40) [*]

@[simp ↓] theorem State.showSuspects_keeps {s0 : State} {s : State} (layer : Nat) (hk : Keeps s0 s) : Keeps s0
    (State.showSuspects s layer) := by
  unfold State.showSuspects
  simp (maxDischargeDepth := 40) [*]

@[simp ↓] theorem State.markSuspect_keeps {s0 : State} {s : State} (layer : Nat) (i : Nat) (against : Int) (hk :
    Keeps s0 s) : Keeps s0 (State.markSuspect s layer i against) := by
  unfold State.markSuspect
  simp (maxDischargeDepth := 40) [*]

@[simp ↓] theorem State.showLevels_keeps {s0 : State} {s : State}  (hk : Keeps s0 s) : Keeps s0 (State.showLevels s) := by
  unfold State.showLevels
  simp (maxDischargeDepth := 40) (contextual := true) [*]

@[simp ↓] theorem State.enterCritical_keeps {s0 : State} {s : State} (src : Nat) (v : Int) (cause : Nat) (hk : Keeps
    s0 s) : Keeps s0 (State.enterCritical s src v cause) := by
  unfold State.enterCritical
  simp (maxDischargeDepth := 40) [*]

@[simp ↓] theorem State.enterLevel_keeps {s0 : State} {s : State} (layer : Nat) (i : Nat) (v : Int) (est : Nat)
    (level : Nat) (hk : Keeps s0 s) : Keeps s0 (State.enterLevel s layer i v est level) := by
  unfold State.enterLevel
  repeat' first
    | (simp (maxDischargeDepth := 40) (contextual := true) [*]; done)
    | split
    | (with_reducible refine keeps_foldl ?_ (fun t a ht => ?_) _)
    | dsimp only

@[simp ↓] theorem State.compareLevel_keeps {s0 : State} {s : State} (layer : Nat) (i : Nat) (v : Int) (exit2 : Int)
    (est : Nat) (counts : Bool) (hk : Keeps s0 s) : Keeps s0 (State.compareLevel s layer i v exit2 est counts) := by
  unfold State.compareLevel
  simp (maxDischargeDepth := 40) (contextual := true) [*]

@[simp ↓] theorem State.evalRegion_keeps {s0 : State} {s : State} (r : Nat) (w : Nat) (wreq : Nat) (hk : Keeps s0 s)
    : Keeps s0 (State.evalRegion s r w wreq) := by
  unfold State.evalRegion
  simp (maxDischargeDepth := 40) [*]

end Sys2Proof.Machine
end

