-- ==== Sys2Proof/Laws/KeepsImages.lean ====
section
/-! SUPPORT.  Each operation of Images.lean gives a later state (Keeps). -/

set_option linter.unreachableTactic false
set_option linter.unusedTactic false

namespace Sys2Proof.Machine

open Sys2Proof

@[simp ↓] theorem State.stageAnew_keeps {s0 : State} {s : State} (kind : Nat) (hk : Keeps s0 s) : Keeps s0
    (State.stageAnew s kind) := by
  unfold State.stageAnew
  simp (maxDischargeDepth := 40) [*]

@[simp ↓] theorem State.stageBytes_keeps {s0 : State} {s : State} (n : Nat) (i : Image) (hk : Keeps s0 s) : Keeps s0
    (State.stageBytes s n i) := by
  unfold State.stageBytes
  simp (maxDischargeDepth := 40) [*]

@[simp ↓] theorem State.stagePiece_keeps {s0 : State} {s : State} (r : CmdRef) (kind : Nat) (addr : Word) (length :
    Nat) (offset : Nat) (i : Image) (hk : Keeps s0 s) : Keeps s0 (State.stagePiece s r kind addr length offset i).st := by
  unfold State.stagePiece
  simp (maxDischargeDepth := 40) [*]

@[simp ↓] theorem execImageStage_goes {s0 : State} {s : State} (h : Hdr) (addr : Word) (length : BitVec 32) (offset
    : BitVec 32) (image : Image) (hk : Keeps s0 s) : Goes s0 (execImageStage h addr length offset image s) := by
  unfold execImageStage
  simp (maxDischargeDepth := 40) (contextual := true) [*]

@[simp ↓] theorem execPackLoad_goes {s0 : State} {s : State} (h : Hdr) (addr : Word) (length : BitVec 32) (offset :
    BitVec 32) (image : Image) (hk : Keeps s0 s) : Goes s0 (execPackLoad h addr length offset image s) := by
  unfold execPackLoad
  simp (maxDischargeDepth := 40) (contextual := true) [*]

@[simp ↓] theorem State.setPack_keeps {s0 : State} {s : State} (p : Option PackRun) (hk : Keeps s0 s) : Keeps s0
    (State.setPack s p) := by
  unfold State.setPack
  simp (maxDischargeDepth := 40) [*]

@[simp ↓] theorem State.endPack_keeps {s0 : State} {s : State} (p : PackRun) (hk : Keeps s0 s) : Keeps s0
    (State.endPack s p) := by
  unfold State.endPack
  simp (maxDischargeDepth := 40) (contextual := true) [hk]

@[simp ↓] theorem State.nextEntry_keeps {s0 : State} {s : State}  (hk : Keeps s0 s) : Keeps s0 (State.nextEntry s) := by
  unfold State.nextEntry
  repeat' first
    | (intro x; have hx : Keeps s0 x; on_goal 2 => clear_value x; on_goal 1 => subst x)
    | (intro x; subst x)
    | (simp (maxDischargeDepth := 40) (contextual := true) [*]; done)
    | (rename_i e; simp only [Prod.ext_iff] at e; obtain ⟨e1, e2⟩ := e; (try subst e1); (try subst e2))
    | split
    | (with_reducible refine keeps_foldl ?_ (fun t a ht => ?_) _)
    | (with_reducible refine keeps_mk ?_ ?_ ?_ ?_ ?_ ?_ ?_ ?_ ?_ ?_ ?_)

@[simp ↓] theorem State.startPack_keeps {s0 : State} {s : State} (r : CmdRef) (i : Image) (hk : Keeps s0 s) : Keeps
    s0 (State.startPack s r i) := by
  unfold State.startPack
  simp (maxDischargeDepth := 40) [*]

@[simp ↓] theorem execLibraryLoad_goes {s0 : State} {s : State} (mat : MatId) (entry : Fin 16) (pass : Bool) (hk :
    Keeps s0 s) : Goes s0 (execLibraryLoad mat entry pass s) := by
  unfold execLibraryLoad
  repeat' first
    | (simp (maxDischargeDepth := 40) (contextual := true) [*]; done)
    | split
    | (with_reducible refine keeps_foldl ?_ (fun t a ht => ?_) _)
    | dsimp only

@[simp ↓] theorem execImageVerify_goes {s0 : State} {s : State}  (hk : Keeps s0 s) : Goes s0 (execImageVerify s) := by
  unfold execImageVerify
  repeat' first
    | (simp (maxDischargeDepth := 40) (contextual := true) [*]; done)
    | split
    | (with_reducible refine keeps_foldl ?_ (fun t a ht => ?_) _)
    | dsimp only

@[simp ↓] theorem execStagingAbandon_goes {s0 : State} {s : State}  (hk : Keeps s0 s) : Goes s0 (execStagingAbandon
    s) := by
  unfold execStagingAbandon
  simp (maxDischargeDepth := 40) [*]

@[simp ↓] theorem execImageCommit_goes {s0 : State} {s : State} (h : Hdr) (slot : Byte) (hk : Keeps s0 s) : Goes s0
    (execImageCommit h slot s) := by
  unfold execImageCommit
  refine goes_next (State.hostCmd_keeps _ _ _ hk (fun t ht => ?_))
  clear hk
  lift_lets
  repeat' first
    | exact State.ends_keeps _ ht
    | (intro x; subst x)
    | (with_reducible refine keeps_ite_st ?_ ?_)
    | (simp (maxDischargeDepth := 40) (contextual := true) [*]; done)
    | (rename_i e; simp only [Prod.ext_iff] at e; obtain ⟨e1, e2⟩ := e; (try subst e1); (try subst e2))
    | split
    | dsimp only

@[simp ↓] theorem execNvImageWrite_goes {s0 : State} {s : State} (slot : Fin 3) (pass : Bool) (hk : Keeps s0 s) :
    Goes s0 (execNvImageWrite slot pass s) := by
  unfold execNvImageWrite
  repeat' first
    | (simp (maxDischargeDepth := 40) (contextual := true) [*]; done)
    | split
    | (with_reducible refine keeps_foldl ?_ (fun t a ht => ?_) _)
    | dsimp only

@[simp ↓] theorem execBootSelect_goes {s0 : State} {s : State} (h : Hdr) (op : Byte) (slot : Byte) (hk : Keeps s0 s)
    : Goes s0 (execBootSelect h op slot s) := by
  unfold execBootSelect
  refine goes_next (State.hostCmd_keeps _ _ _ hk (fun t ht => ?_))
  clear hk
  lift_lets
  repeat' first
    | exact State.ends_keeps _ ht
    | (intro x; subst x)
    | (with_reducible refine keeps_ite_st ?_ ?_)
    | (simp (maxDischargeDepth := 40) (contextual := true) [*]; done)
    | (rename_i e; simp only [Prod.ext_iff] at e; obtain ⟨e1, e2⟩ := e; (try subst e1); (try subst e2))
    | split
    | dsimp only

@[simp ↓] theorem State.setAx_keeps {s0 : State} {s : State} (n : Nat) (x : Ax) (hk : Keeps s0 s) : Keeps s0
    (State.setAx s n x) := by
  unfold State.setAx
  simp (maxDischargeDepth := 40) [*]

@[simp ↓] theorem State.axComplete_keeps {s0 : State} {s : State} (n : Nat) (tagOk : Bool) (hk : Keeps s0 s) : Keeps
    s0 (State.axComplete s n tagOk) := by
  unfold State.axComplete
  simp (maxDischargeDepth := 40) [*]

@[simp ↓] theorem State.axBegin_keeps {s0 : State} {s : State} (n : Nat) (word : BitVec 32) (hk : Keeps s0 s) :
    Keeps s0 (State.axBegin s n word) := by
  unfold State.axBegin
  simp (maxDischargeDepth := 40) [*]

@[simp ↓] theorem execAxStreamWord_goes {s0 : State} {s : State} (inst : Fin 4) (word : BitVec 32) (tagOk : Bool)
    (hk : Keeps s0 s) : Goes s0 (execAxStreamWord inst word tagOk s) := by
  unfold execAxStreamWord
  simp (maxDischargeDepth := 40) [*]

@[simp ↓] theorem execAxTruncated_goes {s0 : State} {s : State} (inst : Fin 4) (hk : Keeps s0 s) : Goes s0
    (execAxTruncated inst s) := by
  unfold execAxTruncated
  simp (maxDischargeDepth := 40) [*]

end Sys2Proof.Machine
end

