-- ==== Sys2Proof/Laws/KeepsWindows.lean ====
section
/-! SUPPORT.  Each operation of Windows.lean gives a later state (Keeps). -/

set_option linter.unreachableTactic false
set_option linter.unusedTactic false

namespace Sys2Proof.Machine

open Sys2Proof

@[simp ↓] theorem State.hostBad_keeps {s0 : State} {s : State} (bar : Nat) (offset : Nat) (size : Nat) (write :
    Bool) (hk : Keeps s0 s) : Keeps s0 (State.hostBad s bar offset size write) := by
  unfold State.hostBad
  simp (maxDischargeDepth := 40) [*]

@[simp ↓] theorem execWindowAccess_goes {s0 : State} {s : State} (offset : BitVec 24) (size : Byte) (write : Bool)
    (data : Word) (hk : Keeps s0 s) : Goes s0 (execWindowAccess offset size write data s) := by
  unfold execWindowAccess
  repeat' first
    | (simp (maxDischargeDepth := 40) (contextual := true) [*]; done)
    | split
    | (with_reducible refine keeps_foldl ?_ (fun t a ht => ?_) _)
    | dsimp only

@[simp ↓] theorem execRegchResponse_goes {s0 : State} {s : State} (mat : MatId) (value : Word) (late : Bool) (hk :
    Keeps s0 s) : Goes s0 (execRegchResponse mat value late s) := by
  unfold execRegchResponse
  simp (maxDischargeDepth := 40) [*]

@[simp ↓] theorem execRegchTimeout_goes {s0 : State} {s : State} (mat : MatId) (hk : Keeps s0 s) : Goes s0
    (execRegchTimeout mat s) := by
  unfold execRegchTimeout
  repeat' first
    | (simp (maxDischargeDepth := 40) (contextual := true) [*]; done)
    | split
    | (with_reducible refine keeps_foldl ?_ (fun t a ht => ?_) _)
    | dsimp only

@[simp ↓] theorem execHostBadAccess_goes {s0 : State} {s : State} (bar : Fin 3) (offset : BitVec 32) (size : Byte)
    (write : Bool) (hk : Keeps s0 s) : Goes s0 (execHostBadAccess bar offset size write s) := by
  unfold execHostBadAccess
  simp (maxDischargeDepth := 40) [*]

end Sys2Proof.Machine
end

