-- ==== Sys2Proof/Laws/KeepsReloc.lean ====
section
/-! SUPPORT.  Each operation of Reloc.lean gives a later state (Keeps). -/

set_option linter.unreachableTactic false
set_option linter.unusedTactic false

namespace Sys2Proof.Machine

open Sys2Proof

@[simp ↓] theorem execRelocationRequest_goes {s0 : State} {s : State} (mat : MatId) (chains : List Chain) (hk :
    Keeps s0 s) : Goes s0 (execRelocationRequest mat chains s) := by
  unfold execRelocationRequest
  repeat' first
    | (simp (maxDischargeDepth := 40) (contextual := true) [*]; done)
    | split
    | (with_reducible refine keeps_foldl ?_ (fun t a ht => ?_) _)
    | dsimp only

@[simp ↓] theorem execRelocate_goes {s0 : State} {s : State} (h : Hdr) (mat : BitVec 16) (flags : Byte) (target :
    BitVec 16) (chains : List Chain) (hk : Keeps s0 s) : Goes s0 (execRelocate h mat flags target chains s) := by
  unfold execRelocate
  refine goes_next (State.hostCmd_keeps _ _ _ hk (fun t ht => ?_))
  have e := fun n => State.ends_keeps n ht
  refine keeps_ite_st (e _) (keeps_ite_st (e _) (keeps_ite_st (e _) ?_))
  lift_lets
  intro u choice
  clear_value choice
  split
  · exact keeps_ite_st (e _) (State.ends_keeps _ (State.unplaceable_keeps _ ht))
  · exact Submitted.report_keeps _ (State.submit_keeps _ _ _ _ _ ht)

@[simp ↓] theorem execGroupStop_goes {s0 : State} {s : State} (mat : MatId) (hk : Keeps s0 s) : Goes s0
    (execGroupStop mat s) := by
  unfold execGroupStop
  repeat' first
    | (simp (maxDischargeDepth := 40) (contextual := true) [*]; done)
    | split
    | (with_reducible refine keeps_foldl ?_ (fun t a ht => ?_) _)
    | dsimp only

@[simp ↓] theorem execRelocation_goes {s0 : State} {s : State} (mat : MatId) (bad : List (MatId × Fin 16)) (hk :
    Keeps s0 s) : Goes s0 (execRelocation mat bad s) := by
  unfold execRelocation
  repeat' first
    | (simp (maxDischargeDepth := 40) (contextual := true) [*]; done)
    | split
    | (with_reducible refine keeps_foldl ?_ (fun t a ht => ?_) _)
    | dsimp only

@[simp ↓] theorem State.emptyTarget_keeps {s0 : State} {s : State} (d : Nat) (hk : Keeps s0 s) : Keeps s0
    (State.emptyTarget s d) := by
  unfold State.emptyTarget
  simp (maxDischargeDepth := 40) (contextual := true) [*]

@[simp ↓] theorem State.retarget_keeps {s0 : State} {s : State} (a : Act) (r : Reloc) (chains : List Chain) (hk :
    Keeps s0 s) : Keeps s0 (State.retarget s a r chains) := by
  unfold State.retarget
  dsimp only
  generalize hT : (List.foldl _ s _).release _ = t
  have h : Keeps s0 t := hT ▸ State.release_keeps _ (keeps_foldl hk (fun t a ht => by simp [ht]) _)
  split
  · exact h
  · split
    · simp [h]
    · split
      · exact State.submitOwn_keeps _ _ _ _ h
      · rename_i d _ _ x _
        have k := State.submit_keeps (.reloc (t.newReloc r.src d chains)) (t.newReloc r.src d chains).locks a.requester
          a.resource (some x) h
        split <;> (rename_i e; rw [e] at k; simp [k])

@[simp ↓] theorem execRelocationPrepared_goes {s0 : State} {s : State} (mat : MatId) (failed : Bool) (lost : List
    (MatId × SlotId)) (chains : List Chain) (hk : Keeps s0 s) : Goes s0 (execRelocationPrepared mat failed lost
    chains s) := by
  unfold execRelocationPrepared
  repeat' first
    | (simp (maxDischargeDepth := 40) (contextual := true) [*]; done)
    | split
    | (with_reducible refine keeps_foldl ?_ (fun t a ht => ?_) _)
    | dsimp only

@[simp ↓] theorem State.moveHolds_keeps {s0 : State} {s : State} (p : Nat) (d : Nat) (paced : Bool) (intact : Bool)
    (hk : Keeps s0 s) : Keeps s0 (State.moveHolds s p d paced intact) := by
  unfold State.moveHolds
  simp (maxDischargeDepth := 40) (contextual := true) [*]

@[simp ↓] theorem State.takeOver_keeps {s0 : State} {s : State} (p : Nat) (d : Nat) (hk : Keeps s0 s) : Keeps s0
    (State.takeOver s p d) := by
  unfold State.takeOver
  simp (maxDischargeDepth := 40) [*]

@[simp ↓] theorem State.carryTimeout_keeps {s0 : State} {s : State} (m : Nat) (d : Nat) (hk : Keeps s0 s) : Keeps s0
    (State.carryTimeout s m d) := by
  unfold State.carryTimeout
  repeat' first
    | (simp (maxDischargeDepth := 40) (contextual := true) [*]; done)
    | split
    | (with_reducible refine keeps_foldl ?_ (fun t a ht => ?_) _)
    | dsimp only

@[simp ↓] theorem State.retargetActs_keeps {s0 : State} {s : State} (r : Reloc) (hk : Keeps s0 s) : Keeps s0
    (State.retargetActs s r) := by
  unfold State.retargetActs
  simp (maxDischargeDepth := 40) [*]

@[simp ↓] theorem State.closeMatFaults_keeps {s0 : State} {s : State} (p : Nat) (hk : Keeps s0 s) : Keeps s0
    (State.closeMatFaults s p) := by
  unfold State.closeMatFaults
  simp (maxDischargeDepth := 40) [*]

@[simp ↓] theorem State.moveMat_keeps {s0 : State} {s : State} (p : Nat) (d : Nat) (intact : Bool) (hk : Keeps s0 s)
    : Keeps s0 (State.moveMat s p d intact) := by
  unfold State.moveMat
  simp (maxDischargeDepth := 40) [*]

@[simp ↓] theorem State.endTargetSlices_keeps {s0 : State} {s : State} (r : Reloc) (hk : Keeps s0 s) : Keeps s0
    (State.endTargetSlices s r) := by
  unfold State.endTargetSlices
  repeat' first
    | (simp (maxDischargeDepth := 40) (contextual := true) [*]; done)
    | split
    | (with_reducible refine keeps_foldl ?_ (fun t a ht => ?_) _)
    | dsimp only

@[simp ↓] theorem State.endReloc_keeps {s0 : State} {s : State} (a : Act) (r : Reloc) (intact : Bool) (regions :
    List Nat) (hk : Keeps s0 s) : Keeps s0 (State.endReloc s a r intact regions) := by
  unfold State.endReloc
  simp (maxDischargeDepth := 40) (contextual := true) [*]

@[simp ↓] theorem State.cutReloc_keeps {s0 : State} {s : State} (a : Act) (r : Reloc) (intact : Bool) (hk : Keeps s0
    s) : Keeps s0 (State.cutReloc s a r intact) := by
  unfold State.cutReloc
  repeat' first
    | (simp (maxDischargeDepth := 40) (contextual := true) [*]; done)
    | split
    | (with_reducible refine keeps_foldl ?_ (fun t a ht => ?_) _)
    | dsimp only

@[simp ↓] theorem execRelocationCut_goes {s0 : State} {s : State} (mat : MatId) (intact : Bool) (hk : Keeps s0 s) :
    Goes s0 (execRelocationCut mat intact s) := by
  unfold execRelocationCut
  repeat' first
    | (simp (maxDischargeDepth := 40) (contextual := true) [*]; done)
    | split
    | (with_reducible refine keeps_foldl ?_ (fun t a ht => ?_) _)
    | dsimp only

end Sys2Proof.Machine
end

