-- ==== Sys2Proof/Laws/KeepsStewards.lean ====
section
/-! SUPPORT.  Each operation of Stewards.lean gives a later state (Keeps). -/

set_option linter.unreachableTactic false
set_option linter.unusedTactic false

namespace Sys2Proof.Machine

open Sys2Proof

@[simp ↓] theorem State.timeoutAct_keeps {s0 : State} {s : State} (a : Act) (hk : Keeps s0 s) : Keeps s0
    (State.timeoutAct s a) := by
  unfold State.timeoutAct
  repeat' first
    | (simp (maxDischargeDepth := 40) (contextual := true) [*]; done)
    | split
    | (with_reducible refine keeps_foldl ?_ (fun t a ht => ?_) _)
    | dsimp only

@[simp ↓] theorem execMntTimeout_goes {s0 : State} {s : State} (place : Fin 32) (hk : Keeps s0 s) : Goes s0
    (execMntTimeout place s) := by
  unfold execMntTimeout
  repeat' first
    | (simp (maxDischargeDepth := 40) (contextual := true) [*]; done)
    | split
    | (with_reducible refine keeps_foldl ?_ (fun t a ht => ?_) _)
    | dsimp only

@[simp ↓] theorem State.holdPair_keeps {s0 : State} {s : State} (p : Nat) (hk : Keeps s0 s) : Keeps s0
    (State.holdPair s p) := by
  unfold State.holdPair
  simp (maxDischargeDepth := 40) [*]

@[simp ↓] theorem State.startPair_keeps {s0 : State} {s : State} (p : Nat) (hk : Keeps s0 s) : Keeps s0
    (State.startPair s p) := by
  unfold State.startPair
  simp (maxDischargeDepth := 40) [*]

@[simp ↓] theorem State.passPins_keeps {s0 : State} {s : State} (old : Nat) (new : Nat) (hk : Keeps s0 s) : Keeps s0
    (State.passPins s old new) := by
  unfold State.passPins
  simp (maxDischargeDepth := 40) (contextual := true) [*]

@[simp ↓] theorem State.setCopies_keeps {s0 : State} {s : State} (l : List (BitVec 32 × BitVec 512)) (hk : Keeps s0
    s) : Keeps s0 (State.setCopies s l) := by
  unfold State.setCopies
  simp (maxDischargeDepth := 40) [*]

@[simp ↓] theorem State.endUpdate_keeps {s0 : State} {s : State} (status : Nat) (result : Word) (hk : Keeps s0 s) :
    Keeps s0 (State.endUpdate s status result) := by
  unfold State.endUpdate
  repeat' first
    | (simp (maxDischargeDepth := 40) (contextual := true) [*]; done)
    | split
    | (with_reducible refine keeps_foldl ?_ (fun t a ht => ?_) _)
    | dsimp only

@[simp ↓] theorem State.adoptFirmware_keeps {s0 : State} {s : State} (fw : Firmware) (hk : Keeps s0 s) : Keeps s0
    (State.adoptFirmware s fw) := by
  unfold State.adoptFirmware
  simp (maxDischargeDepth := 40) [*]

@[simp ↓] theorem State.failover_keeps {s0 : State} {s : State} (cause : Nat) (us : Nat) (hk : Keeps s0 s) : Keeps
    s0 (State.failover s cause us) := by
  unfold State.failover
  repeat' first
    | (simp (maxDischargeDepth := 40) (contextual := true) [*]; done)
    | split
    | (with_reducible refine keeps_foldl ?_ (fun t a ht => ?_) _)
    | dsimp only

@[simp ↓] theorem State.stewardFault_keeps {s0 : State} {s : State} (cause : Nat) (us : Nat) (hk : Keeps s0 s) :
    Keeps s0 (State.stewardFault s cause us) := by
  unfold State.stewardFault
  simp (maxDischargeDepth := 40) [*]

@[simp ↓] theorem execStewardFailover_goes {s0 : State} {s : State} (cause : Fin 4) (us : BitVec 32) (hk : Keeps s0
    s) : Goes s0 (execStewardFailover cause us s) := by
  unfold execStewardFailover
  simp (maxDischargeDepth := 40) [*]

@[simp ↓] theorem execStandbyReady_goes {s0 : State} {s : State}  (hk : Keeps s0 s) : Goes s0 (execStandbyReady s) := by
  unfold execStandbyReady
  simp (maxDischargeDepth := 40) [*]

@[simp ↓] theorem execFwUpdate_goes {s0 : State} {s : State} (h : Hdr) (target : Byte) (addr : Word) (length :
    BitVec 32) (fw : Firmware) (hk : Keeps s0 s) : Goes s0 (execFwUpdate h target addr length fw s) := by
  unfold execFwUpdate
  refine goes_next (State.hostCmd_keeps _ _ _ hk (fun t ht => ?_))
  clear hk
  lift_lets
  repeat' first
    | exact State.ends_keeps _ ht
    | (intro x; subst x)
    | (with_reducible refine keeps_ite_st ?_ ?_)
    | (simp (maxDischargeDepth := 40) (contextual := true) [*]; done)
    | (rename_i e; simp only [Prod.ext_iff] at e; obtain ⟨e1, e2⟩ := e; (try subst e1); (try subst e2))
    | split
    | dsimp only

@[simp ↓] theorem State.setProgs_keeps {s0 : State} {s : State} (copy : Nat) (l : List Prog) (hk : Keeps s0 s) :
    Keeps s0 (State.setProgs s copy l) := by
  unfold State.setProgs
  simp (maxDischargeDepth := 40) [*]

@[simp ↓] theorem State.adoptBundle_keeps {s0 : State} {s : State} (fw : Firmware) (hk : Keeps s0 s) : Keeps s0
    (State.adoptBundle s fw) := by
  unfold State.adoptBundle
  simp (maxDischargeDepth := 40) [*]

@[simp ↓] theorem State.revertUpdate_keeps {s0 : State} {s : State} (target : Nat) (hk : Keeps s0 s) : Keeps s0
    (State.revertUpdate s target) := by
  unfold State.revertUpdate
  simp (maxDischargeDepth := 40) [*]

@[simp ↓] theorem execFirmwareUpdateRun_goes {s0 : State} {s : State} (pass : Bool) (hk : Keeps s0 s) : Goes s0
    (execFirmwareUpdateRun pass s) := by
  unfold execFirmwareUpdateRun
  repeat' first
    | (simp (maxDischargeDepth := 40) (contextual := true) [*]; done)
    | split
    | (with_reducible refine keeps_foldl ?_ (fun t a ht => ?_) _)
    | dsimp only

@[simp ↓] theorem execFwStandbyTimeout_goes {s0 : State} {s : State}  (hk : Keeps s0 s) : Goes s0
    (execFwStandbyTimeout s) := by
  unfold execFwStandbyTimeout
  simp (maxDischargeDepth := 40) [*]

end Sys2Proof.Machine
end

