-- ==== Sys2Proof/Laws/KeepsSlices.lean ====
section
/-! SUPPORT.  Each operation of Slices.lean gives a later state (Keeps). -/

set_option linter.unreachableTactic false
set_option linter.unusedTactic false

namespace Sys2Proof.Machine

open Sys2Proof

@[simp ↓] theorem State.overwriteBank_keeps {s0 : State} {s : State} (b : Nat) (hk : Keeps s0 s) : Keeps s0
    (State.overwriteBank s b) := by
  unfold State.overwriteBank
  simp (maxDischargeDepth := 40) (contextual := true) [*]

@[simp ↓] theorem State.useUnit_keeps {s0 : State} {s : State} (kind : Nat) (inst : Nat) (hk : Keeps s0 s) : Keeps
    s0 (State.useUnit s kind inst) := by
  unfold State.useUnit
  repeat' first
    | (simp (maxDischargeDepth := 40) (contextual := true) [*]; done)
    | split
    | (with_reducible refine keeps_foldl ?_ (fun t a ht => ?_) _)
    | dsimp only

@[simp ↓] theorem execSlice_goes {s0 : State} {s : State} (kind : Fin 8) (inst : BitVec 12) (hk : Keeps s0 s) : Goes
    s0 (execSlice kind inst s) := by
  unfold execSlice
  repeat' first
    | (simp (maxDischargeDepth := 40) (contextual := true) [*]; done)
    | split
    | (with_reducible refine keeps_foldl ?_ (fun t a ht => ?_) _)
    | dsimp only

@[simp ↓] theorem State.markUnit_keeps {s0 : State} {s : State} (kind : Nat) (inst : Nat) (bad : Bool) (hk : Keeps
    s0 s) : Keeps s0 (State.markUnit s kind inst bad) := by
  unfold State.markUnit
  repeat' first
    | (simp (maxDischargeDepth := 40) (contextual := true) [*]; done)
    | split
    | (with_reducible refine keeps_foldl ?_ (fun t a ht => ?_) _)
    | dsimp only

@[simp ↓] theorem State.releaseUnit_keeps {s0 : State} {s : State} (kind : Nat) (inst : Nat) (cause : Nat) (hk :
    Keeps s0 s) : Keeps s0 (State.releaseUnit s kind inst cause) := by
  unfold State.releaseUnit
  simp (maxDischargeDepth := 40) [*]

@[simp ↓] theorem State.failUnit_keeps {s0 : State} {s : State} (kind : Nat) (inst : Nat) (outcome : Nat) (sig :
    Word) (hk : Keeps s0 s) : Keeps s0 (State.failUnit s kind inst outcome sig) := by
  unfold State.failUnit
  simp (maxDischargeDepth := 40) [*]

@[simp ↓] theorem State.returnMat_keeps {s0 : State} {s : State} (p : Nat) (hk : Keeps s0 s) : Keeps s0
    (State.returnMat s p) := by
  unfold State.returnMat
  simp (maxDischargeDepth := 40) [*]

@[simp ↓] theorem State.afterSlice_keeps {s0 : State} {s : State} (kind : Nat) (inst : Nat) (outcome : Nat) (hk :
    Keeps s0 s) : Keeps s0 (State.afterSlice s kind inst outcome) := by
  unfold State.afterSlice
  repeat' first
    | (simp (maxDischargeDepth := 40) (contextual := true) [*]; done)
    | split
    | (with_reducible refine keeps_foldl ?_ (fun t a ht => ?_) _)
    | dsimp only

@[simp ↓] theorem State.feedTraverse_keeps {s0 : State} {x1 : State} (x0 : Nat) (hk : Keeps s0 x1) : Keeps s0
    (State.feedTraverse x0 x1) := by
  induction x0 generalizing x1 with
  | zero => exact hk
  | succ n ih =>
    unfold State.feedTraverse
    split
    · exact hk
    · exact keeps_ite hk (ih (by simp (maxDischargeDepth := 40) [hk]))

@[simp ↓] theorem execSliceDone_goes {s0 : State} {s : State} (kind : Fin 8) (inst : BitVec 12) (sig : Word) (us :
    BitVec 16) (overrun : Bool) (hk : Keeps s0 s) : Goes s0 (execSliceDone kind inst sig us overrun s) := by
  unfold execSliceDone
  repeat' first
    | (simp (maxDischargeDepth := 40) (contextual := true) [*]; done)
    | split
    | (with_reducible refine keeps_foldl ?_ (fun t a ht => ?_) _)
    | dsimp only

@[simp ↓] theorem execBistRun_goes {s0 : State} {s : State} (h : Hdr) (op : Byte) (kind : Byte) (inst : BitVec 16)
    (hk : Keeps s0 s) : Goes s0 (execBistRun h op kind inst s) := by
  unfold execBistRun
  simp (maxDischargeDepth := 40) (contextual := true) [*]

@[simp ↓] theorem execPhaseShed_goes {s0 : State} {s : State} (rail : Fin 2) (hk : Keeps s0 s) : Goes s0
    (execPhaseShed rail s) := by
  unfold execPhaseShed
  simp (maxDischargeDepth := 40) [*]

@[simp ↓] theorem execPowerDown_goes {s0 : State} {s : State} (h : Hdr) (hk : Keeps s0 s) : Goes s0 (execPowerDown h
    s) := by
  unfold execPowerDown
  simp (maxDischargeDepth := 40) (contextual := true) [*]

@[simp ↓] theorem execTraverse_goes {s0 : State} {s : State}  (hk : Keeps s0 s) : Goes s0 (execTraverse s) := by
  unfold execTraverse
  simp (maxDischargeDepth := 40) [*]

@[simp ↓] theorem execTraverseDone_goes {s0 : State} {s : State} (us : BitVec 32) (hk : Keeps s0 s) : Goes s0
    (execTraverseDone us s) := by
  unfold execTraverseDone
  simp (maxDischargeDepth := 40) [*]

end Sys2Proof.Machine
end

