-- ==== Sys2Proof/Laws/KeepsFieldBook.lean ====
section
/-! SUPPORT.  Each operation of FieldBook.lean gives a later state (Keeps). -/

set_option linter.unreachableTactic false
set_option linter.unusedTactic false

namespace Sys2Proof.Machine

open Sys2Proof

@[simp ↓] theorem execFieldBookCommit_goes {s0 : State} {s : State}  (hk : Keeps s0 s) : Goes s0
    (execFieldBookCommit s) := by
  unfold execFieldBookCommit
  repeat' first
    | (simp (maxDischargeDepth := 40) (contextual := true) [*]; done)
    | split
    | (with_reducible refine keeps_foldl ?_ (fun t a ht => ?_) _)
    | dsimp only

@[simp ↓] theorem State.storePage_keeps {s0 : State} {s : State} (n : Nat) (p : Page) (hk : Keeps s0 s) : Keeps s0
    (State.storePage s n p) := by
  unfold State.storePage
  simp (maxDischargeDepth := 40) [*]

@[simp ↓] theorem State.wearPages_keeps {s0 : State} {s : State}  (hk : Keeps s0 s) : Keeps s0 (State.wearPages s) := by
  unfold State.wearPages
  simp (maxDischargeDepth := 40) [*]

@[simp ↓] theorem execFbCommitted_goes {s0 : State} {s : State}  (hk : Keeps s0 s) : Goes s0 (execFbCommitted s) := by
  unfold execFbCommitted
  repeat' first
    | (simp (maxDischargeDepth := 40) (contextual := true) [*]; done)
    | split
    | (with_reducible refine keeps_foldl ?_ (fun t a ht => ?_) _)
    | dsimp only

@[simp ↓] theorem execFieldbookMark_goes {s0 : State} {s : State} (h : Hdr) (mark : BitVec 16) (data : BitVec 96)
    (hk : Keeps s0 s) : Goes s0 (execFieldbookMark h mark data s) := by
  unfold execFieldbookMark
  simp (maxDischargeDepth := 40) (contextual := true) [*]

@[simp ↓] theorem execFieldbookRead_goes {s0 : State} {s : State} (h : Hdr) (source : Byte) (addr : Word) (length :
    BitVec 32) (hk : Keeps s0 s) : Goes s0 (execFieldbookRead h source addr length s) := by
  unfold execFieldbookRead
  refine goes_next (State.hostCmd_keeps _ _ _ hk (fun t ht => ?_))
  clear hk
  lift_lets
  repeat' first
    | exact State.ends_keeps _ ht
    | (intro x; subst x)
    | (with_reducible refine keeps_ite_st ?_ ?_)
    | (simp (maxDischargeDepth := 40) (contextual := true) [*]; done)
    | (rename_i e; simp only [Prod.ext_iff] at e; obtain ⟨e1, e2⟩ := e; (try subst e1); (try subst e2))
    | split
    | dsimp only

@[simp ↓] theorem execFbkRdData7Read_goes {s0 : State} {s : State} (req : Requester) (hk : Keeps s0 s) : Goes s0
    (execFbkRdData7Read req s) := by
  unfold execFbkRdData7Read
  simp (maxDischargeDepth := 40) (contextual := true) [*]

end Sys2Proof.Machine
end

