-- ==== Sys2Proof/Laws/KeepsHeat.lean ====
section
/-! SUPPORT.  Each operation of Heat.lean gives a later state (Keeps). -/

set_option linter.unreachableTactic false
set_option linter.unusedTactic false

namespace Sys2Proof.Machine

open Sys2Proof

@[simp ↓] theorem State.takeSample_keeps {s0 : State} {s : State} (layer : Nat) (i : Nat) (reading : Option (BitVec
    16)) (hk : Keeps s0 s) : Keeps s0 (State.takeSample s layer i reading) := by
  unfold State.takeSample
  simp (maxDischargeDepth := 40) [*]

@[simp ↓] theorem execSensorSample_goes {s0 : State} {s : State} (layer : Fin 5) (index : Byte) (reading : Option
    (BitVec 16)) (hk : Keeps s0 s) : Goes s0 (execSensorSample layer index reading s) := by
  unfold execSensorSample
  repeat' first
    | (simp (maxDischargeDepth := 40) (contextual := true) [*]; done)
    | split
    | (with_reducible refine keeps_foldl ?_ (fun t a ht => ?_) _)
    | dsimp only

@[simp ↓] theorem execTriangulation_goes {s0 : State} {s : State} (activity : List (BitVec 32 × BitVec 32)) (hk :
    Keeps s0 s) : Goes s0 (execTriangulation activity s) := by
  unfold execTriangulation
  simp (maxDischargeDepth := 40) (contextual := true) [*]

@[simp ↓] theorem execSensorReleased_goes {s0 : State} {s : State} (layer : Fin 5) (index : Byte) (hk : Keeps s0 s)
    : Goes s0 (execSensorReleased layer index s) := by
  unfold execSensorReleased
  simp (maxDischargeDepth := 40) [*]

@[simp ↓] theorem execCriticalRestart_goes {s0 : State} {s : State}  (hk : Keeps s0 s) : Goes s0
    (execCriticalRestart s) := by
  unfold execCriticalRestart
  simp (maxDischargeDepth := 40) [*]

@[simp ↓] theorem State.recalibrate_keeps {s0 : State} {s : State} (means : List (Int × Bool)) (hk : Keeps s0 s) :
    Keeps s0 (State.recalibrate s means) := by
  unfold State.recalibrate
  simp (maxDischargeDepth := 40) [*]

@[simp ↓] theorem execTriangulationRecal_goes {s0 : State} {s : State} (means : List (Int × Bool)) (hk : Keeps s0 s)
    : Goes s0 (execTriangulationRecal means s) := by
  unfold execTriangulationRecal
  repeat' first
    | (simp (maxDischargeDepth := 40) (contextual := true) [*]; done)
    | split
    | (with_reducible refine keeps_foldl ?_ (fun t a ht => ?_) _)
    | dsimp only

end Sys2Proof.Machine
end

