-- ==== Sys2Proof/Laws/KeepsBoot.lean ====
section
/-! SUPPORT.  Each operation of Boot.lean gives a later state (Keeps). -/

set_option linter.unreachableTactic false
set_option linter.unusedTactic false

namespace Sys2Proof.Machine

open Sys2Proof

@[simp ↓] theorem execPowerOn_goes {s0 : State} {s : State}  (hk : Keeps s0 s) : Goes s0 (execPowerOn s) := by
  unfold execPowerOn
  simp (maxDischargeDepth := 40) [*]

@[simp ↓] theorem execVauxLost_goes {s0 : State} {s : State}  (hk : Keeps s0 s) : Goes s0 (execVauxLost s) := by
  unfold execVauxLost
  simp (maxDischargeDepth := 40) [*]

@[simp ↓] theorem State.fabricGood_keeps {s0 : State} {s : State}  (hk : Keeps s0 s) : Keeps s0 (State.fabricGood s) := by
  unfold State.fabricGood
  simp (maxDischargeDepth := 40) [*]

@[simp ↓] theorem execRailGood_goes {s0 : State} {s : State} (rail : Fin 8) (hk : Keeps s0 s) : Goes s0
    (execRailGood rail s) := by
  unfold execRailGood
  simp (maxDischargeDepth := 40) [*]

@[simp ↓] theorem execSequencerFail_goes {s0 : State} {s : State}  (hk : Keeps s0 s) : Goes s0 (execSequencerFail s) := by
  unfold execSequencerFail
  simp (maxDischargeDepth := 40) [*]

@[simp ↓] theorem execTetherDown_goes {s0 : State} {s : State} (tether : TetherId) (hk : Keeps s0 s) : Goes s0
    (execTetherDown tether s) := by
  unfold execTetherDown
  simp (maxDischargeDepth := 40) [*]

@[simp ↓] theorem execTetherDegraded_goes {s0 : State} {s : State} (tether : TetherId) (lane : Fin 4) (hk : Keeps s0
    s) : Goes s0 (execTetherDegraded tether lane s) := by
  unfold execTetherDegraded
  simp (maxDischargeDepth := 40) [*]

@[simp ↓] theorem State.takeStream_keeps {s0 : State} {s : State} (k : Nat) (bytes : Nat) (i : Image) (hk : Keeps s0
    s) : Keeps s0 (State.takeStream s k bytes i) := by
  unfold State.takeStream
  simp (maxDischargeDepth := 40) [*]

@[simp ↓] theorem execTetherConfig_goes {s0 : State} {s : State} (tether : TetherId) (bytes : BitVec 32) (image :
    Image) (hk : Keeps s0 s) : Goes s0 (execTetherConfig tether bytes image s) := by
  unfold execTetherConfig
  simp (maxDischargeDepth := 40) [*]

@[simp ↓] theorem execTetherStreamTimeout_goes {s0 : State} {s : State}  (hk : Keeps s0 s) : Goes s0
    (execTetherStreamTimeout s) := by
  unfold execTetherStreamTimeout
  simp (maxDischargeDepth := 40) [*]

@[simp ↓] theorem execImageApply_goes {s0 : State} {s : State} (failed : List MatId) (chains : List Chain) (hk :
    Keeps s0 s) : Goes s0 (execImageApply failed chains s) := by
  unfold execImageApply
  repeat' first
    | (simp (maxDischargeDepth := 40) (contextual := true) [*]; done)
    | split
    | (with_reducible refine keeps_foldl ?_ (fun t a ht => ?_) _)
    | dsimp only

@[simp ↓] theorem execStackManagerReady_goes {s0 : State} {s : State} (pair : Fin 2) (hk : Keeps s0 s) : Goes s0
    (execStackManagerReady pair s) := by
  unfold execStackManagerReady
  simp (maxDischargeDepth := 40) [*]

@[simp ↓] theorem State.wakeMat_keeps {s0 : State} {s : State} (p : Nat) (hk : Keeps s0 s) : Keeps s0 (State.wakeMat
    s p) := by
  unfold State.wakeMat
  simp (maxDischargeDepth := 40) [*]

@[simp ↓] theorem State.readClean_keeps {s0 : State} {s : State}  (hk : Keeps s0 s) : Keeps s0 (State.readClean s) := by
  unfold State.readClean
  simp (maxDischargeDepth := 40) [*]

@[simp ↓] theorem State.wakeUp_keeps {s0 : State} {s : State}  (hk : Keeps s0 s) : Keeps s0 (State.wakeUp s) := by
  unfold State.wakeUp
  simp (maxDischargeDepth := 40) (contextual := true) [*]

@[simp ↓] theorem execWake_goes {s0 : State} {s : State} (bootUs : BitVec 32) (hk : Keeps s0 s) : Goes s0 (execWake
    bootUs s) := by
  unfold execWake
  simp (maxDischargeDepth := 40) [*]

@[simp ↓] theorem execDeviceWarmReset_goes {s0 : State} {s : State} (req : Requester) (value : Reg) (hk : Keeps s0
    s) : Goes s0 (execDeviceWarmReset req value s) := by
  unfold execDeviceWarmReset
  simp (maxDischargeDepth := 40) (contextual := true) [*]

@[simp ↓] theorem execWarmResetContinue_goes {s0 : State} {s : State}  (hk : Keeps s0 s) : Goes s0
    (execWarmResetContinue s) := by
  unfold execWarmResetContinue
  simp (maxDischargeDepth := 40) [*]

@[simp ↓] theorem State.resetMember_keeps {s0 : State} {s : State} (mats : List Nat) (m : Nat) (hk : Keeps s0 s) :
    Keeps s0 (State.resetMember s mats m) := by
  unfold State.resetMember
  simp (maxDischargeDepth := 40) (contextual := true) [*]

@[simp ↓] theorem execSwapGroupFabricReset_goes {s0 : State} {s : State} (req : Requester) (value : Reg) (hk : Keeps
    s0 s) : Goes s0 (execSwapGroupFabricReset req value s) := by
  unfold execSwapGroupFabricReset
  simp (maxDischargeDepth := 40) (contextual := true) [*]

@[simp ↓] theorem execCoreReset_goes {s0 : State} {s : State} (req : Requester) (value : Reg) (hk : Keeps s0 s) :
    Goes s0 (execCoreReset req value s) := by
  unfold execCoreReset
  simp (maxDischargeDepth := 40) (contextual := true) [*]

@[simp ↓] theorem execCoreResetRelease_goes {s0 : State} {s : State} (core : Fin 4) (hk : Keeps s0 s) : Goes s0
    (execCoreResetRelease core s) := by
  unfold execCoreResetRelease
  repeat' first
    | (simp (maxDischargeDepth := 40) (contextual := true) [*]; done)
    | split
    | (with_reducible refine keeps_foldl ?_ (fun t a ht => ?_) _)
    | dsimp only

end Sys2Proof.Machine
end

