-- ==== Sys2Proof/Laws/KeepsPower.lean ====
section
/-! SUPPORT.  Each operation of Power.lean gives a later state (Keeps). -/

set_option linter.unreachableTactic false
set_option linter.unusedTactic false

namespace Sys2Proof.Machine

open Sys2Proof

@[simp ↓] theorem State.showWarn_keeps {s0 : State} {s : State}  (hk : Keeps s0 s) : Keeps s0 (State.showWarn s) := by
  unfold State.showWarn
  simp (maxDischargeDepth := 40) (contextual := true) [*]

@[simp ↓] theorem State.measureRail_keeps {s0 : State} {s : State} (r : Nat) (mv : Nat) (lowest : Nat) (hk : Keeps
    s0 s) : Keeps s0 (State.measureRail s r mv lowest) := by
  unfold State.measureRail
  simp (maxDischargeDepth := 40) [*]

@[simp ↓] theorem State.holdNv_keeps {s0 : State} {s : State}  (hk : Keeps s0 s) : Keeps s0 (State.holdNv s) := by
  unfold State.holdNv
  simp (maxDischargeDepth := 40) [*]

@[simp ↓] theorem State.enterWarn_keeps {s0 : State} {s : State} (r : Nat) (mv : Nat) (hk : Keeps s0 s) : Keeps s0
    (State.enterWarn s r mv) := by
  unfold State.enterWarn
  simp (maxDischargeDepth := 40) [*]

@[simp ↓] theorem execRailWarn_goes {s0 : State} {s : State} (rail : Fin 8) (mv : BitVec 16) (hk : Keeps s0 s) :
    Goes s0 (execRailWarn rail mv s) := by
  unfold execRailWarn
  simp (maxDischargeDepth := 40) [*]

@[simp ↓] theorem State.leaveWarn_keeps {s0 : State} {s : State} (r : Nat) (lowest : Nat) (hk : Keeps s0 s) : Keeps
    s0 (State.leaveWarn s r lowest) := by
  unfold State.leaveWarn
  simp (maxDischargeDepth := 40) [*]

@[simp ↓] theorem State.recovered_keeps {s0 : State} {s : State} (r : Nat) (hk : Keeps s0 s) : Keeps s0
    (State.recovered s r) := by
  unfold State.recovered
  repeat' first
    | (simp (maxDischargeDepth := 40) (contextual := true) [*]; done)
    | split
    | (with_reducible refine keeps_foldl ?_ (fun t a ht => ?_) _)
    | dsimp only

@[simp ↓] theorem execRailRecovered_goes {s0 : State} {s : State} (rail : Fin 8) (mv : BitVec 16) (lowest : BitVec
    16) (hk : Keeps s0 s) : Goes s0 (execRailRecovered rail mv lowest s) := by
  unfold execRailRecovered
  simp (maxDischargeDepth := 40) [*]

@[simp ↓] theorem State.cutCommit_keeps {s0 : State} {s : State}  (hk : Keeps s0 s) : Keeps s0 (State.cutCommit s) := by
  unfold State.cutCommit
  repeat' first
    | (simp (maxDischargeDepth := 40) (contextual := true) [*]; done)
    | split
    | (with_reducible refine keeps_foldl ?_ (fun t a ht => ?_) _)
    | dsimp only

@[simp ↓] theorem State.resetDomain_keeps {s0 : State} {s : State} (r : Nat) (hk : Keeps s0 s) : Keeps s0
    (State.resetDomain s r) := by
  unfold State.resetDomain
  split
  · lift_lets
    intro t u
    have ht : Keeps s0 t := keeps_mk hk List.prefix_rfl (Nat.le_refl _) rfl rfl id (fun _ => rfl) id id id id
    have hu : Keeps s0 u := State.flushCoreWaits_keeps ht
    clear_value u
    exact keeps_mk hu List.prefix_rfl (Nat.le_refl _) rfl rfl id id id id id id
  all_goals simp (maxDischargeDepth := 40) (contextual := true) [hk]

@[simp ↓] theorem State.railReset_keeps {s0 : State} {s : State} (r : Nat) (mv : Nat) (hk : Keeps s0 s) : Keeps s0
    (State.railReset s r mv) := by
  unfold State.railReset
  simp (maxDischargeDepth := 40) [*]

@[simp ↓] theorem execRailReset_goes {s0 : State} {s : State} (rail : Fin 8) (mv : BitVec 16) (hk : Keeps s0 s) :
    Goes s0 (execRailReset rail mv s) := by
  unfold execRailReset
  simp (maxDischargeDepth := 40) [*]

@[simp ↓] theorem execVddFRestart_goes {s0 : State} {s : State}  (hk : Keeps s0 s) : Goes s0 (execVddFRestart s) := by
  unfold execVddFRestart
  simp (maxDischargeDepth := 40) [*]

@[simp ↓] theorem execAvsFault_goes {s0 : State} {s : State} (rail : Fin 2) (status : Byte) (hk : Keeps s0 s) : Goes
    s0 (execAvsFault rail status s) := by
  unfold execAvsFault
  simp (maxDischargeDepth := 40) [*]

@[simp ↓] theorem State.evalCap_keeps {s0 : State} {s : State} (mw : Nat) (hk : Keeps s0 s) : Keeps s0
    (State.evalCap s mw) := by
  unfold State.evalCap
  simp (maxDischargeDepth := 40) [*]

@[simp ↓] theorem execPowerMeasurement_goes {s0 : State} {s : State} (rails : List (BitVec 16 × BitVec 16)) (hk :
    Keeps s0 s) : Goes s0 (execPowerMeasurement rails s) := by
  unfold execPowerMeasurement
  simp (maxDischargeDepth := 40) (contextual := true) [*]

@[simp ↓] theorem execPowerCapExceeded_goes {s0 : State} {s : State}  (hk : Keeps s0 s) : Goes s0
    (execPowerCapExceeded s) := by
  unfold execPowerCapExceeded
  simp (maxDischargeDepth := 40) [*]

@[simp ↓] theorem State.openSupply_keeps {s0 : State} {s : State} (layer : Nat) (c : Nat) (mats : List Nat) (hk :
    Keeps s0 s) : Keeps s0 (State.openSupply s layer c mats) := by
  unfold State.openSupply
  simp (maxDischargeDepth := 40) [*]

@[simp ↓] theorem execIrDrop_goes {s0 : State} {s : State} (layer : Fin 4) (col : ColId) (localMv : BitVec 16) (l0Mv
    : BitVec 16) (hk : Keeps s0 s) : Goes s0 (execIrDrop layer col localMv l0Mv s) := by
  unfold execIrDrop
  simp (maxDischargeDepth := 40) (contextual := true) [*]

@[simp ↓] theorem State.endInterval_keeps {s0 : State} {s : State}  (hk : Keeps s0 s) : Keeps s0 (State.endInterval
    s) := by
  unfold State.endInterval
  simp (maxDischargeDepth := 40) (contextual := true) [*]

@[simp ↓] theorem State.governorActs_keeps {s0 : State} {s : State} (n : Int) (worst : Option (Nat × Nat)) (hk :
    Keeps s0 s) : Keeps s0 (State.governorActs s n worst) := by
  unfold State.governorActs
  simp (maxDischargeDepth := 40) [*]

@[simp ↓] theorem execGovernorInterval_goes {s0 : State} {s : State}  (hk : Keeps s0 s) : Goes s0
    (execGovernorInterval s) := by
  unfold execGovernorInterval
  simp (maxDischargeDepth := 40) [*]

end Sys2Proof.Machine
end

