-- ==== Sys2Proof/Laws/KeepsAccess.lean ====
section
/-! SUPPORT.  Each operation of Access.lean gives a later state (Keeps). -/

namespace Sys2Proof.Machine

open Sys2Proof

@[simp ↓] theorem State.rcClear_keeps {s0 : State} {s : State} (k : Nat) (hk : Keeps s0 s) : Keeps s0 (State.rcClear
    s k) := by
  unfold State.rcClear
  simp (maxDischargeDepth := 40) [*]

@[simp ↓] theorem State.latchHigh_keeps {s0 : State} {s : State} (req : Requester) (k : Nat) (hk : Keeps s0 s) :
    Keeps s0 (State.latchHigh s req k) := by
  unfold State.latchHigh
  simp (maxDischargeDepth := 40) [*]

@[simp ↓] theorem State.drawn_keeps {s0 : State} {s : State} (k : Nat) (hk : Keeps s0 s) : Keeps s0 (State.drawn s
    k) := by
  unfold State.drawn
  simp (maxDischargeDepth := 40) [*]

@[simp ↓] theorem State.readReg_keeps {s0 : State} {s : State} (req : Requester) (peek : Bool) (k : Nat) (hk : Keeps
    s0 s) : Keeps s0 (State.readReg s req peek k).2 := by
  unfold State.readReg
  simp (maxDischargeDepth := 40) [*]

@[simp ↓] theorem State.readReg8_keeps {s0 : State} {s : State} (req : Requester) (peek : Bool) (k : Nat) (hk :
    Keeps s0 s) : Keeps s0 (State.readReg8 s req peek k).2 := by
  unfold State.readReg8
  simp (maxDischargeDepth := 40) [*]

end Sys2Proof.Machine
end

