-- ==== Sys2Proof/Laws/KeepsClocks.lean ====
section
/-! SUPPORT.  Each operation of Clocks.lean gives a later state (Keeps). -/

set_option linter.unreachableTactic false
set_option linter.unusedTactic false

namespace Sys2Proof.Machine

open Sys2Proof

@[simp ↓] theorem State.hrefGone_keeps {s0 : State} {s : State}  (hk : Keeps s0 s) : Keeps s0 (State.hrefGone s) := by
  unfold State.hrefGone
  simp (maxDischargeDepth := 40) [*]

@[simp ↓] theorem execHrefLost_goes {s0 : State} {s : State}  (hk : Keeps s0 s) : Goes s0 (execHrefLost s) := by
  unfold execHrefLost
  simp (maxDischargeDepth := 40) (contextual := true) [*]

@[simp ↓] theorem State.hrefBack_keeps {s0 : State} {s : State} (absentUs : Nat) (hk : Keeps s0 s) : Keeps s0
    (State.hrefBack s absentUs) := by
  unfold State.hrefBack
  simp (maxDischargeDepth := 40) [*]

@[simp ↓] theorem State.markGaps_keeps {s0 : State} {s : State} (absentUs : Nat) (hk : Keeps s0 s) : Keeps s0
    (State.markGaps s absentUs) := by
  unfold State.markGaps
  simp (maxDischargeDepth := 40) (contextual := true) [*]

@[simp ↓] theorem execHrefRestored_goes {s0 : State} {s : State} (absentUs : BitVec 32) (hk : Keeps s0 s) : Goes s0
    (execHrefRestored absentUs s) := by
  unfold execHrefRestored
  simp (maxDischargeDepth := 40) (contextual := true) [*]

@[simp ↓] theorem execPllUnlock_goes {s0 : State} {s : State} (pll : Fin 7) (hk : Keeps s0 s) : Goes s0
    (execPllUnlock pll s) := by
  unfold execPllUnlock
  simp (maxDischargeDepth := 40) [*]

@[simp ↓] theorem execPllLock_goes {s0 : State} {s : State} (pll : Fin 7) (hk : Keeps s0 s) : Goes s0 (execPllLock
    pll s) := by
  unfold execPllLock
  simp (maxDischargeDepth := 40) [*]

@[simp ↓] theorem execSscDetected_goes {s0 : State} {s : State}  (hk : Keeps s0 s) : Goes s0 (execSscDetected s) := by
  unfold execSscDetected
  simp (maxDischargeDepth := 40) (contextual := true) [*]

@[simp ↓] theorem execClkDivWrite_goes {s0 : State} {s : State} (req : Requester) (fabric : Bool) (value : Reg) (hk
    : Keeps s0 s) : Goes s0 (execClkDivWrite req fabric value s) := by
  unfold execClkDivWrite
  simp (maxDischargeDepth := 40) (contextual := true) [*]

@[simp ↓] theorem execOpEntryWrite_goes {s0 : State} {s : State} (req : Requester) (entry : Fin 4) (value : Reg) (hk
    : Keeps s0 s) : Goes s0 (execOpEntryWrite req entry value s) := by
  unfold execOpEntryWrite
  simp (maxDischargeDepth := 40) (contextual := true) [*]

@[simp ↓] theorem execOpRequest_goes {s0 : State} {s : State} (req : Requester) (value : Reg) (hk : Keeps s0 s) :
    Goes s0 (execOpRequest req value s) := by
  unfold execOpRequest
  simp (maxDischargeDepth := 40) (contextual := true) [*]

@[simp ↓] theorem execSetPointReached_goes {s0 : State} {s : State} (rail : Fin 2) (hk : Keeps s0 s) : Goes s0
    (execSetPointReached rail s) := by
  unfold execSetPointReached
  repeat' first
    | (simp (maxDischargeDepth := 40) (contextual := true) [*]; done)
    | split
    | (with_reducible refine keeps_foldl ?_ (fun t a ht => ?_) _)
    | dsimp only

@[simp ↓] theorem execTreeSourceSwitch_goes {s0 : State} {s : State} (req : Requester) (tree : Fin 32) (value : Reg)
    (hk : Keeps s0 s) : Goes s0 (execTreeSourceSwitch req tree value s) := by
  unfold execTreeSourceSwitch
  simp (maxDischargeDepth := 40) (contextual := true) [*]

@[simp ↓] theorem execTreeForcedSwitch_goes {s0 : State} {s : State} (req : Requester) (tree : Fin 32) (value : Reg)
    (hk : Keeps s0 s) : Goes s0 (execTreeForcedSwitch req tree value s) := by
  unfold execTreeForcedSwitch
  simp (maxDischargeDepth := 40) (contextual := true) [*]

@[simp ↓] theorem execTreeDividerChange_goes {s0 : State} {s : State} (req : Requester) (tree : Fin 32) (value :
    Reg) (hk : Keeps s0 s) : Goes s0 (execTreeDividerChange req tree value s) := by
  unfold execTreeDividerChange
  simp (maxDischargeDepth := 40) (contextual := true) [*]

@[simp ↓] theorem execSwitchHung_goes {s0 : State} {s : State} (tree : Fin 32) (hk : Keeps s0 s) : Goes s0
    (execSwitchHung tree s) := by
  unfold execSwitchHung
  simp (maxDischargeDepth := 40) [*]

@[simp ↓] theorem State.setPresent_keeps {s0 : State} {s : State} (n : Nat) (src : Nat) (b : Bool) (hk : Keeps s0 s)
    : Keeps s0 (State.setPresent s n src b) := by
  unfold State.setPresent
  simp (maxDischargeDepth := 40) [*]

@[simp ↓] theorem execTreeSourceLost_goes {s0 : State} {s : State} (tree : Fin 32) (source : Fin 4) (hk : Keeps s0
    s) : Goes s0 (execTreeSourceLost tree source s) := by
  unfold execTreeSourceLost
  simp (maxDischargeDepth := 40) [*]

@[simp ↓] theorem execTreeSourceRestored_goes {s0 : State} {s : State} (tree : Fin 32) (source : Fin 4) (hk : Keeps
    s0 s) : Goes s0 (execTreeSourceRestored tree source s) := by
  unfold execTreeSourceRestored
  simp (maxDischargeDepth := 40) [*]

@[simp ↓] theorem execClkEnWrite_goes {s0 : State} {s : State} (req : Requester) (second : Bool) (value : Reg) (hk :
    Keeps s0 s) : Goes s0 (execClkEnWrite req second value s) := by
  unfold execClkEnWrite
  simp (maxDischargeDepth := 40) (contextual := true) [*]

@[simp ↓] theorem execClkGrpWrite_goes {s0 : State} {s : State} (req : Requester) (value : Reg) (hk : Keeps s0 s) :
    Goes s0 (execClkGrpWrite req value s) := by
  unfold execClkGrpWrite
  simp (maxDischargeDepth := 40) (contextual := true) [*]

end Sys2Proof.Machine
end

