-- ==== Sys2Proof/Laws/KeepsRegRows.lean ====
section
/-! SUPPORT.  Each operation of RegRows.lean gives a later state (Keeps). -/

set_option linter.unreachableTactic false
set_option linter.unusedTactic false

namespace Sys2Proof.Machine

open Sys2Proof

@[simp ↓] theorem nextOr_keeps {s0 s : State} {o : Host.Outcome State Fault Refusal} (ho : Goes s0 o) :
    Keeps s0 (nextOr s o) := by
  obtain ⟨t, rfl, h⟩ := ho
  exact h

@[simp ↓] theorem State.writeRate_keeps {s0 : State} {s : State} (p : Nat) (v : Reg) (hk : Keeps s0 s) : Keeps s0
    (State.writeRate s p v) := by
  unfold State.writeRate
  repeat' first
    | (simp (maxDischargeDepth := 40) (contextual := true) [*]; done)
    | split
    | (with_reducible refine keeps_foldl ?_ (fun t a ht => ?_) _)
    | dsimp only

@[simp ↓] theorem State.writeXlOwner_keeps {s0 : State} {s : State} (x : Nat) (v : Reg) (hk : Keeps s0 s) : Keeps s0
    (State.writeXlOwner s x v) := by
  unfold State.writeXlOwner
  simp (maxDischargeDepth := 40) [*]

@[simp ↓] theorem State.writeGpioBits_keeps {s0 : State} {s : State} (k : Nat) (v : Reg) (hk : Keeps s0 s) : Keeps
    s0 (State.writeGpioBits s k v) := by
  unfold State.writeGpioBits
  simp (maxDischargeDepth := 40) [*]

@[simp ↓] theorem State.writeRoute_keeps {s0 : State} {s : State} (req : Requester) (k : Nat) (v : Reg) (hk : Keeps
    s0 s) : Keeps s0 (State.writeRoute s req k v) := by
  unfold State.writeRoute
  repeat' first
    | (simp (maxDischargeDepth := 40) (contextual := true) [*]; done)
    | split
    | (with_reducible refine keeps_foldl ?_ (fun t a ht => ?_) _)
    | dsimp only

@[simp ↓] theorem State.writeQueCount_keeps {s0 : State} {s : State} (q : Nat) (v : Reg) (hk : Keeps s0 s) : Keeps
    s0 (State.writeQueCount s q v) := by
  unfold State.writeQueCount
  split
  · exact keeps_ite (State.setQueue_keeps _ _ hk) hk
  · exact hk

@[simp ↓] theorem State.writeReg_keeps {s0 : State} {s : State} (req : Requester) (k : Nat) (v : Reg) (hk : Keeps s0
    s) : Keeps s0 (State.writeReg s req k v) := by
  unfold State.writeReg
  simp (maxDischargeDepth := 40) [*]

@[simp ↓] theorem State.writeRingCfg_keeps {s0 : State} {s : State} (n : Nat) (v : Reg) (hk : Keeps s0 s) : Keeps s0
    (State.writeRingCfg s n v) := by
  unfold State.writeRingCfg
  simp (maxDischargeDepth := 40) [*]

@[simp ↓] theorem State.writeResetReq_keeps {s0 : State} {s : State} (req : Requester) (v : Reg) (hk : Keeps s0 s) :
    Keeps s0 (State.writeResetReq s req v) := by
  unfold State.writeResetReq
  repeat' first
    | (simp (maxDischargeDepth := 40) (contextual := true) [*]; done)
    | split
    | (with_reducible refine keeps_foldl ?_ (fun t a ht => ?_) _)
    | dsimp only

theorem opt_none {s0 : State} : ∀ t, (none : Option State) = some t → Keeps s0 t := fun _ h => nomatch h

theorem opt_some {s0 s : State} (hk : Keeps s0 s) : ∀ t, some s = some t → Keeps s0 t :=
  fun _ h => Option.some.inj h ▸ hk

theorem opt_ite {s0 : State} {c : Prop} [Decidable c] {x y : Option State} (h1 : ∀ t, x = some t → Keeps s0 t)
    (h2 : ∀ t, y = some t → Keeps s0 t) : ∀ t, (if c then x else y) = some t → Keeps s0 t := by
  split <;> assumption

theorem State.ownClk_keeps {s0 s : State} (req : Requester) (k : Nat) (v : Reg) (hk : Keeps s0 s) :
    ∀ t, State.ownClk s req k v = some t → Keeps s0 t := by
  unfold State.ownClk
  repeat' first
    | exact opt_none
    | with_reducible refine opt_ite ?_ ?_
    | refine opt_some ?_
  all_goals simp (maxDischargeDepth := 40) [hk]

theorem State.ownRow_keeps {s0 s : State} (req : Requester) (k : Nat) (v : Reg) (hk : Keeps s0 s) :
    ∀ t, State.ownRow s req k v = some t → Keeps s0 t := by
  unfold State.ownRow
  repeat' first
    | exact opt_none
    | exact State.ownClk_keeps _ _ _ hk
    | with_reducible refine opt_ite ?_ ?_
    | refine opt_some ?_
  all_goals simp (maxDischargeDepth := 40) (contextual := true) [hk]

@[simp ↓] theorem State.writeAny_keeps {s0 : State} {s : State} (req : Requester) (k : Nat) (v : Reg) (hk : Keeps s0
    s) : Keeps s0 (State.writeAny s req k v) := by
  unfold State.writeAny
  refine keeps_ite hk (keeps_ite ?_ (keeps_ite ?_ ?_))
  · split <;> simp (maxDischargeDepth := 40) [hk]
  · simp (maxDischargeDepth := 40) [hk]
  · split
    · rename_i h
      exact State.ownRow_keeps _ _ _ hk _ h
    · simp (maxDischargeDepth := 40) (contextual := true) [hk]

@[simp ↓] theorem execRegisterWrite_goes {s0 : State} {s : State} (req : Requester) (offset : BitVec 32) (value :
    Reg) (hk : Keeps s0 s) : Goes s0 (execRegisterWrite req offset value s) := by
  unfold execRegisterWrite
  simp (maxDischargeDepth := 40) [*]

@[simp ↓] theorem execCounterClear_goes {s0 : State} {s : State} (req : Requester) (offset : BitVec 32) (hk : Keeps
    s0 s) : Goes s0 (execCounterClear req offset s) := by
  unfold execCounterClear
  simp (maxDischargeDepth := 40) (contextual := true) [*]

@[simp ↓] theorem State.readAnswer_keeps {s0 : State} {s : State} (req : Requester) (k : Nat) (hk : Keeps s0 s) :
    Keeps s0 (State.readAnswer s req k) := by
  unfold State.readAnswer
  refine State.regAccess_keeps _ _ _ _ _ hk (fun t ht => ?_)
  have h := State.readReg_keeps req (decide (req = .debug) && !t.flag DBG_ACCESS_SIDE) k ht
  generalize e : t.readReg req (decide (req = .debug) && !t.flag DBG_ACCESS_SIDE) k = y at h
  obtain ⟨v, u⟩ := y
  simp only [e]
  exact State.emit_keeps _ h

@[simp ↓] theorem execRcRead_goes {s0 : State} {s : State} (req : Requester) (offset : BitVec 32) (hk : Keeps s0 s)
    : Goes s0 (execRcRead req offset s) := by
  unfold execRcRead
  simp (maxDischargeDepth := 40) [*]

@[simp ↓] theorem execLowWordRead_goes {s0 : State} {s : State} (req : Requester) (offset : BitVec 32) (hk : Keeps
    s0 s) : Goes s0 (execLowWordRead req offset s) := by
  unfold execLowWordRead
  simp (maxDischargeDepth := 40) [*]

@[simp ↓] theorem State.hostHalf_keeps {s0 : State} {s : State} (k : Nat) (write : Bool) (v : Reg) (hk : Keeps s0 s)
    : Keeps s0 (State.hostHalf s k write v).2 := by
  unfold State.hostHalf
  simp (maxDischargeDepth := 40) [*]

@[simp ↓] theorem State.hostBadAccess_keeps {s0 : State} {s : State} (k : Nat) (n : Nat) (write : Bool) (data :
    Word) (hk : Keeps s0 s) : Keeps s0 (State.hostBadAccess s k n write data) := by
  unfold State.hostBadAccess
  simp (maxDischargeDepth := 40) [*]

@[simp ↓] theorem execBadAccess_goes {s0 : State} {s : State} (req : Requester) (offset : BitVec 32) (size : Byte)
    (write : Bool) (data : Word) (hk : Keeps s0 s) : Goes s0 (execBadAccess req offset size write data s) := by
  unfold execBadAccess
  repeat' first
    | (simp (maxDischargeDepth := 40) (contextual := true) [*]; done)
    | split
    | (with_reducible refine keeps_foldl ?_ (fun t a ht => ?_) _)
    | dsimp only

@[simp ↓] theorem execGatedAccess_goes {s0 : State} {s : State} (req : Requester) (offset : BitVec 32) (size : Byte)
    (write : Bool) (hk : Keeps s0 s) : Goes s0 (execGatedAccess req offset size write s) := by
  unfold execGatedAccess
  simp (maxDischargeDepth := 40) [*]

end Sys2Proof.Machine
end

