-- ==== Sys2Proof/Laws/KeepsCores.lean ====
section
/-! SUPPORT.  Each operation of Cores.lean gives a later state (Keeps). -/

set_option linter.unreachableTactic false
set_option linter.unusedTactic false

namespace Sys2Proof.Machine

open Sys2Proof

@[simp ↓] theorem State.loadRegs_keeps {s0 : State} {s : State} (n : Nat) (r : CoreRegs) (hk : Keeps s0 s) : Keeps
    s0 (State.loadRegs s n r) := by
  unfold State.loadRegs
  simp (maxDischargeDepth := 40) [*]

@[simp ↓] theorem State.freeRegs_keeps {s0 : State} {s : State}  (hk : Keeps s0 s) : Keeps s0 (State.freeRegs s).1 := by
  unfold State.freeRegs
  repeat' first
    | (intro x; have hx : Keeps s0 x; on_goal 2 => clear_value x; on_goal 1 => subst x)
    | (intro x; subst x)
    | (simp (maxDischargeDepth := 40) (contextual := true) [*]; done)
    | (rename_i e; simp only [Prod.ext_iff] at e; obtain ⟨e1, e2⟩ := e; (try subst e1); (try subst e2))
    | split
    | (with_reducible refine keeps_foldl ?_ (fun t a ht => ?_) _)
    | (with_reducible refine keeps_mk ?_ ?_ ?_ ?_ ?_ ?_ ?_ ?_ ?_ ?_ ?_)

@[simp ↓] theorem State.wipeCore_keeps {s0 : State} {s : State} (n : Nat) (hk : Keeps s0 s) : Keeps s0
    (State.wipeCore s n) := by
  unfold State.wipeCore
  simp (maxDischargeDepth := 40) (contextual := true) [*]

@[simp ↓] theorem State.pairFault_keeps {s0 : State} {s : State} (n : Nat) (cause : Nat) (hk : Keeps s0 s) : Keeps
    s0 (State.pairFault s n cause) := by
  unfold State.pairFault
  simp (maxDischargeDepth := 40) [*]

@[simp ↓] theorem execCoreWatchdog_goes {s0 : State} {s : State} (core : CoreId) (hk : Keeps s0 s) : Goes s0
    (execCoreWatchdog core s) := by
  unfold execCoreWatchdog
  simp (maxDischargeDepth := 40) [*]

@[simp ↓] theorem execCoreFault_goes {s0 : State} {s : State} (core : CoreId) (sram : Bool) (hk : Keeps s0 s) : Goes
    s0 (execCoreFault core sram s) := by
  unfold execCoreFault
  simp (maxDischargeDepth := 40) [*]

@[simp ↓] theorem execProgramLoad_goes {s0 : State} {s : State} (core : Fin 4) (code : List Byte) (pass : Bool) (hk
    : Keeps s0 s) : Goes s0 (execProgramLoad core code pass s) := by
  unfold execProgramLoad
  repeat' first
    | (simp (maxDischargeDepth := 40) (contextual := true) [*]; done)
    | split
    | (with_reducible refine keeps_foldl ?_ (fun t a ht => ?_) _)
    | dsimp only

@[simp ↓] theorem State.kick_keeps {s0 : State} {s : State} (n : Nat) (hk : Keeps s0 s) : Keeps s0 (State.kick s n) := by
  unfold State.kick
  simp (maxDischargeDepth := 40) [*]

@[simp ↓] theorem State.ack_keeps {s0 : State} {s : State} (n : Nat) (v : Word) (hk : Keeps s0 s) : Keeps s0
    (State.ack s n v) := by
  unfold State.ack
  simp (maxDischargeDepth := 40) [*]

@[simp ↓] theorem State.doorbell_keeps {s0 : State} {s : State} (v : Word) (hk : Keeps s0 s) : Keeps s0
    (State.doorbell s v) := by
  unfold State.doorbell
  simp (maxDischargeDepth := 40) [*]

@[simp ↓] theorem execKwdkickWrite_goes {s0 : State} {s : State} (core : CoreId) (hk : Keeps s0 s) : Goes s0
    (execKwdkickWrite core s) := by
  unfold execKwdkickWrite
  simp (maxDischargeDepth := 40) [*]

@[simp ↓] theorem execKackWrite_goes {s0 : State} {s : State} (core : CoreId) (value : Word) (hk : Keeps s0 s) :
    Goes s0 (execKackWrite core value s) := by
  unfold execKackWrite
  simp (maxDischargeDepth := 40) [*]

@[simp ↓] theorem execKdoorbellWrite_goes {s0 : State} {s : State} (core : CoreId) (value : Word) (hk : Keeps s0 s)
    : Goes s0 (execKdoorbellWrite core value s) := by
  unfold execKdoorbellWrite
  simp (maxDischargeDepth := 40) [*]

@[simp ↓] theorem State.setLockCsr_keeps {s0 : State} {s : State} (n : Nat) (held : Bool) (broken : Bool) (hk :
    Keeps s0 s) : Keeps s0 (State.setLockCsr s n held broken) := by
  unfold State.setLockCsr
  simp (maxDischargeDepth := 40) (contextual := true) [*]

@[simp ↓] theorem execPbusLockTake_goes {s0 : State} {s : State} (core : CoreId) (hk : Keeps s0 s) : Goes s0
    (execPbusLockTake core s) := by
  unfold execPbusLockTake
  repeat' first
    | (simp (maxDischargeDepth := 40) (contextual := true) [*]; done)
    | split
    | (with_reducible refine keeps_foldl ?_ (fun t a ht => ?_) _)
    | dsimp only

@[simp ↓] theorem State.freeLock_keeps {s0 : State} {s : State} (n : Nat) (broken : Bool) (hk : Keeps s0 s) : Keeps
    s0 (State.freeLock s n broken) := by
  unfold State.freeLock
  simp (maxDischargeDepth := 40) [*]

@[simp ↓] theorem State.deferredHalts_keeps {s0 : State} {s : State} (n : Nat) (regs : CoreRegs) (hk : Keeps s0 s) :
    Keeps s0 (State.deferredHalts s n regs) := by
  unfold State.deferredHalts
  simp (maxDischargeDepth := 40) (contextual := true) [*]

@[simp ↓] theorem execPbusLockRelease_goes {s0 : State} {s : State} (core : CoreId) (reserved : Bool) (regs :
    CoreRegs) (hk : Keeps s0 s) : Goes s0 (execPbusLockRelease core reserved regs s) := by
  unfold execPbusLockRelease
  simp (maxDischargeDepth := 40) (contextual := true) [*]

@[simp ↓] theorem execPbusLockExpiry_goes {s0 : State} {s : State}  (hk : Keeps s0 s) : Goes s0 (execPbusLockExpiry
    s) := by
  unfold execPbusLockExpiry
  repeat' first
    | (simp (maxDischargeDepth := 40) (contextual := true) [*]; done)
    | split
    | (with_reducible refine keeps_foldl ?_ (fun t a ht => ?_) _)
    | dsimp only

@[simp ↓] theorem execBusTimeout_goes {s0 : State} {s : State} (core : CoreId) (hk : Keeps s0 s) : Goes s0
    (execBusTimeout core s) := by
  unfold execBusTimeout
  repeat' first
    | (simp (maxDischargeDepth := 40) (contextual := true) [*]; done)
    | split
    | (with_reducible refine keeps_foldl ?_ (fun t a ht => ?_) _)
    | dsimp only

end Sys2Proof.Machine
end

