-- ==== Sys2Proof/Laws/KeepsDebugOps.lean ====
section
/-! SUPPORT.  Each operation of DebugOps.lean gives a later state (Keeps). -/

set_option linter.unreachableTactic false
set_option linter.unusedTactic false

namespace Sys2Proof.Machine

open Sys2Proof

@[simp ↓] theorem State.openDebug_keeps {s0 : State} {s : State} (level : Nat) (method : Nat) (hk : Keeps s0 s) :
    Keeps s0 (State.openDebug s level method) := by
  unfold State.openDebug
  simp (maxDischargeDepth := 40) (contextual := true) [*]

@[simp ↓] theorem State.resumeCore_keeps {s0 : State} {s : State} (n : Nat) (hk : Keeps s0 s) : Keeps s0
    (State.resumeCore s n) := by
  unfold State.resumeCore
  simp (maxDischargeDepth := 40) [*]

@[simp ↓] theorem State.closeDebug_keeps {s0 : State} {s : State} (cause : Nat) (hk : Keeps s0 s) : Keeps s0
    (State.closeDebug s cause) := by
  unfold State.closeDebug
  simp (maxDischargeDepth := 40) (contextual := true) [*]

@[simp ↓] theorem State.authEnds_keeps {s0 : State} {s : State} (method : Nat) (level : Nat) (status : Nat) (hk :
    Keeps s0 s) : Keeps s0 (State.authEnds s method level status) := by
  unfold State.authEnds
  simp (maxDischargeDepth := 40) [*]

@[simp ↓] theorem State.authPasses_keeps {s0 : State} {s : State} (method : Nat) (level : Nat) (hk : Keeps s0 s) :
    Keeps s0 (State.authPasses s method level) := by
  unfold State.authPasses
  simp (maxDischargeDepth := 40) [*]

@[simp ↓] theorem State.authChallenge_keeps {s0 : State} {s : State}  (hk : Keeps s0 s) : Keeps s0
    (State.authChallenge s) := by
  unfold State.authChallenge
  simp (maxDischargeDepth := 40) (contextual := true) [*]

@[simp ↓] theorem State.authPassword_keeps {s0 : State} {s : State} (v : Reg) (hk : Keeps s0 s) : Keeps s0
    (State.authPassword s v) := by
  unfold State.authPassword
  simp (maxDischargeDepth := 40) [*]

@[simp ↓] theorem State.authKey_keeps {s0 : State} {s : State} (v : Reg) (r : KeyResp) (hk : Keeps s0 s) : Keeps s0
    (State.authKey s v r) := by
  unfold State.authKey
  repeat' first
    | (simp (maxDischargeDepth := 40) (contextual := true) [*]; done)
    | split
    | (with_reducible refine keeps_foldl ?_ (fun t a ht => ?_) _)
    | dsimp only

@[simp ↓] theorem State.authClose_keeps {s0 : State} {s : State}  (hk : Keeps s0 s) : Keeps s0 (State.authClose s) := by
  unfold State.authClose
  simp (maxDischargeDepth := 40) [*]

@[simp ↓] theorem State.authNone_keeps {s0 : State} {s : State} (v : Reg) (hk : Keeps s0 s) : Keeps s0
    (State.authNone s v) := by
  unfold State.authNone
  simp (maxDischargeDepth := 40) [*]

@[simp ↓] theorem State.askHalt_keeps {s0 : State} {s : State} (n : Nat) (cause : Nat) (reserved : Bool) (regs :
    CoreRegs) (hk : Keeps s0 s) : Keeps s0 (State.askHalt s n cause reserved regs) := by
  unfold State.askHalt
  simp (maxDischargeDepth := 40) [*]

@[simp ↓] theorem State.stepCore_keeps {s0 : State} {s : State} (n : Nat) (regs : CoreRegs) (hk : Keeps s0 s) :
    Keeps s0 (State.stepCore s n regs) := by
  unfold State.stepCore
  simp (maxDischargeDepth := 40) [*]

@[simp ↓] theorem State.writeCoreCtl_keeps {s0 : State} {s : State} (n : Nat) (v : Reg) (hk : Keeps s0 s) : Keeps s0
    (State.writeCoreCtl s n v) := by
  unfold State.writeCoreCtl
  simp (maxDischargeDepth := 40) [*]

@[simp ↓] theorem State.setCoreReg_keeps {s0 : State} {s : State} (n : Nat) (r : Nat) (w : Word) (hk : Keeps s0 s) :
    Keeps s0 (State.setCoreReg s n r w) := by
  unfold State.setCoreReg
  simp (maxDischargeDepth := 40) [*]

@[simp ↓] theorem State.dbgQueRead_keeps {s0 : State} {s : State} (k : Nat) (size : Nat) (ecc : Ecc) (hk : Keeps s0
    s) : Keeps s0 (State.dbgQueRead s k size ecc).st := by
  unfold State.dbgQueRead
  repeat' first
    | (intro x; have hx : Keeps s0 x; on_goal 2 => clear_value x; on_goal 1 => subst x)
    | (intro x; subst x)
    | (simp (maxDischargeDepth := 40) (contextual := true) [*]; done)
    | (rename_i e; simp only [Prod.ext_iff] at e; obtain ⟨e1, e2⟩ := e; (try subst e1); (try subst e2))
    | split
    | (with_reducible refine keeps_foldl ?_ (fun t a ht => ?_) _)
    | (with_reducible refine keeps_mk ?_ ?_ ?_ ?_ ?_ ?_ ?_ ?_ ?_ ?_ ?_)

@[simp ↓] theorem State.dbgRegRead_keeps {s0 : State} {s : State} (k : Nat) (size : Nat) (ecc : Ecc) (hk : Keeps s0
    s) : Keeps s0 (State.dbgRegRead s k size ecc).st := by
  unfold State.dbgRegRead
  repeat' first
    | (simp (maxDischargeDepth := 40) (contextual := true) [*]; done)
    | split
    | (with_reducible refine keeps_foldl ?_ (fun t a ht => ?_) _)
    | dsimp only

@[simp ↓] theorem State.dbgRead_keeps {s0 : State} {s : State} (a : Nat) (size : Nat) (ecc : Ecc) (hk : Keeps s0 s)
    : Keeps s0 (State.dbgRead s a size ecc).st := by
  unfold State.dbgRead
  repeat' first
    | (intro x; have hx : Keeps s0 x; on_goal 2 => clear_value x; on_goal 1 => subst x)
    | (intro x; subst x)
    | (lift_lets; intro x; have hx : Keeps s0 x; on_goal 2 => clear_value x; on_goal 1 => subst x)
    | (lift_lets; intro x; subst x)
    | (simp (maxDischargeDepth := 40) (contextual := true) [*]; done)
    | (rename_i e; simp only [Prod.ext_iff] at e; obtain ⟨e1, e2⟩ := e; (try subst e1); (try subst e2))
    | split
    | (with_reducible refine keeps_foldl ?_ (fun t a ht => ?_) _)
    | (with_reducible refine keeps_mk ?_ ?_ ?_ ?_ ?_ ?_ ?_ ?_ ?_ ?_ ?_)
    | intro _
    | dsimp only

@[simp ↓] theorem State.dbgRegWrite_keeps {s0 : State} {s : State} (k : Nat) (size : Nat) (w : Word) (hk : Keeps s0
    s) : Keeps s0 (State.dbgRegWrite s k size w).st := by
  unfold State.dbgRegWrite
  repeat' first
    | (simp (maxDischargeDepth := 40) (contextual := true) [*]; done)
    | split
    | (with_reducible refine keeps_foldl ?_ (fun t a ht => ?_) _)
    | dsimp only

@[simp ↓] theorem State.dbgWrite_keeps {s0 : State} {s : State} (a : Nat) (size : Nat) (w : Word) (hk : Keeps s0 s)
    : Keeps s0 (State.dbgWrite s a size w).st := by
  unfold State.dbgWrite
  repeat' first
    | (simp (maxDischargeDepth := 40) (contextual := true) [*]; done)
    | split
    | (with_reducible refine keeps_foldl ?_ (fun t a ht => ?_) _)
    | dsimp only

@[simp ↓] theorem DbgRes.done_keeps {s0 : State} {r : DbgRes} (h : Keeps s0 r.st) : Keeps s0 r.done := by
  unfold DbgRes.done
  split <;> simp (maxDischargeDepth := 40) [h]

@[simp ↓] theorem State.dbgAccess_keeps {s0 : State} {s : State} (v : Reg) (ecc : Ecc) (hk : Keeps s0 s) : Keeps s0
    (State.dbgAccess s v ecc) := by
  unfold State.dbgAccess
  repeat' first
    | (simp (maxDischargeDepth := 40) (contextual := true) [*]; done)
    | split
    | (with_reducible refine keeps_foldl ?_ (fun t a ht => ?_) _)
    | dsimp only

@[simp ↓] theorem State.viaTap_keeps {s0 : State} {s : State} (k : Nat) (body : State → State × Reg × Bool) (hk :
    Keeps s0 s) (kbody : ∀ a : State, Keeps s0 a → Keeps s0 (body a).1) : Keeps s0 (State.viaTap s k body) := by
  unfold State.viaTap
  refine keeps_ite hk ?_
  lift_lets
  intro d t
  have h : Keeps s0 t := by simp [t, hk]
  clear_value t
  refine keeps_ite (State.emit_keeps _ (by simp [h])) ?_
  have k := kbody t h
  generalize body t = y at k
  obtain ⟨u, v, e⟩ := y
  simp [k]

@[simp ↓] theorem State.dbgDataWrite_keeps {s0 : State} {s : State} (v : Reg) (hk : Keeps s0 s) : Keeps s0
    (State.dbgDataWrite s v).1 := by
  unfold State.dbgDataWrite
  simp (maxDischargeDepth := 40) [*]

@[simp ↓] theorem State.writeComparator_keeps {s0 : State} {s : State} (k : Nat) (v : Reg) (hk : Keeps s0 s) : Keeps
    s0 (State.writeComparator s k v).1 := by
  unfold State.writeComparator
  simp (maxDischargeDepth := 40) [*]

@[simp ↓] theorem State.dbgRegDo_keeps {s0 : State} {s : State} (k : Nat) (v : Reg) (hk : Keeps s0 s) : Keeps s0
    (State.dbgRegDo s k v).1 := by
  unfold State.dbgRegDo
  repeat' (with_reducible refine keeps_ite_fst ?_ ?_)
  all_goals try dsimp only
  · split
    · exact State.authChallenge_keeps hk
    · exact State.authPassword_keeps _ hk
    · exact State.authClose_keeps hk
    · exact State.authNone_keeps _ hk
    · exact hk
  · exact State.dbgAccess_keeps _ _ hk
  · exact State.wr_keeps _ _ hk
  · exact hk
  · exact State.dbgDataWrite_keeps _ hk
  · exact State.writeCoreCtl_keeps _ _ (State.plainWrite_keeps _ _ hk)
  · exact State.writeComparator_keeps _ _ hk
  · exact State.wr_keeps _ _ hk
  · exact State.plainWrite_keeps _ _ hk

end Sys2Proof.Machine
end

