-- ==== Sys2Proof/Laws/KeepsDebug.lean ====
section
/-! SUPPORT.  Each operation of Debug.lean gives a later state (Keeps). -/

set_option linter.unreachableTactic false
set_option linter.unusedTactic false

namespace Sys2Proof.Machine

open Sys2Proof

@[simp ↓] theorem State.loadIr_keeps {s0 : State} {s : State} (code : BitVec 6) (hk : Keeps s0 s) : Keeps s0
    (State.loadIr s code) := by
  unfold State.loadIr
  simp (maxDischargeDepth := 40) [*]

@[simp ↓] theorem execExtest_goes {s0 : State} {s : State}  (hk : Keeps s0 s) : Goes s0 (execExtest s) := by
  unfold execExtest
  simp (maxDischargeDepth := 40) [*]

@[simp ↓] theorem execIdcode_goes {s0 : State} {s : State}  (hk : Keeps s0 s) : Goes s0 (execIdcode s) := by
  unfold execIdcode
  simp (maxDischargeDepth := 40) [*]

@[simp ↓] theorem execSamplePreload_goes {s0 : State} {s : State}  (hk : Keeps s0 s) : Goes s0 (execSamplePreload s) := by
  unfold execSamplePreload
  simp (maxDischargeDepth := 40) [*]

@[simp ↓] theorem execClamp_goes {s0 : State} {s : State}  (hk : Keeps s0 s) : Goes s0 (execClamp s) := by
  unfold execClamp
  simp (maxDischargeDepth := 40) [*]

@[simp ↓] theorem execHighz_goes {s0 : State} {s : State}  (hk : Keeps s0 s) : Goes s0 (execHighz s) := by
  unfold execHighz
  simp (maxDischargeDepth := 40) [*]

@[simp ↓] theorem execBypass_goes {s0 : State} {s : State}  (hk : Keeps s0 s) : Goes s0 (execBypass s) := by
  unfold execBypass
  simp (maxDischargeDepth := 40) [*]

@[simp ↓] theorem execTapReset_goes {s0 : State} {s : State}  (hk : Keeps s0 s) : Goes s0 (execTapReset s) := by
  unfold execTapReset
  simp (maxDischargeDepth := 40) [*]

@[simp ↓] theorem execDbgReg_goes {s0 : State} {s : State} (request : BitVec 48) (hk : Keeps s0 s) : Goes s0
    (execDbgReg request s) := by
  unfold execDbgReg
  simp (maxDischargeDepth := 40) (contextual := true) [*]

@[simp ↓] theorem State.authRow_keeps {s0 : State} {s : State} (op : Nat) (v : Reg) (act : State → State) (hk :
    Keeps s0 s) (kact : ∀ (a0 : State), Keeps s0 a0 → Keeps s0 (act a0)) : Keeps s0 (State.authRow s op v act) := by
  unfold State.authRow
  simp (maxDischargeDepth := 40) (contextual := true) [*]

@[simp ↓] theorem execDbgAuthChallenge_goes {s0 : State} {s : State} (value : Reg) (hk : Keeps s0 s) : Goes s0
    (execDbgAuthChallenge value s) := by
  unfold execDbgAuthChallenge
  simp (maxDischargeDepth := 40) (contextual := true) [*]

@[simp ↓] theorem execDbgAuthPassword_goes {s0 : State} {s : State} (value : Reg) (hk : Keeps s0 s) : Goes s0
    (execDbgAuthPassword value s) := by
  unfold execDbgAuthPassword
  simp (maxDischargeDepth := 40) (contextual := true) [*]

@[simp ↓] theorem execDbgAuthKey_goes {s0 : State} {s : State} (value : Reg) (resp : KeyResp) (hk : Keeps s0 s) :
    Goes s0 (execDbgAuthKey value resp s) := by
  unfold execDbgAuthKey
  simp (maxDischargeDepth := 40) (contextual := true) [*]

@[simp ↓] theorem execDbgAuthClose_goes {s0 : State} {s : State} (value : Reg) (hk : Keeps s0 s) : Goes s0
    (execDbgAuthClose value s) := by
  unfold execDbgAuthClose
  simp (maxDischargeDepth := 40) (contextual := true) [*]

@[simp ↓] theorem execDbgAuthNoCredential_goes {s0 : State} {s : State} (value : Reg) (hk : Keeps s0 s) : Goes s0
    (execDbgAuthNoCredential value s) := by
  unfold execDbgAuthNoCredential
  simp (maxDischargeDepth := 40) (contextual := true) [*]

@[simp ↓] theorem execSecretsErased_goes {s0 : State} {s : State} (us : BitVec 32) (hk : Keeps s0 s) : Goes s0
    (execSecretsErased us s) := by
  unfold execSecretsErased
  repeat' first
    | (simp (maxDischargeDepth := 40) (contextual := true) [*]; done)
    | split
    | (with_reducible refine keeps_foldl ?_ (fun t a ht => ?_) _)
    | dsimp only

@[simp ↓] theorem execDebugIdleClose_goes {s0 : State} {s : State}  (hk : Keeps s0 s) : Goes s0 (execDebugIdleClose
    s) := by
  unfold execDebugIdleClose
  simp (maxDischargeDepth := 40) [*]

@[simp ↓] theorem execDbgAccessRead_goes {s0 : State} {s : State} (value : Reg) (ecc : Ecc) (hk : Keeps s0 s) : Goes
    s0 (execDbgAccessRead value ecc s) := by
  unfold execDbgAccessRead
  simp (maxDischargeDepth := 40) (contextual := true) [*]

@[simp ↓] theorem execDbgAccessWrite_goes {s0 : State} {s : State} (value : Reg) (hk : Keeps s0 s) : Goes s0
    (execDbgAccessWrite value s) := by
  unfold execDbgAccessWrite
  simp (maxDischargeDepth := 40) (contextual := true) [*]

@[simp ↓] theorem execDbgCoreHalt_goes {s0 : State} {s : State} (core : CoreId) (reserved : Bool) (regs : CoreRegs)
    (hk : Keeps s0 s) : Goes s0 (execDbgCoreHalt core reserved regs s) := by
  unfold execDbgCoreHalt
  simp (maxDischargeDepth := 40) (contextual := true) [*]

@[simp ↓] theorem execDbgCoreResume_goes {s0 : State} {s : State} (core : CoreId) (hk : Keeps s0 s) : Goes s0
    (execDbgCoreResume core s) := by
  unfold execDbgCoreResume
  simp (maxDischargeDepth := 40) (contextual := true) [*]

@[simp ↓] theorem execDbgCoreStep_goes {s0 : State} {s : State} (core : CoreId) (regs : CoreRegs) (hk : Keeps s0 s)
    : Goes s0 (execDbgCoreStep core regs s) := by
  unfold execDbgCoreStep
  simp (maxDischargeDepth := 40) (contextual := true) [*]

@[simp ↓] theorem execHaltDeferredExpiry_goes {s0 : State} {s : State} (core : CoreId) (regs : CoreRegs) (hk : Keeps
    s0 s) : Goes s0 (execHaltDeferredExpiry core regs s) := by
  unfold execHaltDeferredExpiry
  simp (maxDischargeDepth := 40) [*]

@[simp ↓] theorem execDbgRegDataWrite_goes {s0 : State} {s : State} (value : Reg) (hk : Keeps s0 s) : Goes s0
    (execDbgRegDataWrite value s) := by
  unfold execDbgRegDataWrite
  simp (maxDischargeDepth := 40) (contextual := true) [*]

@[simp ↓] theorem execCmpHit_goes {s0 : State} {s : State} (core : CoreId) (comparator : Fin 8) (addr : Word)
    (reserved : Bool) (regs : CoreRegs) (hk : Keeps s0 s) : Goes s0 (execCmpHit core comparator addr reserved regs
    s) := by
  unfold execCmpHit
  repeat' first
    | (simp (maxDischargeDepth := 40) (contextual := true) [*]; done)
    | split
    | (with_reducible refine keeps_foldl ?_ (fun t a ht => ?_) _)
    | dsimp only

end Sys2Proof.Machine
end

