-- ==== Sys2Proof/Laws/KeepsSessions.lean ====
section
/-! SUPPORT.  Each operation of Sessions.lean gives a later state (Keeps). -/

set_option linter.unreachableTactic false
set_option linter.unusedTactic false

namespace Sys2Proof.Machine

open Sys2Proof

@[simp ↓] theorem State.freshBytes_keeps {s0 : State} {x1 : State} (x0 : Nat) (hk : Keeps s0 x1) : Keeps s0
    (State.freshBytes x0 x1).2 := by
  induction x0 generalizing x1 with
  | zero => exact hk
  | succ n ih => exact ih (State.fresh_keeps hk)

@[simp ↓] theorem State.toHost_keeps {s0 : State} {s : State} (addr : Word) (bytes : List Byte) (hk : Keeps s0 s) :
    Keeps s0 (State.toHost s addr bytes) := by
  unfold State.toHost
  simp (maxDischargeDepth := 40) [*]

@[simp ↓] theorem State.openFails_keeps {s0 : State} {s : State} (method : Nat) (cls : Nat) (status : Nat) (hk :
    Keeps s0 s) : Keeps s0 (State.openFails s method cls status).st := by
  unfold State.openFails
  simp (maxDischargeDepth := 40) [*]

@[simp ↓] theorem State.identityRead_keeps {s0 : State} {s : State} (addr : Word) (length : Nat) (hk : Keeps s0 s) :
    Keeps s0 (State.identityRead s addr length).st := by
  unfold State.identityRead
  simp (maxDischargeDepth := 40) [*]

@[simp ↓] theorem State.openPassword_keeps {s0 : State} {s : State} (cls : Nat) (password : List Byte) (hk : Keeps
    s0 s) : Keeps s0 (State.openPassword s cls password).st := by
  unfold State.openPassword
  simp (maxDischargeDepth := 40) [*]

@[simp ↓] theorem State.openChallenge_keeps {s0 : State} {s : State} (addr : Word) (hk : Keeps s0 s) : Keeps s0
    (State.openChallenge s addr).st := by
  unfold State.openChallenge
  simp (maxDischargeDepth := 40) [*]

@[simp ↓] theorem State.openKey_keeps {s0 : State} {s : State} (cls : Nat) (r : KeyResp) (hk : Keeps s0 s) : Keeps
    s0 (State.openKey s cls r).st := by
  unfold State.openKey
  repeat' first
    | (simp (maxDischargeDepth := 40) (contextual := true) [*]; done)
    | split
    | (with_reducible refine keeps_foldl ?_ (fun t a ht => ?_) _)
    | dsimp only

@[simp ↓] theorem execSessionOpen_goes {s0 : State} {s : State} (h : Hdr) (method : Byte) (cls : Byte) (len : Byte)
    (password : List Byte) (addr : Word) (length : BitVec 32) (resp : KeyResp) (hk : Keeps s0 s) : Goes s0
    (execSessionOpen h method cls len password addr length resp s) := by
  unfold execSessionOpen
  simp (maxDischargeDepth := 40) (contextual := true) [*]

@[simp ↓] theorem execSessionClose_goes {s0 : State} {s : State} (h : Hdr) (tag : BitVec 16) (hk : Keeps s0 s) :
    Goes s0 (execSessionClose h tag s) := by
  unfold execSessionClose
  simp (maxDischargeDepth := 40) (contextual := true) [*]

@[simp ↓] theorem execSessionIdleTimeout_goes {s0 : State} {s : State} (tag : BitVec 16) (hk : Keeps s0 s) : Goes s0
    (execSessionIdleTimeout tag s) := by
  unfold execSessionIdleTimeout
  simp (maxDischargeDepth := 40) [*]

@[simp ↓] theorem execLockoutEnd_goes {s0 : State} {s : State}  (hk : Keeps s0 s) : Goes s0 (execLockoutEnd s) := by
  unfold execLockoutEnd
  simp (maxDischargeDepth := 40) [*]

@[simp ↓] theorem execAttest_goes {s0 : State} {s : State} (h : Hdr) (addr : Word) (nonce : BitVec 256) (hk : Keeps
    s0 s) : Goes s0 (execAttest h addr nonce s) := by
  unfold execAttest
  simp (maxDischargeDepth := 40) (contextual := true) [*]

@[simp ↓] theorem State.drawNonce_keeps {s0 : State} {s : State}  (hk : Keeps s0 s) : Keeps s0 (State.drawNonce s) := by
  unfold State.drawNonce
  simp (maxDischargeDepth := 40) (contextual := true) [*]

@[simp ↓] theorem State.provKeys_keeps {s0 : State} {s : State} (r : ProvRecord) (hk : Keeps s0 s) : Keeps s0
    (State.provKeys s r) := by
  unfold State.provKeys
  simp (maxDischargeDepth := 40) [*]

@[simp ↓] theorem State.provPasswords_keeps {s0 : State} {s : State} (r : ProvRecord) (hk : Keeps s0 s) : Keeps s0
    (State.provPasswords s r) := by
  unfold State.provPasswords
  simp (maxDischargeDepth := 40) [*]

@[simp ↓] theorem State.retire_keeps {s0 : State} {s : State}  (hk : Keeps s0 s) : Keeps s0 (State.retire s) := by
  unfold State.retire
  simp (maxDischargeDepth := 40) [*]

@[simp ↓] theorem State.provApply_keeps {s0 : State} {s : State} (r : ProvRecord) (hk : Keeps s0 s) : Keeps s0
    (State.provApply s r) := by
  unfold State.provApply
  simp (maxDischargeDepth := 40) [*]

@[simp ↓] theorem State.provEnds_keeps {s0 : State} {s : State} (status : Nat) (hk : Keeps s0 s) : Keeps s0
    (State.provEnds s status) := by
  unfold State.provEnds
  simp (maxDischargeDepth := 40) [*]

@[simp ↓] theorem execProvisioningGo_goes {s0 : State} {s : State} (req : Requester) (record : ProvRecord) (hk :
    Keeps s0 s) : Goes s0 (execProvisioningGo req record s) := by
  unfold execProvisioningGo
  simp (maxDischargeDepth := 40) (contextual := true) [*]

end Sys2Proof.Machine
end

