-- ==== Sys2Proof/Laws/Regs.lean ====
section
/-! SUPPORT.  Laws of the register file: what a read of a register or field gives after a write (R8, R33). -/

namespace Sys2Proof.Machine

open Sys2Proof

theorem fldMask_bit (lo w i : Nat) (hi : i < 32) : (fldMask lo w).getLsbD i = decide (lo ≤ i ∧ i < lo + w) := by
  unfold fldMask
  rw [BitVec.getLsbD_shiftLeft]
  simp only [BitVec.getLsbD_ofNat, Nat.testBit_two_pow_sub_one]
  by_cases h1 : i < lo
  · simp [h1]
    try omega
  · have : i - lo < w ↔ i < lo + w := by omega
    have h2 : i - lo < 32 := by omega
    simp [hi, h1, h2, this]; omega

theorem fldPut_bit (v : Reg) (lo w x i : Nat) (hi : i < 32) :
    (fldPut v lo w x).getLsbD i = if lo ≤ i ∧ i < lo + w then x.testBit (i - lo) else v.getLsbD i := by
  unfold fldPut
  rw [BitVec.getLsbD_or, BitVec.getLsbD_and, BitVec.getLsbD_and, BitVec.getLsbD_not, fldMask_bit lo w i hi,
    BitVec.getLsbD_shiftLeft, BitVec.getLsbD_ofNat]
  by_cases h : lo ≤ i ∧ i < lo + w
  · have h1 : ¬ i < lo := by omega
    have h2 : i - lo < 32 := by omega
    simp [h, hi, h1, h2]
  · simp [h, hi]

/-- A field reads the low bits of the value written to it. -/
theorem fldGet_fldPut_self (v : Reg) (lo w x : Nat) (h : lo + w ≤ 32) : fldGet (fldPut v lo w x) lo w = x % 2 ^ w := by
  unfold fldGet
  apply Nat.eq_of_testBit_eq
  intro i
  rw [BitVec.testBit_toNat, BitVec.getLsbD_extractLsb', Nat.testBit_mod_two_pow]
  by_cases hi : i < w
  · rw [fldPut_bit _ _ _ _ _ (by omega)]
    simp [hi]
  · simp [hi]

/-- A write of one field leaves a field apart from it as it is. -/
theorem fldGet_fldPut_apart (v : Reg) (lo w x lo' w' : Nat) (h : lo + w ≤ lo' ∨ lo' + w' ≤ lo) :
    fldGet (fldPut v lo w x) lo' w' = fldGet v lo' w' := by
  unfold fldGet
  congr 1
  apply BitVec.eq_of_getLsbD_eq
  intro i hi
  rw [BitVec.getLsbD_extractLsb', BitVec.getLsbD_extractLsb']
  by_cases h32 : lo' + i < 32
  · rw [fldPut_bit _ _ _ _ _ h32, if_neg (by omega)]
  · rw [BitVec.getLsbD_of_ge _ _ (by omega), BitVec.getLsbD_of_ge _ _ (by omega)]

theorem State.regs_wf {s : State} (h : s.wf = true) : Tab.wf regReset s.regs = true := ((State.wf_iff s).1 h).1

@[simp] theorem State.wr_wf {s : State} (h : s.wf = true) (k : Nat) (v : Reg) : (s.wr k v).wf = true :=
  (State.wr_keeps k v (Keeps.refl s)).wf h

@[simp] theorem State.set_wf {s : State} (h : s.wf = true) (f : Fld) (x : Nat) : (s.set f x).wf = true :=
  (State.set_keeps f x (Keeps.refl s)).wf h

@[simp] theorem State.setFlag_wf {s : State} (h : s.wf = true) (f : Fld) (b : Bool) : (s.setFlag f b).wf = true :=
  (State.setFlag_keeps f b (Keeps.refl s)).wf h

/-- A register reads the value last written to it. -/
theorem State.rd_wr (s : State) (k j : Nat) (v : Reg) :
    (s.wr k v).rd j = if j = k then v else s.rd j :=
  Tab.get_put regReset s.regs k j v

theorem State.rd_wr_self (s : State) (k : Nat) (v : Reg) : (s.wr k v).rd k = v := by
  rw [State.rd_wr s, if_pos rfl]

theorem State.rd_wr_ne (s : State) {k j : Nat} (hj : j ≠ k) (v : Reg) : (s.wr k v).rd j = s.rd j := by
  rw [State.rd_wr s, if_neg hj]

/-- A write of a field leaves every other register as it is. -/
theorem State.rd_set_ne (s : State) {f : Fld} {j : Nat} (hj : j ≠ f.reg) (x : Nat) :
    (s.set f x).rd j = s.rd j := State.rd_wr_ne s hj _

theorem State.get_wr_ne (s : State) {k : Nat} {g : Fld} (hj : g.reg ≠ k) (v : Reg) :
    (s.wr k v).get g = s.get g := by
  unfold State.get
  rw [State.rd_wr_ne s hj]

theorem State.get_set_self (s : State) (f : Fld) (hf : f.lo + f.w ≤ 32) (x : Nat) :
    (s.set f x).get f = x % 2 ^ f.w := by
  unfold State.get State.set
  rw [State.rd_wr_self s, fldGet_fldPut_self _ _ _ _ hf]

/-- Two fields share no bit. -/
def fldsApart (f g : Fld) : Bool := decide (f.reg ≠ g.reg) || decide (f.lo + f.w ≤ g.lo) || decide (g.lo + g.w ≤ f.lo)

theorem State.get_set_apart (s : State) {f g : Fld} (hg : fldsApart f g = true) (x : Nat) :
    (s.set f x).get g = s.get g := by
  unfold State.get State.set
  by_cases hr : g.reg = f.reg
  · rw [hr, State.rd_wr_self s]
    apply fldGet_fldPut_apart
    simp only [fldsApart, hr, Bool.or_eq_true, decide_eq_true_eq] at hg
    rcases hg with (hg | hg) | hg
    · exact absurd rfl hg
    · exact .inl hg
    · exact .inr hg
  · rw [State.rd_wr_ne s hr]

theorem State.flag_setFlag_self (s : State) (f : Fld) (hf : f.lo + f.w ≤ 32) (hw : f.w = 1) (b : Bool) :
    (s.setFlag f b).flag f = b := by
  unfold State.flag State.setFlag
  rw [State.get_set_self s f hf, hw]
  cases b <;> rfl

theorem State.flag_setFlag_apart (s : State) {f g : Fld} (hg : fldsApart f g = true) (b : Bool) :
    (s.setFlag f b).flag g = s.flag g := by
  unfold State.flag State.setFlag
  rw [State.get_set_apart s hg]

theorem State.get_setFlag_apart (s : State) {f g : Fld} (hg : fldsApart f g = true) (b : Bool) :
    (s.setFlag f b).get g = s.get g := State.get_set_apart s hg _

theorem State.flag_set_apart (s : State) {f g : Fld} (hg : fldsApart f g = true) (x : Nat) :
    (s.set f x).flag g = s.flag g := by
  unfold State.flag
  rw [State.get_set_apart s hg]

end Sys2Proof.Machine
end

