-- ==== Sys2Proof/Laws/Books.lean ====
section
/-! SUPPORT.  What raising an event and completing a command leave as it is: everything but the parts of `evParts`
and the registers of `bookKeys`. -/

namespace Sys2Proof.Machine

open Sys2Proof

/-- t differs from s in book-keeping alone. -/
structure Books (s t : State) : Prop where
  keeps : Keeps s t
  regs : ∀ k, k ∉ bookKeys → t.rd k = s.rd k
  time : t.time = s.time
  que : t.que = s.que
  mem : t.mem = s.mem
  col : t.col = s.col
  ctx : t.ctx = s.ctx
  pace : t.pace = s.pace
  bist : t.bist = s.bist
  sec : t.sec = s.sec
  img : t.img = s.img
  pow : t.pow = s.pow
  thm : t.thm = s.thm
  pins : t.pins = s.pins
  tal : t.tal = s.tal
  lane : t.lane = s.lane
  clk : t.clk = s.clk
  dev : t.dev = s.dev
  dbg : t.dbg = s.dbg
  free : t.free = s.free
  mnt_again : t.mnt.again = s.mnt.again
  mnt_wanted : t.mnt.wanted = s.mnt.wanted
  mnt_matMap : t.mnt.matMap = s.mnt.matMap
  mnt_bankMap : t.mnt.bankMap = s.mnt.bankMap
  mnt_retired : t.mnt.retired = s.mnt.retired
  mnt_stopped : t.mnt.stopped = s.mnt.stopped
  mnt_lost : t.mnt.lost = s.mnt.lost
  mnt_fwPhase : t.mnt.fwPhase = s.mnt.fwPhase
  mnt_fwAt : t.mnt.fwAt = s.mnt.fwAt
  mnt_fwCopies : t.mnt.fwCopies = s.mnt.fwCopies
  mnt_fwStaged : t.mnt.fwStaged = s.mnt.fwStaged
  mnt_chains : t.mnt.chains = s.mnt.chains
  core_cores : t.core.cores = s.core.cores
  core_sram : t.core.sram = s.core.sram
  core_lock : t.core.lock = s.core.lock
  core_lockAt : t.core.lockAt = s.core.lockAt
  core_progs : t.core.progs = s.core.progs
  host_cmds : t.host.cmds = s.host.cmds
  host_hbAt : t.host.hbAt = s.host.hbAt
  host_hbRun : t.host.hbRun = s.host.hbRun
  host_absentAt : t.host.absentAt = s.host.absentAt
  host_perst : t.host.perst = s.host.perst
  host_latch : t.host.latch = s.host.latch
  host_window : t.host.window = s.host.window
  host_pf0 : t.host.pf0 = s.host.pf0
  host_pf1 : t.host.pf1 = s.host.pf1
  fb_pages : t.fb.pages = s.fb.pages
  fb_markRef : t.fb.markRef = s.fb.markRef
  fb_wearRaised : t.fb.wearRaised = s.fb.wearRaised

theorem Books.refl (s : State) : Books s s := by
  constructor <;> first | exact Keeps.refl s | (intros; rfl)

theorem Books.trans {s t u : State} (h : Books s t) (k : Books t u) : Books s u := by
  constructor
  · exact h.keeps.trans k.keeps
  · exact fun j hj => (k.regs j hj).trans (h.regs j hj)
  · exact k.time.trans h.time
  · exact k.que.trans h.que
  · exact k.mem.trans h.mem
  · exact k.col.trans h.col
  · exact k.ctx.trans h.ctx
  · exact k.pace.trans h.pace
  · exact k.bist.trans h.bist
  · exact k.sec.trans h.sec
  · exact k.img.trans h.img
  · exact k.pow.trans h.pow
  · exact k.thm.trans h.thm
  · exact k.pins.trans h.pins
  · exact k.tal.trans h.tal
  · exact k.lane.trans h.lane
  · exact k.clk.trans h.clk
  · exact k.dev.trans h.dev
  · exact k.dbg.trans h.dbg
  · exact k.free.trans h.free
  · exact k.mnt_again.trans h.mnt_again
  · exact k.mnt_wanted.trans h.mnt_wanted
  · exact k.mnt_matMap.trans h.mnt_matMap
  · exact k.mnt_bankMap.trans h.mnt_bankMap
  · exact k.mnt_retired.trans h.mnt_retired
  · exact k.mnt_stopped.trans h.mnt_stopped
  · exact k.mnt_lost.trans h.mnt_lost
  · exact k.mnt_fwPhase.trans h.mnt_fwPhase
  · exact k.mnt_fwAt.trans h.mnt_fwAt
  · exact k.mnt_fwCopies.trans h.mnt_fwCopies
  · exact k.mnt_fwStaged.trans h.mnt_fwStaged
  · exact k.mnt_chains.trans h.mnt_chains
  · exact k.core_cores.trans h.core_cores
  · exact k.core_sram.trans h.core_sram
  · exact k.core_lock.trans h.core_lock
  · exact k.core_lockAt.trans h.core_lockAt
  · exact k.core_progs.trans h.core_progs
  · exact k.host_cmds.trans h.host_cmds
  · exact k.host_hbAt.trans h.host_hbAt
  · exact k.host_hbRun.trans h.host_hbRun
  · exact k.host_absentAt.trans h.host_absentAt
  · exact k.host_perst.trans h.host_perst
  · exact k.host_latch.trans h.host_latch
  · exact k.host_window.trans h.host_window
  · exact k.host_pf0.trans h.host_pf0
  · exact k.host_pf1.trans h.host_pf1
  · exact k.fb_pages.trans h.fb_pages
  · exact k.fb_markRef.trans h.fb_markRef
  · exact k.fb_wearRaised.trans h.fb_wearRaised

/-- Fields of other registers read as before. -/
theorem Books.get {s t : State} (h : Books s t) {f : Fld} (hf : f.reg ∉ bookKeys) :
    t.get f = s.get f := by
  unfold State.get
  rw [h.regs _ hf]

theorem Books.flag {s t : State} (h : Books s t) {f : Fld} (hf : f.reg ∉ bookKeys) :
    t.flag f = s.flag f := by
  unfold State.flag
  rw [h.get hf]

theorem books_wr {s0 s : State} (h : Books s0 s) {k : Nat} (hk : k ∈ bookKeys) (v : Reg) : Books s0 (s.wr k v) := by
  refine h.trans ?_
  constructor
  · exact State.wr_keeps k v (Keeps.refl s)
  · exact fun j hj => State.rd_wr_ne s (by rintro rfl; exact hj hk) v
  · rfl
  · rfl
  · rfl
  · rfl
  · rfl
  · rfl
  · rfl
  · rfl
  · rfl
  · rfl
  · rfl
  · rfl
  · rfl
  · rfl
  · rfl
  · rfl
  · rfl
  · rfl
  · rfl
  · rfl
  · rfl
  · rfl
  · rfl
  · rfl
  · rfl
  · rfl
  · rfl
  · rfl
  · rfl
  · rfl
  · rfl
  · rfl
  · rfl
  · rfl
  · rfl
  · rfl
  · rfl
  · rfl
  · rfl
  · rfl
  · rfl
  · rfl
  · rfl
  · rfl
  · rfl
  · rfl
  · rfl

theorem books_set {s0 s : State} (h : Books s0 s) {f : Fld} (hf : f.reg ∈ bookKeys) (x : Nat) : Books s0 (s.set f x) :=
  books_wr h hf _

theorem books_setFlag {s0 s : State} (h : Books s0 s) {f : Fld} (hf : f.reg ∈ bookKeys) (b : Bool) :
    Books s0 (s.setFlag f b) := books_set h hf _

theorem books_count {s0 s : State} (h : Books s0 s) {k : Nat} {f : Fld} (hk : k ∈ bookKeys) (hf : f.reg ∈ bookKeys)
    (n : Nat) : Books s0 (s.count k f n) := by
  unfold State.count
  split
  · exact h
  · split
    · exact books_wr h hk _
    · exact books_setFlag (books_wr h hk _) hf _

/-- A record update of the parts that book-keeping may change. -/
theorem books_mk {s0 s t : State} (h : Books s0 s) (hk : Keeps s0 t) (hr : t.regs = s.regs)
    (h_time : t.time = s.time := by rfl)
    (h_que : t.que = s.que := by rfl)
    (h_mem : t.mem = s.mem := by rfl)
    (h_col : t.col = s.col := by rfl)
    (h_ctx : t.ctx = s.ctx := by rfl)
    (h_pace : t.pace = s.pace := by rfl)
    (h_bist : t.bist = s.bist := by rfl)
    (h_sec : t.sec = s.sec := by rfl)
    (h_img : t.img = s.img := by rfl)
    (h_pow : t.pow = s.pow := by rfl)
    (h_thm : t.thm = s.thm := by rfl)
    (h_pins : t.pins = s.pins := by rfl)
    (h_tal : t.tal = s.tal := by rfl)
    (h_lane : t.lane = s.lane := by rfl)
    (h_clk : t.clk = s.clk := by rfl)
    (h_dev : t.dev = s.dev := by rfl)
    (h_dbg : t.dbg = s.dbg := by rfl)
    (h_free : t.free = s.free := by rfl)
    (h_mnt_again : t.mnt.again = s.mnt.again := by rfl)
    (h_mnt_wanted : t.mnt.wanted = s.mnt.wanted := by rfl)
    (h_mnt_matMap : t.mnt.matMap = s.mnt.matMap := by rfl)
    (h_mnt_bankMap : t.mnt.bankMap = s.mnt.bankMap := by rfl)
    (h_mnt_retired : t.mnt.retired = s.mnt.retired := by rfl)
    (h_mnt_stopped : t.mnt.stopped = s.mnt.stopped := by rfl)
    (h_mnt_lost : t.mnt.lost = s.mnt.lost := by rfl)
    (h_mnt_fwPhase : t.mnt.fwPhase = s.mnt.fwPhase := by rfl)
    (h_mnt_fwAt : t.mnt.fwAt = s.mnt.fwAt := by rfl)
    (h_mnt_fwCopies : t.mnt.fwCopies = s.mnt.fwCopies := by rfl)
    (h_mnt_fwStaged : t.mnt.fwStaged = s.mnt.fwStaged := by rfl)
    (h_mnt_chains : t.mnt.chains = s.mnt.chains := by rfl)
    (h_core_cores : t.core.cores = s.core.cores := by rfl)
    (h_core_sram : t.core.sram = s.core.sram := by rfl)
    (h_core_lock : t.core.lock = s.core.lock := by rfl)
    (h_core_lockAt : t.core.lockAt = s.core.lockAt := by rfl)
    (h_core_progs : t.core.progs = s.core.progs := by rfl)
    (h_host_cmds : t.host.cmds = s.host.cmds := by rfl)
    (h_host_hbAt : t.host.hbAt = s.host.hbAt := by rfl)
    (h_host_hbRun : t.host.hbRun = s.host.hbRun := by rfl)
    (h_host_absentAt : t.host.absentAt = s.host.absentAt := by rfl)
    (h_host_perst : t.host.perst = s.host.perst := by rfl)
    (h_host_latch : t.host.latch = s.host.latch := by rfl)
    (h_host_window : t.host.window = s.host.window := by rfl)
    (h_host_pf0 : t.host.pf0 = s.host.pf0 := by rfl)
    (h_host_pf1 : t.host.pf1 = s.host.pf1 := by rfl)
    (h_fb_pages : t.fb.pages = s.fb.pages := by rfl)
    (h_fb_markRef : t.fb.markRef = s.fb.markRef := by rfl)
    (h_fb_wearRaised : t.fb.wearRaised = s.fb.wearRaised := by rfl)
    : Books s0 t := by
  constructor
  · exact hk
  · intro j hj
    have e : t.rd j = s.rd j := by unfold State.rd; rw [hr]
    rw [e, h.regs j hj]
  · rw [h_time, h.time]
  · rw [h_que, h.que]
  · rw [h_mem, h.mem]
  · rw [h_col, h.col]
  · rw [h_ctx, h.ctx]
  · rw [h_pace, h.pace]
  · rw [h_bist, h.bist]
  · rw [h_sec, h.sec]
  · rw [h_img, h.img]
  · rw [h_pow, h.pow]
  · rw [h_thm, h.thm]
  · rw [h_pins, h.pins]
  · rw [h_tal, h.tal]
  · rw [h_lane, h.lane]
  · rw [h_clk, h.clk]
  · rw [h_dev, h.dev]
  · rw [h_dbg, h.dbg]
  · rw [h_free, h.free]
  · rw [h_mnt_again, h.mnt_again]
  · rw [h_mnt_wanted, h.mnt_wanted]
  · rw [h_mnt_matMap, h.mnt_matMap]
  · rw [h_mnt_bankMap, h.mnt_bankMap]
  · rw [h_mnt_retired, h.mnt_retired]
  · rw [h_mnt_stopped, h.mnt_stopped]
  · rw [h_mnt_lost, h.mnt_lost]
  · rw [h_mnt_fwPhase, h.mnt_fwPhase]
  · rw [h_mnt_fwAt, h.mnt_fwAt]
  · rw [h_mnt_fwCopies, h.mnt_fwCopies]
  · rw [h_mnt_fwStaged, h.mnt_fwStaged]
  · rw [h_mnt_chains, h.mnt_chains]
  · rw [h_core_cores, h.core_cores]
  · rw [h_core_sram, h.core_sram]
  · rw [h_core_lock, h.core_lock]
  · rw [h_core_lockAt, h.core_lockAt]
  · rw [h_core_progs, h.core_progs]
  · rw [h_host_cmds, h.host_cmds]
  · rw [h_host_hbAt, h.host_hbAt]
  · rw [h_host_hbRun, h.host_hbRun]
  · rw [h_host_absentAt, h.host_absentAt]
  · rw [h_host_perst, h.host_perst]
  · rw [h_host_latch, h.host_latch]
  · rw [h_host_window, h.host_window]
  · rw [h_host_pf0, h.host_pf0]
  · rw [h_host_pf1, h.host_pf1]
  · rw [h_fb_pages, h.fb_pages]
  · rw [h_fb_markRef, h.fb_markRef]
  · rw [h_fb_wearRaised, h.fb_wearRaised]

theorem books_foldl {α : Type} {s0 s : State} {f : State → α → State} (h : Books s0 s)
    (hf : ∀ t a, Books s0 t → Books s0 (f t a)) (l : List α) : Books s0 (l.foldl f s) := by
  induction l generalizing s with
  | nil => exact h
  | cons a l ih => exact ih (hf s a h)

theorem books_ite {s0 s t : State} {c : Prop} [Decidable c] (h1 : Books s0 s) (h2 : Books s0 t) :
    Books s0 (if c then s else t) := by split <;> assumption

/-! ### The operations -/

theorem emit_books {s0 s : State} (o : Out) (h : Books s0 s) : Books s0 (s.emit o) :=
  books_mk h (State.emit_keeps o h.keeps) rfl

theorem setRing_books {s0 s : State} (n : Nat) (r : Ring) (h : Books s0 s) : Books s0 (s.setRing n r) :=
  books_mk h (State.setRing_keeps n r h.keeps) rfl

theorem ringMsg_books {s0 s : State} (n : Nat) (h : Books s0 s) : Books s0 (s.ringMsg n) := by
  unfold State.ringMsg
  exact books_ite (emit_books _ (setRing_books _ _ h)) (setRing_books _ _ h)

theorem ringSignal_books {s0 s : State} (n : Nat) (h : Books s0 s) : Books s0 (s.ringSignal n) := by
  unfold State.ringSignal
  exact books_ite (ringMsg_books _ (setRing_books _ _ h)) (setRing_books _ _ h)

theorem produce_books {s0 s : State} (n size : Nat) (b : List Byte) (h : Books s0 s) : Books s0 (s.produce n size b) := by
  unfold State.produce State.mirror
  exact ringSignal_books _ (emit_books _ (setRing_books _ _ (emit_books _ h)))

theorem toEventRing_books {s0 s : State} (e : Event) (n : Nat) (h : Books s0 s) : Books s0 (State.toEventRing e s n) := by
  unfold State.toEventRing
  exact books_ite (books_ite (books_count h (by decide) (by decide) _) (produce_books _ _ _ h)) h

theorem assertSource_books {s0 s : State} (src : Nat) (h : Books s0 s) : Books s0 (s.assertSource src) := by
  unfold State.assertSource
  refine books_ite (emit_books _ ?_) ?_ <;> exact books_mk h (by simp [h.keeps]) rfl

theorem setCsr_books {s0 s : State} (c n : Nat) (v : Word) (h : Books s0 s) : Books s0 (s.setCsr c n v) :=
  books_mk h (State.setCsr_keeps c n v h.keeps) rfl

theorem toCoreRing_books {s0 s : State} (e : Event) (n : Nat) (h : Books s0 s) : Books s0 (State.toCoreRing e s n) := by
  unfold State.toCoreRing
  refine books_ite h (books_ite h (setCsr_books _ _ _ ?_))
  exact books_mk h (by simp (contextual := true) [h.keeps, putBytes_wf]) rfl

theorem fbTake_books {s0 s : State} (e : Event) (h : Books s0 s) : Books s0 (s.fbTake e) := by
  unfold State.fbTake
  refine books_set (books_set ?_ (by decide) _) (by decide) _
  exact books_mk h (by simp [h.keeps]) rfl

theorem setActs_books {s0 s : State} (l : List Act) (h : Books s0 s) : Books s0 (s.setActs l) :=
  books_mk h (State.setActs_keeps l h.keeps) rfl

theorem grant_books {s0 s : State} (a : Act) (ha : ∀ u : State, u.onGrant a.task = u) (h : Books s0 s) :
    Books s0 (s.grant a) := by
  unfold State.grant
  rw [ha]
  exact books_count (k := MNT_PREEMPTS) (f := ⟨MNT_SAT, 1, 1⟩) (setActs_books _ h) (by decide) (by decide) _

theorem submitRaw_books {s0 s : State} (t : Task) (l : List Lock) (q r : Nat) (ref : Option CmdRef)
    (ht : ∀ u : State, u.onGrant t = u) (h : Books s0 s) : Books s0 (s.submitRaw t l q r ref).1 := by
  unfold State.submitRaw
  split
  · exact h
  · dsimp only
    split <;> dsimp only
    · exact grant_books _ ht (setActs_books _ h)
    · exact books_count (k := MNT_QUEUEDS) (f := ⟨MNT_SAT, 0, 1⟩) (setActs_books _ h) (by decide) (by decide) _

theorem commitTrigger_books {s0 s : State} (cause : Nat) (seq : BitVec 32) (h : Books s0 s) :
    Books s0 (s.commitTrigger cause seq) := by
  unfold State.commitTrigger
  split
  · exact books_ite (books_mk h (by simp [h.keeps]) rfl) h
  · dsimp only
    refine submitRaw_books _ _ _ _ _ (by simp [State.onGrant]) (books_setFlag ?_ (by decide) _)
    exact books_mk h (by simp [h.keeps]) rfl

/-- Raising an event is book-keeping. -/
theorem raiseRaw_books {s0 s : State} (code src status : Nat) (data : BitVec 112) (trigger : Option Nat)
    (h : Books s0 s) : Books s0 (s.raiseRaw code src status data trigger) := by
  unfold State.raiseRaw
  lift_lets
  intro e v a b g c d trig f
  have ha : Books s0 a := books_mk h (by simp [a, h.keeps]) rfl
  have hb : Books s0 b := books_foldl ha (fun t n ht => toEventRing_books e n ht) _
  have hc : Books s0 c := books_ite (assertSource_books _ hb) hb
  have hd : Books s0 d := books_ite (books_foldl hc (fun t n ht => books_ite (toCoreRing_books e n ht) ht) _) hc
  have hf : Books s0 f := books_ite (fbTake_books e hd) hd
  cases ht : trig with
  | none => exact hf
  | some cause => exact commitTrigger_books _ _ hf

theorem raise_books {s0 s : State} (code src : Nat) (data : List (Nat × Nat × Nat)) (h : Books s0 s) :
    Books s0 (s.raise code src data) := raiseRaw_books _ _ _ _ _ h

theorem raiseSt_books {s0 s : State} (code src status : Nat) (data : List (Nat × Nat × Nat)) (h : Books s0 s) :
    Books s0 (s.raiseSt code src status data) := raiseRaw_books _ _ _ _ _ h

theorem raiseTrig_books {s0 s : State} (code src cause : Nat) (data : List (Nat × Nat × Nat)) (h : Books s0 s) :
    Books s0 (s.raiseTrig code src cause data) := raiseRaw_books _ _ _ _ _ h

theorem raiseLim_books {s0 s : State} (code src : Nat) (data : List (Nat × Nat × Nat)) (h : Books s0 s) :
    Books s0 (s.raiseLim code src data) := by
  unfold State.raiseLim
  exact books_ite (raise_books _ _ _ (books_mk h (by simp [h.keeps]) rfl)) h

/-- Posting a completion is book-keeping. -/
theorem post_books {s0 s : State} (c : Compl) (h : Books s0 s) : Books s0 (s.post c) := by
  unfold State.post
  exact books_ite (produce_books _ _ _ h) (setRing_books _ _ h)

/-- Completing a command is book-keeping beside the list of accepted commands. -/
theorem finish_books (s : State) (r : CmdRef) (status : Nat) (result : Word) :
    Books { s with host := { s.host with
      cmds := s.host.cmds.filter (fun c => decide (¬ (c.ring = r.ring ∧ c.id = r.id ∧ c.opcode = r.opcode))) } }
      (s.finish r status result) := by
  unfold State.finish
  dsimp only
  split
  · exact books_ite (Books.refl _) (post_books _ (Books.refl _))
  · exact post_books _ (Books.refl _)

theorem interim_books {s0 s : State} (r : CmdRef) (h : Books s0 s) : Books s0 (s.interim r) := by
  unfold State.interim
  exact books_ite h (post_books _ h)

end Sys2Proof.Machine
end

