-- ==== Sys2Proof/Laws/Framed.lean ====
section
/-! SUPPORT.  Laws of frames: how the frame of a meaning is put together from those of its operations. -/

namespace Sys2Proof.Machine

open Sys2Proof

theorem Part.same_refl (s : State) (p : Part) : Part.same s s p := by
  cases p <;> first | rfl | exact ⟨rfl, rfl⟩

/-- Only what stands beside the named parts is compared, so a frame composes. -/
theorem Part.same_trans {s t u : State} {p : Part} (h : Part.same s t p) (k : Part.same t u p) : Part.same s u p := by
  cases p <;> simp only [Part.same] at h k ⊢ <;>
    first
    | exact k.trans h
    | exact ⟨k.1.trans h.1, k.2.trans h.2⟩
    | (have hh := h; rw [← k] at hh; simpa using hh)

theorem Framed.refl (ps : List Part) (ks : List Nat) (s : State) : Framed ps ks s s :=
  ⟨rfl, fun p _ => Part.same_refl s p, fun _ _ => rfl⟩

theorem Framed.trans {ps : List Part} {ks : List Nat} {s t u : State} (h : Framed ps ks s t) (k : Framed ps ks t u) :
    Framed ps ks s u :=
  ⟨k.pending.trans h.pending, fun p hp => Part.same_trans (h.part p hp) (k.part p hp),
    fun j hj => (k.reg j hj).trans (h.reg j hj)⟩

theorem Framed.mono {ps qs : List Part} {ks ls : List Nat} {s t : State} (h : Framed ps ks s t) (hp : ps ⊆ qs)
    (hk : ks ⊆ ls) : Framed qs ls s t :=
  ⟨h.pending, fun p hq => h.part p (fun x => hq (hp x)), fun j hj => h.reg j (fun x => hj (hk x))⟩

/-- A later state with a frame. -/
structure Fr (ps : List Part) (ks : List Nat) (s t : State) : Prop where
  keeps : Keeps s t
  frame : Framed ps ks s t

theorem Fr.refl (ps : List Part) (ks : List Nat) (s : State) : Fr ps ks s s :=
  ⟨Keeps.refl s, Framed.refl ps ks s⟩

theorem Fr.trans {ps : List Part} {ks : List Nat} {s t u : State} (h : Fr ps ks s t) (k : Fr ps ks t u) : Fr ps ks s u :=
  ⟨h.keeps.trans k.keeps, h.frame.trans k.frame⟩

theorem Fr.mono {ps qs : List Part} {ks ls : List Nat} {s t : State} (h : Fr ps ks s t) (hp : ps ⊆ qs) (hk : ks ⊆ ls) :
    Fr qs ls s t := ⟨h.keeps, h.frame.mono hp hk⟩

/-- A change that leaves the register file alone. -/
theorem fr_mk {ps : List Part} {ks : List Nat} {s0 s t : State} (h : Fr ps ks s0 s) (hk : Keeps s0 t) (hr : t.regs = s.regs)
    (hp : ∀ p, p ∉ ps → Part.same s t p := by
      intro p hp; cases p <;> first | rfl | exact ⟨rfl, rfl⟩ | exact absurd (by decide) hp) : Fr ps ks s0 t := by
  refine ⟨hk, h.frame.trans ⟨?_, hp, fun k _ => by unfold State.rd; rw [hr]⟩⟩
  rw [hk.pending, h.keeps.pending]

theorem fr_wr {ps : List Part} {ks : List Nat} {s0 s : State} {k : Nat} (h : Fr ps ks s0 s) (hk : k ∈ ks) (v : Reg) :
    Fr ps ks s0 (s.wr k v) := by
  refine h.trans ⟨State.wr_keeps k v (Keeps.refl s), ⟨rfl, fun p _ => ?_, fun j hj => ?_⟩⟩
  · cases p <;> first | rfl | exact ⟨rfl, rfl⟩
  · exact State.rd_wr_ne s (by rintro rfl; exact hj hk) v

theorem fr_set {ps : List Part} {ks : List Nat} {s0 s : State} {f : Fld} (h : Fr ps ks s0 s) (hk : f.reg ∈ ks) (x : Nat) :
    Fr ps ks s0 (s.set f x) := fr_wr h hk _

theorem fr_setFlag {ps : List Part} {ks : List Nat} {s0 s : State} {f : Fld} (h : Fr ps ks s0 s) (hk : f.reg ∈ ks) (b : Bool) :
    Fr ps ks s0 (s.setFlag f b) := fr_wr h hk _

theorem fr_setBit {ps : List Part} {ks : List Nat} {s0 s : State} {k i : Nat} (h : Fr ps ks s0 s) (hk : k ∈ ks) (b : Bool) :
    Fr ps ks s0 (s.setBit k i b) := fr_wr h hk _

theorem fr_wr64 {ps : List Part} {ks : List Nat} {s0 s : State} {lo hi : Nat} (h : Fr ps ks s0 s) (h1 : lo ∈ ks) (h2 : hi ∈ ks)
    (v : Word) : Fr ps ks s0 (s.wr64 lo hi v) := fr_wr (fr_wr h h1 _) h2 _

theorem fr_ite {ps : List Part} {ks : List Nat} {s0 s t : State} {c : Prop} [Decidable c] (h1 : Fr ps ks s0 s)
    (h2 : Fr ps ks s0 t) : Fr ps ks s0 (if c then s else t) := by split <;> assumption

theorem fr_foldl {α : Type} {ps : List Part} {ks : List Nat} {s0 s : State} {f : State → α → State} (h : Fr ps ks s0 s)
    (hf : ∀ t a, Fr ps ks s0 t → Fr ps ks s0 (f t a)) (l : List α) : Fr ps ks s0 (l.foldl f s) := by
  induction l generalizing s with
  | nil => exact h
  | cons a l ih => exact ih (hf s a h)

theorem fr_count {ps : List Part} {ks : List Nat} {s0 s : State} {k : Nat} {f : Fld} (h : Fr ps ks s0 s) (hk : k ∈ ks)
    (hf : f.reg ∈ ks) (n : Nat) : Fr ps ks s0 (s.count k f n) := by
  unfold State.count
  split
  · exact h
  · split
    · exact fr_wr h hk _
    · exact fr_setFlag (fr_wr h hk _) hf _

/-- Book-keeping fits every frame that names its parts and registers. -/
theorem fr_books {ps : List Part} {ks : List Nat} {s0 s t : State} (h : Fr ps ks s0 s) (hb : Books s t)
    (hp : evParts ⊆ ps) (hk : bookKeys ⊆ ks) : Fr ps ks s0 t := by
  refine h.trans ⟨hb.keeps, ⟨hb.keeps.pending, fun p hq => ?_, fun j hj => hb.regs j (fun x => hj (hk x))⟩⟩
  have hn : p ∉ evParts := fun x => hq (hp x)
  cases p <;> first | exact absurd (by decide) hn | skip
  all_goals
    simp only [Part.same]
    first
    | exact hb.time | exact hb.que | exact hb.col | exact hb.ctx | exact hb.pace | exact hb.bist | exact hb.img
    | exact hb.pow | exact hb.thm | exact hb.pins | exact hb.tal | exact hb.lane | exact hb.clk | exact hb.dev | exact hb.dbg
    | exact hb.host_cmds | exact hb.core_cores | exact hb.free
    | rw [hb.mem] | rw [hb.sec]
    | simp only [hb.host_hbAt, hb.host_hbRun, hb.host_absentAt, hb.host_perst, hb.host_latch, hb.host_window,
        hb.host_pf0, hb.host_pf1, hb.mnt_again,
        hb.mnt_wanted, hb.mnt_matMap, hb.mnt_bankMap, hb.mnt_retired, hb.mnt_stopped, hb.mnt_lost, hb.mnt_fwPhase, hb.mnt_fwAt,
        hb.mnt_fwCopies, hb.mnt_fwStaged, hb.mnt_chains, hb.fb_markRef, hb.fb_pages, hb.fb_wearRaised, hb.core_sram,
        hb.core_lock, hb.core_lockAt, hb.core_progs]

/-- The frame of a completion. -/
theorem fr_finish {ps : List Part} {ks : List Nat} {s0 s : State} (h : Fr ps ks s0 s) (hp : Part.cmds :: evParts ⊆ ps)
    (hk : bookKeys ⊆ ks) (r : CmdRef) (status : Nat) (result : Word) : Fr ps ks s0 (s.finish r status result) := by
  refine fr_books (fr_mk (t := { s with host := { s.host with
    cmds := s.host.cmds.filter (fun c => decide (¬ (c.ring = r.ring ∧ c.id = r.id ∧ c.opcode = r.opcode))) } }) h
    (by simp [h.keeps]) rfl ?_) (finish_books s r status result) (fun x hx => hp (List.mem_cons_of_mem _ hx)) hk
  intro p hq
  have : p ≠ .cmds := by rintro rfl; exact hq (hp (List.mem_cons_self ..))
  cases p <;> first | rfl | exact ⟨rfl, rfl⟩ | exact absurd rfl this

end Sys2Proof.Machine
end

