-- ==== Sys2Proof/Laws/State.lean ====
section
/-! SUPPORT.  One law per field of State and operation: the operation leaves the field as it is, or says what it becomes;
so that no proof unfolds a record update. -/

namespace Sys2Proof.Machine

open Sys2Proof

/-! ### wr -/

@[simp] theorem State.wr_pending (s : State) (k : Nat) (v : Reg) : (s.wr k v).pending = s.pending := rfl
@[simp] theorem State.wr_time (s : State) (k : Nat) (v : Reg) : (s.wr k v).time = s.time := rfl
@[simp] theorem State.wr_ev (s : State) (k : Nat) (v : Reg) : (s.wr k v).ev = s.ev := rfl
@[simp] theorem State.wr_host (s : State) (k : Nat) (v : Reg) : (s.wr k v).host = s.host := rfl
@[simp] theorem State.wr_que (s : State) (k : Nat) (v : Reg) : (s.wr k v).que = s.que := rfl
@[simp] theorem State.wr_mem (s : State) (k : Nat) (v : Reg) : (s.wr k v).mem = s.mem := rfl
@[simp] theorem State.wr_col (s : State) (k : Nat) (v : Reg) : (s.wr k v).col = s.col := rfl
@[simp] theorem State.wr_ctx (s : State) (k : Nat) (v : Reg) : (s.wr k v).ctx = s.ctx := rfl
@[simp] theorem State.wr_pace (s : State) (k : Nat) (v : Reg) : (s.wr k v).pace = s.pace := rfl
@[simp] theorem State.wr_mnt (s : State) (k : Nat) (v : Reg) : (s.wr k v).mnt = s.mnt := rfl
@[simp] theorem State.wr_bist (s : State) (k : Nat) (v : Reg) : (s.wr k v).bist = s.bist := rfl
@[simp] theorem State.wr_fb (s : State) (k : Nat) (v : Reg) : (s.wr k v).fb = s.fb := rfl
@[simp] theorem State.wr_core (s : State) (k : Nat) (v : Reg) : (s.wr k v).core = s.core := rfl
@[simp] theorem State.wr_sec (s : State) (k : Nat) (v : Reg) : (s.wr k v).sec = s.sec := rfl
@[simp] theorem State.wr_img (s : State) (k : Nat) (v : Reg) : (s.wr k v).img = s.img := rfl
@[simp] theorem State.wr_pow (s : State) (k : Nat) (v : Reg) : (s.wr k v).pow = s.pow := rfl
@[simp] theorem State.wr_thm (s : State) (k : Nat) (v : Reg) : (s.wr k v).thm = s.thm := rfl
@[simp] theorem State.wr_pins (s : State) (k : Nat) (v : Reg) : (s.wr k v).pins = s.pins := rfl
@[simp] theorem State.wr_tal (s : State) (k : Nat) (v : Reg) : (s.wr k v).tal = s.tal := rfl
@[simp] theorem State.wr_lane (s : State) (k : Nat) (v : Reg) : (s.wr k v).lane = s.lane := rfl
@[simp] theorem State.wr_clk (s : State) (k : Nat) (v : Reg) : (s.wr k v).clk = s.clk := rfl
@[simp] theorem State.wr_dev (s : State) (k : Nat) (v : Reg) : (s.wr k v).dev = s.dev := rfl
@[simp] theorem State.wr_dbg (s : State) (k : Nat) (v : Reg) : (s.wr k v).dbg = s.dbg := rfl
@[simp] theorem State.wr_out (s : State) (k : Nat) (v : Reg) : (s.wr k v).out = s.out := rfl
@[simp] theorem State.wr_free (s : State) (k : Nat) (v : Reg) : (s.wr k v).free = s.free := rfl

/-! ### set -/

@[simp] theorem State.set_pending (s : State) (f : Fld) (x : Nat) : (s.set f x).pending = s.pending := rfl
@[simp] theorem State.set_time (s : State) (f : Fld) (x : Nat) : (s.set f x).time = s.time := rfl
@[simp] theorem State.set_ev (s : State) (f : Fld) (x : Nat) : (s.set f x).ev = s.ev := rfl
@[simp] theorem State.set_host (s : State) (f : Fld) (x : Nat) : (s.set f x).host = s.host := rfl
@[simp] theorem State.set_que (s : State) (f : Fld) (x : Nat) : (s.set f x).que = s.que := rfl
@[simp] theorem State.set_mem (s : State) (f : Fld) (x : Nat) : (s.set f x).mem = s.mem := rfl
@[simp] theorem State.set_col (s : State) (f : Fld) (x : Nat) : (s.set f x).col = s.col := rfl
@[simp] theorem State.set_ctx (s : State) (f : Fld) (x : Nat) : (s.set f x).ctx = s.ctx := rfl
@[simp] theorem State.set_pace (s : State) (f : Fld) (x : Nat) : (s.set f x).pace = s.pace := rfl
@[simp] theorem State.set_mnt (s : State) (f : Fld) (x : Nat) : (s.set f x).mnt = s.mnt := rfl
@[simp] theorem State.set_bist (s : State) (f : Fld) (x : Nat) : (s.set f x).bist = s.bist := rfl
@[simp] theorem State.set_fb (s : State) (f : Fld) (x : Nat) : (s.set f x).fb = s.fb := rfl
@[simp] theorem State.set_core (s : State) (f : Fld) (x : Nat) : (s.set f x).core = s.core := rfl
@[simp] theorem State.set_sec (s : State) (f : Fld) (x : Nat) : (s.set f x).sec = s.sec := rfl
@[simp] theorem State.set_img (s : State) (f : Fld) (x : Nat) : (s.set f x).img = s.img := rfl
@[simp] theorem State.set_pow (s : State) (f : Fld) (x : Nat) : (s.set f x).pow = s.pow := rfl
@[simp] theorem State.set_thm (s : State) (f : Fld) (x : Nat) : (s.set f x).thm = s.thm := rfl
@[simp] theorem State.set_pins (s : State) (f : Fld) (x : Nat) : (s.set f x).pins = s.pins := rfl
@[simp] theorem State.set_tal (s : State) (f : Fld) (x : Nat) : (s.set f x).tal = s.tal := rfl
@[simp] theorem State.set_lane (s : State) (f : Fld) (x : Nat) : (s.set f x).lane = s.lane := rfl
@[simp] theorem State.set_clk (s : State) (f : Fld) (x : Nat) : (s.set f x).clk = s.clk := rfl
@[simp] theorem State.set_dev (s : State) (f : Fld) (x : Nat) : (s.set f x).dev = s.dev := rfl
@[simp] theorem State.set_dbg (s : State) (f : Fld) (x : Nat) : (s.set f x).dbg = s.dbg := rfl
@[simp] theorem State.set_out (s : State) (f : Fld) (x : Nat) : (s.set f x).out = s.out := rfl
@[simp] theorem State.set_free (s : State) (f : Fld) (x : Nat) : (s.set f x).free = s.free := rfl

/-! ### setFlag -/

@[simp] theorem State.setFlag_pending (s : State) (f : Fld) (b : Bool) : (s.setFlag f b).pending = s.pending := rfl
@[simp] theorem State.setFlag_time (s : State) (f : Fld) (b : Bool) : (s.setFlag f b).time = s.time := rfl
@[simp] theorem State.setFlag_ev (s : State) (f : Fld) (b : Bool) : (s.setFlag f b).ev = s.ev := rfl
@[simp] theorem State.setFlag_host (s : State) (f : Fld) (b : Bool) : (s.setFlag f b).host = s.host := rfl
@[simp] theorem State.setFlag_que (s : State) (f : Fld) (b : Bool) : (s.setFlag f b).que = s.que := rfl
@[simp] theorem State.setFlag_mem (s : State) (f : Fld) (b : Bool) : (s.setFlag f b).mem = s.mem := rfl
@[simp] theorem State.setFlag_col (s : State) (f : Fld) (b : Bool) : (s.setFlag f b).col = s.col := rfl
@[simp] theorem State.setFlag_ctx (s : State) (f : Fld) (b : Bool) : (s.setFlag f b).ctx = s.ctx := rfl
@[simp] theorem State.setFlag_pace (s : State) (f : Fld) (b : Bool) : (s.setFlag f b).pace = s.pace := rfl
@[simp] theorem State.setFlag_mnt (s : State) (f : Fld) (b : Bool) : (s.setFlag f b).mnt = s.mnt := rfl
@[simp] theorem State.setFlag_bist (s : State) (f : Fld) (b : Bool) : (s.setFlag f b).bist = s.bist := rfl
@[simp] theorem State.setFlag_fb (s : State) (f : Fld) (b : Bool) : (s.setFlag f b).fb = s.fb := rfl
@[simp] theorem State.setFlag_core (s : State) (f : Fld) (b : Bool) : (s.setFlag f b).core = s.core := rfl
@[simp] theorem State.setFlag_sec (s : State) (f : Fld) (b : Bool) : (s.setFlag f b).sec = s.sec := rfl
@[simp] theorem State.setFlag_img (s : State) (f : Fld) (b : Bool) : (s.setFlag f b).img = s.img := rfl
@[simp] theorem State.setFlag_pow (s : State) (f : Fld) (b : Bool) : (s.setFlag f b).pow = s.pow := rfl
@[simp] theorem State.setFlag_thm (s : State) (f : Fld) (b : Bool) : (s.setFlag f b).thm = s.thm := rfl
@[simp] theorem State.setFlag_pins (s : State) (f : Fld) (b : Bool) : (s.setFlag f b).pins = s.pins := rfl
@[simp] theorem State.setFlag_tal (s : State) (f : Fld) (b : Bool) : (s.setFlag f b).tal = s.tal := rfl
@[simp] theorem State.setFlag_lane (s : State) (f : Fld) (b : Bool) : (s.setFlag f b).lane = s.lane := rfl
@[simp] theorem State.setFlag_clk (s : State) (f : Fld) (b : Bool) : (s.setFlag f b).clk = s.clk := rfl
@[simp] theorem State.setFlag_dev (s : State) (f : Fld) (b : Bool) : (s.setFlag f b).dev = s.dev := rfl
@[simp] theorem State.setFlag_dbg (s : State) (f : Fld) (b : Bool) : (s.setFlag f b).dbg = s.dbg := rfl
@[simp] theorem State.setFlag_out (s : State) (f : Fld) (b : Bool) : (s.setFlag f b).out = s.out := rfl
@[simp] theorem State.setFlag_free (s : State) (f : Fld) (b : Bool) : (s.setFlag f b).free = s.free := rfl

/-! ### setBit -/

@[simp] theorem State.setBit_pending (s : State) (k i : Nat) (b : Bool) : (s.setBit k i b).pending = s.pending := rfl
@[simp] theorem State.setBit_time (s : State) (k i : Nat) (b : Bool) : (s.setBit k i b).time = s.time := rfl
@[simp] theorem State.setBit_ev (s : State) (k i : Nat) (b : Bool) : (s.setBit k i b).ev = s.ev := rfl
@[simp] theorem State.setBit_host (s : State) (k i : Nat) (b : Bool) : (s.setBit k i b).host = s.host := rfl
@[simp] theorem State.setBit_que (s : State) (k i : Nat) (b : Bool) : (s.setBit k i b).que = s.que := rfl
@[simp] theorem State.setBit_mem (s : State) (k i : Nat) (b : Bool) : (s.setBit k i b).mem = s.mem := rfl
@[simp] theorem State.setBit_col (s : State) (k i : Nat) (b : Bool) : (s.setBit k i b).col = s.col := rfl
@[simp] theorem State.setBit_ctx (s : State) (k i : Nat) (b : Bool) : (s.setBit k i b).ctx = s.ctx := rfl
@[simp] theorem State.setBit_pace (s : State) (k i : Nat) (b : Bool) : (s.setBit k i b).pace = s.pace := rfl
@[simp] theorem State.setBit_mnt (s : State) (k i : Nat) (b : Bool) : (s.setBit k i b).mnt = s.mnt := rfl
@[simp] theorem State.setBit_bist (s : State) (k i : Nat) (b : Bool) : (s.setBit k i b).bist = s.bist := rfl
@[simp] theorem State.setBit_fb (s : State) (k i : Nat) (b : Bool) : (s.setBit k i b).fb = s.fb := rfl
@[simp] theorem State.setBit_core (s : State) (k i : Nat) (b : Bool) : (s.setBit k i b).core = s.core := rfl
@[simp] theorem State.setBit_sec (s : State) (k i : Nat) (b : Bool) : (s.setBit k i b).sec = s.sec := rfl
@[simp] theorem State.setBit_img (s : State) (k i : Nat) (b : Bool) : (s.setBit k i b).img = s.img := rfl
@[simp] theorem State.setBit_pow (s : State) (k i : Nat) (b : Bool) : (s.setBit k i b).pow = s.pow := rfl
@[simp] theorem State.setBit_thm (s : State) (k i : Nat) (b : Bool) : (s.setBit k i b).thm = s.thm := rfl
@[simp] theorem State.setBit_pins (s : State) (k i : Nat) (b : Bool) : (s.setBit k i b).pins = s.pins := rfl
@[simp] theorem State.setBit_tal (s : State) (k i : Nat) (b : Bool) : (s.setBit k i b).tal = s.tal := rfl
@[simp] theorem State.setBit_lane (s : State) (k i : Nat) (b : Bool) : (s.setBit k i b).lane = s.lane := rfl
@[simp] theorem State.setBit_clk (s : State) (k i : Nat) (b : Bool) : (s.setBit k i b).clk = s.clk := rfl
@[simp] theorem State.setBit_dev (s : State) (k i : Nat) (b : Bool) : (s.setBit k i b).dev = s.dev := rfl
@[simp] theorem State.setBit_dbg (s : State) (k i : Nat) (b : Bool) : (s.setBit k i b).dbg = s.dbg := rfl
@[simp] theorem State.setBit_out (s : State) (k i : Nat) (b : Bool) : (s.setBit k i b).out = s.out := rfl
@[simp] theorem State.setBit_free (s : State) (k i : Nat) (b : Bool) : (s.setBit k i b).free = s.free := rfl

/-! ### wr64 -/

@[simp] theorem State.wr64_pending (s : State) (lo hi : Nat) (v : Word) : (s.wr64 lo hi v).pending = s.pending := rfl
@[simp] theorem State.wr64_time (s : State) (lo hi : Nat) (v : Word) : (s.wr64 lo hi v).time = s.time := rfl
@[simp] theorem State.wr64_ev (s : State) (lo hi : Nat) (v : Word) : (s.wr64 lo hi v).ev = s.ev := rfl
@[simp] theorem State.wr64_host (s : State) (lo hi : Nat) (v : Word) : (s.wr64 lo hi v).host = s.host := rfl
@[simp] theorem State.wr64_que (s : State) (lo hi : Nat) (v : Word) : (s.wr64 lo hi v).que = s.que := rfl
@[simp] theorem State.wr64_mem (s : State) (lo hi : Nat) (v : Word) : (s.wr64 lo hi v).mem = s.mem := rfl
@[simp] theorem State.wr64_col (s : State) (lo hi : Nat) (v : Word) : (s.wr64 lo hi v).col = s.col := rfl
@[simp] theorem State.wr64_ctx (s : State) (lo hi : Nat) (v : Word) : (s.wr64 lo hi v).ctx = s.ctx := rfl
@[simp] theorem State.wr64_pace (s : State) (lo hi : Nat) (v : Word) : (s.wr64 lo hi v).pace = s.pace := rfl
@[simp] theorem State.wr64_mnt (s : State) (lo hi : Nat) (v : Word) : (s.wr64 lo hi v).mnt = s.mnt := rfl
@[simp] theorem State.wr64_bist (s : State) (lo hi : Nat) (v : Word) : (s.wr64 lo hi v).bist = s.bist := rfl
@[simp] theorem State.wr64_fb (s : State) (lo hi : Nat) (v : Word) : (s.wr64 lo hi v).fb = s.fb := rfl
@[simp] theorem State.wr64_core (s : State) (lo hi : Nat) (v : Word) : (s.wr64 lo hi v).core = s.core := rfl
@[simp] theorem State.wr64_sec (s : State) (lo hi : Nat) (v : Word) : (s.wr64 lo hi v).sec = s.sec := rfl
@[simp] theorem State.wr64_img (s : State) (lo hi : Nat) (v : Word) : (s.wr64 lo hi v).img = s.img := rfl
@[simp] theorem State.wr64_pow (s : State) (lo hi : Nat) (v : Word) : (s.wr64 lo hi v).pow = s.pow := rfl
@[simp] theorem State.wr64_thm (s : State) (lo hi : Nat) (v : Word) : (s.wr64 lo hi v).thm = s.thm := rfl
@[simp] theorem State.wr64_pins (s : State) (lo hi : Nat) (v : Word) : (s.wr64 lo hi v).pins = s.pins := rfl
@[simp] theorem State.wr64_tal (s : State) (lo hi : Nat) (v : Word) : (s.wr64 lo hi v).tal = s.tal := rfl
@[simp] theorem State.wr64_lane (s : State) (lo hi : Nat) (v : Word) : (s.wr64 lo hi v).lane = s.lane := rfl
@[simp] theorem State.wr64_clk (s : State) (lo hi : Nat) (v : Word) : (s.wr64 lo hi v).clk = s.clk := rfl
@[simp] theorem State.wr64_dev (s : State) (lo hi : Nat) (v : Word) : (s.wr64 lo hi v).dev = s.dev := rfl
@[simp] theorem State.wr64_dbg (s : State) (lo hi : Nat) (v : Word) : (s.wr64 lo hi v).dbg = s.dbg := rfl
@[simp] theorem State.wr64_out (s : State) (lo hi : Nat) (v : Word) : (s.wr64 lo hi v).out = s.out := rfl
@[simp] theorem State.wr64_free (s : State) (lo hi : Nat) (v : Word) : (s.wr64 lo hi v).free = s.free := rfl

/-! ### count -/

@[simp] theorem State.count_pending (s : State) (k : Nat) (f : Fld) (n : Nat) : (s.count k f n).pending = s.pending := by unfold State.count; (repeat' split) <;> rfl
@[simp] theorem State.count_time (s : State) (k : Nat) (f : Fld) (n : Nat) : (s.count k f n).time = s.time := by unfold State.count; (repeat' split) <;> rfl
@[simp] theorem State.count_ev (s : State) (k : Nat) (f : Fld) (n : Nat) : (s.count k f n).ev = s.ev := by unfold State.count; (repeat' split) <;> rfl
@[simp] theorem State.count_host (s : State) (k : Nat) (f : Fld) (n : Nat) : (s.count k f n).host = s.host := by unfold State.count; (repeat' split) <;> rfl
@[simp] theorem State.count_que (s : State) (k : Nat) (f : Fld) (n : Nat) : (s.count k f n).que = s.que := by unfold State.count; (repeat' split) <;> rfl
@[simp] theorem State.count_mem (s : State) (k : Nat) (f : Fld) (n : Nat) : (s.count k f n).mem = s.mem := by unfold State.count; (repeat' split) <;> rfl
@[simp] theorem State.count_col (s : State) (k : Nat) (f : Fld) (n : Nat) : (s.count k f n).col = s.col := by unfold State.count; (repeat' split) <;> rfl
@[simp] theorem State.count_ctx (s : State) (k : Nat) (f : Fld) (n : Nat) : (s.count k f n).ctx = s.ctx := by unfold State.count; (repeat' split) <;> rfl
@[simp] theorem State.count_pace (s : State) (k : Nat) (f : Fld) (n : Nat) : (s.count k f n).pace = s.pace := by unfold State.count; (repeat' split) <;> rfl
@[simp] theorem State.count_mnt (s : State) (k : Nat) (f : Fld) (n : Nat) : (s.count k f n).mnt = s.mnt := by unfold State.count; (repeat' split) <;> rfl
@[simp] theorem State.count_bist (s : State) (k : Nat) (f : Fld) (n : Nat) : (s.count k f n).bist = s.bist := by unfold State.count; (repeat' split) <;> rfl
@[simp] theorem State.count_fb (s : State) (k : Nat) (f : Fld) (n : Nat) : (s.count k f n).fb = s.fb := by unfold State.count; (repeat' split) <;> rfl
@[simp] theorem State.count_core (s : State) (k : Nat) (f : Fld) (n : Nat) : (s.count k f n).core = s.core := by unfold State.count; (repeat' split) <;> rfl
@[simp] theorem State.count_sec (s : State) (k : Nat) (f : Fld) (n : Nat) : (s.count k f n).sec = s.sec := by unfold State.count; (repeat' split) <;> rfl
@[simp] theorem State.count_img (s : State) (k : Nat) (f : Fld) (n : Nat) : (s.count k f n).img = s.img := by unfold State.count; (repeat' split) <;> rfl
@[simp] theorem State.count_pow (s : State) (k : Nat) (f : Fld) (n : Nat) : (s.count k f n).pow = s.pow := by unfold State.count; (repeat' split) <;> rfl
@[simp] theorem State.count_thm (s : State) (k : Nat) (f : Fld) (n : Nat) : (s.count k f n).thm = s.thm := by unfold State.count; (repeat' split) <;> rfl
@[simp] theorem State.count_pins (s : State) (k : Nat) (f : Fld) (n : Nat) : (s.count k f n).pins = s.pins := by unfold State.count; (repeat' split) <;> rfl
@[simp] theorem State.count_tal (s : State) (k : Nat) (f : Fld) (n : Nat) : (s.count k f n).tal = s.tal := by unfold State.count; (repeat' split) <;> rfl
@[simp] theorem State.count_lane (s : State) (k : Nat) (f : Fld) (n : Nat) : (s.count k f n).lane = s.lane := by unfold State.count; (repeat' split) <;> rfl
@[simp] theorem State.count_clk (s : State) (k : Nat) (f : Fld) (n : Nat) : (s.count k f n).clk = s.clk := by unfold State.count; (repeat' split) <;> rfl
@[simp] theorem State.count_dev (s : State) (k : Nat) (f : Fld) (n : Nat) : (s.count k f n).dev = s.dev := by unfold State.count; (repeat' split) <;> rfl
@[simp] theorem State.count_dbg (s : State) (k : Nat) (f : Fld) (n : Nat) : (s.count k f n).dbg = s.dbg := by unfold State.count; (repeat' split) <;> rfl
@[simp] theorem State.count_out (s : State) (k : Nat) (f : Fld) (n : Nat) : (s.count k f n).out = s.out := by unfold State.count; (repeat' split) <;> rfl
@[simp] theorem State.count_free (s : State) (k : Nat) (f : Fld) (n : Nat) : (s.count k f n).free = s.free := by unfold State.count; (repeat' split) <;> rfl

/-! ### resetRegs -/

@[simp] theorem State.resetRegs_pending (s : State) (p : Nat → Bool) : (s.resetRegs p).pending = s.pending := rfl
@[simp] theorem State.resetRegs_time (s : State) (p : Nat → Bool) : (s.resetRegs p).time = s.time := rfl
@[simp] theorem State.resetRegs_ev (s : State) (p : Nat → Bool) : (s.resetRegs p).ev = s.ev := rfl
@[simp] theorem State.resetRegs_host (s : State) (p : Nat → Bool) : (s.resetRegs p).host = s.host := rfl
@[simp] theorem State.resetRegs_que (s : State) (p : Nat → Bool) : (s.resetRegs p).que = s.que := rfl
@[simp] theorem State.resetRegs_mem (s : State) (p : Nat → Bool) : (s.resetRegs p).mem = s.mem := rfl
@[simp] theorem State.resetRegs_col (s : State) (p : Nat → Bool) : (s.resetRegs p).col = s.col := rfl
@[simp] theorem State.resetRegs_ctx (s : State) (p : Nat → Bool) : (s.resetRegs p).ctx = s.ctx := rfl
@[simp] theorem State.resetRegs_pace (s : State) (p : Nat → Bool) : (s.resetRegs p).pace = s.pace := rfl
@[simp] theorem State.resetRegs_mnt (s : State) (p : Nat → Bool) : (s.resetRegs p).mnt = s.mnt := rfl
@[simp] theorem State.resetRegs_bist (s : State) (p : Nat → Bool) : (s.resetRegs p).bist = s.bist := rfl
@[simp] theorem State.resetRegs_fb (s : State) (p : Nat → Bool) : (s.resetRegs p).fb = s.fb := rfl
@[simp] theorem State.resetRegs_core (s : State) (p : Nat → Bool) : (s.resetRegs p).core = s.core := rfl
@[simp] theorem State.resetRegs_sec (s : State) (p : Nat → Bool) : (s.resetRegs p).sec = s.sec := rfl
@[simp] theorem State.resetRegs_img (s : State) (p : Nat → Bool) : (s.resetRegs p).img = s.img := rfl
@[simp] theorem State.resetRegs_pow (s : State) (p : Nat → Bool) : (s.resetRegs p).pow = s.pow := rfl
@[simp] theorem State.resetRegs_thm (s : State) (p : Nat → Bool) : (s.resetRegs p).thm = s.thm := rfl
@[simp] theorem State.resetRegs_pins (s : State) (p : Nat → Bool) : (s.resetRegs p).pins = s.pins := rfl
@[simp] theorem State.resetRegs_tal (s : State) (p : Nat → Bool) : (s.resetRegs p).tal = s.tal := rfl
@[simp] theorem State.resetRegs_lane (s : State) (p : Nat → Bool) : (s.resetRegs p).lane = s.lane := rfl
@[simp] theorem State.resetRegs_clk (s : State) (p : Nat → Bool) : (s.resetRegs p).clk = s.clk := rfl
@[simp] theorem State.resetRegs_dev (s : State) (p : Nat → Bool) : (s.resetRegs p).dev = s.dev := rfl
@[simp] theorem State.resetRegs_dbg (s : State) (p : Nat → Bool) : (s.resetRegs p).dbg = s.dbg := rfl
@[simp] theorem State.resetRegs_out (s : State) (p : Nat → Bool) : (s.resetRegs p).out = s.out := rfl
@[simp] theorem State.resetRegs_free (s : State) (p : Nat → Bool) : (s.resetRegs p).free = s.free := rfl

/-! ### emit -/

@[simp] theorem State.emit_pending (s : State) (o : Out) : (s.emit o).pending = s.pending := rfl
@[simp] theorem State.emit_regs (s : State) (o : Out) : (s.emit o).regs = s.regs := rfl
@[simp] theorem State.emit_time (s : State) (o : Out) : (s.emit o).time = s.time := rfl
@[simp] theorem State.emit_ev (s : State) (o : Out) : (s.emit o).ev = s.ev := rfl
@[simp] theorem State.emit_host (s : State) (o : Out) : (s.emit o).host = s.host := rfl
@[simp] theorem State.emit_que (s : State) (o : Out) : (s.emit o).que = s.que := rfl
@[simp] theorem State.emit_mem (s : State) (o : Out) : (s.emit o).mem = s.mem := rfl
@[simp] theorem State.emit_col (s : State) (o : Out) : (s.emit o).col = s.col := rfl
@[simp] theorem State.emit_ctx (s : State) (o : Out) : (s.emit o).ctx = s.ctx := rfl
@[simp] theorem State.emit_pace (s : State) (o : Out) : (s.emit o).pace = s.pace := rfl
@[simp] theorem State.emit_mnt (s : State) (o : Out) : (s.emit o).mnt = s.mnt := rfl
@[simp] theorem State.emit_bist (s : State) (o : Out) : (s.emit o).bist = s.bist := rfl
@[simp] theorem State.emit_fb (s : State) (o : Out) : (s.emit o).fb = s.fb := rfl
@[simp] theorem State.emit_core (s : State) (o : Out) : (s.emit o).core = s.core := rfl
@[simp] theorem State.emit_sec (s : State) (o : Out) : (s.emit o).sec = s.sec := rfl
@[simp] theorem State.emit_img (s : State) (o : Out) : (s.emit o).img = s.img := rfl
@[simp] theorem State.emit_pow (s : State) (o : Out) : (s.emit o).pow = s.pow := rfl
@[simp] theorem State.emit_thm (s : State) (o : Out) : (s.emit o).thm = s.thm := rfl
@[simp] theorem State.emit_pins (s : State) (o : Out) : (s.emit o).pins = s.pins := rfl
@[simp] theorem State.emit_tal (s : State) (o : Out) : (s.emit o).tal = s.tal := rfl
@[simp] theorem State.emit_lane (s : State) (o : Out) : (s.emit o).lane = s.lane := rfl
@[simp] theorem State.emit_clk (s : State) (o : Out) : (s.emit o).clk = s.clk := rfl
@[simp] theorem State.emit_dev (s : State) (o : Out) : (s.emit o).dev = s.dev := rfl
@[simp] theorem State.emit_dbg (s : State) (o : Out) : (s.emit o).dbg = s.dbg := rfl
@[simp] theorem State.emit_free (s : State) (o : Out) : (s.emit o).free = s.free := rfl
@[simp] theorem State.rd_emit (s : State) (o : Out) (j : Nat) : (s.emit o).rd j = s.rd j := rfl
@[simp] theorem State.get_emit (s : State) (o : Out) (g : Fld) : (s.emit o).get g = s.get g := rfl
@[simp] theorem State.flag_emit (s : State) (o : Out) (g : Fld) : (s.emit o).flag g = s.flag g := rfl
@[simp] theorem State.bit_emit (s : State) (o : Out) (j i : Nat) : (s.emit o).bit j i = s.bit j i := rfl

/-! ### setRing -/

@[simp] theorem State.setRing_pending (s : State) (n : Nat) (r : Ring) : (s.setRing n r).pending = s.pending := rfl
@[simp] theorem State.setRing_regs (s : State) (n : Nat) (r : Ring) : (s.setRing n r).regs = s.regs := rfl
@[simp] theorem State.setRing_time (s : State) (n : Nat) (r : Ring) : (s.setRing n r).time = s.time := rfl
@[simp] theorem State.setRing_ev (s : State) (n : Nat) (r : Ring) : (s.setRing n r).ev = s.ev := rfl
@[simp] theorem State.setRing_que (s : State) (n : Nat) (r : Ring) : (s.setRing n r).que = s.que := rfl
@[simp] theorem State.setRing_mem (s : State) (n : Nat) (r : Ring) : (s.setRing n r).mem = s.mem := rfl
@[simp] theorem State.setRing_col (s : State) (n : Nat) (r : Ring) : (s.setRing n r).col = s.col := rfl
@[simp] theorem State.setRing_ctx (s : State) (n : Nat) (r : Ring) : (s.setRing n r).ctx = s.ctx := rfl
@[simp] theorem State.setRing_pace (s : State) (n : Nat) (r : Ring) : (s.setRing n r).pace = s.pace := rfl
@[simp] theorem State.setRing_mnt (s : State) (n : Nat) (r : Ring) : (s.setRing n r).mnt = s.mnt := rfl
@[simp] theorem State.setRing_bist (s : State) (n : Nat) (r : Ring) : (s.setRing n r).bist = s.bist := rfl
@[simp] theorem State.setRing_fb (s : State) (n : Nat) (r : Ring) : (s.setRing n r).fb = s.fb := rfl
@[simp] theorem State.setRing_core (s : State) (n : Nat) (r : Ring) : (s.setRing n r).core = s.core := rfl
@[simp] theorem State.setRing_sec (s : State) (n : Nat) (r : Ring) : (s.setRing n r).sec = s.sec := rfl
@[simp] theorem State.setRing_img (s : State) (n : Nat) (r : Ring) : (s.setRing n r).img = s.img := rfl
@[simp] theorem State.setRing_pow (s : State) (n : Nat) (r : Ring) : (s.setRing n r).pow = s.pow := rfl
@[simp] theorem State.setRing_thm (s : State) (n : Nat) (r : Ring) : (s.setRing n r).thm = s.thm := rfl
@[simp] theorem State.setRing_pins (s : State) (n : Nat) (r : Ring) : (s.setRing n r).pins = s.pins := rfl
@[simp] theorem State.setRing_tal (s : State) (n : Nat) (r : Ring) : (s.setRing n r).tal = s.tal := rfl
@[simp] theorem State.setRing_lane (s : State) (n : Nat) (r : Ring) : (s.setRing n r).lane = s.lane := rfl
@[simp] theorem State.setRing_clk (s : State) (n : Nat) (r : Ring) : (s.setRing n r).clk = s.clk := rfl
@[simp] theorem State.setRing_dev (s : State) (n : Nat) (r : Ring) : (s.setRing n r).dev = s.dev := rfl
@[simp] theorem State.setRing_dbg (s : State) (n : Nat) (r : Ring) : (s.setRing n r).dbg = s.dbg := rfl
@[simp] theorem State.setRing_out (s : State) (n : Nat) (r : Ring) : (s.setRing n r).out = s.out := rfl
@[simp] theorem State.setRing_free (s : State) (n : Nat) (r : Ring) : (s.setRing n r).free = s.free := rfl
@[simp] theorem State.rd_setRing (s : State) (n : Nat) (r : Ring) (j : Nat) : (s.setRing n r).rd j = s.rd j := rfl
@[simp] theorem State.get_setRing (s : State) (n : Nat) (r : Ring) (g : Fld) : (s.setRing n r).get g = s.get g := rfl
@[simp] theorem State.flag_setRing (s : State) (n : Nat) (r : Ring) (g : Fld) : (s.setRing n r).flag g = s.flag g := rfl
@[simp] theorem State.bit_setRing (s : State) (n : Nat) (r : Ring) (j i : Nat) : (s.setRing n r).bit j i = s.bit j i := rfl

/-! ### setActs -/

@[simp] theorem State.setActs_pending (s : State) (l : List Act) : (s.setActs l).pending = s.pending := rfl
@[simp] theorem State.setActs_regs (s : State) (l : List Act) : (s.setActs l).regs = s.regs := rfl
@[simp] theorem State.setActs_time (s : State) (l : List Act) : (s.setActs l).time = s.time := rfl
@[simp] theorem State.setActs_ev (s : State) (l : List Act) : (s.setActs l).ev = s.ev := rfl
@[simp] theorem State.setActs_host (s : State) (l : List Act) : (s.setActs l).host = s.host := rfl
@[simp] theorem State.setActs_que (s : State) (l : List Act) : (s.setActs l).que = s.que := rfl
@[simp] theorem State.setActs_mem (s : State) (l : List Act) : (s.setActs l).mem = s.mem := rfl
@[simp] theorem State.setActs_col (s : State) (l : List Act) : (s.setActs l).col = s.col := rfl
@[simp] theorem State.setActs_ctx (s : State) (l : List Act) : (s.setActs l).ctx = s.ctx := rfl
@[simp] theorem State.setActs_pace (s : State) (l : List Act) : (s.setActs l).pace = s.pace := rfl
@[simp] theorem State.setActs_bist (s : State) (l : List Act) : (s.setActs l).bist = s.bist := rfl
@[simp] theorem State.setActs_fb (s : State) (l : List Act) : (s.setActs l).fb = s.fb := rfl
@[simp] theorem State.setActs_core (s : State) (l : List Act) : (s.setActs l).core = s.core := rfl
@[simp] theorem State.setActs_sec (s : State) (l : List Act) : (s.setActs l).sec = s.sec := rfl
@[simp] theorem State.setActs_img (s : State) (l : List Act) : (s.setActs l).img = s.img := rfl
@[simp] theorem State.setActs_pow (s : State) (l : List Act) : (s.setActs l).pow = s.pow := rfl
@[simp] theorem State.setActs_thm (s : State) (l : List Act) : (s.setActs l).thm = s.thm := rfl
@[simp] theorem State.setActs_pins (s : State) (l : List Act) : (s.setActs l).pins = s.pins := rfl
@[simp] theorem State.setActs_tal (s : State) (l : List Act) : (s.setActs l).tal = s.tal := rfl
@[simp] theorem State.setActs_lane (s : State) (l : List Act) : (s.setActs l).lane = s.lane := rfl
@[simp] theorem State.setActs_clk (s : State) (l : List Act) : (s.setActs l).clk = s.clk := rfl
@[simp] theorem State.setActs_dev (s : State) (l : List Act) : (s.setActs l).dev = s.dev := rfl
@[simp] theorem State.setActs_dbg (s : State) (l : List Act) : (s.setActs l).dbg = s.dbg := rfl
@[simp] theorem State.setActs_out (s : State) (l : List Act) : (s.setActs l).out = s.out := rfl
@[simp] theorem State.setActs_free (s : State) (l : List Act) : (s.setActs l).free = s.free := rfl
@[simp] theorem State.rd_setActs (s : State) (l : List Act) (j : Nat) : (s.setActs l).rd j = s.rd j := rfl
@[simp] theorem State.get_setActs (s : State) (l : List Act) (g : Fld) : (s.setActs l).get g = s.get g := rfl
@[simp] theorem State.flag_setActs (s : State) (l : List Act) (g : Fld) : (s.setActs l).flag g = s.flag g := rfl
@[simp] theorem State.bit_setActs (s : State) (l : List Act) (j i : Nat) : (s.setActs l).bit j i = s.bit j i := rfl

/-! ### setCsr -/

@[simp] theorem State.setCsr_pending (s : State) (c n : Nat) (v : Word) : (s.setCsr c n v).pending = s.pending := rfl
@[simp] theorem State.setCsr_regs (s : State) (c n : Nat) (v : Word) : (s.setCsr c n v).regs = s.regs := rfl
@[simp] theorem State.setCsr_time (s : State) (c n : Nat) (v : Word) : (s.setCsr c n v).time = s.time := rfl
@[simp] theorem State.setCsr_ev (s : State) (c n : Nat) (v : Word) : (s.setCsr c n v).ev = s.ev := rfl
@[simp] theorem State.setCsr_host (s : State) (c n : Nat) (v : Word) : (s.setCsr c n v).host = s.host := rfl
@[simp] theorem State.setCsr_que (s : State) (c n : Nat) (v : Word) : (s.setCsr c n v).que = s.que := rfl
@[simp] theorem State.setCsr_mem (s : State) (c n : Nat) (v : Word) : (s.setCsr c n v).mem = s.mem := rfl
@[simp] theorem State.setCsr_col (s : State) (c n : Nat) (v : Word) : (s.setCsr c n v).col = s.col := rfl
@[simp] theorem State.setCsr_ctx (s : State) (c n : Nat) (v : Word) : (s.setCsr c n v).ctx = s.ctx := rfl
@[simp] theorem State.setCsr_pace (s : State) (c n : Nat) (v : Word) : (s.setCsr c n v).pace = s.pace := rfl
@[simp] theorem State.setCsr_mnt (s : State) (c n : Nat) (v : Word) : (s.setCsr c n v).mnt = s.mnt := rfl
@[simp] theorem State.setCsr_bist (s : State) (c n : Nat) (v : Word) : (s.setCsr c n v).bist = s.bist := rfl
@[simp] theorem State.setCsr_fb (s : State) (c n : Nat) (v : Word) : (s.setCsr c n v).fb = s.fb := rfl
@[simp] theorem State.setCsr_sec (s : State) (c n : Nat) (v : Word) : (s.setCsr c n v).sec = s.sec := rfl
@[simp] theorem State.setCsr_img (s : State) (c n : Nat) (v : Word) : (s.setCsr c n v).img = s.img := rfl
@[simp] theorem State.setCsr_pow (s : State) (c n : Nat) (v : Word) : (s.setCsr c n v).pow = s.pow := rfl
@[simp] theorem State.setCsr_thm (s : State) (c n : Nat) (v : Word) : (s.setCsr c n v).thm = s.thm := rfl
@[simp] theorem State.setCsr_pins (s : State) (c n : Nat) (v : Word) : (s.setCsr c n v).pins = s.pins := rfl
@[simp] theorem State.setCsr_tal (s : State) (c n : Nat) (v : Word) : (s.setCsr c n v).tal = s.tal := rfl
@[simp] theorem State.setCsr_lane (s : State) (c n : Nat) (v : Word) : (s.setCsr c n v).lane = s.lane := rfl
@[simp] theorem State.setCsr_clk (s : State) (c n : Nat) (v : Word) : (s.setCsr c n v).clk = s.clk := rfl
@[simp] theorem State.setCsr_dev (s : State) (c n : Nat) (v : Word) : (s.setCsr c n v).dev = s.dev := rfl
@[simp] theorem State.setCsr_dbg (s : State) (c n : Nat) (v : Word) : (s.setCsr c n v).dbg = s.dbg := rfl
@[simp] theorem State.setCsr_out (s : State) (c n : Nat) (v : Word) : (s.setCsr c n v).out = s.out := rfl
@[simp] theorem State.setCsr_free (s : State) (c n : Nat) (v : Word) : (s.setCsr c n v).free = s.free := rfl
@[simp] theorem State.rd_setCsr (s : State) (c n : Nat) (v : Word) (j : Nat) : (s.setCsr c n v).rd j = s.rd j := rfl
@[simp] theorem State.get_setCsr (s : State) (c n : Nat) (v : Word) (g : Fld) : (s.setCsr c n v).get g = s.get g := rfl
@[simp] theorem State.flag_setCsr (s : State) (c n : Nat) (v : Word) (g : Fld) : (s.setCsr c n v).flag g = s.flag g := rfl
@[simp] theorem State.bit_setCsr (s : State) (c n : Nat) (v : Word) (j i : Nat) : (s.setCsr c n v).bit j i = s.bit j i := rfl

/-! ### putWord -/

@[simp] theorem State.putWord_pending (s : State) (b w : Nat) (x : MemWord) : (s.putWord b w x).pending = s.pending := rfl
@[simp] theorem State.putWord_regs (s : State) (b w : Nat) (x : MemWord) : (s.putWord b w x).regs = s.regs := rfl
@[simp] theorem State.putWord_time (s : State) (b w : Nat) (x : MemWord) : (s.putWord b w x).time = s.time := rfl
@[simp] theorem State.putWord_ev (s : State) (b w : Nat) (x : MemWord) : (s.putWord b w x).ev = s.ev := rfl
@[simp] theorem State.putWord_host (s : State) (b w : Nat) (x : MemWord) : (s.putWord b w x).host = s.host := rfl
@[simp] theorem State.putWord_que (s : State) (b w : Nat) (x : MemWord) : (s.putWord b w x).que = s.que := rfl
@[simp] theorem State.putWord_col (s : State) (b w : Nat) (x : MemWord) : (s.putWord b w x).col = s.col := rfl
@[simp] theorem State.putWord_ctx (s : State) (b w : Nat) (x : MemWord) : (s.putWord b w x).ctx = s.ctx := rfl
@[simp] theorem State.putWord_pace (s : State) (b w : Nat) (x : MemWord) : (s.putWord b w x).pace = s.pace := rfl
@[simp] theorem State.putWord_mnt (s : State) (b w : Nat) (x : MemWord) : (s.putWord b w x).mnt = s.mnt := rfl
@[simp] theorem State.putWord_bist (s : State) (b w : Nat) (x : MemWord) : (s.putWord b w x).bist = s.bist := rfl
@[simp] theorem State.putWord_fb (s : State) (b w : Nat) (x : MemWord) : (s.putWord b w x).fb = s.fb := rfl
@[simp] theorem State.putWord_core (s : State) (b w : Nat) (x : MemWord) : (s.putWord b w x).core = s.core := rfl
@[simp] theorem State.putWord_sec (s : State) (b w : Nat) (x : MemWord) : (s.putWord b w x).sec = s.sec := rfl
@[simp] theorem State.putWord_img (s : State) (b w : Nat) (x : MemWord) : (s.putWord b w x).img = s.img := rfl
@[simp] theorem State.putWord_pow (s : State) (b w : Nat) (x : MemWord) : (s.putWord b w x).pow = s.pow := rfl
@[simp] theorem State.putWord_thm (s : State) (b w : Nat) (x : MemWord) : (s.putWord b w x).thm = s.thm := rfl
@[simp] theorem State.putWord_pins (s : State) (b w : Nat) (x : MemWord) : (s.putWord b w x).pins = s.pins := rfl
@[simp] theorem State.putWord_tal (s : State) (b w : Nat) (x : MemWord) : (s.putWord b w x).tal = s.tal := rfl
@[simp] theorem State.putWord_lane (s : State) (b w : Nat) (x : MemWord) : (s.putWord b w x).lane = s.lane := rfl
@[simp] theorem State.putWord_clk (s : State) (b w : Nat) (x : MemWord) : (s.putWord b w x).clk = s.clk := rfl
@[simp] theorem State.putWord_dev (s : State) (b w : Nat) (x : MemWord) : (s.putWord b w x).dev = s.dev := rfl
@[simp] theorem State.putWord_dbg (s : State) (b w : Nat) (x : MemWord) : (s.putWord b w x).dbg = s.dbg := rfl
@[simp] theorem State.putWord_out (s : State) (b w : Nat) (x : MemWord) : (s.putWord b w x).out = s.out := rfl
@[simp] theorem State.putWord_free (s : State) (b w : Nat) (x : MemWord) : (s.putWord b w x).free = s.free := rfl
@[simp] theorem State.rd_putWord (s : State) (b w : Nat) (x : MemWord) (j : Nat) : (s.putWord b w x).rd j = s.rd j := rfl
@[simp] theorem State.get_putWord (s : State) (b w : Nat) (x : MemWord) (g : Fld) : (s.putWord b w x).get g = s.get g := rfl
@[simp] theorem State.flag_putWord (s : State) (b w : Nat) (x : MemWord) (g : Fld) : (s.putWord b w x).flag g = s.flag g := rfl
@[simp] theorem State.bit_putWord (s : State) (b w : Nat) (x : MemWord) (j i : Nat) : (s.putWord b w x).bit j i = s.bit j i := rfl

/-! ### Record updates that leave the register file alone -/

@[simp] theorem State.rd_mk (s : State) {x_pending : List Instr} {x_time : Word} {x_ev : EvState} {x_host : HostState} {x_que : QueState} {x_mem : MemState} {x_col : ColState} {x_ctx : CtxState} {x_pace : PaceState} {x_mnt : MntState} {x_bist : BistState} {x_fb : FbState} {x_core : CoreState} {x_sec : SecState} {x_img : ImgState} {x_pow : PowState} {x_thm : ThmState} {x_pins : PinState} {x_tal : TalState} {x_lane : LaneState} {x_clk : ClkState} {x_dev : DevState} {x_dbg : DbgState} {x_out : List Out} {x_free : Nat} (j : Nat) :
    (State.mk x_pending s.regs x_time x_ev x_host x_que x_mem x_col x_ctx x_pace x_mnt x_bist x_fb x_core x_sec x_img x_pow x_thm x_pins x_tal x_lane x_clk x_dev x_dbg x_out x_free).rd j = s.rd j := rfl
@[simp] theorem State.get_mk (s : State) {x_pending : List Instr} {x_time : Word} {x_ev : EvState} {x_host : HostState} {x_que : QueState} {x_mem : MemState} {x_col : ColState} {x_ctx : CtxState} {x_pace : PaceState} {x_mnt : MntState} {x_bist : BistState} {x_fb : FbState} {x_core : CoreState} {x_sec : SecState} {x_img : ImgState} {x_pow : PowState} {x_thm : ThmState} {x_pins : PinState} {x_tal : TalState} {x_lane : LaneState} {x_clk : ClkState} {x_dev : DevState} {x_dbg : DbgState} {x_out : List Out} {x_free : Nat} (g : Fld) :
    (State.mk x_pending s.regs x_time x_ev x_host x_que x_mem x_col x_ctx x_pace x_mnt x_bist x_fb x_core x_sec x_img x_pow x_thm x_pins x_tal x_lane x_clk x_dev x_dbg x_out x_free).get g = s.get g := rfl
@[simp] theorem State.flag_mk (s : State) {x_pending : List Instr} {x_time : Word} {x_ev : EvState} {x_host : HostState} {x_que : QueState} {x_mem : MemState} {x_col : ColState} {x_ctx : CtxState} {x_pace : PaceState} {x_mnt : MntState} {x_bist : BistState} {x_fb : FbState} {x_core : CoreState} {x_sec : SecState} {x_img : ImgState} {x_pow : PowState} {x_thm : ThmState} {x_pins : PinState} {x_tal : TalState} {x_lane : LaneState} {x_clk : ClkState} {x_dev : DevState} {x_dbg : DbgState} {x_out : List Out} {x_free : Nat} (g : Fld) :
    (State.mk x_pending s.regs x_time x_ev x_host x_que x_mem x_col x_ctx x_pace x_mnt x_bist x_fb x_core x_sec x_img x_pow x_thm x_pins x_tal x_lane x_clk x_dev x_dbg x_out x_free).flag g = s.flag g := rfl
@[simp] theorem State.bit_mk (s : State) {x_pending : List Instr} {x_time : Word} {x_ev : EvState} {x_host : HostState} {x_que : QueState} {x_mem : MemState} {x_col : ColState} {x_ctx : CtxState} {x_pace : PaceState} {x_mnt : MntState} {x_bist : BistState} {x_fb : FbState} {x_core : CoreState} {x_sec : SecState} {x_img : ImgState} {x_pow : PowState} {x_thm : ThmState} {x_pins : PinState} {x_tal : TalState} {x_lane : LaneState} {x_clk : ClkState} {x_dev : DevState} {x_dbg : DbgState} {x_out : List Out} {x_free : Nat} (j i : Nat) :
    (State.mk x_pending s.regs x_time x_ev x_host x_que x_mem x_col x_ctx x_pace x_mnt x_bist x_fb x_core x_sec x_img x_pow x_thm x_pins x_tal x_lane x_clk x_dev x_dbg x_out x_free).bit j i = s.bit j i := rfl

/-! ### raiseRaw -/

@[simp] theorem State.raiseRaw_pending (s : State) (code src status : Nat) (data : BitVec 112) (trigger : Option Nat) : (s.raiseRaw code src status data trigger).pending = s.pending := (raiseRaw_books _ _ _ _ _ (Books.refl s)).keeps.pending
@[simp] theorem State.raiseRaw_time (s : State) (code src status : Nat) (data : BitVec 112) (trigger : Option Nat) : (s.raiseRaw code src status data trigger).time = s.time := (raiseRaw_books _ _ _ _ _ (Books.refl s)).time
@[simp] theorem State.raiseRaw_que (s : State) (code src status : Nat) (data : BitVec 112) (trigger : Option Nat) : (s.raiseRaw code src status data trigger).que = s.que := (raiseRaw_books _ _ _ _ _ (Books.refl s)).que
@[simp] theorem State.raiseRaw_mem (s : State) (code src status : Nat) (data : BitVec 112) (trigger : Option Nat) : (s.raiseRaw code src status data trigger).mem = s.mem := (raiseRaw_books _ _ _ _ _ (Books.refl s)).mem
@[simp] theorem State.raiseRaw_col (s : State) (code src status : Nat) (data : BitVec 112) (trigger : Option Nat) : (s.raiseRaw code src status data trigger).col = s.col := (raiseRaw_books _ _ _ _ _ (Books.refl s)).col
@[simp] theorem State.raiseRaw_ctx (s : State) (code src status : Nat) (data : BitVec 112) (trigger : Option Nat) : (s.raiseRaw code src status data trigger).ctx = s.ctx := (raiseRaw_books _ _ _ _ _ (Books.refl s)).ctx
@[simp] theorem State.raiseRaw_pace (s : State) (code src status : Nat) (data : BitVec 112) (trigger : Option Nat) : (s.raiseRaw code src status data trigger).pace = s.pace := (raiseRaw_books _ _ _ _ _ (Books.refl s)).pace
@[simp] theorem State.raiseRaw_bist (s : State) (code src status : Nat) (data : BitVec 112) (trigger : Option Nat) : (s.raiseRaw code src status data trigger).bist = s.bist := (raiseRaw_books _ _ _ _ _ (Books.refl s)).bist
@[simp] theorem State.raiseRaw_sec (s : State) (code src status : Nat) (data : BitVec 112) (trigger : Option Nat) : (s.raiseRaw code src status data trigger).sec = s.sec := (raiseRaw_books _ _ _ _ _ (Books.refl s)).sec
@[simp] theorem State.raiseRaw_img (s : State) (code src status : Nat) (data : BitVec 112) (trigger : Option Nat) : (s.raiseRaw code src status data trigger).img = s.img := (raiseRaw_books _ _ _ _ _ (Books.refl s)).img
@[simp] theorem State.raiseRaw_pow (s : State) (code src status : Nat) (data : BitVec 112) (trigger : Option Nat) : (s.raiseRaw code src status data trigger).pow = s.pow := (raiseRaw_books _ _ _ _ _ (Books.refl s)).pow
@[simp] theorem State.raiseRaw_thm (s : State) (code src status : Nat) (data : BitVec 112) (trigger : Option Nat) : (s.raiseRaw code src status data trigger).thm = s.thm := (raiseRaw_books _ _ _ _ _ (Books.refl s)).thm
@[simp] theorem State.raiseRaw_pins (s : State) (code src status : Nat) (data : BitVec 112) (trigger : Option Nat) : (s.raiseRaw code src status data trigger).pins = s.pins := (raiseRaw_books _ _ _ _ _ (Books.refl s)).pins
@[simp] theorem State.raiseRaw_tal (s : State) (code src status : Nat) (data : BitVec 112) (trigger : Option Nat) : (s.raiseRaw code src status data trigger).tal = s.tal := (raiseRaw_books _ _ _ _ _ (Books.refl s)).tal
@[simp] theorem State.raiseRaw_lane (s : State) (code src status : Nat) (data : BitVec 112) (trigger : Option Nat) : (s.raiseRaw code src status data trigger).lane = s.lane := (raiseRaw_books _ _ _ _ _ (Books.refl s)).lane
@[simp] theorem State.raiseRaw_clk (s : State) (code src status : Nat) (data : BitVec 112) (trigger : Option Nat) : (s.raiseRaw code src status data trigger).clk = s.clk := (raiseRaw_books _ _ _ _ _ (Books.refl s)).clk
@[simp] theorem State.raiseRaw_dev (s : State) (code src status : Nat) (data : BitVec 112) (trigger : Option Nat) : (s.raiseRaw code src status data trigger).dev = s.dev := (raiseRaw_books _ _ _ _ _ (Books.refl s)).dev
@[simp] theorem State.raiseRaw_dbg (s : State) (code src status : Nat) (data : BitVec 112) (trigger : Option Nat) : (s.raiseRaw code src status data trigger).dbg = s.dbg := (raiseRaw_books _ _ _ _ _ (Books.refl s)).dbg
@[simp] theorem State.raiseRaw_free (s : State) (code src status : Nat) (data : BitVec 112) (trigger : Option Nat) : (s.raiseRaw code src status data trigger).free = s.free := (raiseRaw_books _ _ _ _ _ (Books.refl s)).free
@[simp] theorem State.raiseRaw_mnt_again (s : State) (code src status : Nat) (data : BitVec 112) (trigger : Option Nat) : (s.raiseRaw code src status data trigger).mnt.again = s.mnt.again := (raiseRaw_books _ _ _ _ _ (Books.refl s)).mnt_again
@[simp] theorem State.raiseRaw_mnt_wanted (s : State) (code src status : Nat) (data : BitVec 112) (trigger : Option Nat) : (s.raiseRaw code src status data trigger).mnt.wanted = s.mnt.wanted := (raiseRaw_books _ _ _ _ _ (Books.refl s)).mnt_wanted
@[simp] theorem State.raiseRaw_mnt_matMap (s : State) (code src status : Nat) (data : BitVec 112) (trigger : Option Nat) : (s.raiseRaw code src status data trigger).mnt.matMap = s.mnt.matMap := (raiseRaw_books _ _ _ _ _ (Books.refl s)).mnt_matMap
@[simp] theorem State.raiseRaw_mnt_bankMap (s : State) (code src status : Nat) (data : BitVec 112) (trigger : Option Nat) : (s.raiseRaw code src status data trigger).mnt.bankMap = s.mnt.bankMap := (raiseRaw_books _ _ _ _ _ (Books.refl s)).mnt_bankMap
@[simp] theorem State.raiseRaw_mnt_retired (s : State) (code src status : Nat) (data : BitVec 112) (trigger : Option Nat) : (s.raiseRaw code src status data trigger).mnt.retired = s.mnt.retired := (raiseRaw_books _ _ _ _ _ (Books.refl s)).mnt_retired
@[simp] theorem State.raiseRaw_mnt_stopped (s : State) (code src status : Nat) (data : BitVec 112) (trigger : Option Nat) : (s.raiseRaw code src status data trigger).mnt.stopped = s.mnt.stopped := (raiseRaw_books _ _ _ _ _ (Books.refl s)).mnt_stopped
@[simp] theorem State.raiseRaw_mnt_lost (s : State) (code src status : Nat) (data : BitVec 112) (trigger : Option Nat) : (s.raiseRaw code src status data trigger).mnt.lost = s.mnt.lost := (raiseRaw_books _ _ _ _ _ (Books.refl s)).mnt_lost
@[simp] theorem State.raiseRaw_mnt_fwPhase (s : State) (code src status : Nat) (data : BitVec 112) (trigger : Option Nat) : (s.raiseRaw code src status data trigger).mnt.fwPhase = s.mnt.fwPhase := (raiseRaw_books _ _ _ _ _ (Books.refl s)).mnt_fwPhase
@[simp] theorem State.raiseRaw_mnt_fwAt (s : State) (code src status : Nat) (data : BitVec 112) (trigger : Option Nat) : (s.raiseRaw code src status data trigger).mnt.fwAt = s.mnt.fwAt := (raiseRaw_books _ _ _ _ _ (Books.refl s)).mnt_fwAt
@[simp] theorem State.raiseRaw_mnt_fwCopies (s : State) (code src status : Nat) (data : BitVec 112) (trigger : Option Nat) : (s.raiseRaw code src status data trigger).mnt.fwCopies = s.mnt.fwCopies := (raiseRaw_books _ _ _ _ _ (Books.refl s)).mnt_fwCopies
@[simp] theorem State.raiseRaw_mnt_fwStaged (s : State) (code src status : Nat) (data : BitVec 112) (trigger : Option Nat) : (s.raiseRaw code src status data trigger).mnt.fwStaged = s.mnt.fwStaged := (raiseRaw_books _ _ _ _ _ (Books.refl s)).mnt_fwStaged
@[simp] theorem State.raiseRaw_mnt_chains (s : State) (code src status : Nat) (data : BitVec 112) (trigger : Option Nat) : (s.raiseRaw code src status data trigger).mnt.chains = s.mnt.chains := (raiseRaw_books _ _ _ _ _ (Books.refl s)).mnt_chains
@[simp] theorem State.raiseRaw_core_cores (s : State) (code src status : Nat) (data : BitVec 112) (trigger : Option Nat) : (s.raiseRaw code src status data trigger).core.cores = s.core.cores := (raiseRaw_books _ _ _ _ _ (Books.refl s)).core_cores
@[simp] theorem State.raiseRaw_core_sram (s : State) (code src status : Nat) (data : BitVec 112) (trigger : Option Nat) : (s.raiseRaw code src status data trigger).core.sram = s.core.sram := (raiseRaw_books _ _ _ _ _ (Books.refl s)).core_sram
@[simp] theorem State.raiseRaw_core_lock (s : State) (code src status : Nat) (data : BitVec 112) (trigger : Option Nat) : (s.raiseRaw code src status data trigger).core.lock = s.core.lock := (raiseRaw_books _ _ _ _ _ (Books.refl s)).core_lock
@[simp] theorem State.raiseRaw_core_progs (s : State) (code src status : Nat) (data : BitVec 112) (trigger : Option Nat) : (s.raiseRaw code src status data trigger).core.progs = s.core.progs := (raiseRaw_books _ _ _ _ _ (Books.refl s)).core_progs
@[simp] theorem State.raiseRaw_host_cmds (s : State) (code src status : Nat) (data : BitVec 112) (trigger : Option Nat) : (s.raiseRaw code src status data trigger).host.cmds = s.host.cmds := (raiseRaw_books _ _ _ _ _ (Books.refl s)).host_cmds
@[simp] theorem State.raiseRaw_host_hbAt (s : State) (code src status : Nat) (data : BitVec 112) (trigger : Option Nat) : (s.raiseRaw code src status data trigger).host.hbAt = s.host.hbAt := (raiseRaw_books _ _ _ _ _ (Books.refl s)).host_hbAt
@[simp] theorem State.raiseRaw_host_hbRun (s : State) (code src status : Nat) (data : BitVec 112) (trigger : Option Nat) : (s.raiseRaw code src status data trigger).host.hbRun = s.host.hbRun := (raiseRaw_books _ _ _ _ _ (Books.refl s)).host_hbRun
@[simp] theorem State.raiseRaw_host_absentAt (s : State) (code src status : Nat) (data : BitVec 112) (trigger : Option Nat) : (s.raiseRaw code src status data trigger).host.absentAt = s.host.absentAt := (raiseRaw_books _ _ _ _ _ (Books.refl s)).host_absentAt
@[simp] theorem State.raiseRaw_host_perst (s : State) (code src status : Nat) (data : BitVec 112) (trigger : Option Nat) : (s.raiseRaw code src status data trigger).host.perst = s.host.perst := (raiseRaw_books _ _ _ _ _ (Books.refl s)).host_perst
@[simp] theorem State.raiseRaw_host_latch (s : State) (code src status : Nat) (data : BitVec 112) (trigger : Option Nat) : (s.raiseRaw code src status data trigger).host.latch = s.host.latch := (raiseRaw_books _ _ _ _ _ (Books.refl s)).host_latch
@[simp] theorem State.raiseRaw_host_window (s : State) (code src status : Nat) (data : BitVec 112) (trigger : Option Nat) : (s.raiseRaw code src status data trigger).host.window = s.host.window := (raiseRaw_books _ _ _ _ _ (Books.refl s)).host_window
@[simp] theorem State.raiseRaw_host_pf0 (s : State) (code src status : Nat) (data : BitVec 112) (trigger : Option Nat) : (s.raiseRaw code src status data trigger).host.pf0 = s.host.pf0 := (raiseRaw_books _ _ _ _ _ (Books.refl s)).host_pf0
@[simp] theorem State.raiseRaw_host_pf1 (s : State) (code src status : Nat) (data : BitVec 112) (trigger : Option Nat) : (s.raiseRaw code src status data trigger).host.pf1 = s.host.pf1 := (raiseRaw_books _ _ _ _ _ (Books.refl s)).host_pf1
@[simp] theorem State.raiseRaw_fb_pages (s : State) (code src status : Nat) (data : BitVec 112) (trigger : Option Nat) : (s.raiseRaw code src status data trigger).fb.pages = s.fb.pages := (raiseRaw_books _ _ _ _ _ (Books.refl s)).fb_pages
@[simp] theorem State.raiseRaw_fb_markRef (s : State) (code src status : Nat) (data : BitVec 112) (trigger : Option Nat) : (s.raiseRaw code src status data trigger).fb.markRef = s.fb.markRef := (raiseRaw_books _ _ _ _ _ (Books.refl s)).fb_markRef
@[simp] theorem State.raiseRaw_fb_wearRaised (s : State) (code src status : Nat) (data : BitVec 112) (trigger : Option Nat) : (s.raiseRaw code src status data trigger).fb.wearRaised = s.fb.wearRaised := (raiseRaw_books _ _ _ _ _ (Books.refl s)).fb_wearRaised
@[simp] theorem State.rd_raiseRaw (s : State) (code src status : Nat) (data : BitVec 112) (trigger : Option Nat) {j : Nat} (h : j ∉ bookKeys) : (s.raiseRaw code src status data trigger).rd j = s.rd j :=
  (raiseRaw_books _ _ _ _ _ (Books.refl s)).regs _ h
@[simp] theorem State.get_raiseRaw (s : State) (code src status : Nat) (data : BitVec 112) (trigger : Option Nat) {g : Fld} (h : g.reg ∉ bookKeys) : (s.raiseRaw code src status data trigger).get g = s.get g :=
  (raiseRaw_books _ _ _ _ _ (Books.refl s)).get h
@[simp] theorem State.flag_raiseRaw (s : State) (code src status : Nat) (data : BitVec 112) (trigger : Option Nat) {g : Fld} (h : g.reg ∉ bookKeys) : (s.raiseRaw code src status data trigger).flag g = s.flag g :=
  (raiseRaw_books _ _ _ _ _ (Books.refl s)).flag h
@[simp] theorem State.bit_raiseRaw (s : State) (code src status : Nat) (data : BitVec 112) (trigger : Option Nat) {j : Nat} (h : j ∉ bookKeys) (i : Nat) : (s.raiseRaw code src status data trigger).bit j i = s.bit j i :=
  State.flag_raiseRaw s code src status data trigger (g := ⟨j, i, 1⟩) h

/-! ### raise -/

@[simp] theorem State.raise_pending (s : State) (code src : Nat) (data : List (Nat × Nat × Nat)) : (s.raise code src data).pending = s.pending := (raise_books _ _ _ (Books.refl s)).keeps.pending
@[simp] theorem State.raise_time (s : State) (code src : Nat) (data : List (Nat × Nat × Nat)) : (s.raise code src data).time = s.time := (raise_books _ _ _ (Books.refl s)).time
@[simp] theorem State.raise_que (s : State) (code src : Nat) (data : List (Nat × Nat × Nat)) : (s.raise code src data).que = s.que := (raise_books _ _ _ (Books.refl s)).que
@[simp] theorem State.raise_mem (s : State) (code src : Nat) (data : List (Nat × Nat × Nat)) : (s.raise code src data).mem = s.mem := (raise_books _ _ _ (Books.refl s)).mem
@[simp] theorem State.raise_col (s : State) (code src : Nat) (data : List (Nat × Nat × Nat)) : (s.raise code src data).col = s.col := (raise_books _ _ _ (Books.refl s)).col
@[simp] theorem State.raise_ctx (s : State) (code src : Nat) (data : List (Nat × Nat × Nat)) : (s.raise code src data).ctx = s.ctx := (raise_books _ _ _ (Books.refl s)).ctx
@[simp] theorem State.raise_pace (s : State) (code src : Nat) (data : List (Nat × Nat × Nat)) : (s.raise code src data).pace = s.pace := (raise_books _ _ _ (Books.refl s)).pace
@[simp] theorem State.raise_bist (s : State) (code src : Nat) (data : List (Nat × Nat × Nat)) : (s.raise code src data).bist = s.bist := (raise_books _ _ _ (Books.refl s)).bist
@[simp] theorem State.raise_sec (s : State) (code src : Nat) (data : List (Nat × Nat × Nat)) : (s.raise code src data).sec = s.sec := (raise_books _ _ _ (Books.refl s)).sec
@[simp] theorem State.raise_img (s : State) (code src : Nat) (data : List (Nat × Nat × Nat)) : (s.raise code src data).img = s.img := (raise_books _ _ _ (Books.refl s)).img
@[simp] theorem State.raise_pow (s : State) (code src : Nat) (data : List (Nat × Nat × Nat)) : (s.raise code src data).pow = s.pow := (raise_books _ _ _ (Books.refl s)).pow
@[simp] theorem State.raise_thm (s : State) (code src : Nat) (data : List (Nat × Nat × Nat)) : (s.raise code src data).thm = s.thm := (raise_books _ _ _ (Books.refl s)).thm
@[simp] theorem State.raise_pins (s : State) (code src : Nat) (data : List (Nat × Nat × Nat)) : (s.raise code src data).pins = s.pins := (raise_books _ _ _ (Books.refl s)).pins
@[simp] theorem State.raise_tal (s : State) (code src : Nat) (data : List (Nat × Nat × Nat)) : (s.raise code src data).tal = s.tal := (raise_books _ _ _ (Books.refl s)).tal
@[simp] theorem State.raise_lane (s : State) (code src : Nat) (data : List (Nat × Nat × Nat)) : (s.raise code src data).lane = s.lane := (raise_books _ _ _ (Books.refl s)).lane
@[simp] theorem State.raise_clk (s : State) (code src : Nat) (data : List (Nat × Nat × Nat)) : (s.raise code src data).clk = s.clk := (raise_books _ _ _ (Books.refl s)).clk
@[simp] theorem State.raise_dev (s : State) (code src : Nat) (data : List (Nat × Nat × Nat)) : (s.raise code src data).dev = s.dev := (raise_books _ _ _ (Books.refl s)).dev
@[simp] theorem State.raise_dbg (s : State) (code src : Nat) (data : List (Nat × Nat × Nat)) : (s.raise code src data).dbg = s.dbg := (raise_books _ _ _ (Books.refl s)).dbg
@[simp] theorem State.raise_free (s : State) (code src : Nat) (data : List (Nat × Nat × Nat)) : (s.raise code src data).free = s.free := (raise_books _ _ _ (Books.refl s)).free
@[simp] theorem State.raise_mnt_again (s : State) (code src : Nat) (data : List (Nat × Nat × Nat)) : (s.raise code src data).mnt.again = s.mnt.again := (raise_books _ _ _ (Books.refl s)).mnt_again
@[simp] theorem State.raise_mnt_wanted (s : State) (code src : Nat) (data : List (Nat × Nat × Nat)) : (s.raise code src data).mnt.wanted = s.mnt.wanted := (raise_books _ _ _ (Books.refl s)).mnt_wanted
@[simp] theorem State.raise_mnt_matMap (s : State) (code src : Nat) (data : List (Nat × Nat × Nat)) : (s.raise code src data).mnt.matMap = s.mnt.matMap := (raise_books _ _ _ (Books.refl s)).mnt_matMap
@[simp] theorem State.raise_mnt_bankMap (s : State) (code src : Nat) (data : List (Nat × Nat × Nat)) : (s.raise code src data).mnt.bankMap = s.mnt.bankMap := (raise_books _ _ _ (Books.refl s)).mnt_bankMap
@[simp] theorem State.raise_mnt_retired (s : State) (code src : Nat) (data : List (Nat × Nat × Nat)) : (s.raise code src data).mnt.retired = s.mnt.retired := (raise_books _ _ _ (Books.refl s)).mnt_retired
@[simp] theorem State.raise_mnt_stopped (s : State) (code src : Nat) (data : List (Nat × Nat × Nat)) : (s.raise code src data).mnt.stopped = s.mnt.stopped := (raise_books _ _ _ (Books.refl s)).mnt_stopped
@[simp] theorem State.raise_mnt_lost (s : State) (code src : Nat) (data : List (Nat × Nat × Nat)) : (s.raise code src data).mnt.lost = s.mnt.lost := (raise_books _ _ _ (Books.refl s)).mnt_lost
@[simp] theorem State.raise_mnt_fwPhase (s : State) (code src : Nat) (data : List (Nat × Nat × Nat)) : (s.raise code src data).mnt.fwPhase = s.mnt.fwPhase := (raise_books _ _ _ (Books.refl s)).mnt_fwPhase
@[simp] theorem State.raise_mnt_fwAt (s : State) (code src : Nat) (data : List (Nat × Nat × Nat)) : (s.raise code src data).mnt.fwAt = s.mnt.fwAt := (raise_books _ _ _ (Books.refl s)).mnt_fwAt
@[simp] theorem State.raise_mnt_fwCopies (s : State) (code src : Nat) (data : List (Nat × Nat × Nat)) : (s.raise code src data).mnt.fwCopies = s.mnt.fwCopies := (raise_books _ _ _ (Books.refl s)).mnt_fwCopies
@[simp] theorem State.raise_mnt_fwStaged (s : State) (code src : Nat) (data : List (Nat × Nat × Nat)) : (s.raise code src data).mnt.fwStaged = s.mnt.fwStaged := (raise_books _ _ _ (Books.refl s)).mnt_fwStaged
@[simp] theorem State.raise_mnt_chains (s : State) (code src : Nat) (data : List (Nat × Nat × Nat)) : (s.raise code src data).mnt.chains = s.mnt.chains := (raise_books _ _ _ (Books.refl s)).mnt_chains
@[simp] theorem State.raise_core_cores (s : State) (code src : Nat) (data : List (Nat × Nat × Nat)) : (s.raise code src data).core.cores = s.core.cores := (raise_books _ _ _ (Books.refl s)).core_cores
@[simp] theorem State.raise_core_sram (s : State) (code src : Nat) (data : List (Nat × Nat × Nat)) : (s.raise code src data).core.sram = s.core.sram := (raise_books _ _ _ (Books.refl s)).core_sram
@[simp] theorem State.raise_core_lock (s : State) (code src : Nat) (data : List (Nat × Nat × Nat)) : (s.raise code src data).core.lock = s.core.lock := (raise_books _ _ _ (Books.refl s)).core_lock
@[simp] theorem State.raise_core_progs (s : State) (code src : Nat) (data : List (Nat × Nat × Nat)) : (s.raise code src data).core.progs = s.core.progs := (raise_books _ _ _ (Books.refl s)).core_progs
@[simp] theorem State.raise_host_cmds (s : State) (code src : Nat) (data : List (Nat × Nat × Nat)) : (s.raise code src data).host.cmds = s.host.cmds := (raise_books _ _ _ (Books.refl s)).host_cmds
@[simp] theorem State.raise_host_hbAt (s : State) (code src : Nat) (data : List (Nat × Nat × Nat)) : (s.raise code src data).host.hbAt = s.host.hbAt := (raise_books _ _ _ (Books.refl s)).host_hbAt
@[simp] theorem State.raise_host_hbRun (s : State) (code src : Nat) (data : List (Nat × Nat × Nat)) : (s.raise code src data).host.hbRun = s.host.hbRun := (raise_books _ _ _ (Books.refl s)).host_hbRun
@[simp] theorem State.raise_host_absentAt (s : State) (code src : Nat) (data : List (Nat × Nat × Nat)) : (s.raise code src data).host.absentAt = s.host.absentAt := (raise_books _ _ _ (Books.refl s)).host_absentAt
@[simp] theorem State.raise_host_perst (s : State) (code src : Nat) (data : List (Nat × Nat × Nat)) : (s.raise code src data).host.perst = s.host.perst := (raise_books _ _ _ (Books.refl s)).host_perst
@[simp] theorem State.raise_host_latch (s : State) (code src : Nat) (data : List (Nat × Nat × Nat)) : (s.raise code src data).host.latch = s.host.latch := (raise_books _ _ _ (Books.refl s)).host_latch
@[simp] theorem State.raise_host_window (s : State) (code src : Nat) (data : List (Nat × Nat × Nat)) : (s.raise code src data).host.window = s.host.window := (raise_books _ _ _ (Books.refl s)).host_window
@[simp] theorem State.raise_host_pf0 (s : State) (code src : Nat) (data : List (Nat × Nat × Nat)) : (s.raise code src data).host.pf0 = s.host.pf0 := (raise_books _ _ _ (Books.refl s)).host_pf0
@[simp] theorem State.raise_host_pf1 (s : State) (code src : Nat) (data : List (Nat × Nat × Nat)) : (s.raise code src data).host.pf1 = s.host.pf1 := (raise_books _ _ _ (Books.refl s)).host_pf1
@[simp] theorem State.raise_fb_pages (s : State) (code src : Nat) (data : List (Nat × Nat × Nat)) : (s.raise code src data).fb.pages = s.fb.pages := (raise_books _ _ _ (Books.refl s)).fb_pages
@[simp] theorem State.raise_fb_markRef (s : State) (code src : Nat) (data : List (Nat × Nat × Nat)) : (s.raise code src data).fb.markRef = s.fb.markRef := (raise_books _ _ _ (Books.refl s)).fb_markRef
@[simp] theorem State.raise_fb_wearRaised (s : State) (code src : Nat) (data : List (Nat × Nat × Nat)) : (s.raise code src data).fb.wearRaised = s.fb.wearRaised := (raise_books _ _ _ (Books.refl s)).fb_wearRaised
@[simp] theorem State.rd_raise (s : State) (code src : Nat) (data : List (Nat × Nat × Nat)) {j : Nat} (h : j ∉ bookKeys) : (s.raise code src data).rd j = s.rd j :=
  (raise_books _ _ _ (Books.refl s)).regs _ h
@[simp] theorem State.get_raise (s : State) (code src : Nat) (data : List (Nat × Nat × Nat)) {g : Fld} (h : g.reg ∉ bookKeys) : (s.raise code src data).get g = s.get g :=
  (raise_books _ _ _ (Books.refl s)).get h
@[simp] theorem State.flag_raise (s : State) (code src : Nat) (data : List (Nat × Nat × Nat)) {g : Fld} (h : g.reg ∉ bookKeys) : (s.raise code src data).flag g = s.flag g :=
  (raise_books _ _ _ (Books.refl s)).flag h
@[simp] theorem State.bit_raise (s : State) (code src : Nat) (data : List (Nat × Nat × Nat)) {j : Nat} (h : j ∉ bookKeys) (i : Nat) : (s.raise code src data).bit j i = s.bit j i :=
  State.flag_raise s code src data (g := ⟨j, i, 1⟩) h

/-! ### raiseSt -/

@[simp] theorem State.raiseSt_pending (s : State) (code src status : Nat) (data : List (Nat × Nat × Nat)) : (s.raiseSt code src status data).pending = s.pending := (raiseSt_books _ _ _ _ (Books.refl s)).keeps.pending
@[simp] theorem State.raiseSt_time (s : State) (code src status : Nat) (data : List (Nat × Nat × Nat)) : (s.raiseSt code src status data).time = s.time := (raiseSt_books _ _ _ _ (Books.refl s)).time
@[simp] theorem State.raiseSt_que (s : State) (code src status : Nat) (data : List (Nat × Nat × Nat)) : (s.raiseSt code src status data).que = s.que := (raiseSt_books _ _ _ _ (Books.refl s)).que
@[simp] theorem State.raiseSt_mem (s : State) (code src status : Nat) (data : List (Nat × Nat × Nat)) : (s.raiseSt code src status data).mem = s.mem := (raiseSt_books _ _ _ _ (Books.refl s)).mem
@[simp] theorem State.raiseSt_col (s : State) (code src status : Nat) (data : List (Nat × Nat × Nat)) : (s.raiseSt code src status data).col = s.col := (raiseSt_books _ _ _ _ (Books.refl s)).col
@[simp] theorem State.raiseSt_ctx (s : State) (code src status : Nat) (data : List (Nat × Nat × Nat)) : (s.raiseSt code src status data).ctx = s.ctx := (raiseSt_books _ _ _ _ (Books.refl s)).ctx
@[simp] theorem State.raiseSt_pace (s : State) (code src status : Nat) (data : List (Nat × Nat × Nat)) : (s.raiseSt code src status data).pace = s.pace := (raiseSt_books _ _ _ _ (Books.refl s)).pace
@[simp] theorem State.raiseSt_bist (s : State) (code src status : Nat) (data : List (Nat × Nat × Nat)) : (s.raiseSt code src status data).bist = s.bist := (raiseSt_books _ _ _ _ (Books.refl s)).bist
@[simp] theorem State.raiseSt_sec (s : State) (code src status : Nat) (data : List (Nat × Nat × Nat)) : (s.raiseSt code src status data).sec = s.sec := (raiseSt_books _ _ _ _ (Books.refl s)).sec
@[simp] theorem State.raiseSt_img (s : State) (code src status : Nat) (data : List (Nat × Nat × Nat)) : (s.raiseSt code src status data).img = s.img := (raiseSt_books _ _ _ _ (Books.refl s)).img
@[simp] theorem State.raiseSt_pow (s : State) (code src status : Nat) (data : List (Nat × Nat × Nat)) : (s.raiseSt code src status data).pow = s.pow := (raiseSt_books _ _ _ _ (Books.refl s)).pow
@[simp] theorem State.raiseSt_thm (s : State) (code src status : Nat) (data : List (Nat × Nat × Nat)) : (s.raiseSt code src status data).thm = s.thm := (raiseSt_books _ _ _ _ (Books.refl s)).thm
@[simp] theorem State.raiseSt_pins (s : State) (code src status : Nat) (data : List (Nat × Nat × Nat)) : (s.raiseSt code src status data).pins = s.pins := (raiseSt_books _ _ _ _ (Books.refl s)).pins
@[simp] theorem State.raiseSt_tal (s : State) (code src status : Nat) (data : List (Nat × Nat × Nat)) : (s.raiseSt code src status data).tal = s.tal := (raiseSt_books _ _ _ _ (Books.refl s)).tal
@[simp] theorem State.raiseSt_lane (s : State) (code src status : Nat) (data : List (Nat × Nat × Nat)) : (s.raiseSt code src status data).lane = s.lane := (raiseSt_books _ _ _ _ (Books.refl s)).lane
@[simp] theorem State.raiseSt_clk (s : State) (code src status : Nat) (data : List (Nat × Nat × Nat)) : (s.raiseSt code src status data).clk = s.clk := (raiseSt_books _ _ _ _ (Books.refl s)).clk
@[simp] theorem State.raiseSt_dev (s : State) (code src status : Nat) (data : List (Nat × Nat × Nat)) : (s.raiseSt code src status data).dev = s.dev := (raiseSt_books _ _ _ _ (Books.refl s)).dev
@[simp] theorem State.raiseSt_dbg (s : State) (code src status : Nat) (data : List (Nat × Nat × Nat)) : (s.raiseSt code src status data).dbg = s.dbg := (raiseSt_books _ _ _ _ (Books.refl s)).dbg
@[simp] theorem State.raiseSt_free (s : State) (code src status : Nat) (data : List (Nat × Nat × Nat)) : (s.raiseSt code src status data).free = s.free := (raiseSt_books _ _ _ _ (Books.refl s)).free
@[simp] theorem State.raiseSt_mnt_again (s : State) (code src status : Nat) (data : List (Nat × Nat × Nat)) : (s.raiseSt code src status data).mnt.again = s.mnt.again := (raiseSt_books _ _ _ _ (Books.refl s)).mnt_again
@[simp] theorem State.raiseSt_mnt_wanted (s : State) (code src status : Nat) (data : List (Nat × Nat × Nat)) : (s.raiseSt code src status data).mnt.wanted = s.mnt.wanted := (raiseSt_books _ _ _ _ (Books.refl s)).mnt_wanted
@[simp] theorem State.raiseSt_mnt_matMap (s : State) (code src status : Nat) (data : List (Nat × Nat × Nat)) : (s.raiseSt code src status data).mnt.matMap = s.mnt.matMap := (raiseSt_books _ _ _ _ (Books.refl s)).mnt_matMap
@[simp] theorem State.raiseSt_mnt_bankMap (s : State) (code src status : Nat) (data : List (Nat × Nat × Nat)) : (s.raiseSt code src status data).mnt.bankMap = s.mnt.bankMap := (raiseSt_books _ _ _ _ (Books.refl s)).mnt_bankMap
@[simp] theorem State.raiseSt_mnt_retired (s : State) (code src status : Nat) (data : List (Nat × Nat × Nat)) : (s.raiseSt code src status data).mnt.retired = s.mnt.retired := (raiseSt_books _ _ _ _ (Books.refl s)).mnt_retired
@[simp] theorem State.raiseSt_mnt_stopped (s : State) (code src status : Nat) (data : List (Nat × Nat × Nat)) : (s.raiseSt code src status data).mnt.stopped = s.mnt.stopped := (raiseSt_books _ _ _ _ (Books.refl s)).mnt_stopped
@[simp] theorem State.raiseSt_mnt_lost (s : State) (code src status : Nat) (data : List (Nat × Nat × Nat)) : (s.raiseSt code src status data).mnt.lost = s.mnt.lost := (raiseSt_books _ _ _ _ (Books.refl s)).mnt_lost
@[simp] theorem State.raiseSt_mnt_fwPhase (s : State) (code src status : Nat) (data : List (Nat × Nat × Nat)) : (s.raiseSt code src status data).mnt.fwPhase = s.mnt.fwPhase := (raiseSt_books _ _ _ _ (Books.refl s)).mnt_fwPhase
@[simp] theorem State.raiseSt_mnt_fwAt (s : State) (code src status : Nat) (data : List (Nat × Nat × Nat)) : (s.raiseSt code src status data).mnt.fwAt = s.mnt.fwAt := (raiseSt_books _ _ _ _ (Books.refl s)).mnt_fwAt
@[simp] theorem State.raiseSt_mnt_fwCopies (s : State) (code src status : Nat) (data : List (Nat × Nat × Nat)) : (s.raiseSt code src status data).mnt.fwCopies = s.mnt.fwCopies := (raiseSt_books _ _ _ _ (Books.refl s)).mnt_fwCopies
@[simp] theorem State.raiseSt_mnt_fwStaged (s : State) (code src status : Nat) (data : List (Nat × Nat × Nat)) : (s.raiseSt code src status data).mnt.fwStaged = s.mnt.fwStaged := (raiseSt_books _ _ _ _ (Books.refl s)).mnt_fwStaged
@[simp] theorem State.raiseSt_mnt_chains (s : State) (code src status : Nat) (data : List (Nat × Nat × Nat)) : (s.raiseSt code src status data).mnt.chains = s.mnt.chains := (raiseSt_books _ _ _ _ (Books.refl s)).mnt_chains
@[simp] theorem State.raiseSt_core_cores (s : State) (code src status : Nat) (data : List (Nat × Nat × Nat)) : (s.raiseSt code src status data).core.cores = s.core.cores := (raiseSt_books _ _ _ _ (Books.refl s)).core_cores
@[simp] theorem State.raiseSt_core_sram (s : State) (code src status : Nat) (data : List (Nat × Nat × Nat)) : (s.raiseSt code src status data).core.sram = s.core.sram := (raiseSt_books _ _ _ _ (Books.refl s)).core_sram
@[simp] theorem State.raiseSt_core_lock (s : State) (code src status : Nat) (data : List (Nat × Nat × Nat)) : (s.raiseSt code src status data).core.lock = s.core.lock := (raiseSt_books _ _ _ _ (Books.refl s)).core_lock
@[simp] theorem State.raiseSt_core_progs (s : State) (code src status : Nat) (data : List (Nat × Nat × Nat)) : (s.raiseSt code src status data).core.progs = s.core.progs := (raiseSt_books _ _ _ _ (Books.refl s)).core_progs
@[simp] theorem State.raiseSt_host_cmds (s : State) (code src status : Nat) (data : List (Nat × Nat × Nat)) : (s.raiseSt code src status data).host.cmds = s.host.cmds := (raiseSt_books _ _ _ _ (Books.refl s)).host_cmds
@[simp] theorem State.raiseSt_host_hbAt (s : State) (code src status : Nat) (data : List (Nat × Nat × Nat)) : (s.raiseSt code src status data).host.hbAt = s.host.hbAt := (raiseSt_books _ _ _ _ (Books.refl s)).host_hbAt
@[simp] theorem State.raiseSt_host_hbRun (s : State) (code src status : Nat) (data : List (Nat × Nat × Nat)) : (s.raiseSt code src status data).host.hbRun = s.host.hbRun := (raiseSt_books _ _ _ _ (Books.refl s)).host_hbRun
@[simp] theorem State.raiseSt_host_absentAt (s : State) (code src status : Nat) (data : List (Nat × Nat × Nat)) : (s.raiseSt code src status data).host.absentAt = s.host.absentAt := (raiseSt_books _ _ _ _ (Books.refl s)).host_absentAt
@[simp] theorem State.raiseSt_host_perst (s : State) (code src status : Nat) (data : List (Nat × Nat × Nat)) : (s.raiseSt code src status data).host.perst = s.host.perst := (raiseSt_books _ _ _ _ (Books.refl s)).host_perst
@[simp] theorem State.raiseSt_host_latch (s : State) (code src status : Nat) (data : List (Nat × Nat × Nat)) : (s.raiseSt code src status data).host.latch = s.host.latch := (raiseSt_books _ _ _ _ (Books.refl s)).host_latch
@[simp] theorem State.raiseSt_host_window (s : State) (code src status : Nat) (data : List (Nat × Nat × Nat)) : (s.raiseSt code src status data).host.window = s.host.window := (raiseSt_books _ _ _ _ (Books.refl s)).host_window
@[simp] theorem State.raiseSt_host_pf0 (s : State) (code src status : Nat) (data : List (Nat × Nat × Nat)) : (s.raiseSt code src status data).host.pf0 = s.host.pf0 := (raiseSt_books _ _ _ _ (Books.refl s)).host_pf0
@[simp] theorem State.raiseSt_host_pf1 (s : State) (code src status : Nat) (data : List (Nat × Nat × Nat)) : (s.raiseSt code src status data).host.pf1 = s.host.pf1 := (raiseSt_books _ _ _ _ (Books.refl s)).host_pf1
@[simp] theorem State.raiseSt_fb_pages (s : State) (code src status : Nat) (data : List (Nat × Nat × Nat)) : (s.raiseSt code src status data).fb.pages = s.fb.pages := (raiseSt_books _ _ _ _ (Books.refl s)).fb_pages
@[simp] theorem State.raiseSt_fb_markRef (s : State) (code src status : Nat) (data : List (Nat × Nat × Nat)) : (s.raiseSt code src status data).fb.markRef = s.fb.markRef := (raiseSt_books _ _ _ _ (Books.refl s)).fb_markRef
@[simp] theorem State.raiseSt_fb_wearRaised (s : State) (code src status : Nat) (data : List (Nat × Nat × Nat)) : (s.raiseSt code src status data).fb.wearRaised = s.fb.wearRaised := (raiseSt_books _ _ _ _ (Books.refl s)).fb_wearRaised
@[simp] theorem State.rd_raiseSt (s : State) (code src status : Nat) (data : List (Nat × Nat × Nat)) {j : Nat} (h : j ∉ bookKeys) : (s.raiseSt code src status data).rd j = s.rd j :=
  (raiseSt_books _ _ _ _ (Books.refl s)).regs _ h
@[simp] theorem State.get_raiseSt (s : State) (code src status : Nat) (data : List (Nat × Nat × Nat)) {g : Fld} (h : g.reg ∉ bookKeys) : (s.raiseSt code src status data).get g = s.get g :=
  (raiseSt_books _ _ _ _ (Books.refl s)).get h
@[simp] theorem State.flag_raiseSt (s : State) (code src status : Nat) (data : List (Nat × Nat × Nat)) {g : Fld} (h : g.reg ∉ bookKeys) : (s.raiseSt code src status data).flag g = s.flag g :=
  (raiseSt_books _ _ _ _ (Books.refl s)).flag h
@[simp] theorem State.bit_raiseSt (s : State) (code src status : Nat) (data : List (Nat × Nat × Nat)) {j : Nat} (h : j ∉ bookKeys) (i : Nat) : (s.raiseSt code src status data).bit j i = s.bit j i :=
  State.flag_raiseSt s code src status data (g := ⟨j, i, 1⟩) h

/-! ### raiseTrig -/

@[simp] theorem State.raiseTrig_pending (s : State) (code src cause : Nat) (data : List (Nat × Nat × Nat)) : (s.raiseTrig code src cause data).pending = s.pending := (raiseTrig_books _ _ _ _ (Books.refl s)).keeps.pending
@[simp] theorem State.raiseTrig_time (s : State) (code src cause : Nat) (data : List (Nat × Nat × Nat)) : (s.raiseTrig code src cause data).time = s.time := (raiseTrig_books _ _ _ _ (Books.refl s)).time
@[simp] theorem State.raiseTrig_que (s : State) (code src cause : Nat) (data : List (Nat × Nat × Nat)) : (s.raiseTrig code src cause data).que = s.que := (raiseTrig_books _ _ _ _ (Books.refl s)).que
@[simp] theorem State.raiseTrig_mem (s : State) (code src cause : Nat) (data : List (Nat × Nat × Nat)) : (s.raiseTrig code src cause data).mem = s.mem := (raiseTrig_books _ _ _ _ (Books.refl s)).mem
@[simp] theorem State.raiseTrig_col (s : State) (code src cause : Nat) (data : List (Nat × Nat × Nat)) : (s.raiseTrig code src cause data).col = s.col := (raiseTrig_books _ _ _ _ (Books.refl s)).col
@[simp] theorem State.raiseTrig_ctx (s : State) (code src cause : Nat) (data : List (Nat × Nat × Nat)) : (s.raiseTrig code src cause data).ctx = s.ctx := (raiseTrig_books _ _ _ _ (Books.refl s)).ctx
@[simp] theorem State.raiseTrig_pace (s : State) (code src cause : Nat) (data : List (Nat × Nat × Nat)) : (s.raiseTrig code src cause data).pace = s.pace := (raiseTrig_books _ _ _ _ (Books.refl s)).pace
@[simp] theorem State.raiseTrig_bist (s : State) (code src cause : Nat) (data : List (Nat × Nat × Nat)) : (s.raiseTrig code src cause data).bist = s.bist := (raiseTrig_books _ _ _ _ (Books.refl s)).bist
@[simp] theorem State.raiseTrig_sec (s : State) (code src cause : Nat) (data : List (Nat × Nat × Nat)) : (s.raiseTrig code src cause data).sec = s.sec := (raiseTrig_books _ _ _ _ (Books.refl s)).sec
@[simp] theorem State.raiseTrig_img (s : State) (code src cause : Nat) (data : List (Nat × Nat × Nat)) : (s.raiseTrig code src cause data).img = s.img := (raiseTrig_books _ _ _ _ (Books.refl s)).img
@[simp] theorem State.raiseTrig_pow (s : State) (code src cause : Nat) (data : List (Nat × Nat × Nat)) : (s.raiseTrig code src cause data).pow = s.pow := (raiseTrig_books _ _ _ _ (Books.refl s)).pow
@[simp] theorem State.raiseTrig_thm (s : State) (code src cause : Nat) (data : List (Nat × Nat × Nat)) : (s.raiseTrig code src cause data).thm = s.thm := (raiseTrig_books _ _ _ _ (Books.refl s)).thm
@[simp] theorem State.raiseTrig_pins (s : State) (code src cause : Nat) (data : List (Nat × Nat × Nat)) : (s.raiseTrig code src cause data).pins = s.pins := (raiseTrig_books _ _ _ _ (Books.refl s)).pins
@[simp] theorem State.raiseTrig_tal (s : State) (code src cause : Nat) (data : List (Nat × Nat × Nat)) : (s.raiseTrig code src cause data).tal = s.tal := (raiseTrig_books _ _ _ _ (Books.refl s)).tal
@[simp] theorem State.raiseTrig_lane (s : State) (code src cause : Nat) (data : List (Nat × Nat × Nat)) : (s.raiseTrig code src cause data).lane = s.lane := (raiseTrig_books _ _ _ _ (Books.refl s)).lane
@[simp] theorem State.raiseTrig_clk (s : State) (code src cause : Nat) (data : List (Nat × Nat × Nat)) : (s.raiseTrig code src cause data).clk = s.clk := (raiseTrig_books _ _ _ _ (Books.refl s)).clk
@[simp] theorem State.raiseTrig_dev (s : State) (code src cause : Nat) (data : List (Nat × Nat × Nat)) : (s.raiseTrig code src cause data).dev = s.dev := (raiseTrig_books _ _ _ _ (Books.refl s)).dev
@[simp] theorem State.raiseTrig_dbg (s : State) (code src cause : Nat) (data : List (Nat × Nat × Nat)) : (s.raiseTrig code src cause data).dbg = s.dbg := (raiseTrig_books _ _ _ _ (Books.refl s)).dbg
@[simp] theorem State.raiseTrig_free (s : State) (code src cause : Nat) (data : List (Nat × Nat × Nat)) : (s.raiseTrig code src cause data).free = s.free := (raiseTrig_books _ _ _ _ (Books.refl s)).free
@[simp] theorem State.raiseTrig_mnt_again (s : State) (code src cause : Nat) (data : List (Nat × Nat × Nat)) : (s.raiseTrig code src cause data).mnt.again = s.mnt.again := (raiseTrig_books _ _ _ _ (Books.refl s)).mnt_again
@[simp] theorem State.raiseTrig_mnt_wanted (s : State) (code src cause : Nat) (data : List (Nat × Nat × Nat)) : (s.raiseTrig code src cause data).mnt.wanted = s.mnt.wanted := (raiseTrig_books _ _ _ _ (Books.refl s)).mnt_wanted
@[simp] theorem State.raiseTrig_mnt_matMap (s : State) (code src cause : Nat) (data : List (Nat × Nat × Nat)) : (s.raiseTrig code src cause data).mnt.matMap = s.mnt.matMap := (raiseTrig_books _ _ _ _ (Books.refl s)).mnt_matMap
@[simp] theorem State.raiseTrig_mnt_bankMap (s : State) (code src cause : Nat) (data : List (Nat × Nat × Nat)) : (s.raiseTrig code src cause data).mnt.bankMap = s.mnt.bankMap := (raiseTrig_books _ _ _ _ (Books.refl s)).mnt_bankMap
@[simp] theorem State.raiseTrig_mnt_retired (s : State) (code src cause : Nat) (data : List (Nat × Nat × Nat)) : (s.raiseTrig code src cause data).mnt.retired = s.mnt.retired := (raiseTrig_books _ _ _ _ (Books.refl s)).mnt_retired
@[simp] theorem State.raiseTrig_mnt_stopped (s : State) (code src cause : Nat) (data : List (Nat × Nat × Nat)) : (s.raiseTrig code src cause data).mnt.stopped = s.mnt.stopped := (raiseTrig_books _ _ _ _ (Books.refl s)).mnt_stopped
@[simp] theorem State.raiseTrig_mnt_lost (s : State) (code src cause : Nat) (data : List (Nat × Nat × Nat)) : (s.raiseTrig code src cause data).mnt.lost = s.mnt.lost := (raiseTrig_books _ _ _ _ (Books.refl s)).mnt_lost
@[simp] theorem State.raiseTrig_mnt_fwPhase (s : State) (code src cause : Nat) (data : List (Nat × Nat × Nat)) : (s.raiseTrig code src cause data).mnt.fwPhase = s.mnt.fwPhase := (raiseTrig_books _ _ _ _ (Books.refl s)).mnt_fwPhase
@[simp] theorem State.raiseTrig_mnt_fwAt (s : State) (code src cause : Nat) (data : List (Nat × Nat × Nat)) : (s.raiseTrig code src cause data).mnt.fwAt = s.mnt.fwAt := (raiseTrig_books _ _ _ _ (Books.refl s)).mnt_fwAt
@[simp] theorem State.raiseTrig_mnt_fwCopies (s : State) (code src cause : Nat) (data : List (Nat × Nat × Nat)) : (s.raiseTrig code src cause data).mnt.fwCopies = s.mnt.fwCopies := (raiseTrig_books _ _ _ _ (Books.refl s)).mnt_fwCopies
@[simp] theorem State.raiseTrig_mnt_fwStaged (s : State) (code src cause : Nat) (data : List (Nat × Nat × Nat)) : (s.raiseTrig code src cause data).mnt.fwStaged = s.mnt.fwStaged := (raiseTrig_books _ _ _ _ (Books.refl s)).mnt_fwStaged
@[simp] theorem State.raiseTrig_mnt_chains (s : State) (code src cause : Nat) (data : List (Nat × Nat × Nat)) : (s.raiseTrig code src cause data).mnt.chains = s.mnt.chains := (raiseTrig_books _ _ _ _ (Books.refl s)).mnt_chains
@[simp] theorem State.raiseTrig_core_cores (s : State) (code src cause : Nat) (data : List (Nat × Nat × Nat)) : (s.raiseTrig code src cause data).core.cores = s.core.cores := (raiseTrig_books _ _ _ _ (Books.refl s)).core_cores
@[simp] theorem State.raiseTrig_core_sram (s : State) (code src cause : Nat) (data : List (Nat × Nat × Nat)) : (s.raiseTrig code src cause data).core.sram = s.core.sram := (raiseTrig_books _ _ _ _ (Books.refl s)).core_sram
@[simp] theorem State.raiseTrig_core_lock (s : State) (code src cause : Nat) (data : List (Nat × Nat × Nat)) : (s.raiseTrig code src cause data).core.lock = s.core.lock := (raiseTrig_books _ _ _ _ (Books.refl s)).core_lock
@[simp] theorem State.raiseTrig_core_progs (s : State) (code src cause : Nat) (data : List (Nat × Nat × Nat)) : (s.raiseTrig code src cause data).core.progs = s.core.progs := (raiseTrig_books _ _ _ _ (Books.refl s)).core_progs
@[simp] theorem State.raiseTrig_host_cmds (s : State) (code src cause : Nat) (data : List (Nat × Nat × Nat)) : (s.raiseTrig code src cause data).host.cmds = s.host.cmds := (raiseTrig_books _ _ _ _ (Books.refl s)).host_cmds
@[simp] theorem State.raiseTrig_host_hbAt (s : State) (code src cause : Nat) (data : List (Nat × Nat × Nat)) : (s.raiseTrig code src cause data).host.hbAt = s.host.hbAt := (raiseTrig_books _ _ _ _ (Books.refl s)).host_hbAt
@[simp] theorem State.raiseTrig_host_hbRun (s : State) (code src cause : Nat) (data : List (Nat × Nat × Nat)) : (s.raiseTrig code src cause data).host.hbRun = s.host.hbRun := (raiseTrig_books _ _ _ _ (Books.refl s)).host_hbRun
@[simp] theorem State.raiseTrig_host_absentAt (s : State) (code src cause : Nat) (data : List (Nat × Nat × Nat)) : (s.raiseTrig code src cause data).host.absentAt = s.host.absentAt := (raiseTrig_books _ _ _ _ (Books.refl s)).host_absentAt
@[simp] theorem State.raiseTrig_host_perst (s : State) (code src cause : Nat) (data : List (Nat × Nat × Nat)) : (s.raiseTrig code src cause data).host.perst = s.host.perst := (raiseTrig_books _ _ _ _ (Books.refl s)).host_perst
@[simp] theorem State.raiseTrig_host_latch (s : State) (code src cause : Nat) (data : List (Nat × Nat × Nat)) : (s.raiseTrig code src cause data).host.latch = s.host.latch := (raiseTrig_books _ _ _ _ (Books.refl s)).host_latch
@[simp] theorem State.raiseTrig_host_window (s : State) (code src cause : Nat) (data : List (Nat × Nat × Nat)) : (s.raiseTrig code src cause data).host.window = s.host.window := (raiseTrig_books _ _ _ _ (Books.refl s)).host_window
@[simp] theorem State.raiseTrig_host_pf0 (s : State) (code src cause : Nat) (data : List (Nat × Nat × Nat)) : (s.raiseTrig code src cause data).host.pf0 = s.host.pf0 := (raiseTrig_books _ _ _ _ (Books.refl s)).host_pf0
@[simp] theorem State.raiseTrig_host_pf1 (s : State) (code src cause : Nat) (data : List (Nat × Nat × Nat)) : (s.raiseTrig code src cause data).host.pf1 = s.host.pf1 := (raiseTrig_books _ _ _ _ (Books.refl s)).host_pf1
@[simp] theorem State.raiseTrig_fb_pages (s : State) (code src cause : Nat) (data : List (Nat × Nat × Nat)) : (s.raiseTrig code src cause data).fb.pages = s.fb.pages := (raiseTrig_books _ _ _ _ (Books.refl s)).fb_pages
@[simp] theorem State.raiseTrig_fb_markRef (s : State) (code src cause : Nat) (data : List (Nat × Nat × Nat)) : (s.raiseTrig code src cause data).fb.markRef = s.fb.markRef := (raiseTrig_books _ _ _ _ (Books.refl s)).fb_markRef
@[simp] theorem State.raiseTrig_fb_wearRaised (s : State) (code src cause : Nat) (data : List (Nat × Nat × Nat)) : (s.raiseTrig code src cause data).fb.wearRaised = s.fb.wearRaised := (raiseTrig_books _ _ _ _ (Books.refl s)).fb_wearRaised
@[simp] theorem State.rd_raiseTrig (s : State) (code src cause : Nat) (data : List (Nat × Nat × Nat)) {j : Nat} (h : j ∉ bookKeys) : (s.raiseTrig code src cause data).rd j = s.rd j :=
  (raiseTrig_books _ _ _ _ (Books.refl s)).regs _ h
@[simp] theorem State.get_raiseTrig (s : State) (code src cause : Nat) (data : List (Nat × Nat × Nat)) {g : Fld} (h : g.reg ∉ bookKeys) : (s.raiseTrig code src cause data).get g = s.get g :=
  (raiseTrig_books _ _ _ _ (Books.refl s)).get h
@[simp] theorem State.flag_raiseTrig (s : State) (code src cause : Nat) (data : List (Nat × Nat × Nat)) {g : Fld} (h : g.reg ∉ bookKeys) : (s.raiseTrig code src cause data).flag g = s.flag g :=
  (raiseTrig_books _ _ _ _ (Books.refl s)).flag h
@[simp] theorem State.bit_raiseTrig (s : State) (code src cause : Nat) (data : List (Nat × Nat × Nat)) {j : Nat} (h : j ∉ bookKeys) (i : Nat) : (s.raiseTrig code src cause data).bit j i = s.bit j i :=
  State.flag_raiseTrig s code src cause data (g := ⟨j, i, 1⟩) h

/-! ### raiseLim -/

@[simp] theorem State.raiseLim_pending (s : State) (code src : Nat) (data : List (Nat × Nat × Nat)) : (s.raiseLim code src data).pending = s.pending := (raiseLim_books _ _ _ (Books.refl s)).keeps.pending
@[simp] theorem State.raiseLim_time (s : State) (code src : Nat) (data : List (Nat × Nat × Nat)) : (s.raiseLim code src data).time = s.time := (raiseLim_books _ _ _ (Books.refl s)).time
@[simp] theorem State.raiseLim_que (s : State) (code src : Nat) (data : List (Nat × Nat × Nat)) : (s.raiseLim code src data).que = s.que := (raiseLim_books _ _ _ (Books.refl s)).que
@[simp] theorem State.raiseLim_mem (s : State) (code src : Nat) (data : List (Nat × Nat × Nat)) : (s.raiseLim code src data).mem = s.mem := (raiseLim_books _ _ _ (Books.refl s)).mem
@[simp] theorem State.raiseLim_col (s : State) (code src : Nat) (data : List (Nat × Nat × Nat)) : (s.raiseLim code src data).col = s.col := (raiseLim_books _ _ _ (Books.refl s)).col
@[simp] theorem State.raiseLim_ctx (s : State) (code src : Nat) (data : List (Nat × Nat × Nat)) : (s.raiseLim code src data).ctx = s.ctx := (raiseLim_books _ _ _ (Books.refl s)).ctx
@[simp] theorem State.raiseLim_pace (s : State) (code src : Nat) (data : List (Nat × Nat × Nat)) : (s.raiseLim code src data).pace = s.pace := (raiseLim_books _ _ _ (Books.refl s)).pace
@[simp] theorem State.raiseLim_bist (s : State) (code src : Nat) (data : List (Nat × Nat × Nat)) : (s.raiseLim code src data).bist = s.bist := (raiseLim_books _ _ _ (Books.refl s)).bist
@[simp] theorem State.raiseLim_sec (s : State) (code src : Nat) (data : List (Nat × Nat × Nat)) : (s.raiseLim code src data).sec = s.sec := (raiseLim_books _ _ _ (Books.refl s)).sec
@[simp] theorem State.raiseLim_img (s : State) (code src : Nat) (data : List (Nat × Nat × Nat)) : (s.raiseLim code src data).img = s.img := (raiseLim_books _ _ _ (Books.refl s)).img
@[simp] theorem State.raiseLim_pow (s : State) (code src : Nat) (data : List (Nat × Nat × Nat)) : (s.raiseLim code src data).pow = s.pow := (raiseLim_books _ _ _ (Books.refl s)).pow
@[simp] theorem State.raiseLim_thm (s : State) (code src : Nat) (data : List (Nat × Nat × Nat)) : (s.raiseLim code src data).thm = s.thm := (raiseLim_books _ _ _ (Books.refl s)).thm
@[simp] theorem State.raiseLim_pins (s : State) (code src : Nat) (data : List (Nat × Nat × Nat)) : (s.raiseLim code src data).pins = s.pins := (raiseLim_books _ _ _ (Books.refl s)).pins
@[simp] theorem State.raiseLim_tal (s : State) (code src : Nat) (data : List (Nat × Nat × Nat)) : (s.raiseLim code src data).tal = s.tal := (raiseLim_books _ _ _ (Books.refl s)).tal
@[simp] theorem State.raiseLim_lane (s : State) (code src : Nat) (data : List (Nat × Nat × Nat)) : (s.raiseLim code src data).lane = s.lane := (raiseLim_books _ _ _ (Books.refl s)).lane
@[simp] theorem State.raiseLim_clk (s : State) (code src : Nat) (data : List (Nat × Nat × Nat)) : (s.raiseLim code src data).clk = s.clk := (raiseLim_books _ _ _ (Books.refl s)).clk
@[simp] theorem State.raiseLim_dev (s : State) (code src : Nat) (data : List (Nat × Nat × Nat)) : (s.raiseLim code src data).dev = s.dev := (raiseLim_books _ _ _ (Books.refl s)).dev
@[simp] theorem State.raiseLim_dbg (s : State) (code src : Nat) (data : List (Nat × Nat × Nat)) : (s.raiseLim code src data).dbg = s.dbg := (raiseLim_books _ _ _ (Books.refl s)).dbg
@[simp] theorem State.raiseLim_free (s : State) (code src : Nat) (data : List (Nat × Nat × Nat)) : (s.raiseLim code src data).free = s.free := (raiseLim_books _ _ _ (Books.refl s)).free
@[simp] theorem State.raiseLim_mnt_again (s : State) (code src : Nat) (data : List (Nat × Nat × Nat)) : (s.raiseLim code src data).mnt.again = s.mnt.again := (raiseLim_books _ _ _ (Books.refl s)).mnt_again
@[simp] theorem State.raiseLim_mnt_wanted (s : State) (code src : Nat) (data : List (Nat × Nat × Nat)) : (s.raiseLim code src data).mnt.wanted = s.mnt.wanted := (raiseLim_books _ _ _ (Books.refl s)).mnt_wanted
@[simp] theorem State.raiseLim_mnt_matMap (s : State) (code src : Nat) (data : List (Nat × Nat × Nat)) : (s.raiseLim code src data).mnt.matMap = s.mnt.matMap := (raiseLim_books _ _ _ (Books.refl s)).mnt_matMap
@[simp] theorem State.raiseLim_mnt_bankMap (s : State) (code src : Nat) (data : List (Nat × Nat × Nat)) : (s.raiseLim code src data).mnt.bankMap = s.mnt.bankMap := (raiseLim_books _ _ _ (Books.refl s)).mnt_bankMap
@[simp] theorem State.raiseLim_mnt_retired (s : State) (code src : Nat) (data : List (Nat × Nat × Nat)) : (s.raiseLim code src data).mnt.retired = s.mnt.retired := (raiseLim_books _ _ _ (Books.refl s)).mnt_retired
@[simp] theorem State.raiseLim_mnt_stopped (s : State) (code src : Nat) (data : List (Nat × Nat × Nat)) : (s.raiseLim code src data).mnt.stopped = s.mnt.stopped := (raiseLim_books _ _ _ (Books.refl s)).mnt_stopped
@[simp] theorem State.raiseLim_mnt_lost (s : State) (code src : Nat) (data : List (Nat × Nat × Nat)) : (s.raiseLim code src data).mnt.lost = s.mnt.lost := (raiseLim_books _ _ _ (Books.refl s)).mnt_lost
@[simp] theorem State.raiseLim_mnt_fwPhase (s : State) (code src : Nat) (data : List (Nat × Nat × Nat)) : (s.raiseLim code src data).mnt.fwPhase = s.mnt.fwPhase := (raiseLim_books _ _ _ (Books.refl s)).mnt_fwPhase
@[simp] theorem State.raiseLim_mnt_fwAt (s : State) (code src : Nat) (data : List (Nat × Nat × Nat)) : (s.raiseLim code src data).mnt.fwAt = s.mnt.fwAt := (raiseLim_books _ _ _ (Books.refl s)).mnt_fwAt
@[simp] theorem State.raiseLim_mnt_fwCopies (s : State) (code src : Nat) (data : List (Nat × Nat × Nat)) : (s.raiseLim code src data).mnt.fwCopies = s.mnt.fwCopies := (raiseLim_books _ _ _ (Books.refl s)).mnt_fwCopies
@[simp] theorem State.raiseLim_mnt_fwStaged (s : State) (code src : Nat) (data : List (Nat × Nat × Nat)) : (s.raiseLim code src data).mnt.fwStaged = s.mnt.fwStaged := (raiseLim_books _ _ _ (Books.refl s)).mnt_fwStaged
@[simp] theorem State.raiseLim_mnt_chains (s : State) (code src : Nat) (data : List (Nat × Nat × Nat)) : (s.raiseLim code src data).mnt.chains = s.mnt.chains := (raiseLim_books _ _ _ (Books.refl s)).mnt_chains
@[simp] theorem State.raiseLim_core_cores (s : State) (code src : Nat) (data : List (Nat × Nat × Nat)) : (s.raiseLim code src data).core.cores = s.core.cores := (raiseLim_books _ _ _ (Books.refl s)).core_cores
@[simp] theorem State.raiseLim_core_sram (s : State) (code src : Nat) (data : List (Nat × Nat × Nat)) : (s.raiseLim code src data).core.sram = s.core.sram := (raiseLim_books _ _ _ (Books.refl s)).core_sram
@[simp] theorem State.raiseLim_core_lock (s : State) (code src : Nat) (data : List (Nat × Nat × Nat)) : (s.raiseLim code src data).core.lock = s.core.lock := (raiseLim_books _ _ _ (Books.refl s)).core_lock
@[simp] theorem State.raiseLim_core_progs (s : State) (code src : Nat) (data : List (Nat × Nat × Nat)) : (s.raiseLim code src data).core.progs = s.core.progs := (raiseLim_books _ _ _ (Books.refl s)).core_progs
@[simp] theorem State.raiseLim_host_cmds (s : State) (code src : Nat) (data : List (Nat × Nat × Nat)) : (s.raiseLim code src data).host.cmds = s.host.cmds := (raiseLim_books _ _ _ (Books.refl s)).host_cmds
@[simp] theorem State.raiseLim_host_hbAt (s : State) (code src : Nat) (data : List (Nat × Nat × Nat)) : (s.raiseLim code src data).host.hbAt = s.host.hbAt := (raiseLim_books _ _ _ (Books.refl s)).host_hbAt
@[simp] theorem State.raiseLim_host_hbRun (s : State) (code src : Nat) (data : List (Nat × Nat × Nat)) : (s.raiseLim code src data).host.hbRun = s.host.hbRun := (raiseLim_books _ _ _ (Books.refl s)).host_hbRun
@[simp] theorem State.raiseLim_host_absentAt (s : State) (code src : Nat) (data : List (Nat × Nat × Nat)) : (s.raiseLim code src data).host.absentAt = s.host.absentAt := (raiseLim_books _ _ _ (Books.refl s)).host_absentAt
@[simp] theorem State.raiseLim_host_perst (s : State) (code src : Nat) (data : List (Nat × Nat × Nat)) : (s.raiseLim code src data).host.perst = s.host.perst := (raiseLim_books _ _ _ (Books.refl s)).host_perst
@[simp] theorem State.raiseLim_host_latch (s : State) (code src : Nat) (data : List (Nat × Nat × Nat)) : (s.raiseLim code src data).host.latch = s.host.latch := (raiseLim_books _ _ _ (Books.refl s)).host_latch
@[simp] theorem State.raiseLim_host_window (s : State) (code src : Nat) (data : List (Nat × Nat × Nat)) : (s.raiseLim code src data).host.window = s.host.window := (raiseLim_books _ _ _ (Books.refl s)).host_window
@[simp] theorem State.raiseLim_host_pf0 (s : State) (code src : Nat) (data : List (Nat × Nat × Nat)) : (s.raiseLim code src data).host.pf0 = s.host.pf0 := (raiseLim_books _ _ _ (Books.refl s)).host_pf0
@[simp] theorem State.raiseLim_host_pf1 (s : State) (code src : Nat) (data : List (Nat × Nat × Nat)) : (s.raiseLim code src data).host.pf1 = s.host.pf1 := (raiseLim_books _ _ _ (Books.refl s)).host_pf1
@[simp] theorem State.raiseLim_fb_pages (s : State) (code src : Nat) (data : List (Nat × Nat × Nat)) : (s.raiseLim code src data).fb.pages = s.fb.pages := (raiseLim_books _ _ _ (Books.refl s)).fb_pages
@[simp] theorem State.raiseLim_fb_markRef (s : State) (code src : Nat) (data : List (Nat × Nat × Nat)) : (s.raiseLim code src data).fb.markRef = s.fb.markRef := (raiseLim_books _ _ _ (Books.refl s)).fb_markRef
@[simp] theorem State.raiseLim_fb_wearRaised (s : State) (code src : Nat) (data : List (Nat × Nat × Nat)) : (s.raiseLim code src data).fb.wearRaised = s.fb.wearRaised := (raiseLim_books _ _ _ (Books.refl s)).fb_wearRaised
@[simp] theorem State.rd_raiseLim (s : State) (code src : Nat) (data : List (Nat × Nat × Nat)) {j : Nat} (h : j ∉ bookKeys) : (s.raiseLim code src data).rd j = s.rd j :=
  (raiseLim_books _ _ _ (Books.refl s)).regs _ h
@[simp] theorem State.get_raiseLim (s : State) (code src : Nat) (data : List (Nat × Nat × Nat)) {g : Fld} (h : g.reg ∉ bookKeys) : (s.raiseLim code src data).get g = s.get g :=
  (raiseLim_books _ _ _ (Books.refl s)).get h
@[simp] theorem State.flag_raiseLim (s : State) (code src : Nat) (data : List (Nat × Nat × Nat)) {g : Fld} (h : g.reg ∉ bookKeys) : (s.raiseLim code src data).flag g = s.flag g :=
  (raiseLim_books _ _ _ (Books.refl s)).flag h
@[simp] theorem State.bit_raiseLim (s : State) (code src : Nat) (data : List (Nat × Nat × Nat)) {j : Nat} (h : j ∉ bookKeys) (i : Nat) : (s.raiseLim code src data).bit j i = s.bit j i :=
  State.flag_raiseLim s code src data (g := ⟨j, i, 1⟩) h

/-! ### post -/

@[simp] theorem State.post_pending (s : State) (c : Compl) : (s.post c).pending = s.pending := (post_books c (Books.refl s)).keeps.pending
@[simp] theorem State.post_time (s : State) (c : Compl) : (s.post c).time = s.time := (post_books c (Books.refl s)).time
@[simp] theorem State.post_que (s : State) (c : Compl) : (s.post c).que = s.que := (post_books c (Books.refl s)).que
@[simp] theorem State.post_mem (s : State) (c : Compl) : (s.post c).mem = s.mem := (post_books c (Books.refl s)).mem
@[simp] theorem State.post_col (s : State) (c : Compl) : (s.post c).col = s.col := (post_books c (Books.refl s)).col
@[simp] theorem State.post_ctx (s : State) (c : Compl) : (s.post c).ctx = s.ctx := (post_books c (Books.refl s)).ctx
@[simp] theorem State.post_pace (s : State) (c : Compl) : (s.post c).pace = s.pace := (post_books c (Books.refl s)).pace
@[simp] theorem State.post_bist (s : State) (c : Compl) : (s.post c).bist = s.bist := (post_books c (Books.refl s)).bist
@[simp] theorem State.post_sec (s : State) (c : Compl) : (s.post c).sec = s.sec := (post_books c (Books.refl s)).sec
@[simp] theorem State.post_img (s : State) (c : Compl) : (s.post c).img = s.img := (post_books c (Books.refl s)).img
@[simp] theorem State.post_pow (s : State) (c : Compl) : (s.post c).pow = s.pow := (post_books c (Books.refl s)).pow
@[simp] theorem State.post_thm (s : State) (c : Compl) : (s.post c).thm = s.thm := (post_books c (Books.refl s)).thm
@[simp] theorem State.post_pins (s : State) (c : Compl) : (s.post c).pins = s.pins := (post_books c (Books.refl s)).pins
@[simp] theorem State.post_tal (s : State) (c : Compl) : (s.post c).tal = s.tal := (post_books c (Books.refl s)).tal
@[simp] theorem State.post_lane (s : State) (c : Compl) : (s.post c).lane = s.lane := (post_books c (Books.refl s)).lane
@[simp] theorem State.post_clk (s : State) (c : Compl) : (s.post c).clk = s.clk := (post_books c (Books.refl s)).clk
@[simp] theorem State.post_dev (s : State) (c : Compl) : (s.post c).dev = s.dev := (post_books c (Books.refl s)).dev
@[simp] theorem State.post_dbg (s : State) (c : Compl) : (s.post c).dbg = s.dbg := (post_books c (Books.refl s)).dbg
@[simp] theorem State.post_free (s : State) (c : Compl) : (s.post c).free = s.free := (post_books c (Books.refl s)).free
@[simp] theorem State.post_mnt_again (s : State) (c : Compl) : (s.post c).mnt.again = s.mnt.again := (post_books c (Books.refl s)).mnt_again
@[simp] theorem State.post_mnt_wanted (s : State) (c : Compl) : (s.post c).mnt.wanted = s.mnt.wanted := (post_books c (Books.refl s)).mnt_wanted
@[simp] theorem State.post_mnt_matMap (s : State) (c : Compl) : (s.post c).mnt.matMap = s.mnt.matMap := (post_books c (Books.refl s)).mnt_matMap
@[simp] theorem State.post_mnt_bankMap (s : State) (c : Compl) : (s.post c).mnt.bankMap = s.mnt.bankMap := (post_books c (Books.refl s)).mnt_bankMap
@[simp] theorem State.post_mnt_retired (s : State) (c : Compl) : (s.post c).mnt.retired = s.mnt.retired := (post_books c (Books.refl s)).mnt_retired
@[simp] theorem State.post_mnt_stopped (s : State) (c : Compl) : (s.post c).mnt.stopped = s.mnt.stopped := (post_books c (Books.refl s)).mnt_stopped
@[simp] theorem State.post_mnt_lost (s : State) (c : Compl) : (s.post c).mnt.lost = s.mnt.lost := (post_books c (Books.refl s)).mnt_lost
@[simp] theorem State.post_mnt_fwPhase (s : State) (c : Compl) : (s.post c).mnt.fwPhase = s.mnt.fwPhase := (post_books c (Books.refl s)).mnt_fwPhase
@[simp] theorem State.post_mnt_fwAt (s : State) (c : Compl) : (s.post c).mnt.fwAt = s.mnt.fwAt := (post_books c (Books.refl s)).mnt_fwAt
@[simp] theorem State.post_mnt_fwCopies (s : State) (c : Compl) : (s.post c).mnt.fwCopies = s.mnt.fwCopies := (post_books c (Books.refl s)).mnt_fwCopies
@[simp] theorem State.post_mnt_fwStaged (s : State) (c : Compl) : (s.post c).mnt.fwStaged = s.mnt.fwStaged := (post_books c (Books.refl s)).mnt_fwStaged
@[simp] theorem State.post_mnt_chains (s : State) (c : Compl) : (s.post c).mnt.chains = s.mnt.chains := (post_books c (Books.refl s)).mnt_chains
@[simp] theorem State.post_core_cores (s : State) (c : Compl) : (s.post c).core.cores = s.core.cores := (post_books c (Books.refl s)).core_cores
@[simp] theorem State.post_core_sram (s : State) (c : Compl) : (s.post c).core.sram = s.core.sram := (post_books c (Books.refl s)).core_sram
@[simp] theorem State.post_core_lock (s : State) (c : Compl) : (s.post c).core.lock = s.core.lock := (post_books c (Books.refl s)).core_lock
@[simp] theorem State.post_core_progs (s : State) (c : Compl) : (s.post c).core.progs = s.core.progs := (post_books c (Books.refl s)).core_progs
@[simp] theorem State.post_host_cmds (s : State) (c : Compl) : (s.post c).host.cmds = s.host.cmds := (post_books c (Books.refl s)).host_cmds
@[simp] theorem State.post_host_hbAt (s : State) (c : Compl) : (s.post c).host.hbAt = s.host.hbAt := (post_books c (Books.refl s)).host_hbAt
@[simp] theorem State.post_host_hbRun (s : State) (c : Compl) : (s.post c).host.hbRun = s.host.hbRun := (post_books c (Books.refl s)).host_hbRun
@[simp] theorem State.post_host_absentAt (s : State) (c : Compl) : (s.post c).host.absentAt = s.host.absentAt := (post_books c (Books.refl s)).host_absentAt
@[simp] theorem State.post_host_perst (s : State) (c : Compl) : (s.post c).host.perst = s.host.perst := (post_books c (Books.refl s)).host_perst
@[simp] theorem State.post_host_latch (s : State) (c : Compl) : (s.post c).host.latch = s.host.latch := (post_books c (Books.refl s)).host_latch
@[simp] theorem State.post_host_window (s : State) (c : Compl) : (s.post c).host.window = s.host.window := (post_books c (Books.refl s)).host_window
@[simp] theorem State.post_host_pf0 (s : State) (c : Compl) : (s.post c).host.pf0 = s.host.pf0 := (post_books c (Books.refl s)).host_pf0
@[simp] theorem State.post_host_pf1 (s : State) (c : Compl) : (s.post c).host.pf1 = s.host.pf1 := (post_books c (Books.refl s)).host_pf1
@[simp] theorem State.post_fb_pages (s : State) (c : Compl) : (s.post c).fb.pages = s.fb.pages := (post_books c (Books.refl s)).fb_pages
@[simp] theorem State.post_fb_markRef (s : State) (c : Compl) : (s.post c).fb.markRef = s.fb.markRef := (post_books c (Books.refl s)).fb_markRef
@[simp] theorem State.post_fb_wearRaised (s : State) (c : Compl) : (s.post c).fb.wearRaised = s.fb.wearRaised := (post_books c (Books.refl s)).fb_wearRaised
@[simp] theorem State.rd_post (s : State) (c : Compl) {j : Nat} (h : j ∉ bookKeys) : (s.post c).rd j = s.rd j :=
  (post_books c (Books.refl s)).regs _ h
@[simp] theorem State.get_post (s : State) (c : Compl) {g : Fld} (h : g.reg ∉ bookKeys) : (s.post c).get g = s.get g :=
  (post_books c (Books.refl s)).get h
@[simp] theorem State.flag_post (s : State) (c : Compl) {g : Fld} (h : g.reg ∉ bookKeys) : (s.post c).flag g = s.flag g :=
  (post_books c (Books.refl s)).flag h
@[simp] theorem State.bit_post (s : State) (c : Compl) {j : Nat} (h : j ∉ bookKeys) (i : Nat) : (s.post c).bit j i = s.bit j i :=
  State.flag_post s c (g := ⟨j, i, 1⟩) h

/-! ### interim -/

@[simp] theorem State.interim_pending (s : State) (r : CmdRef) : (s.interim r).pending = s.pending := (interim_books r (Books.refl s)).keeps.pending
@[simp] theorem State.interim_time (s : State) (r : CmdRef) : (s.interim r).time = s.time := (interim_books r (Books.refl s)).time
@[simp] theorem State.interim_que (s : State) (r : CmdRef) : (s.interim r).que = s.que := (interim_books r (Books.refl s)).que
@[simp] theorem State.interim_mem (s : State) (r : CmdRef) : (s.interim r).mem = s.mem := (interim_books r (Books.refl s)).mem
@[simp] theorem State.interim_col (s : State) (r : CmdRef) : (s.interim r).col = s.col := (interim_books r (Books.refl s)).col
@[simp] theorem State.interim_ctx (s : State) (r : CmdRef) : (s.interim r).ctx = s.ctx := (interim_books r (Books.refl s)).ctx
@[simp] theorem State.interim_pace (s : State) (r : CmdRef) : (s.interim r).pace = s.pace := (interim_books r (Books.refl s)).pace
@[simp] theorem State.interim_bist (s : State) (r : CmdRef) : (s.interim r).bist = s.bist := (interim_books r (Books.refl s)).bist
@[simp] theorem State.interim_sec (s : State) (r : CmdRef) : (s.interim r).sec = s.sec := (interim_books r (Books.refl s)).sec
@[simp] theorem State.interim_img (s : State) (r : CmdRef) : (s.interim r).img = s.img := (interim_books r (Books.refl s)).img
@[simp] theorem State.interim_pow (s : State) (r : CmdRef) : (s.interim r).pow = s.pow := (interim_books r (Books.refl s)).pow
@[simp] theorem State.interim_thm (s : State) (r : CmdRef) : (s.interim r).thm = s.thm := (interim_books r (Books.refl s)).thm
@[simp] theorem State.interim_pins (s : State) (r : CmdRef) : (s.interim r).pins = s.pins := (interim_books r (Books.refl s)).pins
@[simp] theorem State.interim_tal (s : State) (r : CmdRef) : (s.interim r).tal = s.tal := (interim_books r (Books.refl s)).tal
@[simp] theorem State.interim_lane (s : State) (r : CmdRef) : (s.interim r).lane = s.lane := (interim_books r (Books.refl s)).lane
@[simp] theorem State.interim_clk (s : State) (r : CmdRef) : (s.interim r).clk = s.clk := (interim_books r (Books.refl s)).clk
@[simp] theorem State.interim_dev (s : State) (r : CmdRef) : (s.interim r).dev = s.dev := (interim_books r (Books.refl s)).dev
@[simp] theorem State.interim_dbg (s : State) (r : CmdRef) : (s.interim r).dbg = s.dbg := (interim_books r (Books.refl s)).dbg
@[simp] theorem State.interim_free (s : State) (r : CmdRef) : (s.interim r).free = s.free := (interim_books r (Books.refl s)).free
@[simp] theorem State.interim_mnt_again (s : State) (r : CmdRef) : (s.interim r).mnt.again = s.mnt.again := (interim_books r (Books.refl s)).mnt_again
@[simp] theorem State.interim_mnt_wanted (s : State) (r : CmdRef) : (s.interim r).mnt.wanted = s.mnt.wanted := (interim_books r (Books.refl s)).mnt_wanted
@[simp] theorem State.interim_mnt_matMap (s : State) (r : CmdRef) : (s.interim r).mnt.matMap = s.mnt.matMap := (interim_books r (Books.refl s)).mnt_matMap
@[simp] theorem State.interim_mnt_bankMap (s : State) (r : CmdRef) : (s.interim r).mnt.bankMap = s.mnt.bankMap := (interim_books r (Books.refl s)).mnt_bankMap
@[simp] theorem State.interim_mnt_retired (s : State) (r : CmdRef) : (s.interim r).mnt.retired = s.mnt.retired := (interim_books r (Books.refl s)).mnt_retired
@[simp] theorem State.interim_mnt_stopped (s : State) (r : CmdRef) : (s.interim r).mnt.stopped = s.mnt.stopped := (interim_books r (Books.refl s)).mnt_stopped
@[simp] theorem State.interim_mnt_lost (s : State) (r : CmdRef) : (s.interim r).mnt.lost = s.mnt.lost := (interim_books r (Books.refl s)).mnt_lost
@[simp] theorem State.interim_mnt_fwPhase (s : State) (r : CmdRef) : (s.interim r).mnt.fwPhase = s.mnt.fwPhase := (interim_books r (Books.refl s)).mnt_fwPhase
@[simp] theorem State.interim_mnt_fwAt (s : State) (r : CmdRef) : (s.interim r).mnt.fwAt = s.mnt.fwAt := (interim_books r (Books.refl s)).mnt_fwAt
@[simp] theorem State.interim_mnt_fwCopies (s : State) (r : CmdRef) : (s.interim r).mnt.fwCopies = s.mnt.fwCopies := (interim_books r (Books.refl s)).mnt_fwCopies
@[simp] theorem State.interim_mnt_fwStaged (s : State) (r : CmdRef) : (s.interim r).mnt.fwStaged = s.mnt.fwStaged := (interim_books r (Books.refl s)).mnt_fwStaged
@[simp] theorem State.interim_mnt_chains (s : State) (r : CmdRef) : (s.interim r).mnt.chains = s.mnt.chains := (interim_books r (Books.refl s)).mnt_chains
@[simp] theorem State.interim_core_cores (s : State) (r : CmdRef) : (s.interim r).core.cores = s.core.cores := (interim_books r (Books.refl s)).core_cores
@[simp] theorem State.interim_core_sram (s : State) (r : CmdRef) : (s.interim r).core.sram = s.core.sram := (interim_books r (Books.refl s)).core_sram
@[simp] theorem State.interim_core_lock (s : State) (r : CmdRef) : (s.interim r).core.lock = s.core.lock := (interim_books r (Books.refl s)).core_lock
@[simp] theorem State.interim_core_progs (s : State) (r : CmdRef) : (s.interim r).core.progs = s.core.progs := (interim_books r (Books.refl s)).core_progs
@[simp] theorem State.interim_host_cmds (s : State) (r : CmdRef) : (s.interim r).host.cmds = s.host.cmds := (interim_books r (Books.refl s)).host_cmds
@[simp] theorem State.interim_host_hbAt (s : State) (r : CmdRef) : (s.interim r).host.hbAt = s.host.hbAt := (interim_books r (Books.refl s)).host_hbAt
@[simp] theorem State.interim_host_hbRun (s : State) (r : CmdRef) : (s.interim r).host.hbRun = s.host.hbRun := (interim_books r (Books.refl s)).host_hbRun
@[simp] theorem State.interim_host_absentAt (s : State) (r : CmdRef) : (s.interim r).host.absentAt = s.host.absentAt := (interim_books r (Books.refl s)).host_absentAt
@[simp] theorem State.interim_host_perst (s : State) (r : CmdRef) : (s.interim r).host.perst = s.host.perst := (interim_books r (Books.refl s)).host_perst
@[simp] theorem State.interim_host_latch (s : State) (r : CmdRef) : (s.interim r).host.latch = s.host.latch := (interim_books r (Books.refl s)).host_latch
@[simp] theorem State.interim_host_window (s : State) (r : CmdRef) : (s.interim r).host.window = s.host.window := (interim_books r (Books.refl s)).host_window
@[simp] theorem State.interim_host_pf0 (s : State) (r : CmdRef) : (s.interim r).host.pf0 = s.host.pf0 := (interim_books r (Books.refl s)).host_pf0
@[simp] theorem State.interim_host_pf1 (s : State) (r : CmdRef) : (s.interim r).host.pf1 = s.host.pf1 := (interim_books r (Books.refl s)).host_pf1
@[simp] theorem State.interim_fb_pages (s : State) (r : CmdRef) : (s.interim r).fb.pages = s.fb.pages := (interim_books r (Books.refl s)).fb_pages
@[simp] theorem State.interim_fb_markRef (s : State) (r : CmdRef) : (s.interim r).fb.markRef = s.fb.markRef := (interim_books r (Books.refl s)).fb_markRef
@[simp] theorem State.interim_fb_wearRaised (s : State) (r : CmdRef) : (s.interim r).fb.wearRaised = s.fb.wearRaised := (interim_books r (Books.refl s)).fb_wearRaised
@[simp] theorem State.rd_interim (s : State) (r : CmdRef) {j : Nat} (h : j ∉ bookKeys) : (s.interim r).rd j = s.rd j :=
  (interim_books r (Books.refl s)).regs _ h
@[simp] theorem State.get_interim (s : State) (r : CmdRef) {g : Fld} (h : g.reg ∉ bookKeys) : (s.interim r).get g = s.get g :=
  (interim_books r (Books.refl s)).get h
@[simp] theorem State.flag_interim (s : State) (r : CmdRef) {g : Fld} (h : g.reg ∉ bookKeys) : (s.interim r).flag g = s.flag g :=
  (interim_books r (Books.refl s)).flag h
@[simp] theorem State.bit_interim (s : State) (r : CmdRef) {j : Nat} (h : j ∉ bookKeys) (i : Nat) : (s.interim r).bit j i = s.bit j i :=
  State.flag_interim s r (g := ⟨j, i, 1⟩) h

/-! ### finish -/

@[simp] theorem State.finish_pending (s : State) (r : CmdRef) (status : Nat) (result : Word) : (s.finish r status result).pending = s.pending := (finish_books s r status result).keeps.pending
@[simp] theorem State.finish_time (s : State) (r : CmdRef) (status : Nat) (result : Word) : (s.finish r status result).time = s.time := (finish_books s r status result).time
@[simp] theorem State.finish_que (s : State) (r : CmdRef) (status : Nat) (result : Word) : (s.finish r status result).que = s.que := (finish_books s r status result).que
@[simp] theorem State.finish_mem (s : State) (r : CmdRef) (status : Nat) (result : Word) : (s.finish r status result).mem = s.mem := (finish_books s r status result).mem
@[simp] theorem State.finish_col (s : State) (r : CmdRef) (status : Nat) (result : Word) : (s.finish r status result).col = s.col := (finish_books s r status result).col
@[simp] theorem State.finish_ctx (s : State) (r : CmdRef) (status : Nat) (result : Word) : (s.finish r status result).ctx = s.ctx := (finish_books s r status result).ctx
@[simp] theorem State.finish_pace (s : State) (r : CmdRef) (status : Nat) (result : Word) : (s.finish r status result).pace = s.pace := (finish_books s r status result).pace
@[simp] theorem State.finish_bist (s : State) (r : CmdRef) (status : Nat) (result : Word) : (s.finish r status result).bist = s.bist := (finish_books s r status result).bist
@[simp] theorem State.finish_sec (s : State) (r : CmdRef) (status : Nat) (result : Word) : (s.finish r status result).sec = s.sec := (finish_books s r status result).sec
@[simp] theorem State.finish_img (s : State) (r : CmdRef) (status : Nat) (result : Word) : (s.finish r status result).img = s.img := (finish_books s r status result).img
@[simp] theorem State.finish_pow (s : State) (r : CmdRef) (status : Nat) (result : Word) : (s.finish r status result).pow = s.pow := (finish_books s r status result).pow
@[simp] theorem State.finish_thm (s : State) (r : CmdRef) (status : Nat) (result : Word) : (s.finish r status result).thm = s.thm := (finish_books s r status result).thm
@[simp] theorem State.finish_pins (s : State) (r : CmdRef) (status : Nat) (result : Word) : (s.finish r status result).pins = s.pins := (finish_books s r status result).pins
@[simp] theorem State.finish_tal (s : State) (r : CmdRef) (status : Nat) (result : Word) : (s.finish r status result).tal = s.tal := (finish_books s r status result).tal
@[simp] theorem State.finish_lane (s : State) (r : CmdRef) (status : Nat) (result : Word) : (s.finish r status result).lane = s.lane := (finish_books s r status result).lane
@[simp] theorem State.finish_clk (s : State) (r : CmdRef) (status : Nat) (result : Word) : (s.finish r status result).clk = s.clk := (finish_books s r status result).clk
@[simp] theorem State.finish_dev (s : State) (r : CmdRef) (status : Nat) (result : Word) : (s.finish r status result).dev = s.dev := (finish_books s r status result).dev
@[simp] theorem State.finish_dbg (s : State) (r : CmdRef) (status : Nat) (result : Word) : (s.finish r status result).dbg = s.dbg := (finish_books s r status result).dbg
@[simp] theorem State.finish_free (s : State) (r : CmdRef) (status : Nat) (result : Word) : (s.finish r status result).free = s.free := (finish_books s r status result).free
@[simp] theorem State.finish_mnt_again (s : State) (r : CmdRef) (status : Nat) (result : Word) : (s.finish r status result).mnt.again = s.mnt.again := (finish_books s r status result).mnt_again
@[simp] theorem State.finish_mnt_wanted (s : State) (r : CmdRef) (status : Nat) (result : Word) : (s.finish r status result).mnt.wanted = s.mnt.wanted := (finish_books s r status result).mnt_wanted
@[simp] theorem State.finish_mnt_matMap (s : State) (r : CmdRef) (status : Nat) (result : Word) : (s.finish r status result).mnt.matMap = s.mnt.matMap := (finish_books s r status result).mnt_matMap
@[simp] theorem State.finish_mnt_bankMap (s : State) (r : CmdRef) (status : Nat) (result : Word) : (s.finish r status result).mnt.bankMap = s.mnt.bankMap := (finish_books s r status result).mnt_bankMap
@[simp] theorem State.finish_mnt_retired (s : State) (r : CmdRef) (status : Nat) (result : Word) : (s.finish r status result).mnt.retired = s.mnt.retired := (finish_books s r status result).mnt_retired
@[simp] theorem State.finish_mnt_stopped (s : State) (r : CmdRef) (status : Nat) (result : Word) : (s.finish r status result).mnt.stopped = s.mnt.stopped := (finish_books s r status result).mnt_stopped
@[simp] theorem State.finish_mnt_lost (s : State) (r : CmdRef) (status : Nat) (result : Word) : (s.finish r status result).mnt.lost = s.mnt.lost := (finish_books s r status result).mnt_lost
@[simp] theorem State.finish_mnt_fwPhase (s : State) (r : CmdRef) (status : Nat) (result : Word) : (s.finish r status result).mnt.fwPhase = s.mnt.fwPhase := (finish_books s r status result).mnt_fwPhase
@[simp] theorem State.finish_mnt_fwAt (s : State) (r : CmdRef) (status : Nat) (result : Word) : (s.finish r status result).mnt.fwAt = s.mnt.fwAt := (finish_books s r status result).mnt_fwAt
@[simp] theorem State.finish_mnt_fwCopies (s : State) (r : CmdRef) (status : Nat) (result : Word) : (s.finish r status result).mnt.fwCopies = s.mnt.fwCopies := (finish_books s r status result).mnt_fwCopies
@[simp] theorem State.finish_mnt_fwStaged (s : State) (r : CmdRef) (status : Nat) (result : Word) : (s.finish r status result).mnt.fwStaged = s.mnt.fwStaged := (finish_books s r status result).mnt_fwStaged
@[simp] theorem State.finish_mnt_chains (s : State) (r : CmdRef) (status : Nat) (result : Word) : (s.finish r status result).mnt.chains = s.mnt.chains := (finish_books s r status result).mnt_chains
@[simp] theorem State.finish_core_cores (s : State) (r : CmdRef) (status : Nat) (result : Word) : (s.finish r status result).core.cores = s.core.cores := (finish_books s r status result).core_cores
@[simp] theorem State.finish_core_sram (s : State) (r : CmdRef) (status : Nat) (result : Word) : (s.finish r status result).core.sram = s.core.sram := (finish_books s r status result).core_sram
@[simp] theorem State.finish_core_lock (s : State) (r : CmdRef) (status : Nat) (result : Word) : (s.finish r status result).core.lock = s.core.lock := (finish_books s r status result).core_lock
@[simp] theorem State.finish_core_progs (s : State) (r : CmdRef) (status : Nat) (result : Word) : (s.finish r status result).core.progs = s.core.progs := (finish_books s r status result).core_progs
@[simp] theorem State.finish_host_hbAt (s : State) (r : CmdRef) (status : Nat) (result : Word) : (s.finish r status result).host.hbAt = s.host.hbAt := (finish_books s r status result).host_hbAt
@[simp] theorem State.finish_host_hbRun (s : State) (r : CmdRef) (status : Nat) (result : Word) : (s.finish r status result).host.hbRun = s.host.hbRun := (finish_books s r status result).host_hbRun
@[simp] theorem State.finish_host_absentAt (s : State) (r : CmdRef) (status : Nat) (result : Word) : (s.finish r status result).host.absentAt = s.host.absentAt := (finish_books s r status result).host_absentAt
@[simp] theorem State.finish_host_perst (s : State) (r : CmdRef) (status : Nat) (result : Word) : (s.finish r status result).host.perst = s.host.perst := (finish_books s r status result).host_perst
@[simp] theorem State.finish_host_latch (s : State) (r : CmdRef) (status : Nat) (result : Word) : (s.finish r status result).host.latch = s.host.latch := (finish_books s r status result).host_latch
@[simp] theorem State.finish_host_window (s : State) (r : CmdRef) (status : Nat) (result : Word) : (s.finish r status result).host.window = s.host.window := (finish_books s r status result).host_window
@[simp] theorem State.finish_host_pf0 (s : State) (r : CmdRef) (status : Nat) (result : Word) : (s.finish r status result).host.pf0 = s.host.pf0 := (finish_books s r status result).host_pf0
@[simp] theorem State.finish_host_pf1 (s : State) (r : CmdRef) (status : Nat) (result : Word) : (s.finish r status result).host.pf1 = s.host.pf1 := (finish_books s r status result).host_pf1
@[simp] theorem State.finish_fb_pages (s : State) (r : CmdRef) (status : Nat) (result : Word) : (s.finish r status result).fb.pages = s.fb.pages := (finish_books s r status result).fb_pages
@[simp] theorem State.finish_fb_markRef (s : State) (r : CmdRef) (status : Nat) (result : Word) : (s.finish r status result).fb.markRef = s.fb.markRef := (finish_books s r status result).fb_markRef
@[simp] theorem State.finish_fb_wearRaised (s : State) (r : CmdRef) (status : Nat) (result : Word) : (s.finish r status result).fb.wearRaised = s.fb.wearRaised := (finish_books s r status result).fb_wearRaised
@[simp] theorem State.rd_finish (s : State) (r : CmdRef) (status : Nat) (result : Word) {j : Nat} (h : j ∉ bookKeys) : (s.finish r status result).rd j = s.rd j :=
  (finish_books s r status result).regs _ h
@[simp] theorem State.get_finish (s : State) (r : CmdRef) (status : Nat) (result : Word) {g : Fld} (h : g.reg ∉ bookKeys) : (s.finish r status result).get g = s.get g :=
  (finish_books s r status result).get h
@[simp] theorem State.flag_finish (s : State) (r : CmdRef) (status : Nat) (result : Word) {g : Fld} (h : g.reg ∉ bookKeys) : (s.finish r status result).flag g = s.flag g :=
  (finish_books s r status result).flag h
@[simp] theorem State.bit_finish (s : State) (r : CmdRef) (status : Nat) (result : Word) {j : Nat} (h : j ∉ bookKeys) (i : Nat) : (s.finish r status result).bit j i = s.bit j i :=
  State.flag_finish s r status result (g := ⟨j, i, 1⟩) h

/-! ### finishRef -/

@[simp] theorem State.finishRef_pending (s : State) (r : Option CmdRef) (status : Nat) (result : Word) : (s.finishRef r status result).pending = s.pending := by
  unfold State.finishRef; split <;> simp
@[simp] theorem State.finishRef_time (s : State) (r : Option CmdRef) (status : Nat) (result : Word) : (s.finishRef r status result).time = s.time := by
  unfold State.finishRef; split <;> simp
@[simp] theorem State.finishRef_que (s : State) (r : Option CmdRef) (status : Nat) (result : Word) : (s.finishRef r status result).que = s.que := by
  unfold State.finishRef; split <;> simp
@[simp] theorem State.finishRef_mem (s : State) (r : Option CmdRef) (status : Nat) (result : Word) : (s.finishRef r status result).mem = s.mem := by
  unfold State.finishRef; split <;> simp
@[simp] theorem State.finishRef_col (s : State) (r : Option CmdRef) (status : Nat) (result : Word) : (s.finishRef r status result).col = s.col := by
  unfold State.finishRef; split <;> simp
@[simp] theorem State.finishRef_ctx (s : State) (r : Option CmdRef) (status : Nat) (result : Word) : (s.finishRef r status result).ctx = s.ctx := by
  unfold State.finishRef; split <;> simp
@[simp] theorem State.finishRef_pace (s : State) (r : Option CmdRef) (status : Nat) (result : Word) : (s.finishRef r status result).pace = s.pace := by
  unfold State.finishRef; split <;> simp
@[simp] theorem State.finishRef_bist (s : State) (r : Option CmdRef) (status : Nat) (result : Word) : (s.finishRef r status result).bist = s.bist := by
  unfold State.finishRef; split <;> simp
@[simp] theorem State.finishRef_sec (s : State) (r : Option CmdRef) (status : Nat) (result : Word) : (s.finishRef r status result).sec = s.sec := by
  unfold State.finishRef; split <;> simp
@[simp] theorem State.finishRef_img (s : State) (r : Option CmdRef) (status : Nat) (result : Word) : (s.finishRef r status result).img = s.img := by
  unfold State.finishRef; split <;> simp
@[simp] theorem State.finishRef_pow (s : State) (r : Option CmdRef) (status : Nat) (result : Word) : (s.finishRef r status result).pow = s.pow := by
  unfold State.finishRef; split <;> simp
@[simp] theorem State.finishRef_thm (s : State) (r : Option CmdRef) (status : Nat) (result : Word) : (s.finishRef r status result).thm = s.thm := by
  unfold State.finishRef; split <;> simp
@[simp] theorem State.finishRef_pins (s : State) (r : Option CmdRef) (status : Nat) (result : Word) : (s.finishRef r status result).pins = s.pins := by
  unfold State.finishRef; split <;> simp
@[simp] theorem State.finishRef_tal (s : State) (r : Option CmdRef) (status : Nat) (result : Word) : (s.finishRef r status result).tal = s.tal := by
  unfold State.finishRef; split <;> simp
@[simp] theorem State.finishRef_lane (s : State) (r : Option CmdRef) (status : Nat) (result : Word) : (s.finishRef r status result).lane = s.lane := by
  unfold State.finishRef; split <;> simp
@[simp] theorem State.finishRef_clk (s : State) (r : Option CmdRef) (status : Nat) (result : Word) : (s.finishRef r status result).clk = s.clk := by
  unfold State.finishRef; split <;> simp
@[simp] theorem State.finishRef_dev (s : State) (r : Option CmdRef) (status : Nat) (result : Word) : (s.finishRef r status result).dev = s.dev := by
  unfold State.finishRef; split <;> simp
@[simp] theorem State.finishRef_dbg (s : State) (r : Option CmdRef) (status : Nat) (result : Word) : (s.finishRef r status result).dbg = s.dbg := by
  unfold State.finishRef; split <;> simp
@[simp] theorem State.finishRef_free (s : State) (r : Option CmdRef) (status : Nat) (result : Word) : (s.finishRef r status result).free = s.free := by
  unfold State.finishRef; split <;> simp
@[simp] theorem State.finishRef_mnt_again (s : State) (r : Option CmdRef) (status : Nat) (result : Word) : (s.finishRef r status result).mnt.again = s.mnt.again := by
  unfold State.finishRef; split <;> simp
@[simp] theorem State.finishRef_mnt_wanted (s : State) (r : Option CmdRef) (status : Nat) (result : Word) : (s.finishRef r status result).mnt.wanted = s.mnt.wanted := by
  unfold State.finishRef; split <;> simp
@[simp] theorem State.finishRef_mnt_matMap (s : State) (r : Option CmdRef) (status : Nat) (result : Word) : (s.finishRef r status result).mnt.matMap = s.mnt.matMap := by
  unfold State.finishRef; split <;> simp
@[simp] theorem State.finishRef_mnt_bankMap (s : State) (r : Option CmdRef) (status : Nat) (result : Word) : (s.finishRef r status result).mnt.bankMap = s.mnt.bankMap := by
  unfold State.finishRef; split <;> simp
@[simp] theorem State.finishRef_mnt_retired (s : State) (r : Option CmdRef) (status : Nat) (result : Word) : (s.finishRef r status result).mnt.retired = s.mnt.retired := by
  unfold State.finishRef; split <;> simp
@[simp] theorem State.finishRef_mnt_stopped (s : State) (r : Option CmdRef) (status : Nat) (result : Word) : (s.finishRef r status result).mnt.stopped = s.mnt.stopped := by
  unfold State.finishRef; split <;> simp
@[simp] theorem State.finishRef_mnt_lost (s : State) (r : Option CmdRef) (status : Nat) (result : Word) : (s.finishRef r status result).mnt.lost = s.mnt.lost := by
  unfold State.finishRef; split <;> simp
@[simp] theorem State.finishRef_mnt_fwPhase (s : State) (r : Option CmdRef) (status : Nat) (result : Word) : (s.finishRef r status result).mnt.fwPhase = s.mnt.fwPhase := by
  unfold State.finishRef; split <;> simp
@[simp] theorem State.finishRef_mnt_fwAt (s : State) (r : Option CmdRef) (status : Nat) (result : Word) : (s.finishRef r status result).mnt.fwAt = s.mnt.fwAt := by
  unfold State.finishRef; split <;> simp
@[simp] theorem State.finishRef_mnt_fwCopies (s : State) (r : Option CmdRef) (status : Nat) (result : Word) : (s.finishRef r status result).mnt.fwCopies = s.mnt.fwCopies := by
  unfold State.finishRef; split <;> simp
@[simp] theorem State.finishRef_mnt_fwStaged (s : State) (r : Option CmdRef) (status : Nat) (result : Word) : (s.finishRef r status result).mnt.fwStaged = s.mnt.fwStaged := by
  unfold State.finishRef; split <;> simp
@[simp] theorem State.finishRef_mnt_chains (s : State) (r : Option CmdRef) (status : Nat) (result : Word) : (s.finishRef r status result).mnt.chains = s.mnt.chains := by
  unfold State.finishRef; split <;> simp
@[simp] theorem State.finishRef_core_cores (s : State) (r : Option CmdRef) (status : Nat) (result : Word) : (s.finishRef r status result).core.cores = s.core.cores := by
  unfold State.finishRef; split <;> simp
@[simp] theorem State.finishRef_core_sram (s : State) (r : Option CmdRef) (status : Nat) (result : Word) : (s.finishRef r status result).core.sram = s.core.sram := by
  unfold State.finishRef; split <;> simp
@[simp] theorem State.finishRef_core_lock (s : State) (r : Option CmdRef) (status : Nat) (result : Word) : (s.finishRef r status result).core.lock = s.core.lock := by
  unfold State.finishRef; split <;> simp
@[simp] theorem State.finishRef_core_progs (s : State) (r : Option CmdRef) (status : Nat) (result : Word) : (s.finishRef r status result).core.progs = s.core.progs := by
  unfold State.finishRef; split <;> simp
@[simp] theorem State.finishRef_host_hbAt (s : State) (r : Option CmdRef) (status : Nat) (result : Word) : (s.finishRef r status result).host.hbAt = s.host.hbAt := by
  unfold State.finishRef; split <;> simp
@[simp] theorem State.finishRef_host_hbRun (s : State) (r : Option CmdRef) (status : Nat) (result : Word) : (s.finishRef r status result).host.hbRun = s.host.hbRun := by
  unfold State.finishRef; split <;> simp
@[simp] theorem State.finishRef_host_absentAt (s : State) (r : Option CmdRef) (status : Nat) (result : Word) : (s.finishRef r status result).host.absentAt = s.host.absentAt := by
  unfold State.finishRef; split <;> simp
@[simp] theorem State.finishRef_host_perst (s : State) (r : Option CmdRef) (status : Nat) (result : Word) : (s.finishRef r status result).host.perst = s.host.perst := by
  unfold State.finishRef; split <;> simp
@[simp] theorem State.finishRef_host_latch (s : State) (r : Option CmdRef) (status : Nat) (result : Word) : (s.finishRef r status result).host.latch = s.host.latch := by
  unfold State.finishRef; split <;> simp
@[simp] theorem State.finishRef_host_window (s : State) (r : Option CmdRef) (status : Nat) (result : Word) : (s.finishRef r status result).host.window = s.host.window := by
  unfold State.finishRef; split <;> simp
@[simp] theorem State.finishRef_host_pf0 (s : State) (r : Option CmdRef) (status : Nat) (result : Word) : (s.finishRef r status result).host.pf0 = s.host.pf0 := by
  unfold State.finishRef; split <;> simp
@[simp] theorem State.finishRef_host_pf1 (s : State) (r : Option CmdRef) (status : Nat) (result : Word) : (s.finishRef r status result).host.pf1 = s.host.pf1 := by
  unfold State.finishRef; split <;> simp
@[simp] theorem State.finishRef_fb_pages (s : State) (r : Option CmdRef) (status : Nat) (result : Word) : (s.finishRef r status result).fb.pages = s.fb.pages := by
  unfold State.finishRef; split <;> simp
@[simp] theorem State.finishRef_fb_markRef (s : State) (r : Option CmdRef) (status : Nat) (result : Word) : (s.finishRef r status result).fb.markRef = s.fb.markRef := by
  unfold State.finishRef; split <;> simp
@[simp] theorem State.finishRef_fb_wearRaised (s : State) (r : Option CmdRef) (status : Nat) (result : Word) : (s.finishRef r status result).fb.wearRaised = s.fb.wearRaised := by
  unfold State.finishRef; split <;> simp
@[simp] theorem State.rd_finishRef (s : State) (r : Option CmdRef) (status : Nat) (result : Word) {j : Nat} (h : j ∉ bookKeys) : (s.finishRef r status result).rd j = s.rd j :=
  by
  unfold State.finishRef; split <;> simp [h]
@[simp] theorem State.get_finishRef (s : State) (r : Option CmdRef) (status : Nat) (result : Word) {g : Fld} (h : g.reg ∉ bookKeys) : (s.finishRef r status result).get g = s.get g :=
  by
  unfold State.finishRef; split <;> simp [h]
@[simp] theorem State.flag_finishRef (s : State) (r : Option CmdRef) (status : Nat) (result : Word) {g : Fld} (h : g.reg ∉ bookKeys) : (s.finishRef r status result).flag g = s.flag g :=
  by
  unfold State.finishRef; split <;> simp [h]
@[simp] theorem State.bit_finishRef (s : State) (r : Option CmdRef) (status : Nat) (result : Word) {j : Nat} (h : j ∉ bookKeys) (i : Nat) : (s.finishRef r status result).bit j i = s.bit j i :=
  State.flag_finishRef s r status result (g := ⟨j, i, 1⟩) h

end Sys2Proof.Machine
end

