-- ==== Sys2Proof/Laws/HostCmd.lean ====
section
/-! SUPPORT.  Laws of the frame of host commands: what State.hostCmd does with a command that it lets run, and that such a
command has its completion (R293 to R295). -/

namespace Sys2Proof.Machine

open Sys2Proof

/-- The state in which a command's own part runs: the command is held as accepted and started, its session has been used. -/
def State.begun (s : State) (h : Hdr) (op : Nat) : State :=
  let r := hdrRef h op
  if (s.cmdOf r.ring r.id op).isSome then s.markStarted r else
    let s := s.useSession h.session
    { s with host := { s.host with cmds := s.host.cmds ++
        [{ ring := r.ring, id := r.id, opcode := op, session := h.session, started := true, discard := false }] } }

/-- A command that its frame lets run is its own part, and then its completion if it ends at once. -/
theorem State.hostCmd_lets {s : State} {h : Hdr} {op : Nat} (l : Lets s h op) (body : State → CmdRes) :
    s.hostCmd h op body = match (body (s.begun h op)).fin with
      | some (st, res) => (body (s.begun h op)).st.finish (hdrRef h op) st res
      | none => (body (s.begun h op)).st := by
  unfold State.hostCmd
  have h1 : ¬ ((s.cmdOf (hdrRef h op).ring (hdrRef h op).id op).isSome = false ∧ s.mayIssue op h.session = false) := by
    rintro ⟨a, b⟩
    rcases l.session with c | c
    · simp only [hdrRef] at a; rw [c] at a; cases a
    · rw [c] at b; cases b
  have h2 : ¬ (0 < s.bist.down ∧ op ≠ 0x70) := by
    rintro ⟨a, b⟩
    rcases l.down with c | c
    · omega
    · exact b c
  have h3 : ¬ (h.rsv = true) := by rw [l.rsv]; exact Bool.noConfusion
  simp only [if_neg h1, if_neg h2, if_neg h3]
  rfl

theorem begun_fr (s : State) (h : Hdr) (op : Nat) : Fr [.cmds, .sessions] [] s (s.begun h op) := by
  unfold State.begun
  dsimp only
  split
  · exact fr_mk (Fr.refl _ _ s) (by simp [Keeps.refl]) rfl
  · exact fr_mk (Fr.refl _ _ s) (by simp [State.useSession, Keeps.refl]) rfl

@[simp] theorem begun_regs (s : State) (h : Hdr) (op : Nat) : (s.begun h op).regs = s.regs := by
  unfold State.begun; dsimp only; split <;> rfl

@[simp] theorem begun_rd (s : State) (h : Hdr) (op j : Nat) : (s.begun h op).rd j = s.rd j := by
  unfold State.rd; rw [begun_regs]

@[simp] theorem begun_get (s : State) (h : Hdr) (op : Nat) (g : Fld) : (s.begun h op).get g = s.get g := by
  unfold State.get; rw [begun_rd]

@[simp] theorem begun_flag (s : State) (h : Hdr) (op : Nat) (g : Fld) : (s.begun h op).flag g = s.flag g := by
  unfold State.flag; rw [begun_get]

@[simp] theorem begun_bit (s : State) (h : Hdr) (op j i : Nat) : (s.begun h op).bit j i = s.bit j i := by
  unfold State.bit; rw [begun_flag]

@[simp] theorem begun_pending (s : State) (h : Hdr) (op : Nat) : (s.begun h op).pending = s.pending := by
  unfold State.begun; dsimp only; split <;> rfl
@[simp] theorem begun_time (s : State) (h : Hdr) (op : Nat) : (s.begun h op).time = s.time := by
  unfold State.begun; dsimp only; split <;> rfl
@[simp] theorem begun_ev (s : State) (h : Hdr) (op : Nat) : (s.begun h op).ev = s.ev := by
  unfold State.begun; dsimp only; split <;> rfl
@[simp] theorem begun_que (s : State) (h : Hdr) (op : Nat) : (s.begun h op).que = s.que := by
  unfold State.begun; dsimp only; split <;> rfl
@[simp] theorem begun_mem (s : State) (h : Hdr) (op : Nat) : (s.begun h op).mem = s.mem := by
  unfold State.begun; dsimp only; split <;> rfl
@[simp] theorem begun_col (s : State) (h : Hdr) (op : Nat) : (s.begun h op).col = s.col := by
  unfold State.begun; dsimp only; split <;> rfl
@[simp] theorem begun_ctx (s : State) (h : Hdr) (op : Nat) : (s.begun h op).ctx = s.ctx := by
  unfold State.begun; dsimp only; split <;> rfl
@[simp] theorem begun_pace (s : State) (h : Hdr) (op : Nat) : (s.begun h op).pace = s.pace := by
  unfold State.begun; dsimp only; split <;> rfl
@[simp] theorem begun_mnt (s : State) (h : Hdr) (op : Nat) : (s.begun h op).mnt = s.mnt := by
  unfold State.begun; dsimp only; split <;> rfl
@[simp] theorem begun_bist (s : State) (h : Hdr) (op : Nat) : (s.begun h op).bist = s.bist := by
  unfold State.begun; dsimp only; split <;> rfl
@[simp] theorem begun_fb (s : State) (h : Hdr) (op : Nat) : (s.begun h op).fb = s.fb := by
  unfold State.begun; dsimp only; split <;> rfl
@[simp] theorem begun_core (s : State) (h : Hdr) (op : Nat) : (s.begun h op).core = s.core := by
  unfold State.begun; dsimp only; split <;> rfl
@[simp] theorem begun_img (s : State) (h : Hdr) (op : Nat) : (s.begun h op).img = s.img := by
  unfold State.begun; dsimp only; split <;> rfl
@[simp] theorem begun_pow (s : State) (h : Hdr) (op : Nat) : (s.begun h op).pow = s.pow := by
  unfold State.begun; dsimp only; split <;> rfl
@[simp] theorem begun_thm (s : State) (h : Hdr) (op : Nat) : (s.begun h op).thm = s.thm := by
  unfold State.begun; dsimp only; split <;> rfl
@[simp] theorem begun_pins (s : State) (h : Hdr) (op : Nat) : (s.begun h op).pins = s.pins := by
  unfold State.begun; dsimp only; split <;> rfl
@[simp] theorem begun_tal (s : State) (h : Hdr) (op : Nat) : (s.begun h op).tal = s.tal := by
  unfold State.begun; dsimp only; split <;> rfl
@[simp] theorem begun_lane (s : State) (h : Hdr) (op : Nat) : (s.begun h op).lane = s.lane := by
  unfold State.begun; dsimp only; split <;> rfl
@[simp] theorem begun_clk (s : State) (h : Hdr) (op : Nat) : (s.begun h op).clk = s.clk := by
  unfold State.begun; dsimp only; split <;> rfl
@[simp] theorem begun_dev (s : State) (h : Hdr) (op : Nat) : (s.begun h op).dev = s.dev := by
  unfold State.begun; dsimp only; split <;> rfl
@[simp] theorem begun_dbg (s : State) (h : Hdr) (op : Nat) : (s.begun h op).dbg = s.dbg := by
  unfold State.begun; dsimp only; split <;> rfl
@[simp] theorem begun_out (s : State) (h : Hdr) (op : Nat) : (s.begun h op).out = s.out := by
  unfold State.begun; dsimp only; split <;> rfl
@[simp] theorem begun_free (s : State) (h : Hdr) (op : Nat) : (s.begun h op).free = s.free := by
  unfold State.begun; dsimp only; split <;> rfl
@[simp] theorem begun_host_rings (s : State) (h : Hdr) (op : Nat) : (s.begun h op).host.rings = s.host.rings := by
  unfold State.begun; dsimp only; split <;> rfl
@[simp] theorem begun_host_hbAt (s : State) (h : Hdr) (op : Nat) : (s.begun h op).host.hbAt = s.host.hbAt := by
  unfold State.begun; dsimp only; split <;> rfl
@[simp] theorem begun_host_hbRun (s : State) (h : Hdr) (op : Nat) : (s.begun h op).host.hbRun = s.host.hbRun := by
  unfold State.begun; dsimp only; split <;> rfl
@[simp] theorem begun_host_absentAt (s : State) (h : Hdr) (op : Nat) : (s.begun h op).host.absentAt = s.host.absentAt := by
  unfold State.begun; dsimp only; split <;> rfl
@[simp] theorem begun_host_perst (s : State) (h : Hdr) (op : Nat) : (s.begun h op).host.perst = s.host.perst := by
  unfold State.begun; dsimp only; split <;> rfl
@[simp] theorem begun_host_latch (s : State) (h : Hdr) (op : Nat) : (s.begun h op).host.latch = s.host.latch := by
  unfold State.begun; dsimp only; split <;> rfl
@[simp] theorem begun_host_window (s : State) (h : Hdr) (op : Nat) : (s.begun h op).host.window = s.host.window := by
  unfold State.begun; dsimp only; split <;> rfl
@[simp] theorem begun_host_pf0 (s : State) (h : Hdr) (op : Nat) : (s.begun h op).host.pf0 = s.host.pf0 := by
  unfold State.begun; dsimp only; split <;> rfl
@[simp] theorem begun_host_pf1 (s : State) (h : Hdr) (op : Nat) : (s.begun h op).host.pf1 = s.host.pf1 := by
  unfold State.begun; dsimp only; split <;> rfl
@[simp] theorem begun_sec_root (s : State) (h : Hdr) (op : Nat) : (s.begun h op).sec.root = s.sec.root := by
  unfold State.begun; dsimp only; split <;> rfl
@[simp] theorem begun_sec_boryr (s : State) (h : Hdr) (op : Nat) : (s.begun h op).sec.boryr = s.sec.boryr := by
  unfold State.begun; dsimp only; split <;> rfl
@[simp] theorem begun_sec_vendor (s : State) (h : Hdr) (op : Nat) : (s.begun h op).sec.vendor = s.sec.vendor := by
  unfold State.begun; dsimp only; split <;> rfl
@[simp] theorem begun_sec_keys (s : State) (h : Hdr) (op : Nat) : (s.begun h op).sec.keys = s.sec.keys := by
  unfold State.begun; dsimp only; split <;> rfl
@[simp] theorem begun_sec_pwds (s : State) (h : Hdr) (op : Nat) : (s.begun h op).sec.pwds = s.sec.pwds := by
  unfold State.begun; dsimp only; split <;> rfl
@[simp] theorem begun_sec_identity (s : State) (h : Hdr) (op : Nat) : (s.begun h op).sec.identity = s.sec.identity := by
  unfold State.begun; dsimp only; split <;> rfl
@[simp] theorem begun_sec_cert (s : State) (h : Hdr) (op : Nat) : (s.begun h op).sec.cert = s.sec.cert := by
  unfold State.begun; dsimp only; split <;> rfl
@[simp] theorem begun_sec_keyStore (s : State) (h : Hdr) (op : Nat) : (s.begun h op).sec.keyStore = s.sec.keyStore := by
  unfold State.begun; dsimp only; split <;> rfl
@[simp] theorem begun_sec_challenge (s : State) (h : Hdr) (op : Nat) : (s.begun h op).sec.challenge = s.sec.challenge := by
  unfold State.begun; dsimp only; split <;> rfl
@[simp] theorem begun_sec_lockEnd (s : State) (h : Hdr) (op : Nat) : (s.begun h op).sec.lockEnd = s.sec.lockEnd := by
  unfold State.begun; dsimp only; split <;> rfl

/-- The accepted command is held, and nothing has discarded it. -/
theorem begun_cmdOf {s : State} {h : Hdr} {op : Nat} (l : Lets s h op) :
    ∃ c, (s.begun h op).cmdOf h.ring.val h.id op = some c ∧ c.discard = false := by
  unfold State.begun hdrRef
  dsimp only
  cases hc : s.cmdOf h.ring.val h.id op with
  | some c =>
    refine ⟨{ c with started := true }, ?_, l.kept c hc⟩
    simp only [Option.isSome_some, if_true, State.markStarted, State.cmdOf] at hc ⊢
    have hp := List.find?_some hc
    simp only [decide_eq_true_eq] at hp
    rw [List.find?_map]
    have : ((fun c : Cmd => decide (c.ring = h.ring.val ∧ c.id = h.id ∧ c.opcode = op)) ∘ fun c : Cmd =>
        if c.ring = h.ring.val ∧ c.id = h.id ∧ c.opcode = op then { c with started := true } else c) =
        (fun c : Cmd => decide (c.ring = h.ring.val ∧ c.id = h.id ∧ c.opcode = op)) := by
      funext x
      simp only [Function.comp]
      split <;> simp_all
    rw [this, hc]
    simp [hp]
  | none =>
    refine ⟨{ ring := h.ring.val, id := h.id, opcode := op, session := h.session, started := true, discard := false }, ?_, rfl⟩
    simp only [State.useSession, State.cmdOf, Option.isSome_none, Bool.false_eq_true, if_false] at hc ⊢
    rw [List.find?_append, hc]
    simp

/-! ### What waits in completion rings -/

theorem setRing_held (s : State) (n : Nat) (r : Ring) (h : r.held = (s.ring n).held) (m : Nat) :
    ((s.setRing n r).ring m).held = (s.ring m).held := by
  unfold State.ring State.setRing
  rw [Tab.get_put]
  split
  · subst_vars; exact h
  · rfl

theorem setRing_held_ne (s : State) (n : Nat) (r : Ring) {m : Nat} (h : m ≠ n) :
    ((s.setRing n r).ring m).held = (s.ring m).held := by
  unfold State.ring State.setRing
  rw [Tab.get_put_ne _ _ h]

@[simp] theorem emit_held (s : State) (o : Out) (m : Nat) : ((s.emit o).ring m).held = (s.ring m).held := rfl

theorem ringMsg_held (s : State) (n m : Nat) : ((s.ringMsg n).ring m).held = (s.ring m).held := by
  unfold State.ringMsg
  dsimp only
  split
  · rw [emit_held]; refine setRing_held _ _ _ ?_ m; rfl
  · refine setRing_held _ _ _ ?_ m; rfl

theorem ringSignal_held (s : State) (n m : Nat) : ((s.ringSignal n).ring m).held = (s.ring m).held := by
  unfold State.ringSignal
  extract_lets r t
  have h : (t.ring m).held = (s.ring m).held := setRing_held s n
    { r with unsig := r.unsig + 1, since := if r.unsig = 0 then s.time else r.since } rfl m
  split
  · exact (ringMsg_held t n m).trans h
  · exact h

theorem produce_held (s : State) (n size : Nat) (b : List Byte) (m : Nat) :
    ((s.produce n size b).ring m).held = (s.ring m).held := by
  unfold State.produce State.mirror
  dsimp only
  rw [ringSignal_held, emit_held]
  refine setRing_held _ _ _ ?_ m; rfl

theorem held_of_host {s t : State} (h : t.host.rings = s.host.rings) (m : Nat) : (t.ring m).held = (s.ring m).held := by
  unfold State.ring; rw [h]

theorem toEventRing_held (e : Event) (s : State) (n m : Nat) :
    ((State.toEventRing e s n).ring m).held = (s.ring m).held := by
  unfold State.toEventRing
  split
  · split
    · exact held_of_host (by simp) m
    · exact produce_held _ _ _ _ m
  · rfl

theorem foldl_held {α : Type} (f : State → α → State) (hf : ∀ s a m, ((f s a).ring m).held = (s.ring m).held)
    (l : List α) (s : State) (m : Nat) : ((l.foldl f s).ring m).held = (s.ring m).held := by
  induction l generalizing s with
  | nil => rfl
  | cons a l ih => exact (ih (f s a)).trans (hf s a m)

theorem toCoreRing_rings (e : Event) (s : State) (t : Nat) : (State.toCoreRing e s t).host.rings = s.host.rings := by
  unfold State.toCoreRing
  dsimp only
  split
  · rfl
  · split <;> rfl

theorem commitTrigger_rings (s : State) (cause : Nat) (seq : BitVec 32) :
    (s.commitTrigger cause seq).host.rings = s.host.rings := by
  unfold State.commitTrigger State.submitRaw State.grant State.onGrant
  dsimp only
  repeat' split
  all_goals first | rfl | simp

/-- Raising an event adds nothing to the completions that wait. -/
theorem raiseRaw_held (s : State) (code src status : Nat) (data : BitVec 112) (trigger : Option Nat) (m : Nat) :
    ((s.raiseRaw code src status data trigger).ring m).held = (s.ring m).held := by
  unfold State.raiseRaw
  generalize upto 64 = l64
  generalize upto 6 = l6
  lift_lets
  intro e v a b g c d trig f
  have hb : (b.ring m).held = (s.ring m).held :=
    foldl_held _ (fun s n m => toEventRing_held e s n m) _ _ m
  have hc : (c.ring m).held = (s.ring m).held := by
    refine Eq.trans ?_ hb
    show (State.ring (if _ then _ else _) m).held = _
    split
    · refine held_of_host ?_ m
      unfold State.assertSource
      dsimp only
      split <;> rfl
    · rfl
  have hd : (d.ring m).held = (s.ring m).held := by
    refine Eq.trans ?_ hc
    show (State.ring (if _ then _ else _) m).held = _
    split
    · refine foldl_held _ (fun s t m => ?_) _ _ m
      split
      · exact held_of_host (toCoreRing_rings e s t) m
      · rfl
    · rfl
  have hf : (f.ring m).held = (s.ring m).held := by
    refine Eq.trans ?_ hd
    show (State.ring (if _ then _ else _) m).held = _
    split
    · exact held_of_host (by simp [State.fbTake]) m
    · rfl
  cases trig with
  | none => exact hf
  | some cause => exact (held_of_host (commitTrigger_rings _ _ _) m).trans hf

theorem raise_held (s : State) (code src : Nat) (data : List (Nat × Nat × Nat)) (m : Nat) :
    ((s.raise code src data).ring m).held = (s.ring m).held := raiseRaw_held ..

theorem raiseSt_held (s : State) (code src status : Nat) (data : List (Nat × Nat × Nat)) (m : Nat) :
    ((s.raiseSt code src status data).ring m).held = (s.ring m).held := raiseRaw_held ..

theorem raiseTrig_held (s : State) (code src cause : Nat) (data : List (Nat × Nat × Nat)) (m : Nat) :
    ((s.raiseTrig code src cause data).ring m).held = (s.ring m).held := raiseRaw_held ..

theorem raiseLim_held (s : State) (code src : Nat) (data : List (Nat × Nat × Nat)) (m : Nat) :
    ((s.raiseLim code src data).ring m).held = (s.ring m).held := by
  unfold State.raiseLim
  split
  · exact raise_held ..
  · rfl

/-! ### Completions -/

theorem produce_out (u : State) (n size : Nat) (b : List Byte) :
    u.out ++ [Out.hostWrite (u.entryAddr n (u.ring n).p size) b] <+: (u.produce n size b).out := by
  unfold State.produce
  dsimp only
  refine List.IsPrefix.trans ?_ (State.ringSignal_keeps n (Keeps.refl _)).out
  simp only [State.mirror, State.emit, State.setRing]
  exact List.prefix_append _ _


/-- A completion that is posted has been sent or waits. -/
theorem posted_post {s u : State} (c : Compl) (ho : s.out <+: u.out) (hh : ∀ m, (u.ring m).held = (s.ring m).held) :
    Posted s (u.post c) c := by
  unfold State.post
  dsimp only
  split
  · left
    obtain ⟨l, hl⟩ := ho
    refine ⟨u.entryAddr (u.get ⟨ringAux c.ring, 0, 6⟩) (u.ring (u.get ⟨ringAux c.ring, 0, 6⟩)).p 16, ?_⟩
    have h1 := produce_out u (u.get ⟨ringAux c.ring, 0, 6⟩) 16 (complBytes c)
    obtain ⟨r, hr⟩ := h1
    rw [← hr, ← hl]
    simp
  · right
    rw [State.get_setRing]
    simp only [State.ring, State.setRing, Tab.get_put_self]
    have := hh (u.get ⟨ringAux c.ring, 0, 6⟩)
    simp only [State.ring] at this
    rw [this]
    simp

/-- The completion of a command that has begun. -/
theorem done_finish {s u : State} {h : Hdr} {op : Nat} (l : Lets s h op) (hc : u.host.cmds = (s.begun h op).host.cmds)
    (ho : s.out <+: u.out) (hh : ∀ m, (u.ring m).held = (s.ring m).held) (status : Nat) (result : Word) :
    Done s (u.finish (hdrRef h op) status result) h op status result := by
  obtain ⟨c, h1, h2⟩ := begun_cmdOf l
  have h3 : u.cmdOf h.ring.val h.id op = some c := by
    rw [← h1]; unfold State.cmdOf; rw [hc]
  constructor
  · unfold State.finish hdrRef
    dsimp only
    rw [h3]
    simp only [h2]
    exact posted_post (u := { u with host := { u.host with cmds := u.host.cmds.filter (fun c => decide (¬ (c.ring = h.ring.val ∧
      c.id = h.id ∧ c.opcode = op))) } }) _ ho (fun m => hh m)
  · have h4 : (u.finish (hdrRef h op) status result).host.cmds = u.host.cmds.filter (fun c => decide (¬ (c.ring = h.ring.val ∧
      c.id = h.id ∧ c.opcode = op))) := (finish_books u (hdrRef h op) status result).host_cmds
    unfold State.cmdOf
    rw [h4, List.find?_eq_none]
    intro x hx
    have := (List.mem_filter.1 hx).2
    simp only [decide_eq_true_eq] at this ⊢
    exact this

end Sys2Proof.Machine
end

