-- ==== Sys2Proof/Laws/KeepsFabricStep.lean ====
section
/-! SUPPORT.  Each operation of FabricStep.lean gives a later state (Keeps). -/

namespace Sys2Proof.Machine

open Sys2Proof

@[simp ↓] theorem State.advanceMat_keeps {s0 before s : State} (q : Nat) (hk : Keeps s0 s) :
    Keeps s0 (State.advanceMat before s q) := by
  unfold State.advanceMat
  simp (maxDischargeDepth := 40) [*]

@[simp ↓] theorem State.ackResponses_keeps {s0 before s : State} (hk : Keeps s0 s) :
    Keeps s0 (State.ackResponses before s) :=
  keeps_foldl hk (fun t a ht => keeps_ite (by simp [ht]) ht) _

@[simp ↓] theorem State.captureFrond_keeps {s0 : State} {s : State} (q : Nat) (f : Nat) (w : BitVec 256) (hk : Keeps
    s0 s) : Keeps s0 (State.captureFrond s q f w) := by
  unfold State.captureFrond
  simp (maxDischargeDepth := 40) [*]

@[simp ↓] theorem State.captureMat_keeps {s0 : State} {s : State} (q : Nat) (rising : Bool) (hk : Keeps s0 s) :
    Keeps s0 (State.captureMat s q rising) := by
  unfold State.captureMat
  simp (maxDischargeDepth := 40) (contextual := true) [*]

@[simp ↓] theorem State.clockTree_keeps {s0 before s : State} (n : Nat) (hk : Keeps s0 s) :
    Keeps s0 (State.clockTree before s n) := by
  unfold State.clockTree
  refine keeps_ite hk (keeps_foldl ?_ (fun t a ht => by simp [ht]) _)
  exact keeps_mk hk List.prefix_rfl (Nat.le_refl _) rfl rfl id id id id id id

@[simp ↓] theorem State.findFaults_keeps {s0 : State} {s : State} (q : Nat) (hk : Keeps s0 s) : Keeps s0
    (State.findFaults s q) := by
  unfold State.findFaults
  simp (maxDischargeDepth := 40) (contextual := true) [*]

@[simp ↓] theorem State.advance_keeps {s0 : State} {s : State}  (hk : Keeps s0 s) : Keeps s0 (State.advance s) := by
  unfold State.advance
  simp (maxDischargeDepth := 40) (contextual := true) [*]

end Sys2Proof.Machine
end

