-- ==== Sys2Proof/Laws/KeepsPorts.lean ====
section
/-! SUPPORT.  Each operation of Ports.lean gives a later state (Keeps). -/

namespace Sys2Proof.Machine

open Sys2Proof

@[simp ↓] theorem State.portAnswer_keeps {s0 : State} {s : State} (a : PortArrival) (hk : Keeps s0 s) : Keeps s0
    (State.portAnswer s a).1 := by
  unfold State.portAnswer
  simp (maxDischargeDepth := 40) [*]

@[simp ↓] theorem State.ackRequest_keeps {s0 : State} {s : State} (m : Nat) (rq : Nat) (hk : Keeps s0 s) : Keeps s0
    (State.ackRequest s m rq) := by
  unfold State.ackRequest
  simp (maxDischargeDepth := 40) [*]

@[simp ↓] theorem State.portRequest_keeps {s0 : State} {s : State} (a : PortArrival) (hk : Keeps s0 s) : Keeps s0
    (State.portRequest s a) := by
  unfold State.portRequest
  simp (maxDischargeDepth := 40) [*]

@[simp ↓] theorem execMportRequest_goes {s0 : State} {s : State} (first : PortArrival) (beside : List PortArrival)
    (hk : Keeps s0 s) : Goes s0 (execMportRequest first beside s) := by
  unfold execMportRequest
  simp (maxDischargeDepth := 40) (contextual := true) [*]

@[simp ↓] theorem execMportResponseAck_goes {s0 : State} {s : State} (mat : MatId) (bank : Fin 8) (hk : Keeps s0 s)
    : Goes s0 (execMportResponseAck mat bank s) := by
  unfold execMportResponseAck
  simp (maxDischargeDepth := 40) [*]

end Sys2Proof.Machine
end

