-- ==== Sys2Proof/Laws/KeepsTrunks.lean ====
section
/-! SUPPORT.  Each operation of Trunks.lean gives a later state (Keeps). -/

set_option linter.unreachableTactic false
set_option linter.unusedTactic false

namespace Sys2Proof.Machine

open Sys2Proof

@[simp ↓] theorem State.sendKept_keeps {s0 : State} {s : State} (c : Nat) (lane : Nat) (hk : Keeps s0 s) : Keeps s0
    (State.sendKept s c lane) := by
  unfold State.sendKept
  simp (maxDischargeDepth := 40) [*]

@[simp ↓] theorem State.restoreLane_keeps {s0 : State} {s : State} (c : Nat) (lane : Nat) (g : Nat) (outcome : Nat)
    (hk : Keeps s0 s) : Keeps s0 (State.restoreLane s c lane g outcome) := by
  unfold State.restoreLane
  simp (maxDischargeDepth := 40) [*]

@[simp ↓] theorem State.laneSpared_keeps {s0 : State} {s : State} (c : Nat) (lane : Nat) (hk : Keeps s0 s) : Keeps
    s0 (State.laneSpared s c lane) := by
  unfold State.laneSpared
  repeat' first
    | (simp (maxDischargeDepth := 40) (contextual := true) [*]; done)
    | split
    | (with_reducible refine keeps_foldl ?_ (fun t a ht => ?_) _)
    | dsimp only

@[simp ↓] theorem execSoundingStep_goes {s0 : State} {s : State} (col : ColId) (ifc : Fin 4) (group : Fin 56) (index
    : Fin 66) (quiet : Bool) (pass : Bool) (hk : Keeps s0 s) : Goes s0 (execSoundingStep col ifc group index quiet
    pass s) := by
  unfold execSoundingStep
  simp (maxDischargeDepth := 40) [*]

@[simp ↓] theorem execSoundMiss_goes {s0 : State} {s : State} (col : ColId) (ifc : Fin 4) (group : Fin 56) (index :
    Fin 64) (hk : Keeps s0 s) : Goes s0 (execSoundMiss col ifc group index s) := by
  unfold execSoundMiss
  simp (maxDischargeDepth := 40) [*]

@[simp ↓] theorem execSpareSwap_goes {s0 : State} {s : State} (col : ColId) (ifc : Fin 4) (group : Fin 56) (position
    : Fin 64) (pass0 : Bool) (pass1 : Bool) (hk : Keeps s0 s) : Goes s0 (execSpareSwap col ifc group position pass0
    pass1 s) := by
  unfold execSpareSwap
  repeat' first
    | (simp (maxDischargeDepth := 40) (contextual := true) [*]; done)
    | split
    | (with_reducible refine keeps_foldl ?_ (fun t a ht => ?_) _)
    | dsimp only

@[simp ↓] theorem execTrunkTimeout_goes {s0 : State} {s : State} (col : ColId) (lane : Fin 256) (g : Fin 2)
    (nullPhase : Bool) (failed : List (Fin 2 × Fin 66)) (hk : Keeps s0 s) : Goes s0 (execTrunkTimeout col lane g
    nullPhase failed s) := by
  unfold execTrunkTimeout
  simp (maxDischargeDepth := 40) [*]

@[simp ↓] theorem execTrunkContention_goes {s0 : State} {s : State} (col : ColId) (lane : Fin 256) (g : Fin 2) (hk :
    Keeps s0 s) : Goes s0 (execTrunkContention col lane g s) := by
  unfold execTrunkContention
  simp (maxDischargeDepth := 40) [*]

@[simp ↓] theorem execLaneRetest_goes {s0 : State} {s : State} (col : ColId) (lane : Fin 256) (g : Fin 2) (failed :
    List (Fin 2 × Fin 66)) (strayEnd : Option (Fin 2)) (hk : Keeps s0 s) : Goes s0 (execLaneRetest col lane g failed
    strayEnd s) := by
  unfold execLaneRetest
  repeat' first
    | (simp (maxDischargeDepth := 40) (contextual := true) [*]; done)
    | split
    | (with_reducible refine keeps_foldl ?_ (fun t a ht => ?_) _)
    | dsimp only

end Sys2Proof.Machine
end

