-- ==== Sys2Proof/Laws/Requests.lean ====
section
/-! SUPPORT.  Laws of register accesses that are performed, and of sessions. -/

namespace Sys2Proof.Machine

open Sys2Proof

theorem coreWaits_fr (s : State) (r : Requester) (w : Option BusWait) : Fr [.cores] [] s (s.coreWaits r w) := by
  refine fr_mk (Fr.refl _ _ s) (State.coreWaits_keeps _ _ (Keeps.refl s)) ?_ ?_
  · unfold State.coreWaits; split <;> rfl
  · intro p hp
    unfold State.coreWaits
    split
    · cases p <;> first | rfl | exact ⟨rfl, rfl⟩ | exact absurd (by decide) hp
    · exact Part.same_refl s p

@[simp] theorem coreWaits_regs (s : State) (r : Requester) (w : Option BusWait) : (s.coreWaits r w).regs = s.regs := by
  unfold State.coreWaits; split <;> rfl

@[simp] theorem coreWaits_rd (s : State) (r : Requester) (w : Option BusWait) (j : Nat) : (s.coreWaits r w).rd j = s.rd j := by
  unfold State.rd; rw [coreWaits_regs]

@[simp] theorem coreWaits_get (s : State) (r : Requester) (w : Option BusWait) (g : Fld) :
    (s.coreWaits r w).get g = s.get g := by
  unfold State.get; rw [coreWaits_rd]

@[simp] theorem coreWaits_flag (s : State) (r : Requester) (w : Option BusWait) (g : Fld) :
    (s.coreWaits r w).flag g = s.flag g := by
  unfold State.flag; rw [coreWaits_get]

@[simp] theorem coreWaits_gated (s : State) (r : Requester) (w : Option BusWait) (k : Nat) :
    (s.coreWaits r w).gated k = s.gated k := by
  have h : (s.coreWaits r w).crossingRefuses k = s.crossingRefuses k := by unfold State.coreWaits; split <;> rfl
  unfold State.gated; split <;> simp [h]

/-- A write that is performed is its register's effect; the core that made it no longer waits. -/
theorem regAccess_performs {s : State} {req : Requester} {k size : Nat} {write : Bool} (h : Performs s req k write)
    (body : State → State) : s.regAccess req k size write body = body (s.coreWaits req none) := by
  unfold State.regAccess
  rw [if_neg (by rw [h.on]; exact Bool.noConfusion), if_neg (by rw [h.free]; exact Bool.noConfusion)]
  dsimp only
  rw [coreWaits_gated, if_neg (by rw [h.clocked]; exact Bool.noConfusion)]
  split
  · rename_i c
    rw [if_neg]
    simp only [Bool.and_eq_true, Bool.not_eq_true', not_and]
    intro hw
    rw [h.may hw c rfl]
    exact Bool.noConfusion
  · rfl

theorem regWrite_performs {s : State} {req : Requester} {k : Nat} (h : Performs s req k true) (body : State → State) :
    s.regWrite req k body = body (s.coreWaits req none) := regAccess_performs h body

@[simp] theorem coreWaits_pending (s : State) (r : Requester) (w : Option BusWait) : (s.coreWaits r w).pending = s.pending := by
  unfold State.coreWaits; split <;> rfl
@[simp] theorem coreWaits_time (s : State) (r : Requester) (w : Option BusWait) : (s.coreWaits r w).time = s.time := by
  unfold State.coreWaits; split <;> rfl
@[simp] theorem coreWaits_ev (s : State) (r : Requester) (w : Option BusWait) : (s.coreWaits r w).ev = s.ev := by
  unfold State.coreWaits; split <;> rfl
@[simp] theorem coreWaits_host (s : State) (r : Requester) (w : Option BusWait) : (s.coreWaits r w).host = s.host := by
  unfold State.coreWaits; split <;> rfl
@[simp] theorem coreWaits_que (s : State) (r : Requester) (w : Option BusWait) : (s.coreWaits r w).que = s.que := by
  unfold State.coreWaits; split <;> rfl
@[simp] theorem coreWaits_mem (s : State) (r : Requester) (w : Option BusWait) : (s.coreWaits r w).mem = s.mem := by
  unfold State.coreWaits; split <;> rfl
@[simp] theorem coreWaits_col (s : State) (r : Requester) (w : Option BusWait) : (s.coreWaits r w).col = s.col := by
  unfold State.coreWaits; split <;> rfl
@[simp] theorem coreWaits_ctx (s : State) (r : Requester) (w : Option BusWait) : (s.coreWaits r w).ctx = s.ctx := by
  unfold State.coreWaits; split <;> rfl
@[simp] theorem coreWaits_pace (s : State) (r : Requester) (w : Option BusWait) : (s.coreWaits r w).pace = s.pace := by
  unfold State.coreWaits; split <;> rfl
@[simp] theorem coreWaits_mnt (s : State) (r : Requester) (w : Option BusWait) : (s.coreWaits r w).mnt = s.mnt := by
  unfold State.coreWaits; split <;> rfl
@[simp] theorem coreWaits_bist (s : State) (r : Requester) (w : Option BusWait) : (s.coreWaits r w).bist = s.bist := by
  unfold State.coreWaits; split <;> rfl
@[simp] theorem coreWaits_fb (s : State) (r : Requester) (w : Option BusWait) : (s.coreWaits r w).fb = s.fb := by
  unfold State.coreWaits; split <;> rfl
@[simp] theorem coreWaits_sec (s : State) (r : Requester) (w : Option BusWait) : (s.coreWaits r w).sec = s.sec := by
  unfold State.coreWaits; split <;> rfl
@[simp] theorem coreWaits_img (s : State) (r : Requester) (w : Option BusWait) : (s.coreWaits r w).img = s.img := by
  unfold State.coreWaits; split <;> rfl
@[simp] theorem coreWaits_pow (s : State) (r : Requester) (w : Option BusWait) : (s.coreWaits r w).pow = s.pow := by
  unfold State.coreWaits; split <;> rfl
@[simp] theorem coreWaits_thm (s : State) (r : Requester) (w : Option BusWait) : (s.coreWaits r w).thm = s.thm := by
  unfold State.coreWaits; split <;> rfl
@[simp] theorem coreWaits_pins (s : State) (r : Requester) (w : Option BusWait) : (s.coreWaits r w).pins = s.pins := by
  unfold State.coreWaits; split <;> rfl
@[simp] theorem coreWaits_tal (s : State) (r : Requester) (w : Option BusWait) : (s.coreWaits r w).tal = s.tal := by
  unfold State.coreWaits; split <;> rfl
@[simp] theorem coreWaits_lane (s : State) (r : Requester) (w : Option BusWait) : (s.coreWaits r w).lane = s.lane := by
  unfold State.coreWaits; split <;> rfl
@[simp] theorem coreWaits_clk (s : State) (r : Requester) (w : Option BusWait) : (s.coreWaits r w).clk = s.clk := by
  unfold State.coreWaits; split <;> rfl
@[simp] theorem coreWaits_dev (s : State) (r : Requester) (w : Option BusWait) : (s.coreWaits r w).dev = s.dev := by
  unfold State.coreWaits; split <;> rfl
@[simp] theorem coreWaits_dbg (s : State) (r : Requester) (w : Option BusWait) : (s.coreWaits r w).dbg = s.dbg := by
  unfold State.coreWaits; split <;> rfl
@[simp] theorem coreWaits_out (s : State) (r : Requester) (w : Option BusWait) : (s.coreWaits r w).out = s.out := by
  unfold State.coreWaits; split <;> rfl
@[simp] theorem coreWaits_free (s : State) (r : Requester) (w : Option BusWait) : (s.coreWaits r w).free = s.free := by
  unfold State.coreWaits; split <;> rfl

/-! ### Sessions -/

theorem sessionClass_congr {s t : State} (f : Session → Session) (hf : ∀ x, (f x).tag = x.tag ∧ (f x).cls = x.cls)
    (h : t.sec.sessions = s.sec.sessions.map f) (tag : BitVec 16) : t.sessionClass tag = s.sessionClass tag := by
  unfold State.sessionClass
  rw [h, List.find?_map]
  have : ((fun x : Session => decide (x.tag = tag)) ∘ f) = (fun x => decide (x.tag = tag)) := by
    funext x; simp [Function.comp, (hf x).1]
  rw [this, Option.map_map]
  congr 1
  funext x
  exact (hf x).2

/-- A command's use of its session changes no session's class. -/
@[simp] theorem begun_sessionClass (s : State) (h : Hdr) (op : Nat) (tag : BitVec 16) :
    (s.begun h op).sessionClass tag = s.sessionClass tag := by
  unfold State.begun
  dsimp only
  split
  · rfl
  · exact sessionClass_congr (fun x => if x.tag = h.session then { x with used := s.time } else x)
      (fun x => by split <;> exact ⟨rfl, rfl⟩) rfl tag

theorem begun_sessions_length (s : State) (h : Hdr) (op : Nat) :
    (s.begun h op).sec.sessions.length = s.sec.sessions.length := by
  unfold State.begun
  dsimp only
  split
  · rfl
  · simp [State.useSession]

/-- The tag drawn for a session is not 0 and is no open session's, while fewer than 16 are open (R389). -/
theorem drawTag_spec (s : State) (h : s.sec.sessions.length < 16) :
    ∃ tag : BitVec 16, s.drawTag = ({ s with free := s.free + 1 }, tag) ∧ tag ≠ 0 ∧ ∀ x ∈ s.sec.sessions, x.tag ≠ tag := by
  unfold State.drawTag State.fresh
  dsimp only
  generalize (Config.freeWord s.free).toNat % 65535 = st
  generalize hl : (upto 17).map (fun i => (st + i) % 65535 + 1) = l
  have hm : ∀ t ∈ l, 1 ≤ t ∧ t < 65536 := by
    intro t ht
    rw [← hl, List.mem_map] at ht
    obtain ⟨i, _, rfl⟩ := ht
    omega
  cases hf : l.find? (fun t => !s.sec.sessions.any (fun x => decide (x.tag.toNat = t))) with
  | some t =>
    refine ⟨_, rfl, ?_, ?_⟩
    · have := hm t (List.mem_of_find?_eq_some hf)
      intro e
      have := congrArg BitVec.toNat e
      simp at this
      omega
    · intro x hx e
      have h1 := List.find?_some hf
      have h2 := hm t (List.mem_of_find?_eq_some hf)
      simp only [Bool.not_eq_true', List.any_eq_false, decide_eq_true_eq] at h1
      refine h1 x hx ?_
      rw [e]
      simp
      omega
  | none =>
    exfalso
    rw [List.find?_eq_none] at hf
    have h1 : l.Nodup := by
      rw [← hl]
      refine List.Nodup.map_on ?_ (List.nodup_range)
      intro i hi j hj e
      simp only [upto, List.mem_range] at hi hj
      omega
    have h2 : l ⊆ s.sec.sessions.map (fun x => x.tag.toNat) := by
      intro t ht
      have := hf t ht
      simp only [Bool.not_eq_true', Bool.not_eq_false, List.any_eq_true, decide_eq_true_eq] at this
      obtain ⟨x, hx, rfl⟩ := this
      exact List.mem_map.2 ⟨x, hx, rfl⟩
    have h3 := (List.subperm_of_subset h1 h2).length_le
    rw [← hl] at h3
    simp [upto] at h3
    omega

end Sys2Proof.Machine
end

