-- ==== Sys2Proof/Tests/Slice0.lean ====
section
/-! SUPPORT.  Tests and witnesses. -/

namespace Sys2Proof.Machine

theorem test_reset_wf : State.reset.wf = true := by decide

end Sys2Proof.Machine
end

