-- ==== Sys2Proof/WellFormed.lean ====
section
/-! DEFINITION.  Well-formed commands.  Most operands have exactly the width that the spec gives them, so
that nothing is left to check; the checks here are the lengths of lists and the ranges of numbers that a
type does not fix.  A command that fails its check is no command of the table: nothing outside the block
can present it.  The step does not look at them (its meanings are total). -/

namespace Sys2Proof

/-- Mats are numbered 0 to 511 (R9). -/
def matsOk (l : List Nat) : Bool := l.all (fun m => decide (m < 512))

/-- R361: a mat destination names mats. -/
def MatDest.wf (d : MatDest) : Bool := matsOk d.mats

/-- R361, R362: the numbers a frame holds lie in the ranges that its fields can spell: frond numbers of
R62, trunk lanes of R103, pins, banks of R9 and words of R108, mats, register pairs, the permit bitmap and
eight tethers. -/
def Frame.wf : Frame → Bool
  | .pad => true
  | .context d ws _ => d.wf && ws.all (fun e => decide (e.1 < 1024))
  | .trunkHold d ls => d.wf && ls.all (fun k => decide (k < 256))
  | .pinChoice d ps => d.wf && ps.all (fun p => decide (p < 352))
  | .bankInit bs f ws => bs.all (fun b => decide (b < 2304)) && decide (f + ws.length ≤ 8192)
  | .column _ thru _ _ _ => decide (thru.length = 64)
  | .region _ _ _ _ _ _ _ _ ms => matsOk ms
  | .schedule _ _ _ _ _ ph _ => decide (ph.length ≤ 8)
  | .queue _ _ _ _ _ _ => true
  | .track _ _ _ _ _ _ _ _ _ _ _ => true
  | .station _ _ _ _ _ _ _ _ _ _ _ _ => true
  | .regs _ ps => ps.all (fun e => decide (e.1 < 65536))
  | .ax _ _ _ pm => matsOk pm
  | .tether c => decide (c.length = 8)
  | .start _ => true
  | .malformed => true

/-- R355 to R362: an image holds 352 bytes of pin charter and a pack none; it has at most 1,024 segments
(R356), and each frame lies in one of them. -/
def Image.wf (i : Image) : Bool :=
  (decide (i.charter.length = 352) || decide (i.charter = [])) && decide (i.segments.length ≤ 65535) &&
    i.frames.all (fun f => f.body.wf && decide (f.segment < 65536))

/-- R384: a provisioning record has a password record, or none, for each class. -/
def ProvRecord.wf (r : ProvRecord) : Bool :=
  decide (r.passwords.length = 4) && (match r.wrapped with | some l => decide (l.length ≤ 4) | none => true)

/-- R509: a service bundle has four program entries of 32-bit fields; steward firmware has none. -/
def Firmware.wf (f : Firmware) : Bool :=
  (decide (f.progs.length = 4) || decide (f.progs = [])) &&
    f.progs.all (fun p => decide (p.offset < 2 ^ 32) && decide (p.length < 2 ^ 32) && decide (p.wdMs < 2 ^ 32) &&
      decide (p.sramKib < 2 ^ 32))

/-- R454: a chain has at most the hops that its slack allows; each gate's path is one of 32 by type. -/
def Chain.wf (c : Chain) : Bool := decide (c.paths.length ≤ 512)

/-- x1 to x31. -/
def CoreRegs.wf (r : CoreRegs) : Bool := decide (r.gpr.length = 31)

/-- R414: sensors of each layer: one per column in L1 and L3, 64 in L2, 16 in L0 and L4. -/
def sensorsOf (layer : Fin 5) : Nat :=
  if layer = 1 ∨ layer = 3 then 256 else if layer = 2 then 64 else 16

/-- A well-formed command. -/
def Instr.wf : Instr → Bool
  | .sessionOpen _ _ _ _ password _ _ _ => decide (password.length ≤ 48)
  | .sessionClose _ _ => true
  | .attest _ _ _ => true
  | .imageStage _ _ _ _ image => image.wf
  | .imageCommit _ _ => true
  | .bootSelect _ _ _ => true
  | .packLoad _ _ _ _ image => image.wf
  | .ctxLoad _ _ _ _ _ _ _ => true
  | .ctxSwap _ _ _ _ _ _ => true
  | .scheduleSet _ _ _ _ _ _ phases => decide (phases.length ≤ 8)
  | .crosierLoad _ _ _ _ _ => true
  | .pacerSet _ _ _ _ _ _ _ _ _ => true
  | .regionBind _ _ _ _ _ _ _ => true
  | .queueCreate _ _ _ _ _ _ _ => true
  | .queueBindRing _ _ _ _ => true
  | .queueReset _ _ _ => true
  | .trackSet _ _ _ _ _ _ _ _ _ _ _ _ => true
  | .stationSet _ _ _ _ _ _ _ _ _ _ _ _ _ => true
  | .tallyQuery _ _ _ _ _ _ => true
  | .survey _ _ _ _ _ _ => true
  | .bistRun _ _ _ _ => true
  | .repair _ _ _ _ _ => true
  | .relocate _ _ _ _ chains => chains.all Chain.wf
  | .fieldbookRead _ _ _ _ => true
  | .fieldbookMark _ _ _ => true
  | .powerDown _ => true
  | .fwUpdate _ _ _ _ fw => fw.wf
  | .commandFetch _ _ _ _ _ => true
  | .completionFlush _ => true
  | .doorbellWrite _ _ => true
  | .ringEnable _ _ => true
  | .ringDisable _ _ => true
  | .dmaError _ _ => true
  | .dataRingWriteback _ _ found => found.all (fun p => decide (p.1 < 65536))
  | .dataRingCoalTimeout _ _ found => found.all (fun p => decide (p.1 < 65536))
  | .dataRingFetch _ _ words => decide (words.length ≤ 536870912)
  | .msixCoalesceTimeout _ => true
  | .heartbeatWrite _ => true
  | .heartbeatEnable _ => true
  | .heartbeatTimeout => true
  | .perst _ => true
  | .flrPf0 => true
  | .flrPf1 => true
  | .linkDown => true
  | .linkUp _ _ _ _ => true
  | .badAccess _ _ _ _ _ => true
  | .hostBadAccess _ _ _ _ => true
  | .gatedAccess _ _ _ _ => true
  | .windowAccess _ _ _ _ => true
  | .regchResponse _ _ _ => true
  | .regchTimeout _ => true
  | .registerWrite _ _ _ => true
  | .counterClear _ _ => true
  | .rcRead _ _ => true
  | .lowWordRead _ _ => true
  | .hrefLost => true
  | .hrefRestored _ => true
  | .pllUnlock _ => true
  | .pllLock _ => true
  | .sscDetected => true
  | .clkDivWrite _ _ _ => true
  | .opEntryWrite _ _ _ => true
  | .opRequest _ _ => true
  | .setPointReached _ => true
  | .treeSourceSwitch _ _ _ => true
  | .treeForcedSwitch _ _ _ => true
  | .treeDividerChange _ _ _ => true
  | .switchHung _ => true
  | .treeSourceLost _ _ => true
  | .treeSourceRestored _ _ => true
  | .clkEnWrite _ _ _ => true
  | .clkGrpWrite _ _ => true
  | .timeAdjWrite _ _ => true
  | .ptmExchange _ => true
  | .ptmLost => true
  | .powerOn => true
  | .vauxLost => true
  | .railGood _ => true
  | .sequencerFail => true
  | .railWarn _ _ => true
  | .railRecovered _ _ _ => true
  | .railReset _ _ => true
  | .vddFRestart => true
  | .avsFault _ _ => true
  | .powerMeasurement rails => decide (rails.length = 22)
  | .powerCapExceeded => true
  | .irDrop _ _ _ _ => true
  | .governorInterval => true
  | .sensorSample layer index _ => decide (index.toNat < sensorsOf layer)
  | .triangulation activity => decide (activity.length = 64)
  | .sensorReleased layer index => decide (index.toNat < sensorsOf layer)
  | .criticalRestart => true
  | .triangulationRecal means => decide (means.length = 64)
  | .illegalCode _ _ _ => true
  | .channelRetest _ _ _ => true
  | .clockedNull _ _ => true
  | .clockHeld _ => true
  | .clockReleased _ => true
  | .macOperation _ _ _ => true
  | .drainToken _ _ _ => true
  | .soundingStep _ _ _ _ _ _ => true
  | .soundMiss _ _ _ _ => true
  | .spareSwap _ _ _ _ _ _ => true
  | .trunkTimeout _ _ _ _ _ => true
  | .trunkContention _ _ _ => true
  | .laneRetest _ _ _ _ _ => true
  | .mportRequest _ _ => true
  | .mportResponseAck _ _ => true
  | .ceReread _ _ _ _ => true
  | .scrubPass _ _ _ => true
  | .bankRemap _ => true
  | .bankRemapped _ _ _ _ _ => true
  | .slotLoadDone _ _ _ _ _ => true
  | .ctxLoadWaitTimeout _ _ => true
  | .swap _ _ _ => true
  | .swapFlip _ _ => true
  | .swapTimeout _ _ => true
  | .swapRequestToken _ _ _ => true
  | .schedulePhase _ _ => true
  | .crosierDrained _ _ => true
  | .crosierWriteDone _ _ => true
  | .crosierTimeout _ _ => true
  | .axStreamWord _ _ _ => true
  | .axTruncated _ => true
  | .periodBoundary _ => true
  | .periodDeadline _ => true
  | .lateRestore _ => true
  | .doneToken _ => true
  | .regionQuiescent _ => true
  | .outputLatchWrite _ _ => true
  | .queuePush _ _ _ _ _ _ => true
  | .queuePop _ _ _ _ => true
  | .queDataRead _ _ _ _ => true
  | .queDataWrite _ _ _ _ => true
  | .quePktOpen _ _ => true
  | .quePktClose _ _ => true
  | .encoderEdge _ _ _ => true
  | .pulseEnd _ _ _ => true
  | .axisToken _ _ => true
  | .edgeStimulus _ => true
  | .noteToken _ _ => true
  | .talStimWrite _ _ => true
  | .birth _ => true
  | .note _ => true
  | .fpInputChange _ _ => true
  | .fpOutputToken _ _ => true
  | .fpRxItem _ _ _ _ _ _ => true
  | .fpTxItem _ _ => true
  | .fpCodeError _ _ => true
  | .fpFoldback _ _ => true
  | .fpRetry _ _ _ => true
  | .functionSwitch _ _ _ => true
  | .functionSwitchEnd _ => true
  | .vioLost _ _ => true
  | .vioRestored _ _ _ => true
  | .surveyRun _ => true
  | .surveyDone _ _ => true
  | .pinPortWrite _ _ _ _ => true
  | .extlEdge _ _ => true
  | .laneEnable _ _ _ => true
  | .laneDisable _ _ _ => true
  | .laneDown _ _ => true
  | .laneUp _ => true
  | .laneRxToken _ _ => true
  | .tetherEnable _ _ _ => true
  | .tetherUp _ _ _ _ _ => true
  | .tetherDown _ => true
  | .tetherDegraded _ _ => true
  | .tetherStrobe _ _ _ _ => true
  | .tetherReport _ _ _ => true
  | .tetherFlip _ _ => true
  | .tetherAbandon _ _ _ => true
  | .tetherFlipAck _ _ => true
  | .tetherTime _ _ => true
  | .tetherTimeSend _ => true
  | .tetherConfig _ _ image => image.wf
  | .tetherCredit _ _ => true
  | .tetherStreamTimeout => true
  | .imageVerify => true
  | .stagingAbandon => true
  | .nvImageWrite _ _ => true
  | .imageApply _ chains => chains.all Chain.wf
  | .libraryLoad _ _ _ => true
  | .provisioningGo _ record => record.wf
  | .sessionIdleTimeout _ => true
  | .lockoutEnd => true
  | .stackManagerReady _ => true
  | .wake _ => true
  | .deviceWarmReset _ _ => true
  | .warmResetContinue => true
  | .swapGroupFabricReset _ _ => true
  | .coreReset _ _ => true
  | .coreResetRelease _ => true
  | .relocationRequest _ chains => chains.all Chain.wf
  | .groupStop _ => true
  | .relocation _ _ => true
  | .relocationPrepared _ _ _ chains => chains.all Chain.wf
  | .relocationCut _ _ => true
  | .mntTimeout _ => true
  | .stewardFailover _ _ => true
  | .standbyReady => true
  | .firmwareUpdateRun _ => true
  | .fwStandbyTimeout => true
  | .slice _ _ => true
  | .sliceDone _ _ _ _ _ => true
  | .traverse => true
  | .traverseDone _ => true
  | .fieldBookCommit => true
  | .fbCommitted => true
  | .programLoad _ code _ => decide (code.length ≤ 262144)
  | .coreWatchdog _ => true
  | .coreFault _ _ => true
  | .kwdkickWrite _ => true
  | .kackWrite _ _ => true
  | .kdoorbellWrite _ _ => true
  | .pbusLockTake _ => true
  | .pbusLockRelease _ _ regs => regs.wf
  | .pbusLockExpiry => true
  | .busTimeout _ => true
  | .extest => true
  | .idcode => true
  | .samplePreload => true
  | .clamp => true
  | .highz => true
  | .bypass => true
  | .dbgReg _ => true
  | .tapReset => true
  | .dbgAuthChallenge _ => true
  | .dbgAuthPassword _ => true
  | .dbgAuthKey _ _ => true
  | .dbgAuthClose _ => true
  | .dbgAuthNoCredential _ => true
  | .secretsErased _ => true
  | .debugIdleClose => true
  | .dbgAccessRead _ _ => true
  | .dbgAccessWrite _ => true
  | .dbgCoreHalt _ _ regs => regs.wf
  | .dbgCoreResume _ => true
  | .dbgCoreStep _ regs => regs.wf
  | .haltDeferredExpiry _ regs => regs.wf
  | .dbgRegDataWrite _ => true
  | .cmpHit _ _ _ _ regs => regs.wf
  | .timeTick => true
  | .fpSync _ => true
  | .atLimit _ _ => true
  | .laneTxToken _ _ => true
  | .phaseShed _ => true
  | .fbkRdData7Read _ => true

end Sys2Proof
end

section
/-! SUPPORT.  Every command goes through, and so does every step: the dispatch puts together the lemmas `exec<Name>_goes` of
its rows. -/

namespace Sys2Proof.Machine

open Sys2Proof

/-- Each arm of the dispatch is a row's meaning, which goes through by its own lemma. -/
theorem exec_goes (c : Instr) (s : State) : Goes s (exec c s) := by
  cases c <;> simp [exec]

/-- A step goes through from the state that no longer holds the command at the front of the queue. -/
theorem step_goes (s : State) : Goes { s with pending := s.pending.tail } (step s) := by
  unfold step
  split
  next h =>
    have e : { s with pending := s.pending.tail } = s := by rw [h, List.tail_nil, ← h]
    rw [e]
    exact goes_next (State.advance_keeps (Keeps.refl s))
  next c rest h =>
    rw [h, List.tail_cons]
    exact exec_goes c { s with pending := rest }

/-- The canonical form does not speak of the queue. -/
theorem State.wf_pending (s : State) (l : List Instr) : { s with pending := l }.wf = s.wf := rfl

/-- Settles O4: a step goes through (`step_goes`), and the state it goes to keeps the canonical forms. -/
theorem stepKeepsCanonicalForm : Obligations.StepKeepsCanonicalForm := by
  intro s t hs ht
  obtain ⟨u, hu, hk⟩ := step_goes s
  have e : t = u := by rw [hu] at ht; exact (Host.Outcome.next.inj ht).symm
  rw [e]
  exact hk.wf ((State.wf_pending s _).trans hs)

/-- Settles O6: every arm of the dispatch goes through. -/
theorem everyCommandAnswers : Obligations.EveryCommandAnswers := exec_goes

/-- Settles O3: every table of State.reset is empty. -/
theorem resetCanonical : Obligations.ResetCanonical :=
  (State.wf_iff State.reset).2 ⟨rfl, rfl, rfl, rfl, rfl, rfl⟩

end Sys2Proof.Machine
end

section
/-! SUPPORT.  What a statistics counter and its SAT bit read after a count (R33). -/

namespace Sys2Proof.Machine

open Sys2Proof

section
variable (s : State) (k n : Nat) {f : Fld}

/-- Below its limit a counter is written with the sum. -/
theorem count_below (h : (s.rd k).toNat + n < 0xFFFFFFFF) (hn : 0 < n) :
    s.count k f n = s.wr k (BitVec.ofNat 32 ((s.rd k).toNat + n)) := by
  unfold State.count
  rw [if_neg (by omega), if_pos h]

/-- At its limit a counter stops and its SAT bit is set. -/
theorem count_limit (h : 0xFFFFFFFF ≤ (s.rd k).toNat + n) (hn : 0 < n) :
    s.count k f n = (s.wr k 0xFFFFFFFF).setFlag f true := by
  unfold State.count
  rw [if_neg (by omega), if_neg (by omega)]

theorem rd_count_below (h : (s.rd k).toNat + n < 0xFFFFFFFF) (hn : 0 < n) :
    ((s.count k f n).rd k).toNat = (s.rd k).toNat + n := by
  rw [count_below s k n h hn, State.rd_wr_self, BitVec.toNat_ofNat, Nat.mod_eq_of_lt (by omega)]

theorem rd_count_limit (hf : f.reg ≠ k) (h : 0xFFFFFFFF ≤ (s.rd k).toNat + n) (hn : 0 < n) :
    (s.count k f n).rd k = 0xFFFFFFFF := by
  rw [count_limit s k n h hn, State.setFlag, State.rd_set_ne _ hf.symm, State.rd_wr_self]

/-- A counter counts up to its limit. -/
theorem rd_count (hf : f.reg ≠ k) (hn : 0 < n) :
    ((s.count k f n).rd k).toNat = min 0xFFFFFFFF ((s.rd k).toNat + n) := by
  by_cases h : (s.rd k).toNat + n < 0xFFFFFFFF
  · rw [rd_count_below s k n h hn]; omega
  · have e : (0xFFFFFFFF : Reg).toNat = 0xFFFFFFFF := rfl
    rw [rd_count_limit s k n hf (by omega) hn, e]; omega

end

/-- Settles O7: the laws of the register file (R8) and of its counters (R33). -/
theorem registersAndCounters : Obligations.RegistersAndCounters := by
  refine ⟨State.rd_wr, fun s f x hf => State.get_set_self s f hf x, fun s f g x hg => ?_,
    fun s k n f hf hw hlo hn => ⟨fun h => ?_, fun h => ?_⟩⟩
  · refine State.get_set_apart s ?_ x
    simpa [fldsApart, or_assoc] using hg
  · refine ⟨rd_count_below s k n h hn, ?_⟩
    rw [count_below s k n h hn]
    unfold State.flag
    rw [State.get_wr_ne s hf]
  · refine ⟨rd_count_limit s k n hf h hn, ?_⟩
    rw [count_limit s k n h hn]
    exact State.flag_setFlag_self _ f (by omega) hw true

end Sys2Proof.Machine
end

section
/-! SUPPORT.  The state right after power-on (R2, R404, R426). -/

namespace Sys2Proof.Machine

open Sys2Proof

/-- No register of State.reset has been written. -/
theorem rd_reset (k : Nat) : State.reset.rd k = regReset k := rfl

/-- The part of ordering code -EP differs from the -E part in no register but SEC_LIFE. -/
theorem rd_resetEP {k : Nat} (hk : k ≠ SEC_LIFE) : State.resetEP.rd k = regReset k := by
  have e : State.resetEP.rd k =
      (((State.reset.setFlag SEC_LIFE_EP true).setFlag SEC_LIFE_ROOT_SET true).set SEC_LIFE_STATE 1).rd k := rfl
  rw [e, State.rd_set_ne _ hk, State.setFlag, State.rd_set_ne _ hk, State.setFlag, State.rd_set_ne _ hk, rd_reset]

/-- Settles O2: every table of State.reset is empty, and State.resetEP writes SEC_LIFE alone. -/
theorem resetState : Obligations.ResetState :=
  ⟨rfl, rfl, rfl, rfl, rd_reset, rfl, rfl, fun _ => rfl, rfl, rfl, fun _ => rfl, rfl, by decide, rfl, by decide, by decide,
    by decide, by decide, rfl, fun _ => rd_resetEP⟩

end Sys2Proof.Machine
end

section
/-! SUPPORT.  What raising an event does to the event counter (R32), and that an event which triggers no commit leaves the
arbiter alone. -/

namespace Sys2Proof.Machine

open Sys2Proof

/-- A fold keeps what each of its steps keeps. -/
theorem foldl_proj {α β : Type} (p : State → β) {f : State → α → State} (hf : ∀ s a, p (f s a) = p s) (l : List α)
    (s : State) : p (l.foldl f s) = p s := by
  induction l generalizing s with
  | nil => rfl
  | cons a l ih => exact (ih (f s a)).trans (hf s a)

/-- The event counter, and the arbiter with the rest of maintenance. -/
def State.seqMnt (s : State) : BitVec 32 × MntState := (s.ev.seq, s.mnt)

theorem seqMnt_mk {s t : State} (h : t.ev.seq = s.ev.seq) (k : t.mnt = s.mnt) : t.seqMnt = s.seqMnt := by
  rw [State.seqMnt, State.seqMnt, h, k]

theorem ringMsg_seqMnt (s : State) (n : Nat) : (s.ringMsg n).seqMnt = s.seqMnt := by
  unfold State.ringMsg
  dsimp only
  split <;> exact seqMnt_mk (by simp) (by simp)

theorem ringSignal_seqMnt (s : State) (n : Nat) : (s.ringSignal n).seqMnt = s.seqMnt := by
  unfold State.ringSignal
  extract_lets r t
  have h : t.seqMnt = s.seqMnt := seqMnt_mk (by rw [State.setRing_ev]) (State.setRing_mnt ..)
  split
  · exact (ringMsg_seqMnt t n).trans h
  · exact h

theorem produce_seqMnt (s : State) (n size : Nat) (b : List Byte) : (s.produce n size b).seqMnt = s.seqMnt := by
  unfold State.produce State.mirror
  exact (ringSignal_seqMnt _ n).trans (seqMnt_mk (by simp) (by simp))

theorem toEventRing_seqMnt (e : Event) (s : State) (n : Nat) : (State.toEventRing e s n).seqMnt = s.seqMnt := by
  unfold State.toEventRing
  split
  · split
    · exact seqMnt_mk (by simp) (by simp)
    · exact produce_seqMnt s n 32 _
  · rfl

theorem assertSource_seqMnt (s : State) (src : Nat) : (s.assertSource src).seqMnt = s.seqMnt := by
  unfold State.assertSource
  dsimp only
  split <;> rfl

theorem toCoreRing_seqMnt (e : Event) (s : State) (t : Nat) : (State.toCoreRing e s t).seqMnt = s.seqMnt := by
  unfold State.toCoreRing
  dsimp only
  split
  · rfl
  · split
    · rfl
    · exact seqMnt_mk (by rw [State.setCsr_ev]) (by rw [State.setCsr_mnt])

theorem fbTake_seqMnt (s : State) (e : Event) : (s.fbTake e).seqMnt = s.seqMnt := rfl

theorem commitTrigger_seq (s : State) (cause : Nat) (seq : BitVec 32) : (s.commitTrigger cause seq).ev.seq = s.ev.seq := by
  unfold State.commitTrigger State.submitRaw State.grant State.onGrant
  dsimp only
  repeat' split
  all_goals simp

/-- Up to the commit that it may trigger, an event counts by one and leaves the arbiter alone. -/
theorem raiseRaw_upTo_commit (s : State) (code src status : Nat) (data : BitVec 112) (trigger : Option Nat) :
    ∃ t : State, t.seqMnt = (s.ev.seq + 1, s.mnt) ∧
      s.raiseRaw code src status data trigger =
        match (if evSeverity code = 3 then some 0 else trigger) with
        | some cause => t.commitTrigger cause s.ev.seq
        | none => t := by
  unfold State.raiseRaw
  lift_lets
  intro e v a b g c d trig f
  refine ⟨f, ?_, rfl⟩
  have hb : b.seqMnt = (s.ev.seq + 1, s.mnt) := foldl_proj State.seqMnt (toEventRing_seqMnt e) _ a
  have hc : c.seqMnt = b.seqMnt := by
    show State.seqMnt (if _ then _ else _) = _
    split
    · exact assertSource_seqMnt b g
    · rfl
  have hd : d.seqMnt = c.seqMnt := by
    show State.seqMnt (if _ then _ else _) = _
    split
    · refine foldl_proj State.seqMnt (fun u t => ?_) _ c
      split
      · exact toCoreRing_seqMnt e u t
      · rfl
    · rfl
  have hf : f.seqMnt = d.seqMnt := by
    show State.seqMnt (if _ then _ else _) = _
    split
    · exact fbTake_seqMnt d e
    · rfl
  rw [hf, hd, hc, hb]

/-- An event takes the next number of the event counter (R32). -/
theorem raiseRaw_seq (s : State) (code src status : Nat) (data : BitVec 112) (trigger : Option Nat) :
    (s.raiseRaw code src status data trigger).ev.seq = s.ev.seq + 1 := by
  obtain ⟨t, ht, e⟩ := raiseRaw_upTo_commit s code src status data trigger
  have hs : t.ev.seq = s.ev.seq + 1 := congrArg Prod.fst ht
  rw [e]
  split
  · rw [commitTrigger_seq, hs]
  · exact hs

@[simp] theorem raise_seq (s : State) (code src : Nat) (data : List (Nat × Nat × Nat)) :
    (s.raise code src data).ev.seq = s.ev.seq + 1 := raiseRaw_seq ..

/-- An event that is not fatal starts no activity. -/
theorem raise_mnt (s : State) {code : Nat} (hc : evSeverity code ≠ 3) (src : Nat) (data : List (Nat × Nat × Nat)) :
    (s.raise code src data).mnt = s.mnt := by
  obtain ⟨t, ht, e⟩ := raiseRaw_upTo_commit s code src 0 (evData data) none
  rw [State.raise, e, if_neg hc]
  exact congrArg Prod.snd ht

/-- The frame of an event. -/
theorem raise_fr (s : State) (code src : Nat) (data : List (Nat × Nat × Nat)) :
    Fr evParts bookKeys s (s.raise code src data) :=
  fr_books (Fr.refl _ _ s) (raise_books _ _ _ (Books.refl s)) (List.Subset.refl _) (List.Subset.refl _)

/-- An event of which one is raised in each interval has the frame of an event (R547). -/
theorem raiseLim_fr (s : State) (code src : Nat) (data : List (Nat × Nat × Nat)) :
    Fr evParts bookKeys s (s.raiseLim code src data) :=
  fr_books (Fr.refl _ _ s) (raiseLim_books _ _ _ (Books.refl s)) (List.Subset.refl _) (List.Subset.refl _)

/-- What is sent last is among what has been sent since an earlier state. -/
theorem mem_emit_drop {s t : State} (h : s.out <+: t.out) (o : Out) : o ∈ (t.emit o).out.drop s.out.length := by
  obtain ⟨l, hl⟩ := h
  rw [State.emit, ← hl, List.append_assoc, List.drop_left]
  exact List.mem_append_right _ (List.mem_singleton_self o)

theorem emit_fr {ps : List Part} {ks : List Nat} {s0 s : State} (h : Fr ps ks s0 s) (hp : Part.out ∈ ps) (o : Out) :
    Fr ps ks s0 (s.emit o) := by
  refine fr_mk h (State.emit_keeps o h.keeps) rfl (fun p hq => ?_)
  have : p ≠ .out := by rintro rfl; exact hq hp
  cases p <;> first | rfl | exact ⟨rfl, rfl⟩ | exact absurd rfl this

/-- What a counter and an event of one an interval may change. -/
theorem count_raiseLim_fr (s : State) (k : Nat) (f : Fld) (code src : Nat) (data : List (Nat × Nat × Nat)) :
    Fr evParts (k :: f.reg :: bookKeys) s ((s.count k f 1).raiseLim code src data) := by
  refine Fr.trans (fr_count (Fr.refl _ _ s) (by simp) (by simp) 1) ((raiseLim_fr _ code src data).mono (List.Subset.refl _) ?_)
  exact fun x hx => List.mem_cons_of_mem _ (List.mem_cons_of_mem _ hx)

end Sys2Proof.Machine
end

section
/-! SUPPORT.  Writes of registers (R8, R33, R508): what REGISTER_WRITE does to each kind of register without a row of its own. -/

namespace Sys2Proof.Machine

open Sys2Proof

variable (s : State) (req : Requester) (k : Nat) (v : Reg)

/-! ### Fields and counters -/

/-- A field into which 0 has been put reads 0, wherever it lies. -/
theorem fldGet_fldPut_zero (r : Reg) (lo w : Nat) : fldGet (fldPut r lo w 0) lo w = 0 := by
  unfold fldGet
  apply Nat.eq_of_testBit_eq
  intro i
  rw [BitVec.testBit_toNat, BitVec.getLsbD_extractLsb', Nat.zero_testBit, Bool.and_eq_false_iff]
  by_cases hi : i < w
  · right
    by_cases h32 : lo + i < 32
    · rw [fldPut_bit _ _ _ _ _ h32, if_pos (by omega), Nat.zero_testBit]
    · exact BitVec.getLsbD_of_ge _ _ (by omega)
  · exact .inl (decide_eq_false hi)

theorem flag_setFlag_false (f : Fld) : (s.setFlag f false).flag f = false := by
  unfold State.flag State.setFlag State.get State.set
  rw [State.rd_wr_self, show b2n false = 0 from rfl, fldGet_fldPut_zero]
  rfl

theorem fldPut_zero_zero (lo w : Nat) : fldPut 0 lo w 0 = 0 := by
  unfold fldPut
  simp

/-- Clearing a statistics counter clears its SAT bit too, and nothing else (R33). -/
theorem countClear_spec {f : Fld} (h : satOf k = some f) :
    (s.countClear k).rd k = 0 ∧ (s.countClear k).flag f = false ∧ Fr [] [k, f.reg] s (s.countClear k) := by
  have e : s.countClear k = (s.wr k 0).setFlag f false := by unfold State.countClear; rw [h]
  rw [e]
  refine ⟨?_, flag_setFlag_false _ f, fr_setFlag (fr_wr (Fr.refl _ _ s) (by simp) 0) (by simp) false⟩
  unfold State.setFlag State.set
  rw [State.rd_wr]
  split
  next hk => rw [← hk, State.rd_wr_self]; exact fldPut_zero_zero ..
  next => exact State.rd_wr_self ..

/-! ### What a performed write does, by the kind of register -/

theorem writeReg_counter {f : Fld} (h : satOf k = some f) : s.writeReg req k v = s.countClear k := by
  unfold State.writeReg
  rw [if_pos (by rw [h]; rfl)]

theorem writeReg_route (h : satOf k = none) (h1 : 0x400 ≤ k) (h2 : k < 0x600) :
    s.writeReg req k v = s.writeRoute req k v := by
  unfold State.writeReg
  rw [if_neg (by simp [h]), if_pos ⟨h1, h2⟩]

theorem writeReg_rate (h : satOf k = none) (h1 : 0x10000 ≤ k) (h2 : k < 0x18000) (h3 : k % 0x100 = 0x0C) :
    s.writeReg req k v = s.writeRate ((k - 0x10000) / 0x100) v := by
  unfold State.writeReg
  rw [if_neg (by simp [h]), if_neg (by omega), if_neg (by omega), if_neg (by omega), if_pos ⟨h1, h2, h3⟩]

theorem writeReg_queCount (h : satOf k = none) (h1 : 0x100000 ≤ k) (h2 : k < 0x120000) (h3 : k % 0x10 = 4) :
    s.writeReg req k v = s.writeQueCount ((k - 0x100000) / 0x10) v := by
  unfold State.writeReg
  rw [if_neg (by simp [h]), if_neg (by omega), if_neg (by omega), if_neg (by omega), if_neg (by omega), if_neg (by omega),
    if_pos ⟨h1, h2, h3⟩]

/-- BASE and MIRROR of an enabled ring lie in the HIF and HDR blocks. -/
theorem ringHeld_range {s : State} {k : Nat} (h : s.ringHeld k = true) : (0x1800 ≤ k ∧ k < 0x2000) ∨ 0x1080000 ≤ k := by
  unfold State.ringHeld at h
  split at h
  next hk => exact .inl hk
  next =>
    split at h
    next hk => exact .inr hk
    next => exact absurd h Bool.false_ne_true

theorem writeReg_held (h : satOf k = none) (hr : s.ringHeld k = true) : s.writeReg req k v = s := by
  have hk := ringHeld_range hr
  unfold State.writeReg
  rw [if_neg (by simp [h]), if_neg (by omega), if_neg (by omega), if_neg (by omega), if_neg (by omega), if_neg (by omega),
    if_neg (by omega), if_pos hr]

/-- No rule of its own stands in the way of a write of a register: it is no statistics counter, EVR_ROUTE, GPIO_OUT, GPIO_OE,
GPIO_EXTL, FP_RATE, XL_OWNER or QUE_COUNT, and no BASE or MIRROR of an enabled ring. -/
structure PlainReg (s : State) (k : Nat) : Prop where
  counter : satOf k = none
  route : ¬ (0x400 ≤ k ∧ k < 0x600)
  gpio : ¬ (0xA010 ≤ k ∧ k < 0xA030)
  extl : ¬ (0xA300 ≤ k ∧ k < 0xA340)
  rate : ¬ (0x10000 ≤ k ∧ k < 0x18000 ∧ k % 0x100 = 0x0C)
  owner : ¬ (0x1C000 ≤ k ∧ k < 0x24000 ∧ k % 0x400 = 4)
  count : ¬ (0x100000 ≤ k ∧ k < 0x120000 ∧ k % 0x10 = 4)
  ring : s.ringHeld k = false

theorem writeReg_plain {s : State} {k : Nat} (h : PlainReg s k) : s.writeReg req k v = s.plainWrite k v := by
  unfold State.writeReg
  rw [if_neg (by simp [h.counter]), if_neg h.route, if_neg h.gpio, if_neg h.extl, if_neg h.rate, if_neg h.owner,
    if_neg h.count, if_neg (by simp [h.ring])]

@[simp] theorem rd_plainWrite : (s.plainWrite k v).rd k = regAfter k (s.rd k) v := State.rd_wr_self ..

theorem plainWrite_fr {s0 s : State} {ps : List Part} {ks : List Nat} (h : Fr ps ks s0 s) (hk : k ∈ ks) :
    Fr ps ks s0 (s.plainWrite k v) := fr_wr h hk _

/-- A service core changes its own CORES bit of a route only (R508). -/
theorem writeRoute_service (c : Fin 4) : s.writeRoute (.service c) k v = s.setBit k (2 + c.val) (v.getLsbD (2 + c.val)) := rfl

theorem writeRoute_other {req : Requester} (h : ∀ c, req ≠ .service c) : s.writeRoute req k v = s.plainWrite k v := by
  cases req with
  | service c => exact absurd rfl (h c)
  | host => rfl
  | pair b => rfl
  | debug => rfl

theorem bit_setBit_self {i : Nat} (hi : i < 32) (b : Bool) : (s.setBit k i b).bit k i = b :=
  State.flag_setFlag_self s ⟨k, i, 1⟩ hi rfl b

theorem bit_setBit_ne {i j : Nat} (h : j ≠ i) (b : Bool) : (s.setBit k i b).bit k j = s.bit k j := by
  refine State.flag_setFlag_apart s ?_ b
  simp only [fldsApart, Bool.or_eq_true, decide_eq_true_eq]
  omega

/-- What a write of an EVR_ROUTE does (R508). -/
theorem writeRoute_spec :
    (∀ c, req = .service c → (s.writeRoute req k v).bit k (2 + c.val) = v.getLsbD (2 + c.val) ∧
      ∀ i, i ≠ 2 + c.val → (s.writeRoute req k v).bit k i = s.bit k i) ∧
    ((∀ c, req ≠ .service c) → (s.writeRoute req k v).rd k = regAfter k (s.rd k) v) ∧
    Fr [] [k] s (s.writeRoute req k v) := by
  refine ⟨?_, fun h => by rw [writeRoute_other s k v h, rd_plainWrite], ?_⟩
  · rintro c rfl
    rw [writeRoute_service]
    exact ⟨bit_setBit_self s k (by omega) _, fun i hi => bit_setBit_ne s k hi _⟩
  · cases req with
    | service c => exact fr_setBit (Fr.refl _ _ s) (by simp) _
    | host => exact plainWrite_fr k v (Fr.refl _ _ s) (by simp)
    | pair b => exact plainWrite_fr k v (Fr.refl _ _ s) (by simp)
    | debug => exact plainWrite_fr k v (Fr.refl _ _ s) (by simp)

/-- A rate above the highest of the port's mode is refused (R309). -/
theorem writeRate_refused {p top : Nat} (h : s.maxRate p = some top) (hv : top < fldGet v 0 21) :
    s.writeRate p v = s.setFlag (FP_STATUS_REFUSED p) true := by
  unfold State.writeRate
  rw [h]
  exact if_pos hv

theorem queue_setQueue (q p : Nat) (x : Option Queue) : (s.setQueue q x).queue p = if p = q then x else s.queue p :=
  Tab.get_put none0 s.que.queues q p x

/-- A write of QUE_COUNT clears UE where it holds 1, and nothing else (R219). -/
theorem writeQueCount_spec {q : Nat} {x : Queue} (h : s.queue q = some x) :
    (s.writeQueCount q v).queue q = some { x with ue := x.ue && !v.getLsbD 20 } ∧
      (∀ p, p ≠ q → (s.writeQueCount q v).queue p = s.queue p) ∧ Fr [.que] [] s (s.writeQueCount q v) := by
  by_cases hv : v.getLsbD 20 = true
  · have e : s.writeQueCount q v = s.setQueue q (some { x with ue := false }) := by
      unfold State.writeQueCount; rw [h]; exact if_pos hv
    rw [e, hv, Bool.not_true, Bool.and_false]
    exact ⟨by rw [queue_setQueue, if_pos rfl], fun p hp => by rw [queue_setQueue, if_neg hp],
      fr_mk (Fr.refl _ _ s) (State.setQueue_keeps _ _ (Keeps.refl s)) rfl⟩
  · have e : s.writeQueCount q v = s := by unfold State.writeQueCount; rw [h]; exact if_neg hv
    rw [e, Bool.eq_false_iff.2 hv, Bool.not_false, Bool.and_true]
    exact ⟨h, fun _ _ => rfl, Fr.refl _ _ s⟩

/-! ### A write by a requester -/

theorem writeAny_off (h : s.dev.off = true) : s.writeAny req k v = s := by
  unfold State.writeAny
  exact if_pos h

/-- A write that no requester of this kind makes: of a reserved offset, of the debug block, of HDR (R42, R305, R527). -/
theorem writeAny_refused (h : s.dev.off = false)
    (hb : (regClass k).isNone = true ∨ (0x3000 ≤ k ∧ k < 0x4000 ∧ req ≠ .debug) ∨ (0x1000000 ≤ k ∧ req ≠ .host)) :
    (req = .host → k < 0x1000000 → s.writeAny req k v = s.badAccess k 4 true) ∧
      (req = .host → 0x1000000 ≤ k → s.writeAny req k v = s) ∧
      (req = .debug → s.writeAny req k v = s.emit .debugRefused) ∧
      (req ≠ .host → req ≠ .debug → s.writeAny req k v = s.emit (.busError req)) := by
  unfold State.writeAny
  rw [if_neg (by simp [h]), if_pos hb]
  cases req with
  | host => exact ⟨fun _ hk => if_pos hk, fun _ hk => if_neg (by omega), nofun, fun e => absurd rfl e⟩
  | debug => exact ⟨nofun, nofun, fun _ => rfl, fun _ e => absurd rfl e⟩
  | pair b => exact ⟨nofun, nofun, nofun, fun _ _ => rfl⟩
  | service c => exact ⟨nofun, nofun, nofun, fun _ _ => rfl⟩

/-- A register that the requester's port reaches, and that is no QUE_DATA. -/
structure Reaches (req : Requester) (k : Nat) : Prop where
  known : (regClass k).isSome = true
  debug : 0x3000 ≤ k → k < 0x4000 → req = .debug
  host : 0x1000000 ≤ k → req = .host
  data : ¬ (0x100000 ≤ k ∧ k < 0x120000 ∧ 8 ≤ k % 0x10)

section
variable {req k}
variable (hr : Reaches req k)
include hr

theorem Reaches.not_refused :
    ¬ ((regClass k).isNone = true ∨ (0x3000 ≤ k ∧ k < 0x4000 ∧ req ≠ .debug) ∨
      (0x1000000 ≤ k ∧ req ≠ .host)) := by
  rintro (h | ⟨h1, h2, h3⟩ | ⟨h1, h2⟩)
  · have := hr.known
    rw [Option.isNone_iff_eq_none] at h
    rw [h] at this
    exact absurd this Bool.false_ne_true
  · exact h3 (hr.debug h1 h2)
  · exact h2 (hr.host h1)

theorem writeAny_ownRow (h : s.dev.off = false) {t : State} (ho : s.ownRow req k v = some t) : s.writeAny req k v = t := by
  unfold State.writeAny
  rw [if_neg (by simp [h]), if_neg hr.not_refused, if_neg hr.data, ho]

theorem writeAny_regWrite (h : s.dev.off = false) (ho : s.ownRow req k v = none) :
    s.writeAny req k v = s.regWrite req k (fun s => s.writeReg req k v) := by
  unfold State.writeAny
  rw [if_neg (by simp [h]), if_neg hr.not_refused, if_neg hr.data, ho]

end

/-- An access that another core's lock stops waits (R506). -/
theorem regAccess_lockedOut {size : Nat} {write : Bool} (h : s.dev.off = false) (hl : s.lockedOut req k = true)
    (body : State → State) : s.regAccess req k size write body = s.coreWaits req (some .lock) := by
  unfold State.regAccess
  rw [if_neg (by simp [h]), if_pos hl]

theorem regAccess_off {size : Nat} {write : Bool} (h : s.dev.off = true) (body : State → State) :
    s.regAccess req k size write body = s := by
  unfold State.regAccess
  exact if_pos h

/-- A write that is performed, of a register without a row of its own. -/
theorem writeAny_performs {s : State} {req : Requester} {k : Nat} (hr : Reaches req k) (hp : Performs s req k true) {v : Reg}
    (ho : s.ownRow req k v = none) : s.writeAny req k v = (s.coreWaits req none).writeReg req k v := by
  rw [writeAny_regWrite s v hr hp.on ho, regWrite_performs hp]

@[simp] theorem coreWaits_bit (w : Option BusWait) (j i : Nat) : (s.coreWaits req w).bit j i = s.bit j i := coreWaits_flag ..

@[simp] theorem coreWaits_ringHeld (w : Option BusWait) : (s.coreWaits req w).ringHeld k = s.ringHeld k := by
  unfold State.ringHeld
  simp only [coreWaits_flag]

@[simp] theorem coreWaits_maxRate (w : Option BusWait) (p : Nat) : (s.coreWaits req w).maxRate p = s.maxRate p := by
  unfold State.maxRate
  simp only [coreWaits_get]

@[simp] theorem coreWaits_queue (w : Option BusWait) (q : Nat) : (s.coreWaits req w).queue q = s.queue q := by
  unfold State.queue
  rw [coreWaits_que]

/-- A core that waits no longer, and then a change within a frame. -/
theorem coreWaits_then {ps : List Part} {ks : List Nat} {t : State} (h : Fr ps ks (s.coreWaits req none) t) :
    Framed (.cores :: ps) ks s t :=
  ((coreWaits_fr s req none).mono (by simp) (by simp)).trans (h.mono (by simp) (by simp)) |>.frame

end Sys2Proof.Machine
end

section
/-! SUPPORT.  Reads with side effects (R8, R33, R38), and accesses that are bad or meet a gated block (R42, R203, R266). -/

namespace Sys2Proof.Machine

open Sys2Proof

variable (s : State) (req : Requester) (k : Nat)

/-! ### Which words are read how -/

/-- Low words lie in CLK, SEC, BIST, FP, PACE and TAL. -/
theorem isLowWord_iff : isLowWord k = true ↔
    k = 0x6800 ∨ k = 0x2008 ∨ k = 0x9018 ∨ k = 0x9020 ∨
      (0x30000 ≤ k ∧ k < 0x34000 ∧ (k % 0x100 = 0x10 ∨ k % 0x100 = 0x18 ∨ (0x80 ≤ k % 0x100 ∧ k % 8 = 0))) ∨
      (0x41000 ≤ k ∧ k < 0x43000 ∧ k % 0x80 = 0x08) ∨ (0x10000 ≤ k ∧ k < 0x18000 ∧ k % 0x100 = 0x20) := by
  simp only [isLowWord, Bool.or_eq_true, Bool.and_eq_true, decide_eq_true_eq, and_assoc, or_assoc]
  rfl

/-- RC fields lie in PMU and PACE. -/
theorem isRC_iff : isRC k = true ↔ k = 0x4020 ∨ k = 0x4080 ∨ (0x30000 ≤ k ∧ k < 0x34000 ∧ k % 0x100 = 0x30) := by
  simp only [isRC, Bool.or_eq_true, Bool.and_eq_true, decide_eq_true_eq, and_assoc, or_assoc]
  rfl

variable {k}

theorem isHighWord_of_low (h : isLowWord k = true) : isHighWord k = false := by
  rw [isLowWord_iff] at h
  rw [isHighWord, Bool.and_eq_false_iff, Bool.eq_false_iff, Bool.eq_false_iff, ne_eq, ne_eq, isLowWord_iff, decide_eq_true_eq]
  omega

theorem isLowWord_of_RC (h : isRC k = true) : isLowWord k = false := by
  rw [isRC_iff] at h
  rw [Bool.eq_false_iff, ne_eq, isLowWord_iff]
  omega

theorem isHighWord_of_RC (h : isRC k = true) : isHighWord k = false := by
  rw [isRC_iff] at h
  rw [isHighWord, Bool.and_eq_false_iff, Bool.eq_false_iff, Bool.eq_false_iff, ne_eq, ne_eq, isLowWord_iff, decide_eq_true_eq]
  omega

/-- No word of a pair and no RC field is drawn afresh at its read. -/
theorem drawn_eq (h : isLowWord k = true ∨ isRC k = true) : s.drawn k = s := by
  rw [isLowWord_iff, isRC_iff] at h
  unfold State.drawn
  exact if_neg (by omega)

/-- Neither of them, nor a high word, shows a core. -/
theorem not_debug_of_read (h : isLowWord k = true ∨ isRC k = true) :
    ¬ (0x3000 ≤ k ∧ k < 0x4000) ∧ ¬ (0x3000 ≤ k + 4 ∧ k + 4 < 0x4000) := by
  rw [isLowWord_iff, isRC_iff] at h
  omega

section
variable (c : CoreState) (o : Nat)

theorem viewMnt_core : { s with core := c }.viewMnt o = s.viewMnt o := rfl
theorem viewBist_core : { s with core := c }.viewBist o = s.viewBist o := rfl
theorem viewThm_core : { s with core := c }.viewThm o = s.viewThm o := rfl
theorem viewPmu_core : { s with core := c }.viewPmu o = s.viewPmu o := rfl
theorem viewSec_core : { s with core := c }.viewSec o = s.viewSec o := rfl
theorem gatedPins_core : { s with core := c }.gatedPins o = s.gatedPins o := rfl

end

/-- Only registers of the debug block show the control cores. -/
theorem views_core (c : CoreState) (h : ¬ (0x3000 ≤ k ∧ k < 0x4000)) : { s with core := c }.views k = s.views k := by
  unfold State.views
  rw [if_neg h, if_neg h, viewMnt_core, viewBist_core, viewThm_core, viewPmu_core, viewSec_core, gatedPins_core]
  repeat refine ite_congr rfl (fun _ => rfl) (fun _ => ?_)
  rfl

/-- What a register outside the debug block shows does not depend on a core's waiting. -/
theorem view_coreWaits (w : Option BusWait) (h : ¬ (0x3000 ≤ k ∧ k < 0x4000)) : (s.coreWaits req w).view k = s.view k := by
  have hv : (s.coreWaits req w).views k = s.views k := by
    unfold State.coreWaits
    split
    · exact views_core s _ h
    · rfl
  unfold State.view
  rw [coreWaits_rd, hv]

theorem readReg_low (peek : Bool) (h : isLowWord k = true) : s.readReg req peek k = (s.view k, s.latchHigh req k) := by
  unfold State.readReg
  rw [if_neg (by simp [isHighWord_of_low h]), drawn_eq s (.inl h)]
  exact if_pos h

theorem readReg_RC (peek : Bool) (h : isRC k = true) :
    s.readReg req peek k = (s.view k, if peek then s else s.rcClear k) := by
  unfold State.readReg
  rw [if_neg (by simp [isHighWord_of_RC h]), drawn_eq s (.inr h)]
  dsimp only
  rw [if_neg (by simp [isLowWord_of_RC h])]
  cases peek with
  | true => rfl
  | false => rw [if_neg Bool.false_ne_true, if_pos h]; rfl

/-- An RC read returns the field to its reset value (R8). -/
theorem rcClear_spec (k : Nat) :
    (k = PMU_RAIL_MIN → Tab.get low0 (s.rcClear k).pow.low (s.get PMU_RAIL_SEL_RAIL) = 0xFFFF) ∧
      (k = PMU_POWER → (s.rcClear k).get PMU_POWER_PEAK = 0) ∧
      (k ≠ PMU_RAIL_MIN → k ≠ PMU_POWER → (s.rcClear k).rd k = regReset k) ∧ Fr [.pow] [k] s (s.rcClear k) := by
  unfold State.rcClear
  split
  next h =>
    refine ⟨fun _ => by simp, fun e => ?_, fun e => absurd h e, fr_mk (Fr.refl _ _ s) ?_ rfl⟩
    · rw [h] at e; exact absurd e (by decide)
    · simp
  next h =>
    split
    next h' =>
      refine ⟨fun e => absurd e h, fun _ => ?_, fun _ e => absurd h' e, ?_⟩
      · exact State.get_set_self s _ (by decide) 0
      · exact fr_set (f := PMU_POWER_PEAK) (Fr.refl _ _ s) (by rw [h']; exact List.mem_singleton_self _) 0
    next h' =>
      exact ⟨fun e => absurd e h, fun e => absurd e h', fun _ _ => State.rd_wr_self .., fr_wr (Fr.refl _ _ s) (by simp) _⟩

theorem latchHigh_fr (k : Nat) : Fr [.host] [] s (s.latchHigh req k) :=
  fr_mk (Fr.refl _ _ s) (by simp) rfl

theorem latch_latchHigh (k r : Nat) : Tab.get reg0 (s.latchHigh req k).host.latch r =
    if r = reqNo req then s.view (k + 4) else Tab.get reg0 s.host.latch r :=
  Tab.get_put reg0 s.host.latch (reqNo req) r _

/-- A read that is performed answers its value. -/
theorem readAnswer_performs {s : State} {req : Requester} (hp : Performs s req k false) :
    s.readAnswer req k = ((s.coreWaits req none).readReg req (decide (req = .debug) && !s.flag DBG_ACCESS_SIDE) k).2.emit
      (.answer req (((s.coreWaits req none).readReg req (decide (req = .debug) && !s.flag DBG_ACCESS_SIDE) k).1.setWidth 64)) := by
  unfold State.readAnswer
  rw [regAccess_performs hp]
  dsimp only
  rw [coreWaits_flag]

/-- A read of a low word (R38). -/
theorem readAnswer_low {s : State} {req : Requester} (h : isLowWord k = true) (hp : Performs s req k false) :
    s.readAnswer req k = ((s.coreWaits req none).latchHigh req k).emit (.answer req ((s.view k).setWidth 64)) := by
  rw [readAnswer_performs hp, readReg_low _ _ _ h, view_coreWaits s req none (not_debug_of_read (.inl h)).1]

/-- The debug port is no core, so that nothing waits for it. -/
theorem coreWaits_debug (w : Option BusWait) : s.coreWaits .debug w = s := rfl

/-- A peek of a register with an RC field answers its value only (R8, R520). -/
theorem readAnswer_peek {s : State} {req : Requester} (h : isRC k = true) (hp : Performs s req k false)
    (hpeek : (decide (req = .debug) && !s.flag DBG_ACCESS_SIDE) = true) :
    s.readAnswer req k = s.emit (.answer req ((s.view k).setWidth 64)) := by
  have hd : req = .debug := of_decide_eq_true (Bool.and_eq_true _ _ ▸ hpeek).1
  rw [readAnswer_performs hp, readReg_RC _ _ _ h, hpeek, hd, coreWaits_debug]
  rfl

/-- Any other read of a register with an RC field answers its value and clears the field (R8). -/
theorem readAnswer_clears {s : State} {req : Requester} (h : isRC k = true) (hp : Performs s req k false)
    (hpeek : (decide (req = .debug) && !s.flag DBG_ACCESS_SIDE) = false) :
    s.readAnswer req k = ((s.coreWaits req none).rcClear k).emit (.answer req ((s.view k).setWidth 64)) := by
  rw [readAnswer_performs hp, readReg_RC _ _ _ h, hpeek, view_coreWaits s req none (not_debug_of_read (.inr h)).1]
  rfl

/-! ### Bad and gated accesses -/

/-- The host's answer to a read; a write has none. -/
def State.hostAnswer (s : State) (write : Bool) (v : Word) : State := if write then s else s.emit (.answer .host v)

@[simp] theorem hostAnswer_ev (write : Bool) (v : Word) : (s.hostAnswer write v).ev = s.ev := by
  cases write <;> rfl

@[simp] theorem hostAnswer_rd (write : Bool) (v : Word) (j : Nat) : (s.hostAnswer write v).rd j = s.rd j := by
  cases write <;> rfl

theorem hostAnswer_fr {ps : List Part} {ks : List Nat} {s0 s : State} (h : Fr ps ks s0 s) (hp : Part.out ∈ ps) (write : Bool)
    (v : Word) : Fr ps ks s0 (s.hostAnswer write v) := fr_ite h (emit_fr h hp _)

/-- A read is answered. -/
theorem mem_hostAnswer {s t : State} (h : s.out <+: t.out) {write : Bool} (hw : write = false) (v : Word) :
    .answer .host v ∈ (t.hostAnswer write v).out.drop s.out.length := by
  rw [hw]
  exact mem_emit_drop h _

theorem badAccess_seq (k n : Nat) (write : Bool) : (s.badAccess k n write).ev.seq = s.ev.seq + 1 := raise_seq ..

theorem badAccess_fr (k n : Nat) (write : Bool) : Fr evParts bookKeys s (s.badAccess k n write) := raise_fr ..

/-- A bad access is one event, and a read's answer; nothing else changes (R42). -/
theorem badAccess_answered (k n : Nat) (write : Bool) (v : Word) :
    ((s.badAccess k n write).hostAnswer write v).ev.seq = s.ev.seq + 1 ∧
      (write = false → .answer .host v ∈ ((s.badAccess k n write).hostAnswer write v).out.drop s.out.length) ∧
      Framed evParts bookKeys s ((s.badAccess k n write).hostAnswer write v) := by
  have hb := badAccess_fr s k n write
  exact ⟨by rw [hostAnswer_ev, badAccess_seq], fun hw => mem_hostAnswer hb.keeps.out hw v,
    (hostAnswer_fr hb (by decide) write v).frame⟩

/-- What an access of 8 bytes reads of those of its halves that are performed, and what they do (R42). -/
def State.hostHalves (s : State) (k : Nat) (write : Bool) (data : Word) : Word × State :=
  let lo := s.hostHalf k write (data.setWidth 32)
  let hi := lo.2.hostHalf (k + 4) write ((data >>> 32).setWidth 32)
  (lo.1.setWidth 64 ||| (hi.1.setWidth 64 <<< 32), hi.2)

theorem hostHalves_eq {s : State} {k : Nat} {write : Bool} {data : Word} {lo hi : Reg × State}
    (h1 : s.hostHalf k write (data.setWidth 32) = lo) (h2 : lo.2.hostHalf (k + 4) write ((data >>> 32).setWidth 32) = hi) :
    s.hostHalves k write data = (lo.1.setWidth 64 ||| (hi.1.setWidth 64 <<< 32), hi.2) := by
  subst h1 h2
  rfl

section
variable {n : Nat} {write : Bool} (data : Word)

/-- An access that is performed in whole is no bad access. -/
theorem hostBadAccess_performed (hn : n = 4 ∨ n = 8) (ha : k % n = 0) (h1 : hostPerforms k write = true)
    (h2 : n = 4 ∨ hostPerforms (k + 4) write = true) : s.hostBadAccess k n write data = s := by
  unfold State.hostBadAccess
  dsimp only
  rw [if_pos ⟨hn, ha⟩, if_pos (by simpa [h1] using h2)]

/-- An access of a wrong size or alignment, or of 4 bytes that are not performed. -/
theorem hostBadAccess_ignored (h : ¬ ((n = 4 ∨ n = 8) ∧ k % n = 0) ∨ (n = 4 ∧ hostPerforms k write = false)) :
    s.hostBadAccess k n write data = (s.badAccess k n write).hostAnswer write 0 := by
  unfold State.hostBadAccess
  dsimp only
  by_cases hw : (n = 4 ∨ n = 8) ∧ k % n = 0
  · obtain h | ⟨rfl, hp⟩ := h
    · exact absurd hw h
    · rw [if_pos hw, if_neg (by simp [hp]), if_pos rfl]
      rfl
  · rw [if_neg hw]
    rfl

/-- An aligned access of 8 bytes of which a half is not performed, while no core's lock holds it. -/
theorem hostBadAccess_halves (ha : k % 8 = 0) (hp : ¬ (hostPerforms k write = true ∧ hostPerforms (k + 4) write = true))
    (hl : s.lockedOut .host k = false) :
    s.hostBadAccess k 8 write data =
      ((s.hostHalves k write data).2.badAccess k 8 write).hostAnswer write (s.hostHalves k write data).1 := by
  unfold State.hostBadAccess
  dsimp only
  rw [if_pos ⟨.inr rfl, ha⟩, if_neg (by simpa using hp), if_neg (by omega), if_neg (by simp [hl])]
  rfl

/-- Such an access comes again while another core's lock holds it (R506). -/
theorem hostBadAccess_held (ha : k % 8 = 0) (hp : ¬ (hostPerforms k write = true ∧ hostPerforms (k + 4) write = true))
    (hl : s.lockedOut .host k = true) : s.hostBadAccess k 8 write data = s := by
  unfold State.hostBadAccess
  dsimp only
  rw [if_pos ⟨.inr rfl, ha⟩, if_neg (by simpa using hp), if_neg (by omega), if_pos hl]

end

theorem hostHalf_not_performed {write : Bool} (h : hostPerforms k write = false) (v : Reg) :
    s.hostHalf k write v = (0, s) := by
  unfold State.hostHalf
  exact if_pos h

theorem hostHalf_write (h : hostPerforms k true = true) (v : Reg) : s.hostHalf k true v = (0, s.writeAny .host k v) := by
  unfold State.hostHalf
  rw [if_neg (by simp [h])]
  rfl

/-- A bad access to a window or to the doorbells is counted, reported once an interval and answered (R284, R285). -/
theorem hostBad_spec (bar offset size : Nat) (write : Bool) :
    ((s.hostBad bar offset size write).rd HIF_WINBAD).toNat = min 0xFFFFFFFF ((s.rd HIF_WINBAD).toNat + 1) ∧
      (write = false → .answer .host 0 ∈ (s.hostBad bar offset size write).out.drop s.out.length) ∧
      Framed evParts (HIF_WINBAD :: HIF_SAT_WINBAD.reg :: bookKeys) s (s.hostBad bar offset size write) := by
  have hf := count_raiseLim_fr s HIF_WINBAD HIF_SAT_WINBAD 0x4904 (srcHif (if bar = 0 then 0 else 1))
    [(18, 1, bar), (19, 4, offset), (23, 1, size), (24, 1, b2n write)]
  refine ⟨?_, fun hw => mem_hostAnswer hf.keeps.out hw 0, (hostAnswer_fr hf (by decide) write 0).frame⟩
  show ((State.hostAnswer _ write 0).rd HIF_WINBAD).toNat = _
  rw [hostAnswer_rd, State.rd_raiseLim _ _ _ _ (by decide), rd_count s HIF_WINBAD 1 (by decide) (by decide)]

/-- A host access to a gated block is counted, reported once an interval and answered with all ones (R266). -/
theorem gatedAccess_host (k size : Nat) (write : Bool) :
    ((s.gatedAccess .host k size write).rd CLK_GATEDS).toNat = min 0xFFFFFFFF ((s.rd CLK_GATEDS).toNat + 1) ∧
      (write = false →
        .answer .host (BitVec.ofNat 64 (256 ^ size - 1)) ∈ (s.gatedAccess .host k size write).out.drop s.out.length) ∧
      Framed evParts (CLK_GATEDS :: CLK_SAT_GATEDS.reg :: bookKeys) s (s.gatedAccess .host k size write) := by
  have hf : Fr evParts (CLK_GATEDS :: CLK_SAT_GATEDS.reg :: bookKeys) s (s.noteGated k size write) := count_raiseLim_fr ..
  refine ⟨?_, fun hw => mem_hostAnswer hf.keeps.out hw _, (hostAnswer_fr hf (by decide) write _).frame⟩
  show ((State.hostAnswer (s.noteGated k size write) write _).rd CLK_GATEDS).toNat = _
  rw [hostAnswer_rd, State.noteGated, State.rd_raiseLim _ _ _ _ (by decide), rd_count s CLK_GATEDS 1 (by decide) (by decide)]

theorem gatedAccess_core {req : Requester} (h1 : req ≠ .host) (h2 : req ≠ .debug) (k size : Nat) (write : Bool) :
    s.gatedAccess req k size write = s.emit (.busError req) := by
  cases req with
  | host => exact absurd rfl h1
  | debug => exact absurd rfl h2
  | pair b => rfl
  | service c => rfl

end Sys2Proof.Machine
end

section
/-! SUPPORT.  The register channel (R78, R79, R142, R285): what taking an access from a mat's window does, and that answers,
counts and events do not change how the mat's gate takes the next. -/

namespace Sys2Proof.Machine

open Sys2Proof

variable (s : State) (p : Nat)

/-! ### What a gate's readiness depends on -/

/-- The fields that say how a mat's gate takes an access to its window: its active slot, the states of its slots, whether it is
in crosier state, and the states of the pacers. -/
inductive GateFld (p : Nat) : Fld → Prop where
  | active : GateFld p (gACTIVE p)
  | slot (k : Nat) : GateFld p (slotFld p k)
  | crosier : GateFld p (gCROSIER p)
  | pacer (q : Nat) : GateFld p (PACE_STATUS_STATE q)

/-- REGCH_BUSY is none of them, though it stands in the register of some. -/
theorem GateFld.apart_busy {p : Nat} {f : Fld} (h : GateFld p f) : fldsApart (gREGCH_BUSY p) f = true := by
  simp only [fldsApart, Bool.or_eq_true, decide_eq_true_eq]
  cases h with
  | active => exact .inr (show 0 + 2 ≤ 6 by decide)
  | crosier => exact .inr (show 3 + 1 ≤ 6 by decide)
  | pacer q => exact .inr (show 0 + 2 ≤ 6 by decide)
  | slot k =>
    left; left
    show 0x200800 + 0x1000 * matCol p + 0x100 * matG p ≠ 0x200000 + 0x1000 * matCol p + 0x80 * matG p
    omega

/-- Their registers lie at the start of a page or of a half page of the map, and above the registers of book-keeping. -/
theorem GateFld.reg_range {p : Nat} {f : Fld} (h : GateFld p f) : f.reg % 0x80 = 0 ∧ 0x30000 ≤ f.reg := by
  cases h with
  | active =>
    show (0x200800 + 0x1000 * matCol p + 0x100 * matG p) % 0x80 = 0 ∧ 0x30000 ≤ 0x200800 + 0x1000 * matCol p + 0x100 * matG p
    omega
  | crosier =>
    show (0x200800 + 0x1000 * matCol p + 0x100 * matG p) % 0x80 = 0 ∧ 0x30000 ≤ 0x200800 + 0x1000 * matCol p + 0x100 * matG p
    omega
  | pacer q =>
    show (0x30000 + 0x100 * q) % 0x80 = 0 ∧ 0x30000 ≤ 0x30000 + 0x100 * q
    omega
  | slot k =>
    show (0x200000 + 0x1000 * matCol p + 0x80 * matG p) % 0x80 = 0 ∧ 0x30000 ≤ 0x200000 + 0x1000 * matCol p + 0x80 * matG p
    omega

theorem bookKeys_lt {k : Nat} (h : k ∈ bookKeys) : k < 0x30000 := by
  revert k
  decide

theorem not_mem_bookKeys {k : Nat} (h : 0x30000 ≤ k) : k ∉ bookKeys := fun hk => by
  have := bookKeys_lt hk
  omega

/-- COL_GATE_REGTOS of a mat, and the register of its SAT bit. -/
theorem regtos_reg : COL_GATE_REGTOS (matCol p) (matG p) = 0x20082c + 0x1000 * matCol p + 0x100 * matG p ∧
    (COL_GATE_SAT_REGTOS (matCol p) (matG p)).reg = 0x20083c + 0x1000 * matCol p + 0x100 * matG p ∧
    (gREGCH_BUSY p).reg = 0x200800 + 0x1000 * matCol p + 0x100 * matG p := ⟨rfl, rfl, rfl⟩

theorem flag_setBusy : (s.setFlag (gREGCH_BUSY p) true).flag (gREGCH_BUSY p) = true :=
  State.flag_setFlag_self s (gREGCH_BUSY p) (show 6 + 1 ≤ 32 by decide) rfl true

/-- Two states agree in all that says how a mat's gate takes an access to its window. -/
structure SameGate (p : Nat) (s t : State) : Prop where
  ctx : t.ctx = s.ctx
  mnt : t.mnt = s.mnt
  pace : t.pace = s.pace
  fld : ∀ f, GateFld p f → t.get f = s.get f

theorem SameGate.trans {p : Nat} {s t u : State} (h : SameGate p s t) (k : SameGate p t u) : SameGate p s u :=
  ⟨k.ctx.trans h.ctx, k.mnt.trans h.mnt, k.pace.trans h.pace, fun f hf => (k.fld f hf).trans (h.fld f hf)⟩

theorem sameGate_busy (b : Bool) : SameGate p s (s.setFlag (gREGCH_BUSY p) b) :=
  ⟨rfl, rfl, rfl, fun _ hf => State.get_setFlag_apart s hf.apart_busy b⟩

theorem sameGate_winAnswer (a : WinAcc) (v : Word) : SameGate p s (s.winAnswer a v) := by
  unfold State.winAnswer
  split <;> exact ⟨rfl, rfl, rfl, fun _ _ => rfl⟩

theorem sameGate_count :
    SameGate p s (s.count (COL_GATE_REGTOS (matCol p) (matG p)) (COL_GATE_SAT_REGTOS (matCol p) (matG p)) 1) := by
  refine ⟨State.count_ctx .., State.count_mnt .., State.count_pace .., fun f hf => ?_⟩
  obtain ⟨hr, hs, -⟩ := regtos_reg p
  obtain ⟨hm, -⟩ := hf.reg_range
  have h : (s.count (COL_GATE_REGTOS (matCol p) (matG p)) (COL_GATE_SAT_REGTOS (matCol p) (matG p)) 1).rd f.reg = s.rd f.reg := by
    refine (fr_count (Fr.refl [] [_, _] s) (List.mem_cons_self ..)
      (List.mem_cons_of_mem _ (List.mem_cons_self ..)) 1).frame.reg _ ?_
    simp only [List.mem_cons, List.not_mem_nil, or_false, not_or]
    omega
  unfold State.get
  rw [h]

theorem sameGate_raise {code : Nat} (hc : evSeverity code ≠ 3) (src : Nat) (data : List (Nat × Nat × Nat)) :
    SameGate p s (s.raise code src data) :=
  ⟨State.raise_ctx .., raise_mnt s hc src data, State.raise_pace .., fun f hf => by
    obtain ⟨-, hr⟩ := hf.reg_range
    exact State.get_raise _ _ _ _ (not_mem_bookKeys hr)⟩

section
variable {s p} {t : State} (h : SameGate p s t)
include h

theorem SameGate.activeSlot : t.activeSlot p = s.activeSlot p := h.fld _ .active

theorem SameGate.slot (q k : Nat) : t.slot q k = s.slot q k := by
  unfold State.slot
  rw [h.ctx]

theorem SameGate.regchServes : t.regchServes p = s.regchServes p := by
  have hs : t.slotState p (s.activeSlot p) = s.slotState p (s.activeSlot p) := h.fld _ (.slot _)
  have hc : t.flag (gCROSIER p) = s.flag (gCROSIER p) := by
    unfold State.flag
    rw [h.fld _ .crosier]
  unfold State.regchServes
  rw [h.activeSlot, h.slot, hs, hc]

theorem SameGate.logMat (q : Nat) : t.logMat q = s.logMat q := by
  unfold State.logMat State.physMat
  rw [h.mnt]

theorem SameGate.regionOf (m : Nat) : t.regionOf m = s.regionOf m := by
  unfold State.regionOf
  rw [h.pace]

theorem SameGate.pacedPolicy (m : Nat) (x : Slot) : t.pacedPolicy m x = s.pacedPolicy m x := by
  unfold State.pacedPolicy State.pacer
  rw [h.regionOf, h.pace]

theorem SameGate.pacedCut (m : Nat) : t.pacedCut m = s.pacedCut m := by
  have hq : ∀ q, t.paceState q = s.paceState q := fun q => h.fld _ (.pacer q)
  unfold State.pacedCut
  rw [h.regionOf]
  simp only [hq]

theorem SameGate.policyAt : t.policyAt p = s.policyAt p := by
  have hc : t.crosierOf (s.logMat p) = s.crosierOf (s.logMat p) := by
    unfold State.crosierOf
    rw [h.ctx]
  have hw : t.swapOf (s.logMat p) = s.swapOf (s.logMat p) := by
    unfold State.swapOf State.groupOf State.group
    rw [h.ctx]
  have hr : t.cutRun p = s.cutRun p := by
    unfold State.cutRun
    rw [h.mnt]
  have hl : t.logMat = s.logMat := funext h.logMat
  unfold State.policyAt
  simp only [hl, h.activeSlot, h.slot, hc, hw, hr, h.pacedPolicy, h.pacedCut]

end

/-! ### Taking accesses -/

@[simp] theorem window_setWindow (l : List WinAcc) : (s.setWindow p l).window p = l :=
  Tab.get_put_self nil0 s.host.window p l

theorem setWindow_fr {ps : List Part} {ks : List Nat} {s0 s : State} (h : Fr ps ks s0 s) (hp : Part.host ∈ ps) (p : Nat)
    (l : List WinAcc) : Fr ps ks s0 (s.setWindow p l) := by
  refine fr_mk h (State.setWindow_keeps _ _ h.keeps) rfl (fun q hq => ?_)
  have : q ≠ .host := by rintro rfl; exact hq hp
  cases q <;> first | rfl | exact ⟨rfl, rfl⟩ | exact absurd rfl this

theorem winAnswer_fr {ks : List Nat} {s0 s : State} (h : Fr [.host, .out] ks s0 s) (a : WinAcc) (v : Word) :
    Fr [.host, .out] ks s0 (s.winAnswer a v) := fr_ite h (emit_fr h (by decide) _)

theorem winAnswer_out (a : WinAcc) (v : Word) :
    (s.winAnswer a v).out = s.out ++ (if a.write then [] else [.answer .host (a.answer v)]) := by
  unfold State.winAnswer
  split
  · exact (List.append_nil _).symm
  · rfl

@[simp] theorem winAnswer_flag (a : WinAcc) (v : Word) (f : Fld) : (s.winAnswer a v).flag f = s.flag f := by
  unfold State.winAnswer
  split <;> rfl

theorem serveWindow_nil : s.serveWindow p [] = s.setWindow p [] := rfl

theorem serveWindow_dead_cons (h : s.regchServes p = false) (a : WinAcc) (l : List WinAcc) :
    s.serveWindow p (a :: l) = (s.winAnswer a allOnes).serveWindow p l := by
  rw [State.serveWindow]
  exact if_pos h

/-- A mat that cannot serve its window completes every access. -/
theorem serveWindow_dead {s : State} (h : s.regchServes p = false) (l : List WinAcc) :
    (s.serveWindow p l).window p = [] ∧ (s.serveWindow p l).flag (gREGCH_BUSY p) = s.flag (gREGCH_BUSY p) ∧
      Fr [.host, .out] [] s (s.serveWindow p l) := by
  induction l generalizing s with
  | nil => exact ⟨window_setWindow s p [], rfl, setWindow_fr (Fr.refl _ _ s) (by decide) p []⟩
  | cons a l ih =>
    obtain ⟨hw, hb, hf⟩ := ih ((sameGate_winAnswer s p a allOnes).regchServes.trans h)
    rw [serveWindow_dead_cons s p h]
    exact ⟨hw, hb.trans (winAnswer_flag s a _ _), (winAnswer_fr (Fr.refl _ _ s) a _).trans hf⟩

section
variable {s p} (h : s.regchServes p = true)
include h

/-- A border policy holds the access at the front (R79, R142). -/
theorem serveWindow_held (hp : (s.policyAt p).isSome = true) (l : List WinAcc) : s.serveWindow p l = s.setWindow p l := by
  cases l with
  | nil => rfl
  | cons a l => rw [State.serveWindow, if_neg (by simp [h]), if_pos hp]

/-- The access at the front is presented to the design (R78, R79). -/
theorem serveWindow_presented (hp : s.policyAt p = none) (a : WinAcc) (l : List WinAcc) :
    s.serveWindow p (a :: l) = ((s.setWindow p (a :: l)).setFlag (gREGCH_BUSY p) true).emit
      (.token p (.regch a.write a.word) (a.word + 4096 * b2n a.write + 8192 * (if a.write then a.data.toNat else 0))) := by
  rw [State.serveWindow, if_neg (by simp [h]), if_neg (by simp [hp])]

end

/-- What stands in a mat's window, and whether an access is with the design, once accesses have been taken (R79, R142, R285). -/
theorem serveWindow_spec {s : State} (hb : s.flag (gREGCH_BUSY p) = false) (l : List WinAcc) :
    (s.regchServes p = false → (s.serveWindow p l).window p = [] ∧ (s.serveWindow p l).flag (gREGCH_BUSY p) = false) ∧
      (s.regchServes p = true → (s.policyAt p).isSome = true →
        (s.serveWindow p l).window p = l ∧ (s.serveWindow p l).flag (gREGCH_BUSY p) = false) ∧
      (s.regchServes p = true → s.policyAt p = none →
        (s.serveWindow p l).window p = l ∧ (s.serveWindow p l).flag (gREGCH_BUSY p) = decide (l ≠ [])) ∧
      Fr [.host, .out] [(gREGCH_BUSY p).reg] s (s.serveWindow p l) := by
  cases hs : s.regchServes p with
  | false =>
    obtain ⟨h1, h2, h3⟩ := serveWindow_dead p hs l
    exact ⟨fun _ => ⟨h1, h2.trans hb⟩, nofun, nofun, h3.mono (List.Subset.refl _) (List.nil_subset _)⟩
  | true =>
    cases hp : s.policyAt p with
    | some x =>
      rw [serveWindow_held hs (by rw [hp]; rfl)]
      exact ⟨nofun, fun _ _ => ⟨window_setWindow .., hb⟩, fun _ => nofun, setWindow_fr (Fr.refl _ _ s) (by decide) p l⟩
    | none =>
      refine ⟨nofun, fun _ e => absurd e Bool.false_ne_true, fun _ _ => ?_, ?_⟩
      · cases l with
        | nil => exact ⟨window_setWindow .., hb⟩
        | cons a l =>
          rw [serveWindow_presented hs hp]
          exact ⟨window_setWindow s p (a :: l), flag_setBusy _ p⟩
      · cases l with
        | nil => exact setWindow_fr (Fr.refl _ _ s) (by decide) p []
        | cons a l =>
          rw [serveWindow_presented hs hp]
          exact emit_fr (fr_setFlag (setWindow_fr (Fr.refl _ _ s) (by decide) p _) (List.mem_cons_self ..) true) (by decide) _

/-! ### The end of an access -/

theorem stampFront_eq_nil (now : Word) (l : List WinAcc) : stampFront now l = [] ↔ l = [] := by
  cases l <;> simp [stampFront]

/-- The access at the front completes, and the next is taken. -/
theorem endWindow_spec {s : State} {p : Nat} {a : WinAcc} {l : List WinAcc} (hw : s.window p = a :: l) (v : Word) :
    WindowGoesOn s (s.endWindow p v) p l ∧
      (s.out ++ (if a.write then [] else [.answer .host (a.answer v)])) <+: (s.endWindow p v).out ∧
      (l = [] → (s.endWindow p v).out = s.out ++ (if a.write then [] else [.answer .host (a.answer v)])) ∧
      Fr [.host, .out] [(gREGCH_BUSY p).reg] s (s.endWindow p v) := by
  have e : s.endWindow p v = ((s.winAnswer a v).setFlag (gREGCH_BUSY p) false).serveWindow p (stampFront s.time l) := by
    unfold State.endWindow
    rw [hw]
  have hg : SameGate p s ((s.winAnswer a v).setFlag (gREGCH_BUSY p) false) :=
    (sameGate_winAnswer s p a v).trans (sameGate_busy _ p false)
  have ho : ((s.winAnswer a v).setFlag (gREGCH_BUSY p) false).out =
      s.out ++ (if a.write then [] else [.answer .host (a.answer v)]) := winAnswer_out s a v
  have hf : Fr [.host, .out] [(gREGCH_BUSY p).reg] s ((s.winAnswer a v).setFlag (gREGCH_BUSY p) false) :=
    fr_setFlag (winAnswer_fr (Fr.refl _ _ s) a v) (List.mem_cons_self ..) false
  have hb := flag_setFlag_false (s.winAnswer a v) (gREGCH_BUSY p)
  obtain ⟨hdead, hheld, hnext, hfr⟩ := serveWindow_spec p hb (stampFront s.time l)
  rw [hg.regchServes] at hdead hheld hnext
  rw [hg.policyAt] at hheld hnext
  rw [e]
  refine ⟨⟨hdead, hheld, fun h1 h2 => ?_⟩, ho ▸ hfr.keeps.out, ?_, hf.trans hfr⟩
  · obtain ⟨h3, h4⟩ := hnext h1 h2
    exact ⟨h3, h4.trans (by simp only [ne_eq, stampFront_eq_nil])⟩
  · rintro rfl
    exact ho

/-- Window accesses go on alike from two states that agree in what the gate depends on. -/
theorem WindowGoesOn.of_sameGate {s s' t : State} {p : Nat} {l : List WinAcc} (h : WindowGoesOn s' t p l)
    (hg : SameGate p s s') (ht : s'.time = s.time) : WindowGoesOn s t p l := by
  obtain ⟨hdead, hheld, hnext⟩ := h
  rw [hg.regchServes] at hdead hheld hnext
  rw [hg.policyAt] at hheld hnext
  rw [ht] at hheld hnext
  exact ⟨hdead, hheld, hnext⟩

end Sys2Proof.Machine
end

section
/-! SUPPORT.  The rows on register accesses, bad accesses and the register window. -/

namespace Sys2Proof.Machine

open Sys2Proof

theorem next_congr {t u : State} (h : t = u) : (.next t : Host.Outcome State Fault Refusal) = .next u := congrArg _ h

/-! ### REGISTER_WRITE (R8, R33, R508) -/

section
variable {s : State} {req : Requester} {offset : BitVec 32} {v : Reg}

/-- A write that is performed, of a register without a row of its own, is what `writeReg` says of its kind, in the state in
which the core that made it no longer waits. -/
theorem registerWrite_performs (hr : Reaches req offset.toNat) (hp : Performs s req offset.toNat true)
    (ho : s.ownRow req offset.toNat v = none) {t : State} (ht : (s.coreWaits req none).writeReg req offset.toNat v = t) :
    exec (.registerWrite req offset v) s = .next t :=
  next_congr ((writeAny_performs hr hp ho).trans ht)

/-- Whether a register is plain does not depend on a core's waiting. -/
theorem PlainReg.coreWaits {k : Nat} (h : PlainReg s k) : PlainReg (s.coreWaits req none) k :=
  { h with ring := (coreWaits_ringHeld s req k none).trans h.ring }

/-- A rate that is refused leaves FP_RATE as it is (R309). -/
theorem setRefused_spec (s : State) {k : Nat} (h : k % 0x100 = 0x0C) :
    (s.setFlag (FP_STATUS_REFUSED ((k - 0x10000) / 0x100)) true).flag (FP_STATUS_REFUSED ((k - 0x10000) / 0x100)) = true ∧
      (s.setFlag (FP_STATUS_REFUSED ((k - 0x10000) / 0x100)) true).rd k = s.rd k ∧
      Fr [] [FP_STATUS ((k - 0x10000) / 0x100)] s (s.setFlag (FP_STATUS_REFUSED ((k - 0x10000) / 0x100)) true) := by
  refine ⟨State.flag_setFlag_self _ _ (show 9 + 1 ≤ 32 by decide) rfl true, State.rd_set_ne s ?_ _,
    fr_setFlag (f := FP_STATUS_REFUSED _) (Fr.refl _ _ s) (List.mem_singleton_self _) true⟩
  show k ≠ 0x10010 + 0x100 * ((k - 0x10000) / 0x100)
  omega

section
variable (hr : Reaches req offset.toNat) (hp : Performs s req offset.toNat true) (ho : s.ownRow req offset.toNat v = none)
include hr hp ho

theorem registerWrite_plain (hpl : PlainReg s offset.toNat) : ∃ t, exec (.registerWrite req offset v) s = .next t ∧
    t.rd offset.toNat = regAfter offset.toNat (s.rd offset.toNat) v ∧ Framed [.cores] [offset.toNat] s t :=
  ⟨_, registerWrite_performs hr hp ho (writeReg_plain req v hpl.coreWaits), by rw [rd_plainWrite, coreWaits_rd],
    coreWaits_then s req (plainWrite_fr _ v (Fr.refl _ _ _) (List.mem_cons_self ..))⟩

theorem registerWrite_counter {f : Fld} (hf : satOf offset.toNat = some f) :
    ∃ t, exec (.registerWrite req offset v) s = .next t ∧ t.rd offset.toNat = 0 ∧ t.flag f = false ∧
      Framed [.cores] [offset.toNat, f.reg] s t := by
  obtain ⟨hrd, hsat, hfr⟩ := countClear_spec (s.coreWaits req none) _ hf
  exact ⟨_, registerWrite_performs hr hp ho (writeReg_counter _ req _ v hf), hrd, hsat, coreWaits_then s req hfr⟩

variable (hc : satOf offset.toNat = none)
include hc

theorem registerWrite_route (hlo : 0x400 ≤ offset.toNat) (hhi : offset.toNat < 0x600) :
    ∃ t, exec (.registerWrite req offset v) s = .next t ∧
      (∀ c, req = .service c → t.bit offset.toNat (2 + c.val) = v.getLsbD (2 + c.val) ∧
        ∀ i, i ≠ 2 + c.val → t.bit offset.toNat i = s.bit offset.toNat i) ∧
      ((∀ c, req ≠ .service c) → t.rd offset.toNat = regAfter offset.toNat (s.rd offset.toNat) v) ∧
      Framed [.cores] [offset.toNat] s t := by
  obtain ⟨hservice, hother, hfr⟩ := writeRoute_spec (s.coreWaits req none) req offset.toNat v
  simp only [coreWaits_bit, coreWaits_rd] at hservice hother
  exact ⟨_, registerWrite_performs hr hp ho (writeReg_route _ req _ v hc hlo hhi), hservice, hother, coreWaits_then s req hfr⟩

theorem registerWrite_rate {top : Nat} (hlo : 0x10000 ≤ offset.toNat) (hhi : offset.toNat < 0x18000)
    (hmod : offset.toNat % 0x100 = 0x0C) (hmax : s.maxRate ((offset.toNat - 0x10000) / 0x100) = some top)
    (htop : top < fldGet v 0 21) :
    ∃ t, exec (.registerWrite req offset v) s = .next t ∧
      t.flag (FP_STATUS_REFUSED ((offset.toNat - 0x10000) / 0x100)) = true ∧ t.rd offset.toNat = s.rd offset.toNat ∧
      Framed [.cores] [FP_STATUS ((offset.toNat - 0x10000) / 0x100)] s t := by
  obtain ⟨hflag, hrd, hfr⟩ := setRefused_spec (s.coreWaits req none) hmod
  rw [coreWaits_rd] at hrd
  have e := (writeReg_rate (s.coreWaits req none) req _ v hc hlo hhi hmod).trans
    (writeRate_refused _ v ((coreWaits_maxRate ..).trans hmax) htop)
  exact ⟨_, registerWrite_performs hr hp ho e, hflag, hrd, coreWaits_then s req hfr⟩

theorem registerWrite_queCount {x : Queue} (hlo : 0x100000 ≤ offset.toNat) (hhi : offset.toNat < 0x120000)
    (hmod : offset.toNat % 0x10 = 4) (hx : s.queue ((offset.toNat - 0x100000) / 0x10) = some x) :
    ∃ t, exec (.registerWrite req offset v) s = .next t ∧
      t.queue ((offset.toNat - 0x100000) / 0x10) = some { x with ue := x.ue && !v.getLsbD 20 } ∧
      (∀ p, p ≠ (offset.toNat - 0x100000) / 0x10 → t.queue p = s.queue p) ∧ Framed [.cores, .que] [] s t := by
  obtain ⟨hq, hothers, hfr⟩ := writeQueCount_spec (s.coreWaits req none) v ((coreWaits_queue s req none _).trans hx)
  simp only [coreWaits_queue] at hothers
  exact ⟨_, registerWrite_performs hr hp ho (writeReg_queCount _ req _ v hc hlo hhi hmod), hq, hothers,
    coreWaits_then s req hfr⟩

theorem registerWrite_held (hring : s.ringHeld offset.toNat = true) :
    ∃ t, exec (.registerWrite req offset v) s = .next t ∧ Framed [.cores] [] s t :=
  ⟨_, registerWrite_performs hr hp ho (writeReg_held _ req _ v hc ((coreWaits_ringHeld ..).trans hring)),
    coreWaits_then s req (Fr.refl _ _ _)⟩

end

/-! ### COUNTER_CLEAR, RC_READ and LOW_WORD_READ (R8, R33, R38) -/

theorem counterClear_performs (hp : Performs s req offset.toNat true) {f : Fld} (hf : satOf offset.toNat = some f) :
    ∃ t, exec (.counterClear req offset) s = .next t ∧ t.rd offset.toNat = 0 ∧ t.flag f = false ∧
      Framed [.cores] [offset.toNat, f.reg] s t := by
  obtain ⟨hrd, hsat, hfr⟩ := countClear_spec (s.coreWaits req none) _ hf
  have e := next_congr (regWrite_performs hp (fun s => s.countClear offset.toNat))
  exact ⟨_, (if_neg (by rw [hf]; exact Bool.false_ne_true)).trans e, hrd, hsat, coreWaits_then s req hfr⟩

section
variable (hp : Performs s req offset.toNat false)
include hp

theorem rcRead_peek (h : isRC offset.toNat = true) (hpeek : (decide (req = .debug) && !s.flag DBG_ACCESS_SIDE) = true) :
    exec (.rcRead req offset) s = .next (s.emit (.answer req ((s.view offset.toNat).setWidth 64))) :=
  next_congr ((if_pos h).trans (readAnswer_peek h hp hpeek))

theorem rcRead_clears (h : isRC offset.toNat = true) (hpeek : (decide (req = .debug) && !s.flag DBG_ACCESS_SIDE) = false) :
    ∃ t, exec (.rcRead req offset) s = .next t ∧ t.out = s.out ++ [.answer req ((s.view offset.toNat).setWidth 64)] ∧
      (offset.toNat = PMU_RAIL_MIN → Tab.get low0 t.pow.low (s.get PMU_RAIL_SEL_RAIL) = 0xFFFF) ∧
      (offset.toNat = PMU_POWER → t.get PMU_POWER_PEAK = 0) ∧
      (offset.toNat ≠ PMU_RAIL_MIN → offset.toNat ≠ PMU_POWER → t.rd offset.toNat = regReset offset.toNat) ∧
      Framed [.cores, .out, .pow] [offset.toNat] s t := by
  obtain ⟨hmin, hpower, hpacer, hfr⟩ := rcClear_spec (s.coreWaits req none) offset.toNat
  rw [coreWaits_get] at hmin
  have hout : ((s.coreWaits req none).rcClear offset.toNat).out = s.out :=
    (hfr.frame.part .out (by decide)).trans (coreWaits_out ..)
  exact ⟨_, next_congr ((if_pos h).trans (readAnswer_clears h hp hpeek)), congrArg (· ++ _) hout, hmin, hpower, hpacer,
    coreWaits_then s req (emit_fr (hfr.mono (by simp) (List.Subset.refl _)) (by decide) _)⟩

theorem lowWordRead_latches (h : isLowWord offset.toNat = true) :
    ∃ t, exec (.lowWordRead req offset) s = .next t ∧ t.out = s.out ++ [.answer req ((s.view offset.toNat).setWidth 64)] ∧
      Tab.get reg0 t.host.latch (reqNo req) = s.view (offset.toNat + 4) ∧
      (∀ r, r ≠ reqNo req → Tab.get reg0 t.host.latch r = Tab.get reg0 s.host.latch r) ∧
      Framed [.cores, .out, .host] [] s t := by
  refine ⟨_, next_congr ((if_pos h).trans (readAnswer_low h hp)), congrArg (· ++ _) (coreWaits_out s req none), ?_,
    fun r hr => ?_, coreWaits_then s req (emit_fr ((latchHigh_fr _ req _).mono (by simp) (List.Subset.refl _)) (by decide) _)⟩
  · show Tab.get reg0 ((s.coreWaits req none).latchHigh req offset.toNat).host.latch (reqNo req) = _
    rw [latch_latchHigh, if_pos rfl, view_coreWaits s req none (not_debug_of_read (.inl h)).2]
  · show Tab.get reg0 ((s.coreWaits req none).latchHigh req offset.toNat).host.latch r = _
    rw [latch_latchHigh, if_neg hr, coreWaits_host]

end

end

/-! ### BAD_ACCESS (R42, R203) -/

section
variable {s : State} {offset : BitVec 32} {size : Byte} {write : Bool} {data : Word}

theorem badAccess_host (h : s.dev.off = false) :
    exec (.badAccess .host offset size write data) s = .next (s.hostBadAccess offset.toNat size.toNat write data) :=
  next_congr (if_neg (by simp [h]))

theorem badAccess_core (h : s.dev.off = false) {req : Requester} (h1 : req ≠ .host) (h2 : req ≠ .debug) :
    exec (.badAccess req offset size write data) s =
      .next (if coreAccessBad offset.toNat size.toNat = true then s.emit (.busError req) else s) := by
  cases req with
  | host => exact absurd rfl h1
  | debug => exact absurd rfl h2
  | pair b => exact next_congr (if_neg (by simp [h]))
  | service c => exact next_congr (if_neg (by simp [h]))

theorem badAccess_unheard {req : Requester} (h : s.dev.off = true ∨ req = .debug) :
    exec (.badAccess req offset size write data) s = .next s := by
  refine next_congr ?_
  split
  · rfl
  next ho =>
    obtain h | rfl := h
    · exact absurd h ho
    · rfl

/-- A half that is performed only adds to what has been sent. -/
theorem hostHalf_out (s : State) (k : Nat) (v : Reg) : s.out <+: (s.hostHalf k write v).2.out :=
  (State.hostHalf_keeps k write v (Keeps.refl s)).out

/-- A bad access of which neither half is performed. -/
theorem hostBadAccess_neither {k : Nat} (ha : k % 8 = 0) (h1 : hostPerforms k write = false)
    (h2 : hostPerforms (k + 4) write = false) (hl : s.lockedOut .host k = false) :
    s.hostBadAccess k 8 write data = (s.badAccess k 8 write).hostAnswer write 0 := by
  have h0 : (0 : Reg).setWidth 64 ||| (0 : Reg).setWidth 64 <<< 32 = (0 : Word) := by decide
  rw [hostBadAccess_halves s data ha (by simp [h1]) hl,
    hostHalves_eq (hostHalf_not_performed s h1 _) (hostHalf_not_performed s h2 _), h0]

/-- A bad access that is a read answers, whichever half is performed. -/
theorem hostBadAccess_answers {k : Nat} (ha : k % 8 = 0)
    (hp : ¬ (hostPerforms k false = true ∧ hostPerforms (k + 4) false = true)) (hl : s.lockedOut .host k = false) :
    ∃ v, .answer .host v ∈ (s.hostBadAccess k 8 false data).out.drop s.out.length := by
  rw [hostBadAccess_halves s data ha hp hl]
  exact ⟨_, mem_hostAnswer (((hostHalf_out s k _).trans (hostHalf_out _ (k + 4) _)).trans (badAccess_fr _ k 8 false).keeps.out)
    rfl _⟩

/-- A bad write of which one half is performed is that half's write, and then the event. -/
theorem hostBadAccess_half {k : Nat} {o : BitVec 32} {v : Reg} (ha : k % 8 = 0) (hl : s.lockedOut .host k = false)
    (h : (hostPerforms k true = true ∧ hostPerforms (k + 4) true = false ∧ o.toNat = k ∧ v = data.setWidth 32) ∨
      (hostPerforms k true = false ∧ hostPerforms (k + 4) true = true ∧ o.toNat = k + 4 ∧ v = (data >>> 32).setWidth 32)) :
    s.hostBadAccess k 8 true data = (s.writeAny .host o.toNat v).badAccess k 8 true := by
  obtain ⟨h1, h2, ho, rfl⟩ | ⟨h1, h2, ho, rfl⟩ := h
  · rw [hostBadAccess_halves s data ha (by simp [h2]) hl,
      hostHalves_eq (hostHalf_write s h1 _) (hostHalf_not_performed _ h2 _), ho]
    rfl
  · rw [hostBadAccess_halves s data ha (by simp [h1]) hl,
      hostHalves_eq (hostHalf_not_performed s h1 _) (hostHalf_write _ h2 _), ho]
    rfl

end

/-! ### HOST_BAD_ACCESS and GATED_ACCESS (R266, R284) -/

/-- An access that breaks the rules of its BAR is noted, any other is none of this row (R284, R285). -/
theorem hostBadAccess_row (s : State) (bar : Fin 3) (offset : BitVec 32) (size : Byte) (write : Bool) :
    exec (.hostBadAccess bar offset size write) s =
      .next (if (if bar.val < 2 then doorbellBad bar.val offset.toNat size.toNat
          else !decide (size = 8 ∧ offset.toNat % 8 = 0 ∨ size = 4 ∧ offset.toNat % 4 = 0)) = true
        then s.hostBad bar.val offset.toNat size.toNat write else s) := by
  refine next_congr ?_
  by_cases hbar : bar.val < 2
  · rw [if_pos hbar, if_neg (fun e : bar.val = 2 ∧ _ => by omega)]
    cases doorbellBad bar.val offset.toNat size.toNat <;> simp [hbar]
  · have h2 : bar.val = 2 := by omega
    rw [if_neg hbar, if_neg (fun e => hbar e.1)]
    by_cases hok : size = 8 ∧ offset.toNat % 8 = 0 ∨ size = 4 ∧ offset.toNat % 4 = 0
    · rw [if_pos ⟨h2, hok⟩, if_neg (by rw [decide_eq_true hok]; exact Bool.false_ne_true)]
    · rw [if_neg (fun e => hok e.2), if_pos (by rw [decide_eq_false hok]; rfl)]

theorem gatedAccess_row {s : State} {req : Requester} {offset : BitVec 32} {size : Byte} {write : Bool}
    (h : s.dev.off = false) (hg : s.gated offset.toNat = true) :
    exec (.gatedAccess req offset size write) s = .next (s.gatedAccess req offset.toNat size.toNat write) :=
  next_congr (if_neg (by simp [h, hg]))

/-! ### The register window (R79, R285) -/

/-- An access to a mat's window is taken at once where the window is empty, and else joins those that wait, up to 16. -/
def State.takeWindow (s : State) (p : Nat) (a : WinAcc) : State :=
  match s.window p with
  | [] => s.serveWindow p [a]
  | l => if l.length < 16 then s.setWindow p (l ++ [a]) else s

section
variable {s : State} {p : Nat} {a : WinAcc}

theorem takeWindow_empty (h : s.window p = []) : s.takeWindow p a = s.serveWindow p [a] := by
  unfold State.takeWindow
  rw [h]

/-- An access to an empty window is handed to a design that serves it. -/
theorem takeWindow_presented (h : s.window p = []) (hserves : s.regchServes p = true) (hpol : s.policyAt p = none) :
    (s.takeWindow p a).flag (gREGCH_BUSY p) = true ∧ (s.takeWindow p a).window p = [a] ∧
      (s.takeWindow p a).out = s.out ++ [.token p (.regch a.write a.word)
        (a.word + 4096 * b2n a.write + 8192 * (if a.write then a.data.toNat else 0))] ∧
      Framed [.host, .out] [(gREGCH_BUSY p).reg] s (s.takeWindow p a) := by
  rw [takeWindow_empty h, serveWindow_presented hserves hpol]
  have hf := setWindow_fr (Fr.refl [.host, .out] [(gREGCH_BUSY p).reg] s) (by decide) p [a]
  exact ⟨flag_setBusy _ p, window_setWindow s p [a], rfl,
    (emit_fr (fr_setFlag hf (List.mem_cons_self ..) true) (by decide) _).frame⟩

/-- An access to an empty window waits while a border policy holds it. -/
theorem takeWindow_held (h : s.window p = []) (hserves : s.regchServes p = true) (hpol : (s.policyAt p).isSome = true) :
    (s.takeWindow p a).window p = [a] ∧ Framed [.host] [] s (s.takeWindow p a) := by
  rw [takeWindow_empty h, serveWindow_held hserves hpol]
  exact ⟨window_setWindow .., (setWindow_fr (Fr.refl _ _ s) (by decide) p _).frame⟩

/-- An access to an empty window that no design serves is answered with all ones. -/
theorem takeWindow_dead (h : s.window p = []) (hdead : s.regchServes p = false) :
    (s.takeWindow p a).out = s.out ++ (if a.write then [] else [.answer .host (a.answer 0xFFFFFFFFFFFFFFFF#64)]) ∧
      (s.takeWindow p a).window p = [] ∧ Framed [.host, .out] [] s (s.takeWindow p a) := by
  rw [takeWindow_empty h, serveWindow_dead_cons s p hdead, serveWindow_nil]
  exact ⟨winAnswer_out s a allOnes, window_setWindow ..,
    (setWindow_fr (winAnswer_fr (Fr.refl _ _ s) a _) (by decide) p []).frame⟩

/-- An access waits behind others. -/
theorem takeWindow_waits (h : s.window p ≠ []) (hl : (s.window p).length < 16) :
    (s.takeWindow p a).window p = s.window p ++ [a] ∧ Framed [.host] [] s (s.takeWindow p a) := by
  have e : s.takeWindow p a = s.setWindow p (s.window p ++ [a]) := by
    unfold State.takeWindow
    split
    next e => exact absurd e h
    next => exact if_pos hl
  rw [e]
  exact ⟨window_setWindow .., (setWindow_fr (Fr.refl _ _ s) (by decide) p _).frame⟩

/-- Behind 16 others an access is not taken. -/
theorem takeWindow_full (hl : 16 ≤ (s.window p).length) : s.takeWindow p a = s := by
  unfold State.takeWindow
  split
  next e => rw [e] at hl; exact absurd hl (by decide)
  next => exact if_neg (by omega)

end

section
variable {s : State} {offset : BitVec 24} {size : Byte} {write : Bool} {data : Word}

/-- A window access that is taken: one of 8 bytes, or a read of 4 (R285). -/
theorem windowAccess_takes {p : Nat} {a : WinAcc} (hp : p = s.physMat (offset.toNat / 0x8000))
    (ha : a = { write := write, word := offset.toNat % 0x8000 / 8, data := data,
                half := if size = 8 then none else some (decide (offset.toNat % 8 = 4)), since := s.time })
    (h : (size = 8 ∧ offset.toNat % 8 = 0) ∨ (size = 4 ∧ offset.toNat % 4 = 0 ∧ write = false)) :
    exec (.windowAccess offset size write data) s = .next (s.takeWindow p a) := by
  subst hp ha
  refine next_congr ?_
  obtain ⟨rfl, h8⟩ | ⟨rfl, h4, rfl⟩ := h
  · exact if_pos ⟨rfl, h8⟩
  · refine (if_neg (fun e => absurd e.1 (by decide))).trans ((if_pos ⟨rfl, h4⟩).trans ?_)
    rfl

/-- A write of 4 bytes is dropped (R285). -/
theorem windowAccess_dropped (hs : size = 4) (h4 : offset.toNat % 4 = 0) (hw : write = true) :
    exec (.windowAccess offset size write data) s = .next s := by
  subst hs hw
  exact next_congr ((if_neg (fun e => absurd e.1 (by decide))).trans (if_pos ⟨rfl, h4⟩))

/-- Any other access is bad. -/
theorem windowAccess_bad (h8 : ¬ (size = 8 ∧ offset.toNat % 8 = 0)) (h4 : ¬ (size = 4 ∧ offset.toNat % 4 = 0)) :
    exec (.windowAccess offset size write data) s = .next (s.hostBad 2 offset.toNat size.toNat write) :=
  next_congr ((if_neg h8).trans (if_neg h4))

end

/-- The access at the front of a mat's window has timed out: it is counted and reported (R79, R92). -/
def State.noteTimeout (s : State) (p : Nat) (a : WinAcc) : State :=
  (s.count (COL_GATE_REGTOS (matCol p) (matG p)) (COL_GATE_SAT_REGTOS (matCol p) (matG p)) 1).raise 0x4205 (srcMat p 0)
    [(18, 4, 8 * a.word), (22, 1, b2n a.write)]

section
variable (s : State) (p : Nat) (a : WinAcc)

theorem sameGate_noteTimeout : SameGate p s (s.noteTimeout p a) :=
  (sameGate_count s p).trans (sameGate_raise _ p (by decide) _ _)

theorem noteTimeout_fr : Fr evParts (COL_GATE_REGTOS (matCol p) (matG p) ::
    (COL_GATE_SAT_REGTOS (matCol p) (matG p)).reg :: bookKeys) s (s.noteTimeout p a) :=
  (fr_count (Fr.refl _ _ s) (by simp) (by simp) 1).trans ((raise_fr _ _ _ _).mono (List.Subset.refl _) (by simp))

theorem rd_noteTimeout : ((s.noteTimeout p a).rd (COL_GATE_REGTOS (matCol p) (matG p))).toNat =
    min 0xFFFFFFFF ((s.rd (COL_GATE_REGTOS (matCol p) (matG p))).toNat + 1) := by
  obtain ⟨hr, hs, -⟩ := regtos_reg p
  rw [State.noteTimeout, State.rd_raise _ _ _ _ (not_mem_bookKeys (by omega)), rd_count s _ 1 (by omega) (by decide)]

/-- What becomes of a mat's window when the access at the front has timed out. -/
theorem timedOut_spec {a : WinAcc} {l : List WinAcc} (hw : s.window p = a :: l) :
    WindowGoesOn s ((s.noteTimeout p a).endWindow p allOnes) p l ∧
      (((s.noteTimeout p a).endWindow p allOnes).rd (COL_GATE_REGTOS (matCol p) (matG p))).toNat =
        min 0xFFFFFFFF ((s.rd (COL_GATE_REGTOS (matCol p) (matG p))).toNat + 1) ∧
      (a.write = false → .answer .host (a.answer allOnes) ∈ ((s.noteTimeout p a).endWindow p allOnes).out.drop s.out.length) ∧
      Framed (.host :: evParts) ((gREGCH_BUSY p).reg :: COL_GATE_REGTOS (matCol p) (matG p) ::
        (COL_GATE_SAT_REGTOS (matCol p) (matG p)).reg :: bookKeys) s ((s.noteTimeout p a).endWindow p allOnes) := by
  obtain ⟨hr, hs, hb⟩ := regtos_reg p
  have hn := noteTimeout_fr s p a
  have hw' : (s.noteTimeout p a).window p = a :: l := by
    rw [← hw]
    unfold State.window State.noteTimeout
    rw [State.raise_host_window, State.count_host]
  obtain ⟨hgo, hout, -, hfr⟩ := endWindow_spec hw' allOnes
  refine ⟨hgo.of_sameGate (sameGate_noteTimeout s p a) (hn.frame.part .time (by decide)), ?_, fun ha => ?_, ?_⟩
  · rw [hfr.frame.reg _ (by rw [List.mem_singleton]; omega), rd_noteTimeout]
  · rw [ha] at hout
    obtain ⟨l1, h1⟩ := hn.keeps.out
    obtain ⟨l2, h2⟩ := hout
    rw [← h2, ← h1, List.append_assoc, List.append_assoc, List.drop_left]
    simp
  · exact ((hn.mono (by simp) (by simp)).trans (hfr.mono (by decide) (by simp))).frame

end

section
variable {s : State} {mat : MatId}

/-- An access that has waited its time ends without the design's answer (R79). -/
theorem regchTimeout_due {a : WinAcc} {l : List WinAcc} (hw : s.window mat.val = a :: l)
    (he : s.elapsed a.since (s.regchLimit mat.val) = true) :
    exec (.regchTimeout mat) s =
      .next ((s.noteTimeout mat.val a).endWindow mat.val allOnes) := by
  show execRegchTimeout mat s = _
  unfold execRegchTimeout
  dsimp only
  rw [hw]
  exact if_pos he

theorem regchTimeout_early {a : WinAcc} {l : List WinAcc} (hw : s.window mat.val = a :: l)
    (he : s.elapsed a.since (s.regchLimit mat.val) = false) : exec (.regchTimeout mat) s = .next s := by
  show execRegchTimeout mat s = _
  unfold execRegchTimeout
  dsimp only
  rw [hw]
  exact if_neg (by simp [he])

theorem regchTimeout_empty (hw : s.window mat.val = []) : exec (.regchTimeout mat) s = .next s := by
  show execRegchTimeout mat s = _
  unfold execRegchTimeout
  dsimp only
  rw [hw]

end

/-- A response that answers no access in progress is discarded (R79). -/
theorem regchResponse_discarded {s : State} {mat : MatId} {v : Word} {late : Bool}
    (h : s.flag (gREGCH_BUSY mat.val) = false ∨ late = true ∨ s.window mat.val = []) :
    exec (.regchResponse mat v late) s = .next s := by
  obtain hb | rfl | hw := h
  · exact next_congr (if_neg (by simp [hb]))
  · exact next_congr (if_neg (by simp))
  · have e : s.endWindow mat.val v = s := by unfold State.endWindow; rw [hw]
    exact next_congr (by rw [e, ite_self])

/-- Settles O44: each row by the laws of its accesses; a performed write by `writeReg`'s law for the kind of its register, a read
by `readReg`'s, a window access by what `serveWindow` and `endWindow` do. -/
theorem registerAccessesComplete : Obligations.RegisterAccessesComplete := by
  refine ⟨?write, fun s req offset => ⟨fun f hp hf => counterClear_performs hp hf, fun h => if_pos (by rw [h]; rfl)⟩, ?read,
    ?noRead, ?bad, ?hostBad, ?gated, ?window, ?response, ?timeout⟩
  case write =>
    rintro s req offset v _ rfl
    refine ⟨fun h => next_congr (writeAny_off s req _ v h), fun h hb => ?_, fun h h1 h2 h3 h4 => ?_⟩
    · obtain ⟨hlow, hhigh, hdbg, hcore⟩ := writeAny_refused s req _ v h hb
      exact ⟨_, rfl, fun e hk => by rw [hlow e hk]; exact ⟨badAccess_seq .., (badAccess_fr ..).frame⟩, hhigh, hdbg, hcore⟩
    · have hr : Reaches req offset.toNat := ⟨h1, h2, h3, h4⟩
      refine ⟨fun t ho => next_congr (writeAny_ownRow s v hr h ho), fun ho hl => ?_, fun ho hp => ⟨?_, ?_, ?_, ?_, ?_, ?_⟩⟩
      · exact next_congr ((writeAny_regWrite s v hr h ho).trans (regAccess_lockedOut s req _ h hl _))
      · intro hc hroute hgpio hextl hrate howner hcount hring
        exact registerWrite_plain hr hp ho ⟨hc, hroute, hgpio, hextl, hrate, howner, hcount, hring⟩
      · exact fun f hf => registerWrite_counter hr hp ho hf
      · exact registerWrite_route hr hp ho
      · exact fun top hc => registerWrite_rate hr hp ho hc
      · exact fun x hc => registerWrite_queCount hr hp ho hc
      · exact registerWrite_held hr hp ho
  case read =>
    refine fun s req offset peek hpeek hp => ⟨fun h => ?_, lowWordRead_latches hp⟩
    cases peek with
    | true => exact ⟨_, rcRead_peek hp h hpeek.symm, rfl, fun _ => (emit_fr (Fr.refl _ _ s) (by decide) _).frame, nofun⟩
    | false =>
      obtain ⟨t, ht, hout, hspec⟩ := rcRead_clears hp h hpeek.symm
      exact ⟨t, ht, hout, nofun, fun _ => hspec⟩
  case noRead =>
    refine fun s req offset => ⟨fun h => next_congr (if_neg (by simp [h])), fun h => next_congr (if_neg (by simp [h])),
      fun h => ?_, fun h hl => ⟨fun hk => ?_, fun hk => ?_⟩⟩
    · have e : s.readAnswer req offset.toNat = s := regAccess_off s req _ h _
      exact ⟨next_congr (by rw [e, ite_self]), next_congr (by rw [e, ite_self])⟩
    · exact next_congr ((if_pos hk).trans (regAccess_lockedOut s req _ h hl _))
    · exact next_congr ((if_pos hk).trans (regAccess_lockedOut s req _ h hl _))
  case bad =>
    rintro s req offset size write data _ _ rfl rfl
    refine ⟨badAccess_unheard, ?_, fun h h1 h2 => badAccess_core h h1 h2⟩
    rintro h rfl
    rw [badAccess_host h]
    refine ⟨fun hb => ?_, fun hn ha h1 h2 => ?_, fun hn ha h1 h2 hl => ?_, fun hn ha hp => ⟨fun hl => ?_, fun hl hw => ?_⟩,
      fun u o v hn ha hw hl hhalf hu => ?_⟩
    · rw [hostBadAccess_ignored s data hb]
      exact ⟨_, rfl, badAccess_answered ..⟩
    · rw [hostBadAccess_performed s data hn ha h1 h2]
    · rw [hn, hostBadAccess_neither ha h1 h2 hl]
      exact ⟨_, rfl, badAccess_answered ..⟩
    · rw [hn, hostBadAccess_held s data ha hp hl]
    · subst hw
      rw [hn]
      obtain ⟨v, hv⟩ := hostBadAccess_answers ha hp hl
      exact ⟨_, v, rfl, hv⟩
    · subst hw
      have e : u = s.writeAny .host o.toNat v := (Host.Outcome.next.inj hu).symm
      rw [hn, hostBadAccess_half ha hl hhalf, ← e]
      exact ⟨_, rfl, badAccess_seq .., (badAccess_fr ..).frame⟩
  case hostBad =>
    intro s bar offset size write bad hbad
    rw [hostBadAccess_row, ← hbad]
    exact ⟨fun hb => ⟨_, next_congr (if_pos hb), hostBad_spec ..⟩, fun hb => next_congr (if_neg (by simp [hb]))⟩
  case gated =>
    refine fun s req offset size write => ⟨fun h => next_congr (if_pos h), fun h hg => ?_⟩
    rw [gatedAccess_row h hg]
    refine ⟨?_, ?_, fun h1 h2 => next_congr (gatedAccess_core s h1 h2 ..)⟩
    · rintro rfl
      exact ⟨_, rfl, gatedAccess_host ..⟩
    · rintro rfl
      rfl
  case window =>
    intro s offset size write data p a hp ha
    refine ⟨fun hs => ?_, windowAccess_dropped, fun h8 h4 => ⟨_, windowAccess_bad h8 h4, hostBad_spec ..⟩⟩
    have haw : write = a.write := by rw [ha]
    have had : data = a.data := by rw [ha]
    rw [windowAccess_takes hp ha hs, haw, had]
    exact ⟨fun hw hserves hpol => ⟨_, rfl, takeWindow_presented hw hserves hpol⟩,
      fun hw hserves hpol => ⟨_, rfl, takeWindow_held hw hserves hpol⟩, fun hw hdead => ⟨_, rfl, takeWindow_dead hw hdead⟩,
      fun hw hl => ⟨_, rfl, takeWindow_waits hw hl⟩, fun hl => next_congr (takeWindow_full hl)⟩
  case response =>
    refine fun s mat v late => ⟨regchResponse_discarded, fun a l hb hw => ?_⟩
    obtain ⟨hgo, hout, hlast, hfr⟩ := endWindow_spec hw v
    exact ⟨_, next_congr (if_pos ⟨hb, rfl⟩), hgo, hout, hlast, hfr.frame⟩
  case timeout =>
    refine fun s mat => ⟨regchTimeout_empty, fun a l hw => ⟨regchTimeout_early hw, fun he => ?_⟩⟩
    exact ⟨_, regchTimeout_due hw he, timedOut_spec s mat.val hw⟩

end Sys2Proof.Machine
end

section
/-! SUPPORT.  A step runs the command at the front of the queue (log entries 1 and 30). -/

namespace Sys2Proof.Machine

open Sys2Proof

/-- Settles O1: the two cases of `step`. -/
theorem stepTakesFrontCommand : Obligations.StepTakesFrontCommand := by
  refine ⟨fun c rest s h => ?_, fun s h => ?_⟩ <;> unfold step <;> rw [h]

end Sys2Proof.Machine
end

section
/-! SUPPORT.  An event on its way to the rings, the event router and the field book (R32, R297, R488, R505, R508). -/

namespace Sys2Proof.Machine

open Sys2Proof

/-- What the delivery of an event to rings, cores and messages may change. -/
def deliverParts : List Part := [.ev, .rings, .csr, .tcm, .out]

/-- The counter of dropped copies (R297). -/
def deliverKeys : List Nat := [HIF_EVDROPS, HIF_SAT_EVDROPS.reg]

section
variable {s0 s : State}

theorem setRing_delivers (n : Nat) (r : Ring) (h : Fr deliverParts deliverKeys s0 s) :
    Fr deliverParts deliverKeys s0 (s.setRing n r) := fr_mk h (State.setRing_keeps _ _ h.keeps) rfl

theorem emit_delivers (o : Out) (h : Fr deliverParts deliverKeys s0 s) : Fr deliverParts deliverKeys s0 (s.emit o) :=
  emit_fr h (by decide) o

theorem ringMsg_delivers (n : Nat) (h : Fr deliverParts deliverKeys s0 s) : Fr deliverParts deliverKeys s0 (s.ringMsg n) :=
  fr_ite (emit_delivers _ (setRing_delivers _ _ h)) (setRing_delivers _ _ h)

theorem ringSignal_delivers (n : Nat) (h : Fr deliverParts deliverKeys s0 s) :
    Fr deliverParts deliverKeys s0 (s.ringSignal n) :=
  fr_ite (ringMsg_delivers _ (setRing_delivers _ _ h)) (setRing_delivers _ _ h)

theorem produce_delivers (n size : Nat) (b : List Byte) (h : Fr deliverParts deliverKeys s0 s) :
    Fr deliverParts deliverKeys s0 (s.produce n size b) :=
  ringSignal_delivers _ (emit_delivers _ (setRing_delivers _ _ (emit_delivers _ h)))

theorem toEventRing_delivers (e : Event) (n : Nat) (h : Fr deliverParts deliverKeys s0 s) :
    Fr deliverParts deliverKeys s0 (State.toEventRing e s n) :=
  fr_ite (fr_ite (fr_count h (by decide) (by decide) 1) (produce_delivers n 32 _ h)) h

theorem assertSource_delivers (src : Nat) (h : Fr deliverParts deliverKeys s0 s) :
    Fr deliverParts deliverKeys s0 (s.assertSource src) := by
  unfold State.assertSource
  refine fr_ite (emit_delivers _ ?_) ?_ <;> exact fr_mk h (by simp [h.keeps]) rfl

theorem setCsr_delivers (c n : Nat) (v : Word) (h : Fr deliverParts deliverKeys s0 s) :
    Fr deliverParts deliverKeys s0 (s.setCsr c n v) := fr_mk h (State.setCsr_keeps _ _ _ h.keeps) rfl

theorem toCoreRing_delivers (e : Event) (target : Nat) (h : Fr deliverParts deliverKeys s0 s) :
    Fr deliverParts deliverKeys s0 (State.toCoreRing e s target) := by
  unfold State.toCoreRing
  exact fr_ite h (fr_ite h (setCsr_delivers _ _ _ (fr_mk h (by simp (contextual := true) [h.keeps, putBytes_wf]) rfl)))

end

/-- The record that an event makes (R28, R32). -/
def State.eventRecord (s : State) (code src status : Nat) (data : BitVec 112) : Event :=
  { time := s.time, source := BitVec.ofNat 16 src, code := BitVec.ofNat 16 code, seq := s.ev.seq,
    status := BitVec.ofNat 8 status, data := data }

/-- An event that is severe enough for the field book and triggers no commit is delivered and then taken into the ring. -/
theorem raiseRaw_taken (s : State) {code : Nat} (src status : Nat) (data : BitVec 112) (hc : evSeverity code ≠ 3)
    (hm : s.get FBK_CTL_MIN_SEV ≤ evSeverity code) :
    ∃ t, Fr deliverParts deliverKeys s t ∧
      s.raiseRaw code src status data none = t.fbTake (s.eventRecord code src status data) := by
  unfold State.raiseRaw
  rw [if_neg hc]
  lift_lets
  intro e v a b g c d
  have ha : Fr deliverParts deliverKeys s a := fr_mk (Fr.refl _ _ s) ⟨rfl, List.prefix_rfl, Nat.le_refl _, rfl, rfl, id⟩ rfl
  have hb : Fr deliverParts deliverKeys s b := fr_foldl ha (fun t n ht => toEventRing_delivers e n ht) _
  have hcs : Fr deliverParts deliverKeys s c := fr_ite (assertSource_delivers g hb) hb
  have hd : Fr deliverParts deliverKeys s d :=
    fr_ite (fr_foldl hcs (fun t n ht => fr_ite (toCoreRing_delivers e n ht) ht) _) hcs
  have hsev : d.get FBK_CTL_MIN_SEV ≤ evSeverity code := by
    have hr := hd.frame.reg FBK_CTL_MIN_SEV.reg (by decide)
    unfold State.get at hm ⊢
    rw [hr]
    exact hm
  exact ⟨d, hd, if_pos (.inl hsev)⟩

/-- The field-book ring takes an event as its newest entry, and drops its oldest when it is full (R488). -/
theorem fbTake_ring (s : State) (e : Event) :
    (s.fbTake e).fb.ring = if 4096 < s.fb.ring.length + 1 then s.fb.ring.drop 1 ++ [e] else s.fb.ring ++ [e] := by
  show (if 4096 < (s.fb.ring ++ [e]).length then (s.fb.ring ++ [e]).drop 1 else s.fb.ring ++ [e]) = _
  rw [List.length_append, List.length_singleton]
  split
  next h => rw [List.drop_append_of_le_length (by omega)]
  next => rfl

/-- Settles O8: the counter by `raiseRaw_seq`, the ring by `raiseRaw_taken`, the frame by `raiseRaw_books`. -/
theorem eventIsRecorded : Obligations.EventIsRecorded := by
  intro s code src status data _ hsev hmin
  refine ⟨raiseRaw_seq .., ⟨s.eventRecord code src status data, rfl, rfl, rfl, rfl, rfl, rfl, ?_⟩, ?_⟩
  · obtain ⟨t, ht, e⟩ := raiseRaw_taken s src status data (by omega) hmin
    have hring : t.fb.ring = s.fb.ring := (ht.frame.part .fbRing (by decide)).1
    rw [e, fbTake_ring, hring]
  · exact (fr_books (Fr.refl _ _ s) (raiseRaw_books _ _ _ _ _ (Books.refl s)) (List.Subset.refl _) (List.Subset.refl _)).frame

end Sys2Proof.Machine
end

section
/-! SUPPORT.  Pins: what settling a pin after a change of its control may write (R332). -/

namespace Sys2Proof.Machine

open Sys2Proof

theorem pinLevelFld_mem (v : Nat) : (pinLevelFld v).reg ∈ pinKeys v := by
  unfold pinLevelFld pinKeys
  split <;> simp

/-- Settling a pin writes only the registers that show its level and control. -/
theorem settlePin_fr (s : State) (v : Nat) : Fr [] (pinKeys v) s (s.settlePin v) := by
  unfold State.settlePin
  extract_lets o t w
  have hw : Fr [] (pinKeys v) s w := by
    show Fr [] (pinKeys v) s (if v < 256 then _ else _)
    split
    next hv =>
      have hk : FP_STATUS (v / 2) ∈ pinKeys v := by simp [pinKeys, hv]
      exact fr_setFlag (f := FP_STATUS_KEEP (v / 2)) (fr_setFlag (f := FP_STATUS_CHARTER (v / 2)) (Fr.refl _ _ s) hk _) hk _
    next hv =>
      have hk : GPIO_OWNER (v - 256) ∈ pinKeys v := by simp [pinKeys, hv]
      exact fr_setFlag (f := GPIO_OWNER_CHARTER (v - 256)) (Fr.refl _ _ s) hk _
  split
  · exact fr_setFlag hw (pinLevelFld_mem v) _
  · exact hw
  · exact fr_setFlag hw (pinLevelFld_mem v) _

/-- The registers of the pins lie in the blocks GPIO and FP. -/
theorem le_of_mem_pinKeys {v k : Nat} (h : k ∈ pinKeys v) : 0xA000 ≤ k := by
  unfold pinKeys at h
  split at h <;> simp only [List.mem_cons, List.not_mem_nil, or_false] at h
  · rw [h]; unfold FP_STATUS; omega
  · rcases h with h | h <;> rw [h]
    · unfold GPIO_OWNER; omega
    · unfold GPIO_IN; omega

theorem lt_of_mem_pinKeys {v k : Nat} (hv : v < 352) (h : k ∈ pinKeys v) : k < 0x18000 := by
  unfold pinKeys at h
  split at h <;> simp only [List.mem_cons, List.not_mem_nil, or_false] at h
  · rw [h]; unfold FP_STATUS; omega
  · rcases h with h | h <;> rw [h]
    · unfold GPIO_OWNER; omega
    · unfold GPIO_IN; omega

/-- The pin that a GATE station's action drives is one of the 352. -/
theorem gatePin_lt (s : State) (st : Nat) : (s.stationPin st).getD (256 + s.get (TAL_ST_PIN_PIN st) % 96) < 352 := by
  unfold State.stationPin
  split
  · show 256 + _ % 96 < 352
    omega
  · have h : s.get (TAL_ST_PIN_PIN_B st) < 2 ^ 1 := BitVec.isLt _
    show 2 * (_ % 128) + _ < 352
    omega

end Sys2Proof.Machine
end

section
/-! SUPPORT.  Tallies: BIRTH draws a track's ids in order and never 0 (R37, R230, R235). -/

namespace Sys2Proof.Machine

open Sys2Proof

/-! ### The stimulus buffer -/

/-- Where no committed token waits, taking a stimulus off its buffer does nothing else (R229). -/
theorem popStim_of_committed_nil {s : State} (h : s.tal.committed = []) (e : Nat) :
    s.popStim e = { s with tal := { s.tal with
      stims := Tab.put slist0 s.tal.stims e ((Tab.get slist0 s.tal.stims e).drop 1) } } := by
  unfold State.popStim State.applyWaiting
  dsimp only
  rw [h]
  rfl

theorem birth_row {s : State} {e : EngineId} {x : Stim} {l : List Stim} (hx : Tab.get slist0 s.tal.stims e.val = x :: l)
    (hk : fldGet x.cfg 0 3 = 1) : exec (.birth e) s = .next ((s.popStim e.val).birth x) := by
  show execBirth e s = _
  unfold execBirth
  rw [hx]
  exact if_pos hk

/-! ### A track's list of tallies and its next id -/

/-- A track's live tallies and its next id. -/
def State.roll (s : State) (t : Nat) : List Tally × Reg := (s.tallies t, s.rd (TAL_TRK_NEXTID t))

theorem roll_congr {s u : State} {t : Nat} (h : u.tal.tallies = s.tal.tallies)
    (hr : u.rd (TAL_TRK_NEXTID t) = s.rd (TAL_TRK_NEXTID t)) : u.roll t = s.roll t := by
  unfold State.roll State.tallies
  rw [h, hr]

theorem nextId_not_book (t : Nat) : TAL_TRK_NEXTID t ∉ bookKeys := not_mem_bookKeys (by unfold TAL_TRK_NEXTID; omega)

/-- A counter of a track is not its next id. -/
theorem rd_trackCount (s : State) (t i : Nat) : (s.trackCount t i).rd (TAL_TRK_NEXTID t) = s.rd (TAL_TRK_NEXTID t) := by
  refine (fr_count (Fr.refl [] [TAL_TRK_CNT t i, TAL_TRK_SAT t] s) (by simp) (by simp) 1).frame.reg _ ?_
  simp only [List.mem_cons, List.not_mem_nil, or_false, TAL_TRK_NEXTID, TAL_TRK_CNT, TAL_TRK_SAT]
  omega

theorem trackCount_roll (s : State) (t i : Nat) : (s.trackCount t i).roll t = s.roll t :=
  roll_congr (by rw [State.trackCount, State.count_tal]) (rd_trackCount s t i)

theorem raiseLim_roll (s : State) (t code src : Nat) (data : List (Nat × Nat × Nat)) :
    (s.raiseLim code src data).roll t = s.roll t :=
  roll_congr (by rw [State.raiseLim_tal]) (State.rd_raiseLim s code src data (nextId_not_book t))

theorem raiseSt_roll (s : State) (t code src status : Nat) (data : List (Nat × Nat × Nat)) :
    (s.raiseSt code src status data).roll t = s.roll t :=
  roll_congr (by rw [State.raiseSt_tal]) (State.rd_raiseSt s code src status data (nextId_not_book t))

theorem settlePin_roll (s : State) (t : Nat) {v : Nat} (hv : v < 352) : (s.settlePin v).roll t = s.roll t := by
  have h := (settlePin_fr s v).frame
  refine roll_congr (congrArg TalState.tallies (h.part .tal (by decide))) (h.reg _ fun hk => ?_)
  have := lt_of_mem_pinKeys hv hk
  unfold TAL_TRK_NEXTID at this
  omega

/-- An update of a tally that is not there. -/
theorem updTally_absent {s : State} {t id : Nat} (h : ∀ z ∈ (s.roll t).1, z.id.toNat ≠ id) (f : Tally → Tally) :
    (s.updTally t id f).roll t = s.roll t := by
  have e : (s.tallies t).map (fun x => if x.id.toNat = id then f x else x) = s.tallies t := by
    refine (List.map_congr_left fun z hz => ?_).trans (List.map_id _)
    exact if_neg (h z hz)
  unfold State.updTally
  rw [e]
  exact congrArg (·, s.rd _) (Tab.get_put_self ..)

/-- An action missed for no tally. -/
theorem actMissed_absent {s : State} {t id : Nat} (h : ∀ z ∈ (s.roll t).1, z.id.toNat ≠ id) (cause : Nat) :
    (s.actMissed t id cause).roll t = s.roll t := by
  unfold State.actMissed
  rw [raiseLim_roll, trackCount_roll, updTally_absent h]

/-- A gate action scheduled for no tally leaves the track's tallies and its next id (R233, R236). -/
theorem schedule_absent {s : State} {t id : Nat} (h : ∀ z ∈ (s.roll t).1, z.id.toNat ≠ id) (st : Nat) (birth : BitVec 48) :
    (s.schedule t st id birth).roll t = s.roll t := by
  unfold State.schedule
  extract_lets e pulse len pon d u now pin a tal w
  have hu : u.roll t = s.roll t := updTally_absent h _
  have hpin : pin < 352 := gatePin_lt u st
  have hw : w.roll t = s.roll t := hu
  split
  · rw [actMissed_absent (by rwa [hu]), hu]
  · split
    · rw [actMissed_absent (by rwa [hu]), hu]
    · split
      · rw [settlePin_roll _ t hpin, updTally_absent (by rwa [hw]), hw]
      · exact hw

/-! ### BIRTH -/

/-- The id that follows an id (R37). -/
def nextId (i : Reg) : Reg := if i = 0xFFFF_FFFF then 1 else i + 1

theorem nextId_ne_zero (i : Reg) : nextId i ≠ 0 := by
  unfold nextId
  split
  · decide
  · bv_omega

/-- The tally that a stimulus gives birth to (R228, R230). -/
def State.newborn (s : State) (x : Stim) : Tally :=
  { id := s.rd (TAL_TRK_NEXTID x.track), zone := fldGet x.cfg 11 8,
    flags := if s.get (TAL_TRK_CFG_BANK x.track) = 1 then 3 else 1, verdict := 0, meas := List.replicate 8 0,
    birthPos := x.pos - BitVec.ofNat 48 x.offset.toNat, birthTime := s.time, lastUs := 0,
    reached := trackDist (x.pos - BitVec.ofNat 48 x.offset.toNat) (s.trackPos x.track) }

section
variable {s : State} {x : Stim} (h : s.trackFull x.track = false)
include h

theorem birth_of_not_full : s.birth x =
    ((s.wr (TAL_TRK_NEXTID x.track) (nextId (s.rd (TAL_TRK_NEXTID x.track)))).setTallies x.track
      (s.tallies x.track ++ [s.newborn x])).trackCount x.track 0 := by
  unfold State.birth
  rw [if_neg (by simp [h])]
  rfl

theorem birth_tallies (v : Nat) : (s.birth x).tallies v =
    if v = x.track then s.tallies x.track ++ [s.newborn x] else s.tallies v := by
  rw [birth_of_not_full h]
  unfold State.tallies State.trackCount
  rw [State.count_tal]
  exact Tab.get_put ..

theorem birth_nextId : (s.birth x).rd (TAL_TRK_NEXTID x.track) = nextId (s.rd (TAL_TRK_NEXTID x.track)) := by
  rw [birth_of_not_full h, rd_trackCount]
  exact State.rd_wr_self ..

theorem birth_fr : Fr [.tal] [TAL_TRK_NEXTID x.track, TAL_TRK_CNT x.track 0, TAL_TRK_SAT x.track] s (s.birth x) := by
  rw [birth_of_not_full h]
  have hw := fr_wr (k := TAL_TRK_NEXTID x.track)
    (Fr.refl [.tal] [TAL_TRK_NEXTID x.track, TAL_TRK_CNT x.track 0, TAL_TRK_SAT x.track] s) (by simp)
    (nextId (s.rd (TAL_TRK_NEXTID x.track)))
  exact fr_count (fr_mk hw (State.setTallies_keeps _ _ hw.keeps) rfl) (by simp) (by simp) 1

end

/-- A BIRTH on a full track, none of whose tallies has id 0, draws no id and makes no tally (R235, R236). -/
theorem birth_of_full {s : State} {x : Stim} (h : s.trackFull x.track = true) (hz : ∀ z ∈ s.tallies x.track, z.id ≠ 0) :
    (s.birth x).roll x.track = s.roll x.track := by
  unfold State.birth
  rw [if_pos h]
  extract_lets gate u
  have hu : u.roll x.track = s.roll x.track := by
    show State.roll (State.raiseSt _ _ _ _ _) _ = _
    rw [raiseSt_roll, trackCount_roll]
  clear_value u gate
  cases gate with
  | none => exact hu
  | some g =>
    refine (schedule_absent (fun z hm e => ?_) g _).trans hu
    rw [hu] at hm
    exact hz z hm (BitVec.eq_of_toNat_eq e)

/-- At reset every track's next id is 1 (R37, R244). -/
theorem nextId_reset : ∀ t < 64, regReset (TAL_TRK_NEXTID t) = 1 := by decide

/-- Settles O29: `birth_of_not_full` and `birth_of_full`; an id that follows another is not 0 (`nextId_ne_zero`). -/
theorem tallyIdsNeverZero : Obligations.TallyIdsNeverZero := by
  refine ⟨?_, fun t ht => ⟨(rd_reset _).trans (nextId_reset t ht), rfl⟩⟩
  rintro s e x l u hx hk - rfl
  refine ⟨fun hc => ?_, fun hf => ?_, fun hf hz => ?_⟩
  · rw [popStim_of_committed_nil hc]
    refine ⟨rfl, ?_⟩
    dsimp only
    rw [Tab.get_put_self, hx]
    rfl
  · refine ⟨_, (s.popStim e.val).newborn x, birth_row hx hk, ?_, rfl, rfl, rfl, rfl, rfl, birth_nextId hf, fun hn hz => ?_,
      fun v hv => ?_, (birth_fr hf).frame⟩
    · rw [birth_tallies hf, if_pos rfl]
    · rw [birth_nextId hf, birth_tallies hf, if_pos rfl]
      refine ⟨nextId_ne_zero _, fun z hm => ?_⟩
      rcases List.mem_append.1 hm with hm | hm
      · exact hz z hm
      · rw [List.mem_singleton.1 hm]
        exact hn
    · rw [birth_tallies hf, if_neg hv]
  · have hr := birth_of_full hf hz
    exact ⟨_, birth_row hx hk, congrArg Prod.fst hr, congrArg Prod.snd hr⟩

end Sys2Proof.Machine
end

section
/-! SUPPORT.  The tracks, the tallies and their gate actions leave device time and its correction alone (R165, R167, R224). -/

namespace Sys2Proof.Machine

open Sys2Proof

/-- Device time, the pacing with what is left to slew, and what CLK_TIME_STATUS shows. -/
def State.clocked (s : State) : Word × PaceState × Reg := (s.time, s.pace, s.rd CLK_TIME_STATUS)

theorem clocked_iff {s t : State} : t.clocked = s.clocked ↔
    t.time = s.time ∧ t.pace = s.pace ∧ t.rd CLK_TIME_STATUS = s.rd CLK_TIME_STATUS := by
  unfold State.clocked
  rw [Prod.mk.injEq, Prod.mk.injEq]

theorem Fr.clocked {ps : List Part} {ks : List Nat} {s t : State} (h : Fr ps ks s t) (ht : Part.time ∉ ps)
    (hp : Part.pace ∉ ps) (hk : CLK_TIME_STATUS ∉ ks) : t.clocked = s.clocked :=
  clocked_iff.2 ⟨h.frame.part .time ht, h.frame.part .pace hp, h.frame.reg _ hk⟩

theorem clocked_ite {s t u : State} {c : Prop} [Decidable c] (h1 : t.clocked = s.clocked) (h2 : u.clocked = s.clocked) :
    (if c then t else u).clocked = s.clocked := by
  split
  · exact h1
  · exact h2

theorem storePos_clocked (s : State) (t : Nat) (p : BitVec 48) : (s.storePos t p).clocked = s.clocked := by
  refine Fr.clocked (ps := []) (ks := [TAL_TRK_POS_LO t, TAL_TRK_POS_HI t])
    (fr_wr64 (Fr.refl _ _ s) (by simp) (by simp) _) (by decide) (by decide) ?_
  simp only [List.mem_cons, List.not_mem_nil, or_false, CLK_TIME_STATUS, TAL_TRK_POS_LO, TAL_TRK_POS_HI]
  omega

@[simp] theorem trackCount_clocked (s : State) (t i : Nat) : (s.trackCount t i).clocked = s.clocked := by
  refine Fr.clocked (ps := []) (ks := [TAL_TRK_CNT t i, TAL_TRK_SAT t])
    (fr_count (Fr.refl _ _ s) (by simp) (by simp) 1) (by decide) (by decide) ?_
  simp only [List.mem_cons, List.not_mem_nil, or_false, CLK_TIME_STATUS, TAL_TRK_CNT, TAL_TRK_SAT]
  omega

@[simp] theorem settlePin_clocked (s : State) (v : Nat) : (s.settlePin v).clocked = s.clocked := by
  refine (settlePin_fr s v).clocked (by decide) (by decide) fun h => ?_
  have := le_of_mem_pinKeys h
  unfold CLK_TIME_STATUS at this
  omega

@[simp] theorem raiseLim_clocked (s : State) (code src : Nat) (data : List (Nat × Nat × Nat)) :
    (s.raiseLim code src data).clocked = s.clocked :=
  (raiseLim_fr s code src data).clocked (by decide) (by decide) (by decide)

@[simp] theorem updTally_clocked (s : State) (t id : Nat) (f : Tally → Tally) : (s.updTally t id f).clocked = s.clocked := rfl

@[simp] theorem actMissed_clocked (s : State) (t id cause : Nat) : (s.actMissed t id cause).clocked = s.clocked := by
  unfold State.actMissed
  simp

/-- Scheduling a gate action (R233). -/
@[simp] theorem schedule_clocked (s : State) (t st id : Nat) (birth : BitVec 48) :
    (s.schedule t st id birth).clocked = s.clocked := by
  unfold State.schedule
  dsimp only
  split
  · simp
  · split
    · simp
    · split
      · rw [settlePin_clocked, updTally_clocked]
        rfl
      · rfl

/-- A position's step of the gate actions (R233). -/
theorem stepActs_clocked (s : State) (t : Nat) (old new : BitVec 48) (l : List Action) :
    (s.stepActs t old new l).clocked = s.clocked := by
  refine foldl_proj State.clocked (fun u a => ?_) l s
  split
  · rfl
  · split
    next r missed first _ =>
      have missed_ok (v : State) : (if missed then v.actMissed t a.tally 2 else v).clocked = v.clocked :=
        clocked_ite (actMissed_clocked ..) rfl
      have first_ok (v : State) :
          (if first then v.updTally t a.tally (fun x => x.withFlag flACTED) else v).clocked = v.clocked :=
        clocked_ite (updTally_clocked ..) rfl
      dsimp only
      refine clocked_ite ?_ ?_
      · rw [first_ok, missed_ok]
        rfl
      · rw [settlePin_clocked, first_ok, missed_ok]
        rfl

/-- The decision on a tally (R232). -/
@[simp] theorem decideTally_clocked (s : State) (t id : Nat) : (s.decideTally t id).clocked = s.clocked := by
  unfold State.decideTally
  split
  · rfl
  · exact foldl_proj State.clocked (fun u st => schedule_clocked u t st id _) _ _

/-- Records going out (R234). -/
@[simp] theorem drainRecords_clocked (s : State) (e : Nat) (l : List (Nat × Tally)) :
    (s.drainRecords e l).clocked = s.clocked := by
  induction l generalizing s with
  | nil => rfl
  | cons a l ih =>
    obtain ⟨t, x⟩ := a
    unfold State.drainRecords
    dsimp only
    split
    · exact ih s
    · split
      · rfl
      · rw [ih]
        refine foldl_proj State.clocked ?_ _ s
        exact fun _ _ => rfl

@[simp] theorem offerRecord_clocked (s : State) (t : Nat) (x : Tally) : (s.offerRecord t x).clocked = s.clocked := by
  unfold State.offerRecord
  dsimp only
  split
  · rfl
  · split <;> simp

/-- A tally leaves its track (R234). -/
@[simp] theorem removeTally_clocked (s : State) (t id : Nat) (expire : Bool) :
    (s.removeTally t id expire).clocked = s.clocked := by
  unfold State.removeTally
  split
  · rfl
  · dsimp only
    split <;> simp <;> rfl

/-- A note on a tally (R228, R230). -/
@[simp] theorem noteTally_clocked (s : State) (t id : Nat) (cfg : Reg) (v : NoteVal) :
    (s.noteTally t id cfg v).clocked = s.clocked := by
  unfold State.noteTally
  extract_lets kind late u w
  have hw : w.clocked = s.clocked := by
    show State.clocked (if _ then _ else _) = _
    split <;> simp [u]
  clear_value w
  (repeat' split) <;> simp [hw]

/-- The points that a tally reaches (R231). -/
theorem tallyPoints_clocked (s : State) (t : Nat) (new : BitVec 48) (id : Nat) :
    (s.tallyPoints t new id).clocked = s.clocked := by
  unfold State.tallyPoints
  split
  · rfl
  · dsimp only
    refine clocked_ite ((removeTally_clocked ..).trans ?_) ?_ <;>
    · refine (foldl_proj State.clocked ?_ _ _).trans (clocked_ite (decideTally_clocked ..) rfl)
      exact fun u st => clocked_ite ((noteTally_clocked ..).trans (clocked_ite rfl rfl)) rfl

@[simp] theorem moveOne_clocked (s : State) (t : Nat) (new : BitVec 48) : (s.moveOne t new).clocked = s.clocked := by
  unfold State.moveOne
  split
  · rfl
  · dsimp only
    rw [foldl_proj State.clocked (fun u id => tallyPoints_clocked u t new id), stepActs_clocked, storePos_clocked]

@[simp] theorem moveTrack_clocked (s : State) (t : Nat) (new : BitVec 48) : (s.moveTrack t new).clocked = s.clocked := by
  unfold State.moveTrack
  dsimp only
  split
  · exact moveOne_clocked ..
  · refine (foldl_proj State.clocked (fun u i => ?_) _ _).trans (moveOne_clocked s t new)
    split <;> simp

/-- TIME tracks advance with device time and leave it as it is (R224). -/
theorem moveTimeTracks_clocked (s : State) : s.moveTimeTracks.clocked = s.clocked := by
  refine foldl_proj State.clocked (fun u t => ?_) _ s
  split
  · dsimp only
    split <;> simp
  · rfl

/-- A fold whose steps leave its start as it is. -/
theorem foldl_of_fixed {α β : Type} {f : β → α → β} {s : β} {l : List α} (h : ∀ a ∈ l, f s a = s) : l.foldl f s = s := by
  induction l with
  | nil => rfl
  | cons a l ih =>
    rw [List.foldl_cons, h a (List.mem_cons_self ..)]
    exact ih fun b hb => h b (List.mem_cons_of_mem _ hb)

/-- With no track enabled nothing moves with device time. -/
theorem moveTimeTracks_of_off {s : State} (h : ∀ t, t < 64 → s.trackOn t = false) : s.moveTimeTracks = s := by
  refine foldl_of_fixed fun t ht => if_neg fun hon => ?_
  rw [h t (List.mem_range.1 ht)] at hon
  exact Bool.noConfusion hon.2

end Sys2Proof.Machine
end

section
/-! SUPPORT.  The arbiter, completions, slots, pins and swaps neither move device time nor turn VDD_F on, and do not end the
charter of pins that critical put under it (R331, R421). -/

namespace Sys2Proof.Machine

open Sys2Proof

/-- From s to t device time stands, VDD_F stays as it was turned on or off, and the pins put under charter by the critical
temperature (cause 2) stay under it. -/
structure Steady (s t : State) : Prop where
  time : t.time = s.time
  fOff : t.pow.fOff = s.pow.fOff
  barred : ∀ v, (s.pinCause v).getLsbD 2 = true → (t.pinCause v).getLsbD 2 = true

theorem Steady.refl (s : State) : Steady s s := ⟨rfl, rfl, fun _ h => h⟩

theorem Steady.trans {s t u : State} (h : Steady s t) (k : Steady t u) : Steady s u :=
  ⟨k.time.trans h.time, k.fOff.trans h.fOff, fun v hv => k.barred v (h.barred v hv)⟩

section
variable {s0 s : State}

/-- What a steady step keeps as it is, or at least sets no further. -/
def State.steadyView (s : State) : Word × Bool × Tab Byte := (s.time, s.pow.fOff, s.pins.cause)

/-- A change of anything but device time, VDD_F and the causes of charter. -/
theorem steady_mk {t : State} (h : Steady s0 s) (k : t.steadyView = s.steadyView) : Steady s0 t := by
  obtain ⟨ht, hf, hc⟩ : t.time = s.time ∧ t.pow.fOff = s.pow.fOff ∧ t.pins.cause = s.pins.cause := by
    simpa [State.steadyView] using k
  refine h.trans ⟨ht, hf, fun v hv => ?_⟩
  unfold State.pinCause
  rw [hc]
  exact hv

theorem steady_ite {t : State} {c : Prop} [Decidable c] (h1 : Steady s0 s) (h2 : Steady s0 t) :
    Steady s0 (if c then s else t) := by
  split
  · exact h1
  · exact h2

theorem steady_foldl {α : Type} {f : State → α → State} (h : Steady s0 s) (hf : ∀ t a, Steady s0 t → Steady s0 (f t a))
    (l : List α) : Steady s0 (l.foldl f s) := by
  induction l generalizing s with
  | nil => exact h
  | cons a l ih => exact ih (hf s a h)

/-- What leaves time, power and pins alone is steady. -/
theorem steady_fr {ps : List Part} {ks : List Nat} {t : State} (h : Steady s0 s) (k : Fr ps ks s t) (h1 : Part.time ∉ ps)
    (h2 : Part.pow ∉ ps) (h3 : Part.pins ∉ ps) : Steady s0 t :=
  steady_mk h (Prod.ext (k.frame.part .time h1) (Prod.ext (congrArg PowState.fOff (k.frame.part .pow h2))
    (congrArg PinState.cause (k.frame.part .pins h3))))

/-- Book-keeping is steady. -/
theorem steady_books {t : State} (h : Steady s0 s) (k : Books s t) : Steady s0 t :=
  steady_mk h (Prod.ext k.time (Prod.ext (congrArg PowState.fOff k.pow) (congrArg PinState.cause k.pins)))

/-! ### Registers, events, counters and completions -/

theorem set_steady (f : Fld) (x : Nat) (h : Steady s0 s) : Steady s0 (s.set f x) := steady_mk h (by rfl)

theorem setFlag_steady (f : Fld) (b : Bool) (h : Steady s0 s) : Steady s0 (s.setFlag f b) := steady_mk h (by rfl)

theorem emit_steady (o : Out) (h : Steady s0 s) : Steady s0 (s.emit o) := steady_mk h (by rfl)

theorem count_steady (k : Nat) (f : Fld) (n : Nat) (h : Steady s0 s) : Steady s0 (s.count k f n) :=
  steady_mk h (by simp [State.steadyView])

theorem raise_steady (code src : Nat) (data : List (Nat × Nat × Nat)) (h : Steady s0 s) : Steady s0 (s.raise code src data) :=
  steady_books h (raise_books _ _ _ (Books.refl s))

theorem raiseSt_steady (code src status : Nat) (data : List (Nat × Nat × Nat)) (h : Steady s0 s) :
    Steady s0 (s.raiseSt code src status data) := steady_books h (raiseSt_books _ _ _ _ (Books.refl s))

theorem finish_steady (r : CmdRef) (status : Nat) (result : Word) (h : Steady s0 s) :
    Steady s0 (s.finish r status result) := steady_books (steady_mk h (by rfl)) (finish_books s r status result)

theorem finishRef_steady (r : Option CmdRef) (status : Nat) (result : Word) (h : Steady s0 s) :
    Steady s0 (s.finishRef r status result) := by
  cases r with
  | none => exact h
  | some r => exact finish_steady r status result h

/-! ### The arbiter -/

theorem onGrant_steady (t : Task) (h : Steady s0 s) : Steady s0 (s.onGrant t) := by
  cases t <;> exact steady_mk h (by rfl)

theorem grant_steady (a : Act) (h : Steady s0 s) : Steady s0 (s.grant a) :=
  onGrant_steady _ (count_steady _ _ _ (steady_mk h (by rfl)))

theorem grantAll_steady (l : List Act) (h : Steady s0 s) : Steady s0 (s.grantAll l) := by
  induction l generalizing s with
  | nil => exact h
  | cons a l ih => exact ih (steady_ite (grant_steady a h) h)

theorem release_steady (place : Nat) (h : Steady s0 s) : Steady s0 (s.release place) := grantAll_steady _ (steady_mk h (by rfl))

theorem submitRaw_steady (t : Task) (locks : List Lock) (requester resource : Nat) (ref : Option CmdRef) (h : Steady s0 s) :
    Steady s0 (s.submitRaw t locks requester resource ref).1 := by
  unfold State.submitRaw
  split
  · exact h
  · dsimp only
    split <;> dsimp only
    · exact grant_steady _ (steady_mk h (by rfl))
    · exact count_steady _ _ _ (steady_mk h (by rfl))

theorem submit_steady (t : Task) (locks : List Lock) (requester resource : Nat) (ref : Option CmdRef) (h : Steady s0 s) :
    Steady s0 (s.submit t locks requester resource ref).1 := by
  unfold State.submit
  dsimp only
  refine submitRaw_steady _ _ _ _ _ ?_
  split
  · exact raise_steady _ _ _ (count_steady _ _ _ h)
  · exact h

theorem submitOwn_steady (t : Task) (locks : List Lock) (requester resource : Nat) (h : Steady s0 s) :
    Steady s0 (s.submitOwn t locks requester resource) := by
  have k := submit_steady t locks requester resource none h
  unfold State.submitOwn
  split
  next e => rw [e] at k; exact steady_mk k (by rfl)
  next e => rw [e] at k; exact k

/-! ### Submissions made again (R26, R471) -/

theorem startRemap_steady (b : Nat) (h : Steady s0 s) : Steady s0 (s.startRemap b) :=
  steady_ite (submitOwn_steady _ _ _ _ (steady_mk h (by rfl))) (steady_mk h (by rfl))

theorem submitRepair_steady (again : Bool) (t : Task) (locks : List Lock) (requester resource : Nat) (h : Steady s0 s) :
    Steady s0 (s.submitRepair again t locks requester resource) := by
  unfold State.submitRepair
  split
  · exact steady_ite (startRemap_steady _ h) h
  · exact submitOwn_steady _ _ _ _ h

theorem submitAgain_steady (h : Steady s0 s) : Steady s0 s.submitAgain := by
  refine steady_foldl ?_ (fun t x ht => submitRepair_steady _ _ _ _ _ ht) _
  exact steady_mk h (by rfl)

end

theorem submitAgain_time (s : State) : s.submitAgain.time = s.time := (submitAgain_steady (Steady.refl s)).time

/-- With nothing submitted in vain, nothing is submitted again. -/
theorem submitAgain_of_nil {s : State} (h : s.mnt.again = []) : s.submitAgain = s := by
  have e : { s with mnt := { s.mnt with again := [] } } = s := by rw [← h]
  unfold State.submitAgain
  rw [h]
  exact e

end Sys2Proof.Machine
end

section
/-! SUPPORT.  Device time: its ticks (R36, R165, R249) and its corrections (R166, R167). -/

namespace Sys2Proof.Machine

open Sys2Proof

/-! ### What the tests of a correction read -/

/-- Two states show the same in every register behind the block of the clocks. -/
def SameAbove (s t : State) : Prop := ∀ k, 0x7000 ≤ k → t.rd k = s.rd k

theorem Fr.above {ps : List Part} {ks : List Nat} {s t : State} (h : Fr ps ks s t) (hk : ∀ k ∈ ks, k < 0x7000) :
    SameAbove s t := fun k hge => h.frame.reg k fun hm => by
  have := hk k hm
  omega

section
variable {s t : State} (h : SameAbove s t)
include h

theorem SameAbove.get {f : Fld} (hf : 0x7000 ≤ f.reg) : t.get f = s.get f := by
  unfold State.get
  rw [h _ hf]

theorem SameAbove.followsTether : t.followsTether = s.followsTether := by
  have hs (k : Nat) : t.get (TH_STATUS_STATE k) = s.get (TH_STATUS_STATE k) :=
    h.get (by show 0x7000 ≤ TH_STATUS k; unfold TH_STATUS; omega)
  have hr (k : Nat) : t.get (TH_CTL_ROLE k) = s.get (TH_CTL_ROLE k) :=
    h.get (by show 0x7000 ≤ TH_CTL k; unfold TH_CTL; omega)
  unfold State.followsTether State.tetherUp
  simp only [hs, hr]

theorem SameAbove.anyPacer : t.anyPacer = s.anyPacer := by
  have hp (p : Nat) : t.get (PACE_STATUS_STATE p) = s.get (PACE_STATUS_STATE p) :=
    h.get (by show 0x7000 ≤ PACE_STATUS p; unfold PACE_STATUS; omega)
  unfold State.anyPacer State.paceState
  simp only [hp]

theorem SameAbove.trackOn (i : Nat) : t.trackOn i = s.trackOn i := by
  have hle : 0x7000 ≤ TAL_TRK_CFG i := by unfold TAL_TRK_CFG; omega
  have he : t.get (TAL_TRK_CFG_EN i) = s.get (TAL_TRK_CFG_EN i) := h.get hle
  have hs : t.get (TAL_TRK_CFG_SOURCE i) = s.get (TAL_TRK_CFG_SOURCE i) := h.get hle
  unfold State.trackOn State.flag
  rw [he, hs]

end

/-! ### Ticks (R36, R165, R167, R249) -/

section
variable (s : State)

theorem timeTick_off {s : State} (h : s.pace.timeOn = false) : exec .timeTick s = .next s := by
  show execTimeTick s = _
  unfold execTimeTick
  rw [if_pos h]

theorem timeTick_on {s : State} (h : s.pace.timeOn = true) : exec .timeTick s =
    .next ((upto 8).foldl (fun s e => s.drainRecords e (Tab.get nil0 s.tal.recs e)) s.tick.moveTimeTracks).submitAgain := by
  show execTimeTick s = _
  unfold execTimeTick
  rw [if_neg (by simp [h])]

theorem tick_time : s.tick.time = s.time +
    (if 1000000 ≤ s.pace.spread + s.meanPpm then 4
      else if s.pace.slewWait = 0 ∧ s.pace.slew ≠ 0 then (if 0 < s.pace.slew then 4 else 0) else 2) := by
  unfold State.tick
  dsimp only
  split
  · rfl
  · split
    · show (if 0 < s.pace.slew then s.time + 4 else s.time) = _
      split
      · rfl
      · exact (BitVec.add_zero _).symm
    · rfl

/-- What follows a tick leaves device time alone. -/
theorem after_tick_time : ((upto 8).foldl (fun s e => s.drainRecords e (Tab.get nil0 s.tal.recs e))
    s.moveTimeTracks).submitAgain.time = s.time := by
  have h := (foldl_proj State.clocked (fun u e => drainRecords_clocked u e (Tab.get nil0 u.tal.recs e)) (upto 8)
    s.moveTimeTracks).trans (moveTimeTracks_clocked s)
  rw [submitAgain_time]
  exact (clocked_iff.1 h).1

/-- With no record waiting none goes out. -/
theorem drainRecords_of_nil {s : State} (h : s.tal.recs = []) (e : Nat) :
    s.drainRecords e (Tab.get nil0 s.tal.recs e) = s := by
  have k : { s with tal := { s.tal with recs := [] } } = s := by rw [← h]
  rw [h]
  unfold State.drainRecords
  rw [h]
  exact k

/-- Device time after a tick of 2 ns. -/
def State.plainTick : State :=
  { s with time := s.time + 2,
           pace := { s.pace with spread := s.pace.spread + s.meanPpm, slewWait := s.pace.slewWait - 1 } }

theorem plainTick_fr : Fr [.time, .pace] [] s s.plainTick := fr_mk (Fr.refl _ _ s) (by simp [State.plainTick]) rfl

theorem tick_plain {s : State} (hm : s.meanPpm = 0) (hs : s.pace.spread = 0) (hw : s.pace.slew = 0) :
    s.tick = s.plainTick := by
  unfold State.tick
  dsimp only
  rw [if_neg (by omega), if_neg fun h => h.2 hw]
  rfl

/-- A tick when nothing waits for device time. -/
theorem timeTick_plain {s : State} (hon : s.pace.timeOn = true) (hm : s.meanPpm = 0) (hs : s.pace.spread = 0)
    (hw : s.pace.slew = 0) (ht : ∀ t, t < 64 → s.trackOn t = false) (hr : s.tal.recs = []) (ha : s.mnt.again = []) :
    exec .timeTick s = .next s.plainTick := by
  have ht' : ∀ t, t < 64 → s.plainTick.trackOn t = false := fun t hlt =>
    (((plainTick_fr s).above (by decide)).trackOn t).trans (ht t hlt)
  have hr' : s.plainTick.tal.recs = [] := hr
  rw [timeTick_on hon, tick_plain hm hs hw, moveTimeTracks_of_off ht', foldl_of_fixed fun e _ => drainRecords_of_nil hr' e,
    submitAgain_of_nil (s := s.plainTick) ha]

end

/-! ### Corrections (R166, R167) -/

section
variable (s : State) (x : Int)

theorem setSlew_fr : Fr [.pace] [CLK_TIME_STATUS] s (s.setSlew x) := by
  unfold State.setSlew
  refine fr_setFlag (f := CLK_TIME_STATUS_SLEWING) ?_ (by decide) _
  exact fr_mk (Fr.refl _ _ s) (by simp) rfl

theorem setSlew_pace {x : Int} (h : 2 ≤ x.natAbs) : (s.setSlew x).pace = { s.pace with slew := x } := by
  unfold State.setSlew
  rw [if_neg (by omega)]
  rfl

theorem setSlew_flag {x : Int} (h : 2 ≤ x.natAbs) : (s.setSlew x).flag CLK_TIME_STATUS_SLEWING = true := by
  unfold State.setSlew
  rw [if_neg (by omega), State.flag_setFlag_self _ _ (by decide) rfl]
  exact decide_eq_true (by omega)

/-- A correction within the step limit, and any while a pacer is ARMED or RUNNING, is slewed (R167). -/
theorem correctTime_slews {x : Int} (h : x.natAbs ≤ s.get CLK_TIME_CTL_STEP_LIMIT_US * 1000 ∨ s.anyPacer = true) :
    s.correctTime x = s.setSlew x := if_pos h

/-- Another sets device time once (R167). -/
theorem correctTime_steps {x : Int} (h : s.get CLK_TIME_CTL_STEP_LIMIT_US * 1000 < x.natAbs) (hp : s.anyPacer = false) :
    s.correctTime x = s.stepTime x := if_neg (by simp [hp]; omega)

/-- Device time with the correction, and nothing left to slew: where TIME tracks step from (R224). -/
def State.corrected : State := ({ s with time := s.time + BitVec.ofInt 64 x } : State).setSlew 0

theorem corrected_fr : Fr [.time, .pace] [CLK_TIME_STATUS] s (s.corrected x) := by
  refine Fr.trans (t := { s with time := s.time + BitVec.ofInt 64 x }) (fr_mk (Fr.refl _ _ s) (by simp) rfl) ?_
  exact (setSlew_fr _ 0).mono (List.subset_cons_self _ _) (List.Subset.refl _)

theorem stepTime_eq : s.stepTime x =
    ((s.corrected x).moveTimeTracks.setFlag CLK_TIME_STATUS_STEPPED true).raise 0x0507 (srcHif 0) [(18, 8, toBits 64 x)] := rfl

theorem stepTime_time : (s.stepTime x).time = s.time + BitVec.ofInt 64 x := by
  obtain ⟨ht, -, -⟩ := clocked_iff.1 (moveTimeTracks_clocked (s.corrected x))
  rw [stepTime_eq, State.raise_time, State.setFlag_time, ht]
  rfl

theorem stepTime_slew : (s.stepTime x).pace.slew = 0 := by
  obtain ⟨-, hp, -⟩ := clocked_iff.1 (moveTimeTracks_clocked (s.corrected x))
  rw [stepTime_eq, State.raise_pace, State.setFlag_pace, hp]
  rfl

theorem stepTime_stepped : (s.stepTime x).flag CLK_TIME_STATUS_STEPPED = true := by
  rw [stepTime_eq, State.flag_raise _ _ _ _ (by decide)]
  exact State.flag_setFlag_self _ _ (by decide) rfl true

theorem stepTime_slewing : (s.stepTime x).flag CLK_TIME_STATUS_SLEWING = false := by
  obtain ⟨-, -, hr⟩ := clocked_iff.1 (moveTimeTracks_clocked (s.corrected x))
  have hf : (s.corrected x).moveTimeTracks.flag CLK_TIME_STATUS_SLEWING = (s.corrected x).flag CLK_TIME_STATUS_SLEWING := by
    unfold State.flag State.get
    exact congrArg (fun r => decide (fldGet r 1 1 ≠ 0)) hr
  rw [stepTime_eq, State.flag_raise _ _ _ _ (by decide), State.flag_setFlag_apart _ (by decide), hf]
  exact State.flag_setFlag_self _ _ (by decide) rfl false

/-- With no track enabled a step of device time moves nothing else. -/
theorem stepTime_fr {s : State} (h : ∀ t, t < 64 → s.trackOn t = false) :
    Fr (.time :: .pace :: evParts) (CLK_TIME_STATUS :: bookKeys) s (s.stepTime x) := by
  have hc := corrected_fr s x
  have ho : ∀ t, t < 64 → (s.corrected x).trackOn t = false := fun t ht =>
    ((hc.above (by decide)).trackOn t).trans (h t ht)
  rw [stepTime_eq, moveTimeTracks_of_off ho]
  refine Fr.trans (fr_setFlag (hc.mono (by decide) (by decide)) (by decide) true) ((raise_fr _ _ _ _).mono ?_ ?_)
  · decide
  · exact List.subset_cons_self _ _

end

/-! ### CLK_TIME_ADJ -/

/-- A write of CLK_TIME_ADJ by a device that follows no tether corrects device time (R167, R349). -/
theorem timeAdjWrite_performs {s : State} {req : Requester} (v : BitVec 32) (h : Performs s req CLK_TIME_ADJ true)
    (hf : s.followsTether = false) :
    exec (.timeAdjWrite req v) s = .next ((s.coreWaits req none).correctTime v.toInt) := by
  have hw : (s.coreWaits req none).followsTether = false :=
    (((coreWaits_fr s req none).above (by decide)).followsTether).trans hf
  refine next_congr ?_
  rw [regWrite_performs h, if_neg (by simp [hw])]

/-! ### PTM (R166) -/

/-- A PTM exchange has been recorded: its offset, PTM_VALID and its time. -/
def State.ptmNoted (s : State) (offset : Word) : State :=
  ({ s with pace := { s.pace with ptmAt := s.time } }.wr CLK_TIME_OFFSET (satOffset offset)).setFlag
    CLK_TIME_STATUS_PTM_VALID true

section
variable (s : State) (offset : Word)

theorem ptmExchange_on {s : State} (h : s.flag CLK_TIME_CTL_PTM_EN = true) : exec (.ptmExchange offset) s =
    .next (if (s.ptmNoted offset).followsTether then s.ptmNoted offset else
      (s.ptmNoted offset).correctTime offset.toInt) := by
  show execPtmExchange offset s = _
  unfold execPtmExchange
  rw [if_neg (by simp [h])]
  rfl

theorem ptmNoted_fr : Fr [.pace] [CLK_TIME_OFFSET, CLK_TIME_STATUS] s (s.ptmNoted offset) := by
  have h : Fr [.pace] [CLK_TIME_OFFSET, CLK_TIME_STATUS] s { s with pace := { s.pace with ptmAt := s.time } } :=
    fr_mk (Fr.refl _ _ s) (by simp) rfl
  exact fr_setFlag (f := CLK_TIME_STATUS_PTM_VALID) (fr_wr h (by decide) _) (by decide) true

theorem ptmNoted_offset : (s.ptmNoted offset).rd CLK_TIME_OFFSET = satOffset offset :=
  (State.rd_set_ne _ (by decide) _).trans (State.rd_wr_self ..)

theorem ptmNoted_valid : (s.ptmNoted offset).flag CLK_TIME_STATUS_PTM_VALID = true :=
  State.flag_setFlag_self _ CLK_TIME_STATUS_PTM_VALID (by decide) rfl true

theorem ptmNoted_follows : (s.ptmNoted offset).followsTether = s.followsTether :=
  ((ptmNoted_fr s offset).above (by decide)).followsTether

/-- The exchange's offset is corrected by the same rule as before it. -/
theorem ptmNoted_limit {x : Int} (h : x.natAbs ≤ s.get CLK_TIME_CTL_STEP_LIMIT_US * 1000 ∨ s.anyPacer = true) :
    x.natAbs ≤ (s.ptmNoted offset).get CLK_TIME_CTL_STEP_LIMIT_US * 1000 ∨ (s.ptmNoted offset).anyPacer = true := by
  have hr := (ptmNoted_fr s offset).frame.reg CLK_TIME_CTL (by decide)
  have hg : (s.ptmNoted offset).get CLK_TIME_CTL_STEP_LIMIT_US = s.get CLK_TIME_CTL_STEP_LIMIT_US :=
    congrArg (fldGet · 16 16) hr
  rw [hg, ((ptmNoted_fr s offset).above (by decide)).anyPacer]
  exact h

end

/-- PTM_VALID ends when four intervals have passed without an exchange (R166). -/
theorem ptmLost_due {s : State} (h1 : s.flag CLK_TIME_STATUS_PTM_VALID = true)
    (h2 : s.elapsed s.pace.ptmAt (4 * s.ptmInterval) = true) : exec .ptmLost s =
    .next ((s.setFlag CLK_TIME_STATUS_PTM_VALID false).raise 0x4508 (srcHif 0) [(18, 4, (s.rd CLK_TIME_OFFSET).toNat)]) := by
  show execPtmLost s = _
  unfold execPtmLost
  rw [if_pos ⟨h1, h2⟩]

/-- Settles O22: the ticks by `timeTick_plain` and `tick_time`, the corrections by `correctTime_slews` and
`correctTime_steps`. -/
theorem timeMovesAndIsCorrected : Obligations.TimeMovesAndIsCorrected := by
  refine ⟨?tick, ?time, fun s => timeTick_off, ?slews, ?steps, ?follower, ?ptm, ?lost⟩
  case tick =>
    intro s hon hm hs hw ht hr ha
    exact ⟨_, timeTick_plain hon hm hs hw ht hr ha, rfl, hw, rfl, (plainTick_fr s).frame⟩
  case time =>
    intro s hon
    exact ⟨_, timeTick_on hon, (after_tick_time _).trans (tick_time s)⟩
  case slews =>
    intro s req v h hf hl h2
    have hc := coreWaits_fr s req none
    have hl' : v.toInt.natAbs ≤ (s.coreWaits req none).get CLK_TIME_CTL_STEP_LIMIT_US * 1000 ∨
        (s.coreWaits req none).anyPacer = true := by
      rw [coreWaits_get, (hc.above (by decide)).anyPacer]
      exact hl
    refine ⟨_, timeAdjWrite_performs v h hf, ?_⟩
    rw [correctTime_slews _ hl', setSlew_pace _ h2, coreWaits_pace]
    refine ⟨rfl, setSlew_flag _ h2, coreWaits_time .., rfl, Fr.frame ?_⟩
    exact (hc.mono (by decide) (by decide)).trans ((setSlew_fr _ _).mono (by decide) (List.Subset.refl _))
  case steps =>
    intro s req v h hf hl hp
    have hc := coreWaits_fr s req none
    refine ⟨_, timeAdjWrite_performs v h hf, ?_⟩
    rw [correctTime_steps _ (by rwa [coreWaits_get]) ((hc.above (by decide)).anyPacer.trans hp)]
    refine ⟨?_, stepTime_slew .., stepTime_stepped .., stepTime_slewing .., fun ht => Fr.frame ?_⟩
    · rw [stepTime_time, coreWaits_time]
      rfl
    · have ht' : ∀ t, t < 64 → (s.coreWaits req none).trackOn t = false := fun t hlt =>
        ((hc.above (by decide)).trackOn t).trans (ht t hlt)
      exact (hc.mono (by decide) (List.nil_subset _)).trans ((stepTime_fr _ ht').mono (by decide) (List.Subset.refl _))
  case follower =>
    intro s offset hen hf
    refine ⟨_, ptmExchange_on offset hen, ?_⟩
    rw [if_pos ((ptmNoted_follows ..).trans hf)]
    exact ⟨ptmNoted_offset .., ptmNoted_valid .., rfl, (ptmNoted_fr ..).frame⟩
  case ptm =>
    intro s offset hen hf hl h2
    refine ⟨_, ptmExchange_on offset hen, ?_⟩
    rw [if_neg (by simp [ptmNoted_follows, hf]), correctTime_slews _ (ptmNoted_limit s offset hl), setSlew_pace _ h2]
    refine ⟨?_, ?_, rfl, rfl, Fr.frame ?_⟩
    · rw [(setSlew_fr _ _).frame.reg _ (by decide), ptmNoted_offset]
    · exact (State.flag_setFlag_apart _ (by decide) _).trans (ptmNoted_valid ..)
    · exact (ptmNoted_fr s offset).trans ((setSlew_fr _ _).mono (by decide) (by decide))
  case lost =>
    intro s h1 h2
    refine ⟨_, ptmLost_due h1 h2, ?_, Fr.frame ?_⟩
    · rw [State.flag_raise _ _ _ _ (by decide)]
      exact State.flag_setFlag_self _ _ (by decide) rfl false
    · refine Fr.trans (fr_setFlag (Fr.refl _ _ s) (by decide) false) ((raise_fr _ _ _ _).mono (List.Subset.refl _) ?_)
      exact List.subset_cons_self _ _

/-- Settles O23: a tick adds 2 to a number of 64 bits (`timeTick_plain`). -/
theorem deviceTimeWraps : Obligations.DeviceTimeWraps := by
  intro s hon hm hs hw ht hr ha
  have e : (s.time + 2).toNat = (s.time.toNat + 2) % 2 ^ 64 := BitVec.toNat_add ..
  refine ⟨_, timeTick_plain hon hm hs hw ht hr ha, e, fun hwrap => BitVec.eq_of_toNat_eq ?_⟩
  exact e.trans (by rw [hwrap]; rfl)

end Sys2Proof.Machine
end

section
/-! SUPPORT.  The protective actions of the critical temperature and of the power cap (R421): what they abandon is steady, and
the pins stay under charter. -/

namespace Sys2Proof.Machine

open Sys2Proof

section
variable {s0 s : State}

/-! ### Pins -/

theorem settlePin_steady (v : Nat) (h : Steady s0 s) : Steady s0 (s.settlePin v) :=
  steady_fr h (settlePin_fr s v) (by decide) (by decide) (by decide)

/-- A change of a pin's causes that leaves the critical one. -/
theorem setPinCause_steady (v : Nat) (c : Byte) (hc : (s.pinCause v).getLsbD 2 = true → c.getLsbD 2 = true)
    (h : Steady s0 s) : Steady s0 (s.setPinCause v c) := by
  refine h.trans ⟨rfl, rfl, fun w hw => ?_⟩
  have e : (s.setPinCause v c).pinCause w = if w = v then c else s.pinCause w := Tab.get_put ..
  rw [e]
  split
  next hv => exact hc (hv ▸ hw)
  next => exact hw

theorem freePins_steady (m : Nat) (h : Steady s0 s) : Steady s0 (s.freePins m) := by
  refine steady_foldl h (fun t v ht => settlePin_steady _ (setPinCause_steady _ _ (fun hv => ?_) ht)) _
  rw [BitVec.getLsbD_and, hv]
  decide

theorem abandonSurvey_steady (p : Nat) (h : Steady s0 s) : Steady s0 (s.abandonSurvey p) := by
  unfold State.abandonSurvey
  split
  · exact h
  · dsimp only
    split
    · exact release_steady _ (finish_steady _ _ _ (steady_mk h (by rfl)))
    · exact finish_steady _ _ _ (steady_mk h (by rfl))

theorem barPin_steady (i v : Nat) (h : Steady s0 s) : Steady s0 (s.barPin i v) := by
  unfold State.barPin
  dsimp only
  refine settlePin_steady _ (steady_mk (setPinCause_steady _ _ (fun hv => ?_) (steady_ite (abandonSurvey_steady _ h) h)) (by rfl))
  rw [BitVec.getLsbD_or, hv, Bool.true_or]

/-! ### Register windows -/

theorem winAnswer_steady (a : WinAcc) (v : Word) (h : Steady s0 s) : Steady s0 (s.winAnswer a v) :=
  steady_ite h (steady_mk h (by rfl))

theorem serveWindow_steady (p : Nat) (l : List WinAcc) (h : Steady s0 s) : Steady s0 (s.serveWindow p l) := by
  induction l generalizing s with
  | nil => exact steady_mk h (by rfl)
  | cons a l ih => exact steady_ite (ih (winAnswer_steady _ _ h)) (steady_ite (steady_mk h (by rfl)) (steady_mk h (by rfl)))

theorem serveHeld_steady (p : Nat) (h : Steady s0 s) : Steady s0 (s.serveHeld p) := steady_ite h (serveWindow_steady _ _ h)

theorem flushWindows_steady (h : Steady s0 s) : Steady s0 s.flushWindows :=
  steady_foldl h (fun _ _ ht => steady_mk (steady_foldl ht (fun _ _ hu => winAnswer_steady _ _ hu) _) (by rfl)) _

/-! ### Slots -/

theorem showCapHeld_steady (h : Steady s0 s) : Steady s0 s.showCapHeld :=
  steady_ite (steady_mk h (by rfl)) (steady_ite (raise_steady _ _ _ (steady_mk h (by rfl))) (steady_mk h (by rfl)))

theorem raiseToFloor_steady (h : Steady s0 s) : Steady s0 s.raiseToFloor := by
  have hb : Steady s0 s.showBound := showCapHeld_steady (steady_mk h (by rfl))
  unfold State.raiseToFloor
  dsimp only
  split <;> exact steady_ite (steady_mk hb (by rfl)) hb

theorem setSlot_steady (m k : Nat) (x : Slot) (h : Steady s0 s) : Steady s0 (s.setSlot m k x) := steady_mk h (by rfl)

theorem recomputeOwn_steady (m k : Nat) (h : Steady s0 s) : Steady s0 (s.recomputeOwn m k) := by
  unfold State.recomputeOwn
  extract_lets x lanes
  clear_value lanes
  exact steady_mk h (by rfl)

theorem noteFloor_steady (m : Nat) (h : Steady s0 s) : Steady s0 (s.noteFloor m) := by
  unfold State.noteFloor
  exact raiseToFloor_steady (set_steady _ _ h)

theorem emptySlot_steady (m k : Nat) (h : Steady s0 s) : Steady s0 (s.emptySlot m k) := by
  unfold State.emptySlot State.setSlotState
  exact noteFloor_steady _ (set_steady _ _ (set_steady _ _ (recomputeOwn_steady _ _ (setSlot_steady _ _ _ h))))

/-! ### Activities abandoned (R26) -/

theorem unstage_steady (h : Steady s0 s) : Steady s0 s.unstage := steady_mk h (by rfl)

theorem repairAgain_steady (a : Act) (h : Steady s0 s) : Steady s0 (s.repairAgain a) := steady_mk h (by rfl)

theorem blankSlot_steady (k : Nat) (h : Steady s0 s) : Steady s0 (s.blankSlot k) := steady_mk h (by rfl)

theorem failPack_steady (status : Nat) (h : Steady s0 s) : Steady s0 (s.failPack status) := by
  unfold State.failPack
  split
  · exact h
  · refine unstage_steady (finish_steady _ _ _ (steady_foldl ?_ (fun _ _ ht => steady_mk ht (by rfl)) _))
    exact steady_ite (steady_mk h (by rfl)) (steady_mk h (by rfl))

theorem dropRemap_steady (b : Nat) (h : Steady s0 s) : Steady s0 (s.dropRemap b) := by
  unfold State.dropRemap State.freeSpare
  have hb : Steady s0 (if s.get (bankState b) = 1 then s.set (bankState b) 0 else s) := steady_ite (set_steady _ _ h) h
  exact steady_mk hb (by rfl)

theorem dropReloc_steady (r : Reloc) (ref : Option CmdRef) (h : Steady s0 s) : Steady s0 (s.dropReloc r ref) := by
  have hf := steady_foldl h (f := fun s d => (upto 16).foldl (fun s e => s.setEntry d e (lib0 0) false)
    ((upto 4).foldl (fun s k => s.emptySlot d k) s)) (fun _ _ ht => steady_foldl
      (steady_foldl ht (fun _ _ hu => emptySlot_steady _ _ hu) _) (fun _ _ hu => steady_mk hu (by rfl)) _) r.dst
  unfold State.dropReloc
  dsimp only
  split
  · exact finish_steady _ _ _ hf
  · exact steady_mk hf (by rfl)
  · exact hf

theorem endWaitingSurvey_steady (a : Act) (status : Nat) (h : Steady s0 s) : Steady s0 (s.endWaitingSurvey a status) :=
  release_steady _ (finishRef_steady _ _ _ (steady_mk h (by rfl)))

/-- Abandoning an activity is steady. -/
theorem abandonAct_steady (a : Act) (h : Steady s0 s) : Steady s0 (s.abandonAct a) := by
  unfold State.abandonAct
  split
  · exact release_steady _ h
  · exact release_steady _ (finishRef_steady _ _ _ (repairAgain_steady _ (dropRemap_steady _ h)))
  · exact release_steady _ (finishRef_steady _ _ _ (steady_mk h (by rfl)))
  · exact steady_foldl (release_steady _ (dropReloc_steady _ _ h)) (fun _ _ ht => serveHeld_steady _ ht) _
  · exact release_steady _ (finishRef_steady _ _ _ (steady_mk h (by rfl)))
  · exact steady_ite (endWaitingSurvey_steady _ _ h) (abandonSurvey_steady _ h)
  · exact release_steady _ (unstage_steady (finishRef_steady _ _ _ (steady_ite h (blankSlot_steady _ h))))
  · exact release_steady _ (failPack_steady _ h)
  · exact h
  · exact release_steady _ (finishRef_steady _ _ _ (steady_mk h (by rfl)))
  · exact release_steady _ h

theorem dropTraverse_steady (h : Steady s0 s) : Steady s0 s.dropTraverse := by
  refine steady_ite (finishRef_steady _ _ _ (steady_mk (steady_foldl h (fun t a ht => ?_) _) (by rfl))) h
  split
  · exact abandonAct_steady _ ht
  · exact ht

theorem protect_steady (scope : Task → Bool) (h : Steady s0 s) : Steady s0 (s.protect scope) :=
  dropTraverse_steady (steady_foldl h (fun _ _ ht => abandonAct_steady _ ht) _)

/-! ### Swaps, crosier regions and loads that end (R412) -/

theorem setRunning_steady (m : Nat) (h : Steady s0 s) : Steady s0 (s.setRunning m) :=
  steady_ite (steady_mk h (by rfl)) (steady_mk h (by rfl))

theorem resume_steady (mats : List Nat) (h : Steady s0 s) : Steady s0 (s.resume mats) :=
  steady_foldl h (fun _ _ ht => serveHeld_steady _ (setRunning_steady _ (freePins_steady _ ht))) _

theorem refuseWhen2_steady (g : Nat) (h : Steady s0 s) : Steady s0 (s.refuseWhen2 g) :=
  steady_foldl (steady_mk h (by rfl)) (fun _ _ ht => finishRef_steady _ _ _ ht) _

theorem dropSched_steady (g : Nat) (h : Steady s0 s) : Steady s0 (s.dropSched g) := by
  unfold State.dropSched
  dsimp only
  split
  · exact steady_mk h (by rfl)
  · exact refuseWhen2_steady _ (steady_mk h (by rfl))

theorem phaseEnds_steady (g no : Nat) (ok : Bool) (h : Steady s0 s) : Steady s0 (s.phaseEnds g no ok) := by
  unfold State.phaseEnds
  dsimp only
  split
  · exact h
  · exact steady_ite h (steady_ite (steady_ite (dropSched_steady _ h) (steady_mk h (by rfl)))
      (steady_ite (dropSched_steady _ h) (steady_mk h (by rfl))))

theorem reportSwap_steady (g slot trigger : Nat) (ref : Option CmdRef) (retries no status flips ns : Nat)
    (failing : Option Nat) (h : Steady s0 s) :
    Steady s0 (s.reportSwap g slot trigger ref retries no status flips ns failing) := by
  have hr : Steady s0 (if status = stOK then s else
      let (col, layer) := match failing with
        | some q => (matCol q, matLayer q)
        | none => (0, 0)
      s.raiseSt 0x4401 (srcGroup g) status [(18, 1, status), (19, 1, slot), (20, 1, trigger), (21, 1, col),
        (22, 1, layer), (23, 1, retries)]) := steady_ite h (raiseSt_steady _ _ _ _ h)
  exact steady_ite (finishRef_steady _ _ _ h) (steady_ite (phaseEnds_steady _ _ _ hr) hr)

theorem askerRes_steady (asker : Option Nat) (parts : List Nat) (status slot : Nat) (h : Steady s0 s) :
    Steady s0 (s.askerRes asker parts status slot) := by
  unfold State.askerRes
  split
  · exact steady_ite h (steady_mk h (by rfl))
  · exact h

theorem abandonGroup_steady (g : Nat) (r : SwapRun) (status : Nat) (quiet : List (Nat × Nat)) (bad : Option Nat)
    (h : Steady s0 s) : Steady s0 (s.abandonGroup g r status quiet bad) := by
  unfold State.abandonGroup
  dsimp only
  refine reportSwap_steady _ _ _ _ _ _ _ _ _ _ (askerRes_steady _ _ _ _
    (steady_foldl (resume_steady _ (steady_mk h (by rfl))) ?_ _))
  exact fun t m ht => steady_ite (count_steady _ _ _ (steady_mk ht (by rfl))) (steady_mk ht (by rfl))

theorem sendTether_steady (k kind v : Nat) (h : Steady s0 s) : Steady s0 (s.sendTether k kind v) :=
  steady_ite (steady_mk h (by rfl)) h

theorem abandonSwap_steady (g status : Nat) (quiet : Option (List (Nat × Nat))) (bad : Option Nat) (h : Steady s0 s) :
    Steady s0 (s.abandonSwap g status quiet bad) := by
  unfold State.abandonSwap State.leadAbandon
  split
  · exact h
  next r _ =>
    refine abandonGroup_steady _ _ _ _ _ (steady_foldl ?_ (fun _ _ ht => sendTether_steady _ _ _ ht) _)
    split
    · exact sendTether_steady _ _ _ h
    · exact h

theorem checkDone_steady (p : Nat) (h : Steady s0 s) : Steady s0 (s.checkDone p) := steady_ite (steady_mk h (by rfl)) h

theorem checkpoint_steady (m : Nat) (h : Steady s0 s) : Steady s0 (s.checkpoint m) :=
  steady_ite h (steady_foldl h (fun _ _ ht => steady_mk ht (by rfl)) _)

theorem onPacedQueues_steady (p : Nat) (f : Queue → Queue) (h : Steady s0 s) : Steady s0 (s.onPacedQueues p f) := by
  refine steady_foldl h (fun t q ht => ?_) _
  unfold State.updQueue
  split
  · exact steady_mk ht (by rfl)
  · exact ht

theorem boundaryRest_steady (p : Nat) (h : Steady s0 s) : Steady s0 (s.boundaryRest p) := by
  unfold State.boundaryRest
  extract_lets x t u start v w
  have ht : Steady s0 t := steady_foldl h (fun _ _ hz => setRunning_steady _ (checkpoint_steady _ hz)) _
  have hu : Steady s0 u := onPacedQueues_steady _ _ ht
  have hv : Steady s0 v := steady_mk hu (by rfl)
  have hw : Steady s0 w := steady_foldl hv (fun _ _ hz => serveHeld_steady _ hz) _
  clear_value w
  split
  · exact steady_foldl hw (fun _ _ hz => emit_steady _ hz) _
  · exact hw

theorem afterSwap_steady (b : Option Nat) (h : Steady s0 s) : Steady s0 (s.afterSwap b) := by
  unfold State.afterSwap
  split
  · exact steady_ite (checkDone_steady _ (boundaryRest_steady _ h)) h
  · exact h

theorem crosierStatus_steady (c : Crosier) (status : Nat) (h : Steady s0 s) : Steady s0 (s.crosierStatus c status) := by
  unfold State.crosierStatus
  dsimp only
  split
  · exact steady_mk (finishRef_steady _ _ _ h) (by rfl)
  · exact finishRef_steady _ _ _ h

theorem dropCrosier_steady (c : Crosier) (h : Steady s0 s) : Steady s0 (s.dropCrosier c) := steady_mk h (by rfl)

theorem failCrosier_steady (c : Crosier) (h : Steady s0 s) : Steady s0 (s.failCrosier c) := by
  unfold State.failCrosier
  refine steady_ite (dropCrosier_steady _ (crosierStatus_steady _ _ ?_)) (dropCrosier_steady _ h)
  exact steady_foldl h (fun t m ht => raiseSt_steady _ _ _ _ ht) _

theorem failLoad_steady (r : LoadRun) (h : Steady s0 s) : Steady s0 (s.failLoad r) :=
  finish_steady _ _ _ (steady_foldl h (fun _ _ ht => raiseSt_steady _ _ _ _ ht) _)

theorem setLoads_steady (l : List LoadRun) (h : Steady s0 s) : Steady s0 (s.setLoads l) := steady_mk h (by rfl)

theorem endFabricWork_steady (h : Steady s0 s) : Steady s0 s.endFabricWork := by
  unfold State.endFabricWork
  extract_lets t u l
  have ht : Steady s0 t := steady_foldl h (fun _ _ hz => afterSwap_steady _ (abandonSwap_steady _ _ _ _ hz)) _
  have hu : Steady s0 u := steady_foldl ht (fun _ _ hz => failCrosier_steady _ hz) _
  exact steady_foldl (setLoads_steady _ hu) (fun _ _ hz => failLoad_steady _ hz) _

theorem nullAll_steady (h : Steady s0 s) : Steady s0 s.nullAll := steady_foldl h (fun _ _ ht => steady_mk ht (by rfl)) _

/-- VDD_F turned off by SEQ_EN4 (R412). -/
theorem loseFabric_spec (s : State) : s.loseFabric.pow.fOff = true ∧ s.loseFabric.time = s.time ∧
    ∀ v, (s.pinCause v).getLsbD 2 = true → (s.loseFabric.pinCause v).getLsbD 2 = true := by
  unfold State.loseFabric
  extract_lets t pow u w
  have ht : Steady s t := flushWindows_steady (endFabricWork_steady (Steady.refl s))
  clear_value t
  have hw : Steady u w := nullAll_steady (Steady.refl u)
  have hall := steady_foldl hw (f := fun s p => (upto 4).foldl (fun s k => s.emptySlot p k) s)
    (fun _ _ hz => steady_foldl hz (fun _ _ hy => emptySlot_steady _ _ hy) _) (upto 512)
  exact ⟨hall.fOff, hall.time.trans ht.time, fun v hv => hall.barred v (ht.barred v hv)⟩

end

end Sys2Proof.Machine
end

section
/-! SUPPORT.  What critical does (R421): RDY ends, FAULT_N is driven, VDD_F goes off and every pin is under charter. -/

namespace Sys2Proof.Machine

open Sys2Proof

/-! ### The charter of every pin (R331) -/

/-- A pin put under charter by the critical temperature has its cause set. -/
theorem barPin_barred (s : State) (v : Nat) : ((s.barPin 2 v).pinCause v).getLsbD 2 = true := by
  unfold State.barPin
  extract_lets t u
  have hs : Steady u ((u.setFlag (switchFld v) false).settlePin v) := settlePin_steady _ (setFlag_steady _ _ (Steady.refl u))
  refine hs.barred v ?_
  have e : u.pinCause v = t.pinCause v ||| causeBit 2 := Tab.get_put_self ..
  rw [e, BitVec.getLsbD_or]
  exact Bool.or_true _

theorem barPins_spec (l : List Nat) (s : State) : Steady s (l.foldl (fun s v => s.barPin 2 v) s) ∧
    ∀ v ∈ l, ((l.foldl (fun s v => s.barPin 2 v) s).pinCause v).getLsbD 2 = true := by
  induction l generalizing s with
  | nil => exact ⟨Steady.refl s, fun _ h => absurd h List.not_mem_nil⟩
  | cons a l ih =>
    obtain ⟨hs, hl⟩ := ih (s.barPin 2 a)
    refine ⟨(barPin_steady 2 a (Steady.refl s)).trans hs, fun v hv => ?_⟩
    rcases List.mem_cons.1 hv with rfl | hv
    · exact hs.barred v (barPin_barred s v)
    · exact hl v hv

/-! ### FAULT_N (R434) -/

/-- A cause of FAULT_N shows in DEV_FAULT, and FAULT_N is driven. -/
theorem setFault_spec (s : State) {i : Nat} (hi : i < 32) : (s.setFault i).bit DEV_FAULT i = true ∧
    (s.setFault i).flag DEV_STATUS_FAULT = true ∧ (s.setFault i).flag DEV_STATUS_RDY = s.flag DEV_STATUS_RDY := by
  have hb : (s.setBit DEV_FAULT i true).bit DEV_FAULT i = true := bit_setBit_self s DEV_FAULT hi true
  have hne : (s.setBit DEV_FAULT i true).rd DEV_FAULT ≠ 0 := by
    intro h0
    unfold State.bit State.flag State.get at hb
    rw [h0] at hb
    simp [fldGet] at hb
  unfold State.setFault State.showFault
  refine ⟨(State.flag_setFlag_apart _ ?_ _).trans hb, ?_, ?_⟩
  · rfl
  · rw [State.flag_setFlag_self _ _ (by decide) rfl]
    exact decide_eq_true hne
  · rw [State.flag_setFlag_apart _ (by decide), State.setBit]
    exact State.flag_setFlag_apart _ rfl _

/-! ### Critical (R421) -/

/-- Critical has been entered at the device time of s, with a cause of FAULT_N. -/
structure Critical (s t : State) (i : Nat) : Prop where
  critical : t.flag THM_STATUS_CRITICAL = true
  rdy : t.flag DEV_STATUS_RDY = false
  cause : t.bit DEV_FAULT i = true
  fault : t.flag DEV_STATUS_FAULT = true
  fOff : t.pow.fOff = true
  since : t.thm.criticalAt = s.time
  pins : ∀ v ∈ allPins, (t.pinCause v).getLsbD 2 = true

/-- RDY, FAULT_N and THM_STATUS as critical leaves them, of a state whose VDD_F is off. -/
def State.nowCritical (s : State) (i : Nat) : State :=
  let t := ((s.setFlag DEV_STATUS_RDY false).setFault i).setFlag THM_STATUS_CRITICAL true
  { t with thm := { t.thm with criticalAt := t.time } }

/-- FAULT_N is of the register file alone. -/
theorem setFault_steady (s : State) (i : Nat) : Steady s (s.setFault i) :=
  setFlag_steady _ _ (setFlag_steady _ _ (Steady.refl s))

theorem enterCritical_eq {s : State} (h : s.flag THM_STATUS_CRITICAL = false) (src : Nat) (v : Int) (cause : Nat) :
    s.enterCritical src v cause = State.nowCritical
      ((((s.raise 0xCE08 src [(18, 2, toBits 16 v), (20, 1, cause)]).protect scopeCritical).charterAll 2).loseFabric)
      (if cause = 2 then 4 else 3) := by
  have hr : (s.raise 0xCE08 src [(18, 2, toBits 16 v), (20, 1, cause)]).flag THM_STATUS_CRITICAL = false :=
    (State.flag_raise _ _ _ _ (by decide)).trans h
  unfold State.enterCritical
  dsimp only
  rw [if_neg (by simp [hr])]
  rfl

/-- Of a state whose VDD_F is off and whose pins are all under charter. -/
theorem nowCritical_spec {s : State} (hoff : s.pow.fOff = true) (hpins : ∀ v ∈ allPins, (s.pinCause v).getLsbD 2 = true)
    {i : Nat} (hi : i < 32) : Critical s (s.nowCritical i) i := by
  obtain ⟨hbit, hfault, hrdy⟩ := setFault_spec (s.setFlag DEV_STATUS_RDY false) hi
  rw [State.flag_setFlag_self _ DEV_STATUS_RDY (by decide) rfl] at hrdy
  have hst : Steady s (((s.setFlag DEV_STATUS_RDY false).setFault i).setFlag THM_STATUS_CRITICAL true) :=
    setFlag_steady _ _ ((setFlag_steady _ _ (Steady.refl s)).trans (setFault_steady _ i))
  unfold State.nowCritical
  generalize hu : (s.setFlag DEV_STATUS_RDY false).setFault i = u at *
  constructor
  case critical => exact State.flag_setFlag_self u THM_STATUS_CRITICAL (by decide) rfl true
  case rdy => exact (State.flag_setFlag_apart u (f := THM_STATUS_CRITICAL) (g := DEV_STATUS_RDY) (by decide) true).trans hrdy
  case cause =>
    exact (State.flag_setFlag_apart u (f := THM_STATUS_CRITICAL) (g := ⟨DEV_FAULT, i, 1⟩) rfl true).trans hbit
  case fault =>
    exact (State.flag_setFlag_apart u (f := THM_STATUS_CRITICAL) (g := DEV_STATUS_FAULT) (by decide) true).trans hfault
  case fOff => exact hst.fOff.trans hoff
  case since => exact hst.time
  case pins => exact fun v hv => hst.barred v (hpins v hv)

/-- Entering critical from where it was not (R421). -/
theorem enterCritical_spec {s : State} (h : s.flag THM_STATUS_CRITICAL = false) (src : Nat) (v : Int) (cause : Nat) :
    Critical s (s.enterCritical src v cause) (if cause = 2 then 4 else 3) := by
  have hi : (if cause = 2 then 4 else 3) < 32 := by split <;> decide
  rw [enterCritical_eq h]
  generalize hu : (s.raise 0xCE08 src [(18, 2, toBits 16 v), (20, 1, cause)]).protect scopeCritical = u
  have hsu : Steady s u := hu ▸ protect_steady _ (raise_steady _ _ _ (Steady.refl s))
  obtain ⟨hb, hbar⟩ := barPins_spec allPins u
  obtain ⟨hoff, htime, hpins⟩ := loseFabric_spec (u.charterAll 2)
  have ht : (u.charterAll 2).loseFabric.time = s.time := htime.trans (hb.time.trans hsu.time)
  have hbarred : ∀ v ∈ allPins, ((u.charterAll 2).loseFabric.pinCause v).getLsbD 2 = true :=
    fun v hv => hpins v (hbar v hv)
  clear hpins htime
  generalize (u.charterAll 2).loseFabric = w at *
  have hc := nowCritical_spec hoff hbarred hi
  exact { hc with since := hc.since.trans ht }

/-! ### POWER_CAP_EXCEEDED (R191, R421) -/

/-- The cap has stayed active at the lower bound for 100 ms, and critical has not been entered. -/
def State.capExceeded (s : State) : Bool :=
  s.flag PMU_GOV_STATUS_CAP_ACTIVE && !s.flag THM_STATUS_CRITICAL && s.pow.heldAt.any (fun a => s.elapsed a 100000000)

theorem capExceeded_iff (s : State) : s.capExceeded = false ↔ s.flag PMU_GOV_STATUS_CAP_ACTIVE = false ∨
    s.flag THM_STATUS_CRITICAL = true ∨ s.pow.heldAt.any (fun a => s.elapsed a 100000000) = false := by
  unfold State.capExceeded
  rw [Bool.and_eq_false_iff, Bool.and_eq_false_iff, Bool.not_eq_false', or_assoc]

theorem powerCapExceeded_early {s : State} (h : s.capExceeded = false) : exec .powerCapExceeded s = .next s :=
  if_pos ((capExceeded_iff s).1 h)

theorem powerCapExceeded_due {s : State} (h : s.capExceeded = true) :
    ∃ t, exec .powerCapExceeded s = .next t ∧ Critical s t 4 := by
  have hc : s.flag THM_STATUS_CRITICAL = false := by
    unfold State.capExceeded at h
    simp only [Bool.and_eq_true, Bool.not_eq_true'] at h
    exact h.1.2
  refine ⟨_, if_neg fun hn => ?_, ?_⟩
  · rw [(capExceeded_iff s).2 hn] at h
    exact Bool.noConfusion h
  · obtain ⟨h1, h2, h3, h4, h5, h6, h7⟩ := enterCritical_spec
      (s := s.raise 0xC506 srcGovernor [(18, 2, s.power)]) ((State.flag_raise _ _ _ _ (by decide)).trans hc) srcGovernor
      ((((s.raise 0xC506 srcGovernor [(18, 2, s.power)]).hottest).map Prod.snd).getD 0) 2
    exact ⟨h1, h2, h3, h4, h5, h6.trans (State.raise_time ..), h7⟩

end Sys2Proof.Machine
end

section
/-! SUPPORT.  What a measurement of package power is made of (R191, R405, R406): the rails' values, the end of an AVSBus fault. -/

namespace Sys2Proof.Machine

open Sys2Proof

/-! ### What a frame leaves as it reads -/

theorem Fr.get {ps : List Part} {ks : List Nat} {s t : State} (h : Fr ps ks s t) {f : Fld} (hf : f.reg ∉ ks) :
    t.get f = s.get f := by
  unfold State.get
  rw [h.frame.reg _ hf]

theorem Fr.flag {ps : List Part} {ks : List Nat} {s t : State} (h : Fr ps ks s t) {f : Fld} (hf : f.reg ∉ ks) :
    t.flag f = s.flag f := by
  unfold State.flag
  rw [h.get hf]

/-- A change of the supplies' values alone. -/
theorem fr_pow {ps : List Part} {ks : List Nat} {s0 s : State} (h : Fr ps ks s0 s) (hp : Part.pow ∈ ps) (p : PowState) :
    Fr ps ks s0 { s with pow := p } := by
  have k : Fr [.pow] ks s { s with pow := p } := fr_mk (Fr.refl _ _ s) (by simp) rfl
  exact h.trans (k.mono (List.cons_subset.2 ⟨hp, List.nil_subset _⟩) (List.Subset.refl _))

/-! ### The values of the rails -/

/-- A table after puts whose values for key i are all x: what it answers for i. -/
theorem Tab.get_foldl_put {α β : Type} [DecidableEq β] (d : Nat → β) (g : α → β) {i : Nat} {x : α}
    {l : List (Nat × α)}
    (hl : ∀ a ∈ l, a.1 = i → a.2 = x) (t : Tab β) (h : Tab.get d t i = g x ∨ (i, x) ∈ l) :
    Tab.get d (l.foldl (fun t a => Tab.put d t a.1 (g a.2)) t) i = g x := by
  induction l generalizing t with
  | nil => exact h.resolve_right List.not_mem_nil
  | cons a l ih =>
    refine ih (fun b hb => hl b (List.mem_cons_of_mem _ hb)) _ ?_
    by_cases ha : a.1 = i
    · rw [← ha, ← hl a (List.mem_cons_self ..) ha]
      exact .inl (Tab.get_put_self ..)
    · refine h.imp (fun h => (Tab.get_put_ne _ _ (Ne.symm ha) _).trans h) fun h => ?_
      exact (List.mem_cons.1 h).resolve_left fun e => ha (congrArg Prod.fst e).symm

/-- A pair of the zip of 0, 1, ... with a list: an index and the list's element there. -/
theorem mem_zip_upto {α : Type} {n i : Nat} {l : List α} {x : α} : (i, x) ∈ (upto n).zip l ↔ i < n ∧ l[i]? = some x := by
  simp only [upto, List.mem_iff_getElem?, List.getElem?_zip_eq_some]
  grind

section
variable {s : State}

/-- The voltage and current of one rail are taken. -/
def State.measureOne (s : State) (e : Nat × BitVec 16 × BitVec 16) : State :=
  let s := s.measureRail e.1 e.2.1.toNat e.2.1.toNat
  { s with pow := { s.pow with cur := Tab.put nat0 s.pow.cur e.1 e.2.2.toNat } }

variable (l : List (Nat × BitVec 16 × BitVec 16))

theorem measured_mv : (l.foldl State.measureOne s).pow.mv =
    l.foldl (fun t e => Tab.put nat0 t e.1 e.2.1.toNat) s.pow.mv :=
  (List.foldl_hom (fun s : State => s.pow.mv) fun _ _ => rfl).symm

theorem measured_cur : (l.foldl State.measureOne s).pow.cur =
    l.foldl (fun t e => Tab.put nat0 t e.1 e.2.2.toNat) s.pow.cur :=
  (List.foldl_hom (fun s : State => s.pow.cur) fun _ _ => rfl).symm

/-- Each rail's values show, whatever it showed before. -/
theorem measured_rail (rails : List (BitVec 16 × BitVec 16)) {i : Nat} {e : BitVec 16 × BitVec 16} (hi : i < 22)
    (he : rails[i]? = some e) :
    Tab.get nat0 (((upto 22).zip rails).foldl State.measureOne s).pow.mv i = e.1.toNat ∧
    Tab.get nat0 (((upto 22).zip rails).foldl State.measureOne s).pow.cur i = e.2.toNat := by
  have hu (a) (ha : a ∈ (upto 22).zip rails) (hk : a.1 = i) : a.2 = e := by
    obtain ⟨-, h⟩ := mem_zip_upto.1 (show (a.1, a.2) ∈ _ from ha)
    rw [hk, he] at h
    exact (Option.some.inj h).symm
  have hm : (i, e) ∈ (upto 22).zip rails := mem_zip_upto.2 ⟨hi, he⟩
  rw [measured_mv, measured_cur]
  exact ⟨Tab.get_foldl_put nat0 (fun a => a.1.toNat) hu _ (.inr hm),
    Tab.get_foldl_put nat0 (fun a => a.2.toNat) hu _ (.inr hm)⟩

/-- Nothing else of the supplies is touched, but the lowest voltages. -/
theorem measured_pow : (l.foldl State.measureOne s).pow = { s.pow with
    mv := (l.foldl State.measureOne s).pow.mv, cur := (l.foldl State.measureOne s).pow.cur,
    low := (l.foldl State.measureOne s).pow.low } := by
  induction l generalizing s with
  | nil => rfl
  | cons a l ih => exact ih

theorem measureOne_fr (e : Nat × BitVec 16 × BitVec 16) : Fr [.pow] [] s (s.measureOne e) :=
  fr_mk (Fr.refl _ _ s) (by simp [State.measureOne]) rfl

theorem measured_fr : Fr [.pow] [] s (l.foldl State.measureOne s) :=
  fr_foldl (Fr.refl _ _ s) (fun _ a h => h.trans (measureOne_fr a)) l

end

/-! ### The end of an AVSBus fault (R405) -/

section
variable (s : State)

theorem opAsk_fr : Fr [.pow, .clk] [] s s.opAsk := by
  unfold State.opAsk
  split
  · exact fr_ite (Fr.refl _ _ s) (fr_mk (Fr.refl _ _ s) (by simp) rfl)
  · exact Fr.refl _ _ s

theorem opAsk_pow : s.opAsk.pow = { s.pow with reqB := s.opAsk.pow.reqB } := by
  unfold State.opAsk
  split
  · split <;> rfl
  · rfl

theorem avsWorks_of_works (h : s.flag PMU_STATUS_AVS_FAULT = false) : s.avsWorks = s := if_neg (by simp [h])

theorem avsWorks_fr : Fr [.pow, .clk] [PMU_STATUS] s s.avsWorks := by
  have h : Fr [.pow, .clk] [PMU_STATUS] s (s.setFlag PMU_STATUS_AVS_FAULT false) :=
    fr_setFlag (Fr.refl _ _ s) (by decide) false
  unfold State.avsWorks
  exact fr_ite (fr_ite h (h.trans ((opAsk_fr _).mono (List.Subset.refl _) (List.nil_subset _)))) (Fr.refl _ _ s)

theorem avsWorks_pow : s.avsWorks.pow = { s.pow with reqB := s.avsWorks.pow.reqB } := by
  unfold State.avsWorks
  split
  · dsimp only
    split
    · rfl
    · exact opAsk_pow _
  · rfl

theorem avsWorks_flag : s.avsWorks.flag PMU_STATUS_AVS_FAULT = false := by
  have h : (s.setFlag PMU_STATUS_AVS_FAULT false).flag PMU_STATUS_AVS_FAULT = false :=
    State.flag_setFlag_self s PMU_STATUS_AVS_FAULT (by decide) rfl false
  by_cases hf : s.flag PMU_STATUS_AVS_FAULT = true
  · unfold State.avsWorks
    rw [if_pos hf]
    dsimp only
    split
    · exact h
    · exact ((opAsk_fr _).flag List.not_mem_nil).trans h
  · rw [avsWorks_of_works s (by simpa using hf)]
    simpa using hf

end

end Sys2Proof.Machine
end

section
/-! SUPPORT.  The power cap and what a measurement shows of it (R191, R406). -/

namespace Sys2Proof.Machine

open Sys2Proof

/-! ### The lower bound (R190) -/

/-- The lower bound depends on the resident slots' floors alone. -/
theorem lowerBound_fr {ps : List Part} {ks : List Nat} {s t : State} (h : Fr ps ks s t) (hp : Part.ctx ∉ ps)
    (hk : ∀ k ∈ ks, k < 0x200000) : t.lowerBound = s.lowerBound := by
  have hf (m k : Nat) : t.get (COL_CTX_SRC_FLOOR (matCol m) (matG m) k) = s.get (COL_CTX_SRC_FLOOR (matCol m) (matG m) k) := by
    refine h.get fun hm => ?_
    have hlt : COL_CTX_SRC (matCol m) (matG m) k < 0x200000 := hk _ hm
    unfold COL_CTX_SRC at hlt
    omega
  have hc : t.ctx = s.ctx := h.frame.part .ctx hp
  unfold State.lowerBound State.greatestFloor
  simp only [hf, hc]

section
variable (s : State)

/-! ### The cap after a new average (R191) -/

/-- What a new average makes of the cap, before CAP_HELD is shown. -/
def State.capped (s : State) (mw : Nat) : State :=
  let was := s.flag PMU_GOV_STATUS_CAP_ACTIVE
  let act := decide (170000 < mw)
  let s := s.setFlag PMU_GOV_STATUS_CAP_ACTIVE act
  if act ∧ was = false then
    ({ s with pow := { s.pow with capAt := some s.time } } : State).raise 0x4503 srcGovernor
      [(18, 2, s.vddF), (20, 2, s.power)]
  else if was ∧ act = false then
    ({ s with pow := { s.pow with capAt := none } } : State).raise 0x0504 srcGovernor
      [(18, 4, usBetween (s.pow.capAt.getD s.time) s.time)]
  else s

theorem evalCap_eq (mw : Nat) : s.evalCap mw = (s.capped mw).showCapHeld := rfl

/-- From s to t the cap's flag, its time and its event are those of act: whether the new average is above the cap. -/
structure Capped (s t : State) (act : Bool) : Prop where
  active : t.flag PMU_GOV_STATUS_CAP_ACTIVE = act
  held : t.flag PMU_GOV_STATUS_CAP_HELD = s.flag PMU_GOV_STATUS_CAP_HELD
  vddF : t.vddF = s.vddF
  pow : t.pow = { s.pow with capAt :=
    (if act = s.flag PMU_GOV_STATUS_CAP_ACTIVE then s.pow.capAt else if act then some s.time else none) }
  seq : t.ev.seq = s.ev.seq + (if act = s.flag PMU_GOV_STATUS_CAP_ACTIVE then 0 else 1)
  fr : Fr (.pow :: evParts) (PMU_GOV_STATUS :: bookKeys) s t
  same : act = s.flag PMU_GOV_STATUS_CAP_ACTIVE → Fr [] [PMU_GOV_STATUS] s t

/-- The flag alone, where the cap stays as it was. -/
theorem capped_same {act : Bool} (h : act = s.flag PMU_GOV_STATUS_CAP_ACTIVE) :
    Capped s (s.setFlag PMU_GOV_STATUS_CAP_ACTIVE act) act := by
  have hf : Fr [] [PMU_GOV_STATUS] s (s.setFlag PMU_GOV_STATUS_CAP_ACTIVE act) :=
    fr_setFlag (f := PMU_GOV_STATUS_CAP_ACTIVE) (Fr.refl _ _ s) (by decide) act
  exact {
    active := State.flag_setFlag_self s PMU_GOV_STATUS_CAP_ACTIVE (by decide) rfl act
    held := State.flag_setFlag_apart s (by decide) act
    vddF := State.get_setFlag_apart s (by decide) act
    pow := by rw [if_pos h]; rfl
    seq := by rw [if_pos h]; exact (BitVec.add_zero _).symm
    fr := hf.mono (List.nil_subset _) (by simp)
    same := fun _ => hf }

/-- With the time and the event of a cap that begins or ends. -/
theorem capped_turns {act : Bool} (h : act ≠ s.flag PMU_GOV_STATUS_CAP_ACTIVE) {at_ : Option Word}
    (ha : at_ = if act then some s.time else none) (code src : Nat) (data : List (Nat × Nat × Nat)) :
    Capped s (State.raise { s.setFlag PMU_GOV_STATUS_CAP_ACTIVE act with pow := { s.pow with capAt := at_ } }
      code src data) act := by
  have hf : Fr (.pow :: evParts) (PMU_GOV_STATUS :: bookKeys) s (s.setFlag PMU_GOV_STATUS_CAP_ACTIVE act) :=
    fr_setFlag (f := PMU_GOV_STATUS_CAP_ACTIVE) (Fr.refl _ _ s) (by decide) act
  have hu : Fr (.pow :: evParts) (PMU_GOV_STATUS :: bookKeys) s
      { s.setFlag PMU_GOV_STATUS_CAP_ACTIVE act with pow := { s.pow with capAt := at_ } } := fr_pow hf (by simp) _
  exact {
    active := (State.flag_raise _ _ _ _ (by decide)).trans
      (State.flag_setFlag_self s PMU_GOV_STATUS_CAP_ACTIVE (by decide) rfl act)
    held := (State.flag_raise _ _ _ _ (by decide)).trans (State.flag_setFlag_apart s (by decide) act)
    vddF := (State.get_raise _ _ _ _ (by decide)).trans (State.get_setFlag_apart s (by decide) act)
    pow := by rw [State.raise_pow, if_neg h, ha]
    seq := by rw [raise_seq, if_neg h]; rfl
    fr := hu.trans ((raise_fr _ _ _ _).mono (List.subset_cons_self _ _) (List.subset_cons_self _ _))
    same := fun k => absurd k h }

theorem capped_spec (mw : Nat) : Capped s (s.capped mw) (decide (170000 < mw)) := by
  unfold State.capped
  dsimp only
  generalize decide (170000 < mw) = act
  cases hw : s.flag PMU_GOV_STATUS_CAP_ACTIVE <;> cases act
  case false.false => exact capped_same s hw.symm
  case true.true => exact capped_same s hw.symm
  case false.true => exact capped_turns s (act := true) (at_ := some s.time) (by simp [hw]) rfl _ _ _
  case true.false =>
    rw [if_neg (by simp), if_pos ⟨rfl, rfl⟩]
    exact capped_turns s (act := false) (at_ := none) (by simp [hw]) rfl _ _ _

/-! ### The cap held at the lower bound (R191) -/

/-- From s to t CAP_HELD, its time and its event are those of low: whether the cap is held at the lower bound. -/
structure CapHeld (s t : State) (low : Bool) : Prop where
  active : t.flag PMU_GOV_STATUS_CAP_ACTIVE = s.flag PMU_GOV_STATUS_CAP_ACTIVE
  held : t.flag PMU_GOV_STATUS_CAP_HELD = low
  pow : t.pow = { s.pow with heldAt :=
    (if low = s.flag PMU_GOV_STATUS_CAP_HELD then s.pow.heldAt else if low then some s.time else none) }
  seq : t.ev.seq = s.ev.seq + (if low = true ∧ s.flag PMU_GOV_STATUS_CAP_HELD = false then 1 else 0)
  fr : Fr (.pow :: evParts) (PMU_GOV_STATUS :: bookKeys) s t
  same : low = s.flag PMU_GOV_STATUS_CAP_HELD → Fr [] [PMU_GOV_STATUS] s t

theorem showCapHeld_spec : CapHeld s s.showCapHeld (s.flag PMU_GOV_STATUS_CAP_ACTIVE && decide (s.vddF ≤ s.lowerBound)) := by
  unfold State.showCapHeld
  dsimp only
  generalize (s.flag PMU_GOV_STATUS_CAP_ACTIVE && decide (s.vddF ≤ s.lowerBound)) = held
  generalize s.lowerBound = lb
  have hf : Fr [] [PMU_GOV_STATUS] s (s.setFlag PMU_GOV_STATUS_CAP_HELD held) :=
    fr_setFlag (f := PMU_GOV_STATUS_CAP_HELD) (Fr.refl _ _ s) (by decide) held
  have hw : Fr (.pow :: evParts) (PMU_GOV_STATUS :: bookKeys) s (s.setFlag PMU_GOV_STATUS_CAP_HELD held) :=
    hf.mono (List.nil_subset _) (by simp)
  have hactive := State.flag_setFlag_apart s (f := PMU_GOV_STATUS_CAP_HELD) (g := PMU_GOV_STATUS_CAP_ACTIVE) (by decide) held
  have hheld := State.flag_setFlag_self s PMU_GOV_STATUS_CAP_HELD (by decide) rfl held
  by_cases hs : held = s.flag PMU_GOV_STATUS_CAP_HELD
  · rw [if_pos hs]
    refine ⟨hactive, hheld, by rw [if_pos hs]; rfl, ?_, hw, fun _ => hf⟩
    rw [if_neg (by rw [hs]; simp)]
    exact (BitVec.add_zero _).symm
  · rw [if_neg hs]
    cases held with
    | false =>
      exact ⟨hactive, hheld, by rw [if_neg hs]; rfl, (BitVec.add_zero _).symm, fr_pow hw (by simp) _, fun k => absurd k hs⟩
    | true =>
      have hu : Fr (.pow :: evParts) (PMU_GOV_STATUS :: bookKeys) s
        { s.setFlag PMU_GOV_STATUS_CAP_HELD true with pow := { s.pow with heldAt := some s.time } } := fr_pow hw (by simp) _
      exact {
        active := (State.flag_raise _ _ _ _ (by decide)).trans hactive
        held := (State.flag_raise _ _ _ _ (by decide)).trans hheld
        pow := by rw [if_pos rfl, State.raise_pow, if_neg hs]; rfl
        seq := by rw [if_pos rfl, raise_seq, if_pos ⟨rfl, by simpa using hs⟩]; rfl
        fr := hu.trans ((raise_fr _ _ _ _).mono (List.subset_cons_self _ _) (List.subset_cons_self _ _))
        same := fun k => absurd k hs }

end

end Sys2Proof.Machine
end

section
/-! SUPPORT.  POWER_MEASUREMENT as a whole (R191, R405, R406). -/

namespace Sys2Proof.Machine

open Sys2Proof

theorem satBits_lt (w v : Nat) : satBits w v < 2 ^ w := by
  have := Nat.two_pow_pos w
  unfold satBits
  split <;> omega

/-- The last ten powers, their average and the peak are put away. -/
def State.averaged (s : State) (w : List Nat) (avg : Nat) : State :=
  let s := { s with pow := { s.pow with samples := w } }
  let s := s.set PMU_POWER_AVG (satBits 16 (avg / 100))
  s.set PMU_POWER_PEAK (max (s.get PMU_POWER_PEAK) s.power)

section
variable (s : State) (w : List Nat) (avg : Nat)

theorem averaged_pow : (s.averaged w avg).pow = { s.pow with samples := w } := rfl

theorem averaged_fr : Fr [.pow] [PMU_POWER] s (s.averaged w avg) :=
  fr_set (f := PMU_POWER_PEAK) (fr_set (f := PMU_POWER_AVG) (fr_pow (Fr.refl _ _ s) (by decide) _) (by decide) _) (by decide) _

/-- The average while the peak is put away. -/
theorem averaged_avg : (s.averaged w avg).get PMU_POWER_AVG = satBits 16 (avg / 100) := by
  unfold State.averaged
  rw [State.get_set_apart _ (by decide), State.get_set_self _ PMU_POWER_AVG (by decide)]
  exact Nat.mod_eq_of_lt (satBits_lt 16 _)

theorem averaged_peak : (s.averaged w avg).get PMU_POWER_PEAK =
    max (s.get PMU_POWER_PEAK) (satBits 16 (avg / 100)) := by
  have hp : s.get PMU_POWER_PEAK < 2 ^ 16 := BitVec.isLt _
  have hs := satBits_lt 16 (avg / 100)
  unfold State.averaged State.power
  rw [State.get_set_self _ PMU_POWER_PEAK (by decide), State.get_set_apart _ (by decide),
    State.get_set_self _ PMU_POWER_AVG (by decide), State.get_mk]
  show max _ (satBits 16 (avg / 100) % 2 ^ 16) % 2 ^ 16 = _
  rw [Nat.mod_eq_of_lt hs, Nat.mod_eq_of_lt (max_lt hp hs)]

end

/-- Each rail's values are taken, then the averages, the end of an AVSBus fault, the cap. -/
theorem powerMeasurement_on {s : State} (h : s.dev.off = false) {rails : List (BitVec 16 × BitVec 16)} {mw avg : Nat}
    {w : List Nat} (hmw : mw = ((upto 22).zip rails).foldl (fun a e => a + e.2.1.toNat * e.2.2.toNat) 0 / 100)
    (hw : w = (mw :: s.pow.samples).take 10) (havg : avg = w.foldl (fun a x => a + x) 0 / w.length) :
    exec (.powerMeasurement rails) s =
      .next (((((upto 22).zip rails).foldl State.measureOne s).averaged w avg).avsWorks.evalCap avg) := by
  have hs : (((upto 22).zip rails).foldl State.measureOne s).pow.samples = s.pow.samples :=
    by rw [measured_pow]
  subst hmw havg hw
  rw [← hs]
  exact if_neg (by simp [h])

/-- From s to t the cap is evaluated: act is whether it is active, low whether it is held at the lower bound. -/
structure CapEvaluated (s t : State) (act low : Bool) : Prop where
  active : t.flag PMU_GOV_STATUS_CAP_ACTIVE = act
  held : t.flag PMU_GOV_STATUS_CAP_HELD = low
  pow : t.pow = { s.pow with
    capAt := (if act = s.flag PMU_GOV_STATUS_CAP_ACTIVE then s.pow.capAt else if act then some s.time else none)
    heldAt := (if low = s.flag PMU_GOV_STATUS_CAP_HELD then s.pow.heldAt else if low then some s.time else none) }
  seq : t.ev.seq = s.ev.seq + (if act = s.flag PMU_GOV_STATUS_CAP_ACTIVE then 0 else 1) +
    (if low = true ∧ s.flag PMU_GOV_STATUS_CAP_HELD = false then 1 else 0)
  fr : Fr (.pow :: evParts) (PMU_GOV_STATUS :: bookKeys) s t
  same : act = s.flag PMU_GOV_STATUS_CAP_ACTIVE → low = s.flag PMU_GOV_STATUS_CAP_HELD → Fr [] [PMU_GOV_STATUS] s t

theorem evalCap_spec (s : State) (mw : Nat) : CapEvaluated s (s.evalCap mw) (decide (170000 < mw))
    (decide (170000 < mw) && decide (s.vddF ≤ s.lowerBound)) := by
  have hc := capped_spec s mw
  have hh := showCapHeld_spec (s.capped mw)
  have hl : (s.capped mw).lowerBound = s.lowerBound :=
    lowerBound_fr hc.fr (by decide) (by decide)
  have ht : (s.capped mw).time = s.time := hc.fr.frame.part .time (by decide)
  rw [hc.active, hc.vddF, hl] at hh
  rw [evalCap_eq]
  exact {
    active := hh.active.trans hc.active
    held := hh.held
    pow := by rw [hh.pow, hc.pow, hc.held, ht]
    seq := by rw [hh.seq, hc.seq, hc.held]
    fr := hc.fr.trans hh.fr
    same := fun k m => (hc.same k).trans (hh.same (m.trans hc.held.symm)) }

/-- The first part of O49: what a measurement of package power leads to. -/
theorem powerMeasurement_spec {s : State} (h : s.dev.off = false) {rails : List (BitVec 16 × BitVec 16)} {mw avg : Nat}
    {w : List Nat} {was act held : Bool}
    (hmw : mw = ((upto 22).zip rails).foldl (fun a e => a + e.2.1.toNat * e.2.2.toNat) 0 / 100)
    (hw : w = (mw :: s.pow.samples).take 10) (havg : avg = w.foldl (fun a x => a + x) 0 / w.length)
    (hwas : was = s.flag PMU_GOV_STATUS_CAP_ACTIVE) (hact : act = decide (170000 < avg))
    (hheld : held = (act && decide (s.vddF ≤ s.lowerBound))) :
    ∃ t, exec (.powerMeasurement rails) s = .next t ∧ t.pow.samples = w ∧ t.get PMU_POWER_AVG = satBits 16 (avg / 100) ∧
      t.get PMU_POWER_PEAK = max (s.get PMU_POWER_PEAK) (satBits 16 (avg / 100)) ∧
      (∀ i e, i < 22 → rails[i]? = some e →
        Tab.get nat0 t.pow.mv i = e.1.toNat ∧ Tab.get nat0 t.pow.cur i = e.2.toNat) ∧
      t.flag PMU_STATUS_AVS_FAULT = false ∧ t.flag PMU_GOV_STATUS_CAP_ACTIVE = act ∧
      t.flag PMU_GOV_STATUS_CAP_HELD = held ∧
      t.pow.capAt = (if act = was then s.pow.capAt else if act then some s.time else none) ∧
      t.pow.heldAt = (if held = s.flag PMU_GOV_STATUS_CAP_HELD then s.pow.heldAt else if held then some s.time else none) ∧
      t.ev.seq = s.ev.seq + (if act = was then 0 else 1) +
        (if held = true ∧ s.flag PMU_GOV_STATUS_CAP_HELD = false then 1 else 0) ∧
      Framed (.pow :: .clk :: evParts) (PMU_POWER :: PMU_GOV_STATUS :: PMU_STATUS :: bookKeys) s t ∧
      (act = was → held = s.flag PMU_GOV_STATUS_CAP_HELD → s.flag PMU_STATUS_AVS_FAULT = false →
        Framed [.pow] [PMU_POWER, PMU_GOV_STATUS] s t) := by
  refine ⟨_, powerMeasurement_on h hmw hw havg, ?_⟩
  have hrail (i e) := @measured_rail s rails i e
  have hmp := measured_pow (s := s) ((upto 22).zip rails)
  have hmf := measured_fr (s := s) ((upto 22).zip rails)
  generalize ((upto 22).zip rails).foldl State.measureOne s = m at *
  have hu : Fr [.pow] [PMU_POWER] s (m.averaged w avg) :=
    (hmf.mono (List.Subset.refl _) (List.nil_subset _)).trans (averaged_fr m w avg)
  have hup := averaged_pow m w avg
  have havg := averaged_avg m w avg
  have hpeak := averaged_peak m w avg
  rw [hmf.get (f := PMU_POWER_PEAK) List.not_mem_nil] at hpeak
  generalize m.averaged w avg = u at *
  have ha := avsWorks_fr u
  have hap := avsWorks_pow u
  have haf := avsWorks_flag u
  have hsame (hf : s.flag PMU_STATUS_AVS_FAULT = false) : u.avsWorks = u :=
    avsWorks_of_works u ((hu.flag (f := PMU_STATUS_AVS_FAULT) (by decide)).trans hf)
  generalize u.avsWorks = a at *
  have hsa : Fr [.pow, .clk] [PMU_POWER, PMU_STATUS] s a :=
    (hu.mono (by decide) (by decide)).trans (ha.mono (by decide) (by decide))
  have hc := evalCap_spec a avg
  have hl : a.lowerBound = s.lowerBound :=
    lowerBound_fr hsa (by decide) (by decide)
  have ht : a.time = s.time := hsa.frame.part .time (by decide)
  have hev : a.ev = s.ev := hsa.frame.part .ev (by decide)
  have hv : a.vddF = s.vddF := hsa.get (f := PMU_GOV_STATUS_SETPOINT_MV) (by decide)
  have hca : a.flag PMU_GOV_STATUS_CAP_ACTIVE = was := (hsa.flag (by decide)).trans hwas.symm
  have hch : a.flag PMU_GOV_STATUS_CAP_HELD = s.flag PMU_GOV_STATUS_CAP_HELD := hsa.flag (by decide)
  rw [← hact, hv, hl, ← hheld] at hc
  generalize a.evalCap avg = t at *
  obtain ⟨hactive, hcheld, hpow, hseq, hfr, hcsame⟩ := hc
  rw [hca] at hpow hseq hcsame
  rw [hch] at hpow hseq hcsame
  rw [ht, hap, hup, hmp] at hpow
  rw [hev] at hseq
  have hst : Fr (.pow :: .clk :: evParts) (PMU_POWER :: PMU_GOV_STATUS :: PMU_STATUS :: bookKeys) s t :=
    (hsa.mono (by decide) (by decide)).trans (hfr.mono (by decide) (by decide))
  refine ⟨by rw [hpow], ?_, ?_, ?_, ?_, hactive, hcheld, by rw [hpow], by rw [hpow], hseq, hst.frame, ?_⟩
  · rw [hfr.get (by decide), ha.get (by decide), havg]
  · rw [hfr.get (by decide), ha.get (by decide), hpeak]
  · intro i e hi he
    rw [hpow]
    exact hrail i e hi he
  · exact (hfr.flag (by decide)).trans haf
  · intro k1 k2 k3
    have e := hsame k3
    subst e
    exact (hu.mono (List.Subset.refl _) (by decide)).trans
      ((hcsame k1 k2).mono (List.nil_subset _) (by decide)) |>.frame

end Sys2Proof.Machine
end

section
/-! SUPPORT.  The interval of the speed governor (R188 to R190, R194). -/

namespace Sys2Proof.Machine

open Sys2Proof

/-! ### The region with the least slack (R194) -/

section
variable {s : State} {p v : Nat}

/-- One region is weighed against the best so far. -/
def State.weigh (s : State) (b : Option (Nat × Nat)) (p : Nat) : Option (Nat × Nat) :=
  match s.regionSlack p, b with
  | some v, some w => if v < w.2 then some (p, v) else some w
  | some v, none => some (p, v)
  | none, b => b

theorem worstRegion_eq (l : List Nat) : s.worstRegion l = l.foldl s.weigh none := rfl

/-- The least region stays the worst. -/
theorem weigh_stays {l : List Nat} (h : ∀ q ∈ l, ∀ w, s.regionSlack q = some w → v ≤ w) :
    l.foldl s.weigh (some (p, v)) = some (p, v) := by
  refine foldl_of_fixed fun q hq => ?_
  unfold State.weigh
  split
  next w x hw e =>
    obtain rfl := Option.some.inj e
    exact if_neg (Nat.not_lt.2 (h q hq w hw))
  next e => cases e
  next => rfl

/-- While every region has more slack, so has the worst. -/
theorem weigh_above {l : List Nat} (h : ∀ q ∈ l, ∀ w, s.regionSlack q = some w → v < w) {b : Option (Nat × Nat)}
    (hb : ∀ x ∈ b, v < x.2) : ∀ x ∈ l.foldl s.weigh b, v < x.2 := by
  induction l generalizing b with
  | nil => exact hb
  | cons q l ih =>
    refine ih (fun q hq => h q (List.mem_cons_of_mem _ hq)) ?_
    have hq := h q (List.mem_cons_self ..)
    unfold State.weigh
    split
    next w x hw =>
      split
      · exact fun y hy => by obtain rfl := Option.some.inj hy; exact hq w hw
      · exact hb
    next w hw => exact fun y hy => by obtain rfl := Option.some.inj hy; exact hq w hw
    next => exact hb

/-- The least region is found; of several the lowest-numbered. -/
theorem worstRegion_least {l : List Nat} (hl : l.Pairwise (· < ·)) (hp : p ∈ l) (hv : s.regionSlack p = some v)
    (h : ∀ q ∈ l, ∀ w, s.regionSlack q = some w → v ≤ w ∧ (w = v → p ≤ q)) : s.worstRegion l = some (p, v) := by
  obtain ⟨l1, l2, rfl⟩ := List.append_of_mem hp
  have habove : ∀ x ∈ l1.foldl s.weigh none, v < x.2 := by
    refine weigh_above (fun q hq w hw => ?_) (fun x hx => by cases hx)
    have hlt : q < p := (List.pairwise_append.1 hl).2.2 q hq p (List.mem_cons_self ..)
    obtain ⟨hle, heq⟩ := h q (List.mem_append_left _ hq) w hw
    rcases Nat.eq_or_lt_of_le hle with e | hvw
    · exact absurd (heq e.symm) (Nat.not_le.2 hlt)
    · exact hvw
  have hstep : s.weigh (l1.foldl s.weigh none) p = some (p, v) := by
    generalize l1.foldl s.weigh none = b at habove
    unfold State.weigh
    rw [hv]
    cases b with
    | none => rfl
    | some x => exact if_pos (habove x rfl)
  rw [worstRegion_eq, List.foldl_append, List.foldl_cons, hstep]
  exact weigh_stays fun q hq w hw => (h q (List.mem_append_right _ (List.mem_cons_of_mem _ hq)) w hw).1

end

/-! ### The end of an interval (R189) -/

/-- A pacer's slack values at the end of an interval. -/
def Pacer.intervalEnded (x : Pacer) : Pacer :=
  { x with slackVal := (match x.ivSlack with | some v => some v | none => x.slackVal), ivSlack := none, ivLate := false }

section
variable (s : State)

/-- Each pacer of the list is treated once. -/
theorem pacer_ended {l : List Nat} (hl : l.Nodup) (p : Nat) :
    (l.foldl (fun s p => s.setPacer p (s.pacer p).intervalEnded) s).pacer p =
      if p ∈ l then (s.pacer p).intervalEnded else s.pacer p := by
  induction l generalizing s with
  | nil => rfl
  | cons q l ih =>
    obtain ⟨hq, hl⟩ := List.nodup_cons.1 hl
    rw [List.foldl_cons, ih _ hl]
    have hput (r : Nat) : (s.setPacer q (s.pacer q).intervalEnded).pacer r =
        if r = q then (s.pacer q).intervalEnded else s.pacer r := Tab.get_put ..
    rw [hput]
    by_cases hpq : p = q
    · subst hpq
      simp [hq]
    · simp [hpq]

theorem endInterval_eq : s.endInterval = (upto 64).foldl (fun s p => s.setPacer p (s.pacer p).intervalEnded) s := rfl

theorem endInterval_pacer {p : Nat} (h : p < 64) : s.endInterval.pacer p =
    { s.pacer p with slackVal := s.regionSlack p, ivSlack := none, ivLate := false } := by
  have hn : (upto 64).Nodup := List.nodup_range
  rw [endInterval_eq, pacer_ended s hn, if_pos (show p ∈ upto 64 from List.mem_range.2 h)]
  rfl

theorem setPacer_fr (p : Nat) (x : Pacer) : Fr [.pace] [] s (s.setPacer p x) := fr_mk (Fr.refl _ _ s) (by simp) rfl

theorem endInterval_fr : Fr [.pace] [] s s.endInterval := by
  rw [endInterval_eq]
  exact fr_foldl (Fr.refl _ _ s) (fun t p h => h.trans (setPacer_fr t p _)) _

end

/-! ### The decision of an interval (R189) -/

/-- Slack of a region below a number of times its percentage. -/
def State.slackBelow (s : State) (p d : Nat) : Bool :=
  (s.regionSlack p).any (fun v => decide (v * d < 100 * s.get (PACE_STATUS_SLACK_PCT p)))

theorem filter_takesPart_eq_nil (s : State) : (upto 64).filter s.takesPart = [] ↔ (upto 64).any s.takesPart = false := by
  simp [List.filter_eq_nil_iff]

theorem governorSteps_eq (s : State) : s.governorSteps ((upto 64).filter s.takesPart) =
    (if s.flag PMU_GOV_STATUS_CAP_ACTIVE = true ∨ s.flag PMU_GOV_STATUS_THROTTLE = true then -1
      else if (upto 64).any s.takesPart = false ∨ s.flag PMU_GOV_CTL_EN = false ∨ s.inWarn 0 = true then 0
      else if (upto 64).any (fun p => s.takesPart p && ((s.pacer p).ivLate || s.slackBelow p 2)) then 4
      else if (upto 64).any (fun p => s.takesPart p && s.slackBelow p 1) then 1
      else if (upto 64).all (fun p => !s.takesPart p || (s.regionSlack p).any (fun v =>
          decide (100 * s.get (PACE_STATUS_SLACK_PCT p) + 100 * s.get PMU_GOV_CTL_HYST_PCT ≤ v))) then -1
      else 0) := by
  unfold State.governorSteps
  dsimp only
  refine if_congr Iff.rfl rfl (if_congr (or_congr (filter_takesPart_eq_nil s) Iff.rfl) rfl
    (if_congr ?_ rfl (if_congr ?_ rfl (if_congr ?_ rfl rfl))))
  case refine_1 =>
    rw [List.any_filter]
    refine Bool.eq_iff_iff.1 (List.any_congr rfl fun p => ?_)
    unfold State.slackBelow
    cases s.regionSlack p <;> simp
  case refine_2 =>
    rw [List.any_filter]
    refine Bool.eq_iff_iff.1 (List.any_congr rfl fun p => ?_)
    unfold State.slackBelow
    cases s.regionSlack p <;> simp
  case refine_3 =>
    rw [List.all_filter]
    refine Bool.eq_iff_iff.1 (List.all_congr rfl fun p => ?_)
    cases s.regionSlack p <;> rfl

/-! ### What the governor does (R189, R190) -/

/-- From s to t the governor has acted on a decision of n steps. -/
structure GovernorActed (s t : State) (n : Int) : Prop where
  atMax : t.flag PMU_GOV_STATUS_AT_MAX = (decide (0 < n) && decide (900 ≤ s.vddF))
  pow : t.pow = { s.pow with reqF :=
    (if s.pow.reqF.isSome = true ∨ s.flag PMU_STATUS_AVS_FAULT = true ∨ s.pow.fOff = true then s.pow.reqF
      else if 0 < n ∧ s.vddF < 900 then some (min 900 (s.vddF + 5 * n.toNat))
      else if n < 0 ∧ s.lowerBound < s.vddF then some (max s.lowerBound (s.vddF - 5)) else none) }
  fr : Fr (.pow :: evParts) (PMU_GOV_STATUS :: bookKeys) s t
  quiet : n ≤ 0 ∨ s.vddF < 900 ∨ s.flag PMU_GOV_STATUS_AT_MAX = true → Fr [.pow] [PMU_GOV_STATUS] s t

/-- AT_MAX is shown, with an event as it begins. -/
def State.atMaxShown (s : State) (atMax : Bool) (data : List (Nat × Nat × Nat)) : State :=
  (if atMax ∧ s.flag PMU_GOV_STATUS_AT_MAX = false then s.raise 0x4502 srcGovernor data else s).setFlag
    PMU_GOV_STATUS_AT_MAX atMax

section
variable (s : State) (atMax : Bool) (data : List (Nat × Nat × Nat))

theorem atMaxShown_flag : (s.atMaxShown atMax data).flag PMU_GOV_STATUS_AT_MAX = atMax :=
  State.flag_setFlag_self _ PMU_GOV_STATUS_AT_MAX (by decide) rfl atMax

theorem atMaxShown_fr : Fr evParts (PMU_GOV_STATUS :: bookKeys) s (s.atMaxShown atMax data) :=
  fr_setFlag (f := PMU_GOV_STATUS_AT_MAX) (fr_ite ((raise_fr s _ _ _).mono (List.Subset.refl _) (List.subset_cons_self _ _))
    (Fr.refl _ _ s)) (by decide) atMax

theorem atMaxShown_pow : (s.atMaxShown atMax data).pow = s.pow :=
  (atMaxShown_fr s atMax data).frame.part .pow (by decide)

theorem atMaxShown_quiet (h : atMax = false ∨ s.flag PMU_GOV_STATUS_AT_MAX = true) :
    Fr [] [PMU_GOV_STATUS] s (s.atMaxShown atMax data) := by
  unfold State.atMaxShown
  rw [if_neg (by rcases h with h | h <;> simp [h])]
  exact fr_setFlag (f := PMU_GOV_STATUS_AT_MAX) (Fr.refl _ _ s) (by decide) atMax

end

/-- The set point that is requested after a decision of n steps; none where nothing is asked of VDD_F. -/
def State.govRequest (s : State) (n : Int) : Option Nat :=
  if s.pow.reqF.isSome = true ∨ s.flag PMU_STATUS_AVS_FAULT = true ∨ s.pow.fOff = true then s.pow.reqF
  else if 0 < n ∧ s.vddF < 900 then some (min 900 (s.vddF + 5 * n.toNat))
  else if n < 0 ∧ s.lowerBound < s.vddF then some (max s.lowerBound (s.vddF - 5)) else none

/-- The request itself, in a state that may already show AT_MAX. -/
def State.governorAsks (s w : State) (n : Int) : State :=
  if w.pow.reqF.isSome ∨ w.flag PMU_STATUS_AVS_FAULT ∨ w.pow.fOff then w
  else if 0 < n ∧ s.vddF < 900 then w.requestF (min 900 (s.vddF + 5 * n.toNat))
  else if n < 0 ∧ s.lowerBound < s.vddF then w.requestF (max s.lowerBound (s.vddF - 5))
  else w

theorem governorAsks_eq {s w : State} (hp : w.pow = s.pow) (hf : w.flag PMU_STATUS_AVS_FAULT = s.flag PMU_STATUS_AVS_FAULT)
    (n : Int) : s.governorAsks w n = { w with pow := { s.pow with reqF := s.govRequest n } } := by
  have hstay : w = { w with pow := { s.pow with reqF := s.pow.reqF } } := by rw [← hp]
  have hask (r : Nat) : w.requestF r = { w with pow := { s.pow with reqF := some r } } := by rw [← hp]; rfl
  unfold State.governorAsks State.govRequest
  rw [hp, hf]
  by_cases hb : s.pow.reqF.isSome = true ∨ s.flag PMU_STATUS_AVS_FAULT = true ∨ s.pow.fOff = true
  · rw [if_pos hb, if_pos hb]
    exact hstay
  · have hnone : s.pow.reqF = none := by
      rw [← Option.not_isSome_iff_eq_none]
      exact fun h => hb (.inl h)
    rw [if_neg hb, if_neg hb]
    by_cases hu : 0 < n ∧ s.vddF < 900
    · rw [if_pos hu, if_pos hu]
      exact hask _
    · rw [if_neg hu, if_neg hu]
      by_cases hd : n < 0 ∧ s.lowerBound < s.vddF
      · rw [if_pos hd, if_pos hd]
        exact hask _
      · rw [if_neg hd, if_neg hd, ← hnone]
        exact hstay

theorem governorActs_eq (s : State) (n : Int) (worst : Option (Nat × Nat)) : ∃ data, s.governorActs n worst =
    { s.atMaxShown (decide (0 < n) && decide (900 ≤ s.vddF)) data with pow := { s.pow with reqF := s.govRequest n } } := by
  refine ⟨[(18, 1, (worst.map Prod.fst).getD 0), (19, 2, (worst.map Prod.snd).getD 0)], ?_⟩
  refine Eq.trans ?_ (governorAsks_eq (atMaxShown_pow s _ _) ((atMaxShown_fr s _ _).flag (by decide)) n)
  rfl

theorem governorActs_spec (s : State) (n : Int) (worst : Option (Nat × Nat)) :
    GovernorActed s (s.governorActs n worst) n := by
  obtain ⟨data, e⟩ := governorActs_eq s n worst
  rw [e]
  exact {
    atMax := atMaxShown_flag s _ data
    pow := rfl
    fr := fr_pow ((atMaxShown_fr s _ data).mono (List.subset_cons_self _ _) (List.Subset.refl _)) (List.mem_cons_self ..) _
    quiet := fun h => fr_pow ((atMaxShown_quiet s _ data (by
      rcases h with h | h | h
      · exact .inl (by simp [Int.not_lt.2 h])
      · exact .inl (by simp [Nat.not_le.2 h])
      · exact .inr h)).mono (List.nil_subset _) (List.Subset.refl _)) (List.mem_cons_self ..) _ }

/-! ### GOVERNOR_INTERVAL -/

/-- PMU_GOV_WORST after an interval: the region with the least slack, of those that take part (R194). -/
def State.worstShown (s : State) : State :=
  let ps := (upto 64).filter s.takesPart
  let worst := s.worstRegion ps
  ((s.set PMU_GOV_WORST_SLACK ((worst.map Prod.snd).getD 0)).set PMU_GOV_WORST_PACER
    ((worst.map Prod.fst).getD (ps.headD 0))).setFlag PMU_GOV_WORST_VALID (decide (ps ≠ []))

theorem governorInterval_on {s : State} (h : s.dev.off = false) : exec .governorInterval s =
    .next (s.worstShown.governorActs (s.governorSteps ((upto 64).filter s.takesPart))
      (s.worstRegion ((upto 64).filter s.takesPart))).endInterval := if_neg (by simp [h])

section
variable (s : State)

theorem worstShown_fr : Fr [] [PMU_GOV_WORST] s s.worstShown :=
  fr_setFlag (f := PMU_GOV_WORST_VALID) (fr_set (f := PMU_GOV_WORST_PACER) (fr_set (f := PMU_GOV_WORST_SLACK)
    (Fr.refl _ _ s) (by decide) _) (by decide) _) (by decide) _

theorem worstShown_valid : s.worstShown.flag PMU_GOV_WORST_VALID = (upto 64).any s.takesPart := by
  have h : s.worstShown.flag PMU_GOV_WORST_VALID = decide ((upto 64).filter s.takesPart ≠ []) :=
    State.flag_setFlag_self _ PMU_GOV_WORST_VALID (by decide) rfl _
  rw [h, Bool.eq_iff_iff, decide_eq_true_iff, Ne, filter_takesPart_eq_nil, Bool.not_eq_false]

theorem worstShown_least {p v : Nat} (hp : p < 64) (ht : s.takesPart p = true) (hv : s.regionSlack p = some v)
    (hlt : v < 16384)
    (h : ∀ q w, q < 64 → s.takesPart q = true → s.regionSlack q = some w → v ≤ w ∧ (w = v → p ≤ q)) :
    s.worstShown.get PMU_GOV_WORST_PACER = p ∧ s.worstShown.get PMU_GOV_WORST_SLACK = v := by
  have hw : s.worstRegion ((upto 64).filter s.takesPart) = some (p, v) := by
    refine worstRegion_least (List.pairwise_lt_range.filter _)
      (List.mem_filter.2 ⟨List.mem_range.2 hp, ht⟩) hv fun q hq w hqw => ?_
    obtain ⟨hr, hq⟩ := List.mem_filter.1 hq
    exact h q w (List.mem_range.1 hr) hq hqw
  unfold State.worstShown
  dsimp only
  rw [hw, State.get_setFlag_apart _ (by decide), State.get_setFlag_apart _ (by decide),
    State.get_set_self _ PMU_GOV_WORST_PACER (by decide), State.get_set_apart _ (by decide),
    State.get_set_self _ PMU_GOV_WORST_SLACK (by decide)]
  exact ⟨Nat.mod_eq_of_lt hp, Nat.mod_eq_of_lt hlt⟩

end

/-- The last part of O49: what an interval of the governor leads to. -/
theorem governorInterval_spec {s : State} (h : s.dev.off = false) {n : Int}
    (hn : n = s.governorSteps ((upto 64).filter s.takesPart)) :
    ∃ t, exec .governorInterval s = .next t ∧ t.flag PMU_GOV_WORST_VALID = (upto 64).any s.takesPart ∧
      (∀ p v, p < 64 → s.takesPart p = true → s.regionSlack p = some v → v < 16384 →
        (∀ q w, q < 64 → s.takesPart q = true → s.regionSlack q = some w → v ≤ w ∧ (w = v → p ≤ q)) →
        t.get PMU_GOV_WORST_PACER = p ∧ t.get PMU_GOV_WORST_SLACK = v) ∧
      t.flag PMU_GOV_STATUS_AT_MAX = (decide (0 < n) && decide (900 ≤ s.vddF)) ∧
      (∀ p, p < 64 → t.pacer p = { s.pacer p with slackVal := s.regionSlack p, ivSlack := none, ivLate := false }) ∧
      t.pow = { s.pow with reqF := s.govRequest n } ∧
      Framed (.pace :: .pow :: evParts) (PMU_GOV_WORST :: PMU_GOV_STATUS :: bookKeys) s t ∧
      (n ≤ 0 ∨ s.vddF < 900 ∨ s.flag PMU_GOV_STATUS_AT_MAX = true →
        Framed [.pace, .pow] [PMU_GOV_WORST, PMU_GOV_STATUS] s t) := by
  refine ⟨_, governorInterval_on h, ?_⟩
  rw [← hn]
  generalize s.worstRegion ((upto 64).filter s.takesPart) = worst
  have hu := worstShown_fr s
  have hvalid := worstShown_valid s
  have hleast := @worstShown_least s
  have hpu : s.worstShown.pow = s.pow := rfl
  generalize s.worstShown = u at *
  have ha := governorActs_spec u n worst
  generalize u.governorActs n worst = a at *
  have he := endInterval_fr a
  have hv : u.vddF = s.vddF := hu.get (f := PMU_GOV_STATUS_SETPOINT_MV) (by decide)
  have hl : u.lowerBound = s.lowerBound := lowerBound_fr hu (by decide) (by decide)
  have hfm : u.flag PMU_GOV_STATUS_AT_MAX = s.flag PMU_GOV_STATUS_AT_MAX := hu.flag (by decide)
  have hfa : u.flag PMU_STATUS_AVS_FAULT = s.flag PMU_STATUS_AVS_FAULT := hu.flag (by decide)
  obtain ⟨hmax, hpow, hfr, hquiet⟩ := ha
  rw [hv] at hmax
  rw [hv, hl, hfa, hpu] at hpow
  rw [hv, hfm] at hquiet
  have hpace : a.pace = s.pace := (hfr.frame.part .pace (by decide)).trans (hu.frame.part .pace (by decide))
  have hpacer (p : Nat) : a.pacer p = s.pacer p := congrArg (fun x : PaceState => Tab.get pacer0 x.pacers p) hpace
  have hslack (p : Nat) : a.regionSlack p = s.regionSlack p := by
    unfold State.regionSlack
    rw [hpacer]
  have hnw : PMU_GOV_WORST ∉ PMU_GOV_STATUS :: bookKeys := by decide
  refine ⟨?_, ?_, ?_, ?_, ?_, ?_, ?_⟩
  · exact (he.flag List.not_mem_nil).trans ((hfr.flag hnw).trans hvalid)
  · intro p v hp ht hs hlt hmin
    rw [he.get List.not_mem_nil, he.get List.not_mem_nil, hfr.get hnw, hfr.get hnw]
    exact hleast hp ht hs hlt hmin
  · exact (he.flag List.not_mem_nil).trans hmax
  · intro p hp
    rw [endInterval_pacer a hp, hpacer, hslack]
  · exact (he.frame.part .pow (by decide)).trans hpow
  · exact (((hu.mono (List.nil_subset _) (by decide)).trans (hfr.mono (by decide) (by decide))).trans
      (he.mono (by decide) (List.nil_subset _)) : Fr _ _ s _).frame
  · intro hq
    exact (((hu.mono (List.nil_subset _) (by decide)).trans ((hquiet hq).mono (by decide) (by decide))).trans
      (he.mono (by decide) (List.nil_subset _)) : Fr _ _ s _).frame

end Sys2Proof.Machine
end

section
/-! SUPPORT.  An IR-drop alarm (R23, R43, R44, R407): its record, the open faults of the column, the mats that move away. -/

namespace Sys2Proof.Machine

open Sys2Proof

/-! ### Reserve mats and the counters of the package -/

/-- Which mats are reserves does not show in the registers below 0x7000. -/
theorem isReserve_regs {s : State} {r : Tab Reg} (h : SameAbove s { s with regs := r }) (p : Nat) :
    ({ s with regs := r } : State).isReserve p = s.isReserve p := by
  have hslot (m k : Nat) : ({ s with regs := r } : State).slotState m k = s.slotState m k :=
    h.get (by show 0x7000 ≤ COL_CTX_STATE _ _; unfold COL_CTX_STATE; omega)
  have hkind (x : Nat) : ({ s with regs := r } : State).get (XL_OWNER_KIND x) = s.get (XL_OWNER_KIND x) :=
    h.get (by show 0x7000 ≤ XL_OWNER x; unfold XL_OWNER; omega)
  have hmat (x : Nat) : ({ s with regs := r } : State).get (XL_OWNER_MAT x) = s.get (XL_OWNER_MAT x) :=
    h.get (by show 0x7000 ≤ XL_OWNER x; unfold XL_OWNER; omega)
  have hfk (x : Nat) : ({ s with regs := r } : State).get (FP_OWNER_KIND x) = s.get (FP_OWNER_KIND x) :=
    h.get (by show 0x7000 ≤ FP_OWNER x; unfold FP_OWNER; omega)
  have hfi (x : Nat) : ({ s with regs := r } : State).get (FP_OWNER_ID x) = s.get (FP_OWNER_ID x) :=
    h.get (by show 0x7000 ≤ FP_OWNER x; unfold FP_OWNER; omega)
  have hgk (x : Nat) : ({ s with regs := r } : State).get (GPIO_OWNER_KIND x) = s.get (GPIO_OWNER_KIND x) :=
    h.get (by show 0x7000 ≤ GPIO_OWNER x; unfold GPIO_OWNER; omega)
  have hgm (x : Nat) : ({ s with regs := r } : State).get (GPIO_OWNER_MAT x) = s.get (GPIO_OWNER_MAT x) :=
    h.get (by show 0x7000 ≤ GPIO_OWNER x; unfold GPIO_OWNER; omega)
  have hpin (v : Nat) : ({ s with regs := r } : State).pinMat v = s.pinMat v := by
    unfold State.pinMat
    simp only [hfk, hfi, hgk, hgm]
  have hidle (m : Nat) : ({ s with regs := r } : State).matIdle m = s.matIdle m := by
    unfold State.matIdle State.pinsOf
    simp only [hkind, hmat, hpin]
    rfl
  unfold State.isReserve
  simp only [hslot, hidle]
  rfl

theorem count_regs (s : State) (k : Nat) (f : Fld) (n : Nat) : s.count k f n = { s with regs := (s.count k f n).regs } := by
  unfold State.count
  split
  · rfl
  · split <;> rfl

theorem isReserve_count (s : State) {k : Nat} {f : Fld} (hk : k < 0x7000) (hf : f.reg < 0x7000) (n p : Nat) :
    (s.count k f n).isReserve p = s.isReserve p := by
  have h : Fr [] [k, f.reg] s (s.count k f n) := fr_count (Fr.refl _ _ s) (by simp) (by simp) n
  have ha : SameAbove s (s.count k f n) := h.above (by simp [hk, hf])
  rw [count_regs] at ha ⊢
  exact isReserve_regs ha p

/-! ### Open faults and mats wanted (R23, R43) -/

theorem mem_insNat {x m : Nat} {l : List Nat} : x ∈ insNat m l ↔ x = m ∨ x ∈ l := by
  induction l with
  | nil => simp [insNat]
  | cons y l ih =>
    unfold insNat
    split
    · exact List.mem_cons
    · split
      next h => simp [h]
      next => rw [List.mem_cons, List.mem_cons, ih]; tauto

section
variable (s : State)

/-- The mats that are to move, and nothing else. -/
theorem wantAll_wanted (l : List Nat) : (l.foldl State.wantReloc s).mnt.wanted = l.foldl (fun w m => insNat m w) s.mnt.wanted :=
  (List.foldl_hom (fun s : State => s.mnt.wanted) fun _ _ => rfl).symm

theorem mem_wantAll {p : Nat} {l w : List Nat} (h : p ∈ l ∨ p ∈ w) : p ∈ l.foldl (fun w m => insNat m w) w := by
  induction l generalizing w with
  | nil => exact h.resolve_left List.not_mem_nil
  | cons m l ih =>
    refine ih ?_
    rw [mem_insNat]
    rcases h with h | h
    · exact (List.mem_cons.1 h).elim (fun e => .inr (.inl e)) .inl
    · exact .inr (.inr h)

theorem wantReloc_fr (m : Nat) : Fr [.mnt] [] s (s.wantReloc m) := fr_mk (Fr.refl _ _ s) (by simp) rfl

theorem wantAll_fr (l : List Nat) : Fr [.mnt] [] s (l.foldl State.wantReloc s) :=
  fr_foldl (Fr.refl _ _ s) (fun t m h => h.trans (wantReloc_fr t m)) l

/-- The open faults of a column with a supply fault of each of the mats. -/
def withSupply (mats : List Nat) (l : List FaultItem) : List FaultItem :=
  mats.foldl (fun l p => if .supply (matG p) ∈ l then l else l ++ [.supply (matG p)]) l

theorem mem_withSupply_of_mem {x : FaultItem} {mats : List Nat} {l : List FaultItem} (h : x ∈ l) : x ∈ withSupply mats l := by
  unfold withSupply
  induction mats generalizing l with
  | nil => exact h
  | cons m mats ih =>
    refine ih ?_
    dsimp only
    split
    · exact h
    · exact List.mem_append_left _ h

theorem supply_mem_withSupply {p : Nat} {mats : List Nat} {l : List FaultItem} (h : p ∈ mats) :
    .supply (matG p) ∈ withSupply mats l := by
  obtain ⟨l1, l2, rfl⟩ := List.append_of_mem h
  unfold withSupply
  rw [List.foldl_append, List.foldl_cons]
  refine mem_withSupply_of_mem (mats := l2) ?_
  split
  next h => exact h
  next => exact List.mem_append_right _ (List.mem_singleton_self _)

variable (y c : Nat)

theorem openSupply_faults (mats : List Nat) : (s.openSupply y c mats).openFaults y c = withSupply mats (s.openFaults y c) :=
  Tab.get_put_self ..

theorem openSupply_fr (mats : List Nat) : Fr [.col] (supKeys y) s (s.openSupply y c mats) := by
  have h : Fr [.col] (supKeys y) s
      { s with col := { s.col with open_ := Tab.put nil0 s.col.open_ (y * 256 + c) (withSupply mats (s.openFaults y c)) } } :=
    fr_mk (Fr.refl _ _ s) (by simp) rfl
  exact fr_set (f := LSUP_STATUS_OPEN_FAULTS y) h (by simp [supKeys, LSUP_STATUS_OPEN_FAULTS]) _

theorem noteFault_fr (code src : Nat) : Fr [] (supKeys y) s (s.noteFault y code src) := by
  have hl : LSUP_LAST y ∈ supKeys y := by simp [supKeys]
  refine fr_count (fr_set (f := LSUP_LAST_CODE y) (fr_set (f := LSUP_LAST_SOURCE y) (Fr.refl _ _ s) hl _) hl _) ?_ ?_ 1
  · simp [supKeys]
  · simp [supKeys, LSUP_SAT_FAULTS]

/-! ### POWER_DEGRADED (R44) -/

/-- A bit that is set stays set while others are. -/
theorem bit_setBit_mono {k i : Nat} {s : State} (h : s.bit k i = true) (j : Nat) {m : Nat} (hm : m < 32) :
    (s.setBit j m true).bit k i = true := by
  by_cases he : k = j
  · subst he
    by_cases hi : i = m
    · subst hi
      exact bit_setBit_self s k hm true
    · exact (bit_setBit_ne s k hi true).trans h
  · refine (State.flag_setFlag_apart s (f := ⟨j, m, 1⟩) (g := ⟨k, i, 1⟩) ?_ true).trans h
    simp [fldsApart, Ne.symm he]

end

end Sys2Proof.Machine
end

section
/-! SUPPORT.  POWER_DEGRADED as the supervisors show it, and IR_DROP as a whole (R23, R43, R44, R407, R476). -/

namespace Sys2Proof.Machine

open Sys2Proof

/-! ### Tables of Booleans -/

theorem Tab.mem_of_find {α : Type} {t : Tab α} {q : Nat} {x : α} (h : Tab.find t q = some x) : (q, x) ∈ t := by
  induction t with
  | nil => cases h
  | cons e t ih =>
    obtain ⟨k, v⟩ := e
    unfold Tab.find at h
    split at h
    next hk => rw [hk, Option.some.inj h]; exact List.mem_cons_self ..
    next => exact List.mem_cons_of_mem _ (ih h)

/-- A key that is set has an entry. -/
theorem Tab.exists_mem_of_get {t : Tab Bool} {k : Nat} (h : Tab.get bool0 t k = true) : ∃ e ∈ t, e.1 = k := by
  unfold Tab.get at h
  cases hf : Tab.find t k with
  | none => rw [hf] at h; cases h
  | some x => exact ⟨_, Tab.mem_of_find hf, rfl⟩

/-- The keys after a put lie under a bound that they and the key lay under. -/
theorem Tab.put_keys_lt {α : Type} [DecidableEq α] {d : Nat → α} {t : Tab α} {n q : Nat} (ht : ∀ e ∈ t, e.1 < n)
    (hq : q < n) (x : α) : ∀ e ∈ Tab.put d t q x, e.1 < n := by
  intro e he
  unfold Tab.put at he
  split at he
  · exact ht e (Tab.mem_erase he)
  · rcases Tab.mem_insert he with rfl | he
    · exact hq
    · exact ht e he

/-! ### The supervisors' registers -/

/-- A frame without the activities' part keeps the mats that await a relocation. -/
theorem Fr.wanted {ps : List Part} {ks : List Nat} {s t : State} (h : Fr ps ks s t) (hp : Part.mnt ∉ ps) :
    t.mnt.wanted = s.mnt.wanted := (congrArg MntState.wanted (h.frame.part .mnt hp) :)

/-- The registers of all layer supervisors that a reported fault and its repair write. -/
abbrev allSupKeys : List Nat := (upto 5).flatMap supKeys

theorem supKeys_subset {y : Nat} (hy : y < 5) : supKeys y ⊆ allSupKeys := fun _ hk =>
  List.mem_flatMap.2 ⟨y, List.mem_range.2 hy, hk⟩

/-- The supervisor of a layer shows one column as degraded: its bit, and the layer's own. -/
def State.degradeShown (s : State) (k : Nat) : State :=
  (s.setBit (LSUP_DEGRADED (k / 256) (k % 256 / 32)) (k % 256 % 32) true).setFlag (LSUP_STATUS_POWER_DEGRADED (k / 256)) true

section
variable {s : State}

theorem showDegraded_eq : s.showDegraded = s.pow.degraded.foldl (fun s e => s.degradeShown e.1) s := rfl

/-- A bit that is set stays set. -/
theorem degradeShown_mono {j i : Nat} (k : Nat) (h : s.bit j i = true) : (s.degradeShown k).bit j i = true :=
  bit_setBit_mono (bit_setBit_mono h _ (Nat.mod_lt _ (by decide))) _ (by decide)

theorem degradeShown_column (k : Nat) :
    (s.degradeShown k).bit (LSUP_DEGRADED (k / 256) (k % 256 / 32)) (k % 256 % 32) = true :=
  bit_setBit_mono (bit_setBit_self s _ (Nat.mod_lt _ (by decide)) true) _ (by decide)

theorem degradeShown_layer (k : Nat) : (s.degradeShown k).flag (LSUP_STATUS_POWER_DEGRADED (k / 256)) = true :=
  State.flag_setFlag_self _ (LSUP_STATUS_POWER_DEGRADED (k / 256)) (show 4 + 1 ≤ 32 by decide) rfl true

theorem degradeShown_fr {k : Nat} (hk : k < 1280) : Fr [] allSupKeys s (s.degradeShown k) := by
  have hsub : supKeys (k / 256) ⊆ allSupKeys := supKeys_subset (by omega)
  refine fr_setFlag (f := LSUP_STATUS_POWER_DEGRADED (k / 256)) (fr_setBit (Fr.refl _ _ s) (hsub ?_) true) (hsub ?_) true
  · exact List.mem_append_right _ (List.mem_map_of_mem (List.mem_range.2 (by omega)))
  · exact List.mem_append_left _ (List.mem_cons_self ..)

theorem showDegraded_fr (h : ∀ e ∈ s.pow.degraded, e.1 < 1280) : Fr [] allSupKeys s s.showDegraded := by
  rw [showDegraded_eq]
  exact List.foldlRecOn (motive := Fr [] allSupKeys s) _ _ (Fr.refl _ _ s) fun t ht e he => ht.trans (degradeShown_fr (h e he))

/-- Every degraded column shows. -/
theorem showDegraded_shows {k : Nat} (h : Tab.get bool0 s.pow.degraded k = true) :
    s.showDegraded.bit (LSUP_DEGRADED (k / 256) (k % 256 / 32)) (k % 256 % 32) = true ∧
    s.showDegraded.flag (LSUP_STATUS_POWER_DEGRADED (k / 256)) = true := by
  obtain ⟨e, he, rfl⟩ : ∃ e ∈ s.pow.degraded, e.1 = k := Tab.exists_mem_of_get h
  rw [showDegraded_eq]
  obtain ⟨l1, l2, hl⟩ := List.append_of_mem he
  rw [hl, List.foldl_append, List.foldl_cons]
  generalize l1.foldl (fun s e => s.degradeShown e.1) s = u
  have hm {j i : Nat} (hb : (u.degradeShown e.1).bit j i = true) :
      (l2.foldl (fun s e => s.degradeShown e.1) (u.degradeShown e.1)).bit j i = true :=
    List.foldlRecOn (motive := fun s : State => s.bit j i = true) _ _ hb fun t ht a _ => degradeShown_mono a.1 ht
  exact ⟨hm (degradeShown_column e.1), hm (degradeShown_layer e.1)⟩

theorem noteReserves_books (before : List (Nat × Nat)) : Books s (s.noteReserves before) :=
  books_foldl (Books.refl s) (fun _ _ h => raise_books _ _ _ h) _

end

/-! ### IR_DROP (R407) -/

/-- The mats that the alarm of a column of layer y moves away. -/
def State.irMoves (s : State) (y c : Nat) : List Nat :=
  (if y = 1 then [matOf c 0] else if y = 3 then [matOf c 1] else [matOf c 0, matOf c 1]).filter
    (fun p => !(s.isReserve p || s.matRetired p))

/-- The record of a column's alarm (R44). -/
def State.irRecorded (s : State) (k : Nat) : State :=
  { s with pow := { s.pow with degraded := Tab.put bool0 s.pow.degraded k true,
                               irRecords := Tab.put bool0 s.pow.irRecords k true } }

/-- What an alarm that exceeds the limit makes of a state whose IR-drop counter has counted it. -/
def State.irTaken (s : State) (y c : Nat) (moves : List Nat) (data : List (Nat × Nat × Nat)) : State :=
  let u := ((s.raise 0x8E04 (srcIrMonitor y c) data).noteFault y 0x8E04 (srcIrMonitor y c)).openSupply y c moves
  ((moves.foldl State.wantReloc (u.irRecorded (y * 256 + c))).showDegraded).noteReserves u.lowQuads

section
variable {s : State}

theorem irMoves_count (y c : Nat) : (s.count PMU_IRS ⟨PMU_SAT, 8, 1⟩ 1).irMoves y c = s.irMoves y c := by
  have hr (p : Nat) : (s.count PMU_IRS ⟨PMU_SAT, 8, 1⟩ 1).isReserve p = s.isReserve p :=
    isReserve_count s (by decide) (by decide) 1 p
  have hm (p : Nat) : (s.count PMU_IRS ⟨PMU_SAT, 8, 1⟩ 1).matRetired p = s.matRetired p := by
    rw [count_regs]
    rfl
  unfold State.irMoves
  simp only [hr, hm]

theorem irDrop_below {layer : Fin 4} {col : ColId} {here l0 : BitVec 16}
    (h : l0.toNat ≤ here.toNat + max 30 (s.get PMU_IR_CTL_LIMIT_MV)) : exec (.irDrop layer col here l0) s = .next s := if_pos h

theorem irDrop_alarm {layer : Fin 4} {col : ColId} {here l0 : BitVec 16}
    (h : here.toNat + max 30 (s.get PMU_IR_CTL_LIMIT_MV) < l0.toNat) : ∃ data, exec (.irDrop layer col here l0) s =
      .next ((s.count PMU_IRS ⟨PMU_SAT, 8, 1⟩ 1).irTaken (layer.val + 1) col.val
        (s.irMoves (layer.val + 1) col.val) data) := by
  rw [← irMoves_count]
  exact ⟨_, if_neg (Nat.not_le.2 h)⟩

/-- What the alarm leads to, of a state whose counter has counted it. -/
theorem irTaken_spec {y c : Nat} (hy : y < 5) (hc : c < 256) (hd : ∀ e ∈ s.pow.degraded, e.1 < 1280) (moves : List Nat)
    (data : List (Nat × Nat × Nat)) : ∃ t, s.irTaken y c moves data = t ∧
      Tab.get bool0 t.pow.degraded (y * 256 + c) = true ∧ Tab.get bool0 t.pow.irRecords (y * 256 + c) = true ∧
      t.bit (LSUP_DEGRADED y (c / 32)) (c % 32) = true ∧ t.flag (LSUP_STATUS_POWER_DEGRADED y) = true ∧
      t.openFaults y c = withSupply moves (s.openFaults y c) ∧
      t.mnt.wanted = moves.foldl (fun w m => insNat m w) s.mnt.wanted ∧
      Fr (.pow :: .col :: .mnt :: evParts) (allSupKeys ++ bookKeys) s t := by
  refine ⟨_, rfl, ?_⟩
  unfold State.irTaken
  dsimp only
  have hr := raise_fr s 0x8E04 (srcIrMonitor y c) data
  have hrw : (s.raise 0x8E04 (srcIrMonitor y c) data).mnt.wanted = s.mnt.wanted :=
    (raise_books _ _ _ (Books.refl s)).mnt_wanted
  generalize s.raise 0x8E04 (srcIrMonitor y c) data = a at *
  have hn := noteFault_fr a y 0x8E04 (srcIrMonitor y c)
  generalize a.noteFault y 0x8E04 (srcIrMonitor y c) = b at *
  have ho := openSupply_fr b y c moves
  have hof := openSupply_faults b y c moves
  generalize b.openSupply y c moves = u at *
  have hk : y * 256 + c < 1280 := by omega
  have hky : (y * 256 + c) / 256 = y := by omega
  have hkc : (y * 256 + c) % 256 = c := by omega
  have hsup := supKeys_subset hy
  have hsu : Fr (.pow :: .col :: .mnt :: evParts) (allSupKeys ++ bookKeys) s u :=
    ((hr.mono (by decide) (List.subset_append_right _ _)).trans
      (hn.mono (List.nil_subset _) (List.Subset.trans hsup (List.subset_append_left _ _)))).trans
      (ho.mono (by decide) (List.Subset.trans hsup (List.subset_append_left _ _)))
  have hpow : u.pow = s.pow := (ho.frame.part .pow (by decide)).trans
    ((hn.frame.part .pow (by decide)).trans (hr.frame.part .pow (by decide)))
  have hcol : b.col = s.col := (hn.frame.part .col (by decide)).trans (hr.frame.part .col (by decide))
  have hfaults : u.openFaults y c = withSupply moves (s.openFaults y c) := by
    rw [hof]
    unfold State.openFaults
    rw [hcol]
  have hwant : u.mnt.wanted = s.mnt.wanted := by
    rw [ho.wanted (by decide), hn.wanted (by decide), hrw]
  have hv : Fr (.pow :: .col :: .mnt :: evParts) (allSupKeys ++ bookKeys) s (u.irRecorded (y * 256 + c)) :=
    fr_pow hsu (List.mem_cons_self ..) _
  have hdeg : ∀ e ∈ (u.irRecorded (y * 256 + c)).pow.degraded, e.1 < 1280 :=
    Tab.put_keys_lt (d := bool0) (fun e he => hd e (hpow ▸ he)) hk true
  have hvd : Tab.get bool0 (u.irRecorded (y * 256 + c)).pow.degraded (y * 256 + c) = true :=
    Tab.get_put_self bool0 u.pow.degraded _ true
  have hvi : Tab.get bool0 (u.irRecorded (y * 256 + c)).pow.irRecords (y * 256 + c) = true :=
    Tab.get_put_self bool0 u.pow.irRecords _ true
  have hvf : (u.irRecorded (y * 256 + c)).openFaults y c = withSupply moves (s.openFaults y c) := hfaults
  have hvw : (u.irRecorded (y * 256 + c)).mnt.wanted = s.mnt.wanted := hwant
  generalize u.irRecorded (y * 256 + c) = v at *
  have hw := wantAll_fr v moves
  have hww := wantAll_wanted v moves
  generalize moves.foldl State.wantReloc v = w at *
  have hwp : w.pow = v.pow := hw.frame.part .pow (by decide)
  have hx : Fr [] allSupKeys w w.showDegraded := showDegraded_fr (by rwa [hwp])
  obtain ⟨hbit, hflag⟩ := showDegraded_shows (s := w) (k := y * 256 + c) (by rw [hwp]; exact hvd)
  rw [hky, hkc] at hbit
  rw [hky] at hflag
  generalize w.showDegraded = x at *
  have ht := noteReserves_books (s := x) u.lowQuads
  generalize x.noteReserves u.lowQuads = t at *
  have htp : t.pow = v.pow := ht.pow.trans ((hx.frame.part .pow (by decide)).trans hwp)
  have htc : t.col = v.col := ht.col.trans ((hx.frame.part .col (by decide)).trans (hw.frame.part .col (by decide)))
  refine ⟨by rw [htp]; exact hvd, by rw [htp]; exact hvi, ?_, ?_, ?_, ?_, ?_⟩
  · refine (ht.flag (f := ⟨LSUP_DEGRADED y (c / 32), c % 32, 1⟩) (not_mem_bookKeys ?_)).trans hbit
    show 0x30000 ≤ LSUP_DEGRADED y (c / 32)
    unfold LSUP_DEGRADED
    omega
  · refine (ht.flag (f := LSUP_STATUS_POWER_DEGRADED y) (not_mem_bookKeys ?_)).trans hflag
    show 0x30000 ≤ LSUP_STATUS y
    unfold LSUP_STATUS
    omega
  · refine Eq.trans ?_ hvf
    unfold State.openFaults
    rw [htc]
  · rw [ht.mnt_wanted, hx.wanted (by decide), hww, hvw]
  · exact fr_books ((hv.trans (hw.mono (by decide) (List.nil_subset _))).trans
      (hx.mono (List.nil_subset _) (List.subset_append_left _ _))) ht (by decide) (List.subset_append_right _ _)

/-- The third part of O49: what an alarm that exceeds the limit leads to. -/
theorem irDrop_spec {layer : Fin 4} {col : ColId} {here l0 : BitVec 16} {y : Nat} {moves : List Nat} (hy : y = layer.val + 1)
    (hm : moves = s.irMoves y col.val) (h : here.toNat + max 30 (s.get PMU_IR_CTL_LIMIT_MV) < l0.toNat)
    (hd : ∀ e ∈ s.pow.degraded, e.1 < 1280) :
    ∃ t, exec (.irDrop layer col here l0) s = .next t ∧ Tab.get bool0 t.pow.degraded (y * 256 + col.val) = true ∧
      Tab.get bool0 t.pow.irRecords (y * 256 + col.val) = true ∧
      t.bit (LSUP_DEGRADED y (col.val / 32)) (col.val % 32) = true ∧ t.flag (LSUP_STATUS_POWER_DEGRADED y) = true ∧
      (t.rd PMU_IRS).toNat = min 0xFFFFFFFF ((s.rd PMU_IRS).toNat + 1) ∧
      (∀ p ∈ moves, .supply (matG p) ∈ t.openFaults y col.val ∧ p ∈ t.mnt.wanted) ∧
      (∀ f ∈ s.openFaults y col.val, f ∈ t.openFaults y col.val) ∧ (∀ p ∈ s.mnt.wanted, p ∈ t.mnt.wanted) ∧
      (moves = [] → t.mnt.wanted = s.mnt.wanted ∧ t.openFaults y col.val = s.openFaults y col.val) ∧
      Framed (.pow :: .col :: .mnt :: evParts) (PMU_IRS :: PMU_SAT :: (allSupKeys ++ bookKeys)) s t := by
  obtain ⟨data, he⟩ := irDrop_alarm (layer := layer) (col := col) h
  rw [← hy, ← hm] at he
  have hcount : ((s.count PMU_IRS ⟨PMU_SAT, 8, 1⟩ 1).rd PMU_IRS).toNat = min 0xFFFFFFFF ((s.rd PMU_IRS).toNat + 1) :=
    rd_count s PMU_IRS 1 (by decide) (by decide)
  have hfc : Fr (.pow :: .col :: .mnt :: evParts) (PMU_IRS :: PMU_SAT :: (allSupKeys ++ bookKeys)) s
      (s.count PMU_IRS ⟨PMU_SAT, 8, 1⟩ 1) := fr_count (Fr.refl _ _ s) (by simp) (by simp) 1
  have hp : (s.count PMU_IRS ⟨PMU_SAT, 8, 1⟩ 1).pow = s.pow := by rw [count_regs]
  have hf : (s.count PMU_IRS ⟨PMU_SAT, 8, 1⟩ 1).openFaults y col.val = s.openFaults y col.val := by rw [count_regs]; rfl
  have hw : (s.count PMU_IRS ⟨PMU_SAT, 8, 1⟩ 1).mnt.wanted = s.mnt.wanted := by rw [count_regs]
  generalize s.count PMU_IRS ⟨PMU_SAT, 8, 1⟩ 1 = a at *
  obtain ⟨t, rfl, hdeg, hrec, hbit, hflag, hfaults, hwanted, hfr⟩ :=
    irTaken_spec (s := a) (y := y) (by omega) col.isLt (by rwa [hp]) moves data
  rw [hf] at hfaults
  rw [hw] at hwanted
  refine ⟨_, he, hdeg, hrec, hbit, hflag, ?_, fun p hp => ⟨?_, ?_⟩, fun f hf => ?_, fun p hp => ?_, ?_, ?_⟩
  · rw [hfr.frame.reg PMU_IRS (by decide)]
    exact hcount
  · rw [hfaults]
    exact supply_mem_withSupply hp
  · rw [hwanted]
    exact mem_wantAll (.inl hp)
  · rw [hfaults]
    exact mem_withSupply_of_mem hf
  · rw [hwanted]
    exact mem_wantAll (.inr hp)
  · rintro rfl
    exact ⟨hwanted, hfaults⟩
  · exact (hfc.trans (hfr.mono (List.Subset.refl _)
      (List.Subset.trans (List.subset_cons_self _ _) (List.subset_cons_self _ _)))).frame

end

end Sys2Proof.Machine
end

section
/-! SUPPORT.  Package power, IR drop and the speed governor: the obligation. -/

namespace Sys2Proof.Machine

open Sys2Proof

/-- Settles O49: a measurement, a cap held too long, an IR-drop alarm and an interval of the governor, each by what its command
leads to. -/
theorem packagePowerComplete : Obligations.PackagePowerComplete := by
  unfold Obligations.PackagePowerComplete
  refine ⟨?measurement, ?critical, ?irDrop, ?interval⟩
  case measurement =>
    intro s rails mw avg w was act held hmw hw havg hwas hact hheld
    exact ⟨fun hoff => if_pos hoff, fun hon => powerMeasurement_spec hon hmw hw havg hwas hact hheld⟩
  case critical =>
    intro s due hdue
    refine ⟨fun h => powerCapExceeded_early (hdue.symm.trans h), fun h => ?_⟩
    obtain ⟨t, he, hc⟩ := powerCapExceeded_due (s := s) (hdue.symm.trans h)
    exact ⟨t, he, hc.critical, hc.rdy, hc.cause, hc.fault, hc.fOff, hc.since, hc.pins⟩
  case irDrop =>
    intro s layer col here l0 y moves hy hm
    exact ⟨irDrop_below, irDrop_spec hy hm⟩
  case interval =>
    intro s low some_ n hlow hsome hn
    subst hlow hsome
    exact ⟨fun hoff => if_pos hoff, fun hon => governorInterval_spec hon (hn.trans (governorSteps_eq s).symm)⟩

end Sys2Proof.Machine
end

section
/-! SUPPORT.  A state whose pending gate action names a pin that the device has not. -/

namespace Sys2Proof.Machine

open Sys2Proof

/-- Track 0 counts the encoder at the pins of FP port 0 and stands at 0x80000. Its one action, which ends at any position from 0 on,
has the pin number 56514: the owner register of that pin would stand where the position of track 0 stands. -/
def strayPinState : State :=
  let s := (State.reset.set (TAL_TRK_CFG_SOURCE 0) 1).setFlag (TAL_TRK_CFG_EN 0) true
  let s := ((s.set (FP_OWNER_KIND 0) 2).set (FP_OWNER_KIND 1) 2).setFlag CLK_STATUS_HREF_PRESENT true
  let s := (((s.set (FP_CFG_MODE 0) 3).set (FP_CFG_MODE 1) 3).wr (TAL_TRK_POS_LO 0) 0x80000)
  { s with tal := { s.tal with acts := [
      { track := 0, engine := 0, station := 0, tally := 0, pin := 56514, level := false, pon := 0, len := 0, pulse := false,
        asserted := true, acted := true, since := 0 }] } }

/-- The edge is one that the track counts. -/
theorem strayPinState_counts :
    strayPinState.get (TAL_TRK_CFG_SOURCE 0) = 1 ∧ strayPinState.get (TAL_TRK_CFG_SRC_ARG 0) = 0 ∧
    strayPinState.portOfEngine 0 (strayPinState.trackEngine 0) = true ∧
    strayPinState.portOfEngine 1 (strayPinState.trackEngine 0) = true ∧ strayPinState.get (FP_CFG_MODE 0) = 3 ∧
    strayPinState.get (FP_CFG_MODE 1) = 3 ∧ strayPinState.flag CLK_STATUS_HREF_PRESENT = true ∧
    strayPinState.trackOn 0 = true := by
  decide +kernel

/-- The edge counts the position up, and the end of the action clears bit 19 of the position. -/
theorem strayPinState_edge :
    (nextOr strayPinState (exec (.encoderEdge 0 true false) strayPinState)).trackPos 0 = 1 := by
  decide +kernel

/-- The position that the track should have after the edge is the next one. -/
theorem strayPinState_up : (if (encUp (Tab.get enc0 strayPinState.tal.enc 0) true false !=
      strayPinState.flag (TAL_TRK_CFG_DIR 0)) = true
    then strayPinState.trackPos 0 + 1 else strayPinState.trackPos 0 - 1) = 0x80001 := by
  decide +kernel

end Sys2Proof.Machine
end

section
namespace Sys2Proof.Machine

open Sys2Proof

/-- Refutes O27: an action's pin is any number, and at the end of the action the charter bit of pin 56514 is cleared in the
position of track 0. -/
theorem not_positionsMove : ¬ Obligations.PositionsMove := by
  unfold Obligations.PositionsMove
  intro ⟨edge, _, _⟩
  obtain ⟨hsrc, harg, hown, hown', hmode, hmode', href, hon⟩ := strayPinState_counts
  obtain ⟨t, hexec, hpos, _⟩ :=
    (edge strayPinState 0 true false 0 hsrc harg (by decide) hown hown' hmode hmode' href hon).1 (by decide)
  have hstray : t.trackPos 0 = 1 := by
    have := strayPinState_edge
    rwa [hexec] at this
  exact absurd ((hstray.symm.trans hpos).trans strayPinState_up) (by decide)

end Sys2Proof.Machine
end

section
/-! SUPPORT.  A crosier load that names an AX port which the device has not. -/

namespace Sys2Proof.Machine

open Sys2Proof

/-- The load of mat 0 alone, written and waiting for its comparisons, for AX port 32296: the status register of that AX port
would stand where the gate status of mat 0 stands. -/
def strayAxLoad : Crosier :=
  { ref := none, inst := some 32296, mats := [0], entry := none, enteredAt := 0, limit := 0, stage := 1, latched := [], back := [] }

/-- Mat 0 runs its context in slot 1 and is in the load's region. -/
def strayAxState : State :=
  let s := State.reset.set (COL_GATE_STATUS_ACTIVE_SLOT 0 0) 1
  { s with ctx := { s.ctx with crosiers := [strayAxLoad] } }

/-- The load is the one of mat 0. -/
theorem strayAxState_load :
    strayAxState.crosierOf (strayAxState.logMat 0) = some strayAxLoad ∧ strayAxState.physMat 0 = 0 ∧
      strayAxState.logMat 0 = 0 ∧ strayAxState.activeSlot 0 = 1 := by
  decide +kernel

/-- Whether the mats of a period are through says nothing of a register. -/
theorem get_checkDone (s : State) (p : Nat) (f : Fld) : (s.checkDone p).get f = s.get f := by
  unfold State.checkDone
  simp only
  split <;> rfl

/-- A return of AX port 32296 clears the active slot of mat 0. -/
theorem activeSlot_axReturn_stray (s : State) (status : Nat) : (s.axReturn 32296 status).activeSlot 0 = 0 := by
  have hreg : CFG_AX_STATUS_STATE 32296 = gACTIVE 0 := by decide
  show ((State.set _ (CFG_AX_STATUS_STATE 32296) 0).set (CFG_AX_STATUS_LAST_STATUS 32296) status).get (gACTIVE 0) = 0
  rw [State.get_set_apart _ (by decide), hreg]
  exact State.get_set_self _ _ (by decide) 0

/-- The release returns the AX port to IDLE. -/
theorem crosierRelease_stray (s : State) : (s.crosierRelease strayAxLoad).activeSlot 0 = 0 := by
  unfold State.crosierRelease
  simp only [strayAxLoad, List.foldl_cons, List.foldl_nil, State.crosierStatus]
  split
  · exact (get_checkDone _ _ _).trans (activeSlot_axReturn_stray _ _)
  · exact activeSlot_axReturn_stray _ _

end Sys2Proof.Machine
end

section
namespace Sys2Proof.Machine

open Sys2Proof

/-- Refutes O19: the AX port of a load is any number, and the end of the load for AX port 32296 clears the active slot of mat
0, whose context ran in slot 1. -/
theorem not_crosierLoadsComplete : ¬ Obligations.CrosierLoadsComplete := by
  unfold Obligations.CrosierLoadsComplete
  intro ⟨_, _, written, _⟩
  obtain ⟨hload, hphys, hlog, hslot⟩ := strayAxState_load
  have hplace : ∀ m ∈ strayAxLoad.mats, strayAxState.physMat m < 512 ∧ strayAxState.logMat (strayAxState.physMat m) = m := by
    simp [strayAxLoad, hphys, hlog]
  obtain ⟨t, hexec, _, hmats, _⟩ := (written strayAxState 0 strayAxLoad [] hload rfl hplace).1 (by simp)
  have hkept : t.activeSlot 0 = 1 := by
    obtain ⟨_, _, hback⟩ := hmats 0 (by simp [strayAxLoad])
    have := (hback rfl).1
    rwa [hphys, hslot] at this
  have hrelease : exec (.crosierWriteDone 0 []) strayAxState = .next (strayAxState.crosierRelease strayAxLoad) := by
    show execCrosierWriteDone 0 [] strayAxState = _
    unfold execCrosierWriteDone
    simp only [show (0 : MatId).val = 0 from rfl, hload]
    rfl
  have hcleared : t.activeSlot 0 = 0 := by
    rw [← Host.Outcome.next.inj (hrelease.symm.trans hexec)]
    exact crosierRelease_stray _
  exact absurd (hkept.symm.trans hcleared) (by decide)

end Sys2Proof.Machine
end

section
/-! SUPPORT.  Pins: what shows a pin's state, its level, CHARTER and KEEP, leaves the control that the pin follows as it is
(R325, R332). -/

namespace Sys2Proof.Machine

open Sys2Proof

/-- t differs from s at most in what the registers of pin v show of its level, CHARTER and KEEP. -/
structure ShownOnly (v : Nat) (s t : State) : Prop where
  fr : Fr [] (pinKeys v) s t
  port : v < 256 → ∀ lo w, 2 ≤ lo → lo + w ≤ 6 → t.get ⟨FP_STATUS (v / 2), lo, w⟩ = s.get ⟨FP_STATUS (v / 2), lo, w⟩
  gpio : 256 ≤ v → ∀ lo w, lo + w ≤ 19 → t.get ⟨GPIO_OWNER (v - 256), lo, w⟩ = s.get ⟨GPIO_OWNER (v - 256), lo, w⟩

theorem supplyFld_reg (u : Nat) : (supplyFld u).reg = GPIO_SUPPLY := by
  unfold supplyFld
  split <;> rfl

/-- The supply codes are not among the registers that show a pin. -/
theorem supply_not_mem_pinKeys {v : Nat} (hv : v < 352) (u : Nat) : (supplyFld u).reg ∉ pinKeys v := by
  rw [supplyFld_reg, pinKeys]
  split <;> simp [GPIO_SUPPLY, FP_STATUS, GPIO_OWNER, GPIO_IN] <;> omega

theorem ShownOnly.refl (v : Nat) (s : State) : ShownOnly v s s :=
  ⟨Fr.refl _ _ _, fun _ _ _ _ _ => rfl, fun _ _ _ _ => rfl⟩

theorem ShownOnly.setFlag {v : Nat} {s t : State} (h : ShownOnly v s t) {f : Fld} (b : Bool) (hf : f.reg ∈ pinKeys v)
    (hport : v < 256 → f.lo + f.w ≤ 2 ∨ 6 ≤ f.lo) (hgpio : 256 ≤ v → f.reg = GPIO_OWNER (v - 256) → 19 ≤ f.lo) :
    ShownOnly v s (t.setFlag f b) := by
  refine ⟨fr_setFlag h.fr hf b, fun hv lo w hlo hhi => ?_, fun hv lo w hhi => ?_⟩
  · rw [State.get_setFlag_apart, h.port hv lo w hlo hhi]
    have := hport hv
    simp only [fldsApart, Bool.or_eq_true, decide_eq_true_eq]
    omega
  · rw [State.get_setFlag_apart, h.gpio hv lo w hhi]
    have := hgpio hv
    simp only [fldsApart, Bool.or_eq_true, decide_eq_true_eq]
    omega

/-- CHARTER and KEEP of a pin's register. -/
def State.showCharter (s : State) (v : Nat) : State :=
  if v < 256 then
    let t := s.setFlag (FP_STATUS_CHARTER (v / 2)) (s.underCharter v || s.underCharter (v / 2 * 4 + 1 - v))
    t.setFlag (FP_STATUS_KEEP (v / 2)) ((t.pinCause v).getLsbD 6 || (t.pinCause (v / 2 * 4 + 1 - v)).getLsbD 6)
  else s.setFlag (GPIO_OWNER_CHARTER (v - 256)) (s.underCharter v)

theorem settlePin_eq (s : State) (v : Nat) :
    s.settlePin v = match (s.showCharter v).padDrive v with
      | .dead => (s.showCharter v).setPinLevel v false
      | .off => s.showCharter v
      | .drive b => (s.showCharter v).setPinLevel v b := rfl

theorem showCharter_shown (s : State) (v : Nat) : ShownOnly v s (s.showCharter v) := by
  unfold State.showCharter
  split
  next hv =>
    have hk : FP_STATUS (v / 2) ∈ pinKeys v := by simp [pinKeys, hv]
    exact ((ShownOnly.refl v s).setFlag (f := FP_STATUS_CHARTER (v / 2)) _ hk (fun _ => .inr (Nat.le_refl 6))
      (by omega)).setFlag (f := FP_STATUS_KEEP (v / 2)) _ hk (fun _ => .inr (Nat.le_succ 6)) (by omega)
  next hv =>
    have hk : GPIO_OWNER (v - 256) ∈ pinKeys v := by simp [pinKeys, hv]
    exact (ShownOnly.refl v s).setFlag (f := GPIO_OWNER_CHARTER (v - 256)) _ hk (by omega)
      (fun _ _ => Nat.le_refl 19)

theorem setPinLevel_shown {v : Nat} {s t : State} (h : ShownOnly v s t) (b : Bool) :
    ShownOnly v s (t.setPinLevel v b) := by
  refine h.setFlag b (pinLevelFld_mem v) (fun hp => .inl ?_) (fun hg hreg => ?_)
  · simp only [pinLevelFld, hp, if_true]
    omega
  · simp only [pinLevelFld, Nat.not_lt.mpr hg, if_false, GPIO_IN, GPIO_OWNER] at hreg
    omega

section
variable {v : Nat} {s t : State} (h : ShownOnly v s t)
include h

theorem ShownOnly.pins : t.pins = s.pins := h.fr.frame.part .pins (by simp)

theorem ShownOnly.get (g : Fld) (hg : g.reg ∉ pinKeys v) : t.get g = s.get g := h.fr.get hg

theorem ShownOnly.pinCause (u : Nat) : t.pinCause u = s.pinCause u := by
  unfold State.pinCause
  rw [h.pins]

theorem ShownOnly.pinOutLevel (u : Nat) : t.pinOutLevel u = s.pinOutLevel u := by
  unfold State.pinOutLevel
  rw [h.pins]

theorem ShownOnly.pinBarred (u : Nat) : t.pinBarred u = s.pinBarred u := by
  unfold State.pinBarred
  rw [h.pinCause]

variable (hv : v < 352)
include hv

theorem ShownOnly.get_supply (u : Nat) : t.get (supplyFld u) = s.get (supplyFld u) := h.get _ (supply_not_mem_pinKeys hv u)

omit hv in
theorem ShownOnly.get_phase : t.get DEV_STATUS_PHASE = s.get DEV_STATUS_PHASE :=
  h.get _ fun hmem => absurd (le_of_mem_pinKeys hmem) (by decide)

/-- The configuration and the owner of a port are not shown by a pin. -/
theorem ShownOnly.get_port (p : Nat) (f : Fld) (hf : f.reg = FP_CFG p ∨ f.reg = FP_OWNER p) : t.get f = s.get f := by
  refine h.get _ fun hmem => ?_
  rw [pinKeys] at hmem
  rcases hf with hf | hf <;> rw [hf] at hmem <;> split at hmem <;>
    simp only [FP_CFG, FP_OWNER, FP_STATUS, GPIO_OWNER, GPIO_IN, List.mem_cons, List.not_mem_nil, or_false] at hmem <;> omega

theorem ShownOnly.flag_port (p : Nat) (f : Fld) (hf : f.reg = FP_CFG p ∨ f.reg = FP_OWNER p) : t.flag f = s.flag f := by
  unfold State.flag
  rw [h.get_port hv p f hf]

theorem ShownOnly.flag_switch : t.flag (switchFld v) = s.flag (switchFld v) := by
  unfold State.flag switchFld
  split
  next hp => exact congrArg (fun x => decide (x ≠ 0)) (h.port hp 4 1 (by decide) (by decide))
  next hp => exact congrArg (fun x => decide (x ≠ 0)) (h.gpio (by omega) 18 1 (by decide))

omit hv in
theorem ShownOnly.flag_survey (hp : v < 256) : t.flag (FP_STATUS_SURVEYING (v / 2)) = s.flag (FP_STATUS_SURVEYING (v / 2)) :=
  congrArg (fun x => decide (x ≠ 0)) (h.port hp 5 1 (by decide) (by decide))

/-- What the registers of a pin's port or line say of its owner and function. -/
theorem ShownOnly.control :
    t.pinMat v = s.pinMat v ∧ t.pinPaced v = s.pinPaced v ∧ t.pinOnPath v = s.pinOnPath v ∧ t.drivesOut v = s.drivesOut v ∧
      t.pinIdle v = s.pinIdle v := by
  have hunit : t.unitSuspect 0 (v / 2) = s.unitSuspect 0 (v / 2) := by
    unfold State.unitSuspect State.unit
    rw [h.fr.frame.part .bist (by simp)]
  by_cases hp : v < 256
  · have hkind : t.get (FP_OWNER_KIND (v / 2)) = s.get (FP_OWNER_KIND (v / 2)) := h.get_port hv _ _ (.inr rfl)
    have hid : t.get (FP_OWNER_ID (v / 2)) = s.get (FP_OWNER_ID (v / 2)) := h.get_port hv _ _ (.inr rfl)
    have hpaced : t.flag (FP_CFG_PACED (v / 2)) = s.flag (FP_CFG_PACED (v / 2)) := h.flag_port hv _ _ (.inl rfl)
    have hmode : t.get (FP_CFG_MODE (v / 2)) = s.get (FP_CFG_MODE (v / 2)) := h.get_port hv _ _ (.inl rfl)
    have ha : t.flag (FP_CFG_DIR_A (v / 2)) = s.flag (FP_CFG_DIR_A (v / 2)) := h.flag_port hv _ _ (.inl rfl)
    have hb : t.flag (FP_CFG_DIR_B (v / 2)) = s.flag (FP_CFG_DIR_B (v / 2)) := h.flag_port hv _ _ (.inl rfl)
    have hen : t.flag (fpEN v) = s.flag (fpEN v) := h.flag_port hv _ _ (.inl rfl)
    simp [State.pinMat, State.pinPaced, State.pinOnPath, State.drivesOut, State.pinIdle, State.pinUnowned, apply_ite t.flag,
      apply_ite s.flag, hp, hkind, hid, hpaced, hmode, ha, hb, hen, hunit]
  · have hkind : t.get (GPIO_OWNER_KIND (v - 256)) = s.get (GPIO_OWNER_KIND (v - 256)) := h.gpio (by omega) 0 4 (by decide)
    have hmat : t.get (GPIO_OWNER_MAT (v - 256)) = s.get (GPIO_OWNER_MAT (v - 256)) := h.gpio (by omega) 4 10 (by decide)
    simp [State.pinMat, State.pinPaced, State.pinOnPath, State.drivesOut, State.pinIdle, State.pinUnowned, hp, hkind, hmat]

/-- The pin is free to follow its owner as before. -/
theorem ShownOnly.pinFree : t.pinFree v = s.pinFree v := by
  obtain ⟨-, -, -, -, hidle⟩ := h.control hv
  unfold State.pinFree
  rw [h.get_supply hv, h.get_phase, h.pinBarred, h.pinCause, hidle, h.flag_switch hv]
  by_cases hp : v < 256
  · rw [show t.flag (FP_STATUS_FOLDED (v / 2)) = s.flag (FP_STATUS_FOLDED (v / 2)) from
      congrArg (fun x => decide (x ≠ 0)) (h.port hp 3 1 (by decide) (by decide)), h.flag_survey hp]
  · simp [hp]

omit hv in
theorem ShownOnly.physMat (m : Nat) : t.physMat m = s.physMat m := by
  have hmnt : { t.mnt with acts := s.mnt.acts } = s.mnt := h.fr.frame.part .mnt (by simp)
  have hmap : t.mnt.matMap = s.mnt.matMap := by simpa using congrArg MntState.matMap hmnt
  unfold State.physMat
  rw [hmap]

/-- The level is offered to the pin's mat as before. -/
theorem ShownOnly.offersLevel (m : Nat) : t.offersLevel v m = s.offersLevel v m := by
  obtain ⟨hmat, hpaced, hpath, -, -⟩ := h.control hv
  have huse : t.useOut (s.physMat m) 3 = s.useOut (s.physMat m) 3 := by
    unfold State.useOut
    rw [h.fr.frame.part .col (by simp)]
  unfold State.offersLevel
  rw [hmat, hpaced, hpath, h.physMat, huse, h.flag_switch hv, h.pinCause]
  by_cases hp : v < 256
  · rw [h.flag_survey hp, h.flag_port hv (v / 2) (fpEN v) (.inl rfl)]
  · simp [Nat.le_of_not_lt hp]

end

/-! ### Levels -/

theorem pinLevel_setPinLevel (s : State) (v : Nat) (b : Bool) : (s.setPinLevel v b).pinLevel v = b := by
  refine State.flag_setFlag_self _ _ ?_ ?_ b <;> unfold pinLevelFld <;> split <;> simp <;> omega

/-- Two pins have each a level of its own. -/
theorem pinLevelFld_apart {u v : Nat} (hu : u < 352) (hv : v < 352) (h : u ≠ v) :
    fldsApart (pinLevelFld v) (pinLevelFld u) = true := by
  simp only [fldsApart, pinLevelFld, FP_STATUS, GPIO_IN, Bool.or_eq_true]
  split <;> split <;> simp only [decide_eq_true_eq] <;> omega

theorem pinLevel_setPinLevel_ne (s : State) {u v : Nat} (hu : u < 352) (hv : v < 352) (h : u ≠ v) (b : Bool) :
    (s.setPinLevel v b).pinLevel u = s.pinLevel u :=
  State.flag_setFlag_apart s (pinLevelFld_apart hu hv h) b

/-- CHARTER and KEEP of a pin are no level. -/
theorem pinLevel_showCharter (s : State) {u v : Nat} (hu : u < 352) (hv : v < 352) :
    (s.showCharter v).pinLevel u = s.pinLevel u := by
  unfold State.showCharter State.pinLevel
  split
  · simp only
    rw [State.flag_setFlag_apart, State.flag_setFlag_apart] <;>
    · simp only [fldsApart, pinLevelFld, FP_STATUS_CHARTER, FP_STATUS_KEEP, FP_STATUS, GPIO_IN, Bool.or_eq_true]
      split <;> simp only [decide_eq_true_eq] <;> omega
  · refine State.flag_setFlag_apart s ?_ _
    simp only [fldsApart, pinLevelFld, GPIO_OWNER_CHARTER, GPIO_OWNER, FP_STATUS, GPIO_IN, Bool.or_eq_true]
    split <;> simp only [decide_eq_true_eq] <;> omega

/-- A free pin is driven as its owner makes it (R332 row 9). -/
theorem padDrive_of_free {s : State} {v : Nat} (hfree : s.pinFree v = true) {b : Bool} (hb : s.ownerDrive v = some b) :
    s.padDrive v = .drive b := by
  obtain ⟨⟨⟨⟨⟨⟨hsupply, hphase⟩, hport⟩, hbar⟩, hidle⟩, hkeep⟩, hswitch⟩ : ((((((_ ∧ _) ∧ _) ∧ _) ∧ _) ∧ _) ∧ _) := by
    simpa only [State.pinFree, Bool.and_eq_true, Bool.not_eq_true', decide_eq_true_eq] using hfree
  have hfold : ¬ (v < 256 ∧ s.flag (FP_STATUS_FOLDED (v / 2)) = true) := fun h => by simp [h] at hport
  have hsurvey : ¬ (v < 256 ∧ s.flag (FP_STATUS_SURVEYING (v / 2)) = true) := fun h => by simp [h] at hport
  unfold State.padDrive
  rw [if_neg hsupply, if_neg (Nat.not_lt.mpr hphase), if_neg hfold, if_neg (Bool.eq_false_iff.mp hbar), if_neg hsurvey,
    if_neg (Bool.eq_false_iff.mp hidle), if_neg (Bool.eq_false_iff.mp hkeep), if_neg (Bool.eq_false_iff.mp hswitch), hb]

/-- The output pin of a mat whose function is not paced takes the level of the mat's last token (R311, R326). -/
theorem ownerDrive_of_token {s : State} {v m : Nat} (hmat : s.pinMat v = some m) (hpaced : s.pinPaced v = false)
    (hout : s.drivesOut v = true) : s.ownerDrive v = s.pinOutLevel v := by
  unfold State.ownerDrive
  by_cases hp : v < 256
  · obtain ⟨hkind, -⟩ : s.get (FP_OWNER_KIND (v / 2)) = 1 ∧ s.get (FP_OWNER_ID (v / 2)) = m := by
      simpa [State.pinMat, hp] using hmat
    simp only [State.drivesOut, hp, if_true, Bool.or_eq_true, Bool.and_eq_true, decide_eq_true_eq] at hout
    rcases hout with ⟨hmode, hdir⟩ | ⟨⟨hmode | hmode, heven⟩, hdir⟩
    · split at hdir <;> simp [*]
    · simp [hp, hkind, hmode, hpaced, heven, hdir]
    · simp [hp, hkind, hmode, hpaced, heven, hdir]
  · have hkind : s.get (GPIO_OWNER_KIND (v - 256)) = 2 := by
      have h3 : s.get (GPIO_OWNER_KIND (v - 256)) ≠ 3 := by simpa [State.pinPaced, hp] using hpaced
      simp only [State.pinMat, hp, if_false, h3, or_false] at hmat
      split at hmat
      next h => exact h
      next => cases hmat
    simp [hp, hkind]

/-- A pad without supply is dead (R307). -/
theorem padDrive_dead {s : State} {v : Nat} (h : s.get (supplyFld v) = 0) : s.padDrive v = .dead := if_pos h

theorem pinLevel_settlePin_dead {s : State} {u v : Nat} (hu : u < 352) (hv : v < 352) (h : s.get (supplyFld v) = 0) :
    (s.settlePin v).pinLevel u = if u = v then false else s.pinLevel u := by
  rw [settlePin_eq, padDrive_dead (((showCharter_shown s v).get_supply hv v).trans h)]
  by_cases huv : u = v
  · subst huv
    rw [if_pos rfl]
    exact pinLevel_setPinLevel _ u false
  · rw [if_neg huv]
    exact (pinLevel_setPinLevel_ne _ hu hv huv false).trans (pinLevel_showCharter s hu hv)

/-! ### The pins of a supply -/

theorem get_supply_settlePin (s : State) {v : Nat} (hv : v < 352) (u : Nat) :
    (s.settlePin v).get (supplyFld u) = s.get (supplyFld u) := (settlePin_fr s v).get (supply_not_mem_pinKeys hv u)

/-- Pins without supply that are settled one after the other all read 0. -/
theorem pinLevel_settlePins_dead {s : State} (vs : List Nat) (hvs : ∀ v ∈ vs, v < 352 ∧ s.get (supplyFld v) = 0) {u : Nat}
    (hu : u < 352) : (s.settlePins vs).pinLevel u = if u ∈ vs then false else s.pinLevel u := by
  unfold State.settlePins
  induction vs generalizing s with
  | nil => simp
  | cons v vs ih =>
    obtain ⟨hv, hdead⟩ := hvs v (by simp)
    rw [List.foldl_cons, ih fun w hw => ⟨(hvs w (by simp [hw])).1,
      (get_supply_settlePin s hv w).trans (hvs w (by simp [hw])).2⟩, pinLevel_settlePin_dead hu hv hdead]
    by_cases huv : u = v <;> by_cases huw : u ∈ vs <;> simp [huv, huw]

theorem settlePins_fr (s : State) (vs : List Nat) : Fr [] (vs.flatMap pinKeys) s (s.settlePins vs) := by
  unfold State.settlePins
  induction vs generalizing s with
  | nil => exact Fr.refl _ _ _
  | cons v vs ih =>
    exact ((settlePin_fr s v).mono (fun _ h => h) (by simp)).trans ((ih _).mono (fun _ h => h) (by simp))

theorem get_supply_settlePins (s : State) {vs : List Nat} (hvs : ∀ v ∈ vs, v < 352) (u : Nat) :
    (s.settlePins vs).get (supplyFld u) = s.get (supplyFld u) := by
  refine (settlePins_fr s vs).get fun h => ?_
  obtain ⟨v, hv, hmem⟩ := List.mem_flatMap.mp h
  exact supply_not_mem_pinKeys (hvs v hv) u hmem

theorem supplyFld_bank {k i : Nat} (hk : k < 8) (hi : i < 32) : supplyFld (32 * k + i) = ⟨GPIO_SUPPLY, 16 + 2 * k, 2⟩ := by
  unfold supplyFld
  rw [if_pos (by omega), show (32 * k + i) / 32 = k by omega]

theorem supplyFld_group {k i : Nat} (hi : i < 16) : supplyFld (256 + 16 * k + i) = ⟨GPIO_SUPPLY, 2 * k, 2⟩ := by
  unfold supplyFld
  rw [if_neg (by omega), show (256 + 16 * k + i - 256) / 16 = k by omega]

/-- The supply of a bank or group that the device has. -/
theorem supplyFld_base {gpio : Bool} {k : Nat} (hk : k < 8) (hex : supplyExists gpio k = true) :
    supplyFld (if gpio then 256 + 16 * k else 32 * k) = ⟨GPIO_SUPPLY, if gpio then 2 * k else 16 + 2 * k, 2⟩ := by
  cases gpio
  · exact supplyFld_bank (i := 0) hk (by decide)
  · exact supplyFld_group (i := 0) (by decide)

/-- The pins of a bank or group have one supply. -/
theorem supplyPins_supply {gpio : Bool} {k v : Nat} (hk : k < 8) (hex : supplyExists gpio k = true) (h : v ∈ supplyPins gpio k) :
    v < 352 ∧ supplyFld v = supplyFld (if gpio then 256 + 16 * k else 32 * k) := by
  rw [supplyFld_base hk hex]
  cases gpio
  · obtain ⟨i, hi, rfl⟩ := List.mem_map.mp h
    have hi : i < 32 := List.mem_range.mp hi
    exact ⟨by omega, supplyFld_bank hk hi⟩
  · obtain ⟨i, hi, rfl⟩ := List.mem_map.mp h
    have hi : i < 16 := List.mem_range.mp hi
    have hk6 : k < 6 := by simpa [supplyExists] using hex
    exact ⟨by omega, supplyFld_group hi⟩

/-- The code of a supply reads as it was written. -/
theorem get_supply_set (s : State) {gpio : Bool} {k : Nat} (hk : k < 8) (hex : supplyExists gpio k = true) (code : BitVec 2) :
    (s.set (supplyFld (if gpio then 256 + 16 * k else 32 * k)) code.toNat).get
      (supplyFld (if gpio then 256 + 16 * k else 32 * k)) = code.toNat := by
  rw [supplyFld_base hk hex, State.get_set_self]
  · exact Nat.mod_eq_of_lt code.isLt
  · simp only
    split <;> omega

/-! ### What the commands lead to -/

/-- What keeps a level from the mat that owns the pin: its frozen input (R314), a paced GPIO output, an input that its mode has
not, or rhizoids out of service (R102). -/
theorem not_offersLevel_iff {s : State} {v m : Nat} (hm : s.pinMat v = some m) : ¬ s.offersLevel v m = true ↔
    (s.flag (switchFld v) || decide ((s.pinCause v).toNat / 16 % 2 = 1) || (s.pinCause v).getLsbD 6 ||
      (decide (v < 256) && (s.flag (FP_STATUS_SURVEYING (v / 2)) || !s.flag (fpEN v)))) = true ∨
    s.pinOnPath v = false ∨ 256 ≤ v ∧ s.pinPaced v = true ∨ s.useOut (s.physMat m) 3 = true := by
  unfold State.offersLevel
  by_cases hp : v < 256 <;> rcases Nat.mod_two_eq_zero_or_one ((s.pinCause v).toNat / 16) with hc | hc
  · simp [hm, hc, hp, Nat.not_le.mpr hp]
    grind
  · simp [hc]
  · simp [hm, hc, hp, Nat.not_lt.mp hp]
    grind
  · simp [hc]

/-- A level shows in the pin's register and is offered to the mat that owns the pin (R325, R314). -/
def State.showLevel (s : State) (v : Nat) (b : Bool) : State :=
  match s.pinMat v with
  | some m => if s.offersLevel v m then (s.setPinLevel v b).emit (.token (s.physMat m) (.pin v) (b2n b)) else s.setPinLevel v b
  | none => s.setPinLevel v b

/-- The register of a pin's level is none of the book-keeping's. -/
theorem pinLevelFld_not_mem_bookKeys {v : Nat} (hv : v < 352) : (pinLevelFld v).reg ∉ bookKeys := by
  intro h
  have hbook : ∀ k ∈ bookKeys, k < 0xA000 ∨ 0xA00C ≤ k ∧ k < 0x10000 := by decide
  have hreg := hbook _ h
  unfold pinLevelFld at hreg
  split at hreg <;> simp only [FP_STATUS, GPIO_IN] at hreg <;> omega

/-- The pad level of a pin that the device leaves off. -/
theorem fpInputChange_off {s : State} {pin : Fin 352} (b : Bool) (h : s.padDrive pin.val = .off) :
    exec (.fpInputChange pin b) s = .next (s.showLevel pin.val b) := by
  have hshown := setPinLevel_shown (ShownOnly.refl pin.val s) b
  obtain ⟨hmat, -⟩ := hshown.control pin.isLt
  show execFpInputChange pin b s = _
  unfold execFpInputChange State.showLevel
  simp only [h]
  rw [hmat]
  cases hm : s.pinMat pin.val with
  | none => rfl
  | some m =>
    simp only
    rw [← hshown.offersLevel pin.isLt m]
    by_cases ho : (s.setPinLevel pin.val b).offersLevel pin.val m = true
    · rw [if_pos ho, if_neg (mt (not_offersLevel_iff (hmat.trans hm)).mpr (not_not.mpr ho)), hshown.physMat]
    · rw [if_neg ho, if_pos ((not_offersLevel_iff (hmat.trans hm)).mp ho)]

theorem showLevel_out (s : State) (v : Nat) (b : Bool) :
    (∀ m, s.offersLevel v m = true → (s.showLevel v b).out = s.out ++ [.token (s.physMat m) (.pin v) (b2n b)]) ∧
    ((∀ m, s.pinMat v = some m → s.offersLevel v m = false) → (s.showLevel v b).out = s.out) := by
  unfold State.showLevel
  constructor
  · intro m ho
    have hmat : s.pinMat v = some m := by
      unfold State.offersLevel at ho
      simp only [Bool.and_eq_true, decide_eq_true_eq] at ho
      tauto
    simp [hmat, ho, State.emit, State.setPinLevel]
  · intro hnone
    cases hm : s.pinMat v with
    | none => rfl
    | some m => simp [hnone m hm, State.setPinLevel]

theorem showLevel_shows (s : State) {v : Nat} (hv : v < 352) (b : Bool) :
    (s.showLevel v b).pinLevel v = b ∧ (∀ u, u < 352 → u ≠ v → (s.showLevel v b).pinLevel u = s.pinLevel u) ∧
      Framed [.out] (pinKeys v) s (s.showLevel v b) := by
  have hself := pinLevel_setPinLevel s v b
  have hother : ∀ u, u < 352 → u ≠ v → (s.setPinLevel v b).pinLevel u = s.pinLevel u :=
    fun u hu h => pinLevel_setPinLevel_ne s hu hv h b
  have hfr : Fr [.out] (pinKeys v) s (s.setPinLevel v b) := fr_setFlag (Fr.refl _ _ s) (pinLevelFld_mem v) b
  unfold State.showLevel
  split
  · split
    · exact ⟨hself, hother, (emit_fr hfr (by simp) _).frame⟩
    · exact ⟨hself, hother, hfr.frame⟩
  · exact ⟨hself, hother, hfr.frame⟩

/-- A pad that the device drives, or that has no supply, keeps its level. -/
theorem fpInputChange_driven {s : State} {pin : Fin 352} (b : Bool) (h : s.padDrive pin.val ≠ .off) :
    exec (.fpInputChange pin b) s = .next s := by
  show execFpInputChange pin b s = _
  unfold execFpInputChange
  cases hd : s.padDrive pin.val with
  | off => exact absurd hd h
  | dead => simp only [hd]
  | drive _ => simp only [hd]

/-- A lost supply shows 0, and its pins read 0 (R307, R324). -/
theorem vioLost_spec {s : State} {gpio : Bool} {k : Fin 8} (hex : supplyExists gpio k.val = true)
    (hon : s.get (supplyFld (if gpio then 256 + 16 * k.val else 32 * k.val)) ≠ 0) :
    ∃ t, exec (.vioLost gpio k) s = .next t ∧ t.get (supplyFld (if gpio then 256 + 16 * k.val else 32 * k.val)) = 0 ∧
      (∀ v ∈ supplyPins gpio k.val, t.pinLevel v = false) ∧
      Framed evParts (GPIO_SUPPLY :: ((supplyPins gpio k.val).flatMap pinKeys ++ bookKeys)) s t := by
  have hpins : ∀ v ∈ supplyPins gpio k.val, v < 352 := fun v hv => (supplyPins_supply k.isLt hex hv).1
  have hdead : (s.set (supplyFld (if gpio then 256 + 16 * k.val else 32 * k.val)) 0).get
      (supplyFld (if gpio then 256 + 16 * k.val else 32 * k.val)) = 0 := get_supply_set s k.isLt hex 0
  have hgoes : exec (.vioLost gpio k) s = .next (((s.set (supplyFld (if gpio then 256 + 16 * k.val else 32 * k.val)) 0).settlePins
      (supplyPins gpio k.val)).raise 0x8A05 (if gpio then srcGpio (16 * k.val) else srcPort (16 * k.val))
        [(18, 1, b2n gpio), (19, 1, k.val)]) := by
    show execVioLost gpio k s = _
    unfold execVioLost
    exact if_neg (by simp [hex, hon])
  refine ⟨_, hgoes, ?_, fun v hv => ?_, ?_⟩
  · rw [State.get_raise _ _ _ _ (by rw [supplyFld_reg]; decide), get_supply_settlePins _ hpins, hdead]
  · unfold State.pinLevel
    rw [State.flag_raise _ _ _ _ (pinLevelFld_not_mem_bookKeys (hpins v hv))]
    refine (pinLevel_settlePins_dead (supplyPins gpio k.val) (fun w hw => ?_) (hpins v hv)).trans (if_pos hv)
    obtain ⟨hw352, hsupply⟩ := supplyPins_supply k.isLt hex hw
    exact ⟨hw352, by rw [hsupply, hdead]⟩
  · refine Framed.trans (t := (s.set (supplyFld (if gpio then 256 + 16 * k.val else 32 * k.val)) 0).settlePins
      (supplyPins gpio k.val)) ?_ ((raise_fr _ _ _ _).mono (fun _ h => h) (by simp)).frame
    exact ((fr_set (Fr.refl evParts _ s) (by rw [supplyFld_reg]; exact List.mem_cons_self ..) _).trans
        ((settlePins_fr _ _).mono (by simp) (by simp))).frame

/-- An output token is kept and drives the pin that follows it (R311). -/
theorem fpOutputToken_spec {s : State} {pin : Fin 352} {m : Nat} (b : Bool) (hmat : s.pinMat pin.val = some m)
    (hpaced : s.pinPaced pin.val = false) (hpath : s.pinOnPath pin.val = true) (hheld : s.heldNull (s.physMat m) = false)
    (huse : s.useOut (s.physMat m) 3 = false) :
    exec (.fpOutputToken pin b) s = .next ((s.setPinOut pin.val (some b)).settlePin pin.val) := by
  show execFpOutputToken pin b s = _
  unfold execFpOutputToken
  simp [hmat, hpaced, hpath, hheld, huse]

theorem pinOutLevel_setPinOut (s : State) (u v : Nat) (b : Option Bool) :
    (s.setPinOut v b).pinOutLevel u = if u = v then b else s.pinOutLevel u :=
  Tab.get_put none0 s.pins.out v u b

theorem setPinOut_fr (s : State) (v : Nat) (b : Option Bool) : Fr [.pins] (pinKeys v) s (s.setPinOut v b) :=
  fr_mk (Fr.refl _ _ s) (State.setPinOut_keeps v b (Keeps.refl s)) rfl

theorem pinOutLevel_settlePin (s : State) (u v : Nat) : (s.settlePin v).pinOutLevel u = s.pinOutLevel u := by
  unfold State.pinOutLevel
  rw [(settlePin_fr s v).frame.part .pins (by simp)]

/-- A pin that follows its mat's token reads the token's level. -/
theorem pinLevel_settlePin_token {s : State} {v m : Nat} {b : Bool} (hv : v < 352) (hmat : s.pinMat v = some m)
    (hpaced : s.pinPaced v = false) (hfree : s.pinFree v = true) (hout : s.drivesOut v = true)
    (hb : s.pinOutLevel v = some b) : (s.settlePin v).pinLevel v = b := by
  have hshown := showCharter_shown s v
  obtain ⟨hmat', hpaced', -, hout', -⟩ := hshown.control hv
  have howner : (s.showCharter v).ownerDrive v = some b :=
    (ownerDrive_of_token (hmat'.trans hmat) (hpaced'.trans hpaced) (hout'.trans hout)).trans ((hshown.pinOutLevel v).trans hb)
  rw [settlePin_eq, padDrive_of_free ((hshown.pinFree hv).trans hfree) howner]
  exact pinLevel_setPinLevel _ v b

end Sys2Proof.Machine
end

section
namespace Sys2Proof.Machine

open Sys2Proof

/-- Settles O30: the pad that the command names, and for a supply each of its pins, is settled by what its pin follows. -/
theorem pinLevelsFollow : Obligations.PinLevelsFollow := by
  unfold Obligations.PinLevelsFollow
  refine ⟨?input, ?token, ?lost, ?restored⟩
  case input =>
    intro s pin b
    refine ⟨fun hdriven => fpInputChange_driven b hdriven, fun hoff => ⟨_, fpInputChange_off b hoff, ?_⟩⟩
    obtain ⟨hlevel, hothers, hframe⟩ := showLevel_shows s pin.isLt b
    obtain ⟨hoffered, hkept⟩ := showLevel_out s pin.val b
    exact ⟨hlevel, hothers, hoffered, hkept, hframe⟩
  case token =>
    intro s pin b m hmat
    refine ⟨fun hpaced hpath hheld huse => ⟨_, fpOutputToken_spec b hmat hpaced hpath hheld huse, ?_, ?_, ?_, ?_⟩, fun hpaced => ?_⟩
    · rw [pinOutLevel_settlePin, pinOutLevel_setPinOut, if_pos rfl]
    · intro v hv
      rw [pinOutLevel_settlePin, pinOutLevel_setPinOut, if_neg hv]
    · intro hfree hout
      exact pinLevel_settlePin_token pin.isLt (s := s.setPinOut pin.val (some b)) hmat hpaced hfree hout
        (by rw [pinOutLevel_setPinOut, if_pos rfl])
    · exact ((setPinOut_fr s pin.val (some b)).trans ((settlePin_fr _ _).mono (by simp) (fun _ h => h))).frame
    · show execFpOutputToken pin b s = _
      unfold execFpOutputToken
      simp [hmat, hpaced]
  case lost =>
    intro s gpio k hex
    refine ⟨fun hon => vioLost_spec hex hon, fun hoff => ?_⟩
    show execVioLost gpio k s = _
    unfold execVioLost
    simp [hoff]
  case restored =>
    intro s gpio k code hex hcode hrange
    have hgoes : exec (.vioRestored gpio k code) s = .next ((s.set (supplyFld (if gpio then 256 + 16 * k.val else 32 * k.val))
        code.toNat).settlePins (supplyPins gpio k.val)) := by
      show execVioRestored gpio k code s = _
      unfold execVioRestored
      refine if_neg ?_
      rintro (h | h | ⟨hg, h⟩)
      · exact absurd (hex.symm.trans h) (by decide)
      · exact hcode h
      · exact hrange.elim (fun hg' => absurd (hg.symm.trans hg') (by decide)) (fun hc => hc h)
    refine ⟨_, hgoes, ?_, ?_⟩
    · rw [get_supply_settlePins _ fun v hv => (supplyPins_supply k.isLt hex hv).1, get_supply_set s k.isLt hex]
    · exact ((fr_set (Fr.refl [] _ s) (by rw [supplyFld_reg]; exact List.mem_cons_self ..) _).trans
        ((settlePins_fr _ _).mono (by simp) (by simp))).frame

end Sys2Proof.Machine
end

section
/-! SUPPORT.  Clock registers: what a plain write makes of a field, and the bits of the enables and groups (R8, R267, R269). -/

namespace Sys2Proof.Machine

open Sys2Proof

/-! ### Fields of a plain write -/

/-- The bits of a field are RW bits of the register. -/
def rwField (k lo w : Nat) : Bool :=
  match regClass k with
  | some c => (List.range w).all fun i => (BitVec.ofNat 32 c.rw).getLsbD (lo + i) && !(BitVec.ofNat 32 c.w1c).getLsbD (lo + i) &&
      !(BitVec.ofNat 32 c.w1s).getLsbD (lo + i)
  | none => false

/-- A field of RW bits takes the value written (R8). -/
theorem fldGet_regAfter {k lo w : Nat} (h : rwField k lo w = true) (old v : Reg) :
    fldGet (regAfter k old v) lo w = fldGet v lo w := by
  unfold rwField at h
  unfold regAfter fldGet
  split at h
  next c hc =>
    rw [hc]
    refine congrArg BitVec.toNat (BitVec.eq_of_getLsbD_eq fun i hi => ?_)
    have hbits := List.all_eq_true.mp h i (List.mem_range.mpr hi)
    simp only [Bool.and_eq_true, Bool.not_eq_true'] at hbits
    obtain ⟨⟨hrw, hw1c⟩, hw1s⟩ := hbits
    rw [BitVec.getLsbD_extractLsb', BitVec.getLsbD_extractLsb']
    simp only [BitVec.getLsbD_or, BitVec.getLsbD_and, BitVec.getLsbD_not, hrw, hw1c, hw1s]
    simp [BitVec.lt_of_getLsbD hrw]
  next => cases h

/-- An RW field reads what a plain write wrote to it. -/
theorem get_plainWrite (s : State) {f : Fld} (h : rwField f.reg f.lo f.w = true) (v : Reg) :
    (s.plainWrite f.reg v).get f = fldGet v f.lo f.w := by
  unfold State.get
  rw [rd_plainWrite, fldGet_regAfter h]

theorem get_plainWrite_ne (s : State) {k : Nat} {f : Fld} (h : f.reg ≠ k) (v : Reg) : (s.plainWrite k v).get f = s.get f :=
  State.get_wr_ne s h _

theorem flag_plainWrite_ne (s : State) {k : Nat} {f : Fld} (h : f.reg ≠ k) (v : Reg) : (s.plainWrite k v).flag f = s.flag f := by
  unfold State.flag
  rw [get_plainWrite_ne s h]

/-! ### Bits of a register -/

theorem bit_gateRefused (s : State) (reg n : Nat) {k j : Nat} (hk : k ≠ CLK_GATE_STATUS) :
    (s.gateRefused reg n).bit k j = s.bit k j := by
  unfold State.gateRefused State.bit
  rw [State.flag_set_apart, State.flag_set_apart, State.flag_setFlag_apart] <;>
    simp [fldsApart, CLK_GATE_STATUS_REFUSED, CLK_GATE_STATUS_REFUSED_REG, CLK_GATE_STATUS_REFUSED_BIT, hk.symm]

theorem gateRefused_fr {ps : List Part} {ks : List Nat} {s0 s : State} (h : Fr ps ks s0 s) (hk : CLK_GATE_STATUS ∈ ks)
    (reg n : Nat) : Fr ps ks s0 (s.gateRefused reg n) :=
  fr_set (f := CLK_GATE_STATUS_REFUSED_BIT) (fr_set (f := CLK_GATE_STATUS_REFUSED_REG)
    (fr_setFlag (f := CLK_GATE_STATUS_REFUSED) h hk _) hk _) hk _

/-! ### Enables -/

/-- What a write of an enable register makes of one bit (R267). -/
def State.newEnBit (s : State) (second : Bool) (i : Nat) (b : Bool) : Bool :=
  match enGroup second i with
  | none => s.bit (enReg second) i
  | some g =>
    if s.bit (enReg second) i = b then s.bit (enReg second) i
    else if (if b then s.bit CLK_GRP g else s.mayGate second i) then b else s.bit (enReg second) i

/-- The conditions of a block's gate lie outside the clock registers. -/
theorem mayGate_fr {ks : List Nat} {s t : State} (h : Fr [] ks s t) (hk : ∀ k ∈ ks, 0x6000 ≤ k ∧ k < 0x7000) (second : Bool)
    (i : Nat) : t.mayGate second i = s.mayGate second i := by
  have hget : ∀ f : Fld, f.reg < 0x6000 ∨ 0x7000 ≤ f.reg → t.get f = s.get f := fun f hf =>
    h.get fun hmem => by have := hk _ hmem; omega
  have hacts : t.mnt.acts = s.mnt.acts := h.frame.part .acts (by simp)
  have hcores : t.core.cores = s.core.cores := h.frame.part .cores (by simp)
  have hlane (j : Nat) : t.get (XL_CFG_EN j) = s.get (XL_CFG_EN j) := hget _ (.inr (by simp only [XL_CFG_EN, XL_CFG]; omega))
  have hport (j : Nat) : t.get (FP_CFG_EN j) = s.get (FP_CFG_EN j) := hget _ (.inr (by simp only [FP_CFG_EN, FP_CFG]; omega))
  have hpin (j : Nat) : t.get (GPIO_OWNER_KIND j) = s.get (GPIO_OWNER_KIND j) := hget _ (.inr (by simp only [GPIO_OWNER_KIND, GPIO_OWNER]; omega))
  have htrack (j : Nat) : t.get (TAL_TRK_CFG_EN j) = s.get (TAL_TRK_CFG_EN j) := hget _ (.inr (by simp only [TAL_TRK_CFG_EN, TAL_TRK_CFG]; omega))
  have hsource (j : Nat) : t.get (TAL_TRK_CFG_SOURCE j) = s.get (TAL_TRK_CFG_SOURCE j) := hget _ (.inr (by simp only [TAL_TRK_CFG_SOURCE, TAL_TRK_CFG]; omega))
  have hengine (j : Nat) : t.get (TAL_TRK_CFG_ENGINE j) = s.get (TAL_TRK_CFG_ENGINE j) := hget _ (.inr (by simp only [TAL_TRK_CFG_ENGINE, TAL_TRK_CFG]; omega))
  simp only [State.mayGate, State.trackOn, State.flag, hlane, hport, hpin, htrack, hsource, hengine, hacts, hcores]

/-- A wait of a core for the bus is no condition of a gate. -/
theorem mayGate_coreWaits (s : State) (req : Requester) (w : Option BusWait) (second : Bool) (i : Nat) :
    (s.coreWaits req w).mayGate second i = s.mayGate second i := by
  have hacts : (s.coreWaits req w).mnt.acts = s.mnt.acts := by rw [coreWaits_mnt]
  have hreset (n : Nat) : (Tab.get core0 (s.coreWaits req w).core.cores n).inReset = (Tab.get core0 s.core.cores n).inReset := by
    unfold State.coreWaits
    split
    next c _ =>
      by_cases hn : n = c
      · subst hn
        simp [Tab.upd]
      · simp [Tab.upd, Tab.get_put_ne _ _ hn]
    next => rfl
  simp only [State.mayGate, State.trackOn, coreWaits_flag, coreWaits_get, hacts, hreset]

theorem writeEnBit_fr (s : State) (second : Bool) (i : Nat) (b : Bool) :
    Fr [] [enReg second, CLK_GATE_STATUS] s (s.writeEnBit second i b) := by
  unfold State.writeEnBit
  split
  · exact Fr.refl _ _ s
  · exact fr_ite (Fr.refl _ _ s) (fr_ite (fr_setBit (Fr.refl _ _ s) (by simp) b) (gateRefused_fr (Fr.refl _ _ s) (by simp) _ _))

theorem clkGrp_not_mem (second : Bool) : CLK_GRP ∉ [enReg second, CLK_GATE_STATUS] := by
  cases second <;> decide

theorem enReg_ne_gateStatus (second : Bool) : enReg second ≠ CLK_GATE_STATUS := by
  cases second <;> decide

theorem bit_writeEnBit_self (s : State) (second : Bool) {i : Nat} (hi : i < 20) (b : Bool) :
    (s.writeEnBit second i b).bit (enReg second) i = s.newEnBit second i b := by
  unfold State.writeEnBit State.newEnBit
  cases enGroup second i with
  | none => rfl
  | some g =>
    simp only
    generalize (if b = true then s.bit CLK_GRP g else s.mayGate second i) = allowed
    split
    · rfl
    · cases allowed
      · rw [if_neg Bool.false_ne_true]
        exact bit_gateRefused s (b2n second) i (enReg_ne_gateStatus second)
      · rw [if_pos rfl]
        exact bit_setBit_self s (enReg second) (by omega) b

theorem bit_writeEnBit_ne (s : State) (second : Bool) {i j : Nat} (hj : j ≠ i) (b : Bool) :
    (s.writeEnBit second i b).bit (enReg second) j = s.bit (enReg second) j := by
  unfold State.writeEnBit
  cases enGroup second i with
  | none => rfl
  | some g =>
    simp only
    generalize (if b = true then s.bit CLK_GRP g else s.mayGate second i) = allowed
    split
    · rfl
    · cases allowed
      · rw [if_neg Bool.false_ne_true]
        exact bit_gateRefused s (b2n second) i (enReg_ne_gateStatus second)
      · rw [if_pos rfl]
        exact bit_setBit_ne s (enReg second) hj b

theorem newEnBit_writeEnBit_ne (s : State) (second : Bool) {i j : Nat} (hj : j ≠ i) (b c : Bool) :
    (s.writeEnBit second i b).newEnBit second j c = s.newEnBit second j c := by
  have hfr := writeEnBit_fr s second i b
  have hgate := mayGate_fr hfr (by cases second <;> decide) second j
  have hgrp (g : Nat) : (s.writeEnBit second i b).bit CLK_GRP g = s.bit CLK_GRP g :=
    hfr.flag (f := ⟨CLK_GRP, g, 1⟩) (clkGrp_not_mem second)
  unfold State.newEnBit
  rw [bit_writeEnBit_ne s second hj b, hgate]
  simp only [hgrp]

/-- The bits of a write are decided one by one, each as if it were written alone. -/
theorem bit_writeEnBits (s : State) (second : Bool) (v : Reg) {l : List Nat} (hl : l.Nodup) (h20 : ∀ i ∈ l, i < 20) (j : Nat) :
    (l.foldl (fun s i => s.writeEnBit second i (v.getLsbD i)) s).bit (enReg second) j =
      if j ∈ l then s.newEnBit second j (v.getLsbD j) else s.bit (enReg second) j := by
  induction l generalizing s with
  | nil => simp
  | cons i l ih =>
    obtain ⟨hi, hl⟩ := List.nodup_cons.mp hl
    rw [List.foldl_cons, ih _ hl fun k hk => h20 k (List.mem_cons_of_mem _ hk)]
    by_cases hj : j = i
    · subst hj
      simp [hi, bit_writeEnBit_self s second (h20 j (by simp))]
    · simp [hj, newEnBit_writeEnBit_ne s second hj, bit_writeEnBit_ne s second hj]

theorem newEnBit_coreWaits (s : State) (req : Requester) (w : Option BusWait) (second : Bool) (i : Nat) (b : Bool) :
    (s.coreWaits req w).newEnBit second i b = s.newEnBit second i b := by
  unfold State.newEnBit State.bit
  rw [mayGate_coreWaits]
  simp only [coreWaits_flag]

theorem newEnBit_of_some (s : State) {second : Bool} {i g : Nat} (h : enGroup second i = some g) (b : Bool) :
    s.newEnBit second i b =
      if s.bit (enReg second) i = b then s.bit (enReg second) i
      else if (if b then s.bit CLK_GRP g else s.mayGate second i) then b else s.bit (enReg second) i := by
  unfold State.newEnBit
  rw [h]

theorem newEnBit_of_none (s : State) {second : Bool} {i : Nat} (h : enGroup second i = none) (b : Bool) :
    s.newEnBit second i b = s.bit (enReg second) i := by
  unfold State.newEnBit
  rw [h]

/-! ### Groups -/

/-- One group's bit of a write of CLK_GRP, the root being as given after it (R269). -/
def State.writeGrpBit (s : State) (v : Reg) (root : Bool) (g : Nat) : State :=
  if s.bit CLK_GRP g then
    if v.getLsbD g then s else if s.groupUsed g then s.gateRefused 2 g else s.setBit CLK_GRP g false
  else if v.getLsbD g then if root then s.setBit CLK_GRP g true else s.gateRefused 2 g
  else s

/-- The root after a write of CLK_GRP: it stays on under a group that stays on. -/
def State.rootAfter (s : State) (v : Reg) : Bool :=
  v.getLsbD 0 || (s.bit CLK_GRP 0 && [1, 2, 3, 4, 5].any (fun g => s.bit CLK_GRP g && (v.getLsbD g || s.groupUsed g)))

/-- A write of the root's bit, refused where a group keeps the root on. -/
def State.writeRoot (s : State) (v : Reg) : State :=
  (if s.rootAfter v ∧ v.getLsbD 0 = false then s.gateRefused 2 0 else s).setBit CLK_GRP 0 (s.rootAfter v)

theorem writeGrp_eq (s : State) (v : Reg) :
    s.writeGrp v = [1, 2, 3, 4, 5].foldl (fun t g => t.writeGrpBit v (s.rootAfter v) g) (s.writeRoot v) := rfl

/-- What a write makes of the bit of a group. -/
def State.newGrpBit (s : State) (v : Reg) (root : Bool) (g : Nat) : Bool :=
  if s.bit CLK_GRP g then v.getLsbD g || s.groupUsed g else v.getLsbD g && root

theorem writeGrpBit_fr (s : State) (v : Reg) (root : Bool) (g : Nat) :
    Fr [] [CLK_GRP, CLK_GATE_STATUS] s (s.writeGrpBit v root g) := by
  have hset (b : Bool) : Fr [] [CLK_GRP, CLK_GATE_STATUS] s (s.setBit CLK_GRP g b) := fr_setBit (Fr.refl _ _ s) (by simp) b
  have hrefused : Fr [] [CLK_GRP, CLK_GATE_STATUS] s (s.gateRefused 2 g) := gateRefused_fr (Fr.refl _ _ s) (by simp) _ _
  exact fr_ite (fr_ite (Fr.refl _ _ s) (fr_ite hrefused (hset false)))
    (fr_ite (fr_ite (hset true) hrefused) (Fr.refl _ _ s))

theorem writeRoot_fr (s : State) (v : Reg) : Fr [] [CLK_GRP, CLK_GATE_STATUS] s (s.writeRoot v) :=
  fr_setBit (fr_ite (gateRefused_fr (Fr.refl _ _ s) (by simp) _ _) (Fr.refl _ _ s)) (by simp) _

/-- The enables of a group's blocks are no group bits. -/
theorem groupUsed_fr {s t : State} (h : Fr [] [CLK_GRP, CLK_GATE_STATUS] s t) (g : Nat) : t.groupUsed g = s.groupUsed g := by
  have hbit (r : Bool) (i : Nat) : t.bit (enReg r) i = s.bit (enReg r) i :=
    h.flag (f := ⟨enReg r, i, 1⟩) (show enReg r ∉ _ by cases r <;> decide)
  simp only [State.groupUsed, hbit]

theorem clkGrp_ne_gateStatus : CLK_GRP ≠ CLK_GATE_STATUS := by decide

theorem bit_writeGrpBit_self (s : State) (v : Reg) (root : Bool) {g : Nat} (hg : g < 6) :
    (s.writeGrpBit v root g).bit CLK_GRP g = s.newGrpBit v root g := by
  have hset (b : Bool) : (s.setBit CLK_GRP g b).bit CLK_GRP g = b := bit_setBit_self s CLK_GRP (by omega) b
  have hrefused : (s.gateRefused 2 g).bit CLK_GRP g = s.bit CLK_GRP g := bit_gateRefused s 2 g clkGrp_ne_gateStatus
  unfold State.writeGrpBit State.newGrpBit
  cases hon : s.bit CLK_GRP g <;> cases hv : v.getLsbD g <;> simp [hon]
  · cases root <;> simp [hset, hrefused, hon]
  · cases hu : s.groupUsed g <;> simp [hset, hrefused, hon]

theorem bit_writeGrpBit_ne (s : State) (v : Reg) (root : Bool) {g j : Nat} (hj : j ≠ g) :
    (s.writeGrpBit v root g).bit CLK_GRP j = s.bit CLK_GRP j := by
  have hset (b : Bool) : (s.setBit CLK_GRP g b).bit CLK_GRP j = s.bit CLK_GRP j := bit_setBit_ne s CLK_GRP hj b
  have hrefused : (s.gateRefused 2 g).bit CLK_GRP j = s.bit CLK_GRP j := bit_gateRefused s 2 g clkGrp_ne_gateStatus
  unfold State.writeGrpBit
  simp only [apply_ite (fun t : State => t.bit CLK_GRP j), hset, hrefused, ite_self]

theorem newGrpBit_writeGrpBit_ne (s : State) (v : Reg) (root : Bool) {g j : Nat} (hj : j ≠ g) :
    (s.writeGrpBit v root g).newGrpBit v root j = s.newGrpBit v root j := by
  unfold State.newGrpBit
  rw [bit_writeGrpBit_ne s v root hj, groupUsed_fr (writeGrpBit_fr s v root g)]

/-- The groups of a write are decided one by one, each as if it were written alone. -/
theorem bit_writeGrpBits (s : State) (v : Reg) (root : Bool) {l : List Nat} (hl : l.Nodup) (h6 : ∀ g ∈ l, g < 6) (j : Nat) :
    (l.foldl (fun t g => t.writeGrpBit v root g) s).bit CLK_GRP j =
      if j ∈ l then s.newGrpBit v root j else s.bit CLK_GRP j := by
  induction l generalizing s with
  | nil => simp
  | cons g l ih =>
    obtain ⟨hg, hl⟩ := List.nodup_cons.mp hl
    rw [List.foldl_cons, ih _ hl fun k hk => h6 k (List.mem_cons_of_mem _ hk)]
    by_cases hj : j = g
    · subst hj
      simp [hg, bit_writeGrpBit_self s v root (h6 j (by simp))]
    · simp [hj, newGrpBit_writeGrpBit_ne s v root hj, bit_writeGrpBit_ne s v root hj]

theorem bit_writeRoot (s : State) (v : Reg) (j : Nat) :
    (s.writeRoot v).bit CLK_GRP j = if j = 0 then s.rootAfter v else s.bit CLK_GRP j := by
  unfold State.writeRoot
  by_cases hj : j = 0
  · subst hj
    exact bit_setBit_self _ CLK_GRP (by decide) _
  · rw [if_neg hj, bit_setBit_ne _ CLK_GRP hj]
    split
    · exact bit_gateRefused s 2 0 clkGrp_ne_gateStatus
    · rfl

/-- The root and the groups after a write of CLK_GRP (R269). -/
theorem writeGrp_spec (s : State) (v : Reg) :
    (s.writeGrp v).bit CLK_GRP 0 = s.rootAfter v ∧
      (∀ g, 1 ≤ g → g ≤ 5 → (s.writeGrp v).bit CLK_GRP g = s.newGrpBit v (s.rootAfter v) g) ∧
      Fr [] [CLK_GRP, CLK_GATE_STATUS] s (s.writeGrp v) := by
  have hbits := bit_writeGrpBits (s.writeRoot v) v (s.rootAfter v) (l := [1, 2, 3, 4, 5]) (by decide) (by decide)
  rw [writeGrp_eq]
  refine ⟨?_, fun g h1 h5 => ?_, ?_⟩
  · rw [hbits 0, if_neg (by decide), bit_writeRoot, if_pos rfl]
  · have hmem : g ∈ [1, 2, 3, 4, 5] := by
      interval_cases g <;> decide
    rw [hbits g, if_pos hmem]
    have hroot : (s.writeRoot v).bit CLK_GRP g = s.bit CLK_GRP g := (bit_writeRoot s v g).trans (if_neg (by omega))
    unfold State.newGrpBit
    rw [hroot, groupUsed_fr (writeRoot_fr s v)]
  · exact fr_foldl (writeRoot_fr s v) (fun t g ht => ht.trans (writeGrpBit_fr t v _ g)) _

end Sys2Proof.Machine
end

section
/-! SUPPORT.  Operating points: a request, the end of a transition, and AVSBus at work again (R257, R258, R405). -/

namespace Sys2Proof.Machine

open Sys2Proof

/-- Nothing is requested for a transition whose set point has been requested, or while AVSBus fails. -/
theorem opAsk_of_requested {s : State} {o : OpRun} (hop : s.clk.op = some o)
    (h : o.requested = true ∨ s.flag PMU_STATUS_AVS_FAULT = true) : s.opAsk = s := by
  unfold State.opAsk
  rw [hop]
  exact if_pos h

theorem opAsk_of_none {s : State} (h : s.clk.op = none) : s.opAsk = s := by
  unfold State.opAsk
  rw [h]

/-- The set point of a transition is requested. -/
theorem opAsk_of_works {s : State} {o : OpRun} (hop : s.clk.op = some o) (hreq : o.requested = false)
    (h : s.flag PMU_STATUS_AVS_FAULT = false) :
    s.opAsk.clk.op = some { o with requested := true } ∧ s.opAsk.pow.reqB = some (s.get (CLK_OP_VDDB_MV o.dest)) := by
  unfold State.opAsk
  rw [hop]
  simp only [hreq, h, Bool.false_eq_true, or_self, if_false]
  exact ⟨rfl, rfl⟩

/-- A request changes no entry and no direction of a transition. -/
theorem opAsk_dest {s : State} {o : OpRun} (hop : s.clk.op = some o) :
    ∃ q, s.opAsk.clk.op = some q ∧ q.dest = o.dest ∧ q.orig = o.orig := by
  cases hreq : o.requested
  · cases hf : s.flag PMU_STATUS_AVS_FAULT
    · exact ⟨_, (opAsk_of_works hop hreq hf).1, rfl, rfl⟩
    · exact ⟨o, by rw [opAsk_of_requested hop (.inr hf), hop], rfl, rfl⟩
  · exact ⟨o, by rw [opAsk_of_requested hop (.inl hreq), hop], rfl, rfl⟩

/-- The divider and the VDD_B of an entry are RW (R256). -/
theorem rwField_op : ∀ e : Fin 4, rwField (CLK_OP e.val) 0 6 = true ∧ rwField (CLK_OP e.val) 16 10 = true := by decide

theorem startOp_of_current {s : State} {k : Nat} (h : k = s.get CLK_STATUS_OP_CUR) : s.startOp k = s := if_pos h

/-- The transition to another entry before its set point is requested. -/
def State.newOp (s : State) (k : Nat) : OpRun :=
  { dest := k, orig := s.get CLK_STATUS_OP_CUR, raising := decide (s.pow.setB < s.get (CLK_OP_VDDB_MV k)), requested := false }

/-- The state in which the set point of a new transition is to be requested. -/
def State.opBegun (s : State) (k : Nat) : State := (s.setFlag CLK_STATUS_OP_BUSY true).setOp (some (s.newOp k))

/-- The request of another entry (R257 steps 1 and 1′). -/
theorem startOp_spec {s : State} {k : Nat} (h : k ≠ s.get CLK_STATUS_OP_CUR) :
    (s.startOp k).flag CLK_STATUS_OP_BUSY = true ∧
    (s.startOp k).clk.op = some { dest := k, orig := s.get CLK_STATUS_OP_CUR,
                                  raising := decide (s.pow.setB < s.get (CLK_OP_VDDB_MV k)),
                                  requested := !s.flag PMU_STATUS_AVS_FAULT } ∧
    (s.startOp k).pow.reqB = (if s.flag PMU_STATUS_AVS_FAULT then s.pow.reqB else some (s.get (CLK_OP_VDDB_MV k))) ∧
    (s.startOp k).get CLK_STATUS_OP_CUR = s.get CLK_STATUS_OP_CUR ∧
    Fr [.pow, .clk] [CLK_STATUS] s (s.startOp k) := by
  have hstart : s.startOp k = (s.opBegun k).opAsk := by
    unfold State.startOp State.opBegun State.newOp
    rw [if_neg h]
    dsimp only
    rw [State.get_setFlag_apart s (g := CLK_STATUS_OP_CUR) (by decide)]
  have hop : (s.opBegun k).clk.op = some (s.newOp k) := rfl
  have hset : Fr [.pow, .clk] [CLK_STATUS] s (s.setFlag CLK_STATUS_OP_BUSY true) := fr_setFlag (Fr.refl _ _ s) (by decide) true
  have hfr : Fr [.pow, .clk] [CLK_STATUS] s (s.opBegun k) := fr_mk hset (State.setOp_keeps _ hset.keeps) rfl
  have hbusy : (s.opBegun k).flag CLK_STATUS_OP_BUSY = true :=
    State.flag_setFlag_self s CLK_STATUS_OP_BUSY (by decide) rfl true
  have hcur : (s.opBegun k).get CLK_STATUS_OP_CUR = s.get CLK_STATUS_OP_CUR := State.get_setFlag_apart s (by decide) true
  have hfault : (s.opBegun k).flag PMU_STATUS_AVS_FAULT = s.flag PMU_STATUS_AVS_FAULT := hfr.flag (by decide)
  have hmv : (s.opBegun k).get (CLK_OP_VDDB_MV k) = s.get (CLK_OP_VDDB_MV k) := hfr.get (by simp [CLK_OP_VDDB_MV, CLK_OP, CLK_STATUS]; omega)
  have hask := (opAsk_fr (s.opBegun k)).mono (List.Subset.refl _) (List.nil_subset [CLK_STATUS])
  rw [hstart]
  refine ⟨((opAsk_fr (s.opBegun k)).flag List.not_mem_nil).trans hbusy, ?_, ?_, ((opAsk_fr (s.opBegun k)).get List.not_mem_nil).trans hcur, hfr.trans hask⟩
  · cases hf : s.flag PMU_STATUS_AVS_FAULT
    · exact (opAsk_of_works hop rfl (hfault.trans hf)).1
    · rw [opAsk_of_requested hop (.inr (hfault.trans hf)), hop]
      rfl
  · cases hf : s.flag PMU_STATUS_AVS_FAULT
    · exact (opAsk_of_works hop rfl (hfault.trans hf)).2.trans (congrArg some hmv)
    · rw [opAsk_of_requested hop (.inr (hfault.trans hf))]
      rfl

/-- CLK_OP_CTL after the plain write that a request begins with. -/
def State.opCtlWritten (s : State) (req : Requester) (v : Reg) : State := (s.coreWaits req none).plainWrite CLK_OP_CTL v

theorem opCtlWritten_spec (s : State) (req : Requester) (v : Reg) :
    (s.opCtlWritten req v).get CLK_OP_CTL_REQ = fldGet v 0 2 ∧ Fr [.cores] [CLK_OP_CTL] s (s.opCtlWritten req v) ∧
      (s.opCtlWritten req v).clk.op = s.clk.op ∧ (s.opCtlWritten req v).pow = s.pow := by
  have hfr : Fr [.cores] [CLK_OP_CTL] s (s.opCtlWritten req v) :=
    plainWrite_fr _ v ((coreWaits_fr s req none).mono (List.Subset.refl _) (List.nil_subset _)) (List.mem_singleton_self _)
  have hclk : (s.opCtlWritten req v).clk = s.clk := hfr.frame.part .clk (by simp)
  exact ⟨get_plainWrite _ (f := CLK_OP_CTL_REQ) (by decide) v, hfr, congrArg ClkState.op hclk, hfr.frame.part .pow (by simp)⟩

/-- AVSBus at work again takes a transition on, not to another entry. -/
theorem avsWorks_dest {s : State} {o : OpRun} (hop : s.clk.op = some o) :
    ∃ q, s.avsWorks.clk.op = some q ∧ q.dest = o.dest ∧ q.orig = o.orig := by
  unfold State.avsWorks
  split
  · dsimp only
    split
    · exact ⟨o, hop, rfl, rfl⟩
    · exact opAsk_dest (s := s.setFlag PMU_STATUS_AVS_FAULT false) hop
  · exact ⟨o, hop, rfl, rfl⟩

theorem avsWorks_of_none {s : State} (hop : s.clk.op = none) :
    s.avsWorks.clk = s.clk ∧ s.avsWorks.pow = s.pow ∧ Fr [] [PMU_STATUS] s s.avsWorks := by
  have hset : Fr [] [PMU_STATUS] s (s.setFlag PMU_STATUS_AVS_FAULT false) :=
    fr_setFlag (f := PMU_STATUS_AVS_FAULT) (Fr.refl _ _ s) (by decide) false
  unfold State.avsWorks
  dsimp only
  rw [opAsk_of_none (s := s.setFlag PMU_STATUS_AVS_FAULT false) hop, ite_self]
  split
  · exact ⟨rfl, rfl, hset⟩
  · exact ⟨rfl, rfl, Fr.refl _ _ s⟩

/-- A transition that HALVED holds stays while AVSBus works again (R258). -/
theorem avsWorks_of_halved {s : State} (h : s.flag CLK_STATUS_HALVED = true) :
    s.avsWorks.clk = s.clk ∧ s.avsWorks.pow = s.pow ∧ Fr [] [PMU_STATUS] s s.avsWorks := by
  have hset : Fr [] [PMU_STATUS] s (s.setFlag PMU_STATUS_AVS_FAULT false) :=
    fr_setFlag (f := PMU_STATUS_AVS_FAULT) (Fr.refl _ _ s) (by decide) false
  have hhalved : (s.setFlag PMU_STATUS_AVS_FAULT false).flag CLK_STATUS_HALVED = true :=
    (hset.flag (f := CLK_STATUS_HALVED) (by decide)).trans h
  unfold State.avsWorks
  dsimp only
  rw [if_pos hhalved]
  split
  · exact ⟨rfl, rfl, hset⟩
  · exact ⟨rfl, rfl, Fr.refl _ _ s⟩

/-! ### The end of a transition (R257 steps 3 and 3′) -/

/-- The transition has ended, and nothing waiting has started. -/
def State.opEnded (s : State) (o : OpRun) : State :=
  (((s.setOp none).set CLK_STATUS_OP_CUR o.dest).setFlag CLK_STATUS_OP_BUSY false).raise 0x0805 (srcSuper 0)
    [(18, 1, o.orig), (19, 1, o.dest), (20, 2, s.pow.setB)]

theorem opEnded_fr (s : State) (o : OpRun) :
    Fr (.clk :: evParts) (CLK_STATUS :: bookKeys) s (s.opEnded o) := by
  have hop : Fr (.clk :: evParts) (CLK_STATUS :: bookKeys) s (s.setOp none) :=
    fr_mk (Fr.refl _ _ s) (State.setOp_keeps _ (Keeps.refl s)) rfl
  have hset : Fr (.clk :: evParts) (CLK_STATUS :: bookKeys) s
      (((s.setOp none).set CLK_STATUS_OP_CUR o.dest).setFlag CLK_STATUS_OP_BUSY false) :=
    fr_setFlag (f := CLK_STATUS_OP_BUSY) (fr_set (f := CLK_STATUS_OP_CUR) hop (by decide) _) (by decide) _
  exact hset.trans ((raise_fr _ _ _ _).mono (by simp) (by simp))

theorem opEnded_spec (s : State) {o : OpRun} (ho : o.dest < 4) :
    (s.opEnded o).clk.op = none ∧ (s.opEnded o).get CLK_STATUS_OP_CUR = o.dest ∧
      (s.opEnded o).flag CLK_STATUS_OP_BUSY = false ∧ (s.opEnded o).ev.seq = s.ev.seq + 1 := by
  unfold State.opEnded
  refine ⟨by rw [State.raise_clk]; rfl, ?_, ?_, by rw [raise_seq]; rfl⟩
  · rw [State.get_raise _ _ _ _ (by decide), State.get_setFlag_apart _ (by decide), State.get_set_self _ _ (by decide)]
    exact Nat.mod_eq_of_lt ho
  · rw [State.flag_raise _ _ _ _ (by decide)]
    exact State.flag_setFlag_self _ CLK_STATUS_OP_BUSY (by decide) rfl false

theorem opEnded_halved (s : State) (o : OpRun) : (s.opEnded o).flag CLK_STATUS_HALVED = s.flag CLK_STATUS_HALVED := by
  unfold State.opEnded
  rw [State.flag_raise _ _ _ _ (by decide), State.flag_setFlag_apart _ (by decide), State.flag_set_apart _ (by decide)]
  rfl

theorem endOp_eq {s : State} {o : OpRun} (hop : s.clk.op = some o) (hreq : o.requested = true) (hnone : s.pow.reqB = none)
    (hgo : o.raising = false ∨ s.flag CLK_STATUS_HALVED = false) : s.endOp = (s.opEnded o).pendingOp := by
  unfold State.endOp
  rw [hop]
  refine if_neg ?_
  rcases hgo with h | h <;> simp [hreq, hnone, h]

/-- A transition that raises VDD_B holds while HALVED (R258). -/
theorem endOp_of_halved {s : State} {o : OpRun} (hop : s.clk.op = some o) (hup : o.raising = true)
    (h : s.flag CLK_STATUS_HALVED = true) : s.endOp = s := by
  unfold State.endOp
  rw [hop]
  exact if_pos (.inr (.inr ⟨hup, h⟩))

/-- The end of a transition requests at most the set point of the next one. -/
theorem startOp_setB (s : State) (k : Nat) : (s.startOp k).pow.setB = s.pow.setB := by
  unfold State.startOp
  split
  · rfl
  · rw [opAsk_pow]
    rfl

theorem pendingOp_setB (s : State) : s.pendingOp.pow.setB = s.pow.setB := by
  unfold State.pendingOp
  split
  · rw [startOp_setB]
    rfl
  · rfl

theorem endOp_setB (s : State) : s.endOp.pow.setB = s.pow.setB := by
  unfold State.endOp
  split
  · split
    · rfl
    · dsimp only
      rw [pendingOp_setB, State.raise_pow]
      rfl
  · rfl

theorem avsWorks_setB (s : State) : s.avsWorks.pow.setB = s.pow.setB := by rw [avsWorks_pow]

/-- Nothing waits, or HALVED holds it up. -/
theorem pendingOp_of_none {s : State} (h : s.flag CLK_OP_CTL_PENDING = false ∨ s.flag CLK_STATUS_HALVED = true) :
    s.pendingOp = s := by
  refine if_neg ?_
  rcases h with h | h <;> simp [h]

theorem startOp_fr (s : State) (k : Nat) : Fr [.pow, .clk] [CLK_STATUS] s (s.startOp k) := by
  by_cases h : k = s.get CLK_STATUS_OP_CUR
  · rw [startOp_of_current h]
    exact Fr.refl _ _ s
  · obtain ⟨-, -, -, -, hfr⟩ := startOp_spec h
    exact hfr

theorem startOp_cur (s : State) (k : Nat) : (s.startOp k).get CLK_STATUS_OP_CUR = s.get CLK_STATUS_OP_CUR := by
  by_cases h : k = s.get CLK_STATUS_OP_CUR
  · rw [startOp_of_current h]
  · obtain ⟨-, -, -, hcur, -⟩ := startOp_spec h
    exact hcur

theorem pendingOp_cur (s : State) : s.pendingOp.get CLK_STATUS_OP_CUR = s.get CLK_STATUS_OP_CUR := by
  unfold State.pendingOp
  split
  · rw [startOp_cur, State.get_setFlag_apart _ (by decide)]
  · rfl

/-- The request that waited starts (R257). -/
theorem pendingOp_of_pending {s : State} (hpend : s.flag CLK_OP_CTL_PENDING = true) (hop : s.clk.op = none)
    (hhalved : s.flag CLK_STATUS_HALVED = false) :
    s.pendingOp = (s.setFlag CLK_OP_CTL_PENDING false).startOp (s.get CLK_OP_CTL_REQ) := if_pos ⟨hpend, hop, hhalved⟩

end Sys2Proof.Machine
end

section
/-! SUPPORT.  A VDD_F set point reached: its steps, what the governor shows, and the slots that waited for it (R85, R127, R194). -/

namespace Sys2Proof.Machine

open Sys2Proof

/-! ### Steps (R194) -/

theorem countSteps_fr (s : State) (mv : Nat) :
    Fr [] [PMU_GOV_UPS, PMU_GOV_DOWNS, PMU_GOV_SAT_UPS.reg] s (s.countSteps mv) := by
  unfold State.countSteps
  exact fr_ite (Fr.refl _ _ s) (fr_ite (fr_count (Fr.refl _ _ s) (by decide) (by decide) _)
    (fr_count (Fr.refl _ _ s) (by decide) (by decide) _))

theorem countSteps_up {s : State} {mv : Nat} (h0 : s.vddF ≠ 0) (h : s.vddF < mv) :
    ((s.countSteps mv).rd PMU_GOV_UPS).toNat = min 0xFFFFFFFF ((s.rd PMU_GOV_UPS).toNat + (mv - s.vddF + 4) / 5) := by
  unfold State.countSteps
  rw [if_neg h0, if_pos h]
  exact rd_count s _ _ (by decide) (by omega)

theorem countSteps_down {s : State} {mv : Nat} (h0 : s.vddF ≠ 0) (h : mv < s.vddF) :
    ((s.countSteps mv).rd PMU_GOV_DOWNS).toNat = min 0xFFFFFFFF ((s.rd PMU_GOV_DOWNS).toNat + (s.vddF - mv + 4) / 5) := by
  unfold State.countSteps
  rw [if_neg h0, if_neg (by omega)]
  exact rd_count s _ _ (by decide) (by omega)

/-! ### What the governor shows -/

theorem get_showCapHeld (s : State) {g : Fld} (hg : fldsApart PMU_GOV_STATUS_CAP_HELD g = true) (hb : g.reg ∉ bookKeys) :
    s.showCapHeld.get g = s.get g := by
  have hset := State.get_setFlag_apart s hg (s.flag PMU_GOV_STATUS_CAP_ACTIVE && decide (s.vddF ≤ s.lowerBound))
  unfold State.showCapHeld
  dsimp only
  split
  · exact hset
  · split
    · rw [State.get_raise _ _ _ _ hb]
      exact hset
    · exact hset

theorem showBound_fr (s : State) : Fr (.pow :: evParts) (PMU_GOV_STATUS :: PMU_GOV_FLOOR :: bookKeys) s s.showBound := by
  refine Fr.trans (fr_setFlag (f := PMU_GOV_STATUS_AT_FLOOR) (fr_set (f := PMU_GOV_FLOOR_FLOOR_MV) (Fr.refl _ _ s)
    (by decide) _) (by decide) _) ((showCapHeld_spec _).fr.mono (List.Subset.refl _) ?_)
  exact List.cons_subset_cons _ (List.subset_cons_self _ _)

/-- The lower bound shown, and whether the set point is at it (R190, R191). -/
theorem showBound_spec (s : State) : s.showBound.vddF = s.vddF ∧
    s.showBound.flag PMU_GOV_STATUS_AT_FLOOR = decide (s.vddF ≤ s.lowerBound) ∧
    s.showBound.flag PMU_GOV_STATUS_CAP_HELD = (s.flag PMU_GOV_STATUS_CAP_ACTIVE && decide (s.vddF ≤ s.lowerBound)) ∧
    s.showBound.pow.reqF = s.pow.reqF := by
  have hset : Fr [] [PMU_GOV_FLOOR, PMU_GOV_STATUS] s ((s.set PMU_GOV_FLOOR_FLOOR_MV s.lowerBound).setFlag
      PMU_GOV_STATUS_AT_FLOOR (decide (s.vddF ≤ s.lowerBound))) :=
    fr_setFlag (f := PMU_GOV_STATUS_AT_FLOOR) (fr_set (f := PMU_GOV_FLOOR_FLOOR_MV) (Fr.refl _ _ s) (by decide) _) (by decide) _
  have hkept {g : Fld} (hf : fldsApart PMU_GOV_FLOOR_FLOOR_MV g = true) (ha : fldsApart PMU_GOV_STATUS_AT_FLOOR g = true) :
      ((s.set PMU_GOV_FLOOR_FLOOR_MV s.lowerBound).setFlag PMU_GOV_STATUS_AT_FLOOR (decide (s.vddF ≤ s.lowerBound))).get g =
        s.get g := by
    rw [State.get_setFlag_apart _ ha, State.get_set_apart _ hf]
  have hbound := lowerBound_fr hset (by simp) (by decide)
  have hat := State.flag_setFlag_self (s.set PMU_GOV_FLOOR_FLOOR_MV s.lowerBound) PMU_GOV_STATUS_AT_FLOOR (by decide) rfl
    (decide (s.vddF ≤ s.lowerBound))
  have hvdd := hkept (g := PMU_GOV_STATUS_SETPOINT_MV) (by decide) (by decide)
  have hactive := congrArg (fun x => decide (x ≠ 0)) (hkept (g := PMU_GOV_STATUS_CAP_ACTIVE) (by decide) (by decide))
  show (State.showCapHeld _).vddF = _ ∧ (State.showCapHeld _).flag _ = _ ∧ (State.showCapHeld _).flag _ = _ ∧
    (State.showCapHeld _).pow.reqF = _
  generalize (s.set PMU_GOV_FLOOR_FLOOR_MV s.lowerBound).setFlag PMU_GOV_STATUS_AT_FLOOR (decide (s.vddF ≤ s.lowerBound)) = u at *
  have hspec := showCapHeld_spec u
  refine ⟨(get_showCapHeld u (by decide) (by decide)).trans hvdd, ?_, ?_, ?_⟩
  · unfold State.flag at hat ⊢
    rw [get_showCapHeld u (by decide) (by decide)]
    exact hat
  · rw [hspec.held, hbound]
    unfold State.vddF State.flag
    rw [hvdd]
    exact congrArg (· && _) hactive
  · rw [hspec.pow]
    have hpow : u.pow = s.pow := hset.frame.part .pow (by simp)
    have hreq : u.pow.reqF = s.pow.reqF := congrArg PowState.reqF hpow
    exact hreq

/-! ### Slots that wait for a floor (R127 step 4′) -/

/-- One resident slot as VDD_F is reported reached. -/
def State.floorReached (s : State) (e : Nat × Slot) : State :=
  let f := s.get (COL_CTX_SRC_FLOOR (matCol (e.1 / 4)) (matG (e.1 / 4)) (e.1 % 4))
  if s.slotState (e.1 / 4) (e.1 % 4) = slWAIT_FLOOR ∧ floorMv f ≤ s.vddF then
    (s.setSlotState (e.1 / 4) (e.1 % 4) slREADY).raise 0x0402 (srcMat (e.1 / 4) (8 + e.1 % 4)) [(18, 1, f), (19, 2, s.vddF)]
  else s

theorem floorsReached_eq (s : State) : s.floorsReached = (s.ctx.slots.foldl State.floorReached s).checkLoads := rfl

/-- The registers of the resident slots' states. -/
def State.slotRegs (s : State) : List Nat := s.ctx.slots.map fun e => (slotFld (e.1 / 4) (e.1 % 4)).reg

theorem le_slotReg (m k : Nat) : 0x200000 ≤ (slotFld m k).reg := by
  simp only [slotFld, COL_CTX_STATE]
  omega

theorem floorReached_fr (s : State) (e : Nat × Slot) :
    Fr evParts ((slotFld (e.1 / 4) (e.1 % 4)).reg :: bookKeys) s (s.floorReached e) := by
  unfold State.floorReached
  exact fr_ite ((fr_set (f := slotFld (e.1 / 4) (e.1 % 4)) (Fr.refl _ _ s) (List.mem_cons_self ..) _).trans
    ((raise_fr _ _ _ _).mono (List.Subset.refl _) (List.subset_cons_self _ _))) (Fr.refl _ _ s)

theorem floorsReached_slots_fr (s : State) (l : List (Nat × Slot)) :
    Fr evParts (l.map (fun e => (slotFld (e.1 / 4) (e.1 % 4)).reg) ++ bookKeys) s (l.foldl State.floorReached s) := by
  induction l generalizing s with
  | nil => exact Fr.refl _ _ _
  | cons e l ih =>
    refine Fr.trans (t := s.floorReached e) ((floorReached_fr s e).mono (List.Subset.refl _) ?_) ((ih _).mono (List.Subset.refl _) ?_)
    · simp
    · exact List.subset_cons_self _ _

theorem fldsApart_iff (f g : Fld) : fldsApart f g = true ↔ f.reg ≠ g.reg ∨ f.lo + f.w ≤ g.lo ∨ g.lo + g.w ≤ f.lo := by
  rw [fldsApart, Bool.or_eq_true, Bool.or_eq_true, decide_eq_true_eq, decide_eq_true_eq, decide_eq_true_eq, or_assoc]

/-- A slot's state is a field of its own. -/
theorem slotFld_apart (q k q' k' : Nat) (h : slotFld q k ≠ slotFld q' k') : fldsApart (slotFld q k) (slotFld q' k') = true := by
  by_cases hr : (slotFld q k).reg = (slotFld q' k').reg
  · have hk : k ≠ k' := fun hk => h (by
      subst hk
      simp only [slotFld] at hr ⊢
      rw [hr])
    rw [fldsApart_iff]
    simp only [slotFld]
    omega
  · exact (fldsApart_iff _ _).mpr (.inl hr)

/-- A slot's floor is in no register of a slot's state. -/
theorem floor_apart (q k q' k' : Nat) (hk : k < 4) :
    fldsApart (slotFld q' k') (COL_CTX_SRC_FLOOR (matCol q) (matG q) k) = true := by
  rw [fldsApart_iff]
  simp only [slotFld, COL_CTX_SRC_FLOOR, COL_CTX_SRC, COL_CTX_STATE, matCol, matG]
  omega

/-- What a resident slot shows after another one's floor has been compared. -/
theorem floorReached_kept (s : State) (e : Nat × Slot) (q k : Nat) (hk : k < 4) :
    (s.floorReached e).vddF = s.vddF ∧
    (s.floorReached e).get (COL_CTX_SRC_FLOOR (matCol q) (matG q) k) = s.get (COL_CTX_SRC_FLOOR (matCol q) (matG q) k) ∧
    ((s.floorReached e).slotState q k = s.slotState q k ∨ (s.floorReached e).slotState q k = slREADY) := by
  have hbig (f : Fld) (hf : 0x200000 ≤ f.reg) : f.reg ∉ bookKeys := not_mem_bookKeys (by omega)
  have hfloor : 0x200000 ≤ (COL_CTX_SRC_FLOOR (matCol q) (matG q) k).reg := by
    simp only [COL_CTX_SRC_FLOOR, COL_CTX_SRC]
    omega
  unfold State.floorReached
  dsimp only
  split
  · refine ⟨?_, ?_, ?_⟩
    · unfold State.vddF
      rw [State.get_raise _ _ _ _ (by decide)]
      refine State.get_set_apart s ?_ _
      have := le_slotReg (e.1 / 4) (e.1 % 4)
      rw [fldsApart_iff]
      simp only [PMU_GOV_STATUS_SETPOINT_MV, PMU_GOV_STATUS]
      omega
    · rw [State.get_raise _ _ _ _ (hbig _ hfloor)]
      exact State.get_set_apart s (floor_apart _ _ _ _ hk) _
    · unfold State.slotState State.setSlotState
      rw [State.get_raise _ _ _ _ (hbig _ (le_slotReg q k))]
      by_cases he : slotFld (e.1 / 4) (e.1 % 4) = slotFld q k
      · rw [he, State.get_set_self s _ (show 4 * k + 4 ≤ 32 by omega)]
        exact .inr rfl
      · rw [State.get_set_apart s (slotFld_apart _ _ _ _ he)]
        exact .inl rfl
  · exact ⟨rfl, rfl, .inl rfl⟩

/-- A slot that waits for a floor which VDD_F has reached is READY. -/
theorem floorReached_self (s : State) (e : Nat × Slot) (hw : s.slotState (e.1 / 4) (e.1 % 4) = slWAIT_FLOOR)
    (hf : floorMv (s.get (COL_CTX_SRC_FLOOR (matCol (e.1 / 4)) (matG (e.1 / 4)) (e.1 % 4))) ≤ s.vddF) :
    (s.floorReached e).slotState (e.1 / 4) (e.1 % 4) = slREADY := by
  unfold State.floorReached
  dsimp only
  rw [if_pos ⟨hw, hf⟩]
  unfold State.slotState State.setSlotState
  rw [State.get_raise _ _ _ _ (not_mem_bookKeys (by have := le_slotReg (e.1 / 4) (e.1 % 4); omega)),
    State.get_set_self s _ (show 4 * (e.1 % 4) + 4 ≤ 32 by omega)]
  rfl

/-- A READY slot stays so. -/
theorem slotState_floorsReached_of_ready (l : List (Nat × Slot)) {s : State} {q k : Nat} (hk : k < 4)
    (h : s.slotState q k = slREADY) : (l.foldl State.floorReached s).slotState q k = slREADY := by
  induction l generalizing s with
  | nil => exact h
  | cons e l ih =>
    obtain ⟨-, -, hstate⟩ := floorReached_kept s e q k hk
    exact ih (hstate.elim (fun hs => hs.trans h) (fun hr => hr))

/-- Every resident slot that waits for a floor which VDD_F has reached becomes READY. -/
theorem slotState_floorsReached (l : List (Nat × Slot)) {s : State} {e : Nat × Slot} (he : e ∈ l)
    (hw : s.slotState (e.1 / 4) (e.1 % 4) = slWAIT_FLOOR)
    (hf : floorMv (s.get (COL_CTX_SRC_FLOOR (matCol (e.1 / 4)) (matG (e.1 / 4)) (e.1 % 4))) ≤ s.vddF) :
    (l.foldl State.floorReached s).slotState (e.1 / 4) (e.1 % 4) = slREADY := by
  have hk : e.1 % 4 < 4 := Nat.mod_lt _ (by decide)
  induction l generalizing s with
  | nil => cases he
  | cons d l ih =>
    rw [List.foldl_cons]
    rcases List.mem_cons.mp he with rfl | hl
    · exact slotState_floorsReached_of_ready l hk (floorReached_self s e hw hf)
    · obtain ⟨hvdd, hfloor, hstate⟩ := floorReached_kept s d (e.1 / 4) (e.1 % 4) hk
      rcases hstate with hstate | hstate
      · exact ih hl (hstate.trans hw) (by rw [hfloor, hvdd]; exact hf)
      · exact slotState_floorsReached_of_ready l hk hstate

/-! ### Loads -/

theorem checkLoads_fr (s : State) : Fr (.ctx :: .cmds :: evParts) bookKeys s s.checkLoads := by
  unfold State.checkLoads
  refine fr_foldl (Fr.refl _ _ s) (fun t r ht => fr_ite ht ?_) _
  have hloads : Fr (.ctx :: .cmds :: evParts) bookKeys s (t.setLoads (t.ctx.loads.filter (fun x => decide (x.ref ≠ r.ref)))) :=
    fr_mk ht (State.setLoads_keeps _ ht.keeps) rfl
  exact fr_finish hloads (List.subset_cons_self _ _) (List.Subset.refl _) _ _ _

theorem checkLoads_of_none {s : State} (h : s.ctx.loads = []) : s.checkLoads = s := by
  unfold State.checkLoads
  rw [h]
  rfl

/-! ### A set point reached (R85, R189, R257) -/

/-- VDD_F at its set point, shown and counted, before the slots and AVSBus hear of it. -/
def State.fReached (s : State) (mv : Nat) : State :=
  ((State.countSteps { s with pow := { s.pow with reqF := none } } mv).set PMU_GOV_STATUS_SETPOINT_MV mv).showBound

theorem setPointReached_f {s : State} {mv : Nat} (h : s.pow.reqF = some mv) :
    exec (.setPointReached 0) s = .next (s.fReached mv).floorsReached.avsWorks := by
  show execSetPointReached 0 s = _
  unfold execSetPointReached
  rw [h]
  rfl

theorem setPointReached_f_none {s : State} (h : s.pow.reqF = none) : exec (.setPointReached 0) s = .next s := by
  show execSetPointReached 0 s = _
  unfold execSetPointReached
  rw [h]
  rfl

theorem setPointReached_b_none {s : State} (h : s.pow.reqB = none) : exec (.setPointReached 1) s = .next s := by
  show execSetPointReached 1 s = _
  unfold execSetPointReached
  rw [h]
  rfl

/-- The set point of rail VDD_B in force. -/
def State.bReached (s : State) (mv : Nat) : State := { s with pow := { s.pow with reqB := none, setB := mv } }

theorem setPointReached_b {s : State} {mv : Nat} (h : s.pow.reqB = some mv) :
    exec (.setPointReached 1) s = .next (s.bReached mv).endOp.avsWorks := by
  show execSetPointReached 1 s = _
  unfold execSetPointReached
  rw [h]
  rfl

/-- Registers of a reached VDD_F set point. -/
def govKeys : List Nat := PMU_GOV_STATUS :: PMU_GOV_FLOOR :: PMU_GOV_UPS :: PMU_GOV_DOWNS :: PMU_GOV_SAT_UPS.reg :: bookKeys

theorem fShown_fr (s : State) (mv : Nat) : Fr (.pow :: evParts) govKeys s
    ((State.countSteps { s with pow := { s.pow with reqF := none } } mv).set PMU_GOV_STATUS_SETPOINT_MV mv) :=
  fr_set (f := PMU_GOV_STATUS_SETPOINT_MV) ((fr_pow (Fr.refl _ _ s) (by simp) _).trans
    ((countSteps_fr _ mv).mono (List.nil_subset _) (by decide))) (by decide) _

theorem fReached_fr (s : State) (mv : Nat) : Fr (.pow :: evParts) govKeys s (s.fReached mv) :=
  (fShown_fr s mv).trans ((showBound_fr _).mono (List.Subset.refl _) (by decide))

theorem fReached_spec (s : State) {mv : Nat} (hmv : mv < 1024) :
    (s.fReached mv).vddF = mv ∧ (s.fReached mv).pow.reqF = none ∧
      (s.fReached mv).flag PMU_GOV_STATUS_AT_FLOOR = decide (mv ≤ s.lowerBound) ∧
      (s.fReached mv).flag PMU_GOV_STATUS_CAP_HELD = (s.flag PMU_GOV_STATUS_CAP_ACTIVE && decide (mv ≤ s.lowerBound)) ∧
      (s.vddF ≠ 0 → s.vddF < mv →
        ((s.fReached mv).rd PMU_GOV_UPS).toNat = min 0xFFFFFFFF ((s.rd PMU_GOV_UPS).toNat + (mv - s.vddF + 4) / 5)) ∧
      (s.vddF ≠ 0 → mv < s.vddF →
        ((s.fReached mv).rd PMU_GOV_DOWNS).toNat = min 0xFFFFFFFF ((s.rd PMU_GOV_DOWNS).toNat + (s.vddF - mv + 4) / 5)) := by
  have hfr := fShown_fr s mv
  have hstart : Fr [.pow] [] s { s with pow := { s.pow with reqF := none } } := fr_pow (Fr.refl _ _ s) (by simp) _
  have hvdd0 : State.vddF { s with pow := { s.pow with reqF := none } } = s.vddF := rfl
  have hcount (k : Nat) (hk : k ∉ PMU_GOV_STATUS :: PMU_GOV_FLOOR :: bookKeys) :
      (s.fReached mv).rd k = (State.countSteps { s with pow := { s.pow with reqF := none } } mv).rd k :=
    ((showBound_fr _).frame.reg k hk).trans
      (State.rd_set_ne _ (f := PMU_GOV_STATUS_SETPOINT_MV) (by rintro rfl; exact hk (List.mem_cons_self ..)) mv)
  obtain ⟨hvdd, hat, hheld, hreq⟩ := showBound_spec
    ((State.countSteps { s with pow := { s.pow with reqF := none } } mv).set PMU_GOV_STATUS_SETPOINT_MV mv)
  have hset : State.vddF ((State.countSteps { s with pow := { s.pow with reqF := none } } mv).set PMU_GOV_STATUS_SETPOINT_MV mv)
      = mv := (State.get_set_self _ PMU_GOV_STATUS_SETPOINT_MV (by decide) mv).trans (Nat.mod_eq_of_lt hmv)
  have hbound := lowerBound_fr hfr (by decide) (by decide)
  have hpow : (State.countSteps { s with pow := { s.pow with reqF := none } } mv).pow = { s.pow with reqF := none } :=
    (countSteps_fr { s with pow := { s.pow with reqF := none } } mv).frame.part .pow (by simp)
  have hactive : ((State.countSteps { s with pow := { s.pow with reqF := none } } mv).set PMU_GOV_STATUS_SETPOINT_MV mv).flag
      PMU_GOV_STATUS_CAP_ACTIVE = s.flag PMU_GOV_STATUS_CAP_ACTIVE := by
    rw [State.flag_set_apart _ (by decide), (countSteps_fr _ mv).flag (by decide)]
    rfl
  rw [hset, hbound] at hat hheld
  rw [hactive] at hheld
  refine ⟨hvdd.trans hset, ?_, hat, hheld, fun h0 h => ?_, fun h0 h => ?_⟩
  · rw [State.fReached, hreq]
    exact congrArg PowState.reqF hpow
  · rw [hcount _ (by decide)]
    exact countSteps_up (s := { s with pow := { s.pow with reqF := none } }) h0 h
  · rw [hcount _ (by decide)]
    exact countSteps_down (s := { s with pow := { s.pow with reqF := none } }) h0 h

/-! The end of the transition at VDD_B's set point, s.bReached mv being the state that reports it. -/

section
variable {s : State} {mv : Nat} {o : OpRun} (hop : s.clk.op = some o) (hreq : o.requested = true) (hdest : o.dest < 4)
  (hgo : o.raising = false ∨ s.flag CLK_STATUS_HALVED = false)
include hop hreq hdest hgo

omit hdest in
theorem bReached_endOp : (s.bReached mv).endOp = ((s.bReached mv).opEnded o).pendingOp :=
  endOp_eq (s := s.bReached mv) hop hreq rfl hgo

theorem bReached_cur : (s.bReached mv).endOp.avsWorks.get CLK_STATUS_OP_CUR = o.dest := by
  obtain ⟨-, hcur, -⟩ := opEnded_spec (s.bReached mv) hdest
  rw [(avsWorks_fr _).get (by decide), bReached_endOp hop hreq hgo, pendingOp_cur, hcur]

/-- Nothing waits: the transition is over (R257). -/
theorem bReached_ended (hwait : s.flag CLK_OP_CTL_PENDING = false ∨ s.flag CLK_STATUS_HALVED = true) :
    (s.bReached mv).endOp.avsWorks.clk.op = none ∧ (s.bReached mv).endOp.avsWorks.pow.reqB = none ∧
      (s.bReached mv).endOp.avsWorks.flag CLK_STATUS_OP_BUSY = false ∧
      (s.bReached mv).endOp.avsWorks.ev.seq = s.ev.seq + 1 ∧
      Framed (.clk :: .pow :: evParts) (CLK_STATUS :: PMU_STATUS :: bookKeys) s (s.bReached mv).endOp.avsWorks := by
  obtain ⟨hnone, -, hbusy, hseq⟩ := opEnded_spec (s.bReached mv) hdest
  have hended := opEnded_fr (s.bReached mv) o
  have hwait' : ((s.bReached mv).opEnded o).flag CLK_OP_CTL_PENDING = false ∨
      ((s.bReached mv).opEnded o).flag CLK_STATUS_HALVED = true :=
    hwait.imp ((hended.flag (by decide)).trans ·) ((opEnded_halved _ o).trans ·)
  have hpow : ((s.bReached mv).opEnded o).pow = (s.bReached mv).pow := hended.frame.part .pow (by decide)
  rw [bReached_endOp hop hreq hgo, pendingOp_of_none hwait']
  obtain ⟨hclk, hpow', havs⟩ := avsWorks_of_none hnone
  have hev : ((s.bReached mv).opEnded o).avsWorks.ev = ((s.bReached mv).opEnded o).ev := havs.frame.part .ev (by simp)
  refine ⟨by rw [hclk, hnone], by rw [hpow', hpow]; rfl, (havs.flag (by decide)).trans hbusy, by rw [hev, hseq]; rfl, ?_⟩
  have hstart : Fr (.clk :: .pow :: evParts) (CLK_STATUS :: PMU_STATUS :: bookKeys) s (s.bReached mv) :=
    fr_pow (Fr.refl _ _ s) (by decide) _
  exact ((hstart.trans (hended.mono (by decide) (by decide))).trans (havs.mono (List.nil_subset _) (by decide))).frame

/-- The request that waited starts (R257). -/
theorem bReached_next (hpend : s.flag CLK_OP_CTL_PENDING = true) (hlow : s.flag CLK_STATUS_HALVED = false) :
    (s.bReached mv).endOp.avsWorks.flag CLK_OP_CTL_PENDING = false ∧
      (s.get CLK_OP_CTL_REQ ≠ o.dest → ∃ q, (s.bReached mv).endOp.avsWorks.clk.op = some q ∧ q.dest = s.get CLK_OP_CTL_REQ ∧
        q.orig = o.dest ∧ (s.bReached mv).endOp.avsWorks.flag CLK_STATUS_OP_BUSY = true) := by
  obtain ⟨hnone, hcur, -, -⟩ := opEnded_spec (s.bReached mv) hdest
  have hended := opEnded_fr (s.bReached mv) o
  have hwaits : s.get CLK_OP_CTL_REQ = ((s.bReached mv).opEnded o).get CLK_OP_CTL_REQ := (hended.get (by decide)).symm
  rw [bReached_endOp hop hreq hgo, pendingOp_of_pending ((hended.flag (by decide)).trans hpend) hnone
    ((opEnded_halved _ o).trans hlow), ← hwaits]
  have hcur' := (State.get_setFlag_apart ((s.bReached mv).opEnded o) (f := CLK_OP_CTL_PENDING) (g := CLK_STATUS_OP_CUR)
    (by decide) false).trans hcur
  have hclear := State.flag_setFlag_self ((s.bReached mv).opEnded o) CLK_OP_CTL_PENDING (by decide) rfl false
  generalize ((s.bReached mv).opEnded o).setFlag CLK_OP_CTL_PENDING false = u at hcur' hclear ⊢
  refine ⟨?_, fun hne => ?_⟩
  · rw [(avsWorks_fr _).flag (by decide), (startOp_fr u _).flag (by decide), hclear]
  · obtain ⟨hbusy, hrun, -⟩ := startOp_spec (s := u) (k := s.get CLK_OP_CTL_REQ) (by rwa [hcur'])
    obtain ⟨q, hq, hqdest, hqorig⟩ := avsWorks_dest hrun
    exact ⟨q, hq, hqdest, hqorig.trans hcur', ((avsWorks_fr _).flag (by decide)).trans hbusy⟩

end

/-- The slots, the loads and AVSBus change nothing of the set point's record. -/
theorem fSettled_fr (s : State) : Fr (.pow :: .clk :: .ctx :: .cmds :: evParts) (PMU_STATUS :: s.slotRegs ++ bookKeys) s
    s.floorsReached.avsWorks := by
  rw [floorsReached_eq]
  have hslots : s.slotRegs ++ bookKeys ⊆ PMU_STATUS :: s.slotRegs ++ bookKeys := List.subset_cons_self _ _
  exact ((floorsReached_slots_fr s s.ctx.slots).mono (by decide) hslots).trans
    (((checkLoads_fr _).mono (by decide) (by simp)).trans ((avsWorks_fr _).mono (by decide) (by simp)))

theorem not_mem_slotRegs (s : State) {k : Nat} (hk : k < 0x200000) : k ∉ s.slotRegs := by
  intro h
  obtain ⟨e, -, he⟩ := List.mem_map.mp h
  have := le_slotReg (e.1 / 4) (e.1 % 4)
  omega

theorem fReached_shows (s : State) {mv : Nat} (hmv : mv < 1024) :
    (s.fReached mv).floorsReached.avsWorks.vddF = mv ∧
      (s.vddF ≠ 0 → s.vddF < mv → ((s.fReached mv).floorsReached.avsWorks.rd PMU_GOV_UPS).toNat =
        min 0xFFFFFFFF ((s.rd PMU_GOV_UPS).toNat + (mv - s.vddF + 4) / 5)) ∧
      (s.vddF ≠ 0 → mv < s.vddF → ((s.fReached mv).floorsReached.avsWorks.rd PMU_GOV_DOWNS).toNat =
        min 0xFFFFFFFF ((s.rd PMU_GOV_DOWNS).toNat + (s.vddF - mv + 4) / 5)) := by
  obtain ⟨hvdd, -, -, -, hup, hdown⟩ := fReached_spec s hmv
  have hfr := fSettled_fr (s.fReached mv)
  have hkey {k : Nat} (hk : k < 0x200000) (hs : k ≠ PMU_STATUS) (hb : k ∉ bookKeys) :
      k ∉ PMU_STATUS :: (s.fReached mv).slotRegs ++ bookKeys := by
    simp [hs, hb, not_mem_slotRegs _ hk]
  refine ⟨(hfr.get (hkey (by decide) (by decide) (by decide))).trans hvdd, fun h0 h => ?_, fun h0 h => ?_⟩
  · rw [hfr.frame.reg _ (hkey (by decide) (by decide) (by decide)), hup h0 h]
  · rw [hfr.frame.reg _ (hkey (by decide) (by decide) (by decide)), hdown h0 h]

/-- Without loads the slots' change ends the handling of a set point but for AVSBus. -/
theorem fReached_of_no_loads (s : State) {mv : Nat} (hmv : mv < 1024) (hloads : s.ctx.loads = []) :
    (s.fReached mv).floorsReached.avsWorks.pow.reqF = none ∧
      (s.fReached mv).floorsReached.avsWorks.flag PMU_GOV_STATUS_AT_FLOOR = decide (mv ≤ s.lowerBound) ∧
      (s.fReached mv).floorsReached.avsWorks.flag PMU_GOV_STATUS_CAP_HELD =
        (s.flag PMU_GOV_STATUS_CAP_ACTIVE && decide (mv ≤ s.lowerBound)) ∧
      (∀ e ∈ s.ctx.slots, s.slotState (e.1 / 4) (e.1 % 4) = slWAIT_FLOOR →
        floorMv (s.get (COL_CTX_SRC_FLOOR (matCol (e.1 / 4)) (matG (e.1 / 4)) (e.1 % 4))) ≤ mv →
        (s.fReached mv).floorsReached.avsWorks.slotState (e.1 / 4) (e.1 % 4) = slREADY) := by
  obtain ⟨hvdd, hreq, hat, hheld, -⟩ := fReached_spec s hmv
  have hfr := fReached_fr s mv
  have hctx : (s.fReached mv).ctx = s.ctx := hfr.frame.part .ctx (by decide)
  have hslots := floorsReached_slots_fr (s.fReached mv) s.ctx.slots
  have hsettled : (s.fReached mv).floorsReached = s.ctx.slots.foldl State.floorReached (s.fReached mv) := by
    rw [floorsReached_eq, checkLoads_of_none, hctx]
    rw [hctx, hslots.frame.part .ctx (by decide), hctx, hloads]
  have havs := avsWorks_fr (s.fReached mv).floorsReached
  have hgov {f : Fld} (hf : f.reg = PMU_GOV_STATUS) : (s.fReached mv).floorsReached.avsWorks.flag f = (s.fReached mv).flag f := by
    rw [havs.flag (by rw [hf]; decide), hsettled]
    refine hslots.flag fun hmem => ?_
    rw [hf, List.mem_append] at hmem
    exact hmem.elim (fun h => by
      obtain ⟨e, -, he⟩ := List.mem_map.mp h
      have := le_slotReg (e.1 / 4) (e.1 % 4)
      rw [he] at this
      exact absurd this (by decide)) (by decide)
  refine ⟨?_, (hgov rfl).trans hat, (hgov rfl).trans hheld, fun e he hwait hfloor => ?_⟩
  · rw [avsWorks_pow, hsettled]
    have hpow : (s.ctx.slots.foldl State.floorReached (s.fReached mv)).pow = (s.fReached mv).pow :=
      hslots.frame.part .pow (by decide)
    exact (congrArg PowState.reqF hpow).trans hreq
  · have hkey {f : Fld} (hf : 0x200000 ≤ f.reg) : (s.fReached mv).get f = s.get f := hfr.get fun hmem => by
      have hlow : ∀ k ∈ govKeys, k < 0x200000 := by decide
      have := hlow _ hmem
      omega
    have hfloorReg : 0x200000 ≤ (COL_CTX_SRC_FLOOR (matCol (e.1 / 4)) (matG (e.1 / 4)) (e.1 % 4)).reg := by
      simp only [COL_CTX_SRC_FLOOR, COL_CTX_SRC]
      omega
    unfold State.slotState
    rw [havs.get (fun hmem => by
      have := le_slotReg (e.1 / 4) (e.1 % 4)
      rw [List.mem_singleton.mp hmem] at this
      exact absurd this (by decide)), hsettled]
    refine slotState_floorsReached s.ctx.slots he ((hkey (le_slotReg _ _)).trans hwait) ?_
    rw [hkey hfloorReg, hvdd]
    exact hfloor

theorem fReached_frame (s : State) (mv : Nat) (hloads : s.ctx.loads = []) (hslots : s.ctx.slots = [])
    (hworks : s.flag PMU_STATUS_AVS_FAULT = false) :
    Framed (.pow :: evParts) govKeys s (s.fReached mv).floorsReached.avsWorks := by
  have hfr := fReached_fr s mv
  have hctx : (s.fReached mv).ctx = s.ctx := hfr.frame.part .ctx (by decide)
  have hsettled : (s.fReached mv).floorsReached = s.fReached mv := by
    rw [floorsReached_eq, hctx, hslots]
    exact checkLoads_of_none (by rw [List.foldl_nil, hctx, hloads])
  rw [hsettled, avsWorks_of_works _ ((hfr.flag (by decide)).trans hworks)]
  exact hfr.frame

end Sys2Proof.Machine
end

section
namespace Sys2Proof.Machine

open Sys2Proof

/-- Settles O46: each write performs on the state after the requester's wait, and a set point reached ends its transition. -/
theorem clockControlsComplete : Obligations.ClockControlsComplete := by
  unfold Obligations.ClockControlsComplete
  refine ⟨?divider, ?entry, ?request, ?reachedF, ?reachedB, ?enable, ?group⟩
  case divider =>
    intro s req fabric v k hk hp
    subst hk
    refine ⟨_, congrArg Host.Outcome.next (regWrite_performs hp _), ?_, ?_⟩
    · rw [rd_plainWrite, coreWaits_rd]
    · exact coreWaits_then s req (plainWrite_fr _ v (Fr.refl _ _ _) (List.mem_singleton_self _))
  case entry =>
    intro s req e v hp
    have hgoes : exec (.opEntryWrite req e v) s = .next (if opRated v then (s.coreWaits req none).plainWrite (CLK_OP e.val) v
        else (s.coreWaits req none).setFlag CLK_OP_CTL_REFUSED true) :=
      congrArg Host.Outcome.next (regWrite_performs hp _)
    refine ⟨fun hrated => ?_, fun hrated => ?_⟩ <;> rw [hrated] at hgoes
    · obtain ⟨hroot, hmv⟩ := rwField_op e
      exact ⟨_, hgoes, get_plainWrite _ (f := CLK_OP_ROOT_DIV e.val) hroot v, get_plainWrite _ (f := CLK_OP_VDDB_MV e.val) hmv v,
        coreWaits_then s req (plainWrite_fr _ v (Fr.refl _ _ _) (List.mem_singleton_self _))⟩
    · exact ⟨_, hgoes, State.flag_setFlag_self _ CLK_OP_CTL_REFUSED (by decide) rfl true,
        coreWaits_then s req (fr_setFlag (f := CLK_OP_CTL_REFUSED) (Fr.refl _ _ _) (by decide) true)⟩
  case request =>
    intro s req v hp
    obtain ⟨hreq, hfr, hop, hpow⟩ := opCtlWritten_spec s req v
    have hgoes : exec (.opRequest req v) s = .next (if (s.opCtlWritten req v).clk.op.isSome ∨
        (s.opCtlWritten req v).flag CLK_STATUS_HALVED then (s.opCtlWritten req v).setFlag CLK_OP_CTL_PENDING true
        else (s.opCtlWritten req v).startOp ((s.opCtlWritten req v).get CLK_OP_CTL_REQ)) :=
      congrArg Host.Outcome.next (regWrite_performs hp _)
    have hcur : (s.opCtlWritten req v).get CLK_STATUS_OP_CUR = s.get CLK_STATUS_OP_CUR := hfr.get (by decide)
    have hhalved : (s.opCtlWritten req v).flag CLK_STATUS_HALVED = s.flag CLK_STATUS_HALVED := hfr.flag (by decide)
    rw [hreq, hop, hhalved] at hgoes
    refine ⟨fun hnone hlow hne => ?_, fun hnone hlow hsame => ?_, fun hbusy => ?_⟩
    · rw [if_neg (by simp [hnone, hlow])] at hgoes
      obtain ⟨hbusy, hrun, hask, hkept, hstart⟩ := startOp_spec (s := s.opCtlWritten req v) (k := fldGet v 0 2) (by rwa [hcur])
      have hfault : (s.opCtlWritten req v).flag PMU_STATUS_AVS_FAULT = s.flag PMU_STATUS_AVS_FAULT := hfr.flag (by decide)
      have hmv : (s.opCtlWritten req v).get (CLK_OP_VDDB_MV (fldGet v 0 2)) = s.get (CLK_OP_VDDB_MV (fldGet v 0 2)) :=
        hfr.get (by have : fldGet v 0 2 < 4 := BitVec.isLt _; simp [CLK_OP_VDDB_MV, CLK_OP, CLK_OP_CTL]; omega)
      rw [hcur, hpow, hmv, hfault] at hrun
      rw [hpow, hmv, hfault] at hask
      exact ⟨_, hgoes, hbusy, hrun, hask, hkept.trans hcur,
        ((hfr.mono (by simp) (by simp)).trans (hstart.mono (by simp) (by simp))).frame⟩
    · rw [if_neg (by simp [hnone, hlow]), startOp_of_current (hsame.trans hcur.symm)] at hgoes
      exact ⟨_, hgoes, hreq, hfr.frame⟩
    · rw [if_pos (by simpa using hbusy)] at hgoes
      exact ⟨_, hgoes, State.flag_setFlag_self _ CLK_OP_CTL_PENDING (by decide) rfl true,
        (State.get_setFlag_apart _ (by decide) true).trans hreq, (fr_setFlag (f := CLK_OP_CTL_PENDING) hfr (by decide) true).frame⟩
  case reachedF =>
    intro s
    refine ⟨setPointReached_f_none, fun mv h hmv => ⟨_, setPointReached_f h, ?_⟩⟩
    obtain ⟨hvdd, hup, hdown⟩ := fReached_shows s hmv
    exact ⟨hvdd, avsWorks_flag _, hup, hdown, fReached_of_no_loads s hmv, fReached_frame s mv⟩
  case reachedB =>
    intro s
    refine ⟨setPointReached_b_none, fun mv h => ⟨_, setPointReached_b h, ?_, avsWorks_flag _, ?_, ?_⟩⟩
    · rw [avsWorks_setB, endOp_setB]
      rfl
    · intro o hop hreq hdest hgo
      exact ⟨bReached_cur hop hreq hdest hgo, bReached_ended hop hreq hdest hgo, bReached_next hop hreq hdest hgo⟩
    · intro o hop hup hhalved
      rw [endOp_of_halved (s := s.bReached mv) hop hup hhalved]
      obtain ⟨hclk, -, hfr⟩ := avsWorks_of_halved (s := s.bReached mv) hhalved
      refine ⟨by rw [hclk]; exact hop, (Fr.trans (t := s.bReached mv) ?_ (hfr.mono (List.nil_subset _) (List.Subset.refl _))).frame⟩
      exact fr_pow (Fr.refl _ _ s) (by decide) _
  case enable =>
    intro s req second v hp
    have hbits (i : Nat) (hi : i < 20) : State.bit ((upto 20).foldl (fun s i => s.writeEnBit second i (v.getLsbD i))
        (s.coreWaits req none)) (enReg second) i = s.newEnBit second i (v.getLsbD i) := by
      rw [bit_writeEnBits (l := upto 20) _ second v List.nodup_range (fun k hk => List.mem_range.mp hk),
        if_pos (show i ∈ upto 20 from List.mem_range.mpr hi), newEnBit_coreWaits]
    refine ⟨_, congrArg Host.Outcome.next (regWrite_performs hp _), fun i g hi hg => ?_, fun i hi hg => ?_, ?_⟩
    · exact (hbits i hi).trans (newEnBit_of_some s hg _)
    · exact (hbits i hi).trans (newEnBit_of_none s hg _)
    · exact coreWaits_then s req (fr_foldl (Fr.refl _ _ _) (fun t i ht => ht.trans (writeEnBit_fr t second i _)) _)
  case group =>
    intro s req v root hp hroot
    subst hroot
    obtain ⟨h0, hbits, hfr⟩ := writeGrp_spec (s.coreWaits req none) v
    have hafter : (s.coreWaits req none).rootAfter v = s.rootAfter v := by
      simp only [State.rootAfter, State.groupUsed, State.bit, coreWaits_flag]
    rw [hafter] at h0 hbits
    refine ⟨_, congrArg Host.Outcome.next (regWrite_performs hp _), h0, fun g h1 h5 => ?_, coreWaits_then s req hfr⟩
    rw [hbits g h1 h5]
    simp only [State.newGrpBit, State.groupUsed, State.bit, coreWaits_flag]
    rfl

end Sys2Proof.Machine
end

section
/-! SUPPORT.  Stimuli: what is taken into an engine's buffer, and what a NOTE makes of a tally (R226 to R230, R237 to R239). -/

namespace Sys2Proof.Machine

open Sys2Proof

/-! ### A stimulus taken (R226, R229) -/

/-- A stimulus with its station's settings. -/
def State.stimAt (s : State) (st : Nat) (pos : BitVec 48) (value : Nat) (meas : BitVec 32) : Stim :=
  { station := st, track := s.get (TAL_ST_CFG_TRACK st), cfg := s.rd (TAL_ST_CFG st), offset := s.rd (TAL_ST_OFFSET st),
    win := s.rd (TAL_ST_WIN st), pos := pos, value := value, meas := meas, at_ := s.time.toNat / 5,
    rank := s.get (TAL_ST_CFG_TRIGGER st) * 1024 + st }

/-- A stimulus in the buffer of an engine. -/
def State.buffer (s : State) (e : Nat) (x : Stim) : State :=
  { s with tal := { s.tal with stims := Tab.put slist0 s.tal.stims e (insertStim x (Tab.get slist0 s.tal.stims e)) } }

/-- The engine of a station's track. -/
def State.stationEngine (s : State) (st : Nat) : Nat := s.trackEngine (s.get (TAL_ST_CFG_TRACK st))

theorem takeStim_of_takes {s : State} {st : Nat} (h : s.takesStim st = true) (pos : BitVec 48) (value : Nat) (meas : BitVec 32) :
    s.takeStim st pos value meas = s.buffer (s.stationEngine st) (s.stimAt st pos value meas) := by
  obtain ⟨⟨hon, hlive⟩, hroom⟩ : (s.trackOn (s.get (TAL_ST_CFG_TRACK st)) = true ∧ s.stationLive st = true) ∧
      s.stimsFull (s.stationEngine st) = false := by
    simpa [State.takesStim, State.stationEngine] using h
  unfold State.stationEngine at hroom
  unfold State.takeStim
  simp only [hon, hlive, hroom, Bool.true_eq_false, Bool.false_eq_true, if_false]
  rfl

theorem stims_buffer (s : State) (e : Nat) (x : Stim) :
    Tab.get slist0 (s.buffer e x).tal.stims e = insertStim x (Tab.get slist0 s.tal.stims e) := Tab.get_put_self ..

theorem buffer_fr (s : State) (e : Nat) (x : Stim) : Fr [.tal] [] s (s.buffer e x) :=
  fr_mk (Fr.refl _ _ s) (by simp [State.buffer]) rfl

theorem stationLive_kind {s : State} {st : Nat} (h : s.stationLive st = true) :
    s.get (TAL_ST_CFG_KIND st) ≠ 0 ∧ s.get (TAL_ST_CFG_KIND st) ≠ 3 := by
  have hkind : s.get (TAL_ST_CFG_KIND st) = 1 ∨ s.get (TAL_ST_CFG_KIND st) = 2 ∨ s.get (TAL_ST_CFG_KIND st) = 4 :=
    of_decide_eq_true h
  omega

/-! ### Edges (R227) -/

/-- The edge of a station is remembered as the last one taken. -/
def State.edgeTaken (s : State) (st : Nat) : State :=
  { s with tal := { s.tal with
    lastEdge := Tab.put none0 s.tal.lastEdge st (some (s.trackPos (s.get (TAL_ST_CFG_TRACK st)))) } }

theorem edgeTaken_last (s : State) (st : Nat) :
    Tab.get none0 (s.edgeTaken st).tal.lastEdge st = some (s.trackPos (s.get (TAL_ST_CFG_TRACK st))) := by
  show Tab.get none0 (Tab.put none0 s.tal.lastEdge st (some (s.trackPos (s.get (TAL_ST_CFG_TRACK st))))) st = _
  rw [Tab.get_put_self]

section
variable {s : State} {st : StationId} (htrigger : s.get (TAL_ST_CFG_TRIGGER st.val) = 0) (hlive : s.stationLive st.val = true)
  (hpin : s.edgePinOk st.val = true)
include htrigger hlive hpin

/-- An edge within HOLDOFF of the last taken one is not taken. -/
theorem edgeStimulus_near {p : BitVec 48} (hlast : Tab.get none0 s.tal.lastEdge st.val = some p)
    (hnear : (trackDist p (s.trackPos (s.get (TAL_ST_CFG_TRACK st.val)))).natAbs < s.get (TAL_ST_WIN_HOLDOFF st.val)) :
    exec (.edgeStimulus st) s = .next s := by
  show execEdgeStimulus st s = _
  unfold execEdgeStimulus
  simp [htrigger, stationLive_kind hlive, hpin, hlast, hnear]

theorem edgeStimulus_taken (hfar : ∀ p, Tab.get none0 s.tal.lastEdge st.val = some p → s.get (TAL_ST_WIN_HOLDOFF st.val) ≤
      (trackDist p (s.trackPos (s.get (TAL_ST_CFG_TRACK st.val)))).natAbs) (htakes : s.takesStim st.val = true) :
    exec (.edgeStimulus st) s = .next ((s.edgeTaken st.val).buffer (s.stationEngine st.val)
      (s.stimAt st.val (s.trackPos (s.get (TAL_ST_CFG_TRACK st.val))) (s.get (TAL_ST_CFG_VALUE st.val)) 0)) := by
  have hgoes := takeStim_of_takes (s := s.edgeTaken st.val) (st := st.val) htakes
    (s.trackPos (s.get (TAL_ST_CFG_TRACK st.val))) (s.get (TAL_ST_CFG_VALUE st.val)) 0
  show execEdgeStimulus st s = _
  unfold execEdgeStimulus
  rw [if_neg (by simp [htrigger, stationLive_kind hlive, hpin])]
  dsimp only
  refine (if_neg fun hnear => ?_).trans ?_
  · split at hnear
    next p hp => exact absurd (of_decide_eq_true hnear) (Nat.not_lt.mpr (hfar p hp))
    next => cases hnear
  · rw [if_pos htakes]
    exact congrArg Host.Outcome.next hgoes

end

/-! ### Note tokens (R237, R238) -/

section
variable {s : State} {mat : MatId} {k : BitVec 96} (hheld : s.heldNull mat.val = false)
include hheld

theorem noteToken_paced {p : Nat} (hp : s.pacedBy (s.logMat mat.val) = some p) : exec (.noteToken mat k) s =
    .next (s.keepPaced p (.note (s.logMat mat.val) k (s.trackPos (s.get (TAL_ST_CFG_TRACK (noteStation k)))))) := by
  show execNoteToken mat k s = _
  unfold execNoteToken
  simp [hheld, hp]

variable (hfree : s.pacedBy (s.logMat mat.val) = none)
include hfree

theorem noteToken_waits (hw : s.noteWaits (s.logMat mat.val) k = true) : exec (.noteToken mat k) s = .next s := by
  show execNoteToken mat k s = _
  unfold execNoteToken
  simp [hheld, hfree, hw]

theorem noteToken_dropped (hok : s.noteOk (s.logMat mat.val) k = false) :
    exec (.noteToken mat k) s = .next (s.stimDrop (s.stationEngine (noteStation k))) := by
  have hw : s.noteWaits (s.logMat mat.val) k = false := by simp [State.noteWaits, hok]
  show execNoteToken mat k s = _
  unfold execNoteToken State.applyNote
  simp [hheld, hfree, hw, hok]
  rfl

theorem noteToken_taken (hok : s.noteOk (s.logMat mat.val) k = true) (htakes : s.takesStim (noteStation k) = true) :
    exec (.noteToken mat k) s = .next (s.buffer (s.stationEngine (noteStation k)) (s.stimAt (noteStation k)
      (if noteUsePos k then notePos k else s.trackPos (s.get (TAL_ST_CFG_TRACK (noteStation k)))) (noteValue k) (noteMeas k))) := by
  have hroom : s.stimsFull (s.trackEngine (s.get (TAL_ST_CFG_TRACK (noteStation k)))) = false := by
    simp only [State.takesStim, Bool.and_eq_true, Bool.not_eq_true'] at htakes
    exact htakes.2
  have hw : s.noteWaits (s.logMat mat.val) k = false := by simp [State.noteWaits, hroom]
  show execNoteToken mat k s = _
  unfold execNoteToken State.applyNote
  simp only [hheld, hfree, hw, hok, Bool.false_eq_true, if_false, if_true]
  rw [takeStim_of_takes htakes]

end

theorem stimDrop_fr (s : State) (e : Nat) : Fr [] [TAL_ENG_STIMDROPS e, TAL_ENG_SAT e] s (s.stimDrop e) := by
  have hsat : (TAL_ENG_SAT_STIMDROPS e).reg = TAL_ENG_SAT e := rfl
  exact fr_ite (Fr.refl _ _ s) (fr_count (Fr.refl _ _ s) (by simp) (by simp [hsat]) 1)

theorem keepPaced_fr (s : State) (p : Nat) (k : PacedTok) : Fr [.tal] [] s (s.keepPaced p k) :=
  fr_mk (Fr.refl _ _ s) (State.keepPaced_keeps p k (Keeps.refl s)) rfl

/-! ### Stimuli of the cores (R239) -/

/-- The requester's wait for the bus is in the cores' own part of the state. -/
theorem coreWaits_core (s : State) (req : Requester) (w : Option BusWait) :
    ∃ c, s.coreWaits req w = { s with core := c } := by
  unfold State.coreWaits
  split
  · exact ⟨_, rfl⟩
  · exact ⟨s.core, rfl⟩

/-- A stimulus of a core: its measurement, where its station writes one, is free. -/
def State.coreStim (s : State) (st value : Nat) : State :=
  (if decide (s.get (TAL_ST_CFG_KIND st) = 2 ∧ 16 ≤ s.get (TAL_ST_CFG_FIELD st)) = true then s.fresh.2 else s).takeStim st
    (s.trackPos (s.get (TAL_ST_CFG_TRACK st))) value (s.fresh.1.setWidth 32)

theorem coreStim_of_takes {s : State} {st : Nat} (h : s.takesStim st = true) (value : Nat) :
    ∃ u m, (u = s ∨ u = s.fresh.2) ∧ s.coreStim st value =
      u.buffer (s.stationEngine st) (s.stimAt st (s.trackPos (s.get (TAL_ST_CFG_TRACK st))) value m) := by
  unfold State.coreStim
  split
  · exact ⟨s.fresh.2, _, .inr rfl, takeStim_of_takes (s := s.fresh.2) h _ _ _⟩
  · exact ⟨s, _, .inl rfl, takeStim_of_takes h _ _ _⟩

/-- A core's stimulus is taken with a free measurement where its station writes one. -/
theorem talStimWrite_taken {s : State} {req : Requester} {v : Reg} (hp : Performs s req TAL_STIM true) (hreq : req ≠ .host)
    (htrigger : s.get (TAL_ST_CFG_TRIGGER (fldGet v 0 10)) = 3) (htakes : s.takesStim (fldGet v 0 10) = true) :
    ∃ (u : State) (m : BitVec 32), u.tal = s.tal ∧ Fr [.cores, .free] [] s u ∧ exec (.talStimWrite req v) s = .next
      (u.buffer (s.stationEngine (fldGet v 0 10)) (s.stimAt (fldGet v 0 10)
        (s.trackPos (s.get (TAL_ST_CFG_TRACK (fldGet v 0 10)))) (fldGet v 10 4) m)) := by
  obtain ⟨⟨hon, -⟩, -⟩ : (s.trackOn (s.get (TAL_ST_CFG_TRACK (fldGet v 0 10))) = true ∧ _) ∧ _ := by
    simpa [State.takesStim] using htakes
  obtain ⟨c, hwait⟩ := coreWaits_core s req none
  have hperforms := regWrite_performs hp fun s =>
    if s.get (TAL_ST_CFG_TRIGGER (fldGet v 0 10)) ≠ 3 ∨ s.trackOn (s.get (TAL_ST_CFG_TRACK (fldGet v 0 10))) = false then
      s.stimDrop (s.stationEngine (fldGet v 0 10))
    else s.coreStim (fldGet v 0 10) (fldGet v 10 4)
  have hserved : ¬ ((s.coreWaits req none).get (TAL_ST_CFG_TRIGGER (fldGet v 0 10)) ≠ 3 ∨
      (s.coreWaits req none).trackOn ((s.coreWaits req none).get (TAL_ST_CFG_TRACK (fldGet v 0 10))) = false) := by
    rw [hwait]
    exact fun h => h.elim (fun h => h htrigger) (fun h => absurd (hon.symm.trans h) (by decide))
  have hgoes : exec (.talStimWrite req v) s = .next ((s.coreWaits req none).coreStim (fldGet v 0 10) (fldGet v 10 4)) := by
    rw [if_neg hserved] at hperforms
    cases req with
    | host => exact absurd rfl hreq
    | _ => exact congrArg Host.Outcome.next hperforms
  have hcores : Fr [.cores, .free] [] s (s.coreWaits req none) :=
    (coreWaits_fr s req none).mono (by simp) (List.Subset.refl _)
  have htakes' : (s.coreWaits req none).takesStim (fldGet v 0 10) = true := by
    rw [hwait]
    exact htakes
  obtain ⟨u, m, hu, hstim⟩ := coreStim_of_takes htakes' (fldGet v 10 4)
  have hfr : Fr [.cores, .free] [] s u := by
    rcases hu with rfl | rfl
    · exact hcores
    · exact fr_mk hcores (State.fresh_keeps hcores.keeps) rfl
  refine ⟨u, m, hfr.frame.part .tal (by simp), hfr, hgoes.trans (congrArg Host.Outcome.next (hstim.trans ?_))⟩
  rw [hwait]
  rfl

end Sys2Proof.Machine
end

section
/-! SUPPORT.  NOTE: the verdict it writes, and what a decision and a retirement leave of it (R228, R230, R232). -/

namespace Sys2Proof.Machine

open Sys2Proof

/-! ### Bits of a verdict word -/

/-- A replaced field between what stands above and below it. -/
theorem setBits_eq (v lo w x : Nat) : setBits v lo w x = 2 ^ lo * (2 ^ w * (v / 2 ^ lo / 2 ^ w) + x % 2 ^ w) + v % 2 ^ lo := by
  have hv : v = bitsAt v lo w * 2 ^ lo + (2 ^ lo * (2 ^ w * (v / 2 ^ lo / 2 ^ w)) + v % 2 ^ lo) := by
    unfold bitsAt
    conv_lhs => rw [← Nat.div_add_mod v (2 ^ lo), ← Nat.div_add_mod (v / 2 ^ lo) (2 ^ w)]
    ring
  unfold setBits
  conv_lhs => rw [hv]
  rw [show bitsAt (bitsAt v lo w * 2 ^ lo + (2 ^ lo * (2 ^ w * (v / 2 ^ lo / 2 ^ w)) + v % 2 ^ lo)) lo w = bitsAt v lo w by
    rw [← hv], Nat.add_sub_cancel_left]
  ring

theorem testBit_setBits (v lo w x i : Nat) :
    (setBits v lo w x).testBit i = if lo ≤ i ∧ i < lo + w then x.testBit (i - lo) else v.testBit i := by
  rw [setBits_eq, Nat.testBit_two_pow_mul_add _ (Nat.mod_lt _ (Nat.two_pow_pos lo))]
  by_cases hlo : i < lo
  · rw [if_pos hlo, if_neg (by omega), Nat.testBit_mod_two_pow]
    simp [hlo]
  · rw [if_neg hlo, Nat.testBit_two_pow_mul_add _ (Nat.mod_lt _ (Nat.two_pow_pos w))]
    by_cases hw : i - lo < w
    · rw [if_pos hw, if_pos (by omega), Nat.testBit_mod_two_pow]
      simp [hw]
    · rw [if_neg hw, if_neg (by omega), Nat.testBit_div_two_pow, Nat.testBit_div_two_pow]
      congr 1
      omega

theorem testBit_bitsAt (v lo w i : Nat) : (bitsAt v lo w).testBit i = (decide (i < w) && v.testBit (lo + i)) := by
  unfold bitsAt
  rw [Nat.testBit_mod_two_pow, Nat.testBit_div_two_pow, Nat.add_comm]

/-- Field f of a verdict word after field g has been written (R228). -/
theorem bitsAt_verdict (v : Word) {f g : Nat} (hf : f < 16) (hg : g < 16) (x : Nat) :
    bitsAt (BitVec.ofNat 64 (setBits v.toNat (4 * g) 4 x)).toNat (4 * f) 4 = if f = g then x % 16 else bitsAt v.toNat (4 * f) 4 := by
  apply Nat.eq_of_testBit_eq
  intro i
  rw [testBit_bitsAt, BitVec.toNat_ofNat, Nat.testBit_mod_two_pow, testBit_setBits]
  by_cases hi : i < 4
  · by_cases hfg : f = g
    · subst hfg
      rw [if_pos rfl, if_pos (by omega), show (16 : Nat) = 2 ^ 4 from rfl, Nat.testBit_mod_two_pow, Nat.add_sub_cancel_left]
      simp only [hi, decide_true, Bool.true_and, show 4 * f + i < 64 by omega]
    · rw [if_neg hfg, if_neg (by omega), testBit_bitsAt]
      simp only [hi, decide_true, Bool.true_and, show 4 * f + i < 64 by omega]
  · have hlt : (if f = g then x % 16 else bitsAt v.toNat (4 * f) 4) < 2 ^ 4 := by
      split
      · exact Nat.mod_lt _ (by decide)
      · exact Nat.mod_lt _ (by decide)
    rw [Nat.testBit_lt_two_pow (lt_of_lt_of_le hlt (Nat.pow_le_pow_right (by decide) (by omega)))]
    simp [hi]

/-! ### A track's tallies -/

theorem tally_updTally (s : State) (t id : Nat) {f : Tally → Tally} (hf : ∀ x, (f x).id = x.id) :
    (s.updTally t id f).tally t id = (s.tally t id).map f := by
  unfold State.tally State.updTally State.tallies
  rw [show Tab.get nil0 (s.setTallies t _).tal.tallies t = _ from Tab.get_put_self ..]
  induction Tab.get nil0 s.tal.tallies t with
  | nil => rfl
  | cons x l ih =>
    by_cases hx : x.id.toNat = id
    · simp [hx, hf]
    · simp [hx, ih]

theorem tallies_updTally_ne (s : State) {t u : Nat} (hu : u ≠ t) (id : Nat) (f : Tally → Tally) :
    (s.updTally t id f).tallies u = s.tallies u := Tab.get_put_ne _ _ hu _

theorem tallies_congr {s t : State} (h : t.tal.tallies = s.tal.tallies) (u : Nat) : t.tallies u = s.tallies u := by
  unfold State.tallies
  rw [h]

theorem tally_congr {s t : State} (h : t.tal.tallies = s.tal.tallies) (u id : Nat) : t.tally u id = s.tally u id := by
  unfold State.tally
  rw [tallies_congr h]

theorem trackCount_tallies (s : State) (t i : Nat) : (s.trackCount t i).tal.tallies = s.tal.tallies := by
  rw [State.trackCount, State.count_tal]

theorem settlePin_tallies (s : State) (v : Nat) : (s.settlePin v).tal.tallies = s.tal.tallies :=
  congrArg TalState.tallies ((settlePin_fr s v).frame.part .tal (by simp))

/-! ### A found tally (R230) -/

/-- A tally as NOTE writes it. -/
def State.noted (s : State) (cfg : Reg) (v : NoteVal) (x : Tally) : Tally :=
  s.touch { (if fldGet cfg 0 3 = 2 then x.write (fldGet cfg 19 5) v else x) with zone := fldGet cfg 11 8 }

/-- A tally as NOTE leaves it before a decision: late on a DECIDED one. -/
def State.notedLate (s : State) (cfg : Reg) (v : NoteVal) (x : Tally) : Tally :=
  if x.flags &&& flDECIDED ≠ 0 then (s.noted cfg v x).withFlag flLATE_NOTE else s.noted cfg v x

/-- The state with a tally written by NOTE, before a retirement or a decision. -/
def State.noteWritten (s : State) (t id : Nat) (cfg : Reg) (v : NoteVal) (y : Tally) : State :=
  if y.flags &&& flDECIDED ≠ 0 then
    ((s.updTally t id (s.noted cfg v)).updTally t id (fun x => x.withFlag flLATE_NOTE)).trackCount t 6
  else s.updTally t id (s.noted cfg v)

theorem noteTally_eq {s : State} {t id : Nat} {y : Tally} (hy : s.tally t id = some y) (cfg : Reg) (v : NoteVal) :
    s.noteTally t id cfg v = if fldGet cfg 0 3 = 4 then (s.noteWritten t id cfg v y).removeTally t id false
      else if y.flags &&& flDECIDED ≠ 0 then s.noteWritten t id cfg v y
      else if fldGet cfg 29 1 = 1 then (s.noteWritten t id cfg v y).decideTally t id else s.noteWritten t id cfg v y := by
  unfold State.noteTally
  rw [hy]
  by_cases hd : y.flags &&& flDECIDED = 0
  · simp [State.noteWritten, hd]
    rfl
  · simp [State.noteWritten]
    rfl

theorem noted_id (s : State) (cfg : Reg) (v : NoteVal) (x : Tally) : (s.noted cfg v x).id = x.id := by
  unfold State.noted State.touch Tally.write
  dsimp only
  split
  · split <;> rfl
  · rfl

/-- What NOTE writes of a tally and what it leaves (R228, R230). -/
theorem noted_spec (s : State) (cfg : Reg) (v : NoteVal) (x : Tally) :
    (s.noted cfg v x).zone = fldGet cfg 11 8 ∧ (s.noted cfg v x).flags = x.flags ∧
      (s.noted cfg v x).lastUs = satBits 32 ((s.time - x.birthTime).toNat / 1000) ∧
      (fldGet cfg 0 3 = 2 → fldGet cfg 19 5 < 16 → (s.noted cfg v x).meas = x.meas ∧ (s.noted cfg v x).verdict =
        BitVec.ofNat 64 (setBits x.verdict.toNat (4 * fldGet cfg 19 5) 4 v.value)) ∧
      (fldGet cfg 0 3 = 2 → 16 ≤ fldGet cfg 19 5 →
        (s.noted cfg v x).meas = x.meas.set (fldGet cfg 19 5 - 16) v.meas ∧ (s.noted cfg v x).verdict = x.verdict) ∧
      (fldGet cfg 0 3 ≠ 2 → (s.noted cfg v x).meas = x.meas ∧ (s.noted cfg v x).verdict = x.verdict) := by
  unfold State.noted State.touch Tally.write
  by_cases hk : fldGet cfg 0 3 = 2
  · by_cases hf : fldGet cfg 19 5 < 16
    · simp [hk, hf, Nat.not_le.mpr hf]
    · simp [hk, hf]
  · simp [hk]

theorem notedLate_id (s : State) (cfg : Reg) (v : NoteVal) (x : Tally) : (s.notedLate cfg v x).id = x.id := by
  unfold State.notedLate
  split
  · exact noted_id s cfg v x
  · exact noted_id s cfg v x

/-- A late note writes the same and marks the tally. -/
theorem notedLate_fields (s : State) (cfg : Reg) (v : NoteVal) (x : Tally) :
    (s.notedLate cfg v x).zone = (s.noted cfg v x).zone ∧ (s.notedLate cfg v x).lastUs = (s.noted cfg v x).lastUs ∧
      (s.notedLate cfg v x).meas = (s.noted cfg v x).meas ∧ (s.notedLate cfg v x).verdict = (s.noted cfg v x).verdict ∧
      (s.notedLate cfg v x).flags =
        if x.flags &&& flDECIDED ≠ 0 then (s.noted cfg v x).flags ||| flLATE_NOTE else (s.noted cfg v x).flags := by
  unfold State.notedLate
  split
  · exact ⟨rfl, rfl, rfl, rfl, rfl⟩
  · exact ⟨rfl, rfl, rfl, rfl, rfl⟩

/-- The tally that a NOTE leaves, field by field (R228, R230). -/
theorem notedLate_spec (s : State) (cfg : Reg) (v : NoteVal) (y : Tally) :
    (s.notedLate cfg v y).zone = fldGet cfg 11 8 ∧
      (s.notedLate cfg v y).lastUs = satBits 32 ((s.time - y.birthTime).toNat / 1000) ∧
      (fldGet cfg 0 3 = 2 → fldGet cfg 19 5 < 16 →
        bitsAt (s.notedLate cfg v y).verdict.toNat (4 * fldGet cfg 19 5) 4 = v.value % 16 ∧ (s.notedLate cfg v y).meas = y.meas ∧
        ∀ f, f < 16 → f ≠ fldGet cfg 19 5 →
          bitsAt (s.notedLate cfg v y).verdict.toNat (4 * f) 4 = bitsAt y.verdict.toNat (4 * f) 4) ∧
      (fldGet cfg 0 3 = 2 → 16 ≤ fldGet cfg 19 5 →
        (s.notedLate cfg v y).meas = y.meas.set (fldGet cfg 19 5 - 16) v.meas ∧ (s.notedLate cfg v y).verdict = y.verdict) ∧
      (fldGet cfg 0 3 ≠ 2 → (s.notedLate cfg v y).meas = y.meas ∧ (s.notedLate cfg v y).verdict = y.verdict) ∧
      (s.notedLate cfg v y).flags = if y.flags &&& flDECIDED ≠ 0 then y.flags ||| flLATE_NOTE else y.flags := by
  obtain ⟨hzone, hflags, hlast, hverdict, hmeas, hother⟩ := noted_spec s cfg v y
  obtain ⟨hzone', hlast', hmeas', hverdict', hflags'⟩ := notedLate_fields s cfg v y
  rw [hzone', hlast', hmeas', hverdict', hflags', hflags]
  refine ⟨hzone, hlast, fun hk hf => ?_, hmeas, hother, rfl⟩
  obtain ⟨hm, hw⟩ := hverdict hk hf
  rw [hw, hm]
  refine ⟨?_, rfl, fun f hf' hne => ?_⟩
  · rw [bitsAt_verdict _ hf hf, if_pos rfl]
  · rw [bitsAt_verdict _ hf' hf, if_neg hne]

/-- A note on a tally that is not DECIDED stays in the tallies. -/
theorem noteWritten_fr {s : State} (hnone : s.tal.committed = []) {y : Tally} (hopen : y.flags &&& flDECIDED = 0)
    {e t id : Nat} {cfg : Reg} {v : NoteVal} : Fr [.tal] [] s ((s.popStim e).noteWritten t id cfg v y) := by
  have hpop : Fr [.tal] [] s (s.popStim e) := by
    rw [popStim_of_committed_nil hnone]
    exact fr_mk (Fr.refl _ _ s) (by simp) rfl
  unfold State.noteWritten
  rw [if_neg (not_not.mpr hopen)]
  exact fr_mk hpop (State.updTally_keeps _ _ _ hpop.keeps) rfl

theorem tally_noteWritten {s : State} {t id : Nat} {y : Tally} (hy : s.tally t id = some y) (cfg : Reg) (v : NoteVal) :
    (s.noteWritten t id cfg v y).tally t id = some (s.notedLate cfg v y) := by
  have hnoted : (s.updTally t id (s.noted cfg v)).tally t id = some (s.noted cfg v y) := by
    rw [tally_updTally s t id (noted_id s cfg v), hy]
    rfl
  unfold State.noteWritten State.notedLate
  split
  · rw [tally_congr (trackCount_tallies _ t 6), tally_updTally _ t id (f := fun x => x.withFlag flLATE_NOTE) (fun _ => rfl), hnoted]
    rfl
  · exact hnoted

theorem tallies_noteWritten_ne (s : State) {t u : Nat} (hu : u ≠ t) (id : Nat) (cfg : Reg) (v : NoteVal) (y : Tally) :
    (s.noteWritten t id cfg v y).tallies u = s.tallies u := by
  unfold State.noteWritten
  split
  · rw [tallies_congr (trackCount_tallies _ t 6), tallies_updTally_ne _ hu, tallies_updTally_ne _ hu]
  · exact tallies_updTally_ne s hu _ _

/-! ### A decision (R232) -/

theorem decided_iff (x : BitVec 16) : x &&& flDECIDED ≠ 0 ↔ x.getLsbD 2 = true := by
  rw [show flDECIDED = BitVec.twoPow 16 2 from rfl, BitVec.and_twoPow]
  split
  next h => exact ⟨fun _ => h, fun _ => by decide⟩
  next h => exact ⟨fun hne => absurd rfl hne, fun hx => absurd hx h⟩

/-- A tally has been decided on with a verdict word. -/
def State.decidedAs (s : State) (t id : Nat) (w : Word) : Prop :=
  ∃ z, s.tally t id = some z ∧ z.flags &&& flDECIDED ≠ 0 ∧ z.verdict = w

theorem decidedAs_congr {s u : State} (h : u.tal.tallies = s.tal.tallies) {t id : Nat} {w : Word} (hd : s.decidedAs t id w) :
    u.decidedAs t id w := by
  unfold State.decidedAs
  rw [tally_congr h]
  exact hd

theorem decidedAs_updTally {s : State} {t id : Nat} {w : Word} (hd : s.decidedAs t id w) {f : Tally → Tally}
    (hid : ∀ x, (f x).id = x.id) (hw : ∀ x, (f x).verdict = x.verdict)
    (hf : ∀ x, x.flags &&& flDECIDED ≠ 0 → (f x).flags &&& flDECIDED ≠ 0) : (s.updTally t id f).decidedAs t id w := by
  obtain ⟨z, hz, hdec, hverdict⟩ := hd
  exact ⟨f z, by rw [tally_updTally s t id hid, hz]; rfl, hf z hdec, (hw z).trans hverdict⟩

theorem decidedAs_withFlag {s : State} {t id : Nat} {w : Word} (hd : s.decidedAs t id w) (fl : BitVec 16) :
    (s.updTally t id (fun x => x.withFlag fl)).decidedAs t id w := by
  refine decidedAs_updTally hd (fun _ => rfl) (fun _ => rfl) fun x hx => ?_
  rw [decided_iff] at hx ⊢
  rw [Tally.withFlag, BitVec.getLsbD_or, hx, Bool.true_or]

theorem decidedAs_actMissed {s : State} {t id : Nat} {w : Word} (hd : s.decidedAs t id w) (cause : Nat) :
    (s.actMissed t id cause).decidedAs t id w := by
  unfold State.actMissed
  refine decidedAs_congr ?_ (decidedAs_withFlag hd flACT_MISSED)
  rw [State.raiseLim_tal, trackCount_tallies]

/-- A gate action scheduled for a tally leaves its decision and verdict (R233). -/
theorem decidedAs_schedule {s : State} {t id : Nat} {w : Word} (hd : s.decidedAs t id w) (st : Nat) (birth : BitVec 48) :
    (s.schedule t st id birth).decidedAs t id w := by
  unfold State.schedule
  extract_lets e pulse len pon d u now pin a tal v
  have hu : u.decidedAs t id w := decidedAs_updTally hd (fun _ => rfl) (fun _ => rfl) fun _ h => h
  have hv : v.decidedAs t id w := hu
  split
  · exact decidedAs_actMissed hu 0
  · split
    · exact decidedAs_actMissed hu 1
    · split
      · exact decidedAs_congr (settlePin_tallies _ pin) (decidedAs_withFlag hv flACTED)
      · exact hv

/-- DECIDE marks its tally and leaves its verdict (R232). -/
theorem decidedAs_decideTally {s : State} {t id : Nat} {y : Tally} (hy : s.tally t id = some y) :
    (s.decideTally t id).decidedAs t id y.verdict := by
  unfold State.decideTally
  rw [hy]
  dsimp -zeta only
  extract_lets bank sts f u
  have hu : u.decidedAs t id y.verdict := by
    refine ⟨s.touch (y.withFlag f), ?_, ?_, rfl⟩
    · exact (tally_updTally s t id (f := fun y => s.touch (y.withFlag f)) fun _ => rfl).trans (by rw [hy]; rfl)
    · rw [decided_iff]
      show (y.flags ||| f).getLsbD 2 = true
      rw [BitVec.getLsbD_or]
      have hf : f.getLsbD 2 = true := by
        show (if sts = [] then flDECIDED else flDECIDED ||| flREJECTED).getLsbD 2 = true
        split <;> rfl
      rw [hf, Bool.or_true]
  generalize sts = l at *
  clear_value u
  induction l generalizing u with
  | nil => exact hu
  | cons st l ih => exact ih _ (decidedAs_schedule hu st _)

/-! ### A retirement (R230, R237) -/

theorem drainRecords_tallies (s : State) (e : Nat) (l : List (Nat × Tally)) :
    (s.drainRecords e l).tal.tallies = s.tal.tallies := by
  induction l generalizing s with
  | nil => rfl
  | cons x l ih =>
    obtain ⟨t, x⟩ := x
    unfold State.drainRecords
    split
    · exact ih s
    · dsimp only
      split
      · rfl
      · rw [ih]
        refine foldl_proj (fun s : State => s.tal.tallies) (fun u i => ?_) _ _
        rfl

theorem offerRecord_tallies (s : State) (t : Nat) (x : Tally) : (s.offerRecord t x).tal.tallies = s.tal.tallies := by
  unfold State.offerRecord
  dsimp only
  split
  · rfl
  · split
    · rw [State.raiseLim_tal, trackCount_tallies, drainRecords_tallies]
    · rw [drainRecords_tallies, drainRecords_tallies]

/-- RETIRE takes the tallies of its id out of the track. -/
theorem tallies_removeTally {s : State} {t id : Nat} {y : Tally} (hy : s.tally t id = some y) :
    (s.removeTally t id false).tallies t = (s.tallies t).filter fun z => decide (z.id.toNat ≠ id) := by
  unfold State.removeTally
  rw [hy]
  dsimp only
  rw [if_neg Bool.false_ne_true, tallies_congr (trackCount_tallies _ t 1), tallies_congr (offerRecord_tallies _ t _)]
  exact Tab.get_put_self ..

/-- An update of a tally leaves the others. -/
theorem filter_updTally (s : State) (t id : Nat) {f : Tally → Tally} (hf : ∀ x, (f x).id = x.id) :
    ((s.updTally t id f).tallies t).filter (fun z => decide (z.id.toNat ≠ id)) =
      (s.tallies t).filter (fun z => decide (z.id.toNat ≠ id)) := by
  unfold State.updTally State.tallies
  rw [show Tab.get nil0 (s.setTallies t _).tal.tallies t = _ from Tab.get_put_self ..]
  induction Tab.get nil0 s.tal.tallies t with
  | nil => rfl
  | cons x l ih =>
    rw [List.map_cons]
    by_cases hx : x.id.toNat = id
    · simpa [hx, hf] using ih
    · simpa [hx] using ih

theorem filter_noteWritten (s : State) (t id : Nat) (cfg : Reg) (v : NoteVal) (y : Tally) :
    ((s.noteWritten t id cfg v y).tallies t).filter (fun z => decide (z.id.toNat ≠ id)) =
      (s.tallies t).filter (fun z => decide (z.id.toNat ≠ id)) := by
  unfold State.noteWritten
  split
  · rw [tallies_congr (trackCount_tallies _ t 6), filter_updTally _ t id (f := fun x => x.withFlag flLATE_NOTE) (fun _ => rfl),
      filter_updTally s t id (noted_id s cfg v)]
  · exact filter_updTally s t id (noted_id s cfg v)

/-! ### NOTE -/

section
variable {s : State} {e : EngineId} {x : Stim} {l : List Stim} (hx : Tab.get slist0 s.tal.stims e.val = x :: l)
  (hkind : fldGet x.cfg 0 3 ≠ 1)
include hx hkind

theorem note_none (h : findNote ((s.popStim e.val).tallies x.track) (x.pos - BitVec.ofNat 48 x.offset.toNat)
      (fldGet x.win 0 16) = none) : ∃ n, exec (.note e) s = .next (((s.popStim e.val).trackCount x.track 3).raiseLim 0x4702
        (srcStation x.station) [(18, 4, n)]) := by
  refine ⟨(nearestDev ((s.popStim e.val).tallies x.track) (x.pos - BitVec.ofNat 48 x.offset.toNat)).toNat, ?_⟩
  show execNote e s = _
  unfold execNote
  rw [hx]
  dsimp only
  rw [if_neg hkind, h]

theorem note_some {y : Tally} (h : findNote ((s.popStim e.val).tallies x.track) (x.pos - BitVec.ofNat 48 x.offset.toNat)
      (fldGet x.win 0 16) = some y) : exec (.note e) s = .next ((s.popStim e.val).noteTally x.track y.id.toNat x.cfg
        { value := x.value, meas := if fldGet x.cfg 3 2 = 0 then
          sat32 (trackDist y.birthPos (x.pos - BitVec.ofNat 48 x.offset.toNat)) else x.meas }) := by
  show execNote e s = _
  unfold execNote
  rw [hx]
  dsimp only
  rw [if_neg hkind, h]

end

end Sys2Proof.Machine
end

section
namespace Sys2Proof.Machine

open Sys2Proof

/-- Settles O28: a stimulus that would be taken is in its buffer, and NOTE writes the tally it finds. -/
theorem stimuliAndVerdictsComplete : Obligations.StimuliAndVerdictsComplete := by
  unfold Obligations.StimuliAndVerdictsComplete
  refine ⟨?edge, ?token, ?core, ?note⟩
  case edge =>
    intro s st htrigger hlive hpin
    refine ⟨fun hfar htakes => ⟨_, _, edgeStimulus_taken htrigger hlive hpin hfar htakes, stims_buffer _ _ _, rfl, rfl, rfl, rfl,
      rfl, edgeTaken_last s st.val, rfl, ?_⟩, fun p hlast hnear => edgeStimulus_near htrigger hlive hpin hlast hnear⟩
    exact (Fr.trans (t := s.edgeTaken st.val) (fr_mk (Fr.refl _ _ s) (by simp [State.edgeTaken]) rfl) (buffer_fr _ _ _)).frame
  case token =>
    intro s mat k hheld
    refine ⟨fun hfree hok htakes => ⟨_, _, noteToken_taken hheld hfree hok htakes, stims_buffer _ _ _, rfl, rfl, rfl, rfl, rfl,
      (buffer_fr _ _ _).frame⟩, fun hfree hw => noteToken_waits hheld hfree hw,
      fun hfree hok => ⟨_, noteToken_dropped hheld hfree hok, (stimDrop_fr _ _).frame⟩,
      fun p hp => ⟨_, noteToken_paced hheld hp, Tab.get_put_self .., rfl, rfl, (keepPaced_fr _ _ _).frame⟩⟩
  case core =>
    intro s req v hp hreq htrigger htakes
    obtain ⟨u, m, htal, hfr, hgoes⟩ := talStimWrite_taken hp hreq htrigger htakes
    refine ⟨_, s.stimAt (fldGet v 0 10) (s.trackPos (s.get (TAL_ST_CFG_TRACK (fldGet v 0 10)))) (fldGet v 10 4) m, hgoes,
      ?_, rfl, rfl, rfl, ?_, ?_⟩
    · exact (stims_buffer u (s.stationEngine (fldGet v 0 10)) _).trans (by rw [htal]; rfl)
    · have htallies : u.tal.tallies = s.tal.tallies := by rw [htal]
      exact htallies
    · exact ((hfr.mono (by simp) (List.Subset.refl _)).trans ((buffer_fr _ _ _).mono (by simp) (List.Subset.refl _))).frame
  case note =>
    intro s e x l u d m hx hkind hu hd
    subst hu hd
    refine ⟨fun hnone => ?_, fun hnone => ?_, fun y hfind hy hm => ⟨fun h4 hkeep => ?_, fun h4 hopen hdecide => ?_, fun h4 => ?_⟩⟩
    · rw [popStim_of_committed_nil hnone, hx]
      exact ⟨rfl, Tab.get_put_self ..⟩
    · obtain ⟨n, hgoes⟩ := note_none hx hkind hnone
      have htal : (((s.popStim e.val).trackCount x.track 3).raiseLim 0x4702 (srcStation x.station) [(18, 4, n)]).tal =
          (s.popStim e.val).tal := by
        rw [State.raiseLim_tal, State.trackCount, State.count_tal]
      exact ⟨_, hgoes, tallies_congr (congrArg _ htal) _, fun v _ => tallies_congr (congrArg _ htal) v, by rw [htal]⟩
    · have hgoes := note_some hx hkind hfind
      rw [← hm, noteTally_eq hy, if_neg h4] at hgoes
      have hstay : (if y.flags &&& flDECIDED ≠ 0 then (s.popStim e.val).noteWritten x.track y.id.toNat x.cfg ⟨x.value, m⟩ y
          else if fldGet x.cfg 29 1 = 1 then
            ((s.popStim e.val).noteWritten x.track y.id.toNat x.cfg ⟨x.value, m⟩ y).decideTally x.track y.id.toNat
          else (s.popStim e.val).noteWritten x.track y.id.toNat x.cfg ⟨x.value, m⟩ y) =
          (s.popStim e.val).noteWritten x.track y.id.toNat x.cfg ⟨x.value, m⟩ y := by
        rcases hkeep with hlate | hno
        · exact if_pos hlate
        · rw [if_neg (show ¬ fldGet x.cfg 29 1 = 1 by omega), ite_self]
      rw [hstay] at hgoes
      obtain ⟨hzone, hlast, hbits, hmeas, hother, hflags⟩ := notedLate_spec (s.popStim e.val) x.cfg ⟨x.value, m⟩ y
      refine ⟨_, _, hgoes, tally_noteWritten hy x.cfg ⟨x.value, m⟩, notedLate_id .., hzone, hbits, hmeas, hother, hflags, hlast,
        fun v hv => tallies_noteWritten_ne _ hv .., fun hnone hopen => ?_⟩
      exact (noteWritten_fr hnone hopen).frame
    · have hgoes := note_some hx hkind hfind
      rw [← hm, noteTally_eq hy, if_neg h4, if_neg (not_not.mpr hopen), if_pos hdecide] at hgoes
      obtain ⟨z, hz, hdec, hverdict⟩ := decidedAs_decideTally (tally_noteWritten hy x.cfg ⟨x.value, m⟩)
      refine ⟨_, z, hgoes, hz, hdec, fun hsense hfield => ?_⟩
      obtain ⟨-, -, hbits, -⟩ := notedLate_spec (s.popStim e.val) x.cfg ⟨x.value, m⟩ y
      rw [hverdict]
      exact (hbits hsense hfield).1
    · have hgoes := note_some hx hkind hfind
      rw [← hm, noteTally_eq hy, if_pos h4] at hgoes
      refine ⟨_, hgoes, ?_⟩
      rw [tallies_removeTally (tally_noteWritten hy x.cfg ⟨x.value, m⟩), filter_noteWritten]

end Sys2Proof.Machine
end

section
/-! SUPPORT.  Words of the banks and the errors found in them: what changes of a word, and what the reports of an error leave
(R108, R112 to R117). -/

namespace Sys2Proof.Machine

open Sys2Proof

/-! ### Words -/

theorem word_putWord (s : State) {p w c a : Nat} (hw : w < 8192) (ha : a < 8192) (x : MemWord) :
    (s.putWord p w x).word c a = if (c, a) = (p, w) then x else s.word c a := by
  unfold State.word
  rw [show (s.putWord p w x).mem.words = Tab.put memWord0 s.mem.words (p * 8192 + w) x from rfl, Tab.get_put]
  by_cases h : (c, a) = (p, w)
  · obtain ⟨rfl, rfl⟩ := Prod.mk.inj h
    simp
  · rw [if_neg h, if_neg]
    intro he
    exact h (Prod.ext (by omega) (by omega))

theorem putWord_fr (s : State) (p w : Nat) (x : MemWord) : Fr [.words] [] s (s.putWord p w x) :=
  fr_mk (Fr.refl _ _ s) (State.putWord_keeps p w x (Keeps.refl s)) rfl

/-- The bank that serves a bank depends on the banks' states alone. -/
theorem serving_fr {ps : List Part} {ks : List Nat} {s t : State} (h : Fr ps ks s t)
    (hk : ∀ c i, COL_BANK_STATUS c i ∉ ks) (b : Nat) : t.serving b = s.serving b := by
  have hstate : t.get (COL_BANK_STATUS_STATE (bankCol b) (bankIdx b)) = s.get (COL_BANK_STATUS_STATE (bankCol b) (bankIdx b)) :=
    h.get (hk _ _)
  have hserves : t.get (COL_BANK_STATUS_SERVES (bankCol b) 8) = s.get (COL_BANK_STATUS_SERVES (bankCol b) 8) := h.get (hk _ _)
  simp only [State.serving, hstate, hserves]

theorem fr_col {ps : List Part} {ks : List Nat} {s0 s : State} (h : Fr ps ks s0 s) (hp : Part.col ∈ ps) (x : ColState) :
    Fr ps ks s0 { s with col := x } := by
  have k : Fr [.col] ks s { s with col := x } := fr_mk (Fr.refl _ _ s) (by simp) rfl
  exact h.trans (k.mono (List.cons_subset.2 ⟨hp, List.nil_subset _⟩) (List.Subset.refl _))

/-! ### Reports of an error -/

/-- Parts that the report of a bank's fault may change. -/
def faultParts : List Part := .que :: .col :: .mnt :: evParts

/-- Registers that the report of a bank's fault may change: the states of the column's banks, and the supervisor's. -/
def bankFaultKeys (c : Nat) : List Nat :=
  (List.range 9).map (COL_BANK_STATUS c) ++ (LSUP_CONFLICTS 2 :: supKeys 2 ++ bookKeys)

theorem mem_bankFaultKeys_of_sup {c k : Nat} (h : k ∈ LSUP_CONFLICTS 2 :: supKeys 2 ++ bookKeys) : k ∈ bankFaultKeys c :=
  List.mem_append_right _ h

theorem bankIdx_lt (b : Nat) : bankIdx b < 9 := by
  unfold bankIdx
  split <;> omega

theorem bankState_mem (b : Nat) : (bankState b).reg ∈ bankFaultKeys (bankCol b) :=
  List.mem_append_left _ (List.mem_map_of_mem (List.mem_range.mpr (bankIdx_lt b)))

theorem spareServes_mem (c : Nat) : (spareServes c).reg ∈ bankFaultKeys c :=
  List.mem_append_left _ (List.mem_map_of_mem (List.mem_range.mpr (by decide)))

theorem setOpen_fr {ps : List Part} {ks : List Nat} {s0 s : State} (h : Fr ps ks s0 s) (hp : Part.col ∈ ps) {y : Nat}
    (hk : LSUP_STATUS y ∈ ks) (c : Nat) (l : List FaultItem) : Fr ps ks s0 (s.setOpen y c l) :=
  fr_set (f := LSUP_STATUS_OPEN_FAULTS y)
    (fr_col h hp { s.col with open_ := Tab.put nil0 s.col.open_ (y * 256 + c) l }) hk _

theorem reportFault_fr (s : State) (y c : Nat) (x : FaultItem) (code src : Nat) (data : List (Nat × Nat × Nat)) :
    Fr (.col :: evParts) (supKeys y ++ bookKeys) s (s.reportFault y c x code src data) := by
  have hraise := (raise_fr s code src data).mono (qs := .col :: evParts) (ls := supKeys y ++ bookKeys) (by simp) (by simp)
  exact setOpen_fr (hraise.trans ((noteFault_fr _ y code src).mono (by simp) (by simp))) (by simp) (by simp [supKeys]) _ _

theorem queueFault_fr (s : State) (q cause : Nat) : Fr (.que :: evParts) (supKeys 2 ++ bookKeys) s (s.queueFault q cause) := by
  unfold State.queueFault
  split
  · exact Fr.refl _ _ s
  next x hx =>
    have hclear : Fr (.que :: evParts) (supKeys 2 ++ bookKeys) s (s.queueClear q) := by
      unfold State.queueClear
      rw [hx]
      exact fr_mk (Fr.refl _ _ s) (State.setEpoch_keeps _ _ (State.setQueue_keeps _ _ (Keeps.refl s))) rfl
    dsimp only
    exact (fr_books hclear (raiseSt_books _ _ _ _ (Books.refl _)) (by simp) (by simp)).trans
      ((noteFault_fr _ 2 _ _).mono (by simp) (by simp))

/-- An activity that its grant starts in the arbiter alone. -/
theorem submitOwn_fr (s : State) {t : Task} (ht : ∀ u : State, u.onGrant t = u) (locks : List Lock) (requester resource : Nat) :
    Fr (.mnt :: evParts) (LSUP_CONFLICTS 2 :: supKeys 2 ++ bookKeys) s (s.submitOwn t locks requester resource) := by
  have hsubmit : Fr (.mnt :: evParts) (LSUP_CONFLICTS 2 :: supKeys 2 ++ bookKeys) s (s.submit t locks requester resource none).1 := by
    unfold State.submit
    dsimp only
    refine fr_books ?_ (submitRaw_books _ _ _ _ _ ht (Books.refl _)) (by simp) (by simp)
    split
    · refine Fr.trans ?_ ((raise_fr _ _ _ _).mono (by simp) (by simp))
      exact fr_count (Fr.refl _ _ s) (by simp) (by simp [supKeys, LSUP_SAT_CONFLICTS]) 1
    · exact Fr.refl _ _ s
  unfold State.submitOwn
  split
  next u heq =>
    rw [heq] at hsubmit
    exact fr_mk hsubmit (by simp [hsubmit.keeps]) rfl
  next u r _ heq =>
    rw [heq] at hsubmit
    exact hsubmit

theorem bankCol_servedBy (s : State) {b : Nat} (hc : bankCol b < 256) : bankCol (s.servedBy b) = bankCol b := by
  unfold State.servedBy
  split
  · rfl
  split
  next hb hi =>
    unfold bankId bankCol at *
    rw [if_neg hb] at hc hi
    rw [if_neg hb, if_pos hi, if_pos (by omega)]
    omega
  · rfl

theorem retireBank_fr (s : State) (b : Nat) : Fr faultParts (bankFaultKeys (bankCol b)) s (s.retireBank b) := by
  unfold State.retireBank
  refine fr_foldl ?_ (fun t q ht => ht.trans ((queueFault_fr t q 2).mono (by simp [faultParts, evParts]) fun k hk =>
    mem_bankFaultKeys_of_sup (by simp_all))) _
  refine (fr_col (fr_set (Fr.refl _ _ s) (bankState_mem b) 3) (by simp [faultParts]) _).trans
    ((reportFault_fr _ 2 _ _ _ _ _).mono (by simp [faultParts, evParts]) fun k hk => mem_bankFaultKeys_of_sup (by simp_all))

theorem movesAsked_fr (s : State) (c : Nat) :
    Fr [.mnt] [] s ((s.wantReloc (matOf c 0)).wantReloc (matOf c 1)) :=
  (wantReloc_fr s _).trans (wantReloc_fr _ _)

theorem startRemap_fr (s : State) (b : Nat) : Fr faultParts (bankFaultKeys (bankCol b)) s (s.startRemap b) := by
  unfold State.startRemap
  dsimp only
  split
  · refine (fr_set (fr_col (Fr.refl _ _ s) (by simp [faultParts]) _) (spareServes_mem _) _).trans
      ((submitOwn_fr _ (by simp [State.onGrant]) _ _ _).mono (by simp [faultParts, evParts]) fun k hk =>
        mem_bankFaultKeys_of_sup hk)
  · exact (fr_col (Fr.refl _ _ s) (by simp [faultParts]) _).trans ((movesAsked_fr _ _).mono (by simp [faultParts]) (by simp))

theorem bankFailing_fr (s : State) {b : Nat} (hc : bankCol b < 256) (ue : Bool) :
    Fr faultParts (bankFaultKeys (bankCol b)) s (s.bankFailing b ue) := by
  unfold State.bankFailing
  dsimp only
  by_cases hb : b < 2048
  · rw [if_pos hb]
    split
    · exact Fr.refl _ _ s
    split
    · exact Fr.refl _ _ s
    split
    · exact fr_ite (retireBank_fr s b) (Fr.refl _ _ s)
    · exact startRemap_fr s b
  · rw [if_neg hb]
    split
    · split
      · exact fr_ite (bankCol_servedBy s hc ▸ retireBank_fr s _) (Fr.refl _ _ s)
      split
      · exact (fr_col (Fr.refl _ _ s) (by simp [faultParts]) _).trans ((movesAsked_fr _ _).mono (by simp [faultParts]) (by simp))
      · exact Fr.refl _ _ s
    · exact fr_col (fr_set (Fr.refl _ _ s) (bankState_mem b) 3) (by simp [faultParts]) _

/-! ### Errors found -/

/-- Registers of a bank that the counts of its errors stand in. -/
def bankErrorKeys (b : Nat) : List Nat :=
  [COL_BANK_CES (bankCol b) (bankIdx b), COL_BANK_UES (bankCol b) (bankIdx b), COL_BANK_LAST (bankCol b) (bankIdx b),
    COL_BANK_SAT (bankCol b)]

theorem supKeys_le {y k : Nat} (h : k ∈ supKeys y) : 0x300000 ≤ k := by
  simp only [supKeys, LSUP_STATUS, LSUP_LAST, LSUP_FAULTS, LSUP_SAT, LSUP_DEGRADED, List.mem_append, List.mem_map,
    List.mem_cons, List.not_mem_nil, or_false] at h
  obtain h | ⟨j, -, rfl⟩ := h <;> omega

theorem mem_bankFaultKeys {c k : Nat} (h : k ∈ bankFaultKeys c) :
    (∃ i, i < 9 ∧ k = COL_BANK_STATUS c i) ∨ k < 0x30000 ∨ 0x300000 ≤ k := by
  simp only [bankFaultKeys, List.mem_append, List.mem_map, List.mem_range, List.mem_cons, List.cons_append] at h
  obtain ⟨i, hi, rfl⟩ | rfl | h | h := h
  · exact .inl ⟨i, hi, rfl⟩
  · exact .inr (.inr (by unfold LSUP_CONFLICTS; omega))
  · exact .inr (.inr (supKeys_le h))
  · exact .inr (.inl (bookKeys_lt h))

/-- The counts of a bank's errors are not among the registers that the report of its fault writes. -/
theorem bankErrorKeys_not_fault {b k : Nat} (hc : bankCol b < 256) (hk : k ∈ bankErrorKeys b) :
    k ∉ bankFaultKeys (bankCol b) := fun h => by
  have := bankIdx_lt b
  simp only [bankErrorKeys, COL_BANK_CES, COL_BANK_UES, COL_BANK_LAST, COL_BANK_SAT, List.mem_cons, List.not_mem_nil,
    or_false] at hk
  obtain ⟨i, hi, rfl⟩ | h | h := mem_bankFaultKeys h
  · unfold COL_BANK_STATUS at hk
    omega
  · omega
  · omega

theorem bankStatus_not_error (c i b : Nat) : COL_BANK_STATUS c i ∉ bankErrorKeys b := by
  have := bankIdx_lt b
  simp only [bankErrorKeys, COL_BANK_STATUS, COL_BANK_CES, COL_BANK_UES, COL_BANK_LAST, COL_BANK_SAT, List.mem_cons,
    List.not_mem_nil, or_false]
  omega

theorem lastError_fr (s : State) (b w : Nat) (ue : Bool) (syndrome : Nat) :
    Fr [] [COL_BANK_LAST (bankCol b) (bankIdx b)] s (s.lastError b w ue syndrome) :=
  fr_set (fr_setFlag (fr_set (Fr.refl _ _ s) (by simp [COL_BANK_LAST_WORD]) w) (by simp [COL_BANK_LAST_UE]) ue)
    (by simp [COL_BANK_LAST_SYNDROME]) _

theorem countUE_fr (s : State) (b n : Nat) : Fr [] (bankErrorKeys b) s (s.countUE b n) :=
  fr_count (Fr.refl _ _ s) (by simp [bankErrorKeys]) (by simp [bankErrorKeys]) n

theorem foundCE_fr (s : State) (b w e : Nat) : Fr [] [COL_BANK_CES (bankCol b) (bankIdx b), COL_BANK_SAT (bankCol b),
    (COL_BANK_LAST_WORD (bankCol b) (bankIdx b)).reg] s (s.foundCE b w e) :=
  (fr_count (Fr.refl _ _ s) (by simp) (by simp) 1).trans ((lastError_fr _ b w false e).mono (by simp) (by simp [COL_BANK_LAST_WORD]))

theorem rd_lastError {s : State} {b k : Nat} (hk : k ≠ COL_BANK_LAST (bankCol b) (bankIdx b)) (w : Nat) (ue : Bool) (e : Nat) :
    (s.lastError b w ue e).rd k = s.rd k := (lastError_fr s b w ue e).frame.reg k (by simp [hk])

theorem rd_foundCE (s : State) (b w e : Nat) : ((s.foundCE b w e).rd (COL_BANK_CES (bankCol b) (bankIdx b))).toNat =
    min 0xFFFFFFFF ((s.rd (COL_BANK_CES (bankCol b) (bankIdx b))).toNat + 1) := by
  have := bankIdx_lt b
  unfold State.foundCE State.countCE
  rw [rd_lastError (by unfold COL_BANK_CES COL_BANK_LAST; omega)]
  exact rd_count _ _ _ (by simp only [COL_BANK_SAT, COL_BANK_CES, ne_eq]; omega) (by decide)

/-- What the report of an uncorrectable error leaves: the word and its count, and the supervisor's and the banks' states. -/
theorem foundUE_fr (s : State) {b : Nat} (hc : bankCol b < 256) (w : Nat) (v : Word) (e n : Nat) :
    Fr faultParts (COL_BANK_LAST (bankCol b) (bankIdx b) :: bankFaultKeys (bankCol b))
      ((s.putWord b w { data := v, syn := BitVec.ofNat 8 e, poison := true }).countUE b 1) (s.foundUE b w v e n) := by
  unfold State.foundUE
  refine Fr.trans ?_ ((bankFailing_fr _ hc true).mono (by simp) (by simp))
  refine Fr.trans ?_ ((reportFault_fr _ 2 _ _ _ _ _).mono (by simp [faultParts, evParts]) fun k hk =>
    List.mem_cons_of_mem _ (mem_bankFaultKeys_of_sup (by simp_all)))
  exact fr_col ((lastError_fr _ b w true e).mono (by simp) (by simp)) (by simp [faultParts]) _

theorem Fr.mem_eq {ps : List Part} {ks : List Nat} {s t : State} (h : Fr ps ks s t) (hw : Part.words ∉ ps) (hm : Part.mem ∉ ps) :
    t.mem = s.mem := by
  have hwords : t.mem.words = s.mem.words := h.frame.part .words hw
  have hmem : { t.mem with words := s.mem.words } = s.mem := h.frame.part .mem hm
  rwa [← hwords] at hmem

theorem foundUE_mem (s : State) {b : Nat} (hc : bankCol b < 256) (w : Nat) (v : Word) (e n : Nat) :
    (s.foundUE b w v e n).mem = (s.putWord b w { data := v, syn := BitVec.ofNat 8 e, poison := true }).mem :=
  ((foundUE_fr s hc w v e n).mem_eq (by decide) (by decide)).trans ((countUE_fr _ b 1).mem_eq (by simp) (by simp))

theorem rd_foundUE (s : State) {b : Nat} (hc : bankCol b < 256) (w : Nat) (v : Word) (e n : Nat) :
    ((s.foundUE b w v e n).rd (COL_BANK_UES (bankCol b) (bankIdx b))).toNat =
      min 0xFFFFFFFF ((s.rd (COL_BANK_UES (bankCol b) (bankIdx b))).toNat + 1) := by
  have := bankIdx_lt b
  rw [(foundUE_fr s hc w v e n).frame.reg _ ?_]
  · exact rd_count _ _ _ (by simp only [COL_BANK_SAT, COL_BANK_UES, ne_eq]; omega) (by decide)
  · refine List.not_mem_cons_of_ne_of_not_mem (by unfold COL_BANK_UES COL_BANK_LAST; omega) ?_
    exact bankErrorKeys_not_fault hc (by simp [bankErrorKeys])

/-! ### Writes of a bank's word at its copies -/

/-- A word written at several places. -/
def State.putWords (s : State) (l : List (Nat × Nat)) (x : MemWord) : State := l.foldl (fun s d => s.putWord d.1 d.2 x) s

theorem putWords_fr (s : State) (l : List (Nat × Nat)) (x : MemWord) : Fr [.words] [] s (s.putWords l x) :=
  fr_foldl (Fr.refl _ _ s) (fun _ _ h => h.trans (putWord_fr _ _ _ x)) l

theorem word_putWords (l : List (Nat × Nat)) (x : MemWord) {c a : Nat} (hl : ∀ d ∈ l, d.2 < 8192) (ha : a < 8192) (s : State) :
    (s.putWords l x).word c a = if (c, a) ∈ l then x else s.word c a := by
  induction l generalizing s with
  | nil => simp [State.putWords]
  | cons d l ih =>
    have hd : d.2 < 8192 := hl d (by simp)
    change ((s.putWord d.1 d.2 x).putWords l x).word c a = _
    rw [ih (fun e he => hl e (by simp [he])), word_putWord s hd ha]
    by_cases hin : (c, a) ∈ l <;> by_cases heq : (c, a) = d <;> simp [hin, heq]

/-- The copy of a word that a relocation mirrors it to (R457). -/
def State.relocCopy (s : State) (b w : Nat) (a : Act) : Option (Nat × Nat) :=
  match a.task with
  | .reloc r => if r.mirroring ∧ bankIdx b ∈ r.banks ∧ r.src.any (fun m => decide (matCol m = bankCol b)) then
      r.dst.head?.map (fun d => (s.serving (bankId (matCol d) (bankIdx b)), w)) else none
  | _ => none

theorem copiesOf_eq (s : State) (b w : Nat) : s.copiesOf b w = (s.serving b, w) ::
    ((if s.get (bankState b) = 1 then [(2048 + bankCol b, w)] else []) ++ s.mnt.acts.filterMap (s.relocCopy b w)) := rfl

/-- The write that relocations mirror. -/
def State.relocWrite (b w : Nat) (x : MemWord) (s : State) (a : Act) : State :=
  match a.task with
  | .reloc r =>
    if r.mirroring ∧ bankIdx b ∈ r.banks ∧ r.src.any (fun m => matCol m = bankCol b) then
      match r.dst.head? with
      | some d => s.putWord (s.serving (bankId (matCol d) (bankIdx b))) w x
      | none => s
    else s
  | _ => s

theorem relocWrite_eq (b w : Nat) (x : MemWord) (s : State) (a : Act) :
    State.relocWrite b w x s a = s.putWords (s.relocCopy b w a).toList x := by
  unfold State.relocWrite State.relocCopy
  split
  next r _ =>
    split
    · cases r.dst.head? <;> rfl
    · rfl
  · rfl

theorem relocWrites_eq (b w : Nat) (x : MemWord) (l : List Act) (s : State) :
    l.foldl (State.relocWrite b w x) s = s.putWords (l.filterMap (s.relocCopy b w)) x := by
  induction l generalizing s with
  | nil => rfl
  | cons a l ih =>
    rw [List.foldl_cons, ih, relocWrite_eq]
    have hcopy : (s.putWords (s.relocCopy b w a).toList x).relocCopy b w = s.relocCopy b w := by
      funext a'
      unfold State.relocCopy
      simp only [serving_fr (putWords_fr s _ x) (by simp)]
    rw [hcopy, List.filterMap_cons]
    cases s.relocCopy b w a <;> rfl

/-- The words of b8 that a running copy of a bank has to leave alone, after a write of the bank. -/
def State.mirroredWith (s : State) (b w : Nat) : Tab (List Nat) :=
  if s.get (bankState b) = 1 then
    Tab.put nil0 s.mem.mirrored (bankCol b) (insNat w (Tab.get nil0 s.mem.mirrored (bankCol b)))
  else s.mem.mirrored

def State.mirrorNoted (s : State) (b w : Nat) : State := { s with mem := { s.mem with mirrored := s.mirroredWith b w } }

theorem writeBank_eq (s : State) (b w : Nat) (x : MemWord) :
    s.writeBank b w x = (s.mirrorNoted b w).putWords (s.copiesOf b w) x := by
  have hacts : s.writeBank b w x = s.mnt.acts.foldl (State.relocWrite b w x)
      ((s.mirrorNoted b w).putWords ((s.serving b, w) :: if s.get (bankState b) = 1 then [(2048 + bankCol b, w)] else []) x) := by
    unfold State.writeBank State.mirrorNoted State.mirroredWith
    by_cases hcopy : s.get (bankState b) = 1
    · rw [if_pos hcopy, if_pos hcopy]
      have h1 : (s.putWord (s.serving b) w x).get (COL_BANK_STATUS_STATE (bankCol b) (bankIdx b)) = 1 := hcopy
      dsimp only
      rw [if_pos h1]
      rfl
    · rw [if_neg hcopy, if_neg hcopy]
      have h1 : ¬(s.putWord (s.serving b) w x).get (COL_BANK_STATUS_STATE (bankCol b) (bankIdx b)) = 1 := hcopy
      dsimp only
      rw [if_neg h1]
      rfl
  have hcopy (l : List (Nat × Nat)) : ((s.mirrorNoted b w).putWords l x).relocCopy b w = s.relocCopy b w := by
    funext a
    have hnoted : (s.mirrorNoted b w).serving = s.serving := rfl
    unfold State.relocCopy
    simp only [serving_fr (putWords_fr _ _ x) (by simp), hnoted]
  rw [hacts, relocWrites_eq, hcopy, copiesOf_eq, ← List.cons_append]
  simp only [State.putWords, List.foldl_append]

theorem writeBank_fr (s : State) (b w : Nat) (x : MemWord) : Fr [.mem, .words] [] s (s.writeBank b w x) := by
  rw [writeBank_eq]
  exact (fr_mk (t := s.mirrorNoted b w) (Fr.refl _ _ s) (by simp [State.mirrorNoted]) rfl).trans
    ((putWords_fr _ _ x).mono (by simp) (by simp))

theorem copiesOf_addr {s : State} {b w : Nat} {d : Nat × Nat} (h : d ∈ s.copiesOf b w) : d.2 = w := by
  simp only [copiesOf_eq, List.mem_cons, List.mem_append, List.mem_filterMap] at h
  obtain rfl | h | ⟨a, -, h⟩ := h
  · rfl
  · split at h
    · simp_all
    · simp at h
  · unfold State.relocCopy at h
    split at h
    · split at h
      · obtain ⟨e, -, rfl⟩ := Option.map_eq_some_iff.mp h
        rfl
      · simp at h
    · simp at h

theorem word_writeBank (s : State) {b w c a : Nat} (hw : w < 8192) (ha : a < 8192) (x : MemWord) :
    (s.writeBank b w x).word c a = if (c, a) ∈ s.copiesOf b w then x else s.word c a := by
  rw [writeBank_eq, word_putWords _ x (fun d hd => by rw [copiesOf_addr hd]; exact hw) ha]
  rfl

theorem writeBank_mem (s : State) (b w : Nat) (x : MemWord) : (s.writeBank b w x).mem =
    { s.mem with words := (s.writeBank b w x).mem.words, mirrored := s.mirroredWith b w } := by
  have hrest : { (s.writeBank b w x).mem with words := s.mem.words } = { s.mem with mirrored := s.mirroredWith b w } := by
    rw [writeBank_eq]
    exact (putWords_fr (s.mirrorNoted b w) _ x).frame.part .mem (by simp)
  simp only [MemState.mk.injEq] at hrest
  obtain ⟨-, hresp, hmirrored⟩ := hrest
  dsimp only
  rw [← hresp, ← hmirrored]

theorem copiesOf_fr {ps : List Part} {ks : List Nat} {s t : State} (h : Fr ps ks s t) (hk : ∀ c i, COL_BANK_STATUS c i ∉ ks)
    (ha : Part.acts ∉ ps) (b w : Nat) : t.copiesOf b w = s.copiesOf b w := by
  have hserving : t.serving = s.serving := funext fun b => serving_fr h hk b
  have hstate : t.get (bankState b) = s.get (bankState b) := h.get (hk _ _)
  have hacts : t.mnt.acts = s.mnt.acts := h.frame.part .acts ha
  have hcopy : t.relocCopy b w = s.relocCopy b w := by
    funext a
    unfold State.relocCopy
    simp only [hserving]
  rw [copiesOf_eq, copiesOf_eq, hserving, hstate, hacts, hcopy]

end Sys2Proof.Machine
end

section
/-! SUPPORT.  What a memory port's request does: the answer of the bank, the parity of the crossings, and the response that is kept
until it is acknowledged (R99, R108 to R112). -/

namespace Sys2Proof.Machine

open Sys2Proof

theorem matCol_lt (m : Nat) : matCol m < 256 := Nat.mod_lt _ (by decide)

theorem arrivalBank_lt (x : PortArrival) : arrivalBank x < 8 := Nat.mod_lt _ (by decide)

theorem portWord_lt (q : BitVec 93) : (portReq q).word < 8192 := Nat.mod_lt _ (by decide)

theorem bankCol_serving (s : State) {c b : Nat} (hc : c < 256) (hb : b < 8) : bankCol (s.serving (bankId c b)) = c := by
  have hcol : bankCol (bankId c b) = c := by
    unfold bankId bankCol
    rw [if_pos hb, if_pos (by omega)]
    omega
  unfold State.serving
  dsimp only
  rw [hcol]
  split
  · unfold bankCol
    rw [if_neg (by omega)]
    omega
  · exact hcol

/-! ### Parity of the crossings -/

theorem soundPort_fr (s : State) (c g code : Nat) : Fr [.col] [] s (s.soundPort c g code) :=
  fr_foldl (Fr.refl _ _ s) (fun _ _ h => fr_ite (fr_col h (by simp) _) h) _

/-- Groups sounded ahead, with the other columns' work untouched. -/
theorem soundPort_col (s : State) (c g code : Nat) :
    (s.soundPort c g code).col = { s.col with ahead := (s.soundPort c g code).col.ahead } := by
  unfold State.soundPort
  generalize upto 56 = l
  induction l generalizing s with
  | nil => rfl
  | cons k l ih =>
    rw [List.foldl_cons, ih]
    split <;> rfl

theorem aheadOf_soundPort {c g k : Nat} (code : Nat) (hk : k < 56) (huse : groupUse c (1 + g) k = 1) (s : State) :
    aheadOf (s.soundPort c g code) c (1 + g) k = code := by
  have hfold : ∀ (l : List Nat) (t : State), (k ∈ l ∨ aheadOf t c (1 + g) k = code) →
      aheadOf (l.foldl (fun s k => if groupUse c (1 + g) k = 1 then s.setAhead c (1 + g) k code else s) t) c (1 + g) k = code := by
    intro l
    induction l with
    | nil => exact fun t h => h.resolve_left (by simp)
    | cons j l ih =>
      intro t h
      refine ih _ ?_
      by_cases hj : k = j
      · subst hj
        exact .inr (by simp [huse, aheadOf, State.setAhead])
      · refine h.imp (fun hm => (List.mem_cons.mp hm).resolve_left hj) fun ha => ?_
        dsimp only
        split
        · unfold aheadOf State.setAhead
          rw [Tab.get_put, if_neg (by unfold groupKey; omega)]
          exact ha
        · exact ha
  exact hfold _ s (.inl (List.mem_range.mpr hk))

/-- Registers that a parity error on a port writes. -/
def parityKeys (m : Nat) : List Nat :=
  [COL_MPORT_PARA (matCol m), COL_MPORT_PARB (matCol m), COL_RHZ_SAT (matCol m)] ++ (supKeys (matLayer m) ++ bookKeys)

/-- The count of a parity error. -/
def State.parityCounted (s : State) (m : Nat) : State :=
  if matG m = 0 then s.count (COL_MPORT_PARA (matCol m)) (COL_RHZ_SAT_MPORT_PARA (matCol m)) 1
  else s.count (COL_MPORT_PARB (matCol m)) (COL_RHZ_SAT_MPORT_PARB (matCol m)) 1

theorem parityCounted_fr (s : State) (m : Nat) : Fr [] (parityKeys m) s (s.parityCounted m) :=
  fr_ite (fr_count (Fr.refl _ _ s) (by simp [parityKeys]) (by simp [parityKeys, COL_RHZ_SAT_MPORT_PARA]) 1)
    (fr_count (Fr.refl _ _ s) (by simp [parityKeys]) (by simp [parityKeys, COL_RHZ_SAT_MPORT_PARB]) 1)

/-- After the count: the event, the supervisor's note and the groups to be sounded. -/
theorem portParity_after (s : State) (m b : Nat) (response : Bool) :
    Fr (.col :: evParts) (supKeys (matLayer m) ++ bookKeys) (s.parityCounted m) (s.portParity m b response) := by
  unfold State.portParity State.parityCounted
  exact (((raise_fr _ _ _ _).mono (by simp) (by simp)).trans ((noteFault_fr _ _ _ _).mono (by simp) (by simp))).trans
    ((soundPort_fr _ _ _ _).mono (by simp) (by simp))

theorem portParity_fr (s : State) (m b : Nat) (response : Bool) :
    Fr (.col :: evParts) (parityKeys m) s (s.portParity m b response) :=
  ((parityCounted_fr s m).mono (by simp) (by simp)).trans
    ((portParity_after s m b response).mono (by simp) (List.subset_append_right _ _))

theorem rd_portParity (s : State) (m b : Nat) (response : Bool) {k : Nat} (hk : 0x200000 ≤ k ∧ k < 0x300000) :
    (s.portParity m b response).rd k = (s.parityCounted m).rd k :=
  (portParity_after s m b response).frame.reg k fun h => by
    obtain h | h := List.mem_append.mp h
    · have := supKeys_le h
      omega
    · have := bookKeys_lt h
      omega

theorem portParity_counted (s : State) (m b : Nat) (response : Bool) :
    (matG m = 0 → ((s.portParity m b response).rd (COL_MPORT_PARA (matCol m))).toNat =
      min 0xFFFFFFFF ((s.rd (COL_MPORT_PARA (matCol m))).toNat + 1)) ∧
    (matG m = 1 → ((s.portParity m b response).rd (COL_MPORT_PARB (matCol m))).toNat =
      min 0xFFFFFFFF ((s.rd (COL_MPORT_PARB (matCol m))).toNat + 1)) := by
  have := matCol_lt m
  constructor
  · intro hg
    rw [rd_portParity _ _ _ _ (by unfold COL_MPORT_PARA; omega), State.parityCounted, if_pos hg]
    exact rd_count _ _ _ (by simp [COL_RHZ_SAT_MPORT_PARA, COL_RHZ_SAT, COL_MPORT_PARA]) (by decide)
  · intro hg
    rw [rd_portParity _ _ _ _ (by unfold COL_MPORT_PARB; omega), State.parityCounted, if_neg (by omega)]
    exact rd_count _ _ _ (by simp [COL_RHZ_SAT_MPORT_PARB, COL_RHZ_SAT, COL_MPORT_PARB]) (by decide)

theorem aheadOf_portParity (s : State) {m k : Nat} (b : Nat) (response : Bool) (hk : k < 56)
    (huse : groupUse (matCol m) (1 + matG m) k = 1) : aheadOf (s.portParity m b response) (matCol m) (1 + matG m) k = 2 :=
  aheadOf_soundPort 2 hk huse _

/-! ### The answer of a bank -/

theorem readBank_mem_resp (s : State) {b : Nat} (hc : bankCol (s.serving b) < 256) (w : Nat) (ecc : Ecc) (n : Nat) :
    (s.readBank b w ecc n).1.mem.resp = s.mem.resp := by
  unfold State.readBank
  dsimp only
  split
  · rfl
  cases ecc with
  | clean => rfl
  | ce e => rw [show (s.foundCE _ w e.toNat).mem = s.mem from (foundCE_fr s _ w _).mem_eq (by simp) (by simp)]
  | ue v e => rw [show (s.foundUE _ w v e.toNat n).mem = _ from foundUE_mem s hc w v _ n]; rfl

theorem writeBank_resp (s : State) (b w : Nat) (x : MemWord) : (s.writeBank b w x).mem.resp = s.mem.resp := by
  rw [writeBank_mem]

theorem portWrite_resp (s : State) {b : Nat} (hc : bankCol (s.serving b) < 256) (m w be : Nat) (v : Word) (ecc : Ecc) :
    (s.portWrite m b w be v ecc).1.mem.resp = s.mem.resp := by
  unfold State.portWrite
  split
  · exact writeBank_resp ..
  · have hread := readBank_mem_resp s hc w ecc (matG m)
    dsimp only
    split
    · exact hread
    · exact (writeBank_resp ..).trans hread

theorem portRead_resp (s : State) {b : Nat} (hc : bankCol (s.serving b) < 256) (m w : Nat) (ecc : Ecc) :
    (s.portRead m b w ecc).1.mem.resp = s.mem.resp := by
  unfold State.portRead
  dsimp only
  split
  · rfl
  cases ecc with
  | clean => rfl
  | ce e => rfl
  | ue v e => rw [show (s.foundUE _ w v e.toNat _).mem = _ from foundUE_mem s hc w v _ _]; rfl

theorem portServe_resp (s : State) {b : Nat} (hc : bankCol (s.serving b) < 256) (m : Nat) (r : PortReq) (ecc : Ecc) :
    (s.portServe m b r ecc).1.mem.resp = s.mem.resp := by
  unfold State.portServe
  dsimp only
  split
  · rfl
  split
  · exact portWrite_resp s hc m r.word r.be r.wdata ecc
  · exact portRead_resp s hc m r.word ecc

/-- What an answer repeats of the request. -/
theorem portServe_answer (s : State) (m b : Nat) (r : PortReq) (ecc : Ecc) :
    (s.portServe m b r ecc).2.tag = r.tag ∧ (s.portServe m b r ecc).2.write = r.write ∧
      (s.portServe m b r ecc).2.parity = false := by
  unfold State.portServe
  dsimp only
  split
  · exact ⟨rfl, rfl, rfl⟩
  split
  · exact ⟨rfl, rfl, rfl⟩
  · exact ⟨rfl, rfl, rfl⟩

theorem portAnswer_answer (s : State) (x : PortArrival) :
    (s.portAnswer x).2.tag = (portReq x.request).tag ∧ (s.portAnswer x).2.write = (portReq x.request).write ∧
      (s.portAnswer x).2.parity = x.parityBad := by
  unfold State.portAnswer
  dsimp only
  split
  next hp => exact ⟨rfl, rfl, hp.symm⟩
  next hp =>
    obtain ⟨htag, hwrite, hparity⟩ := portServe_answer s x.mat.val (bankId (matCol x.mat.val) (portReq x.request).bank)
      (portReq x.request) x.ecc
    rw [Bool.not_eq_true] at hp
    rw [hp]
    split
    · exact ⟨htag, hwrite, hparity⟩
    · exact ⟨htag, hwrite, hparity⟩

theorem portAnswer_resp (s : State) (x : PortArrival) : (s.portAnswer x).1.mem.resp = s.mem.resp := by
  have hc : bankCol (s.serving (bankId (matCol x.mat.val) (arrivalBank x))) < 256 := by
    rw [bankCol_serving s (matCol_lt _) (arrivalBank_lt x)]
    exact matCol_lt _
  have hparity (t : State) (response : Bool) :
      (t.portParity x.mat.val (portReq x.request).bank response).mem = t.mem :=
    (portParity_fr t _ _ _).mem_eq (by decide) (by decide)
  have hserve := portServe_resp s hc x.mat.val (portReq x.request) x.ecc
  unfold State.portAnswer
  dsimp only
  split
  · rw [hparity]
  split
  · exact (congrArg MemState.resp (hparity _ _)).trans hserve
  · exact hserve

/-! ### A request that is taken -/

theorem portRequest_fr (s : State) (x : PortArrival) :
    Fr [.mem, .ctx, .out] [] (s.portAnswer x).1 (s.portRequest x) :=
  fr_mk (Fr.refl _ _ _) (by simp [State.portRequest, State.ackRequest, State.setPortResp, State.emit, State.setFab]) rfl

theorem portResp_portRequest (s : State) (x : PortArrival) {n j : Nat} (hj : j < 8) :
    (s.portRequest x).portResp n j =
      if (n, j) = (x.mat.val, arrivalBank x) then some (s.portAnswer x).2 else s.portResp n j := by
  have hb := arrivalBank_lt x
  unfold State.portResp
  rw [show (s.portRequest x).mem.resp = Tab.put none0 (s.portAnswer x).1.mem.resp (x.mat.val * 8 + arrivalBank x)
    (some (s.portAnswer x).2) from rfl, Tab.get_put, portAnswer_resp]
  by_cases h : (n, j) = (x.mat.val, arrivalBank x)
  · obtain ⟨rfl, rfl⟩ := Prod.mk.inj h
    simp
  · rw [if_neg h, if_neg]
    intro he
    exact h (Prod.ext (by dsimp only; omega) (by dsimp only; omega))

theorem portResp_portRequest_self (s : State) (x : PortArrival) :
    (s.portRequest x).portResp x.mat.val (arrivalBank x) = some (s.portAnswer x).2 := by
  rw [portResp_portRequest s x (arrivalBank_lt x), if_pos rfl]

theorem ackUp_portRequest (s : State) (x : PortArrival) :
    Tab.get bool0 ((s.portRequest x).fab x.mat.val).ackUp (8 + x.rq.val) = true := by
  have hfab : (s.portRequest x).fab x.mat.val = { (s.portAnswer x).1.fab x.mat.val with
      ackUp := Tab.put bool0 ((s.portAnswer x).1.fab x.mat.val).ackUp (8 + x.rq.val) true } := by
    show Tab.get fab0 (Tab.put fab0 _ _ _) _ = _
    rw [Tab.get_put, if_pos rfl]
  rw [hfab, Tab.get_put, if_pos rfl]

/-! ### The order of requests that arrive together (R110) -/

/-- RQ0 of a port before RQ1. -/
def rqOrder (l : List PortArrival) : List PortArrival :=
  l.filter (fun a => decide (a.rq = 0)) ++ l.filter (fun a => decide (a.rq ≠ 0))

/-- Reads, port A's writes, port B's writes. -/
def servedOrder (l : List PortArrival) : List PortArrival :=
  l.filter (fun a => !arrivalWrites a) ++ (l.filter (fun a => arrivalWrites a && decide (matG a.mat.val = 0)) ++
    l.filter (fun a => arrivalWrites a && decide (matG a.mat.val = 1)))

theorem portOrder_eq (l : List PortArrival) : portOrder l = servedOrder (takenOf (rqOrder l)) := rfl

theorem mem_rqOrder {l : List PortArrival} {x : PortArrival} : x ∈ rqOrder l ↔ x ∈ l := by
  simp only [rqOrder, List.mem_append, List.mem_filter, decide_eq_true_eq]
  tauto

theorem mem_servedOrder {l : List PortArrival} {x : PortArrival} : x ∈ servedOrder l ↔ x ∈ l := by
  have hg : matG x.mat.val = 0 ∨ matG x.mat.val = 1 := by unfold matG; omega
  simp only [servedOrder, List.mem_append, List.mem_filter, Bool.and_eq_true, Bool.not_eq_true', decide_eq_true_eq]
  cases arrivalWrites x <;> simp [← and_or_left, hg]

/-- A request goes to a bank of a mat. -/
def goesTo (m b : Nat) (x : PortArrival) : Bool := decide (x.mat.val = m ∧ arrivalBank x = b)

/-- Of the requests of a port to a bank one is taken. -/
theorem any_takenOf (m b : Nat) (l : List PortArrival) : (takenOf l).any (goesTo m b) = l.any (goesTo m b) := by
  induction l with
  | nil => rfl
  | cons a l ih =>
    rw [takenOf, List.any_cons, List.any_cons, List.any_filter, ← ih]
    by_cases ha : goesTo m b a = true
    · rw [ha, Bool.true_or, Bool.true_or]
    · congr 2
      funext c
      have hsame : goesTo m b c = true → ¬(c.mat = a.mat ∧ arrivalBank c = arrivalBank a) := fun hc h => by
        simp only [goesTo, decide_eq_true_eq] at hc ha
        exact ha ⟨h.1 ▸ hc.1, h.2 ▸ hc.2⟩
      cases hc : goesTo m b c
      · simp
      · simp [hsame hc]

theorem any_portOrder (m b : Nat) (l : List PortArrival) : (portOrder l).any (goesTo m b) = l.any (goesTo m b) := by
  rw [portOrder_eq, Bool.eq_iff_iff, List.any_eq_true]
  simp only [mem_servedOrder]
  rw [← List.any_eq_true, any_takenOf, List.any_eq_true, List.any_eq_true]
  simp only [mem_rqOrder]

theorem servedOrder_one (x : PortArrival) : servedOrder [x] = [x] := by
  have hg : matG x.mat.val = 0 ∨ matG x.mat.val = 1 := by unfold matG; omega
  unfold servedOrder
  cases hw : arrivalWrites x
  · simp [hw]
  · obtain hg | hg := hg <;> simp [hw, hg]

theorem portOrder_one (x : PortArrival) : portOrder [x] = [x] := by
  have hrq : rqOrder [x] = [x] := by
    by_cases h : x.rq = 0 <;> simp [rqOrder, h]
  rw [portOrder_eq, hrq]
  exact servedOrder_one x

/-- A request that is performed before another that arrives with it. -/
def GoesBefore (x y : PortArrival) : Prop :=
  (arrivalWrites x = false ∧ arrivalWrites y = true) ∨
    (arrivalWrites x = true ∧ arrivalWrites y = true ∧ matG x.mat.val = 0 ∧ matG y.mat.val = 1)

theorem servedOrder_two {x y : PortArrival} (h : GoesBefore x y) : servedOrder [x, y] = [x, y] ∧ servedOrder [y, x] = [x, y] := by
  have hg : matG y.mat.val = 0 ∨ matG y.mat.val = 1 := by unfold matG; omega
  unfold servedOrder
  obtain ⟨hx, hy⟩ | ⟨hx, hy, hgx, hgy⟩ := h
  · obtain hg | hg := hg <;> simp [hx, hy, hg]
  · simp [hx, hy, hgx, hgy]

theorem rqOrder_two (x y : PortArrival) : rqOrder [x, y] = [x, y] ∨ rqOrder [x, y] = [y, x] := by
  by_cases hx : x.rq = 0 <;> by_cases hy : y.rq = 0 <;> simp [rqOrder, hx, hy]

theorem takenOf_two {x y : PortArrival} (h : ¬(y.mat = x.mat ∧ arrivalBank y = arrivalBank x)) : takenOf [x, y] = [x, y] := by
  simp [takenOf, not_and_or.mp h]

theorem portOrder_two {x y : PortArrival} (hkey : ¬(y.mat = x.mat ∧ arrivalBank y = arrivalBank x)) (h : GoesBefore x y) :
    portOrder [x, y] = [x, y] ∧ portOrder [y, x] = [x, y] := by
  have hkey' : ¬(x.mat = y.mat ∧ arrivalBank x = arrivalBank y) := fun he => hkey ⟨he.1.symm, he.2.symm⟩
  have hserved := servedOrder_two h
  rw [portOrder_eq, portOrder_eq]
  constructor
  · obtain hrq | hrq := rqOrder_two x y <;> rw [hrq]
    · rw [takenOf_two hkey, hserved.1]
    · rw [takenOf_two hkey', hserved.2]
  · obtain hrq | hrq := rqOrder_two y x <;> rw [hrq]
    · rw [takenOf_two hkey', hserved.2]
    · rw [takenOf_two hkey, hserved.1]

/-- RQ1 of a port is not taken beside RQ0 to the same bank. -/
theorem portOrder_same {x y : PortArrival} (hm : y.mat = x.mat) (hb : arrivalBank y = arrivalBank x) (hx : x.rq = 0)
    (hy : y.rq = 1) : portOrder [x, y] = [x] ∧ portOrder [y, x] = [x] := by
  have htaken : takenOf [x, y] = [x] := by simp [takenOf, hm, hb]
  have h1 : rqOrder [x, y] = [x, y] := by simp [rqOrder, hx, hy]
  have h2 : rqOrder [y, x] = [x, y] := by simp [rqOrder, hx, hy]
  rw [portOrder_eq, portOrder_eq, h1, h2, htaken, servedOrder_one]
  exact ⟨rfl, rfl⟩

/-! ### Requests that arrive together -/

theorem exec_mportRequest (s : State) (x : PortArrival) (l : List PortArrival) : exec (.mportRequest x l) s =
    .next ((portOrder ((x :: l.filter (fun a => decide (matCol a.mat.val = matCol x.mat.val))).filter
      s.takesRequest)).foldl State.portRequest s) := rfl

theorem exec_mportRequest_refused {s : State} {x : PortArrival} (h : s.takesRequest x = false) :
    exec (.mportRequest x []) s = .next s := by
  rw [exec_mportRequest, List.filter_nil, List.filter_cons_of_neg (by simp [h])]
  rfl

theorem exec_mportRequest_one {s : State} {x : PortArrival} (h : s.takesRequest x = true) :
    exec (.mportRequest x []) s = .next (s.portRequest x) := by
  rw [exec_mportRequest, List.filter_nil, List.filter_cons_of_pos h, List.filter_nil, portOrder_one]
  rfl

theorem exec_mportRequest_two {s : State} {x y : PortArrival} (hcol : matCol y.mat.val = matCol x.mat.val)
    (hx : s.takesRequest x = true) (hy : s.takesRequest y = true) :
    exec (.mportRequest x [y]) s = .next ((portOrder [x, y]).foldl State.portRequest s) := by
  rw [exec_mportRequest]
  simp [hcol, hx, hy]

theorem takesRequest_congr {s : State} {x y : PortArrival} (hm : y.mat = x.mat) (hb : arrivalBank y = arrivalBank x) :
    s.takesRequest y = s.takesRequest x := by
  unfold State.takesRequest
  rw [hm, hb]

/-- A response is kept for each request performed, and for none else. -/
theorem portResp_foldl {m b : Nat} (hb : b < 8) (l : List PortArrival) (s : State) :
    ((l.foldl State.portRequest s).portResp m b).isSome = ((s.portResp m b).isSome || l.any (goesTo m b)) := by
  induction l generalizing s with
  | nil => simp
  | cons x l ih =>
    rw [List.foldl_cons, ih, portResp_portRequest s x hb, List.any_cons]
    by_cases h : x.mat.val = m ∧ arrivalBank x = b
    · obtain ⟨rfl, rfl⟩ := h
      simp [goesTo]
    · have hne : (m, b) ≠ (x.mat.val, arrivalBank x) := fun he => h ⟨(Prod.mk.inj he).1.symm, (Prod.mk.inj he).2.symm⟩
      rw [if_neg hne]
      simp [goesTo, h]

theorem responses_kept (s : State) (x : PortArrival) (l : List PortArrival) : ∃ t, exec (.mportRequest x l) s = .next t ∧
    ∀ m b, b < 8 → (t.portResp m b).isSome = ((s.portResp m b).isSome ||
      (x :: l).any (fun y => decide (matCol y.mat.val = matCol x.mat.val ∧ y.mat.val = m ∧ arrivalBank y = b) &&
        s.takesRequest y)) := by
  refine ⟨_, exec_mportRequest s x l, fun m b hb => ?_⟩
  rw [portResp_foldl hb, any_portOrder, List.any_filter]
  congr 1
  rw [List.any_cons, List.any_cons, List.any_filter]
  congr 1
  · simp [goesTo, Bool.and_comm]
  · congr 1
    funext y
    rw [Bool.eq_iff_iff]
    simp only [goesTo, Bool.and_eq_true, decide_eq_true_eq]
    tauto

section

variable (s : State) (x : PortArrival) {r : PortReq} {b p : Nat}

/-- A request whose crossing failed is not performed (R99). -/
theorem portAnswer_of_parity (h : x.parityBad = true) : s.portAnswer x =
    (s.portParity x.mat.val (portReq x.request).bank false,
      ⟨0, (portReq x.request).write, false, true, true, (portReq x.request).tag⟩) := by
  unfold State.portAnswer
  dsimp only
  rw [if_pos h]

theorem portAnswer_of_clean (hr : r = portReq x.request) (hb : b = bankId (matCol x.mat.val) r.bank)
    (hpar : x.parityBad = false) (hresp : x.respParityBad = false) : s.portAnswer x = s.portServe x.mat.val b r x.ecc := by
  subst hr hb
  unfold State.portAnswer
  dsimp only
  rw [if_neg (by simp [hpar]), if_neg (by simp [hresp])]

/-- A response whose crossing failed has been performed (R99). -/
theorem portAnswer_of_respParity (hpar : x.parityBad = false) (hresp : x.respParityBad = true) : s.portAnswer x =
    ((s.portAnswer { x with respParityBad := false }).1.portParity x.mat.val (portReq x.request).bank true,
      { (s.portAnswer { x with respParityBad := false }).2 with
        uncorr := (s.portAnswer { x with respParityBad := false }).2.uncorr || !(portReq x.request).write }) := by
  rw [portAnswer_of_clean s { x with respParityBad := false } rfl rfl hpar rfl]
  unfold State.portAnswer
  dsimp only
  rw [if_neg (by simp [hpar]), if_pos hresp]

theorem portServe_lost (s : State) {m b : Nat} {r : PortReq} {ecc : Ecc} (h : s.fenced b r.word = true ∨ s.bankRetired b = true) :
    s.portServe m b r ecc = (s, ⟨0, r.write, false, true, false, r.tag⟩) := by
  unfold State.portServe
  dsimp only
  rw [if_pos h]

theorem portServe_read (s : State) {m b : Nat} {r : PortReq} {ecc : Ecc} (hf : s.fenced b r.word = false)
    (hr : s.bankRetired b = false) (hw : r.write = false) :
    s.portServe m b r ecc = ((s.portRead m b r.word ecc).1, ⟨(s.portRead m b r.word ecc).2.1, r.write,
      (s.portRead m b r.word ecc).2.2.1, (s.portRead m b r.word ecc).2.2.2, false, r.tag⟩) := by
  unfold State.portServe
  dsimp only
  rw [if_neg (by simp [hf, hr]), if_neg (by simp [hw])]

theorem portServe_write (s : State) {m b : Nat} {r : PortReq} {ecc : Ecc} (hf : s.fenced b r.word = false)
    (hr : s.bankRetired b = false) (hw : r.write = true) :
    s.portServe m b r ecc = ((s.portWrite m b r.word r.be r.wdata ecc).1,
      ⟨0, r.write, false, !(s.portWrite m b r.word r.be r.wdata ecc).2, false, r.tag⟩) := by
  unfold State.portServe
  dsimp only
  rw [if_neg (by simp [hf, hr]), if_pos hw]

/-- A request that the bank answers without any other effect. -/
theorem portRequest_quiet {a : MResp} (h : s.portAnswer x = (s, a)) :
    (s.portAnswer x).1.out = s.out ∧ Framed [.mem, .ctx, .out] [] s (s.portRequest x) := by
  have hfr := (portRequest_fr s x).frame
  rw [h] at hfr
  exact ⟨by rw [h], hfr⟩

theorem word_portRequest (c w : Nat) : (s.portRequest x).word c w = (s.portAnswer x).1.word c w := rfl

theorem rd_portRequest (k : Nat) : (s.portRequest x).rd k = (s.portAnswer x).1.rd k := rfl

/-- A read is answered with the word, CORR or UNCORR (R109, R112). -/
theorem portRequest_reads (hans : s.portAnswer x = s.portServe x.mat.val b r x.ecc) (hb8 : bankCol p < 256) (hword : r.word < 8192)
    (hp : p = s.serving b) (hf : s.fenced b r.word = false) (hr : s.bankRetired b = false) (hw : r.write = false) :
    ((s.word p r.word).poison = true → (s.portAnswer x).2.rdata = (s.word p r.word).data ∧ (s.portAnswer x).2.uncorr = true ∧
      (s.portAnswer x).2.corr = false ∧ (s.portAnswer x).1.out = s.out ∧
      Framed [.mem, .ctx, .out] [] s (s.portRequest x)) ∧
    ((s.word p r.word).poison = false → x.ecc = .clean → (s.portAnswer x).2.rdata = (s.word p r.word).data ∧
      (s.portAnswer x).2.uncorr = false ∧ (s.portAnswer x).2.corr = false ∧ (s.portAnswer x).1.out = s.out ∧
      Framed [.mem, .ctx, .out] [] s (s.portRequest x)) ∧
    (∀ e, (s.word p r.word).poison = false → x.ecc = .ce e → (s.portAnswer x).2.rdata = (s.word p r.word).data ∧
      (s.portAnswer x).2.uncorr = false ∧ (s.portAnswer x).2.corr = true ∧ (s.portAnswer x).1.out = s.out ∧
      Tab.get nil0 (s.portRequest x).col.reread (matCol x.mat.val) =
        Tab.get nil0 s.col.reread (matCol x.mat.val) ++ [(x.mat.val, bankIdx b, r.word)] ∧
      Framed [.mem, .ctx, .col, .out] [] s (s.portRequest x)) ∧
    (∀ v e, (s.word p r.word).poison = false → x.ecc = .ue v e → (s.portAnswer x).2.rdata = v ∧
      (s.portAnswer x).2.uncorr = true ∧ (s.portAnswer x).2.corr = false ∧
      (s.portRequest x).word p r.word = { data := v, syn := e, poison := true } ∧
      (∀ c w, w < 8192 → (c, w) ≠ (p, r.word) → (s.portRequest x).word c w = s.word c w) ∧
      ((s.portRequest x).rd (COL_BANK_UES (bankCol p) (bankIdx p))).toNat =
        min 0xFFFFFFFF ((s.rd (COL_BANK_UES (bankCol p) (bankIdx p))).toNat + 1)) := by
  subst hp
  rw [portServe_read s hf hr hw] at hans
  refine ⟨fun hpoison => ?_, fun hpoison hecc => ?_, fun e hpoison hecc => ?_, fun v e hpoison hecc => ?_⟩
  · have hread : s.portRead x.mat.val b r.word x.ecc = (s, (s.word (s.serving b) r.word).data, false, true) := by
      simp [State.portRead, hpoison]
    rw [hread] at hans
    obtain ⟨hout, hframe⟩ := portRequest_quiet s x hans
    exact ⟨by rw [hans], by rw [hans], by rw [hans], hout, hframe⟩
  · have hread : s.portRead x.mat.val b r.word x.ecc = (s, (s.word (s.serving b) r.word).data, false, false) := by
      simp [State.portRead, hpoison, hecc]
    rw [hread] at hans
    obtain ⟨hout, hframe⟩ := portRequest_quiet s x hans
    exact ⟨by rw [hans], by rw [hans], by rw [hans], hout, hframe⟩
  · have hread : s.portRead x.mat.val b r.word x.ecc = ({ s with col := { s.col with
        reread := Tab.put nil0 s.col.reread (matCol x.mat.val)
          (Tab.get nil0 s.col.reread (matCol x.mat.val) ++ [(x.mat.val, bankIdx b, r.word)]) } },
        (s.word (s.serving b) r.word).data, true, false) := by
      simp [State.portRead, hpoison, hecc]
    rw [hread] at hans
    have hfr := portRequest_fr s x
    have hcol : (s.portRequest x).col = (s.portAnswer x).1.col := rfl
    rw [hans] at hfr hcol ⊢
    refine ⟨rfl, rfl, rfl, rfl, ?_, ((fr_col (Fr.refl _ _ s) (by simp) _).trans (hfr.mono (by simp) (by simp))).frame⟩
    rw [hcol]
    exact (Tab.get_put ..).trans (if_pos rfl)
  · have hread : s.portRead x.mat.val b r.word x.ecc =
        (s.foundUE (s.serving b) r.word v e.toNat (matG x.mat.val), v, false, true) := by
      simp [State.portRead, hpoison, hecc]
    rw [hread] at hans
    have hmem (c w : Nat) : (s.portRequest x).word c w =
        (s.putWord (s.serving b) r.word { data := v, syn := e, poison := true }).word c w := by
      rw [word_portRequest, hans]
      unfold State.word
      rw [foundUE_mem s hb8]
      simp
    refine ⟨by rw [hans], by rw [hans], by rw [hans], ?_, fun c w hcw hne => ?_, ?_⟩
    · rw [hmem, word_putWord s hword hword, if_pos rfl]
    · rw [hmem, word_putWord s hword hcw, if_neg hne]
    · rw [rd_portRequest, hans]
      exact rd_foundUE s hb8 _ _ _ _

theorem wrote_portRequest {w : Nat} {v : Word} (h : (s.portAnswer x).1 = s.writeBank b w (wordOf v)) (hword : w < 8192) :
    Wrote { s with mem := { s.mem with resp := (s.portRequest x).mem.resp } } (s.portRequest x) b w v where
  written c hc := by
    have hmem : (c.1, c.2) ∈ s.copiesOf b w := hc
    rw [word_portRequest, h, word_writeBank s hword (by rw [copiesOf_addr hmem]; exact hword), if_pos hmem]
  kept c a ha hc := by
    have hmem : (c, a) ∉ s.copiesOf b w := hc
    rw [word_portRequest, h, word_writeBank s hword ha, if_neg hmem]
    rfl
  noted := by
    show (s.portAnswer x).1.mem.mirrored = _
    rw [h, writeBank_mem]
    rfl
  rest := rfl

theorem portRequest_wrote {w : Nat} {v : Word} {a : MResp} (h : s.portAnswer x = (s.writeBank b w (wordOf v), a))
    (hword : w < 8192) :
    Wrote { s with mem := { s.mem with resp := (s.portRequest x).mem.resp } } (s.portRequest x) b w v ∧
      (s.portAnswer x).1.out = s.out ∧ Framed [.mem, .words, .ctx, .out] [] s (s.portRequest x) := by
  have hfr := portRequest_fr s x
  have hbank := writeBank_fr s b w (wordOf v)
  refine ⟨wrote_portRequest s x (by rw [h]) hword, ?_, ?_⟩
  · rw [h]
    exact hbank.frame.part .out (by simp)
  · rw [h] at hfr
    exact ((hbank.mono (by simp) (by simp)).trans (hfr.mono (by simp) (by simp))).frame

/-- A write lands where the bank is served; a partial one merges, and is not performed on a poisoned word (R108, R112). -/
theorem portRequest_writes (hans : s.portAnswer x = s.portServe x.mat.val b r x.ecc) (hb8 : bankCol p < 256) (hword : r.word < 8192)
    (hp : p = s.serving b) (hf : s.fenced b r.word = false) (hr : s.bankRetired b = false) (hw : r.write = true) :
    (r.be = 255 → (s.portAnswer x).2.uncorr = false ∧
      Wrote { s with mem := { s.mem with resp := (s.portRequest x).mem.resp } } (s.portRequest x) b r.word r.wdata ∧
      (s.portAnswer x).1.out = s.out ∧ Framed [.mem, .words, .ctx, .out] [] s (s.portRequest x)) ∧
    (r.be ≠ 255 → (s.word p r.word).poison = true → (s.portAnswer x).2.uncorr = true ∧ (s.portAnswer x).1.out = s.out ∧
      Framed [.mem, .ctx, .out] [] s (s.portRequest x)) ∧
    (r.be ≠ 255 → (s.word p r.word).poison = false → x.ecc = .clean → (s.portAnswer x).2.uncorr = false ∧
      Wrote { s with mem := { s.mem with resp := (s.portRequest x).mem.resp } } (s.portRequest x) b r.word
        (mergeBytes r.be (s.word p r.word).data r.wdata) ∧
      (s.portAnswer x).1.out = s.out ∧ Framed [.mem, .words, .ctx, .out] [] s (s.portRequest x)) ∧
    (∀ e, r.be ≠ 255 → (s.word p r.word).poison = false → x.ecc = .ce e → (s.portAnswer x).2.uncorr = false ∧
      (∀ d ∈ s.copiesOf b r.word, (s.portRequest x).word d.1 d.2 =
        wordOf (mergeBytes r.be (s.word p r.word).data r.wdata)) ∧
      ((s.portRequest x).rd (COL_BANK_CES (bankCol p) (bankIdx p))).toNat =
        min 0xFFFFFFFF ((s.rd (COL_BANK_CES (bankCol p) (bankIdx p))).toNat + 1)) ∧
    (∀ v e, r.be ≠ 255 → (s.word p r.word).poison = false → x.ecc = .ue v e → (s.portAnswer x).2.uncorr = true ∧
      (s.portRequest x).word p r.word = { data := v, syn := e, poison := true }) := by
  subst hp
  rw [portServe_write s hf hr hw] at hans
  refine ⟨fun hbe => ?_, fun hbe hpoison => ?_, fun hbe hpoison hecc => ?_, fun e hbe hpoison hecc => ?_,
    fun v e hbe hpoison hecc => ?_⟩
  · have hwrite : s.portWrite x.mat.val b r.word r.be r.wdata x.ecc = (s.writeBank b r.word (wordOf r.wdata), true) := by
      simp [State.portWrite, hbe, wordOf]
    rw [hwrite] at hans
    exact ⟨by rw [hans]; rfl, portRequest_wrote s x hans hword⟩
  · have hwrite : s.portWrite x.mat.val b r.word r.be r.wdata x.ecc = (s, false) := by
      simp [State.portWrite, hbe, State.readBank, hpoison]
    rw [hwrite] at hans
    exact ⟨by rw [hans]; rfl, portRequest_quiet s x hans⟩
  · have hwrite : s.portWrite x.mat.val b r.word r.be r.wdata x.ecc =
        (s.writeBank b r.word (wordOf (mergeBytes r.be (s.word (s.serving b) r.word).data r.wdata)), true) := by
      simp [State.portWrite, hbe, State.readBank, hpoison, hecc, wordOf]
    rw [hwrite] at hans
    exact ⟨by rw [hans]; rfl, portRequest_wrote s x hans hword⟩
  · have hwrite : s.portWrite x.mat.val b r.word r.be r.wdata x.ecc = ((s.foundCE (s.serving b) r.word e.toNat).writeBank b r.word
        (wordOf (mergeBytes r.be (s.word (s.serving b) r.word).data r.wdata)), true) := by
      simp [State.portWrite, hbe, State.readBank, hpoison, hecc, wordOf]
    rw [hwrite] at hans
    have hcopies : (s.foundCE (s.serving b) r.word e.toNat).copiesOf b r.word = s.copiesOf b r.word :=
      copiesOf_fr (foundCE_fr s _ _ _) (fun c i h => bankStatus_not_error c i (s.serving b)
        (by simp_all [bankErrorKeys, COL_BANK_LAST_WORD]; tauto)) (by simp) b r.word
    refine ⟨by rw [hans]; rfl, fun d hd => ?_, ?_⟩
    · rw [word_portRequest, hans, word_writeBank _ hword (by rw [copiesOf_addr hd]; exact hword), hcopies, if_pos hd]
    · rw [rd_portRequest, hans, (writeBank_fr _ b _ _).frame.reg _ (by simp)]
      exact rd_foundCE s _ _ _
  · have hwrite : s.portWrite x.mat.val b r.word r.be r.wdata x.ecc =
        (s.foundUE (s.serving b) r.word v e.toNat (matG x.mat.val), false) := by
      simp [State.portWrite, hbe, State.readBank, hpoison, hecc]
    rw [hwrite] at hans
    refine ⟨by rw [hans]; rfl, ?_⟩
    have hmem : (s.portRequest x).word (s.serving b) r.word =
        (s.putWord (s.serving b) r.word { data := v, syn := e, poison := true }).word (s.serving b) r.word := by
      rw [word_portRequest, hans]
      unfold State.word
      rw [foundUE_mem s hb8]
      simp
    rw [hmem, word_putWord s hword hword, if_pos rfl]

end

/-! ### Acknowledges and re-reads -/

theorem responseAcked (s : State) (m : MatId) (b : Fin 8) :
    ∃ t, exec (.mportResponseAck m b) s = .next t ∧ t.portResp m.val b.val = none ∧
      (∀ n j, j < 8 → (n, j) ≠ (m.val, b.val) → t.portResp n j = s.portResp n j) ∧ Framed [.mem] [] s t := by
  refine ⟨s.setPortResp m.val b.val none, rfl, ?_, fun n j hj hne => ?_, ?_⟩
  · simp [State.portResp, State.setPortResp]
  · unfold State.portResp State.setPortResp
    rw [Tab.get_put, if_neg]
    intro he
    exact hne (Prod.ext (by dsimp only; omega) (by dsimp only; omega))
  · exact (fr_mk (t := s.setPortResp m.val b.val none) (Fr.refl _ _ s) (by simp) rfl).frame

/-- A re-read takes its entry off the list. -/
def State.rereadTaken (s : State) (m b w : Nat) : State :=
  { s with col := { s.col with
      reread := Tab.put nil0 s.col.reread (matCol m) ((Tab.get nil0 s.col.reread (matCol m)).erase (m, b, w)) } }

theorem rereadTaken_fr (s : State) (m b w : Nat) : Fr [.col] [] s (s.rereadTaken m b w) := fr_col (Fr.refl _ _ s) (by simp) _

theorem reread_rereadTaken (s : State) (m b w : Nat) : Tab.get nil0 (s.rereadTaken m b w).col.reread (matCol m) =
    (Tab.get nil0 s.col.reread (matCol m)).erase (m, b, w) := by
  simp [State.rereadTaken]

/-- A clean re-read: the corrected error was the port's. -/
def State.rereadClean (s : State) (m : Nat) : State :=
  (if matG m = 0 then s.count (COL_MPORT_CESA (matCol m)) (COL_RHZ_SAT_MPORT_CESA (matCol m)) 1
    else s.count (COL_MPORT_CESB (matCol m)) (COL_RHZ_SAT_MPORT_CESB (matCol m)) 1).soundPort (matCol m) (matG m) 3

theorem exec_ceReread_clean {s : State} {m : MatId} {b : Fin 8} {w : BitVec 13}
    (h : (m.val, b.val, w.toNat) ∈ Tab.get nil0 s.col.reread (matCol m.val)) :
    exec (.ceReread m b w none) s = .next ((s.rereadTaken m.val b.val w.toNat).rereadClean m.val) := by
  show execCeReread m b w none s = _
  unfold execCeReread
  dsimp only
  rw [if_neg (by simpa using h)]
  rfl

theorem exec_ceReread_again {s : State} {m : MatId} {b : Fin 8} {w : BitVec 13} (e : Byte)
    (h : (m.val, b.val, w.toNat) ∈ Tab.get nil0 s.col.reread (matCol m.val)) :
    exec (.ceReread m b w (some e)) s = .next ((s.rereadTaken m.val b.val w.toNat).foundCE
      ((s.rereadTaken m.val b.val w.toNat).serving (bankId (matCol m.val) b.val)) w.toNat e.toNat) := by
  show execCeReread m b w (some e) s = _
  unfold execCeReread
  dsimp only
  rw [if_neg (by simpa using h)]
  rfl

theorem exec_ceReread_unknown {s : State} {m : MatId} {b : Fin 8} {w : BitVec 13} (e : Option Byte)
    (h : (m.val, b.val, w.toNat) ∉ Tab.get nil0 s.col.reread (matCol m.val)) :
    exec (.ceReread m b w e) s = .next s := by
  show execCeReread m b w e s = _
  unfold execCeReread
  dsimp only
  rw [if_pos h]

theorem rereadClean_fr (s : State) (m : Nat) : Fr [.col]
    [COL_MPORT_CESA (matCol m), COL_MPORT_CESB (matCol m), COL_RHZ_SAT (matCol m)] s (s.rereadClean m) := by
  unfold State.rereadClean
  refine Fr.trans ?_ ((soundPort_fr _ _ _ _).mono (by simp) (by simp))
  exact fr_ite (fr_count (Fr.refl _ _ s) (by simp) (by simp [COL_RHZ_SAT_MPORT_CESA]) 1)
    (fr_count (Fr.refl _ _ s) (by simp) (by simp [COL_RHZ_SAT_MPORT_CESB]) 1)

theorem rereadClean_reread (s : State) (m : Nat) : (s.rereadClean m).col.reread = s.col.reread := by
  unfold State.rereadClean
  rw [soundPort_col]
  split <;> simp

theorem rereadClean_counted (s : State) (m : Nat) :
    (matG m = 0 → ((s.rereadClean m).rd (COL_MPORT_CESA (matCol m))).toNat =
      min 0xFFFFFFFF ((s.rd (COL_MPORT_CESA (matCol m))).toNat + 1)) ∧
    (matG m = 1 → ((s.rereadClean m).rd (COL_MPORT_CESB (matCol m))).toNat =
      min 0xFFFFFFFF ((s.rd (COL_MPORT_CESB (matCol m))).toNat + 1)) := by
  unfold State.rereadClean
  constructor
  · intro hg
    rw [(soundPort_fr _ _ _ _).frame.reg _ (by simp), if_pos hg]
    exact rd_count _ _ _ (by simp [COL_RHZ_SAT_MPORT_CESA, COL_RHZ_SAT, COL_MPORT_CESA]) (by decide)
  · intro hg
    rw [(soundPort_fr _ _ _ _).frame.reg _ (by simp), if_neg (by omega)]
    exact rd_count _ _ _ (by simp [COL_RHZ_SAT_MPORT_CESB, COL_RHZ_SAT, COL_MPORT_CESB]) (by decide)

/-- COL_BANK_LAST after a correctable error. -/
theorem foundCE_last (s : State) (b : Nat) (w : BitVec 13) (e : Byte) :
    (s.foundCE b w.toNat e.toNat).get (COL_BANK_LAST_WORD (bankCol b) (bankIdx b)) = w.toNat ∧
      (s.foundCE b w.toNat e.toNat).get (COL_BANK_LAST_SYNDROME (bankCol b) (bankIdx b)) = e.toNat := by
  have hw := w.isLt
  have he := e.isLt
  unfold State.foundCE State.lastError
  constructor
  · rw [State.get_set_apart _ (by simp [fldsApart, COL_BANK_LAST_WORD, COL_BANK_LAST_SYNDROME]),
      State.get_setFlag_apart _ (by simp [fldsApart, COL_BANK_LAST_WORD, COL_BANK_LAST_UE]),
      State.get_set_self _ _ (by simp [COL_BANK_LAST_WORD])]
    exact Nat.mod_eq_of_lt hw
  · rw [State.get_set_self _ _ (by simp [COL_BANK_LAST_SYNDROME])]
    exact Nat.mod_eq_of_lt he

theorem rereads (s : State) (m : MatId) (b : Fin 8) (w : BitVec 13) (p : Nat)
    (hp : p = s.serving (bankId (matCol m.val) b.val))
    (h : (m.val, b.val, w.toNat) ∈ Tab.get nil0 s.col.reread (matCol m.val)) :
    (∃ t, exec (.ceReread m b w none) s = .next t ∧
      Tab.get nil0 t.col.reread (matCol m.val) = (Tab.get nil0 s.col.reread (matCol m.val)).erase (m.val, b.val, w.toNat) ∧
      (matG m.val = 0 → (t.rd (COL_MPORT_CESA (matCol m.val))).toNat =
        min 0xFFFFFFFF ((s.rd (COL_MPORT_CESA (matCol m.val))).toNat + 1)) ∧
      (matG m.val = 1 → (t.rd (COL_MPORT_CESB (matCol m.val))).toNat =
        min 0xFFFFFFFF ((s.rd (COL_MPORT_CESB (matCol m.val))).toNat + 1)) ∧
      (∀ k, k < 56 → groupUse (matCol m.val) (1 + matG m.val) k = 1 → aheadOf t (matCol m.val) (1 + matG m.val) k = 3) ∧
      Framed [.col] [COL_MPORT_CESA (matCol m.val), COL_MPORT_CESB (matCol m.val), COL_RHZ_SAT (matCol m.val)] s t) ∧
    (∀ e : Byte, ∃ t, exec (.ceReread m b w (some e)) s = .next t ∧
      Tab.get nil0 t.col.reread (matCol m.val) = (Tab.get nil0 s.col.reread (matCol m.val)).erase (m.val, b.val, w.toNat) ∧
      (t.rd (COL_BANK_CES (bankCol p) (bankIdx p))).toNat =
        min 0xFFFFFFFF ((s.rd (COL_BANK_CES (bankCol p) (bankIdx p))).toNat + 1) ∧
      t.get (COL_BANK_LAST_WORD (bankCol p) (bankIdx p)) = w.toNat ∧
      t.get (COL_BANK_LAST_SYNDROME (bankCol p) (bankIdx p)) = e.toNat ∧
      Framed [.col] [COL_BANK_CES (bankCol p) (bankIdx p), COL_BANK_SAT (bankCol p),
        (COL_BANK_LAST_WORD (bankCol p) (bankIdx p)).reg] s t) := by
  have htaken := rereadTaken_fr s m.val b.val w.toNat
  have herased := reread_rereadTaken s m.val b.val w.toNat
  refine ⟨⟨_, exec_ceReread_clean h, ?_, ?_, ?_, fun k hk huse => aheadOf_soundPort 3 hk huse _, ?_⟩,
    fun e => ⟨_, exec_ceReread_again e h, ?_⟩⟩
  · rw [rereadClean_reread, herased]
  · exact (rereadClean_counted (s.rereadTaken m.val b.val w.toNat) m.val).1
  · exact (rereadClean_counted (s.rereadTaken m.val b.val w.toNat) m.val).2
  · exact ((htaken.mono (by simp) (by simp)).trans (rereadClean_fr _ m.val)).frame
  · have hserving : (s.rereadTaken m.val b.val w.toNat).serving (bankId (matCol m.val) b.val) = p := hp ▸ rfl
    have hfound := foundCE_fr (s.rereadTaken m.val b.val w.toNat) p w.toNat e.toNat
    have hcol : ((s.rereadTaken m.val b.val w.toNat).foundCE p w.toNat e.toNat).col = (s.rereadTaken m.val b.val w.toNat).col :=
      hfound.frame.part .col (by simp)
    obtain ⟨hword, hsyndrome⟩ := foundCE_last (s.rereadTaken m.val b.val w.toNat) p w e
    rw [hserving]
    exact ⟨by rw [hcol, herased], rd_foundCE _ p _ _, hword, hsyndrome,
      ((htaken.mono (by simp) (by simp)).trans (hfound.mono (by simp) (by simp))).frame⟩

end Sys2Proof.Machine
end

section
/-! PROOF.  Memory ports (R108 to R112). -/

namespace Sys2Proof.Machine

open Sys2Proof

theorem bankIdx_bankId {c b : Nat} (hc : c < 256) (hb : b < 8) : bankIdx (bankId c b) = b := by
  unfold bankId bankIdx
  rw [if_pos hb, if_pos (by omega)]
  omega

/-- A parity error on a request's crossing: nothing is performed, the error is counted, and the port's groups are to be sounded. -/
theorem portRequest_parity (s : State) (x : PortArrival) (h : x.parityBad = true) :
    (s.portAnswer x).2.uncorr = true ∧ (s.portAnswer x).2.rdata = 0 ∧ (s.portAnswer x).2.corr = false ∧
      (s.portRequest x).mem.words = s.mem.words ∧
      (matG x.mat.val = 0 → ((s.portRequest x).rd (COL_MPORT_PARA (matCol x.mat.val))).toNat =
        min 0xFFFFFFFF ((s.rd (COL_MPORT_PARA (matCol x.mat.val))).toNat + 1)) ∧
      (matG x.mat.val = 1 → ((s.portRequest x).rd (COL_MPORT_PARB (matCol x.mat.val))).toNat =
        min 0xFFFFFFFF ((s.rd (COL_MPORT_PARB (matCol x.mat.val))).toNat + 1)) ∧
      (∀ k, k < 56 → groupUse (matCol x.mat.val) (1 + matG x.mat.val) k = 1 →
        aheadOf (s.portRequest x) (matCol x.mat.val) (1 + matG x.mat.val) k = 2) := by
  have hans := portAnswer_of_parity s x h
  obtain ⟨hpara, hparb⟩ := portParity_counted s x.mat.val (portReq x.request).bank false
  have hwords : (s.portRequest x).mem.words = (s.portAnswer x).1.mem.words := rfl
  have hahead (k : Nat) : aheadOf (s.portRequest x) (matCol x.mat.val) (1 + matG x.mat.val) k =
    aheadOf (s.portAnswer x).1 (matCol x.mat.val) (1 + matG x.mat.val) k := rfl
  refine ⟨by rw [hans], by rw [hans], by rw [hans], ?_, ?_, ?_, fun k hk huse => ?_⟩
  · rw [hwords, hans]
    exact (portParity_fr s _ _ false).frame.part .words (by decide)
  · rwa [rd_portRequest, hans]
  · rwa [rd_portRequest, hans]
  · rw [hahead, hans]
    exact aheadOf_portParity s _ false hk huse

/-- A parity error on the response's crossing: the request has been performed all the same. -/
theorem portRequest_respParity (s u : State) (x : PortArrival) (y : MResp) (hpar : x.parityBad = false)
    (hresp : x.respParityBad = true) (hu : s.portRequest { x with respParityBad := false } = u)
    (hy : u.portResp x.mat.val (portReq x.request).bank = some y) :
    (s.portAnswer x).2 = { y with uncorr := y.uncorr || !(portReq x.request).write } ∧
      (s.portRequest x).mem.words = u.mem.words := by
  have hans := portAnswer_of_respParity s x hpar hresp
  have hkept := portResp_portRequest_self s { x with respParityBad := false }
  rw [hu] at hkept
  have hanswer : (s.portAnswer { x with respParityBad := false }).2 = y := Option.some.inj (hkept.symm.trans hy)
  refine ⟨by rw [hans, hanswer], ?_⟩
  have hwords : (s.portRequest x).mem.words = (s.portAnswer x).1.mem.words := rfl
  rw [hwords, hans, ← hu]
  exact (portParity_fr _ _ _ true).frame.part .words (by decide)

/-- Settles O39: what a request's answer holds and changes follows the answer's clauses (parity, the bank lost, reads, writes), the
order of requests that arrive together is that of `portOrder`, and a response is kept under the mat's and bank's key. -/
theorem memoryPortsComplete : Obligations.MemoryPortsComplete := by
  refine ⟨fun s x r b p hr hb hp => ⟨fun h => exec_mportRequest_refused h, fun htakes => ?_⟩, ?_, ?_, responses_kept,
    responseAcked, fun s m b w p hp => ⟨rereads s m b w p hp, fun h e => exec_ceReread_unknown e h⟩⟩
  · have hbank : r.bank = arrivalBank x := by rw [hr]; rfl
    have hb8 : bankCol p < 256 := by
      rw [hp, hb, hbank, bankCol_serving s (matCol_lt _) (arrivalBank_lt x)]
      exact matCol_lt _
    have hword : r.word < 8192 := hr ▸ portWord_lt x.request
    obtain ⟨htag, hwrite, hparity⟩ := portAnswer_answer s x
    have hkept (n j : Nat) (hj : j < 8) := portResp_portRequest s x (n := n) hj
    refine ⟨_, (s.portAnswer x).2, (s.portAnswer x).1.out, exec_mportRequest_one htakes, ?_, hr ▸ htag, hr ▸ hwrite, hparity, ?_,
      ackUp_portRequest s x, by rw [hbank]; rfl, portRequest_parity s x, fun hpar hresp => ?_, ?_⟩
    · rw [hbank, portResp_portRequest_self]
    · intro n j hj hne
      rw [hkept n j hj, if_neg (hbank ▸ hne)]
    · have hans := portAnswer_of_clean s x hr hb hpar hresp
      refine ⟨fun hlost => ?_, fun hf hret hw => ?_, fun hf hret hw => portRequest_writes s x hans hb8 hword hp hf hret hw⟩
      · rw [portServe_lost s hlost] at hans
        exact ⟨by rw [hans], by rw [hans], portRequest_quiet s x hans⟩
      · have hreads := portRequest_reads s x hans hb8 hword hp hf hret hw
        rwa [hb, hbank, bankIdx_bankId (matCol_lt _) (arrivalBank_lt x), ← hbank] at hreads
    · intro u y hpar hresp hu hy
      have htakes' : s.takesRequest { x with respParityBad := false } = true := htakes
      rw [exec_mportRequest_one htakes'] at hu
      subst hr
      exact portRequest_respParity s u x y hpar hresp (Host.Outcome.next.inj hu) hy
  · intro s x y hkey hcol hx hy hbefore u hu huy
    obtain ⟨hxy, hyx⟩ := portOrder_two hkey hbefore
    rw [exec_mportRequest_one hx] at hu
    rw [exec_mportRequest_two hcol hx hy, exec_mportRequest_two hcol.symm hy hx, exec_mportRequest_one huy, hxy, hyx,
      ← Host.Outcome.next.inj hu]
    exact ⟨rfl, rfl⟩
  · intro s x y hm hb hxrq hyrq hx
    obtain ⟨hxy, hyx⟩ := portOrder_same hm hb hxrq hyrq
    have hy : s.takesRequest y = true := (takesRequest_congr hm hb).trans hx
    have hcol : matCol y.mat.val = matCol x.mat.val := by rw [hm]
    rw [exec_mportRequest_two hcol hx hy, exec_mportRequest_two hcol.symm hy hx, exec_mportRequest_one hx, hxy, hyx]
    exact ⟨rfl, rfl⟩

end Sys2Proof.Machine
end

section
/-! SUPPORT.  The gate's registers, and the rows of the fabric that end no swap: CLOCKED holds, MAC tiles, drained tokens and
re-tests of channels (R60, R81, R86, R90, R142). -/

namespace Sys2Proof.Machine

open Sys2Proof

theorem fr_ctx {ps : List Part} {ks : List Nat} {s0 s : State} (h : Fr ps ks s0 s) (hp : Part.ctx ∈ ps) (x : CtxState) :
    Fr ps ks s0 { s with ctx := x } := by
  have k : Fr [.ctx] ks s { s with ctx := x } := fr_mk (Fr.refl _ _ s) (by simp) rfl
  exact h.trans (k.mono (List.cons_subset.2 ⟨hp, List.nil_subset _⟩) (List.Subset.refl _))

theorem gateStatus_inj {c g d e : Nat} (hg : g < 2) (he : e < 2) (h : COL_GATE_STATUS c g = COL_GATE_STATUS d e) :
    c = d ∧ g = e := by
  unfold COL_GATE_STATUS at h
  omega

theorem mat_eq_of_place {m n : Nat} (hm : m < 512) (hn : n < 512) (hc : matCol m = matCol n) (hg : matG m = matG n) : m = n := by
  unfold matCol at hc
  unfold matG at hg
  omega

theorem matG_lt (m : Nat) : matG m < 2 := Nat.mod_lt _ (by decide)

/-! ### CLOCKED holds that meet NULL (R60) -/

theorem clockedNull_counted (s : State) (m f : Nat) :
    ((s.clockedNull m f).rd (COL_GATE_CLKNULLS (matCol m) (matG m))).toNat =
        min 0xFFFFFFFF ((s.rd (COL_GATE_CLKNULLS (matCol m) (matG m))).toNat + 1) ∧
      Framed evParts (COL_GATE_CLKNULLS (matCol m) (matG m) ::
        (COL_GATE_SAT_CLKNULLS (matCol m) (matG m)).reg :: bookKeys) s (s.clockedNull m f) := by
  unfold State.clockedNull
  constructor
  · rw [State.rd_raiseLim _ _ _ _ (not_mem_bookKeys (by unfold COL_GATE_CLKNULLS; omega))]
    exact rd_count _ _ _ (by simp only [COL_GATE_SAT_CLKNULLS, COL_GATE_SAT, COL_GATE_CLKNULLS, ne_eq]; omega) (by decide)
  · exact ((fr_count (Fr.refl _ _ s) (by simp) (by simp) 1).trans
      ((raiseLim_fr _ _ _ _).mono (by simp) (by simp))).frame

theorem clockedNull_row (s : State) (m : MatId) (f : Fin 1024) :
    (fwMODE ((s.activeCtx m.val).word f.val) = 5 → s.clocksRun m.val = true →
      ∃ t, exec (.clockedNull m f) s = .next t ∧ (t.rd (COL_GATE_CLKNULLS (matCol m.val) (matG m.val))).toNat =
          min 0xFFFFFFFF ((s.rd (COL_GATE_CLKNULLS (matCol m.val) (matG m.val))).toNat + 1) ∧
        Framed evParts (COL_GATE_CLKNULLS (matCol m.val) (matG m.val) ::
          (COL_GATE_SAT_CLKNULLS (matCol m.val) (matG m.val)).reg :: bookKeys) s t) ∧
    (fwMODE ((s.activeCtx m.val).word f.val) ≠ 5 ∨ s.clocksRun m.val = false → exec (.clockedNull m f) s = .next s) := by
  have hexec : exec (.clockedNull m f) s = .next
    (if fwMODE ((s.activeCtx m.val).word f.val) = 5 ∧ s.clocksRun m.val then s.clockedNull m.val f.val else s) := rfl
  rw [hexec]
  refine ⟨fun hmode hrun => ⟨_, by rw [if_pos ⟨hmode, hrun⟩], clockedNull_counted s m.val f.val⟩, fun h => ?_⟩
  rw [if_neg]
  rintro ⟨hmode, hrun⟩
  obtain h | h := h
  · exact h hmode
  · simp [h] at hrun

/-! ### CLOCKED holds stopped and resumed (R86) -/

/-- Registers that the stop or the resumption of CLOCKED holds writes. -/
def clockKeys : List Nat := (upto 512).map (fun m => (gCLK_HELD m).reg) ++ bookKeys

theorem gCLK_HELD_mem {m : Nat} (h : m < 512) : (gCLK_HELD m).reg ∈ clockKeys :=
  List.mem_append_left _ (List.mem_map_of_mem (List.mem_range.mpr h))

theorem gCLK_HELD_not_book (m : Nat) : (gCLK_HELD m).reg ∉ bookKeys :=
  not_mem_bookKeys (by show 0x30000 ≤ COL_GATE_STATUS _ _; unfold COL_GATE_STATUS; omega)

theorem gCLK_HELD_apart {m n : Nat} (hm : m < 512) (hn : n < 512) (h : n ≠ m) : fldsApart (gCLK_HELD m) (gCLK_HELD n) = true := by
  refine (fldsApart_iff _ _).mpr (.inl fun he => h ?_)
  obtain ⟨hc, hg⟩ := gateStatus_inj (matG_lt m) (matG_lt n) he
  exact (mat_eq_of_place hm hn hc hg).symm

theorem flag_gCLK_HELD_holdClocks (s : State) {m n : Nat} (hm : m < 512) (hn : n < 512) :
    (s.holdClocks m).flag (gCLK_HELD n) = if n = m then true else s.flag (gCLK_HELD n) := by
  unfold State.holdClocks
  dsimp only
  rw [State.flag_raise _ _ _ _ (gCLK_HELD_not_book n)]
  split
  next h =>
    subst h
    exact State.flag_setFlag_self s (gCLK_HELD n) (by simp [gCLK_HELD, COL_GATE_STATUS_CLK_HELD]) rfl true
  next h => exact State.flag_setFlag_apart s (gCLK_HELD_apart hm hn h) true

theorem flag_gCLK_HELD_releaseClocks (s : State) {m n : Nat} (hm : m < 512) (hn : n < 512) :
    (s.releaseClocks m).flag (gCLK_HELD n) = if n = m then false else s.flag (gCLK_HELD n) := by
  unfold State.releaseClocks
  dsimp only
  rw [State.flag_raise _ _ _ _ (gCLK_HELD_not_book n)]
  split
  next h =>
    subst h
    exact State.flag_setFlag_self s (gCLK_HELD n) (by simp [gCLK_HELD, COL_GATE_STATUS_CLK_HELD]) rfl false
  next h => exact State.flag_setFlag_apart s (gCLK_HELD_apart hm hn h) false

theorem holdClocks_fr (s : State) {m : Nat} (hm : m < 512) :
    Fr (.ctx :: .pow :: evParts) clockKeys s (s.holdClocks m) := by
  refine Fr.trans ?_ ((raise_fr _ _ _ _).mono (by simp) (by simp [clockKeys]))
  exact fr_ctx (fr_setFlag (Fr.refl _ _ s) (gCLK_HELD_mem hm) true) (by simp) _

theorem releaseClocks_fr (s : State) {m : Nat} (hm : m < 512) :
    Fr (.ctx :: .pow :: evParts) clockKeys s (s.releaseClocks m) := by
  refine Fr.trans ?_ ((raise_fr _ _ _ _).mono (by simp) (by simp [clockKeys]))
  exact fr_ctx (fr_setFlag (Fr.refl _ _ s) (gCLK_HELD_mem hm) false) (by simp) _

/-- What a stop or a resumption of a mat's CLOCKED holds leaves besides its frame. -/
structure ClocksOnly (s t : State) : Prop where
  stopped : t.ctx.clkStopped = s.ctx.clkStopped
  slots : t.ctx.slots = s.ctx.slots
  pow : t.pow = s.pow
  fr : Fr (.ctx :: .pow :: evParts) clockKeys s t

theorem ClocksOnly.refl (s : State) : ClocksOnly s s := ⟨rfl, rfl, rfl, Fr.refl _ _ s⟩

theorem ClocksOnly.trans {s t u : State} (h : ClocksOnly s t) (k : ClocksOnly t u) : ClocksOnly s u :=
  ⟨k.stopped.trans h.stopped, k.slots.trans h.slots, k.pow.trans h.pow, h.fr.trans k.fr⟩

theorem holdClocks_only (s : State) {m : Nat} (hm : m < 512) : ClocksOnly s (s.holdClocks m) := by
  refine ⟨?_, ?_, ?_, holdClocks_fr s hm⟩ <;> simp [State.holdClocks]

theorem releaseClocks_only (s : State) {m : Nat} (hm : m < 512) : ClocksOnly s (s.releaseClocks m) := by
  refine ⟨?_, ?_, ?_, releaseClocks_fr s hm⟩ <;> simp [State.releaseClocks]

/-- Stop the CLOCKED holds of mats that are not stopped yet. -/
def State.holdAll (s : State) (l : List Nat) : State := l.foldl (fun s m => if s.flag (gCLK_HELD m) then s else s.holdClocks m) s

/-- Resume the CLOCKED holds of mats that are stopped. -/
def State.releaseAll (s : State) (l : List Nat) : State :=
  l.foldl (fun s m => if s.flag (gCLK_HELD m) then s.releaseClocks m else s) s

theorem holdAll_only (l : List Nat) (hl : ∀ m ∈ l, m < 512) (s : State) : ClocksOnly s (s.holdAll l) := by
  induction l generalizing s with
  | nil => exact ClocksOnly.refl s
  | cons m l ih =>
    refine ClocksOnly.trans ?_ (ih (fun n hn => hl n (by simp [hn])) _)
    dsimp only
    split
    · exact ClocksOnly.refl s
    · exact holdClocks_only s (hl m (by simp))

theorem releaseAll_only (l : List Nat) (hl : ∀ m ∈ l, m < 512) (s : State) : ClocksOnly s (s.releaseAll l) := by
  induction l generalizing s with
  | nil => exact ClocksOnly.refl s
  | cons m l ih =>
    refine ClocksOnly.trans ?_ (ih (fun n hn => hl n (by simp [hn])) _)
    dsimp only
    split
    · exact releaseClocks_only s (hl m (by simp))
    · exact ClocksOnly.refl s

theorem flag_holdAll {n : Nat} (hn : n < 512) (l : List Nat) (hl : ∀ m ∈ l, m < 512) (s : State) :
    (s.holdAll l).flag (gCLK_HELD n) = (decide (n ∈ l) || s.flag (gCLK_HELD n)) := by
  induction l generalizing s with
  | nil => simp [State.holdAll]
  | cons m l ih =>
    have hm : m < 512 := hl m (by simp)
    show (State.holdAll (if s.flag (gCLK_HELD m) then s else s.holdClocks m) l).flag (gCLK_HELD n) = _
    rw [ih (fun k hk => hl k (by simp [hk]))]
    by_cases hnm : n = m
    · subst hnm
      split
      next h => simp [h]
      next h => simp [flag_gCLK_HELD_holdClocks s hm hn]
    · split
      next h => simp [hnm]
      next h => simp [flag_gCLK_HELD_holdClocks s hm hn, hnm]

theorem flag_releaseAll {n : Nat} (hn : n < 512) (l : List Nat) (hl : ∀ m ∈ l, m < 512) (s : State) :
    (s.releaseAll l).flag (gCLK_HELD n) = (!decide (n ∈ l) && s.flag (gCLK_HELD n)) := by
  induction l generalizing s with
  | nil => simp [State.releaseAll]
  | cons m l ih =>
    have hm : m < 512 := hl m (by simp)
    show (State.releaseAll (if s.flag (gCLK_HELD m) then s.releaseClocks m else s) l).flag (gCLK_HELD n) = _
    rw [ih (fun k hk => hl k (by simp [hk]))]
    by_cases hnm : n = m
    · subst hnm
      split
      next h => simp [flag_gCLK_HELD_releaseClocks s hm hn]
      next h => simp [h]
    · split
      next h => simp [flag_gCLK_HELD_releaseClocks s hm hn, hnm]
      next h => simp [hnm]

/-- VDD_F as measured, and whether the CLOCKED holds of the device are stopped. -/
def State.clocksMeasured (s : State) (mv : Nat) (stopped : Bool) : State :=
  { s with pow := { s.pow with mv := Tab.put nat0 s.pow.mv 0 mv }, ctx := { s.ctx with clkStopped := stopped } }

theorem clocksMeasured_fr (s : State) (mv : Nat) (stopped : Bool) :
    Fr (.ctx :: .pow :: evParts) clockKeys s (s.clocksMeasured mv stopped) :=
  fr_mk (Fr.refl _ _ s) (by simp [State.clocksMeasured]) rfl

theorem ClocksOnly.measured {s t : State} {mv : Nat} {stopped : Bool} (h : ClocksOnly (s.clocksMeasured mv stopped) t) :
    t.ctx.clkStopped = stopped ∧ t.measuredF = mv ∧ t.ctx.slots = s.ctx.slots ∧
      Framed (.ctx :: .pow :: evParts) ((upto 512).map (fun m => (gCLK_HELD m).reg) ++ bookKeys) s t := by
  refine ⟨h.stopped, ?_, h.slots, ((clocksMeasured_fr s mv stopped).trans h.fr).frame⟩
  unfold State.measuredF
  rw [h.pow]
  exact (Tab.get_put ..).trans (if_pos rfl)

theorem clockHeld_row (s : State) (mv : BitVec 16) (hslots : ∀ e ∈ s.ctx.slots, e.1 < 2048) :
    (mv.toNat < floorMv s.greatestFloor →
      ∃ t, exec (.clockHeld mv) s = .next t ∧ t.ctx.clkStopped = true ∧ (∀ m ∈ s.clockedMats, t.flag (gCLK_HELD m) = true) ∧
        t.measuredF = mv.toNat ∧ t.ctx.slots = s.ctx.slots ∧
        Framed (.ctx :: .pow :: evParts) ((upto 512).map (fun m => (gCLK_HELD m).reg) ++ bookKeys) s t) ∧
    (floorMv s.greatestFloor ≤ mv.toNat → exec (.clockHeld mv) s = .next s) := by
  have hexec : exec (.clockHeld mv) s = .next (if floorMv s.greatestFloor ≤ mv.toNat then s
    else (s.clocksMeasured mv.toNat true).holdAll (s.clocksMeasured mv.toNat true).clockedMats) := rfl
  have hmats : ∀ m ∈ s.clockedMats, m < 512 := fun m hm => by
    obtain ⟨e, he, rfl⟩ := List.mem_map.mp hm
    have := hslots e (List.mem_of_mem_filter he)
    omega
  refine ⟨fun hlow => ⟨_, by rw [hexec, if_neg (by omega)], ?_⟩, fun h => by rw [hexec, if_pos h]⟩
  obtain ⟨hstopped, hf, hslots', hframe⟩ := (holdAll_only s.clockedMats hmats (s.clocksMeasured mv.toNat true)).measured
  refine ⟨hstopped, fun m hm => ?_, hf, hslots', hframe⟩
  exact (flag_holdAll (hmats m hm) s.clockedMats hmats _).trans (by simp [hm])

theorem clockReleased_row (s : State) (mv : BitVec 16) :
    (s.ctx.clkStopped = true → floorMv s.greatestFloor + 20 ≤ mv.toNat →
      ∃ t, exec (.clockReleased mv) s = .next t ∧ t.ctx.clkStopped = false ∧ (∀ m, m < 512 → t.flag (gCLK_HELD m) = false) ∧
        t.measuredF = mv.toNat ∧ t.ctx.slots = s.ctx.slots ∧
        Framed (.ctx :: .pow :: evParts) ((upto 512).map (fun m => (gCLK_HELD m).reg) ++ bookKeys) s t) ∧
    (s.ctx.clkStopped = false ∨ mv.toNat < floorMv s.greatestFloor + 20 → exec (.clockReleased mv) s = .next s) := by
  have hexec : exec (.clockReleased mv) s = .next (if s.ctx.clkStopped = false ∨ mv.toNat < floorMv s.greatestFloor + 20 then s
    else (s.clocksMeasured mv.toNat false).releaseAll (upto 512)) := rfl
  have hmats : ∀ m ∈ upto 512, m < 512 := fun m hm => List.mem_range.mp hm
  refine ⟨fun hstopped hhigh => ⟨_, by rw [hexec, if_neg (by simp [hstopped]; omega)], ?_⟩, fun h => by rw [hexec, if_pos h]⟩
  obtain ⟨hgo, hf, hslots, hframe⟩ := (releaseAll_only (upto 512) hmats (s.clocksMeasured mv.toNat false)).measured
  refine ⟨hgo, fun m hm => ?_, hf, hslots, hframe⟩
  rw [flag_releaseAll hm _ hmats, decide_eq_true (p := m ∈ upto 512) (List.mem_range.mpr hm)]
  rfl

/-! ### MAC tiles (R81) -/

theorem getElem?_putAt_self {α : Type} {l : List α} {n : Nat} {a : α} (h : l[n]? = some a) (x : α) : (putAt l n x)[n]? = some x := by
  induction l generalizing n with
  | nil => simp at h
  | cons y l ih =>
    cases n with
    | zero => rfl
    | succ n => exact ih (by simpa using h)

theorem getElem?_putAt_ne {α : Type} (l : List α) {n j : Nat} (h : j ≠ n) (x : α) : (putAt l n x)[j]? = l[j]? := by
  induction l generalizing n j with
  | nil => rfl
  | cons y l ih =>
    cases n with
    | zero =>
      obtain ⟨j, rfl⟩ := Nat.exists_eq_succ_of_ne_zero h
      rfl
    | succ n =>
      cases j with
      | zero => rfl
      | succ j => exact ih (by omega)

theorem slot_setSlot_self (s : State) (m k : Nat) (x : Slot) : (s.setSlot m k x).slot m k = x :=
  (Tab.get_put ..).trans (if_pos rfl)

theorem fab_setFab_self (s : State) (q : Nat) (x : MatFab) : (s.setFab q x).fab q = x := (Tab.get_put ..).trans (if_pos rfl)

/-- A slot after a MAC tile's operation: the accumulator and the result that the tile holds. -/
def Slot.macHeld (x : Slot) (tile : Nat) (o : MacOut) : Slot :=
  { x with holds := { x.holds with
      acc := putAt x.holds.acc tile o.acc
      res := Tab.put none0 x.holds.res tile (some (BitVec.ofNat 65 (o.result.toNat + b2n o.ovf * 2 ^ 64))) } }

theorem res_macHeld (x : Slot) (tile : Nat) (o : MacOut) : Tab.get none0 (x.macHeld tile o).holds.res tile =
    some (BitVec.ofNat 65 (o.result.toNat + b2n o.ovf * 2 ^ 64)) := by
  unfold Slot.macHeld
  rw [Tab.get_put, if_pos rfl]

/-- The active slot of a mat after a MAC tile's operation. -/
def State.macStored (s : State) (m tile : Nat) (o : MacOut) : State :=
  s.setSlot m (s.activeSlot m) ((s.slot m (s.activeSlot m)).macHeld tile o)

/-- The tile acknowledges its input. -/
def State.macDone (s : State) (m tile : Nat) (o : MacOut) : State :=
  (s.macStored m tile o).setFab m { (s.macStored m tile o).fab m with
    ackUp := Tab.put bool0 ((s.macStored m tile o).fab m).ackUp tile true }

theorem slot_macDone (s : State) (m tile : Nat) (o : MacOut) :
    (s.macDone m tile o).slot m (s.activeSlot m) = (s.slot m (s.activeSlot m)).macHeld tile o := slot_setSlot_self s m _ _

theorem ackUp_macDone (s : State) (m tile : Nat) (o : MacOut) : Tab.get bool0 ((s.macDone m tile o).fab m).ackUp tile = true := by
  rw [State.macDone, fab_setFab_self, Tab.get_put, if_pos rfl]

/-- The overflow counted and the result offered. -/
def State.macShown (s : State) (m tile : Nat) (o : MacOut) : State :=
  (s.count (COL_GATE_OVFS (matCol m) (matG m)) (COL_GATE_SAT_OVFS (matCol m) (matG m)) (b2n o.ovf)).emit
    (.token m (.mac tile) (BitVec.ofNat 65 (o.result.toNat + b2n o.ovf * 2 ^ 64)).toNat)

theorem exec_macOperation {s : State} {m : MatId} {tile : Fin 8} {x : BitVec 122} {a : Word}
    (hfree : s.tileFree m.val tile.val = true) (hacc : (s.holds m.val).acc[tile.val]? = some a) :
    exec (.macOperation m tile x) s = .next ((s.macDone m.val tile.val (macOp x a)).macShown m.val tile.val (macOp x a)) := by
  have hacc' : (s.slot m.val (s.activeSlot m.val)).holds.acc[tile.val]? = some a := hacc
  show execMacOperation m tile x s = _
  unfold execMacOperation
  dsimp only
  rw [if_neg (by simp [hfree]), hacc']
  rfl

theorem macBits_toNat (o : MacOut) : (BitVec.ofNat 65 (o.result.toNat + b2n o.ovf * 2 ^ 64)).toNat =
    o.result.toNat + b2n o.ovf * 2 ^ 64 := by
  have := o.result.isLt
  have : b2n o.ovf ≤ 1 := by cases o.ovf <;> decide
  rw [BitVec.toNat_ofNat]
  exact Nat.mod_eq_of_lt (by omega)

theorem macDone_fr (s : State) (m tile : Nat) (o : MacOut) : Fr [.ctx] [] s (s.macDone m tile o) :=
  fr_mk (Fr.refl _ _ s) (by simp [State.macDone, State.macStored]) rfl

theorem macShown_fr (s : State) (m tile : Nat) (o : MacOut) :
    Fr [.out] [COL_GATE_OVFS (matCol m) (matG m), (COL_GATE_SAT_OVFS (matCol m) (matG m)).reg] s (s.macShown m tile o) :=
  emit_fr (fr_count (Fr.refl _ _ s) (by simp) (by simp) _) (by simp) _

theorem macOperation_row (s : State) (m : MatId) (tile : Fin 8) (x : BitVec 122) :
    (∀ a : Word, s.tileFree m.val tile.val = true → (s.holds m.val).acc[tile.val]? = some a →
      ∃ t, exec (.macOperation m tile x) s = .next t ∧
        (t.slot m.val (s.activeSlot m.val)).holds.acc[tile.val]? = some (macOp x a).acc ∧
        (∀ j, j ≠ tile.val → (t.slot m.val (s.activeSlot m.val)).holds.acc[j]? = (s.holds m.val).acc[j]?) ∧
        Tab.get none0 (t.slot m.val (s.activeSlot m.val)).holds.res tile.val =
          some (BitVec.ofNat 65 ((macOp x a).result.toNat + b2n (macOp x a).ovf * 2 ^ 64)) ∧
        Tab.get bool0 (t.fab m.val).ackUp tile.val = true ∧
        t.out = s.out ++ [.token m.val (.mac tile.val) ((macOp x a).result.toNat + b2n (macOp x a).ovf * 2 ^ 64)] ∧
        (t.slot m.val (s.activeSlot m.val)).ctx = (s.slot m.val (s.activeSlot m.val)).ctx ∧
        Framed [.ctx, .out] [COL_GATE_OVFS (matCol m.val) (matG m.val), (COL_GATE_SAT_OVFS (matCol m.val) (matG m.val)).reg]
          s t) ∧
    (s.tileFree m.val tile.val = false → exec (.macOperation m tile x) s = .next s) := by
  refine ⟨fun a hfree hacc => ⟨_, exec_macOperation hfree hacc, ?_⟩, fun h => ?_⟩
  · have hshown := macShown_fr (s.macDone m.val tile.val (macOp x a)) m.val tile.val (macOp x a)
    have hctx : ((s.macDone m.val tile.val (macOp x a)).macShown m.val tile.val (macOp x a)).ctx =
      (s.macDone m.val tile.val (macOp x a)).ctx := hshown.frame.part .ctx (by simp)
    have hslot : ((s.macDone m.val tile.val (macOp x a)).macShown m.val tile.val (macOp x a)).slot m.val (s.activeSlot m.val) =
        (s.macDone m.val tile.val (macOp x a)).slot m.val (s.activeSlot m.val) := by
      unfold State.slot
      rw [hctx]
    have hfab : ((s.macDone m.val tile.val (macOp x a)).macShown m.val tile.val (macOp x a)).fab m.val =
        (s.macDone m.val tile.val (macOp x a)).fab m.val := by
      unfold State.fab
      rw [hctx]
    have hout : ((s.macDone m.val tile.val (macOp x a)).macShown m.val tile.val (macOp x a)).out = s.out ++
        [.token m.val (.mac tile.val) ((macOp x a).result.toNat + b2n (macOp x a).ovf * 2 ^ 64)] := by
      rw [← macBits_toNat]
      show (State.count _ _ _ _).out ++ _ = _
      rw [show (State.count (s.macDone m.val tile.val (macOp x a)) _ _ _).out = s.out from
        (fr_count (ps := []) (Fr.refl _ _ _) (List.mem_cons_self ..) (List.mem_cons_of_mem _ (List.mem_singleton_self _)) _).frame.part
          .out (by simp)]
    rw [hslot, hfab, slot_macDone]
    exact ⟨getElem?_putAt_self hacc _, fun j hj => getElem?_putAt_ne _ hj _, res_macHeld _ _ _, ackUp_macDone s _ _ _, hout, rfl,
      (((macDone_fr s m.val tile.val _).mono (by simp) (by simp)).trans (hshown.mono (by simp) (by simp))).frame⟩
  · show execMacOperation m tile x s = _
    unfold execMacOperation
    dsimp only
    rw [if_pos h]

/-! ### Tokens drained at a border (R142) -/

/-- The count of drained tokens. -/
def State.drainCounted (s : State) (m : Nat) : State :=
  s.count (COL_CTX_DRAINED (matCol m) (matG m)) (COL_CTX_SAT_DRAINED (matCol m) (matG m)) 1

theorem drainCounted_fr (s : State) (m : Nat) :
    Fr [] [COL_CTX_DRAINED (matCol m) (matG m), (COL_CTX_SAT_DRAINED (matCol m) (matG m)).reg] s (s.drainCounted m) :=
  fr_count (Fr.refl _ _ s) (by simp) (by simp) 1

theorem rd_drainCounted (s : State) (m : Nat) : ((s.drainCounted m).rd (COL_CTX_DRAINED (matCol m) (matG m))).toNat =
    min 0xFFFFFFFF ((s.rd (COL_CTX_DRAINED (matCol m) (matG m))).toNat + 1) :=
  rd_count _ _ _ (by show COL_CTX_SAT _ _ ≠ _; unfold COL_CTX_SAT COL_CTX_DRAINED; omega) (by decide)

/-- Counting a drained token leaves every mat's slot select. -/
theorem activeSlot_drainCounted (s : State) (m q : Nat) : (s.drainCounted m).activeSlot q = s.activeSlot q := by
  have := matG_lt m
  have := matG_lt q
  have hm : matCol m < 256 := matCol_lt m
  refine (drainCounted_fr s m).get ?_
  show COL_GATE_STATUS (matCol q) (matG q) ∉ [COL_CTX_DRAINED (matCol m) (matG m), COL_CTX_SAT (matCol m) (matG m)]
  simp only [COL_GATE_STATUS, COL_CTX_DRAINED, COL_CTX_SAT, List.mem_cons, List.not_mem_nil, or_false]
  omega

/-- A token at a lane under DRAIN is taken out of the far end's buffer. -/
def State.laneDrained (s : State) (m w : Nat) : State := s.setLaneBuf (matOf (matCol m) (1 - matG m)) w 0

/-- A token at a channel under DRAIN is acknowledged by the gate. -/
def State.channelDrained (s : State) (m w : Nat) : State :=
  s.setFab m { s.fab m with gateAck := Tab.put bool0 (s.fab m).gateAck w true }

theorem laneBuf_laneDrained (s : State) (m w : Nat) :
    ((s.laneDrained m w).drainCounted m).laneBuf (matOf (matCol m) (1 - matG m)) w = 0 := by
  have hslot (u : State) (q k : Nat) : (u.drainCounted m).slot q k = u.slot q k := by
    unfold State.slot
    rw [show (u.drainCounted m).ctx = u.ctx from (drainCounted_fr u m).frame.part .ctx (by simp)]
  unfold State.laneBuf State.holds
  rw [activeSlot_drainCounted, hslot]
  show Tab.get code0 ((s.setSlot _ _ _).slot _ (s.activeSlot _)).holds.lanes _ = 0
  rw [slot_setSlot_self, Tab.get_put, if_pos rfl]

theorem gateAck_channelDrained (s : State) (m w : Nat) :
    Tab.get bool0 (((s.channelDrained m w).drainCounted m).fab m).gateAck w = true := by
  have hfab : ((s.channelDrained m w).drainCounted m).fab m = (s.channelDrained m w).fab m := by
    unfold State.fab
    rw [show ((s.channelDrained m w).drainCounted m).ctx = (s.channelDrained m w).ctx from
      (drainCounted_fr _ m).frame.part .ctx (by simp)]
  rw [hfab, State.channelDrained, fab_setFab_self, Tab.get_put, if_pos rfl]

/-- A change of the contexts' state, and then the count. -/
theorem drained_framed {s t : State} (m : Nat) (h : Fr [.ctx] [] s t) :
    Framed [.ctx] [COL_CTX_DRAINED (matCol m) (matG m), (COL_CTX_SAT_DRAINED (matCol m) (matG m)).reg] s (t.drainCounted m) :=
  ((h.mono (by simp) (by simp)).trans ((drainCounted_fr t m).mono (by simp) (by simp))).frame

theorem drainToken_row (s : State) (m : MatId) (lane : Bool) (w : Fin 256) (drains : Bool)
    (hdrains : drains = (if lane then s.drainsLane m.val w.val else decide (w.val < 64) && s.drainsChannel m.val w.val)) :
    (drains = true →
      ∃ t, exec (.drainToken m lane w) s = .next t ∧ (t.rd (COL_CTX_DRAINED (matCol m.val) (matG m.val))).toNat =
          min 0xFFFFFFFF ((s.rd (COL_CTX_DRAINED (matCol m.val) (matG m.val))).toNat + 1) ∧
        (lane = false → Tab.get bool0 (t.fab m.val).gateAck w.val = true) ∧
        (lane = true → t.laneBuf (matOf (matCol m.val) (1 - matG m.val)) w.val = 0) ∧
        Framed [.ctx] [COL_CTX_DRAINED (matCol m.val) (matG m.val), (COL_CTX_SAT_DRAINED (matCol m.val) (matG m.val)).reg]
          s t) ∧
    (drains = false → exec (.drainToken m lane w) s = .next s) := by
  have hexec : exec (.drainToken m lane w) s = .next (if lane then
      if s.drainsLane m.val w.val then (s.laneDrained m.val w.val).drainCounted m.val else s
    else if w.val < 64 ∧ s.drainsChannel m.val w.val then (s.channelDrained m.val w.val).drainCounted m.val
    else s) := rfl
  cases lane with
  | true =>
    rw [if_pos rfl] at hdrains hexec
    refine ⟨fun h => ⟨(s.laneDrained m.val w.val).drainCounted m.val, by rw [hexec, if_pos (hdrains ▸ h)], rd_drainCounted _ _,
      fun h => by simp at h, fun _ => laneBuf_laneDrained s m.val w.val, drained_framed m.val (fr_ctx (Fr.refl _ _ s) (by simp) _)⟩,
      fun h => by rw [hexec, if_neg (by simp [← hdrains, h])]⟩
  | false =>
    rw [if_neg (by simp)] at hdrains hexec
    refine ⟨fun h => ?_, fun h => ?_⟩
    · have hcond : w.val < 64 ∧ s.drainsChannel m.val w.val = true := by simpa [h] using hdrains.symm
      exact ⟨(s.channelDrained m.val w.val).drainCounted m.val, by rw [hexec, if_pos hcond], rd_drainCounted _ _,
        fun _ => gateAck_channelDrained s m.val w.val, fun h => by simp at h,
        drained_framed m.val (fr_ctx (Fr.refl _ _ s) (by simp) _)⟩
    · rw [hexec, if_neg]
      intro hcond
      simp [h, hcond] at hdrains

/-! ### Re-tests of disabled channels (R90) -/

/-- Registers that a re-test that passes writes. -/
def retestKeys (m : Nat) : List Nat :=
  [(gILLEGAL m).reg, COL_GATE_CHDIS_LO (matCol m) (matG m), COL_GATE_CHDIS_HI (matCol m) (matG m)] ++ supKeys (matLayer m)

theorem chDisFld_reg (m h : Nat) : (chDisFld m h).reg = COL_GATE_CHDIS_LO (matCol m) (matG m) ∨
    (chDisFld m h).reg = COL_GATE_CHDIS_HI (matCol m) (matG m) := by
  unfold chDisFld
  split
  · exact .inl rfl
  · exact .inr rfl

theorem chDisFld_mem (m h : Nat) : (chDisFld m h).reg ∈ retestKeys m := by
  obtain e | e := chDisFld_reg m h <;> simp [retestKeys, e]

theorem chDisFld_fits {m h : Nat} (hh : h < 64) : (chDisFld m h).lo + (chDisFld m h).w ≤ 32 ∧ (chDisFld m h).w = 1 := by
  unfold chDisFld
  split
  · exact ⟨by dsimp only; omega, rfl⟩
  · exact ⟨by dsimp only; omega, rfl⟩

theorem gILLEGAL_apart_chDisFld (m h : Nat) : fldsApart (gILLEGAL m) (chDisFld m h) = true := by
  refine (fldsApart_iff _ _).mpr (.inl ?_)
  show COL_GATE_STATUS (matCol m) (matG m) ≠ _
  obtain e | e := chDisFld_reg m h <;> rw [e]
  · unfold COL_GATE_STATUS COL_GATE_CHDIS_LO
    omega
  · unfold COL_GATE_STATUS COL_GATE_CHDIS_HI
    omega

theorem closeFault_fr (s : State) (y c : Nat) (x : FaultItem) : Fr [.col] (supKeys y) s (s.closeFault y c x) :=
  setOpen_fr (Fr.refl _ _ s) (by simp) (by simp [supKeys]) _ _

/-- Relocation of a mat, where there is one. -/
def State.wantSome (s : State) (o : Option Nat) : State :=
  match o with
  | some q => s.wantReloc q
  | none => s

theorem wantSome_fr (s : State) (o : Option Nat) : Fr [.mnt] [] s (s.wantSome o) := by
  cases o with
  | none => exact Fr.refl _ _ s
  | some q => exact wantReloc_fr s q

theorem mem_wanted_wantReloc (s : State) (q : Nat) : q ∈ (s.wantReloc q).mnt.wanted := mem_insNat.mpr (.inl rfl)

/-- A channel's re-test passes: the channel and its place are free again. -/
def State.channelBack (s : State) (m h : Nat) : State :=
  (((s.setFab m { s.fab m with bad := (s.fab m).bad.filter (fun e => decide (e ≠ (1, h))) }).setFlag (chDisFld m h) false).setFlag
    (gILLEGAL m) false).closeFault (matLayer m) (matCol m) (.channel (matG m) h)

theorem channelBack_fr (s : State) (m h : Nat) : Fr [.mnt, .col, .ctx] (retestKeys m) s (s.channelBack m h) := by
  refine Fr.trans ?_ ((closeFault_fr _ _ _ _).mono (by simp) (List.subset_append_right _ _))
  exact fr_setFlag (fr_setFlag (fr_ctx (Fr.refl _ _ s) (by simp) _) (chDisFld_mem m h) _) (by simp [retestKeys]) _

/-- A field of the gate is not shown by a supervisor. -/
theorem gate_not_sup {f : Fld} (hf : f.reg < 0x300000) (y : Nat) : f.reg ∉ supKeys y := fun h => by
  have := supKeys_le h
  omega

theorem gILLEGAL_lt (m : Nat) : (gILLEGAL m).reg < 0x300000 := by
  have hc := matCol_lt m
  have hg := matG_lt m
  show COL_GATE_STATUS (matCol m) (matG m) < _
  unfold COL_GATE_STATUS
  omega

theorem chDisFld_lt (m h : Nat) : (chDisFld m h).reg < 0x300000 := by
  have hc := matCol_lt m
  have hg := matG_lt m
  obtain e | e := chDisFld_reg m h <;> rw [e]
  · unfold COL_GATE_CHDIS_LO
    omega
  · unfold COL_GATE_CHDIS_HI
    omega

theorem flags_channelBack (s : State) {m h : Nat} (hh : h < 64) :
    (s.channelBack m h).flag (chDisFld m h) = false ∧ (s.channelBack m h).flag (gILLEGAL m) = false := by
  obtain ⟨hfits, hw⟩ := chDisFld_fits (m := m) hh
  unfold State.channelBack
  constructor
  · rw [(closeFault_fr _ _ _ _).flag (gate_not_sup (chDisFld_lt m h) _),
      State.flag_setFlag_apart _ (gILLEGAL_apart_chDisFld m h), State.flag_setFlag_self _ _ hfits hw]
  · rw [(closeFault_fr _ _ _ _).flag (gate_not_sup (gILLEGAL_lt m) _),
      State.flag_setFlag_self _ (gILLEGAL m) (by simp [gILLEGAL, COL_GATE_STATUS_ILLEGAL]) rfl]

theorem bad_channelBack (s : State) (m h : Nat) : (1, h) ∉ ((s.channelBack m h).fab m).bad := by
  have hfab : (s.channelBack m h).fab m =
      { s.fab m with bad := (s.fab m).bad.filter (fun e => decide (e ≠ (1, h))) } := fab_setFab_self s m _
  rw [hfab]
  simp

/-- The wire sets of a channel that a re-test fails on. -/
def State.badSets (s : State) (m h : Nat) (failed : List (MatId × Fin 64 × Fin 4)) : List (Nat × Nat × Nat) :=
  (failed.map (fun w => (w.1.val, w.2.1.val, w.2.2.val))).filter (fun w => decide (w ∈ s.channelSets m h))

theorem mem_badSets {s : State} {m h : Nat} {failed : List (MatId × Fin 64 × Fin 4)} {w : MatId × Fin 64 × Fin 4}
    (hw : w ∈ failed) (hs : (w.1.val, w.2.1.val, w.2.2.val) ∈ s.channelSets m h) :
    (w.1.val, w.2.1.val, w.2.2.val) ∈ s.badSets m h failed :=
  List.mem_filter.mpr ⟨List.mem_map_of_mem hw, decide_eq_true hs⟩

theorem badSets_eq_nil {s : State} {m h : Nat} {failed : List (MatId × Fin 64 × Fin 4)}
    (hw : ∀ w ∈ failed, (w.1.val, w.2.1.val, w.2.2.val) ∉ s.channelSets m h) : s.badSets m h failed = [] := by
  refine List.filter_eq_nil_iff.mpr fun w hmem => ?_
  obtain ⟨e, he, rfl⟩ := List.mem_map.mp hmem
  simpa using hw e he

/-- Wire sets noted as failed. -/
def State.setsNoted (s : State) (l : List (Nat × Nat × Nat)) : State :=
  { s with col := { s.col with
      badWires := l.foldl (fun t w => Tab.put bool0 t ((w.1 * 64 + w.2.1) * 4 + w.2.2) true) s.col.badWires } }

theorem get_foldl_put_true {α : Type} (key : α → Nat) {k : Nat} (l : List α) (t : Tab Bool)
    (h : (∃ w ∈ l, key w = k) ∨ Tab.get bool0 t k = true) :
    Tab.get bool0 (l.foldl (fun t w => Tab.put bool0 t (key w) true) t) k = true := by
  induction l generalizing t with
  | nil => exact h.resolve_left (by simp)
  | cons w l ih =>
    refine ih (Tab.put bool0 t (key w) true) ?_
    by_cases hw : key w = k
    · exact .inr (by rw [hw, Tab.get_put, if_pos rfl])
    · refine h.imp (fun ⟨v, hv, hk⟩ => ⟨v, (List.mem_cons.mp hv).resolve_left (fun e => hw (e ▸ hk)), hk⟩) fun ht => ?_
      rw [Tab.get_put, if_neg (Ne.symm hw), ht]

theorem exec_channelRetest (s : State) (m : MatId) (h : Fin 64) (failed : List (MatId × Fin 64 × Fin 4)) :
    exec (.channelRetest m h failed) s = .next (if s.flag (chDisFld m.val h.val) = false then s
      else if s.badSets m.val h.val failed = [] then
        (s.channelBack m.val h.val).wantSome ((s.sender m.val h.val).map Prod.fst)
      else (s.setsNoted (s.badSets m.val h.val failed)).wantReloc m.val) := rfl

theorem channelRetest_row (s : State) (m : MatId) (h : Fin 64) (failed : List (MatId × Fin 64 × Fin 4)) :
    (s.flag (chDisFld m.val h.val) = true → (∀ w ∈ failed, (w.1.val, w.2.1.val, w.2.2.val) ∉ s.channelSets m.val h.val) →
      ∃ t, exec (.channelRetest m h failed) s = .next t ∧ t.flag (chDisFld m.val h.val) = false ∧
        t.flag (gILLEGAL m.val) = false ∧ (1, h.val) ∉ (t.fab m.val).bad ∧
        (∀ q, (s.sender m.val h.val).map Prod.fst = some q → q ∈ t.mnt.wanted) ∧
        Framed [.mnt, .col, .ctx] ([(gILLEGAL m.val).reg, COL_GATE_CHDIS_LO (matCol m.val) (matG m.val),
          COL_GATE_CHDIS_HI (matCol m.val) (matG m.val)] ++ supKeys (matLayer m.val)) s t) ∧
    (s.flag (chDisFld m.val h.val) = true → (∃ w ∈ failed, (w.1.val, w.2.1.val, w.2.2.val) ∈ s.channelSets m.val h.val) →
      ∃ t, exec (.channelRetest m h failed) s = .next t ∧ m.val ∈ t.mnt.wanted ∧
        (∀ w ∈ failed, (w.1.val, w.2.1.val, w.2.2.val) ∈ s.channelSets m.val h.val →
          Tab.get bool0 t.col.badWires ((w.1.val * 64 + w.2.1.val) * 4 + w.2.2.val) = true) ∧
        Framed [.mnt, .col] [] s t) ∧
    (s.flag (chDisFld m.val h.val) = false → exec (.channelRetest m h failed) s = .next s) := by
  rw [exec_channelRetest]
  refine ⟨fun hdis hpass => ?_, fun hdis ⟨w, hw, hset⟩ => ?_, fun hdis => by rw [if_pos hdis]⟩
  · rw [if_neg (by simp [hdis]), if_pos (badSets_eq_nil hpass)]
    have hback := channelBack_fr s m.val h.val
    have hwant := wantSome_fr (s.channelBack m.val h.val) ((s.sender m.val h.val).map Prod.fst)
    obtain ⟨hflag, hillegal⟩ := flags_channelBack s (m := m.val) h.isLt
    have hfab : ((s.channelBack m.val h.val).wantSome ((s.sender m.val h.val).map Prod.fst)).fab m.val =
        (s.channelBack m.val h.val).fab m.val := by
      unfold State.fab
      rw [show (State.wantSome _ _).ctx = _ from hwant.frame.part .ctx (by simp)]
    refine ⟨_, rfl, (hwant.flag (by simp)).trans hflag, (hwant.flag (by simp)).trans hillegal, hfab ▸ bad_channelBack s _ _,
      fun q hq => ?_, (hback.trans (hwant.mono (by simp) (by simp))).frame⟩
    rw [hq]
    exact mem_wanted_wantReloc _ q
  · have hne : s.badSets m.val h.val failed ≠ [] := List.ne_nil_of_mem (mem_badSets hw hset)
    rw [if_neg (by simp [hdis]), if_neg hne]
    refine ⟨_, rfl, mem_wanted_wantReloc _ _, fun v hv hvset => ?_, ?_⟩
    · exact get_foldl_put_true (fun w : Nat × Nat × Nat => (w.1 * 64 + w.2.1) * 4 + w.2.2) _ _
        (.inl ⟨_, mem_badSets hv hvset, rfl⟩)
    · exact ((fr_col (Fr.refl _ _ s) (by simp) _).trans ((wantReloc_fr _ _).mono (by simp) (by simp))).frame

end Sys2Proof.Machine
end

section
/-! SUPPORT.  What ending a swap leaves of the mats' gates: it writes QUIET and REGCH_BUSY of COL_GATE_STATUS and no other field of a
gate, and asks for no relocation (R91, R135 step 5′, R141, R147). -/

namespace Sys2Proof.Machine

open Sys2Proof

/-- Registers of the mats' gates. -/
def GateBlock (k : Nat) : Prop := 0x200000 ≤ k ∧ k < 0x300000 ∧ 0x800 ≤ k % 0x1000

theorem gateStatus_block (m : Nat) : GateBlock (COL_GATE_STATUS (matCol m) (matG m)) := by
  have hc := matCol_lt m
  have hg := matG_lt m
  unfold GateBlock COL_GATE_STATUS
  omega

/-- From s to t the gates' registers stand, but for fields of COL_GATE_STATUS that show a running swap or access; and the relocations
that are wanted stand. -/
structure GateKept (s t : State) : Prop where
  regs : ∀ k, GateBlock k → (∀ c g, k ≠ COL_GATE_STATUS c g) → t.rd k = s.rd k
  illegal : ∀ m, t.flag (gILLEGAL m) = s.flag (gILLEGAL m)
  active : ∀ m, t.activeSlot m = s.activeSlot m
  wanted : t.mnt.wanted = s.mnt.wanted
  matMap : t.mnt.matMap = s.mnt.matMap

theorem GateKept.refl (s : State) : GateKept s s := ⟨fun _ _ _ => rfl, fun _ => rfl, fun _ => rfl, rfl, rfl⟩

theorem GateKept.trans {s t u : State} (h : GateKept s t) (k : GateKept t u) : GateKept s u :=
  ⟨fun j hj hn => (k.regs j hj hn).trans (h.regs j hj hn), fun m => (k.illegal m).trans (h.illegal m),
    fun m => (k.active m).trans (h.active m), k.wanted.trans h.wanted, k.matMap.trans h.matMap⟩

theorem GateKept.physMat {s t : State} (h : GateKept s t) (m : Nat) : t.physMat m = s.physMat m := by
  unfold State.physMat
  rw [h.matMap]

/-- The swaps in progress stand, too. -/
structure SwapQuiet (s t : State) : Prop where
  gate : GateKept s t
  runs : ∀ g, (t.group g).run = (s.group g).run

theorem SwapQuiet.refl (s : State) : SwapQuiet s s := ⟨GateKept.refl s, fun _ => rfl⟩

theorem SwapQuiet.trans {s t u : State} (h : SwapQuiet s t) (k : SwapQuiet t u) : SwapQuiet s u :=
  ⟨h.gate.trans k.gate, fun g => (k.runs g).trans (h.runs g)⟩

theorem gateKept_of_regs {s t : State} (hr : t.regs = s.regs) (hw : t.mnt.wanted = s.mnt.wanted)
    (hm : t.mnt.matMap = s.mnt.matMap) : GateKept s t := by
  have hrd (k : Nat) : t.rd k = s.rd k := by unfold State.rd; rw [hr]
  have hget (f : Fld) : t.get f = s.get f := by unfold State.get; rw [hrd]
  exact ⟨fun k _ _ => hrd k, fun m => by unfold State.flag; rw [hget], fun m => hget _, hw, hm⟩

section
variable {s0 s : State}

/-- What a quiet step may not change, but for registers. -/
def State.quietView (s : State) := (s.regs, s.mnt.wanted, s.mnt.matMap, s.ctx.groups)

/-- A change of anything but registers, wanted relocations and groups. -/
theorem quiet_mk {t : State} (h : SwapQuiet s0 s) (k : t.quietView = s.quietView) : SwapQuiet s0 t := by
  obtain ⟨hr, hw, hm, hg⟩ : t.regs = s.regs ∧ t.mnt.wanted = s.mnt.wanted ∧ t.mnt.matMap = s.mnt.matMap ∧
      t.ctx.groups = s.ctx.groups := by
    simpa [State.quietView] using k
  exact h.trans ⟨gateKept_of_regs hr hw hm, fun g => by unfold State.group; rw [hg]⟩

theorem quiet_ite {t : State} {c : Prop} [Decidable c] (h1 : SwapQuiet s0 s) (h2 : SwapQuiet s0 t) :
    SwapQuiet s0 (if c then s else t) := by
  split
  · exact h1
  · exact h2

theorem quiet_foldl {α : Type} {f : State → α → State} (h : SwapQuiet s0 s) (l : List α)
    (hf : ∀ t, ∀ a ∈ l, SwapQuiet s0 t → SwapQuiet s0 (f t a)) : SwapQuiet s0 (l.foldl f s) := by
  induction l generalizing s with
  | nil => exact h
  | cons a l ih => exact ih (hf s a (by simp) h) (fun t b hb => hf t b (by simp [hb]))

/-- What leaves maintenance, contexts and the gates' registers alone is quiet. -/
theorem quiet_fr {ps : List Part} {ks : List Nat} {t : State} (h : SwapQuiet s0 s) (k : Fr ps ks s t) (hm : Part.mnt ∉ ps)
    (hc : Part.ctx ∉ ps) (hk : ∀ k ∈ ks, ¬GateBlock k) : SwapQuiet s0 t := by
  have hstatus (m : Nat) : COL_GATE_STATUS (matCol m) (matG m) ∉ ks := fun hin => hk _ hin (gateStatus_block m)
  have hctx : t.ctx = s.ctx := k.frame.part .ctx hc
  refine h.trans ⟨⟨fun j hj _ => k.frame.reg j fun hin => hk j hin hj, fun m => k.flag (f := gILLEGAL m) (hstatus m),
    fun m => k.get (f := gACTIVE m) (hstatus m), k.wanted hm,
    (congrArg MntState.matMap (k.frame.part .mnt hm) :)⟩, fun g => ?_⟩
  unfold State.group
  rw [hctx]

theorem book_not_gate {k : Nat} (h : k ∈ bookKeys) : ¬GateBlock k := fun hg => by
  have := bookKeys_lt h
  unfold GateBlock at hg
  omega

theorem books_quiet {t : State} (h : SwapQuiet s0 s) (k : Books s t) : SwapQuiet s0 t :=
  quiet_fr h (fr_books (ps := evParts) (ks := bookKeys) (Fr.refl _ _ s) k (List.Subset.refl _) (List.Subset.refl _)) (by decide)
    (by decide) fun _ => book_not_gate

/-- A flag of COL_GATE_STATUS other than ILLEGAL and the slot select. -/
theorem setStatus_quiet {f : Fld} (m : Nat) (hreg : f.reg = COL_GATE_STATUS (matCol m) (matG m)) (hlo : f.lo = 2 ∨ f.lo = 6)
    (hw : f.w = 1) (b : Bool) (h : SwapQuiet s0 s) : SwapQuiet s0 (s.setFlag f b) := by
  refine h.trans ⟨⟨fun k _ hk => State.rd_wr_ne s (hreg ▸ hk _ _) _, fun n => State.flag_setFlag_apart s ?_ b,
    fun n => State.get_setFlag_apart s ?_ b, rfl, rfl⟩, fun _ => rfl⟩
  · refine (fldsApart_iff _ _).mpr (.inr ?_)
    show f.lo + f.w ≤ 4 ∨ 4 + 1 ≤ f.lo
    omega
  · refine (fldsApart_iff _ _).mpr (.inr (.inr ?_))
    show 0 + 2 ≤ f.lo
    omega

theorem setQuiet_quiet (m : Nat) (b : Bool) (h : SwapQuiet s0 s) : SwapQuiet s0 (s.setFlag (gQUIET m) b) :=
  setStatus_quiet m rfl (.inl rfl) rfl b h

theorem setBusy_quiet (m : Nat) (b : Bool) (h : SwapQuiet s0 s) : SwapQuiet s0 (s.setFlag (gREGCH_BUSY m) b) :=
  setStatus_quiet m rfl (.inr rfl) rfl b h

theorem finishRef_quiet (r : Option CmdRef) (status : Nat) (result : Word) (h : SwapQuiet s0 s) :
    SwapQuiet s0 (s.finishRef r status result) := by
  cases r with
  | none => exact h
  | some r => exact books_quiet (quiet_mk h (by rfl)) (finish_books s r status result)

/-! ### Pins and register windows -/

theorem pinKeys_not_gate {v k : Nat} (hv : v < 352) (h : k ∈ pinKeys v) : ¬GateBlock k := fun hg => by
  unfold pinKeys at h
  unfold GateBlock at hg
  split at h
  · simp only [FP_STATUS, List.mem_cons, List.not_mem_nil, or_false] at h
    omega
  · simp only [GPIO_OWNER, GPIO_IN, List.mem_cons, List.not_mem_nil, or_false] at h
    omega

theorem mem_pinsOf_lt {m v : Nat} (h : v ∈ s.pinsOf m) : v < 352 := by
  have hv := List.mem_of_mem_filter h
  simp only [upto, List.mem_append, List.mem_map, List.mem_range] at hv
  omega

theorem freePins_quiet (m : Nat) (h : SwapQuiet s0 s) : SwapQuiet s0 (s.freePins m) :=
  quiet_foldl h _ fun _ v hv ht => quiet_fr (quiet_mk ht (by rfl)) (settlePin_fr _ v) (by decide) (by decide)
    fun _ => pinKeys_not_gate (mem_pinsOf_lt hv)

theorem setRunning_quiet (m : Nat) (h : SwapQuiet s0 s) : SwapQuiet s0 (s.setRunning m) := by
  unfold State.setRunning
  split
  · exact setQuiet_quiet m _ h
  · exact setQuiet_quiet m _ (quiet_mk h (by rfl))

theorem winAnswer_quiet (a : WinAcc) (v : Word) (h : SwapQuiet s0 s) : SwapQuiet s0 (s.winAnswer a v) :=
  quiet_ite h (quiet_mk h (by rfl))

theorem serveWindow_quiet (p : Nat) (l : List WinAcc) (h : SwapQuiet s0 s) : SwapQuiet s0 (s.serveWindow p l) := by
  induction l generalizing s with
  | nil => exact quiet_mk h (by rfl)
  | cons a l ih =>
    unfold State.serveWindow
    split
    · exact ih (winAnswer_quiet _ _ h)
    split
    · exact quiet_mk h (by rfl)
    · exact quiet_mk (setBusy_quiet p true (quiet_mk (t := s.setWindow p (a :: l)) h (by rfl))) (by rfl)

theorem serveHeld_quiet (p : Nat) (h : SwapQuiet s0 s) : SwapQuiet s0 (s.serveHeld p) := quiet_ite h (serveWindow_quiet _ _ h)

theorem resume_quiet (mats : List Nat) (h : SwapQuiet s0 s) : SwapQuiet s0 (s.resume mats) :=
  quiet_foldl h _ fun _ _ _ ht => serveHeld_quiet _ (setRunning_quiet _ (freePins_quiet _ ht))

/-! ### Schedules and reports -/

/-- A change of a group that leaves its swap in progress. -/
theorem setGroup_quiet {g : Nat} {x : Group} (hx : x.run = (s.group g).run) (h : SwapQuiet s0 s) : SwapQuiet s0 (s.setGroup g x) := by
  refine h.trans ⟨gateKept_of_regs rfl rfl rfl, fun j => ?_⟩
  show (Tab.get group0 (Tab.put group0 _ _ _) _).run = _
  rw [Tab.get_put]
  split
  next e => rw [e, hx]
  next => rfl

theorem refuseWhen2_quiet (g : Nat) (h : SwapQuiet s0 s) : SwapQuiet s0 (s.refuseWhen2 g) :=
  quiet_foldl (setGroup_quiet (x := { s.group g with timed := (s.group g).timed.filter (fun r => decide (r.when_ ≠ 2)) }) rfl h) _
    fun _ _ _ ht => finishRef_quiet _ _ _ ht

theorem dropSched_quiet (g : Nat) (h : SwapQuiet s0 s) : SwapQuiet s0 (s.dropSched g) := by
  have hgroup : SwapQuiet s0 (s.setGroup g { s.group g with sched := none }) := setGroup_quiet rfl h
  unfold State.dropSched
  dsimp only
  split
  · exact hgroup
  · exact refuseWhen2_quiet _ hgroup

theorem phaseEnds_quiet (g no : Nat) (ok : Bool) (h : SwapQuiet s0 s) : SwapQuiet s0 (s.phaseEnds g no ok) := by
  unfold State.phaseEnds
  dsimp only
  split
  · exact h
  · exact quiet_ite h (quiet_ite (quiet_ite (dropSched_quiet _ h) (setGroup_quiet rfl h))
      (quiet_ite (dropSched_quiet _ h) (setGroup_quiet rfl h)))

theorem reportSwap_quiet (g slot trigger : Nat) (ref : Option CmdRef) (retries no status flips ns : Nat) (failing : Option Nat)
    (h : SwapQuiet s0 s) : SwapQuiet s0 (s.reportSwap g slot trigger ref retries no status flips ns failing) := by
  have hraised (c : Nat × Nat) : SwapQuiet s0 (if status = stOK then s else
      s.raiseSt 0x4401 (srcGroup g) status [(18, 1, status), (19, 1, slot), (20, 1, trigger), (21, 1, c.1), (22, 1, c.2),
        (23, 1, retries)]) := quiet_ite h (books_quiet h (raiseSt_books _ _ _ _ (Books.refl s)))
  exact quiet_ite (finishRef_quiet _ _ _ h) (quiet_ite (phaseEnds_quiet _ _ _ (hraised _)) (hraised _))

end

/-! ### Abandonment (R135 step 5′) -/

theorem swapRes_fr (s : State) (q status slot trigger : Nat) (b : Bool) :
    Fr [] [COL_CTX_SWAPRES (matCol q) (matG q)] s (s.setSwapRes q status slot trigger b) :=
  have hk : COL_CTX_SWAPRES (matCol q) (matG q) ∈ [COL_CTX_SWAPRES (matCol q) (matG q)] := List.mem_singleton_self _
  fr_setFlag (f := COL_CTX_SWAPRES_NOT_QUIET (matCol q) (matG q)) (fr_set (f := COL_CTX_SWAPRES_TRIGGER (matCol q) (matG q))
    (fr_set (f := COL_CTX_SWAPRES_SLOT (matCol q) (matG q)) (fr_set (f := COL_CTX_SWAPRES_STATUS (matCol q) (matG q))
      (Fr.refl _ _ s) hk _) hk _) hk _) hk _

/-- Registers in which the end of a swap shows at a mat. -/
def swapEndKeys (q : Nat) : List Nat :=
  [COL_CTX_QUIETNS (matCol q) (matG q), COL_CTX_SWAPRES (matCol q) (matG q), COL_CTX_SWAPTOS (matCol q) (matG q),
    COL_CTX_SAT (matCol q) (matG q)]

theorem swapEndKeys_not_gate {q k : Nat} (h : k ∈ swapEndKeys q) : ¬GateBlock k := fun hg => by
  have hc := matCol_lt q
  have hm := matG_lt q
  simp only [swapEndKeys, COL_CTX_QUIETNS, COL_CTX_SWAPRES, COL_CTX_SWAPTOS, COL_CTX_SAT, List.mem_cons, List.not_mem_nil,
    or_false] at h
  unfold GateBlock at hg
  omega

/-- A member's part in an abandonment. -/
def State.memberAbandoned (s : State) (r : SwapRun) (status : Nat) (quiet : List (Nat × Nat)) (m : Nat) : State :=
  let q := s.physMat m
  let s := s.set (COL_CTX_QUIETNS_TIME (matCol q) (matG q)) (satBits 32 (quietNs quiet m 0xFFFF_FFFF))
  let s := s.setSwapRes q status r.slot r.trigger (!quiet.any (fun e => decide (e.1 = m)))
  if status = stSWAP_TIMEOUT then
    s.count (COL_CTX_SWAPTOS (matCol q) (matG q)) (COL_CTX_SAT_SWAPTOS (matCol q) (matG q)) 1
  else s

theorem memberAbandoned_fr (s : State) (r : SwapRun) (status : Nat) (quiet : List (Nat × Nat)) (m : Nat) :
    Fr [] (swapEndKeys (s.physMat m)) s (s.memberAbandoned r status quiet m) := by
  have hres : Fr [] (swapEndKeys (s.physMat m)) s ((s.set (COL_CTX_QUIETNS_TIME (matCol (s.physMat m)) (matG (s.physMat m)))
      (satBits 32 (quietNs quiet m 0xFFFF_FFFF))).setSwapRes (s.physMat m) status r.slot r.trigger
      (!quiet.any (fun e => decide (e.1 = m)))) :=
    (fr_set (Fr.refl _ _ s) (by simp [swapEndKeys, COL_CTX_QUIETNS_TIME]) _).trans
      ((swapRes_fr _ _ _ _ _ _).mono (by simp) (by simp [swapEndKeys]))
  exact fr_ite (fr_count hres (by simp [swapEndKeys]) (by simp [swapEndKeys, COL_CTX_SAT_SWAPTOS]) 1) hres

/-- The end of a swap as its members' registers and its report show it. -/
def State.swapReported (s : State) (g : Nat) (r : SwapRun) (status : Nat) (quiet : List (Nat × Nat)) (failing : Option Nat) : State :=
  ((r.mats.foldl (fun s m => s.memberAbandoned r status quiet m) s).askerRes r.asker r.mats status r.slot).reportSwap g r.slot
    r.trigger r.ref r.retries r.no status 0 0xFFFF failing

theorem abandonGroup_eq (s : State) (g : Nat) (r : SwapRun) (status : Nat) (quiet : List (Nat × Nat)) (bad : Option Nat) :
    ∃ failing, s.abandonGroup g r status quiet bad = ((s.setRun g none).resume r.mats).swapReported g r status quiet failing :=
  ⟨_, rfl⟩

section
variable {s0 s : State}

theorem askerRes_quiet (asker : Option Nat) (parts : List Nat) (status slot : Nat) (h : SwapQuiet s0 s) :
    SwapQuiet s0 (s.askerRes asker parts status slot) := by
  unfold State.askerRes
  split
  next m =>
    refine quiet_ite h (quiet_fr h (swapRes_fr s _ _ _ _ _) (by decide) (by decide) fun k hk => ?_)
    exact swapEndKeys_not_gate (q := s.physMat m) (by simp_all [swapEndKeys])
  next => exact h

theorem swapReported_quiet (g : Nat) (r : SwapRun) (status : Nat) (quiet : List (Nat × Nat)) (failing : Option Nat)
    (h : SwapQuiet s0 s) : SwapQuiet s0 (s.swapReported g r status quiet failing) :=
  reportSwap_quiet _ _ _ _ _ _ _ _ _ _ (askerRes_quiet _ _ _ _ (quiet_foldl h _ fun t m _ ht =>
    quiet_fr ht (memberAbandoned_fr t r status quiet m) (by decide) (by decide) fun _ => swapEndKeys_not_gate))

theorem sendTether_quiet (k kind v : Nat) (h : SwapQuiet s0 s) : SwapQuiet s0 (s.sendTether k kind v) :=
  quiet_ite (quiet_mk h (by rfl)) h

/-! ### What waits at a boundary (R147) -/

theorem checkDone_quiet (p : Nat) (h : SwapQuiet s0 s) : SwapQuiet s0 (s.checkDone p) := quiet_ite (quiet_mk h (by rfl)) h

theorem checkpoint_quiet (m : Nat) (h : SwapQuiet s0 s) : SwapQuiet s0 (s.checkpoint m) :=
  quiet_ite h (quiet_foldl h _ fun _ _ _ ht => quiet_mk ht (by rfl))

theorem onPacedQueues_quiet (p : Nat) (f : Queue → Queue) (h : SwapQuiet s0 s) : SwapQuiet s0 (s.onPacedQueues p f) := by
  refine quiet_foldl h _ fun t q _ ht => ?_
  unfold State.updQueue
  split
  · exact quiet_mk ht (by rfl)
  · exact ht

theorem boundaryRest_quiet (p : Nat) (h : SwapQuiet s0 s) : SwapQuiet s0 (s.boundaryRest p) := by
  unfold State.boundaryRest
  extract_lets x t u start v w
  have ht : SwapQuiet s0 t := quiet_foldl h _ fun _ _ _ hz => setRunning_quiet _ (checkpoint_quiet _ hz)
  have hu : SwapQuiet s0 u := onPacedQueues_quiet _ _ ht
  have hv : SwapQuiet s0 v := quiet_mk hu (by rfl)
  have hw : SwapQuiet s0 w := quiet_foldl hv _ fun _ _ _ hz => serveHeld_quiet _ hz
  clear_value w
  split
  · exact quiet_foldl hw _ fun _ _ _ hz => quiet_mk hz (by rfl)
  · exact hw

theorem afterSwap_quiet (b : Option Nat) (h : SwapQuiet s0 s) : SwapQuiet s0 (s.afterSwap b) := by
  unfold State.afterSwap
  split
  · exact quiet_ite (checkDone_quiet _ (boundaryRest_quiet _ h)) h
  · exact h

end

/-! ### A swap of a mat's group is abandoned (R91) -/

/-- The messages that tell the tethered devices of an abandonment. -/
def State.tethersTold (s : State) (g : Nat) (r : SwapRun) (status : Nat) : State :=
  r.strobed.foldl (fun s k => s.sendTether k 4 (g + status * 256)) (match r.lead with
    | some k => s.sendTether k 2 (g + status * 256)
    | none => s)

theorem abandonSwap_running {s : State} {g : Nat} {r : SwapRun} (hrun : (s.group g).run = some r) (status : Nat)
    (quiet : Option (List (Nat × Nat))) (bad : Option Nat) : ∃ l, s.abandonSwap g status quiet bad =
      (s.tethersTold g r status).abandonGroup g r status l bad := by
  unfold State.abandonSwap State.tethersTold State.leadAbandon
  rw [hrun]
  exact ⟨_, rfl⟩

theorem tethersTold_quiet (s : State) (g : Nat) (r : SwapRun) (status : Nat) : SwapQuiet s (s.tethersTold g r status) := by
  refine quiet_foldl ?_ _ fun _ _ _ ht => sendTether_quiet _ _ _ ht
  split
  · exact sendTether_quiet _ _ _ (SwapQuiet.refl s)
  · exact SwapQuiet.refl s

theorem gateKept_abandonGroup (s : State) (g : Nat) (r : SwapRun) (status : Nat) (quiet : List (Nat × Nat)) (bad : Option Nat) :
    GateKept s (s.abandonGroup g r status quiet bad) := by
  obtain ⟨failing, e⟩ := abandonGroup_eq s g r status quiet bad
  rw [e]
  exact (gateKept_of_regs (s := s) (t := s.setRun g none) rfl rfl rfl).trans
    (swapReported_quiet _ _ _ _ _ (resume_quiet _ (SwapQuiet.refl _))).gate

theorem gateKept_abandonSwap (s : State) (g status : Nat) (quiet : Option (List (Nat × Nat))) (bad : Option Nat) :
    GateKept s (s.abandonSwap g status quiet bad) := by
  cases hrun : (s.group g).run with
  | none =>
    unfold State.abandonSwap
    rw [hrun]
    exact GateKept.refl s
  | some r =>
    obtain ⟨l, e⟩ := abandonSwap_running hrun status quiet bad
    rw [e]
    exact (tethersTold_quiet s g r status).gate.trans (gateKept_abandonGroup _ _ _ _ _ _)

theorem gateKept_failSwapOf (s : State) (p : Nat) : GateKept s (s.failSwapOf p) := by
  unfold State.failSwapOf
  split
  · exact (gateKept_abandonSwap s _ _ _ _).trans (afterSwap_quiet _ (SwapQuiet.refl _)).gate
  · exact GateKept.refl s

/-- The swap in progress of a group is over once it has been abandoned. -/
theorem run_abandonGroup (s : State) (g : Nat) (r : SwapRun) (status : Nat) (quiet : List (Nat × Nat)) (bad : Option Nat) :
    ((s.abandonGroup g r status quiet bad).group g).run = none := by
  obtain ⟨failing, e⟩ := abandonGroup_eq s g r status quiet bad
  have hrun : ((s.setRun g none).group g).run = none := by
    show (Tab.get group0 (Tab.put group0 _ _ _) _).run = _
    rw [Tab.get_put, if_pos rfl]
  rw [e, (swapReported_quiet _ _ _ _ _ (resume_quiet _ (SwapQuiet.refl _))).runs, hrun]

/-! ### What the members show of an abandonment -/

/-- COL_CTX_SWAPRES of a mat's place shows a status and a slot. -/
def ShowsEnd (s : State) (c g status slot : Nat) : Prop :=
  s.get (COL_CTX_SWAPRES_STATUS c g) = status ∧ s.get (COL_CTX_SWAPRES_SLOT c g) = slot

theorem ShowsEnd.fr {ps : List Part} {ks : List Nat} {s t : State} {c g status slot : Nat} (h : ShowsEnd s c g status slot)
    (k : Fr ps ks s t) (hk : COL_CTX_SWAPRES c g ∉ ks) : ShowsEnd t c g status slot :=
  ⟨(k.get (f := COL_CTX_SWAPRES_STATUS c g) hk).trans h.1, (k.get (f := COL_CTX_SWAPRES_SLOT c g) hk).trans h.2⟩

theorem showsEnd_setSwapRes_self (s : State) (q : Nat) {status slot : Nat} (hstatus : status < 256) (hslot : slot < 4)
    (trigger : Nat) (b : Bool) : ShowsEnd (s.setSwapRes q status slot trigger b) (matCol q) (matG q) status slot := by
  have happ (f g : Fld) (h : f.lo + f.w ≤ g.lo ∨ g.lo + g.w ≤ f.lo) : fldsApart f g = true := (fldsApart_iff _ _).mpr (.inr h)
  unfold State.setSwapRes
  constructor
  · rw [State.get_setFlag_apart _ (happ _ _ (by simp [COL_CTX_SWAPRES_STATUS, COL_CTX_SWAPRES_NOT_QUIET])),
      State.get_set_apart _ (happ _ _ (by simp [COL_CTX_SWAPRES_STATUS, COL_CTX_SWAPRES_TRIGGER])),
      State.get_set_apart _ (happ _ _ (by simp [COL_CTX_SWAPRES_STATUS, COL_CTX_SWAPRES_SLOT])),
      State.get_set_self _ _ (by simp [COL_CTX_SWAPRES_STATUS])]
    exact Nat.mod_eq_of_lt hstatus
  · rw [State.get_setFlag_apart _ (happ _ _ (by simp [COL_CTX_SWAPRES_SLOT, COL_CTX_SWAPRES_NOT_QUIET])),
      State.get_set_apart _ (happ _ _ (by simp [COL_CTX_SWAPRES_SLOT, COL_CTX_SWAPRES_TRIGGER])),
      State.get_set_self _ _ (by simp [COL_CTX_SWAPRES_SLOT])]
    exact Nat.mod_eq_of_lt hslot

/-- The end of a swap shown at one mat stands at the mats that show it already. -/
theorem showsEnd_setSwapRes {s : State} {c g status slot : Nat} (hstatus : status < 256) (hslot : slot < 4)
    (h : ShowsEnd s c g status slot) (q trigger : Nat) (b : Bool) :
    ShowsEnd (s.setSwapRes q status slot trigger b) c g status slot := by
  by_cases hq : COL_CTX_SWAPRES c g = COL_CTX_SWAPRES (matCol q) (matG q)
  · obtain ⟨hs, hl⟩ := showsEnd_setSwapRes_self s q hstatus hslot trigger b
    have e1 : COL_CTX_SWAPRES_STATUS c g = COL_CTX_SWAPRES_STATUS (matCol q) (matG q) := by
      simp [COL_CTX_SWAPRES_STATUS, hq]
    have e2 : COL_CTX_SWAPRES_SLOT c g = COL_CTX_SWAPRES_SLOT (matCol q) (matG q) := by
      simp [COL_CTX_SWAPRES_SLOT, hq]
    exact ⟨e1 ▸ hs, e2 ▸ hl⟩
  · exact h.fr (swapRes_fr s q status slot trigger b) (by simp [hq])

theorem swapRes_alone (c g d e : Nat) : COL_CTX_SWAPRES c g ≠ COL_CTX_QUIETNS d e ∧
    COL_CTX_SWAPRES c g ∉ [COL_CTX_SWAPTOS d e, COL_CTX_SAT d e] := by
  simp only [COL_CTX_SWAPRES, COL_CTX_QUIETNS, COL_CTX_SWAPTOS, COL_CTX_SAT, List.mem_cons, List.not_mem_nil, or_false]
  omega

theorem showsEnd_memberAbandoned {s : State} {r : SwapRun} {status c g m : Nat} (hstatus : status < 256) (hslot : r.slot < 4)
    (quiet : List (Nat × Nat))
    (h : (c = matCol (s.physMat m) ∧ g = matG (s.physMat m)) ∨ ShowsEnd s c g status r.slot) :
    ShowsEnd (s.memberAbandoned r status quiet m) c g status r.slot := by
  obtain ⟨hquiet, hcount⟩ := swapRes_alone c g (matCol (s.physMat m)) (matG (s.physMat m))
  have hres (b : Bool) : ShowsEnd ((s.set (COL_CTX_QUIETNS_TIME (matCol (s.physMat m)) (matG (s.physMat m)))
      (satBits 32 (quietNs quiet m 0xFFFF_FFFF))).setSwapRes (s.physMat m) status r.slot r.trigger b) c g status r.slot := by
    obtain ⟨rfl, rfl⟩ | h := h
    · exact showsEnd_setSwapRes_self _ _ hstatus hslot _ _
    · exact showsEnd_setSwapRes hstatus hslot (h.fr (fr_set (ps := []) (Fr.refl _ _ s) (List.mem_singleton_self _) _) (by
        simpa [COL_CTX_QUIETNS_TIME] using hquiet)) _ _ _
  unfold State.memberAbandoned
  dsimp only
  split
  · exact (hres _).fr (fr_count (ps := []) (Fr.refl _ _ _) (List.mem_cons_self ..)
      (List.mem_cons_of_mem _ (List.mem_singleton_self _)) 1) hcount
  · exact hres _

theorem showsEnd_members {r : SwapRun} {status m q : Nat} (hstatus : status < 256) (hslot : r.slot < 4)
    (quiet : List (Nat × Nat)) (l : List Nat) (s : State) (hq : s.physMat m = q)
    (h : m ∈ l ∨ ShowsEnd s (matCol q) (matG q) status r.slot) :
    ShowsEnd (l.foldl (fun s m => s.memberAbandoned r status quiet m) s) (matCol q) (matG q) status r.slot := by
  induction l generalizing s with
  | nil => exact h.resolve_left (by simp)
  | cons n l ih =>
    have hmnt : (s.memberAbandoned r status quiet n).mnt.matMap = s.mnt.matMap :=
      (congrArg MntState.matMap ((memberAbandoned_fr s r status quiet n).frame.part .mnt (by decide)) :)
    refine ih _ (by rw [← hq]; unfold State.physMat; rw [hmnt]) ?_
    by_cases hn : m = n
    · subst hn
      exact .inr (showsEnd_memberAbandoned hstatus hslot quiet (.inl (by rw [hq]; exact ⟨rfl, rfl⟩)))
    · exact h.imp (fun hm => (List.mem_cons.mp hm).resolve_left hn) fun hs =>
        showsEnd_memberAbandoned hstatus hslot quiet (.inr hs)

theorem showsEnd_askerRes {s : State} {c g status slot : Nat} (hstatus : status < 256) (hslot : slot < 4) (asker : Option Nat)
    (parts : List Nat) (h : ShowsEnd s c g status slot) : ShowsEnd (s.askerRes asker parts status slot) c g status slot := by
  unfold State.askerRes
  split
  · split
    · exact h
    · exact showsEnd_setSwapRes hstatus hslot h _ _ _
  · exact h

/-! ### The report's frame -/

/-- Parts that the report of a swap's end may change. -/
def reportParts : List Part := .ctx :: .cmds :: evParts

section
variable {s0 s : State}

theorem setGroup_report {g : Nat} {x : Group} (h : Fr reportParts bookKeys s0 s) : Fr reportParts bookKeys s0 (s.setGroup g x) :=
  fr_ctx h (by simp [reportParts]) _

theorem finishRef_report (r : Option CmdRef) (status : Nat) (result : Word) (h : Fr reportParts bookKeys s0 s) :
    Fr reportParts bookKeys s0 (s.finishRef r status result) := by
  cases r with
  | none => exact h
  | some r => exact fr_finish h (by simp [reportParts]) (List.Subset.refl _) r status result

theorem dropSched_report (g : Nat) (h : Fr reportParts bookKeys s0 s) : Fr reportParts bookKeys s0 (s.dropSched g) := by
  unfold State.dropSched
  dsimp only
  split
  · exact setGroup_report h
  · exact fr_foldl (setGroup_report (setGroup_report h)) (fun _ _ ht => finishRef_report _ _ _ ht) _

theorem phaseEnds_report (g no : Nat) (ok : Bool) (h : Fr reportParts bookKeys s0 s) :
    Fr reportParts bookKeys s0 (s.phaseEnds g no ok) := by
  unfold State.phaseEnds
  dsimp only
  split
  · exact h
  · exact fr_ite h (fr_ite (fr_ite (dropSched_report _ h) (setGroup_report h)) (fr_ite (dropSched_report _ h) (setGroup_report h)))

theorem reportSwap_report (g slot trigger : Nat) (ref : Option CmdRef) (retries no status flips ns : Nat) (failing : Option Nat)
    (h : Fr reportParts bookKeys s0 s) :
    Fr reportParts bookKeys s0 (s.reportSwap g slot trigger ref retries no status flips ns failing) := by
  have hraised (c : Nat × Nat) : Fr reportParts bookKeys s0 (if status = stOK then s else
      s.raiseSt 0x4401 (srcGroup g) status [(18, 1, status), (19, 1, slot), (20, 1, trigger), (21, 1, c.1), (22, 1, c.2),
        (23, 1, retries)]) := fr_ite h (fr_books h (raiseSt_books _ _ _ _ (Books.refl s)) (by simp [reportParts]) (List.Subset.refl _))
  exact fr_ite (finishRef_report _ _ _ h) (fr_ite (phaseEnds_report _ _ _ (hraised _)) (hraised _))

end

theorem swapRes_not_book (c g : Nat) : COL_CTX_SWAPRES c g ∉ bookKeys :=
  not_mem_bookKeys (by unfold COL_CTX_SWAPRES; omega)

/-- Each member shows an abandoned swap's status and slot. -/
theorem showsEnd_abandonGroup (s : State) (g : Nat) {r : SwapRun} {status m : Nat} (hstatus : status < 256) (hslot : r.slot < 4)
    (quiet : List (Nat × Nat)) (bad : Option Nat) (hm : m ∈ r.mats) :
    ShowsEnd (s.abandonGroup g r status quiet bad) (matCol (s.physMat m)) (matG (s.physMat m)) status r.slot := by
  obtain ⟨failing, e⟩ := abandonGroup_eq s g r status quiet bad
  have hphys : ((s.setRun g none).resume r.mats).physMat m = s.physMat m :=
    ((gateKept_of_regs (s := s) (t := s.setRun g none) rfl rfl rfl).trans (resume_quiet r.mats (SwapQuiet.refl _)).gate).physMat m
  rw [e]
  exact (showsEnd_askerRes hstatus hslot r.asker r.mats (showsEnd_members hstatus hslot quiet r.mats _ hphys (.inl hm))).fr
    (reportSwap_report _ _ _ _ _ _ _ _ _ _ (Fr.refl _ _ _)) (swapRes_not_book _ _)

/-- A swap that no boundary waits for is abandoned in every member (R91). -/
theorem failSwapOf_running {s : State} {p g : Nat} {r : SwapRun} (hgroup : s.groupOf (s.logMat p) = some g)
    (hrun : (s.group g).run = some r) (hboundary : r.boundary = none) (hslot : r.slot < 4) :
    ((s.failSwapOf p).group g).run = none ∧ Abandoned s (s.failSwapOf p) r stHW_FAULT := by
  have hnone : s.runBoundary g = none := by
    unfold State.runBoundary
    rw [hrun]
    exact hboundary
  have hfail : s.failSwapOf p = s.abandonSwap g stHW_FAULT none (some p) := by
    unfold State.failSwapOf
    rw [hgroup]
    dsimp only
    rw [hnone]
    rfl
  have hkept := gateKept_failSwapOf s p
  have htold := tethersTold_quiet s g r stHW_FAULT
  obtain ⟨l, e⟩ := abandonSwap_running hrun stHW_FAULT none (some p)
  refine ⟨by rw [hfail, e]; exact run_abandonGroup _ _ _ _ _ _, fun m hm => ⟨hkept.active _, ?_⟩⟩
  have hshown := showsEnd_abandonGroup (s.tethersTold g r stHW_FAULT) g (status := stHW_FAULT) (by decide) hslot l (some p) hm
  rw [← e, ← hfail, htold.gate.physMat m] at hshown
  exact hshown

end Sys2Proof.Machine
end

section
/-! PROOF.  The fabric's rows (R60 to R92, R142). -/

namespace Sys2Proof.Machine

open Sys2Proof

/-! ### An illegal code (R89 to R91) -/

/-- An illegal code's place, in the mat's fabric and in COL_GATE_ILLEGAL. -/
def State.illegalPlaced (s : State) (m w i : Nat) : State :=
  ((s.setFab m { s.fab m with bad := if (w, i) ∈ (s.fab m).bad then (s.fab m).bad else (s.fab m).bad ++ [(w, i)] }).setFlag
    (gILLEGAL m) true).wr (COL_GATE_ILLEGAL (matCol m) (matG m)) (BitVec.ofNat 32 (w + i * 16 + s.activeSlot m * 16384))

def State.illegalCounted (s : State) (m : Nat) : State :=
  s.count (COL_GATE_ILLEGALS (matCol m) (matG m)) (COL_GATE_SAT_ILLEGALS (matCol m) (matG m)) 1

/-- The report of an illegal code, with the slot that was active. -/
def State.illegalTold (s : State) (m w i slot : Nat) : State :=
  s.reportFault (matLayer m) (matCol m) (if w = 1 then .channel (matG m) (i % 64) else .mat (matG m)) 0x8201
    (srcMat m (illegalSub w)) [(18, 1, w), (19, 1, slot), (20, 2, i)]

/-- What an illegal code asks for: its channel is disabled, or the mat is to be moved. -/
def State.illegalReported (s : State) (m w i slot : Nat) : State :=
  if w = 1 then (s.illegalTold m w i slot).setFlag (chDisFld m (i % 64)) true else (s.illegalTold m w i slot).wantReloc m

/-- An illegal code as it is noted, before a swap of the mat's group is abandoned. -/
def State.illegalNoted (s : State) (m w i : Nat) : State :=
  ((s.illegalPlaced m w i).illegalCounted m).illegalReported m w i (s.activeSlot m)

theorem illegalAt_eq (s : State) (m w i : Nat) : s.illegalAt m w i = (s.illegalNoted m w i).failSwapOf m := rfl

/-- Registers that an illegal code's place and count stand in. -/
def illegalKeys (m : Nat) : List Nat :=
  [(gILLEGAL m).reg, COL_GATE_ILLEGAL (matCol m) (matG m), COL_GATE_ILLEGALS (matCol m) (matG m),
    (COL_GATE_SAT_ILLEGALS (matCol m) (matG m)).reg, COL_GATE_CHDIS_LO (matCol m) (matG m), COL_GATE_CHDIS_HI (matCol m) (matG m)]

/-- Registers that the report of an illegal code writes. -/
def illegalReportKeys (m : Nat) : List Nat :=
  [COL_GATE_CHDIS_LO (matCol m) (matG m), COL_GATE_CHDIS_HI (matCol m) (matG m)] ++ (supKeys (matLayer m) ++ bookKeys)

theorem illegalPlaced_fr (s : State) (m w i : Nat) : Fr [.ctx] (illegalKeys m) s (s.illegalPlaced m w i) :=
  fr_wr (fr_setFlag (fr_ctx (Fr.refl _ _ s) (by simp) _) (by simp [illegalKeys]) true) (by simp [illegalKeys]) _

theorem illegalCounted_fr (s : State) (m : Nat) : Fr [] [COL_GATE_ILLEGALS (matCol m) (matG m),
    (COL_GATE_SAT_ILLEGALS (matCol m) (matG m)).reg] s (s.illegalCounted m) := fr_count (Fr.refl _ _ s) (by simp) (by simp) 1

theorem illegalTold_fr (s : State) (m w i slot : Nat) :
    Fr (.col :: evParts) (supKeys (matLayer m) ++ bookKeys) s (s.illegalTold m w i slot) := reportFault_fr _ _ _ _ _ _ _

theorem illegalReported_fr (s : State) (m w i slot : Nat) :
    Fr (.mnt :: .col :: evParts) (illegalReportKeys m) s (s.illegalReported m w i slot) := by
  have htold := (illegalTold_fr s m w i slot).mono (qs := .mnt :: .col :: evParts) (ls := illegalReportKeys m)
    (by simp) (List.subset_append_right _ _)
  refine fr_ite (fr_setFlag htold ?_ true) (htold.trans ((wantReloc_fr _ m).mono (by simp) (by simp)))
  obtain e | e := chDisFld_reg m (i % 64) <;> simp [illegalReportKeys, e]

/-- A frame without the activities' part keeps where the mats lie. -/
theorem Fr.matMap {ps : List Part} {ks : List Nat} {s t : State} (h : Fr ps ks s t) (hp : Part.mnt ∉ ps) :
    t.mnt.matMap = s.mnt.matMap := (congrArg MntState.matMap (h.frame.part .mnt hp) :)

/-- What a report leaves of the relocations and of where the mats lie. -/
theorem mnt_illegalReported (s : State) (m w i slot : Nat) :
    (w = 1 → (s.illegalReported m w i slot).mnt.wanted = s.mnt.wanted) ∧
      (s.illegalReported m w i slot).mnt.matMap = s.mnt.matMap := by
  have htold := illegalTold_fr s m w i slot
  unfold State.illegalReported
  by_cases hw : w = 1
  · rw [if_pos hw]
    exact ⟨fun _ => htold.wanted (by decide), htold.matMap (by decide)⟩
  · rw [if_neg hw]
    exact ⟨fun h => absurd h hw, htold.matMap (by decide)⟩

/-- A register of the gates is not among those of a report, but for CHDIS. -/
theorem gate_not_report {m k : Nat} (hk : GateBlock k) (hlo : k ≠ COL_GATE_CHDIS_LO (matCol m) (matG m))
    (hhi : k ≠ COL_GATE_CHDIS_HI (matCol m) (matG m)) : k ∉ illegalReportKeys m := fun h => by
  simp only [illegalReportKeys, List.mem_append, List.mem_cons, List.not_mem_nil, or_false] at h
  obtain (h | h) | h | h := h
  · exact hlo h
  · exact hhi h
  · have := supKeys_le h
    unfold GateBlock at hk
    omega
  · exact book_not_gate h hk

theorem gateIllegal_block (m : Nat) : GateBlock (COL_GATE_ILLEGAL (matCol m) (matG m)) ∧
    GateBlock (COL_GATE_ILLEGALS (matCol m) (matG m)) ∧ ∀ h, GateBlock (chDisFld m h).reg := by
  have hc := matCol_lt m
  have hg := matG_lt m
  refine ⟨?_, ?_, fun h => ?_⟩
  · unfold GateBlock COL_GATE_ILLEGAL
    omega
  · unfold GateBlock COL_GATE_ILLEGALS
    omega
  · obtain e | e := chDisFld_reg m h <;> rw [e]
    · unfold GateBlock COL_GATE_CHDIS_LO
      omega
    · unfold GateBlock COL_GATE_CHDIS_HI
      omega

/-- None of these registers is a COL_GATE_STATUS. -/
theorem gateIllegal_not_status (m c g : Nat) : COL_GATE_ILLEGAL (matCol m) (matG m) ≠ COL_GATE_STATUS c g ∧
    COL_GATE_ILLEGALS (matCol m) (matG m) ≠ COL_GATE_STATUS c g ∧ ∀ h, (chDisFld m h).reg ≠ COL_GATE_STATUS c g := by
  refine ⟨?_, ?_, fun h => ?_⟩
  · unfold COL_GATE_ILLEGAL COL_GATE_STATUS
    omega
  · unfold COL_GATE_ILLEGALS COL_GATE_STATUS
    omega
  · obtain e | e := chDisFld_reg m h <;> rw [e]
    · unfold COL_GATE_CHDIS_LO COL_GATE_STATUS
      omega
    · unfold COL_GATE_CHDIS_HI COL_GATE_STATUS
      omega

/-- A field of COL_GATE_STATUS stands while an illegal code is counted and reported. -/
theorem get_status_illegalNoted (s : State) (m w i q : Nat) {f : Fld} (hf : f.reg = COL_GATE_STATUS (matCol q) (matG q)) :
    (s.illegalNoted m w i).get f = (s.illegalPlaced m w i).get f := by
  have hblock : GateBlock f.reg := hf ▸ gateStatus_block q
  have hcount : f.reg ∉ [COL_GATE_ILLEGALS (matCol m) (matG m), (COL_GATE_SAT_ILLEGALS (matCol m) (matG m)).reg] := by
    rw [hf]
    show COL_GATE_STATUS (matCol q) (matG q) ∉ [COL_GATE_ILLEGALS (matCol m) (matG m), COL_GATE_SAT (matCol m) (matG m)]
    simp only [COL_GATE_STATUS, COL_GATE_ILLEGALS, COL_GATE_SAT, List.mem_cons, List.not_mem_nil, or_false]
    omega
  refine ((illegalReported_fr _ m w i _).get (gate_not_report hblock ?_ ?_)).trans ((illegalCounted_fr _ m).get hcount)
  · rw [hf]
    unfold COL_GATE_STATUS COL_GATE_CHDIS_LO
    omega
  · rw [hf]
    unfold COL_GATE_STATUS COL_GATE_CHDIS_HI
    omega

theorem illegal_illegalNoted (s : State) (m w i : Nat) : (s.illegalNoted m w i).flag (gILLEGAL m) = true := by
  have hplaced : (s.illegalPlaced m w i).flag (gILLEGAL m) = true := by
    have hne : (gILLEGAL m).reg ≠ COL_GATE_ILLEGAL (matCol m) (matG m) := by
      show COL_GATE_STATUS _ _ ≠ _
      unfold COL_GATE_STATUS COL_GATE_ILLEGAL
      omega
    have hset := State.flag_setFlag_self (s.setFab m { s.fab m with
      bad := if (w, i) ∈ (s.fab m).bad then (s.fab m).bad else (s.fab m).bad ++ [(w, i)] }) (gILLEGAL m)
      (by simp [gILLEGAL, COL_GATE_STATUS_ILLEGAL]) rfl true
    unfold State.flag at hset ⊢
    rw [State.illegalPlaced, State.get_wr_ne _ hne]
    exact hset
  unfold State.flag at hplaced ⊢
  rw [get_status_illegalNoted s m w i m rfl]
  exact hplaced

theorem active_illegalNoted (s : State) (m w i q : Nat) : (s.illegalNoted m w i).activeSlot q = s.activeSlot q := by
  have hne : (gACTIVE q).reg ≠ COL_GATE_ILLEGAL (matCol m) (matG m) := by
    show COL_GATE_STATUS _ _ ≠ _
    unfold COL_GATE_STATUS COL_GATE_ILLEGAL
    omega
  unfold State.activeSlot
  rw [get_status_illegalNoted s m w i q rfl, State.illegalPlaced, State.get_wr_ne _ hne]
  exact State.get_setFlag_apart _ ((fldsApart_iff _ _).mpr (.inr (.inr (by show 0 + 2 ≤ 4; omega)))) _

theorem rd_illegalNoted (s : State) (m w i : Nat) :
    (s.illegalNoted m w i).rd (COL_GATE_ILLEGAL (matCol m) (matG m)) = BitVec.ofNat 32 (w + i * 16 + s.activeSlot m * 16384) ∧
    ((s.illegalNoted m w i).rd (COL_GATE_ILLEGALS (matCol m) (matG m))).toNat =
      min 0xFFFFFFFF ((s.rd (COL_GATE_ILLEGALS (matCol m) (matG m))).toNat + 1) := by
  obtain ⟨hillegal, hillegals, -⟩ := gateIllegal_block m
  constructor
  · rw [State.illegalNoted, (illegalReported_fr _ m w i _).frame.reg _ (gate_not_report hillegal
        (by unfold COL_GATE_ILLEGAL COL_GATE_CHDIS_LO; omega) (by unfold COL_GATE_ILLEGAL COL_GATE_CHDIS_HI; omega)),
      (illegalCounted_fr _ m).frame.reg]
    · exact State.rd_wr_self ..
    · show COL_GATE_ILLEGAL (matCol m) (matG m) ∉ [COL_GATE_ILLEGALS (matCol m) (matG m), COL_GATE_SAT (matCol m) (matG m)]
      simp only [COL_GATE_ILLEGAL, COL_GATE_ILLEGALS, COL_GATE_SAT, List.mem_cons, List.not_mem_nil, or_false]
      omega
  · rw [State.illegalNoted, (illegalReported_fr _ m w i _).frame.reg _ (gate_not_report hillegals
        (by unfold COL_GATE_ILLEGALS COL_GATE_CHDIS_LO; omega) (by unfold COL_GATE_ILLEGALS COL_GATE_CHDIS_HI; omega))]
    have hcount : (((s.illegalPlaced m w i).illegalCounted m).rd (COL_GATE_ILLEGALS (matCol m) (matG m))).toNat =
        min 0xFFFFFFFF (((s.illegalPlaced m w i).rd (COL_GATE_ILLEGALS (matCol m) (matG m))).toNat + 1) :=
      rd_count _ _ _ (by show COL_GATE_SAT _ _ ≠ _; unfold COL_GATE_SAT COL_GATE_ILLEGALS; omega) (by decide)
    have hplaced : (s.illegalPlaced m w i).rd (COL_GATE_ILLEGALS (matCol m) (matG m)) =
        s.rd (COL_GATE_ILLEGALS (matCol m) (matG m)) := by
      rw [State.illegalPlaced, State.rd_wr_ne _ (by unfold COL_GATE_ILLEGALS COL_GATE_ILLEGAL; omega)]
      exact State.rd_set_ne _ (by show _ ≠ COL_GATE_STATUS _ _; unfold COL_GATE_ILLEGALS COL_GATE_STATUS; omega) _
    rw [hcount, hplaced]

/-- What an illegal code asks for. -/
theorem asked_illegalNoted (s : State) (m w i : Nat) :
    (w = 1 → (s.illegalNoted m w i).flag (chDisFld m (i % 64)) = true) ∧ (w ≠ 1 → m ∈ (s.illegalNoted m w i).mnt.wanted) ∧
      (w = 1 → (s.illegalNoted m w i).mnt.wanted = s.mnt.wanted) := by
  obtain ⟨hfits, hw⟩ := chDisFld_fits (m := m) (Nat.mod_lt i (by decide : 0 < 64))
  refine ⟨fun h => ?_, fun h => ?_, fun h => ?_⟩
  · rw [State.illegalNoted, State.illegalReported, if_pos h]
    exact State.flag_setFlag_self _ _ hfits hw true
  · rw [State.illegalNoted, State.illegalReported, if_neg h]
    exact mem_wanted_wantReloc _ m
  · rw [State.illegalNoted, (mnt_illegalReported _ m w i _).1 h, (illegalCounted_fr _ m).wanted (by decide),
      (illegalPlaced_fr s m w i).wanted (by decide)]

theorem illegalNoted_fr (s : State) (m w i : Nat) : Fr (.mnt :: .col :: .ctx :: evParts)
    (illegalKeys m ++ supKeys (matLayer m) ++ bookKeys) s (s.illegalNoted m w i) := by
  rw [List.append_assoc]
  refine (((illegalPlaced_fr s m w i).mono (by simp) (List.subset_append_left _ _)).trans ((illegalCounted_fr _ m).mono (by simp)
    (by simp [illegalKeys]))).trans ((illegalReported_fr _ m w i _).mono (by simp [evParts]) ?_)
  exact List.append_subset.mpr ⟨by simp [illegalKeys], List.subset_append_right _ _⟩

theorem ctx_illegalNoted (s : State) (m w i : Nat) : (s.illegalNoted m w i).ctx = (s.illegalPlaced m w i).ctx :=
  ((illegalReported_fr _ m w i _).frame.part .ctx (by decide)).trans ((illegalCounted_fr _ m).frame.part .ctx (by decide))

theorem bad_illegalNoted (s : State) (m w i : Nat) : (w, i) ∈ ((s.illegalNoted m w i).fab m).bad := by
  have hfab : (s.illegalNoted m w i).fab m = { s.fab m with
      bad := if (w, i) ∈ (s.fab m).bad then (s.fab m).bad else (s.fab m).bad ++ [(w, i)] } := by
    unfold State.fab
    rw [ctx_illegalNoted]
    exact fab_setFab_self s m _
  rw [hfab]
  dsimp only
  split
  next h => exact h
  next h => simp

theorem matMap_illegalNoted (s : State) (m w i : Nat) : (s.illegalNoted m w i).mnt.matMap = s.mnt.matMap := by
  rw [State.illegalNoted, (mnt_illegalReported _ m w i _).2, (illegalCounted_fr _ m).matMap (by decide),
    (illegalPlaced_fr s m w i).matMap (by decide)]

/-- The mats and groups stand while an illegal code is noted. -/
theorem places_illegalNoted (s : State) (m w i : Nat) : (s.illegalNoted m w i).physMat = s.physMat ∧
    (s.illegalNoted m w i).logMat = s.logMat ∧ (s.illegalNoted m w i).groupOf = s.groupOf ∧
    (s.illegalNoted m w i).group = s.group := by
  have hgroups : (s.illegalNoted m w i).ctx.groups = s.ctx.groups := by
    rw [ctx_illegalNoted]
    rfl
  refine ⟨?_, ?_, ?_, ?_⟩ <;> funext q
  · unfold State.physMat
    rw [matMap_illegalNoted]
  · unfold State.logMat State.physMat
    rw [matMap_illegalNoted]
  · unfold State.groupOf
    rw [hgroups]
  · unfold State.group
    rw [hgroups]

theorem GateKept.flag_chDis {s t : State} (h : GateKept s t) (m n : Nat) : t.flag (chDisFld m n) = s.flag (chDisFld m n) := by
  obtain ⟨-, -, hblock⟩ := gateIllegal_block m
  unfold State.flag State.get
  rw [h.regs _ (hblock n) fun c g => (gateIllegal_not_status m c g).2.2 n]

theorem illegalCode_row (s : State) (m : MatId) (w : Fin 5) (i : BitVec 10) :
    ∃ t, exec (.illegalCode m w i) s = .next t ∧ t.flag (gILLEGAL m.val) = true ∧
      t.rd (COL_GATE_ILLEGAL (matCol m.val) (matG m.val)) =
        BitVec.ofNat 32 (w.val + i.toNat * 16 + s.activeSlot m.val * 16384) ∧
      (t.rd (COL_GATE_ILLEGALS (matCol m.val) (matG m.val))).toNat =
        min 0xFFFFFFFF ((s.rd (COL_GATE_ILLEGALS (matCol m.val) (matG m.val))).toNat + 1) ∧
      (w = 1 → t.flag (chDisFld m.val (i.toNat % 64)) = true) ∧ (w ≠ 1 → m.val ∈ t.mnt.wanted) ∧
      (∀ g r, s.groupOf (s.logMat m.val) = some g → (s.group g).run = some r → r.boundary = none → SwapOk s r.mats r.slot →
        (t.group g).run = none ∧ Abandoned s t r stHW_FAULT) ∧
      (s.groupOf (s.logMat m.val) = none → (w.val, i.toNat) ∈ (t.fab m.val).bad ∧ (w = 1 → t.mnt.wanted = s.mnt.wanted) ∧
        Framed (.mnt :: .col :: .ctx :: evParts)
          ([(gILLEGAL m.val).reg, COL_GATE_ILLEGAL (matCol m.val) (matG m.val), COL_GATE_ILLEGALS (matCol m.val) (matG m.val),
            (COL_GATE_SAT_ILLEGALS (matCol m.val) (matG m.val)).reg, COL_GATE_CHDIS_LO (matCol m.val) (matG m.val),
            COL_GATE_CHDIS_HI (matCol m.val) (matG m.val)] ++ supKeys (matLayer m.val) ++ bookKeys) s t) := by
  have hone : w = 1 ↔ w.val = 1 := Fin.ext_iff
  have hkept := gateKept_failSwapOf (s.illegalNoted m.val w.val i.toNat) m.val
  obtain ⟨hrd, hcount⟩ := rd_illegalNoted s m.val w.val i.toNat
  obtain ⟨hdis, hwant, hsame⟩ := asked_illegalNoted s m.val w.val i.toNat
  obtain ⟨hphys, hlog, hgroupOf, hgroup⟩ := places_illegalNoted s m.val w.val i.toNat
  obtain ⟨hillegal, hillegals, -⟩ := gateIllegal_block m.val
  refine ⟨_, rfl, ?_, ?_, ?_, fun h => ?_, fun h => ?_, fun g r hg hrun hb hok => ?_, fun hnone => ?_⟩
  · exact (hkept.illegal m.val).trans (illegal_illegalNoted s _ _ _)
  · exact (hkept.regs _ hillegal fun c g => (gateIllegal_not_status m.val c g).1).trans hrd
  · exact (congrArg BitVec.toNat (hkept.regs _ hillegals fun c g => (gateIllegal_not_status m.val c g).2.1)).trans hcount
  · exact (hkept.flag_chDis _ _).trans (hdis (hone.mp h))
  · exact hkept.wanted.symm ▸ hwant fun e => h (hone.mpr e)
  · obtain ⟨hended, habandoned⟩ := failSwapOf_running (p := m.val) (by rw [hgroupOf, hlog]; exact hg) (by rw [hgroup]; exact hrun)
      hb hok.slot
    refine ⟨hended, fun n hn => ?_⟩
    obtain ⟨hactive, hshown⟩ := habandoned n hn
    rw [hphys] at hactive hshown
    exact ⟨hactive.trans (active_illegalNoted s _ _ _ _), hshown⟩
  · have hfail : (s.illegalNoted m.val w.val i.toNat).failSwapOf m.val = s.illegalNoted m.val w.val i.toNat := by
      unfold State.failSwapOf
      rw [hgroupOf, hlog, hnone]
    rw [illegalAt_eq, hfail]
    exact ⟨bad_illegalNoted s _ _ _, fun h => hsame (hone.mp h), (illegalNoted_fr s m.val w.val i.toNat).frame⟩

/-- Settles O37: row by row.  An illegal code is noted before a swap of the mat's group is abandoned, and the end of a swap leaves
what is noted (`gateKept_failSwapOf`). -/
theorem fabricRowsComplete : Obligations.FabricRowsComplete :=
  ⟨illegalCode_row, channelRetest_row, clockedNull_row, clockHeld_row, clockReleased_row, macOperation_row, drainToken_row⟩

end Sys2Proof.Machine
end

section
/-! SUPPORT.  DBG_REG accesses and the debug address space: what an access through the TAP leaves, and what it reads and
writes (R514, R519, R520). -/

namespace Sys2Proof.Machine

open Sys2Proof

/-! ### Accesses through the TAP -/

/-- The state whose debug port has just been accessed (R518). -/
def State.tapped (s : State) : State := { s with dbg := { s.dbg with lastAt := s.time } }

/-- The result that the next Capture-DR shows (R514). -/
def State.captured (s : State) (v : Reg) (err : Bool) : State :=
  { s with dbg := { s.dbg with capture := BitVec.ofNat 48 (v.toNat + b2n err * 2 ^ 43) } }

section
variable (s : State) (v : Reg) (err : Bool)

@[simp] theorem captured_rd (k : Nat) : (s.captured v err).rd k = s.rd k := by unfold State.captured; exact State.rd_mk s k
@[simp] theorem captured_get (f : Fld) : (s.captured v err).get f = s.get f := by unfold State.captured; exact State.get_mk s f
@[simp] theorem captured_flag (f : Fld) : (s.captured v err).flag f = s.flag f := by unfold State.captured; exact State.flag_mk s f
@[simp] theorem captured_bit (k i : Nat) : (s.captured v err).bit k i = s.bit k i := by unfold State.captured; exact State.bit_mk s k i
@[simp] theorem captured_core : (s.captured v err).core = s.core := by unfold State.captured; rfl
@[simp] theorem captured_ev : (s.captured v err).ev = s.ev := by unfold State.captured; rfl

end

theorem fr_dbg {ps : List Part} {ks : List Nat} {s0 s : State} (h : Fr ps ks s0 s) (hp : Part.dbg ∈ ps) (x : DbgState) :
    Fr ps ks s0 { s with dbg := x } := by
  have k : Fr [.dbg] ks s { s with dbg := x } := fr_mk (Fr.refl _ _ s) (by simp) rfl
  exact h.trans (k.mono (List.cons_subset.2 ⟨hp, List.nil_subset _⟩) (List.Subset.refl _))

theorem tapped_fr (s : State) : Fr [.dbg] [] s s.tapped := fr_dbg (Fr.refl _ _ s) (by simp) _

theorem captured_fr (s : State) (v : Reg) (err : Bool) : Fr [.dbg] [] s (s.captured v err) := fr_dbg (Fr.refl _ _ s) (by simp) _

theorem viaTap_off {s : State} (h : s.dev.off = true) (k : Nat) (body : State → State × Reg × Bool) : s.viaTap k body = s := by
  unfold State.viaTap
  rw [if_pos h]

theorem viaTap_beyond {s : State} {k : Nat} (h : s.dev.off = false) (hk : s.dbgReaches k = false)
    (body : State → State × Reg × Bool) : TapRefused s (s.viaTap k body) := by
  have e : s.viaTap k body = (s.tapped.captured 0 true).emit .debugRefused := by
    unfold State.viaTap
    rw [if_neg (by simp [h])]
    exact if_pos hk
  have hfr : Fr [.dbg, .out] [] s (s.tapped.captured 0 true) :=
    ((tapped_fr s).trans (captured_fr _ _ _)).mono (by simp) (by simp)
  rw [e]
  exact ⟨rfl, mem_emit_drop hfr.keeps.out _, (emit_fr hfr (by simp) _).frame⟩

theorem viaTap_reaches {s : State} {k : Nat} (h : s.dev.off = false) (hk : s.dbgReaches k = true)
    (body : State → State × Reg × Bool) :
    s.viaTap k body = (body s.tapped).1.captured (body s.tapped).2.1 (body s.tapped).2.2 := by
  unfold State.viaTap
  rw [if_neg (by simp [h])]
  exact if_neg (by rw [show ({ s with dbg := { s.dbg with lastAt := s.time } } : State).dbgReaches k = s.dbgReaches k from rfl, hk]; decide)

/-- The registers of a core and of the comparators are reached at level 2 (R515). -/
theorem dbgReaches_core (s : State) {k : Nat} (h : dbgRegister k = true) (hk : 0x3020 ≤ k ∧ k < 0x3060) :
    s.dbgReaches k = decide (s.dbgLevel = 2) := by
  unfold State.dbgReaches
  rw [h, decide_eq_true (show 0x3000 ≤ k ∧ k < 0x4000 by omega), decide_eq_false (show ¬(k ≤ 0x3008 ∨ 0x3400 ≤ k) by omega),
    decide_eq_true (show 0x3020 ≤ k ∧ k < 0x3060 from hk)]
  simp

/-! ### DBG_ACCESS -/

/-- DBG_ACCESS has been written; its access is still to be done. -/
def State.accessStored (s : State) (v : Reg) : State := s.tapped.plainWrite DBG_ACCESS v

theorem accessStored_fr (s : State) (v : Reg) : Fr [.dbg] [DBG_ACCESS] s (s.accessStored v) :=
  plainWrite_fr DBG_ACCESS v ((tapped_fr s).mono (List.Subset.refl _) (by simp)) (by simp)

theorem get_accessStored_core (s : State) (v : Reg) : (s.accessStored v).get DBG_ACCESS_CORE = fldGet v 1 3 :=
  get_plainWrite s.tapped (f := DBG_ACCESS_CORE) (by decide) v

theorem get_accessStored_size (s : State) (v : Reg) : (s.accessStored v).get DBG_ACCESS_SIZE = fldGet v 4 2 :=
  get_plainWrite s.tapped (f := DBG_ACCESS_SIZE) (by decide) v

theorem accessStored_rd (s : State) (v : Reg) {k : Nat} (h : k ≠ DBG_ACCESS) : (s.accessStored v).rd k = s.rd k :=
  (accessStored_fr s v).frame.reg k (by simpa using h)

theorem accessStored_rd64 (s : State) (v : Reg) : (s.accessStored v).rd64 DBG_DATA_LO DBG_DATA_HI = s.rd64 DBG_DATA_LO DBG_DATA_HI := by
  unfold State.rd64
  rw [accessStored_rd s v (by decide), accessStored_rd s v (by decide)]

theorem accessStored_level (s : State) (v : Reg) : (s.accessStored v).dbgLevel = s.dbgLevel :=
  (accessStored_fr s v).get (by decide)

/-- The enables of blocks lie in CLK_EN0 and CLK_EN1. -/
theorem gateBit_reg {k : Nat} {f : Fld} (h : gateBit k = some f) : f.reg = CLK_EN0 ∨ f.reg = CLK_EN1 := by
  unfold gateBit at h
  repeat' split at h
  all_goals simp only [Option.some.injEq, reduceCtorEq] at h
  all_goals
    subst h
    simp

theorem accessStored_gated (s : State) (v : Reg) (k : Nat) : (s.accessStored v).gated k = s.gated k := by
  unfold State.gated
  rw [show (s.accessStored v).crossingRefuses k = s.crossingRefuses k from rfl]
  split
  next f h => rw [(accessStored_fr s v).flag (by
      obtain e | e := gateBit_reg h <;> rw [e] <;> decide)]
  next => rfl

theorem accessStored_secretBank (s : State) (v : Reg) {b : Nat} (h : b < 2048) : (s.accessStored v).secretBank b = s.secretBank b :=
  (accessStored_fr s v).flag (f := ⟨SEC_SECRET_BANK (b / 32), b % 32, 1⟩) (by
    simp only [SEC_SECRET_BANK, DBG_ACCESS, List.mem_singleton]
    omega)

theorem bankStatus_ne_access (c i : Nat) : COL_BANK_STATUS c i ∉ [DBG_ACCESS] := by
  simp only [COL_BANK_STATUS, DBG_ACCESS, List.mem_singleton]
  omega

/-- What the performed access leaves behind: STATUS, and the data of a read. -/
def DbgRes.shown (r : DbgRes) : State := r.done.captured 0 false

theorem access_read {s : State} {v : Reg} (h : s.dev.off = false) (hr : s.dbgReaches DBG_ACCESS = true) (hop : fldGet v 6 2 = 1)
    (ecc : Ecc) : exec (.dbgAccessRead v ecc) s =
      .next ((s.accessStored v).dbgRead (s.rd DBG_ADDR).toNat (2 ^ fldGet v 4 2) ecc).shown := by
  change execDbgAccessRead v ecc s = _
  unfold execDbgAccessRead
  rw [if_pos hop, viaTap_reaches h hr]
  unfold State.dbgAccess
  dsimp only
  rw [hop, ← accessStored_rd s v (k := DBG_ADDR) (by decide), ← get_accessStored_size s v]
  rfl

theorem access_write {s : State} {v : Reg} (h : s.dev.off = false) (hr : s.dbgReaches DBG_ACCESS = true) (hop : fldGet v 6 2 = 2) :
    exec (.dbgAccessWrite v) s = .next ((s.accessStored v).dbgWrite (s.rd DBG_ADDR).toNat (2 ^ fldGet v 4 2)
      (s.rd64 DBG_DATA_LO DBG_DATA_HI)).shown := by
  change execDbgAccessWrite v s = _
  unfold execDbgAccessWrite
  rw [if_pos hop, viaTap_reaches h hr]
  unfold State.dbgAccess
  dsimp only
  rw [hop, ← accessStored_rd s v (k := DBG_ADDR) (by decide), ← get_accessStored_size s v, ← accessStored_rd64 s v]
  rfl

theorem shown_status (r : DbgRes) (h : r.status < 256) : r.shown.get DBG_ACCESS_STATUS = r.status := by
  have hset : (r.st.set DBG_ACCESS_STATUS r.status).get DBG_ACCESS_STATUS = r.status := by
    rw [State.get_set_self _ _ (by decide)]
    exact Nat.mod_eq_of_lt h
  unfold DbgRes.shown DbgRes.done
  change State.get (match r.data with | some v => _ | none => _) _ = _
  cases r.data with
  | none => exact hset
  | some d =>
    change ((State.wr _ DBG_DATA_LO _).wr DBG_DATA_HI _).get _ = _
    rw [State.get_wr_ne _ (by decide), State.get_wr_ne _ (by decide), hset]

theorem shown_rd64 (st : State) (x : Nat) (d : Word) : (DbgRes.mk st x (some d)).shown.rd64 DBG_DATA_LO DBG_DATA_HI = d := by
  change ((State.wr64 _ DBG_DATA_LO DBG_DATA_HI d)).rd64 _ _ = d
  unfold State.rd64 State.wr64
  rw [State.rd_wr_ne _ (by decide), State.rd_wr_self, State.rd_wr_self]
  refine BitVec.eq_of_getLsbD_eq fun i hi => ?_
  simp only [BitVec.getLsbD_or, BitVec.getLsbD_setWidth, BitVec.getLsbD_shiftLeft, BitVec.getLsbD_ushiftRight]
  by_cases hlo : i < 32
  · simp [hlo, hi]
  · simp [hlo, hi, show 32 + (i - 32) = i by omega, show i - 32 < 32 by omega, show i - 32 < 64 by omega]

theorem shown_rd_lo (st : State) (x : Nat) (d : Word) : (DbgRes.mk st x (some d)).shown.rd DBG_DATA_LO = d.setWidth 32 := by
  change ((State.wr _ DBG_DATA_LO _).wr DBG_DATA_HI _).rd DBG_DATA_LO = _
  rw [State.rd_wr_ne _ (by decide), State.rd_wr_self]

theorem shown_fr_none {ps : List Part} {ks : List Nat} {s0 st : State} (h : Fr ps ks s0 st) (hp : Part.dbg ∈ ps)
    (hk : DBG_ACCESS ∈ ks) (x : Nat) : Fr ps ks s0 (DbgRes.mk st x none).shown :=
  fr_dbg (fr_set (f := DBG_ACCESS_STATUS) h hk x) hp _

theorem shown_fr_some {ps : List Part} {ks : List Nat} {s0 st : State} (h : Fr ps ks s0 st) (hp : Part.dbg ∈ ps)
    (hk : DBG_ACCESS ∈ ks) (hlo : DBG_DATA_LO ∈ ks) (hhi : DBG_DATA_HI ∈ ks) (x : Nat) (d : Word) :
    Fr ps ks s0 (DbgRes.mk st x (some d)).shown :=
  fr_dbg (fr_wr64 (fr_set (f := DBG_ACCESS_STATUS) h hk x) hlo hhi d) hp _

/-! ### The bytes of a number in a memory -/

theorem length_leBytes (n v : Nat) : (leBytes n v).length = n := by
  induction n generalizing v with
  | zero => rfl
  | succ n ih => exact congrArg (· + 1) (ih (v / 256))

theorem getElem_leBytes {n i : Nat} (v : Nat) (h : i < n) : (leBytes n v)[i]? = some (BitVec.ofNat 8 (v / 256 ^ i)) := by
  induction n generalizing v i with
  | zero => omega
  | succ n ih =>
    cases i with
    | zero => simp [leBytes]
    | succ i =>
      have hstep := ih (v / 256) (i := i) (by omega)
      rw [Nat.div_div_eq_div_mul, ← Nat.pow_succ'] at hstep
      exact hstep

/-- A byte of a word. -/
theorem byte_of_word (w : Word) (i : Nat) : BitVec.ofNat 8 (w.toNat / 256 ^ i) = (w >>> (8 * i)).setWidth 8 := by
  apply BitVec.eq_of_toNat_eq
  rw [BitVec.toNat_ofNat, BitVec.toNat_setWidth, BitVec.toNat_ushiftRight, Nat.shiftRight_eq_div_pow, Nat.pow_mul]

theorem get_putBytes_outside (l : List Byte) (t : Tab Byte) (base : Nat) {x : Nat} (h : ∀ i, i < l.length → x ≠ base + i) :
    Tab.get byte0 (putBytes t base l) x = Tab.get byte0 t x := by
  induction l generalizing t base with
  | nil => rfl
  | cons b l ih =>
    rw [putBytes, ih _ _ fun i hi => ?_, Tab.get_put_ne _ _ (show x ≠ base from h 0 (by simp))]
    have := h (i + 1) (by simpa using hi)
    omega

theorem get_putBytes (l : List Byte) (t : Tab Byte) (base : Nat) {i : Nat} {b : Byte} (h : l[i]? = some b) :
    Tab.get byte0 (putBytes t base l) (base + i) = b := by
  induction l generalizing t base i with
  | nil => simp at h
  | cons c l ih =>
    cases i with
    | zero =>
      rw [putBytes, get_putBytes_outside _ _ _ fun j _ => by omega]
      simp_all
    | succ i =>
      rw [putBytes, show base + (i + 1) = base + 1 + i by omega]
      exact ih _ _ (by simpa using h)

/-- A memory after the bytes of a word have been written to it. -/
theorem get_putWordBytes (t : Tab Byte) (base n : Nat) (w : Word) :
    (∀ i, i < n → Tab.get byte0 (putBytes t base (leBytes n w.toNat)) (base + i) = (w >>> (8 * i)).setWidth 8) ∧
      (∀ x, (∀ i, i < n → x ≠ base + i) → Tab.get byte0 (putBytes t base (leBytes n w.toNat)) x = Tab.get byte0 t x) :=
  ⟨fun i hi => by rw [get_putBytes _ _ _ (getElem_leBytes _ hi), byte_of_word],
    fun x hx => get_putBytes_outside _ _ _ (by rwa [length_leBytes])⟩

/-! ### Reads of the debug address space (R519) -/

section

variable (s : State) {a n : Nat} (ecc : Ecc)

theorem dbgRead_badArg (h : dbgRangeOk a n = false) : s.dbgRead a n ecc = ⟨s, stBAD_ARG, none⟩ := by
  unfold State.dbgRead
  rw [if_pos h]

theorem dbgRead_reg (h : dbgRangeOk a n = true) (ha : 0x80000000 ≤ a) {k : Nat} (hk : k = a - 0x80000000) :
    s.dbgRead a n ecc = s.dbgRegRead k n ecc := by
  unfold State.dbgRead
  rw [if_neg (by simp [h]), if_pos ha, hk]

theorem dbgRead_level (h : dbgRangeOk a n = true) (ha : a < 0x80000000) (hl : s.dbgLevel < 2) :
    s.dbgRead a n ecc = ⟨s, stREFUSED, none⟩ := by
  unfold State.dbgRead
  rw [if_neg (by simp [h]), if_neg (by omega), if_pos hl]

theorem dbgRead_tcm (h : dbgRangeOk a n = true) (hl : 2 ≤ s.dbgLevel) (ha : a < 0x40000) : s.dbgRead a n ecc =
    ⟨s, stOK, some (BitVec.ofNat 64 (ofLeBytes (getBytes s.core.tcm (s.get DBG_ACCESS_CORE * 262144 + a) n)))⟩ := by
  unfold State.dbgRead
  rw [if_neg (by simp [h]), if_neg (by omega), if_neg (by omega), if_pos ha]

theorem dbgRead_sram (h : dbgRangeOk a n = true) (hl : 2 ≤ s.dbgLevel) (h1 : 0x10000000 ≤ a) (h2 : a < 0x20000000) :
    s.dbgRead a n ecc = ⟨s, stOK, some (BitVec.ofNat 64 (ofLeBytes (getBytes s.core.sram (a - 0x10000000) n)))⟩ := by
  unfold State.dbgRead
  rw [if_neg (by simp [h]), if_neg (by omega), if_neg (by omega), if_neg (by omega), if_pos h2]

/-- The word of a bank that a debug read finds, and the state after error correction has seen it. -/
def State.dbgBankWord (s : State) (a : Nat) (ecc : Ecc) : State × Word × Bool :=
  s.fresh.2.readBank (s.fresh.2.physBank ((a - 0x20000000) / 0x10000)) (a % 0x10000 / 8) ecc (s.fresh.1.toNat % 256)

theorem dbgRead_secret (h : dbgRangeOk a n = true) (hl : 2 ≤ s.dbgLevel) (h1 : 0x20000000 ≤ a) (h2 : a < 0x80000000)
    (hs : s.secretBank ((a - 0x20000000) / 0x10000) = true) : s.dbgRead a n ecc = ⟨s, stREFUSED, none⟩ := by
  unfold State.dbgRead
  rw [if_neg (by simp [h]), if_neg (by omega), if_neg (by omega), if_neg (by omega), if_neg (by omega)]
  exact if_pos hs

theorem dbgRead_bank (h : dbgRangeOk a n = true) (hl : 2 ≤ s.dbgLevel) (h1 : 0x20000000 ≤ a) (h2 : a < 0x80000000)
    (hs : s.secretBank ((a - 0x20000000) / 0x10000) = false) :
    s.dbgRead a n ecc = ⟨(s.dbgBankWord a ecc).1, stOK, some (s.dbgBankWord a ecc).2.1⟩ := by
  unfold State.dbgRead
  rw [if_neg (by simp [h]), if_neg (by omega), if_neg (by omega), if_neg (by omega), if_neg (by omega)]
  exact if_neg (by simp [hs])

/-- What a read of a bank's word gives: a poisoned word as it stands, one with an uncorrectable error as read, any other
corrected (R112, R113). -/
def readAs (x : MemWord) : Ecc → Word
  | .ue y _ => if x.poison then x.data else y
  | _ => x.data

theorem readBank_data (b w : Nat) (e : Nat) :
    (s.readBank b w ecc e).2.1 = readAs (s.word (s.serving b) w) ecc := by
  unfold State.readBank
  dsimp only
  cases hp : (s.word (s.serving b) w).poison <;> cases ecc <;> simp [readAs, hp]

theorem readBank_clean (b w : Nat) (e : Nat) : (s.readBank b w .clean e).1 = s := by
  unfold State.readBank
  dsimp only
  split <;> rfl

variable {k : Nat}

theorem dbgRegRead_badArg (h : (n ≠ 4 ∧ n ≠ 8) ∨ dbgRegister k = false ∨ (n = 8 ∧ dbgRegister (k + 4) = false)) :
    s.dbgRegRead k n ecc = ⟨s, stBAD_ARG, none⟩ := by
  unfold State.dbgRegRead
  exact if_pos h

theorem dbgRegRead_refused (hk : dbgRegister k = true)
    (h : (s.dbgLevel < 2 ∧ level1Reads k = false) ∨ s.gated k = true) : s.dbgRegRead k 4 ecc = ⟨s, stREFUSED, none⟩ := by
  unfold State.dbgRegRead
  dsimp only
  rw [if_neg (by simp [hk])]
  by_cases hl : s.dbgLevel < 2 ∧ (level1Reads k = false ∨ (4 = 8 ∧ level1Reads (k + 4) = false))
  · rw [if_pos hl]
  · rw [if_neg hl, if_pos (h.resolve_left fun hb => hl ⟨hb.1, .inl hb.2⟩)]

theorem dbgRegRead_read (hk : dbgRegister k = true) (hl : 2 ≤ s.dbgLevel ∨ level1Reads k = true) (hg : s.gated k = false)
    (hq : isQueData k = false) : s.dbgRegRead k 4 ecc = ⟨(s.readReg .debug (!s.flag DBG_ACCESS_SIDE) k).2, stOK,
      some ((s.readReg .debug (!s.flag DBG_ACCESS_SIDE) k).1.setWidth 64)⟩ := by
  unfold State.dbgRegRead
  dsimp only
  rw [if_neg (by simp [hk]), if_neg, if_neg (by simp [hg]), if_neg (by simp [hq])]
  · rfl
  · rintro ⟨h2, h | ⟨h, -⟩⟩
    · exact hl.elim (fun h3 => by omega) (fun h3 => by simp [h] at h3)
    · omega

/-! ### Writes of the debug address space (R519) -/

variable (w : Word)

theorem dbgWrite_badArg (h : dbgRangeOk a n = false) : s.dbgWrite a n w = ⟨s, stBAD_ARG, none⟩ := by
  unfold State.dbgWrite
  dsimp only
  rw [if_pos h]

theorem dbgWrite_level (h : dbgRangeOk a n = true) (hl : s.dbgLevel < 2) : s.dbgWrite a n w = ⟨s, stREFUSED, none⟩ := by
  unfold State.dbgWrite
  dsimp only
  rw [if_neg (by simp [h]), if_pos hl]

theorem dbgWrite_reg (h : dbgRangeOk a n = true) (hl : 2 ≤ s.dbgLevel) (ha : 0x80000000 ≤ a) {k : Nat}
    (hk : k = a - 0x80000000) : s.dbgWrite a n w = s.dbgRegWrite k n w := by
  unfold State.dbgWrite
  dsimp only
  rw [if_neg (by simp [h]), if_neg (by omega), if_pos ha, hk]

/-- The TCM of a core, or the shared SRAM, after a write of n bytes. -/
def State.tcmWritten (s : State) (base n : Nat) (w : Word) : State :=
  { s with core := { s.core with tcm := putBytes s.core.tcm base (leBytes n w.toNat) } }

def State.sramWritten (s : State) (base n : Nat) (w : Word) : State :=
  { s with core := { s.core with sram := putBytes s.core.sram base (leBytes n w.toNat) } }

theorem tcmWritten_fr (base : Nat) : Fr [.tcm] [] s (s.tcmWritten base n w) :=
  fr_mk (Fr.refl _ _ s) (keeps_mk (Keeps.refl s) List.prefix_rfl (Nat.le_refl _) rfl rfl id id (fun h => putBytes_wf h _ _) id id id) rfl

theorem sramWritten_fr (base : Nat) : Fr [.core] [] s (s.sramWritten base n w) :=
  fr_mk (Fr.refl _ _ s) (keeps_mk (Keeps.refl s) List.prefix_rfl (Nat.le_refl _) rfl rfl id id id (fun h => putBytes_wf h _ _) id id) rfl

theorem dbgWrite_tcm (h : dbgRangeOk a n = true) (hl : 2 ≤ s.dbgLevel) (ha : a < 0x40000) :
    s.dbgWrite a n w = ⟨s.tcmWritten (s.get DBG_ACCESS_CORE * 262144 + a) n w, stOK, none⟩ := by
  unfold State.dbgWrite
  dsimp only
  rw [if_neg (by simp [h]), if_neg (by omega), if_neg (by omega), if_pos ha]
  rfl

theorem dbgWrite_sram (h : dbgRangeOk a n = true) (hl : 2 ≤ s.dbgLevel) (h1 : 0x10000000 ≤ a) (h2 : a < 0x20000000) :
    s.dbgWrite a n w = ⟨s.sramWritten (a - 0x10000000) n w, stOK, none⟩ := by
  unfold State.dbgWrite
  dsimp only
  rw [if_neg (by simp [h]), if_neg (by omega), if_neg (by omega), if_neg (by omega), if_pos h2]
  rfl

theorem dbgWrite_bank (h : dbgRangeOk a n = true) (hl : 2 ≤ s.dbgLevel) (h1 : 0x20000000 ≤ a) (h2 : a < 0x80000000) :
    s.dbgWrite a n w =
      ⟨s.writeBank (s.physBank ((a - 0x20000000) / 0x10000)) (a % 0x10000 / 8) (wordOf w), stOK, none⟩ := by
  unfold State.dbgWrite
  dsimp only
  rw [if_neg (by simp [h]), if_neg (by omega), if_neg (by omega), if_neg (by omega), if_neg (by omega)]
  rfl

theorem dbgRegWrite_badArg (h : (n ≠ 4 ∧ n ≠ 8) ∨ dbgRegister k = false ∨ (n = 8 ∧ dbgRegister (k + 4) = false)) :
    s.dbgRegWrite k n w = ⟨s, stBAD_ARG, none⟩ := by
  unfold State.dbgRegWrite
  exact if_pos h

theorem dbgRegWrite_refused (hk : dbgRegister k = true) (h : s.gated k = true ∨ (0x3000 ≤ k ∧ k < 0x4000)) :
    s.dbgRegWrite k 4 w = ⟨s, stREFUSED, none⟩ := by
  unfold State.dbgRegWrite
  rw [if_neg (by simp [hk]), if_pos]
  exact h.elim .inl fun h => .inr (.inl h)

theorem dbgRegWrite_written (hk : dbgRegister k = true) (hg : s.gated k = false) (hd : ¬ (0x3000 ≤ k ∧ k < 0x4000))
    (hn : ¬ (SEC_PROV_NONCE 0 ≤ k ∧ k ≤ SEC_PROV_NONCE 15)) (hq : isQueData k = false) :
    s.dbgRegWrite k 4 w = ⟨s.writeAny .debug k (w.setWidth 32), stOK, none⟩ := by
  unfold State.dbgRegWrite
  rw [if_neg (by simp [hk]), if_neg (by simp only [hg, hd, hn]; decide), if_neg (by simp [hq])]
  rfl

end

/-- A bank word takes an access of 8 bytes; any access has 1, 2, 4 or 8. -/
theorem size_cases (v : Reg) : 2 ^ fldGet v 4 2 = 1 ∨ 2 ^ fldGet v 4 2 = 2 ∨ 2 ^ fldGet v 4 2 = 4 ∨ 2 ^ fldGet v 4 2 = 8 := by
  have h : fldGet v 4 2 < 4 := BitVec.isLt _
  generalize fldGet v 4 2 = x at h
  interval_cases x <;> decide

theorem dbgRangeOk_bank {a n : Nat} (h : dbgRangeOk a n = true) (h1 : 0x20000000 ≤ a) (h2 : a < 0x80000000) : a < 0x28000000 := by
  simp only [dbgRangeOk, Bool.and_eq_true, Bool.or_eq_true, decide_eq_true_eq] at h
  omega

/-! ### What an access leaves -/

/-- An access without data: its status, and nothing else changes. -/
theorem shown_refused (s : State) (v : Reg) {x : Nat} (hx : x < 256) :
    (DbgRes.mk (s.accessStored v) x none).shown.get DBG_ACCESS_STATUS = x ∧
      Framed [.dbg] [DBG_ACCESS] s (DbgRes.mk (s.accessStored v) x none).shown :=
  ⟨shown_status _ hx, (shown_fr_none (accessStored_fr s v) (by simp) (by simp) x).frame⟩

/-- A read that changes nothing but what the debug port shows. -/
theorem shown_plain (s : State) (v : Reg) (d : Word) :
    (DbgRes.mk (s.accessStored v) stOK (some d)).shown.get DBG_ACCESS_STATUS = stOK ∧
      (DbgRes.mk (s.accessStored v) stOK (some d)).shown.rd64 DBG_DATA_LO DBG_DATA_HI = d ∧
      Framed [.dbg] [DBG_ACCESS, DBG_DATA_LO, DBG_DATA_HI] s (DbgRes.mk (s.accessStored v) stOK (some d)).shown :=
  ⟨shown_status _ (show stOK < 256 by decide), shown_rd64 _ _ _,
    (shown_fr_some ((accessStored_fr s v).mono (by simp) (by simp)) (by simp) (by simp) (by simp) (by simp) _ d).frame⟩

/-- A read of a bank: the word as error correction gives it. -/
theorem shown_bank (s : State) (v : Reg) (a : Nat) (ecc : Ecc) {r : State × Word × Bool}
    (hr : r = (s.accessStored v).dbgBankWord a ecc) :
    (DbgRes.mk r.1 stOK (some r.2.1)).shown.get DBG_ACCESS_STATUS = stOK ∧
      (DbgRes.mk r.1 stOK (some r.2.1)).shown.rd64 DBG_DATA_LO DBG_DATA_HI =
        readAs (s.word (s.serving (s.physBank ((a - 0x20000000) / 0x10000))) (a % 0x10000 / 8)) ecc ∧
      (ecc = .clean → Framed [.dbg, .free] [DBG_ACCESS, DBG_DATA_LO, DBG_DATA_HI] s
        (DbgRes.mk r.1 stOK (some r.2.1)).shown) := by
  refine ⟨shown_status _ (show stOK < 256 by decide), ?_, fun he => ?_⟩
  · have hserving : (s.accessStored v).fresh.2.serving = s.serving :=
      funext fun b => serving_fr (accessStored_fr s v) bankStatus_ne_access b
    rw [shown_rd64, hr, State.dbgBankWord, readBank_data, hserving]
    rfl
  · have hst : r.1 = (s.accessStored v).fresh.2 := by rw [hr, he, State.dbgBankWord, readBank_clean]
    have hfresh : Fr [.dbg, .free] [DBG_ACCESS, DBG_DATA_LO, DBG_DATA_HI] s r.1 := by
      rw [hst]
      exact fr_mk ((accessStored_fr s v).mono (by simp) (by simp)) (State.fresh_keeps (accessStored_fr s v).keeps) rfl
    exact (shown_fr_some hfresh (by simp) (by simp) (by simp) (by simp) _ _).frame

/-- A write of a bank's word lands as any other write of it does (R112, R115). -/
theorem shown_bankWrite (s : State) (v : Reg) {b a : Nat} (ha : a < 8192) (w : Word) {t : State}
    (ht : t = (DbgRes.mk ((s.accessStored v).writeBank b a (wordOf w)) stOK none).shown) :
    t.get DBG_ACCESS_STATUS = stOK ∧ Wrote s t b a w ∧ Framed [.dbg, .words, .mem] [DBG_ACCESS] s t := by
  have hu := accessStored_fr s v
  have hcopies : (s.accessStored v).copiesOf b a = s.copiesOf b a := copiesOf_fr hu bankStatus_ne_access (by simp) b a
  have hword (c e : Nat) (he : e < 8192) : t.word c e = if (c, e) ∈ s.copiesOf b a then wordOf w else s.word c e := by
    rw [ht, ← hcopies]
    exact word_writeBank (s.accessStored v) ha he (wordOf w)
  have hmem : t.mem = { s.mem with words := t.mem.words, mirrored := (s.accessStored v).mirroredWith b a } := by
    rw [ht]
    exact writeBank_mem (s.accessStored v) b a (wordOf w)
  have hstate : (s.accessStored v).get (bankState b) = s.get (bankState b) := hu.get (bankStatus_ne_access _ _)
  refine ⟨ht ▸ shown_status _ (show stOK < 256 by decide), ⟨fun p hp => ?_, fun c e he hn => ?_, ?_, ?_⟩, ?_⟩
  · rw [hword p.1 p.2 (copiesOf_addr hp ▸ ha), if_pos hp]
  · rw [hword c e he, if_neg hn]
  · rw [hmem]
    change (s.accessStored v).mirroredWith b a = _
    unfold State.mirroredWith
    rw [hstate]
    rfl
  · rw [hmem]
  · rw [ht]
    exact (shown_fr_none (((hu.mono (qs := [.dbg, .words, .mem]) (by simp) (List.Subset.refl _)).trans
      ((writeBank_fr _ b a _).mono (by simp) (by simp)))) (by simp) (by simp) _).frame

/-! ### The rows DBG_ACCESS_READ and DBG_ACCESS_WRITE -/

theorem accessRead_none (s : State) (v : Reg) (ecc : Ecc) (h : s.dev.off = true ∨ fldGet v 6 2 ≠ 1) :
    exec (.dbgAccessRead v ecc) s = .next s := by
  change execDbgAccessRead v ecc s = _
  unfold execDbgAccessRead
  by_cases hop : fldGet v 6 2 = 1
  · rw [if_pos hop, viaTap_off (h.resolve_right fun hn => hn hop)]
  · rw [if_neg hop]

theorem accessWrite_none (s : State) (v : Reg) (h : s.dev.off = true ∨ fldGet v 6 2 ≠ 2) :
    exec (.dbgAccessWrite v) s = .next s := by
  change execDbgAccessWrite v s = _
  unfold execDbgAccessWrite
  by_cases hop : fldGet v 6 2 = 2
  · rw [if_pos hop, viaTap_off (h.resolve_right fun hn => hn hop)]
  · rw [if_neg hop]

theorem accessRead_beyond {s : State} {v : Reg} (h : s.dev.off = false) (hr : s.dbgReaches DBG_ACCESS = false)
    (hop : fldGet v 6 2 = 1) (ecc : Ecc) : ∃ t, exec (.dbgAccessRead v ecc) s = .next t ∧ TapRefused s t := by
  refine ⟨_, ?_, viaTap_beyond h hr fun s => (s.dbgAccess v ecc, 0, false)⟩
  change execDbgAccessRead v ecc s = _
  unfold execDbgAccessRead
  rw [if_pos hop]

theorem accessWrite_beyond {s : State} {v : Reg} (h : s.dev.off = false) (hr : s.dbgReaches DBG_ACCESS = false)
    (hop : fldGet v 6 2 = 2) : ∃ t, exec (.dbgAccessWrite v) s = .next t ∧ TapRefused s t := by
  refine ⟨_, ?_, viaTap_beyond h hr fun s => (s.dbgAccess v .clean, 0, false)⟩
  change execDbgAccessWrite v s = _
  unfold execDbgAccessWrite
  rw [if_pos hop]

/-! ### Reads and writes by the part of the address space -/

section
variable {s : State} {v : Reg} {a n : Nat} (h : s.dev.off = false) (hr : s.dbgReaches DBG_ACCESS = true)
  (ha : a = (s.rd DBG_ADDR).toNat) (hn : n = 2 ^ fldGet v 4 2)
include h hr ha hn

section
variable (hop : fldGet v 6 2 = 1) (ecc : Ecc)
include hop

theorem accessRead_eq {r : DbgRes} (he : (s.accessStored v).dbgRead a n ecc = r) :
    exec (.dbgAccessRead v ecc) s = .next r.shown := by
  rw [access_read h hr hop ecc, ← ha, ← hn, he]

/-- An access that ends with a status only. -/
theorem accessRead_status {x : Nat} (hx : x < 256)
    (he : (s.accessStored v).dbgRead a n ecc = ⟨s.accessStored v, x, none⟩) :
    ∃ t, exec (.dbgAccessRead v ecc) s = .next t ∧ t.get DBG_ACCESS_STATUS = x ∧ Framed [.dbg] [DBG_ACCESS] s t :=
  ⟨_, accessRead_eq h hr ha hn hop ecc he, shown_refused s v hx⟩

theorem accessRead_data {d : Word} (he : (s.accessStored v).dbgRead a n ecc = ⟨s.accessStored v, stOK, some d⟩) :
    ∃ t, exec (.dbgAccessRead v ecc) s = .next t ∧ t.get DBG_ACCESS_STATUS = stOK ∧ t.rd64 DBG_DATA_LO DBG_DATA_HI = d ∧
      Framed [.dbg] [DBG_ACCESS, DBG_DATA_LO, DBG_DATA_HI] s t :=
  ⟨_, accessRead_eq h hr ha hn hop ecc he, shown_plain s v d⟩

/-- A read of a register below 8 bytes shows what the register reads. -/
theorem accessRead_register (hok : dbgRangeOk a n = true) (hb : 0x80000000 ≤ a) {k : Nat} (hka : k = a - 0x80000000) (h4 : n = 4)
    (hk : dbgRegister k = true) (hl : 2 ≤ s.dbgLevel ∨ level1Reads k = true)
    (hg : s.gated k = false) (hq : isQueData k = false) :
    ∃ t, exec (.dbgAccessRead v ecc) s = .next t ∧ t.get DBG_ACCESS_STATUS = stOK ∧ t.rd DBG_DATA_LO =
      ((s.accessStored v).readReg .debug (!(s.accessStored v).flag DBG_ACCESS_SIDE) k).1 := by
  have he := dbgRead_reg (s.accessStored v) ecc hok hb hka
  rw [h4, dbgRegRead_read _ ecc hk ((accessStored_level s v).symm ▸ hl) ((accessStored_gated s v _).trans hg) hq, ← h4] at he
  refine ⟨_, accessRead_eq h hr ha hn hop ecc he, shown_status _ (show stOK < 256 by decide), ?_⟩
  rw [shown_rd_lo]
  simp

end

section
variable (hop : fldGet v 6 2 = 2)
include hop

theorem accessWrite_eq {r : DbgRes} (he : (s.accessStored v).dbgWrite a n (s.rd64 DBG_DATA_LO DBG_DATA_HI) = r) :
    exec (.dbgAccessWrite v) s = .next r.shown := by
  rw [access_write h hr hop, ← ha, ← hn, he]

theorem accessWrite_status {x : Nat} (hx : x < 256)
    (he : (s.accessStored v).dbgWrite a n (s.rd64 DBG_DATA_LO DBG_DATA_HI) = ⟨s.accessStored v, x, none⟩) :
    ∃ t, exec (.dbgAccessWrite v) s = .next t ∧ t.get DBG_ACCESS_STATUS = x ∧ Framed [.dbg] [DBG_ACCESS] s t :=
  ⟨_, accessWrite_eq h hr ha hn hop he, shown_refused s v hx⟩

/-- A write of a core's TCM changes the bytes named. -/
theorem accessWrite_tcm (hok : dbgRangeOk a n = true) (hl : 2 ≤ s.dbgLevel) (hlo : a < 0x40000) {b : Nat}
    (hb : b = fldGet v 1 3 * 262144 + a) :
    ∃ t, exec (.dbgAccessWrite v) s = .next t ∧ t.get DBG_ACCESS_STATUS = stOK ∧
      (∀ i, i < n → Tab.get byte0 t.core.tcm (b + i) = (s.rd64 DBG_DATA_LO DBG_DATA_HI >>> (8 * i)).setWidth 8) ∧
      (∀ x, (∀ i, i < n → x ≠ b + i) → Tab.get byte0 t.core.tcm x = Tab.get byte0 s.core.tcm x) ∧
      Framed [.dbg, .tcm] [DBG_ACCESS] s t := by
  have he := dbgWrite_tcm (s.accessStored v) (s.rd64 DBG_DATA_LO DBG_DATA_HI) hok ((accessStored_level s v).symm ▸ hl) hlo
  rw [get_accessStored_core, ← hb] at he
  obtain ⟨hin, hout⟩ := get_putWordBytes s.core.tcm b n (s.rd64 DBG_DATA_LO DBG_DATA_HI)
  refine ⟨_, accessWrite_eq h hr ha hn hop he, shown_status _ (show stOK < 256 by decide), hin, hout, ?_⟩
  exact (shown_fr_none (((accessStored_fr s v).mono (qs := [.dbg, .tcm]) (by simp) (List.Subset.refl _)).trans
    ((tcmWritten_fr _ _ _).mono (by simp) (by simp))) (by simp) (by simp) _).frame

/-- A write of the shared SRAM changes the bytes named. -/
theorem accessWrite_sram (hok : dbgRangeOk a n = true) (hl : 2 ≤ s.dbgLevel) (hlo : 0x10000000 ≤ a) (hhi : a < 0x20000000) :
    ∃ t, exec (.dbgAccessWrite v) s = .next t ∧ t.get DBG_ACCESS_STATUS = stOK ∧
      (∀ i, i < n → Tab.get byte0 t.core.sram (a - 0x10000000 + i) =
        (s.rd64 DBG_DATA_LO DBG_DATA_HI >>> (8 * i)).setWidth 8) ∧
      (∀ x, (∀ i, i < n → x ≠ a - 0x10000000 + i) → Tab.get byte0 t.core.sram x = Tab.get byte0 s.core.sram x) ∧
      Framed [.dbg, .core] [DBG_ACCESS] s t := by
  have he := dbgWrite_sram (s.accessStored v) (s.rd64 DBG_DATA_LO DBG_DATA_HI) hok ((accessStored_level s v).symm ▸ hl) hlo hhi
  obtain ⟨hin, hout⟩ := get_putWordBytes s.core.sram (a - 0x10000000) n (s.rd64 DBG_DATA_LO DBG_DATA_HI)
  refine ⟨_, accessWrite_eq h hr ha hn hop he, shown_status _ (show stOK < 256 by decide), hin, hout, ?_⟩
  exact (shown_fr_none (((accessStored_fr s v).mono (qs := [.dbg, .core]) (by simp) (List.Subset.refl _)).trans
    ((sramWritten_fr _ _ _).mono (by simp) (by simp))) (by simp) (by simp) _).frame

end
end

end Sys2Proof.Machine
end

section
/-! SUPPORT.  What a ring's entries and messages change, and what an event leaves of the cores' CSRs (R297, R505). -/

namespace Sys2Proof.Machine

open Sys2Proof

/-- Parts that producing an entry of a ring, or signalling one, may change. -/
def signalParts : List Part := [.rings, .out]

section
variable {s0 s : State} {ps : List Part} {ks : List Nat} (h : Fr ps ks s0 s) (hr : Part.rings ∈ ps) (ho : Part.out ∈ ps)
include h hr

theorem fr_setRing (n : Nat) (r : Ring) : Fr ps ks s0 (s.setRing n r) := by
  have k : Fr [.rings] ks s (s.setRing n r) := fr_mk (Fr.refl _ _ s) (State.setRing_keeps _ _ (Keeps.refl s)) rfl
  exact h.trans (k.mono (List.cons_subset.2 ⟨hr, List.nil_subset _⟩) (List.Subset.refl _))

include ho

omit hr in
theorem fr_mirror (n i : Nat) : Fr ps ks s0 (s.mirror n i) := emit_fr h ho _

theorem fr_ringMsg (n : Nat) : Fr ps ks s0 (s.ringMsg n) :=
  fr_ite (emit_fr (fr_setRing h hr _ _) ho _) (fr_setRing h hr _ _)

theorem fr_ringSignal (n : Nat) : Fr ps ks s0 (s.ringSignal n) :=
  fr_ite (fr_ringMsg (fr_setRing h hr _ _) hr ho _) (fr_setRing h hr _ _)

theorem fr_produce (n size : Nat) (b : List Byte) : Fr ps ks s0 (s.produce n size b) :=
  fr_ringSignal (emit_fr (fr_setRing (emit_fr h ho _) hr _ _) ho _) hr ho _

end

/-! ### CSRs -/

theorem csr_setCsr (s : State) {c n m r : Nat} (hn : n < 4096) (hr : r < 4096) (v : Word) :
    (s.setCsr c n v).csr m r = if m = c ∧ r = n then v else s.csr m r := by
  refine (Tab.get_put csr0 s.core.csr (c * 4096 + n) (m * 4096 + r) v).trans ?_
  by_cases h : m = c ∧ r = n
  · rw [if_pos h, if_pos (by rw [h.1, h.2])]
  · rw [if_neg h, if_neg fun he => h ⟨by omega, by omega⟩]
    rfl

theorem setCsr_fr (s : State) (c n : Nat) (v : Word) : Fr [.csr] [] s (s.setCsr c n v) :=
  fr_mk (Fr.refl _ _ s) (State.setCsr_keeps _ _ _ (Keeps.refl s)) rfl

theorem csr_of_fr {ps : List Part} {ks : List Nat} {s t : State} (h : Fr ps ks s t) (hp : Part.csr ∉ ps) (m r : Nat) :
    t.csr m r = s.csr m r := congrArg (fun c => Tab.get csr0 c (m * 4096 + r)) (h.frame.part .csr hp)

theorem toEventRing_csr (e : Event) (s : State) (n m r : Nat) : (State.toEventRing e s n).csr m r = s.csr m r := by
  have h : Fr signalParts [HIF_EVDROPS, HIF_SAT_EVDROPS.reg] s (State.toEventRing e s n) :=
    fr_ite (fr_ite (fr_count (Fr.refl _ _ s) (by simp) (by simp) 1)
      (fr_produce (Fr.refl _ _ s) (by decide) (by decide) n 32 _)) (Fr.refl _ _ s)
  exact csr_of_fr h (by decide) m r

/-- The delivery to a core's event ring moves its kevp alone. -/
theorem toCoreRing_csr (e : Event) (s : State) (t m : Nat) {r : Nat} (hr : r < 4096) (hp : r ≠ 0xFC2) :
    (State.toCoreRing e s t).csr m r = s.csr m r := by
  unfold State.toCoreRing
  dsimp only
  split
  · rfl
  split
  · rfl
  · rw [csr_setCsr _ (by decide) hr, if_neg fun h => hp h.2]
    rfl

theorem assertSource_csr (s : State) (src m r : Nat) : (s.assertSource src).csr m r = s.csr m r := by
  unfold State.assertSource
  dsimp only
  split <;> rfl

/-- An event that starts no commit leaves every CSR but the rings' kevp as it is. -/
theorem raise_csr (s : State) {code : Nat} (hc : evSeverity code ≠ 3) (src : Nat) (data : List (Nat × Nat × Nat)) (m : Nat)
    {r : Nat} (hr : r < 4096) (hp : r ≠ 0xFC2) : (s.raise code src data).csr m r = s.csr m r := by
  unfold State.raise State.raiseRaw
  rw [if_neg hc]
  lift_lets
  intro e v a b g c d f
  have hb : b.csr m r = s.csr m r := foldl_proj (fun s => s.csr m r) (fun s n => toEventRing_csr e s n m r) _ a
  have hcs : c.csr m r = s.csr m r := by
    refine Eq.trans ?_ hb
    show State.csr (if _ then _ else _) m r = _
    split
    · exact assertSource_csr b g m r
    · rfl
  have hd : d.csr m r = s.csr m r := by
    refine Eq.trans ?_ hcs
    show State.csr (if _ then _ else _) m r = _
    split
    · refine foldl_proj (fun s => s.csr m r) (fun u t => ?_) _ c
      split
      · exact toCoreRing_csr e u t m hr hp
      · rfl
    · rfl
  refine Eq.trans ?_ hd
  show State.csr (if _ then _ else _) m r = _
  split <;> rfl

end Sys2Proof.Machine
end

section
/-! SUPPORT.  Halting, resuming and stepping a core (R521 to R524). -/

namespace Sys2Proof.Machine

open Sys2Proof

/-! ### Cores -/

theorem coreAt_setCore (s : State) (n m : Nat) (c : Core) : (s.setCore n c).coreAt m = if m = n then c else s.coreAt m :=
  Tab.get_put core0 s.core.cores n m c

@[simp] theorem coreAt_setCore_self (s : State) (n : Nat) (c : Core) : (s.setCore n c).coreAt n = c := by
  rw [coreAt_setCore, if_pos rfl]

theorem coreAt_setCore_ne (s : State) {n m : Nat} (h : m ≠ n) (c : Core) : (s.setCore n c).coreAt m = s.coreAt m := by
  rw [coreAt_setCore, if_neg h]

theorem fr_setCore {ps : List Part} {ks : List Nat} {s0 s : State} (h : Fr ps ks s0 s) (hp : Part.cores ∈ ps) (n : Nat) (c : Core) :
    Fr ps ks s0 (s.setCore n c) := by
  have k : Fr [.cores] ks s (s.setCore n c) := fr_mk (Fr.refl _ _ s) (State.setCore_keeps _ _ (Keeps.refl s)) rfl
  exact h.trans (k.mono (List.cons_subset.2 ⟨hp, List.nil_subset _⟩) (List.Subset.refl _))

theorem coreAt_of_fr {ps : List Part} {ks : List Nat} {s t : State} (h : Fr ps ks s t) (hp : Part.cores ∉ ps) (n : Nat) :
    t.coreAt n = s.coreAt n := congrArg (fun c => Tab.get core0 c n) (h.frame.part .cores hp)

/-- A core with the given registers. -/
def Core.withRegs (c : Core) (r : CoreRegs) : Core :=
  { c with pc := r.pc, gpr := ((upto 31).zip r.gpr).foldl (fun (t : Tab Word) e => Tab.put word0 t (e.1 + 1) e.2) [] }

theorem loadRegs_eq (s : State) (n : Nat) (r : CoreRegs) : s.loadRegs n r = s.setCore n ((s.coreAt n).withRegs r) := rfl

/-! ### A halt -/

/-- A core that has halted at a time; its watchdog is frozen or not (R521, R523). -/
def Core.haltedAs (c : Core) (at_ : Word) (freeze : Bool) : Core :=
  { c with halted := true, haltReq := none, deferred := false, haltedAt := at_, resv := false, wdFrozen := freeze, wait := none }

/-- Registers that a halt of a core writes: its status, and the standby's READY (R521, R526). -/
def haltKeys (n : Nat) : List Nat := DBG_CORE_STATUS n :: MNT_STEWARD :: bookKeys

/-- The state of a core that halts, before its event. -/
def State.haltNoted (s : State) (n cause : Nat) (broken : Bool) : State :=
  let t := s.setCore n ((s.coreAt n).haltedAs s.time (decide (4 ≤ n) && s.bit (DBG_CORE_CTL n) 3))
  let t := if n < 4 ∧ t.get MNT_STEWARD_STANDBY = 2 then t.set MNT_STEWARD_STANDBY 1 else t
  let t := t.set (DBG_CORE_STATUS_CAUSE n) cause
  if broken then t.setFlag (DBG_CORE_STATUS_LOCK_BROKEN n) true else t

section
variable (s : State) (n cause : Nat) (broken : Bool)

theorem haltCore_eq : s.haltCore n cause broken =
    (s.haltNoted n cause broken).raise 0x1206 (srcCore n) [(18, 1, n), (19, 1, cause), (20, 1, b2n broken)] := rfl

theorem haltNoted_fr : Fr [.cores] [DBG_CORE_STATUS n, MNT_STEWARD] s (s.haltNoted n cause broken) := by
  have h1 := fr_setCore (Fr.refl [.cores] [DBG_CORE_STATUS n, MNT_STEWARD] s) (by simp) n
    ((s.coreAt n).haltedAs s.time (decide (4 ≤ n) && s.bit (DBG_CORE_CTL n) 3))
  have h2 := fr_set (f := DBG_CORE_STATUS_CAUSE n)
    (fr_ite (c := n < 4 ∧ (s.setCore n ((s.coreAt n).haltedAs s.time (decide (4 ≤ n) && s.bit (DBG_CORE_CTL n) 3))).get
      MNT_STEWARD_STANDBY = 2) (fr_set (f := MNT_STEWARD_STANDBY) h1 (by simp [MNT_STEWARD_STANDBY]) 1) h1)
    (by simp [DBG_CORE_STATUS_CAUSE]) cause
  exact fr_ite (fr_setFlag (f := DBG_CORE_STATUS_LOCK_BROKEN n) h2 (by simp [DBG_CORE_STATUS_LOCK_BROKEN]) true) h2

theorem haltCore_fr : Fr (.cores :: evParts) (haltKeys n) s (s.haltCore n cause broken) :=
  ((haltNoted_fr s n cause broken).mono (by simp) (by simp [haltKeys])).trans
    ((raise_fr _ _ _ _).mono (by simp) (by simp [haltKeys]))

@[simp] theorem haltCore_seq : (s.haltCore n cause broken).ev.seq = s.ev.seq + 1 := by
  have hev : (s.haltNoted n cause broken).ev = s.ev := (haltNoted_fr s n cause broken).frame.part .ev (by decide)
  rw [haltCore_eq, raise_seq, hev]

theorem haltCore_coreAt (m : Nat) : (s.haltCore n cause broken).coreAt m =
    if m = n then (s.coreAt n).haltedAs s.time (decide (4 ≤ n) && s.bit (DBG_CORE_CTL n) 3) else s.coreAt m := by
  rw [haltCore_eq, coreAt_of_fr (raise_fr _ _ _ _) (by decide), ← coreAt_setCore]
  unfold State.haltNoted State.coreAt
  dsimp only
  split <;> split <;> rfl

@[simp] theorem haltCore_coreAt_self : (s.haltCore n cause broken).coreAt n =
    (s.coreAt n).haltedAs s.time (decide (4 ≤ n) && s.bit (DBG_CORE_CTL n) 3) := by rw [haltCore_coreAt, if_pos rfl]

theorem haltCore_coreAt_ne {m : Nat} (h : m ≠ n) : (s.haltCore n cause broken).coreAt m = s.coreAt m := by
  rw [haltCore_coreAt, if_neg h]

theorem coreStatus_not_book : DBG_CORE_STATUS n ∉ bookKeys ∨ 40 ≤ n := by
  by_cases h : n < 40
  · left
    interval_cases n <;> decide
  · exact .inr (by omega)

theorem haltCore_cause (hn : n < 8) (hc : cause < 16) : (s.haltCore n cause broken).get (DBG_CORE_STATUS_CAUSE n) = cause := by
  have hreg : (DBG_CORE_STATUS_CAUSE n).reg ∉ bookKeys := (coreStatus_not_book n).resolve_right (by omega)
  have hset (t : State) : (t.set (DBG_CORE_STATUS_CAUSE n) cause).get (DBG_CORE_STATUS_CAUSE n) = cause := by
    rw [State.get_set_self _ _ (by simp [DBG_CORE_STATUS_CAUSE])]
    exact Nat.mod_eq_of_lt hc
  rw [haltCore_eq, State.get_raise _ _ _ _ hreg]
  unfold State.haltNoted
  dsimp only
  split
  · rw [State.get_setFlag_apart _ (by simp [fldsApart, DBG_CORE_STATUS_LOCK_BROKEN, DBG_CORE_STATUS_CAUSE])]
    exact hset _
  · exact hset _

theorem haltCore_broken (hn : n < 8) : (s.haltCore n cause true).flag (DBG_CORE_STATUS_LOCK_BROKEN n) = true := by
  have hreg : (DBG_CORE_STATUS_LOCK_BROKEN n).reg ∉ bookKeys := (coreStatus_not_book n).resolve_right (by omega)
  rw [haltCore_eq, State.flag_raise _ _ _ _ hreg]
  unfold State.haltNoted
  dsimp only
  rw [if_pos rfl]
  exact State.flag_setFlag_self _ _ (by simp [DBG_CORE_STATUS_LOCK_BROKEN]) rfl true

theorem haltCore_csr (m : Nat) {r : Nat} (hr : r < 4096) (hp : r ≠ 0xFC2) : (s.haltCore n cause broken).csr m r = s.csr m r := by
  rw [haltCore_eq, raise_csr _ (by decide) _ _ m hr hp]
  exact csr_of_fr (haltNoted_fr s n cause broken) (by decide) m r

end

/-! ### A halt that is asked for -/

theorem askHalt_fr (s : State) (n cause : Nat) (reserved : Bool) (regs : CoreRegs) :
    Fr (.cores :: evParts) (haltKeys n) s (s.askHalt n cause reserved regs) := by
  have h0 := Fr.refl (.cores :: evParts) (haltKeys n) s
  unfold State.askHalt
  dsimp only
  refine fr_ite (fr_setFlag (f := DBG_CORE_STATUS_REFUSED n) h0 (by simp [haltKeys, DBG_CORE_STATUS_REFUSED]) true) ?_
  refine fr_ite h0 (fr_ite (fr_setCore h0 (by simp) _ _) (fr_ite (fr_setCore h0 (by simp) _ _) ?_))
  rw [loadRegs_eq]
  exact (fr_setCore h0 (by simp) _ _).trans (haltCore_fr _ _ _ _)

/-- What a request to halt a core does, case by case. -/
theorem askHalt_asked (s : State) {n cause : Nat} (hn : n < 8) (hc : cause < 16) (reserved : Bool) (regs : CoreRegs) :
    HaltAsked s (s.askHalt n cause reserved regs) n cause reserved regs := by
  have hothers (c : Core) (m : Nat) (hm : m ≠ n) : (s.setCore n c).coreAt m = s.coreAt m := coreAt_setCore_ne s hm c
  unfold State.askHalt
  dsimp only
  by_cases hmay : s.mayHalt n = false
  · rw [if_pos hmay]
    exact ⟨fun _ => ⟨State.flag_setFlag_self _ _ (by simp [DBG_CORE_STATUS_REFUSED]) rfl true, rfl⟩, by simp [hmay], by simp [hmay],
      by simp [hmay], by simp [hmay], fun _ _ => rfl⟩
  rw [if_neg hmay]
  by_cases hkept : (s.coreAt n).halted = true ∨ (s.coreAt n).deferred = true
  · rw [if_pos hkept]
    exact ⟨fun h => absurd h hmay, fun _ _ => rfl, fun _ h1 h2 => by simp [h1, h2] at hkept, fun _ h1 h2 => by simp [h1, h2] at hkept,
      fun _ h1 h2 => by simp [h1, h2] at hkept, fun _ _ => rfl⟩
  rw [if_neg hkept]
  by_cases hreset : (s.coreAt n).inReset = true
  · rw [if_pos hreset]
    exact ⟨fun h => absurd h hmay, fun _ h => absurd h hkept, fun _ _ _ _ => by simp, by simp [hreset], by simp [hreset], hothers _⟩
  rw [if_neg hreset]
  by_cases hdefer : reserved = true ∨ s.core.lock = some (leader n)
  · rw [if_pos hdefer]
    exact ⟨fun h => absurd h hmay, fun _ h => absurd h hkept, fun _ _ _ h => absurd h hreset, fun _ _ _ _ _ => by simp,
      fun _ _ _ _ h1 h2 => by simp [h1, h2] at hdefer, hothers _⟩
  · rw [if_neg hdefer, loadRegs_eq]
    refine ⟨fun h => absurd h hmay, fun _ h => absurd h hkept, fun _ _ _ h => absurd h hreset, fun _ _ _ _ h => absurd h hdefer,
      fun _ _ _ _ _ _ => ?_, fun m hm => by rw [haltCore_coreAt_ne _ _ _ _ hm, hothers _ m hm]⟩
    rw [haltCore_coreAt_self, haltCore_seq, haltCore_cause _ _ _ _ hn hc, coreAt_setCore_self]
    exact ⟨rfl, rfl, rfl, rfl, rfl, rfl⟩

/-! ### Resuming and stepping -/

theorem resumeCore_running {s : State} {n : Nat} (h : (s.coreAt n).halted = false) : s.resumeCore n = s := by
  unfold State.resumeCore
  exact if_pos h

/-- A core that runs again (R523). -/
def Core.resumedAt (c : Core) (now : Word) : Core :=
  { c with halted := false, wdFrozen := false, wdAt := if c.wdFrozen then now else c.wdAt }

theorem resumeCore_halted {s : State} {n : Nat} (h : (s.coreAt n).halted = true) :
    (s.resumeCore n).ev.seq = s.ev.seq + 1 ∧ (s.resumeCore n).coreAt n = (s.coreAt n).resumedAt s.time ∧
      (∀ m, m ≠ n → (s.resumeCore n).coreAt m = s.coreAt m) ∧ Fr (.cores :: evParts) bookKeys s (s.resumeCore n) := by
  have hset := fr_setCore (Fr.refl (.cores :: evParts) bookKeys s) (by simp) n ((s.coreAt n).resumedAt s.time)
  have e : ∃ src data, s.resumeCore n = (s.setCore n ((s.coreAt n).resumedAt s.time)).raise 0x1207 src data := by
    unfold State.resumeCore
    dsimp only
    rw [if_neg (by simp [h])]
    exact ⟨_, _, rfl⟩
  obtain ⟨src, data, e⟩ := e
  have hcore (m : Nat) : (s.resumeCore n).coreAt m = if m = n then (s.coreAt n).resumedAt s.time else s.coreAt m := by
    rw [e, coreAt_of_fr (raise_fr _ _ _ _) (by decide), coreAt_setCore]
  refine ⟨by rw [e, raise_seq]; rfl, by rw [hcore, if_pos rfl], fun m hm => by rw [hcore, if_neg hm], ?_⟩
  rw [e]
  exact hset.trans ((raise_fr _ _ _ _).mono (by simp) (List.Subset.refl _))

theorem stepCore_running {s : State} {n : Nat} (h : (s.coreAt n).halted = false) (regs : CoreRegs) : s.stepCore n regs = s := by
  unfold State.stepCore
  exact if_pos h

theorem stepCore_halted {s : State} {n : Nat} (hn : n < 8) (h : (s.coreAt n).halted = true) (regs : CoreRegs) :
    ((s.stepCore n regs).coreAt n).halted = true ∧ ((s.stepCore n regs).coreAt n).pc = regs.pc ∧
      (s.stepCore n regs).get (DBG_CORE_STATUS_CAUSE n) = 1 ∧ (s.stepCore n regs).ev.seq = s.ev.seq + 1 ∧
      (∀ m, m ≠ n → (s.stepCore n regs).coreAt m = s.coreAt m) ∧ Fr (.cores :: evParts) (haltKeys n) s (s.stepCore n regs) := by
  have e : ∃ c : Core, s.stepCore n regs = ((s.setCore n c).loadRegs n regs).haltCore n 1 false := by
    unfold State.stepCore
    dsimp only
    rw [if_neg (by simp [h])]
    exact ⟨_, rfl⟩
  obtain ⟨c, e⟩ := e
  have hset := fr_setCore (fr_setCore (Fr.refl (.cores :: evParts) (haltKeys n) s) (by simp) n c) (by simp) n
    (((s.setCore n c).coreAt n).withRegs regs)
  rw [e, loadRegs_eq]
  refine ⟨by rw [haltCore_coreAt_self]; rfl, by rw [haltCore_coreAt_self, coreAt_setCore_self]; rfl,
    haltCore_cause _ _ _ _ hn (by decide), haltCore_seq .., fun m hm => ?_, hset.trans (haltCore_fr _ _ _ _)⟩
  rw [haltCore_coreAt_ne _ _ _ _ hm, coreAt_setCore_ne _ hm, coreAt_setCore_ne _ hm]

end Sys2Proof.Machine
end

section
/-! SUPPORT.  The rows of the debug port that act on cores: halt, resume, step, the limit of a deferred halt, the write of a
core's register, and the match of a comparator (R521 to R525). -/

namespace Sys2Proof.Machine

open Sys2Proof

/-! ### Halt, resume and step -/

/-- A halt asked of a state that agrees with s in the cores, and what is made of it in one that agrees with t there. -/
theorem HaltAsked.congr {s u t t' : State} {n cause : Nat} {reserved : Bool} {regs : CoreRegs} (h : HaltAsked u t n cause reserved regs)
    (hm : u.mayHalt n = s.mayHalt n) (hc : u.core = s.core) (ht : u.time = s.time) (he : u.ev = s.ev)
    (hr : ∀ k, t'.rd k = t.rd k) (hc' : t'.core = t.core) (he' : t'.ev = t.ev) : HaltAsked s t' n cause reserved regs := by
  have hat : u.coreAt = s.coreAt := by
    unfold State.coreAt
    rw [hc]
  have hat' : t'.coreAt = t.coreAt := by
    unfold State.coreAt
    rw [hc']
  have hget (f : Fld) : t'.get f = t.get f := congrArg (fun v => fldGet v f.lo f.w) (hr f.reg)
  have hflag (f : Fld) : t'.flag f = t.flag f := congrArg (fun x => decide (x ≠ 0)) (hget f)
  obtain ⟨refused, kept, held, deferred, halts, others⟩ := h
  rw [hm, hat] at refused kept held deferred halts
  rw [hc, ht] at deferred halts
  rw [he] at halts
  rw [hat] at others
  exact ⟨by rwa [hat', hflag], by rwa [hat'], by rwa [hat'], by rwa [hat'], by rwa [hat', hget, he'], by rwa [hat']⟩

theorem coreCtl_register : ∀ n : CoreId, dbgRegister (DBG_CORE_CTL n.val) = true := by decide

theorem dbgReaches_coreCtl (s : State) (n : CoreId) : s.dbgReaches (DBG_CORE_CTL n.val) = decide (s.dbgLevel = 2) :=
  dbgReaches_core s (coreCtl_register n) (by have := n.isLt; unfold DBG_CORE_CTL; omega)

/-- A request bit of DBG_CORE_CTL has been written. -/
def State.ctlStored (s : State) (n i : Nat) : State := s.tapped.setBit (DBG_CORE_CTL n) i true

theorem ctlStored_fr (s : State) (n i : Nat) : Fr [.dbg] [DBG_CORE_CTL n] s (s.ctlStored n i) :=
  fr_setBit ((tapped_fr s).mono (List.Subset.refl _) (by simp)) (by simp) true

theorem ctlStored_bit (s : State) (n : Nat) {i : Nat} (hi : i < 32) : (s.ctlStored n i).bit (DBG_CORE_CTL n) i = true :=
  bit_setBit_self _ _ hi true

theorem ctlStored_mayHalt (s : State) {n : Nat} (hn : n < 8) (i m : Nat) : (s.ctlStored n i).mayHalt m = s.mayHalt m := by
  have h := ctlStored_fr s n i
  unfold State.mayHalt
  rw [h.flag (f := DBG_STATUS_VENDOR) (by simp [DBG_STATUS_VENDOR, DBG_STATUS, DBG_CORE_CTL]; omega),
    h.get (f := MNT_STEWARD_ACTIVE) (by simp [MNT_STEWARD_ACTIVE, MNT_STEWARD, DBG_CORE_CTL]; omega)]

theorem coreCtl_not_halt {n : Nat} (hn : n < 8) : DBG_CORE_CTL n ∉ haltKeys n := by
  have : ∀ n : Fin 8, DBG_CORE_CTL n.val ∉ haltKeys n.val := by decide
  exact this ⟨n, hn⟩

theorem coreCtl_not_book {n : Nat} (hn : n < 8) : DBG_CORE_CTL n ∉ bookKeys := fun h =>
  coreCtl_not_halt hn (List.mem_cons_of_mem _ (List.mem_cons_of_mem _ h))

/-- The debug port's bits of a core, at a state that the port has acted on within the frame of a halt. -/
theorem bit_ctl {s t : State} {ps : List Part} {ks : List Nat} {n i : Nat} (hi : i < 32)
    (h : Fr ps ks (s.ctlStored n i) t) (hk : DBG_CORE_CTL n ∉ ks) (v : Reg) (err : Bool) :
    (t.captured v err).bit (DBG_CORE_CTL n) i = true := by
  rw [captured_bit]
  exact (h.flag (f := ⟨DBG_CORE_CTL n, i, 1⟩) hk).trans (ctlStored_bit s n hi)

/-- An access that has been done within a frame. -/
theorem captured_of_ctl {s t : State} {ps : List Part} {ks : List Nat} {n i : Nat} (h : Fr ps ks (s.ctlStored n i) t) (v : Reg)
    (err : Bool) : Framed (.dbg :: ps) (DBG_CORE_CTL n :: ks) s (t.captured v err) :=
  (fr_dbg (((ctlStored_fr s n i).mono (qs := .dbg :: ps) (by simp) (by simp)).trans (h.mono (by simp) (by simp))) (by simp) _).frame

section
variable {s : State} (core : CoreId) (h : s.dev.off = false) (hl : s.dbgLevel = 2)
include h hl

theorem viaCoreCtl (body : State → State × Reg × Bool) : s.viaTap (DBG_CORE_CTL core.val) body =
    (body s.tapped).1.captured (body s.tapped).2.1 (body s.tapped).2.2 :=
  viaTap_reaches h (by rw [dbgReaches_coreCtl, decide_eq_true hl]) body

theorem coreHalt_eq (reserved : Bool) (regs : CoreRegs) : exec (.dbgCoreHalt core reserved regs) s =
    .next (((s.ctlStored core.val 0).askHalt core.val 0 reserved regs).captured 0 (!s.mayHalt core.val)) :=
  congrArg Host.Outcome.next (viaCoreCtl core h hl _)

theorem coreResume_eq : exec (.dbgCoreResume core) s =
    .next (((s.ctlStored core.val 1).resumeCore core.val).captured 0 false) :=
  congrArg Host.Outcome.next (viaCoreCtl core h hl _)

theorem coreStep_eq (regs : CoreRegs) : exec (.dbgCoreStep core regs) s =
    .next (((s.ctlStored core.val 2).stepCore core.val regs).captured 0 false) :=
  congrArg Host.Outcome.next (viaCoreCtl core h hl _)

/-- A halt that the debug port asks for (R521, R522). -/
theorem coreHalt_spec (reserved : Bool) (regs : CoreRegs) :
    ∃ t, exec (.dbgCoreHalt core reserved regs) s = .next t ∧ t.bit (DBG_CORE_CTL core.val) 0 = true ∧
      HaltAsked s t core.val 0 reserved regs ∧ t.dbg.capture = BitVec.ofNat 48 (b2n (!s.mayHalt core.val) * 2 ^ 43) ∧
      Framed (.dbg :: .cores :: evParts) (DBG_CORE_CTL core.val :: haltKeys core.val) s t := by
  have hfr := askHalt_fr (s.ctlStored core.val 0) core.val 0 reserved regs
  refine ⟨_, coreHalt_eq core h hl reserved regs, bit_ctl (by decide) hfr (coreCtl_not_halt core.isLt) _ _, ?_, ?_, captured_of_ctl hfr _ _⟩
  · exact (askHalt_asked (s.ctlStored core.val 0) core.isLt (by decide) reserved regs).congr
      (ctlStored_mayHalt s core.isLt 0 _) rfl rfl rfl (captured_rd _ _ _) (captured_core _ _ _) (captured_ev _ _ _)
  · change BitVec.ofNat 48 ((0 : Reg).toNat + _) = _
    simp

theorem coreResume_halted (hh : (s.coreAt core.val).halted = true) :
    ∃ t, exec (.dbgCoreResume core) s = .next t ∧ (t.coreAt core.val).halted = false ∧ t.ev.seq = s.ev.seq + 1 ∧
      (t.coreAt core.val).pc = (s.coreAt core.val).pc ∧
      (t.coreAt core.val).wdAt = (if (s.coreAt core.val).wdFrozen then s.time else (s.coreAt core.val).wdAt) ∧
      t.bit (DBG_CORE_CTL core.val) 1 = true ∧ (∀ m, m ≠ core.val → t.coreAt m = s.coreAt m) ∧
      Framed (.dbg :: .cores :: evParts) (DBG_CORE_CTL core.val :: bookKeys) s t := by
  obtain ⟨hseq, hself, hothers, hfr⟩ := resumeCore_halted (s := s.ctlStored core.val 1) (n := core.val) hh
  exact ⟨_, coreResume_eq core h hl, congrArg Core.halted hself, hseq,
    (congrArg Core.pc hself : _), (congrArg Core.wdAt hself : _),
    bit_ctl (by decide) hfr (coreCtl_not_book core.isLt) _ _, hothers, captured_of_ctl hfr _ _⟩

theorem coreResume_running (hh : (s.coreAt core.val).halted = false) :
    ∃ t, exec (.dbgCoreResume core) s = .next t ∧ t.bit (DBG_CORE_CTL core.val) 1 = true ∧
      Framed [.dbg] [DBG_CORE_CTL core.val] s t := by
  have hfr := Fr.refl [] [] (s.ctlStored core.val 1)
  have e := coreResume_eq core h hl
  rw [show (s.ctlStored core.val 1).resumeCore core.val = s.ctlStored core.val 1 from resumeCore_running hh] at e
  exact ⟨_, e, bit_ctl (by decide) hfr List.not_mem_nil _ _, captured_of_ctl hfr _ _⟩

theorem coreStep_halted (hh : (s.coreAt core.val).halted = true) (regs : CoreRegs) :
    ∃ t, exec (.dbgCoreStep core regs) s = .next t ∧ (t.coreAt core.val).halted = true ∧ (t.coreAt core.val).pc = regs.pc ∧
      t.get (DBG_CORE_STATUS_CAUSE core.val) = 1 ∧ t.bit (DBG_CORE_CTL core.val) 2 = true ∧ t.ev.seq = s.ev.seq + 1 ∧
      (∀ m, m ≠ core.val → t.coreAt m = s.coreAt m) ∧
      Framed (.dbg :: .cores :: evParts) (DBG_CORE_CTL core.val :: haltKeys core.val) s t := by
  obtain ⟨hhalted, hpc, hcause, hseq, hothers, hfr⟩ := stepCore_halted (s := s.ctlStored core.val 2) core.isLt hh regs
  exact ⟨_, coreStep_eq core h hl regs, hhalted, hpc,
    hcause, bit_ctl (by decide) hfr (coreCtl_not_halt core.isLt) _ _, hseq, hothers, captured_of_ctl hfr _ _⟩

theorem coreStep_running (hh : (s.coreAt core.val).halted = false) (regs : CoreRegs) :
    ∃ t, exec (.dbgCoreStep core regs) s = .next t ∧ t.bit (DBG_CORE_CTL core.val) 2 = true ∧
      Framed [.dbg] [DBG_CORE_CTL core.val] s t := by
  have hfr := Fr.refl [] [] (s.ctlStored core.val 2)
  have e := coreStep_eq core h hl regs
  rw [show (s.ctlStored core.val 2).stepCore core.val regs = s.ctlStored core.val 2 from
    stepCore_running (s := s.ctlStored core.val 2) hh regs] at e
  exact ⟨_, e, bit_ctl (by decide) hfr List.not_mem_nil _ _, captured_of_ctl hfr _ _⟩

end

/-- The rows that act on a core through DBG_CORE_CTL. -/
theorem coreRow_viaTap {s : State} {core : CoreId} {reserved : Bool} {regs : CoreRegs} {i : Instr}
    (hi : i ∈ [Instr.dbgCoreHalt core reserved regs, .dbgCoreResume core, .dbgCoreStep core regs]) :
    ∃ body, exec i s = .next (s.viaTap (DBG_CORE_CTL core.val) body) := by
  simp only [List.mem_cons, List.not_mem_nil, or_false] at hi
  obtain hi | hi | hi := hi <;> rw [hi]
  · exact ⟨fun s => ((s.setBit (DBG_CORE_CTL core.val) 0 true).askHalt core.val 0 reserved regs, 0, !s.mayHalt core.val), rfl⟩
  · exact ⟨fun s => ((s.setBit (DBG_CORE_CTL core.val) 1 true).resumeCore core.val, 0, false), rfl⟩
  · exact ⟨fun s => ((s.setBit (DBG_CORE_CTL core.val) 2 true).stepCore core.val regs, 0, false), rfl⟩

/-! ### The limit of a deferred halt -/

theorem dropLock_fr (s : State) (n : Nat) : Fr [.core] [] s (s.dropLock n) := by
  unfold State.dropLock
  have hfree : Fr [.core] [] s { s with core := { s.core with lock := none } } :=
    fr_mk (Fr.refl _ _ s) ⟨rfl, List.prefix_rfl, Nat.le_refl _, rfl, rfl, id⟩ rfl
  exact fr_ite hfree (Fr.refl _ _ s)

theorem lock_of_fr {ps : List Part} {ks : List Nat} {s t : State} (h : Fr ps ks s t) (hp : Part.core ∉ ps) :
    t.core.lock = s.core.lock := by
  have hcore : { t.core with cores := s.core.cores, csr := s.core.csr, tcm := s.core.tcm } = s.core := h.frame.part .core hp
  exact (congrArg CoreState.lock hcore :)

theorem dropLock_lock (s : State) (n : Nat) : (s.dropLock n).core.lock ≠ some n := by
  unfold State.dropLock
  split
  · exact nofun
  next h => exact h

theorem setLockCsr_fr (s : State) (n : Nat) (held broken : Bool) : Fr [.csr] [] s (s.setLockCsr n held broken) :=
  fr_foldl (Fr.refl _ _ s) (fun t m ht => ht.trans (setCsr_fr t m _ _)) _

/-- HELD and BROKEN of the core and its partner once the lock has been taken away (R506). -/
theorem setLockCsr_taken (s : State) (n : Nat) {m : Nat} (hm : m ∈ members n) :
    ((s.setLockCsr n false true).csr m 0x7C8).getLsbD 0 = false ∧ ((s.setLockCsr n false true).csr m 0x7C8).getLsbD 1 = true := by
  have hval : (s.setLockCsr n false true).csr m 0x7C8 = 2#64 := by
    unfold State.setLockCsr
    generalize members n = l at hm
    induction l using List.reverseRecOn with
    | nil => simp at hm
    | append_singleton l a ih =>
      rw [List.foldl_append, List.foldl_cons, List.foldl_nil]
      dsimp only
      rw [csr_setCsr _ (by decide) (by decide)]
      by_cases ha : m = a
      · rw [if_pos ⟨ha, rfl⟩]
        rfl
      · rw [if_neg fun h => ha h.1]
        exact ih (by simpa [ha] using hm)
  rw [hval]
  decide

theorem freeLock_fr (s : State) (n : Nat) (broken : Bool) : Fr [.core, .csr] [] s (s.freeLock n broken) :=
  ((dropLock_fr s n).mono (by simp) (by simp)).trans ((setLockCsr_fr _ n false broken).mono (by simp) (by simp))

theorem freeLock_lock (s : State) (n : Nat) (broken : Bool) : (s.freeLock n broken).core.lock ≠ some n := by
  unfold State.freeLock
  rw [lock_of_fr (setLockCsr_fr (s.dropLock n) n false broken) (by simp)]
  exact dropLock_lock s n

/-- PBUS_LOCK is taken away from a core that holds it. -/
def State.lockTaken (s : State) (n : Nat) : State :=
  if s.core.lock = some (leader n) then s.freeLock (leader n) true else s

theorem lockTaken_fr (s : State) (n : Nat) : Fr [.core, .csr] [] s (s.lockTaken n) := fr_ite (freeLock_fr _ _ _) (Fr.refl _ _ s)

theorem lockTaken_lock (s : State) (n : Nat) : (s.lockTaken n).core.lock ≠ some (leader n) := by
  unfold State.lockTaken
  split
  · exact freeLock_lock _ _ _
  next h => exact h

theorem lockTaken_csr {s : State} {n : Nat} (h : s.core.lock = some (leader n)) {m : Nat} (hm : m ∈ members (leader n)) :
    ((s.lockTaken n).csr m 0x7C8).getLsbD 0 = false ∧ ((s.lockTaken n).csr m 0x7C8).getLsbD 1 = true := by
  unfold State.lockTaken
  rw [if_pos h]
  exact setLockCsr_taken _ _ hm

theorem haltDeferredExpiry_none {s : State} {core : CoreId} {n : Nat} (hn : n = core.val)
    (h : ((s.coreAt n).deferred && s.elapsed (s.coreAt n).askedAt (s.coreCycles 512)) = false) (regs : CoreRegs) :
    exec (.haltDeferredExpiry core regs) s = .next s := by
  subst hn
  change execHaltDeferredExpiry core regs s = _
  unfold execHaltDeferredExpiry
  exact if_pos (Bool.and_eq_false_iff.mp h)

theorem haltDeferredExpiry_due {s : State} {core : CoreId} {n : Nat} (hn : n = core.val)
    (h : ((s.coreAt n).deferred && s.elapsed (s.coreAt n).askedAt (s.coreCycles 512)) = true) (regs : CoreRegs) :
    exec (.haltDeferredExpiry core regs) s = .next (((s.lockTaken n).loadRegs n regs).haltCore n ((s.coreAt n).haltReq.getD 0)
      (decide (s.core.lock = some (leader n)))) := by
  subst hn
  change execHaltDeferredExpiry core regs s = _
  unfold execHaltDeferredExpiry
  dsimp only
  rw [if_neg (by simp at h; simp [h])]
  unfold State.lockTaken
  by_cases hlock : s.core.lock = some (leader core.val)
  · rw [decide_eq_true hlock, if_pos rfl, if_pos hlock]
  · rw [decide_eq_false hlock, if_neg Bool.false_ne_true, if_neg hlock]

/-- A deferred halt takes effect at its limit (R522). -/
theorem haltDeferred_spec {s : State} {n : Nat} (hn : n < 8) (regs : CoreRegs) (cause : Nat) {t : State}
    (ht : t = ((s.lockTaken n).loadRegs n regs).haltCore n cause (decide (s.core.lock = some (leader n)))) :
    (t.coreAt n).halted = true ∧ (t.coreAt n).deferred = false ∧ (t.coreAt n).pc = regs.pc ∧ t.core.lock ≠ some (leader n) ∧
      (s.core.lock = some (leader n) → t.flag (DBG_CORE_STATUS_LOCK_BROKEN n) = true ∧
        ∀ m ∈ members (leader n), (t.csr m 0x7C8).getLsbD 0 = false ∧ (t.csr m 0x7C8).getLsbD 1 = true) ∧
      t.ev.seq = s.ev.seq + 1 ∧ (∀ m, m ≠ n → t.coreAt m = s.coreAt m) ∧
      Framed (.cores :: .core :: evParts) (haltKeys n) s t := by
  have hlock := lockTaken_fr s n
  have hload := fr_setCore (Fr.refl [.cores] [] (s.lockTaken n)) (by simp) n (((s.lockTaken n).coreAt n).withRegs regs)
  have hhalt := haltCore_fr ((s.lockTaken n).loadRegs n regs) n cause (decide (s.core.lock = some (leader n)))
  have hself := haltCore_coreAt_self ((s.lockTaken n).loadRegs n regs) n cause (decide (s.core.lock = some (leader n)))
  rw [← ht] at hself
  have hpc : (((s.lockTaken n).loadRegs n regs).coreAt n).pc = regs.pc := by
    rw [loadRegs_eq, coreAt_setCore_self]
    rfl
  refine ⟨by rw [hself]; rfl, by rw [hself]; rfl, by rw [hself]; exact hpc, ?_, fun hheld => ⟨?_, fun m hm => ?_⟩, ?_, fun m hm => ?_, ?_⟩
  · rw [ht, lock_of_fr hhalt (by decide), loadRegs_eq, lock_of_fr hload (by decide)]
    exact lockTaken_lock s n
  · rw [ht, decide_eq_true hheld]
    exact haltCore_broken _ _ _ hn
  · rw [ht, haltCore_csr _ _ _ _ _ (by decide) (by decide)]
    exact lockTaken_csr hheld hm
  · rw [ht, haltCore_seq]
    exact congrArg (fun e => e.seq + 1) (hlock.frame.part .ev (by decide))
  · rw [ht, haltCore_coreAt_ne _ _ _ _ hm, loadRegs_eq, coreAt_setCore_ne _ hm]
    exact coreAt_of_fr hlock (by decide) m
  · rw [ht]
    exact (((hlock.mono (by simp [evParts]) (by simp)).trans (hload.mono (by simp) (by simp))).trans
      (hhalt.mono (by simp) (List.Subset.refl _))).frame

end Sys2Proof.Machine
end

section
/-! PROOF.  A core's registers through DBG_REG_DATA, comparators, and the debug accesses as a whole (R519 to R525). -/

namespace Sys2Proof.Machine

open Sys2Proof

/-! ### DBG_REG_DATA -/

theorem dbgReaches_regData (s : State) : s.dbgReaches DBG_REG_DATA_HI = decide (s.dbgLevel = 2) :=
  dbgReaches_core s (by decide) (by decide)

section
variable (s : State) {n r : Nat} (w : Word)

theorem setCoreReg_ignored (h : r = 0 ∨ r = 0x7C2 ∨ 0xC00 ≤ r) : s.setCoreReg n r w = s := by
  unfold State.setCoreReg
  dsimp only
  obtain rfl | h := h
  · rw [if_pos rfl]
  · rw [if_neg (by omega), if_neg (by omega), if_neg (by omega), if_neg (by omega), if_neg (by omega), if_neg (by omega),
      if_neg (by omega), if_neg (by omega), if_neg (by omega), if_pos h]

theorem setCoreReg_gpr (h1 : 1 ≤ r) (h2 : r < 32) :
    s.setCoreReg n r w = s.setCore n { s.coreAt n with gpr := Tab.put word0 (s.coreAt n).gpr r w } := by
  unfold State.setCoreReg
  dsimp only
  rw [if_neg (by omega), if_pos h2]

theorem setCoreReg_pc : s.setCoreReg n 0x7B1 w = s.setCore n { s.coreAt n with pc := w } := by
  unfold State.setCoreReg
  dsimp only
  rw [if_neg (by omega), if_neg (by omega), if_pos rfl]

/-- A CSR that a write changes and that acts on nothing else. -/
theorem setCoreReg_csr (h1 : 32 ≤ r) (h2 : r < 0xC00) (h3 : r ∉ [0x7B1, 0x7C0, 0x7C2, 0x7C3, 0x7C4, 0x7C8])
    (h4 : ¬ (0x7D0 ≤ r ∧ r < 0x7E0)) : s.setCoreReg n r w = s.setCsr n r w := by
  simp only [List.mem_cons, List.not_mem_nil, or_false, not_or] at h3
  unfold State.setCoreReg
  dsimp only
  rw [if_neg (by omega), if_neg (by omega), if_neg (by omega), if_neg (by omega), if_neg (by omega), if_neg (by omega),
    if_neg (by omega), if_neg (by omega), if_neg (by omega), if_neg (by omega)]

end

section
variable {s : State} (v : Reg) {n r : Nat} {w : Word} (hn : n = s.get DBG_REG_SEL_CORE) (hr : r = s.get DBG_REG_SEL_REG)
  (hw : w = ((v.setWidth 64 <<< 32) ||| (s.rd DBG_REG_DATA_LO).setWidth 64)) (h : s.dev.off = false) (hl : s.dbgLevel = 2)
include hn h hl

/-- The register of a running core is not reached. -/
theorem regDataWrite_running (hh : (s.coreAt n).halted = false) :
    exec (.dbgRegDataWrite v) s = .next (s.tapped.captured 0 true) := by
  subst hn
  have hsel : s.tapped.selHalted = false := hh
  refine congrArg Host.Outcome.next ((viaTap_reaches h ((dbgReaches_regData s).trans (decide_eq_true hl)) _).trans ?_)
  unfold State.dbgDataWrite
  rw [if_pos hsel]

include hr hw

theorem regDataWrite_halted (hh : (s.coreAt n).halted = true) :
    exec (.dbgRegDataWrite v) s = .next ((s.tapped.setCoreReg n r w).captured 0 false) := by
  subst hn hr hw
  have hsel : s.tapped.selHalted = true := hh
  refine congrArg Host.Outcome.next ((viaTap_reaches h ((dbgReaches_regData s).trans (decide_eq_true hl)) _).trans ?_)
  unfold State.dbgDataWrite
  rw [if_neg (by rw [hsel]; decide)]
  rfl

end

theorem captured_ok (s : State) : (s.captured 0 false).dbg.capture = 0 := by
  change BitVec.ofNat 48 (0 + 0 * 2 ^ 43) = 0
  decide

theorem captured_error (s : State) : (s.captured 0 true).dbg.capture = BitVec.ofNat 48 (2 ^ 43) := by
  change BitVec.ofNat 48 (0 + 1 * 2 ^ 43) = _
  decide

theorem captured_coreAt (s : State) (v : Reg) (err : Bool) (n : Nat) : (s.captured v err).coreAt n = s.coreAt n := by
  unfold State.coreAt
  rw [captured_core]

theorem captured_csr (s : State) (v : Reg) (err : Bool) (n r : Nat) : (s.captured v err).csr n r = s.csr n r := by
  unfold State.csr
  rw [captured_core]

/-- An access whose effect has a frame. -/
theorem captured_framed {s t : State} {ps : List Part} {ks : List Nat} (h : Fr ps ks s.tapped t) (err : Bool) :
    Framed (.dbg :: ps) ks s (t.captured 0 err) :=
  (fr_dbg (((tapped_fr s).mono (qs := .dbg :: ps) (by simp) (by simp)).trans (h.mono (by simp) (List.Subset.refl _)))
    (by simp) _).frame

/-! What a write of a halted core's register changes. -/

section
variable {s : State} {o : Host.Outcome State Fault Refusal} {n r : Nat} {w : Word}

theorem regWritten_gpr (e : o = .next ((s.tapped.setCoreReg n r w).captured 0 false)) (h1 : 1 ≤ r) (h2 : r < 32) :
    ∃ t, o = .next t ∧ Tab.get word0 (t.coreAt n).gpr r = w ∧
      (∀ x, x ≠ r → Tab.get word0 (t.coreAt n).gpr x = Tab.get word0 (s.coreAt n).gpr x) ∧
      (t.coreAt n).pc = (s.coreAt n).pc ∧ (∀ m, m ≠ n → t.coreAt m = s.coreAt m) ∧ Framed [.dbg, .cores] [] s t := by
  rw [setCoreReg_gpr _ _ h1 h2] at e
  have hfr := fr_setCore (Fr.refl [.cores] [] s.tapped) (by simp) n
    { s.tapped.coreAt n with gpr := Tab.put word0 (s.tapped.coreAt n).gpr r w }
  refine ⟨_, e, ?_, fun x hx => ?_, ?_, fun m hm => ?_, captured_framed hfr false⟩
  · rw [captured_coreAt, coreAt_setCore_self]
    exact Tab.get_put_self ..
  · rw [captured_coreAt, coreAt_setCore_self]
    exact Tab.get_put_ne _ _ hx _
  · rw [captured_coreAt, coreAt_setCore_self]
    rfl
  · rw [captured_coreAt, coreAt_setCore_ne _ hm]
    rfl

theorem regWritten_pc (e : o = .next ((s.tapped.setCoreReg n 0x7B1 w).captured 0 false)) :
    ∃ t, o = .next t ∧ t.coreAt n = { s.coreAt n with pc := w } ∧ (∀ m, m ≠ n → t.coreAt m = s.coreAt m) ∧
      Framed [.dbg, .cores] [] s t := by
  rw [setCoreReg_pc] at e
  have hfr := fr_setCore (Fr.refl [.cores] [] s.tapped) (by simp) n { s.tapped.coreAt n with pc := w }
  refine ⟨_, e, ?_, fun m hm => ?_, captured_framed hfr false⟩
  · rw [captured_coreAt, coreAt_setCore_self]
    rfl
  · rw [captured_coreAt, coreAt_setCore_ne _ hm]
    rfl

theorem regWritten_csr (e : o = .next ((s.tapped.setCoreReg n r w).captured 0 false)) (h1 : 32 ≤ r) (h2 : r < 0xC00)
    (h3 : r ∉ [0x7B1, 0x7C0, 0x7C2, 0x7C3, 0x7C4, 0x7C8]) (h4 : ¬ (0x7D0 ≤ r ∧ r < 0x7E0)) :
    ∃ t, o = .next t ∧ t.csr n r = w ∧ Framed [.dbg, .csr] [] s t := by
  rw [setCoreReg_csr _ _ h1 h2 h3 h4] at e
  refine ⟨_, e, ?_, captured_framed (setCsr_fr s.tapped n r w) false⟩
  rw [captured_csr, csr_setCsr _ (by omega) (by omega), if_pos ⟨rfl, rfl⟩]

end

/-! ### Comparators -/

theorem raiseLim_seq (s : State) (code src : Nat) (data : List (Nat × Nat × Nat)) :
    (s.raiseLim code src data).ev.seq = if s.mayRaise code src then s.ev.seq + 1 else s.ev.seq := by
  unfold State.raiseLim
  split
  · rw [raise_seq]
  · rfl

/-- A comparator has matched and counts it (R525). -/
def State.hitNoted (s : State) (n c : Nat) : State :=
  (s.setFlag (DBG_CMP_CTL_HIT n c) true).set (DBG_CMP_CTL_HITS n c) (s.get (DBG_CMP_CTL_HITS n c) + 1)

section
variable (s : State) (n c : Nat)

theorem hitNoted_fr : Fr [] [DBG_CMP_CTL n c] s (s.hitNoted n c) :=
  fr_set (f := DBG_CMP_CTL_HITS n c) (fr_setFlag (f := DBG_CMP_CTL_HIT n c) (Fr.refl _ _ s) (by simp [DBG_CMP_CTL_HIT]) true)
    (by simp [DBG_CMP_CTL_HITS]) _

theorem hitNoted_hit : (s.hitNoted n c).flag (DBG_CMP_CTL_HIT n c) = true := by
  unfold State.hitNoted
  rw [State.flag_set_apart _ (by simp [fldsApart, DBG_CMP_CTL_HIT, DBG_CMP_CTL_HITS])]
  exact State.flag_setFlag_self _ _ (by simp [DBG_CMP_CTL_HIT]) rfl true

theorem hitNoted_hits : (s.hitNoted n c).get (DBG_CMP_CTL_HITS n c) = (s.get (DBG_CMP_CTL_HITS n c) + 1) % 65536 :=
  State.get_set_self _ _ (by simp [DBG_CMP_CTL_HITS]) _

/-- HIT and HITS stay as counted where what follows does not write the comparator. -/
theorem hit_of_fr {ps : List Part} {ks : List Nat} {t : State} (h : Fr ps ks (s.hitNoted n c) t) (hk : DBG_CMP_CTL n c ∉ ks) :
    t.flag (DBG_CMP_CTL_HIT n c) = true ∧
      t.get (DBG_CMP_CTL_HITS n c) = (s.get (DBG_CMP_CTL_HITS n c) + 1) % 65536 :=
  ⟨(h.flag (f := DBG_CMP_CTL_HIT n c) hk).trans (hitNoted_hit s n c),
    (h.get (f := DBG_CMP_CTL_HITS n c) hk).trans (hitNoted_hits s n c)⟩

theorem action_of_hit (x : Nat) : ((s.setFlag (DBG_CMP_CTL_HIT n c) true).set (DBG_CMP_CTL_HITS n c) x).get (DBG_CMP_CTL_ACTION n c) =
    s.get (DBG_CMP_CTL_ACTION n c) := by
  rw [State.get_set_apart _ (by simp [fldsApart, DBG_CMP_CTL_ACTION, DBG_CMP_CTL_HITS]),
    State.get_setFlag_apart _ (by simp [fldsApart, DBG_CMP_CTL_ACTION, DBG_CMP_CTL_HIT])]

theorem hitNoted_mayHalt (hn : n < 8) (hc : c < 8) (m : Nat) : (s.hitNoted n c).mayHalt m = s.mayHalt m := by
  have h := hitNoted_fr s n c
  have hstatus : DBG_STATUS ≠ DBG_CMP_CTL n c := by
    unfold DBG_STATUS DBG_CMP_CTL
    omega
  have hsteward : MNT_STEWARD ≠ DBG_CMP_CTL n c := by
    unfold MNT_STEWARD DBG_CMP_CTL
    omega
  unfold State.mayHalt
  rw [h.flag (f := DBG_STATUS_VENDOR) (by simpa [DBG_STATUS_VENDOR] using hstatus),
    h.get (f := MNT_STEWARD_ACTIVE) (by simpa [MNT_STEWARD_ACTIVE] using hsteward)]

end

theorem cmpCtl_not_halt : ∀ (n : CoreId) (c : Fin 8), DBG_CMP_CTL n.val c.val ∉ haltKeys n.val := by decide

theorem cmpHit_none {s : State} {core : CoreId} {c : Fin 8} {addr : Word}
    (h : s.coreRuns core.val = false ∨ s.comparatorHits core.val c.val addr = false) (reserved : Bool) (regs : CoreRegs) :
    exec (.cmpHit core c addr reserved regs) s = .next s := by
  change execCmpHit core c addr reserved regs s = _
  unfold execCmpHit
  exact if_pos h

section
variable {s : State} {core : CoreId} {c : Fin 8} {addr : Word} (hrun : s.coreRuns core.val = true)
  (hhit : s.comparatorHits core.val c.val addr = true)
include hrun hhit

theorem cmpHit_halts (reserved : Bool) (regs : CoreRegs) (ha : s.get (DBG_CMP_CTL_ACTION core.val c.val) = 0) :
    exec (.cmpHit core c addr reserved regs) s =
      .next ((s.hitNoted core.val c.val).askHalt core.val (2 + c.val) reserved regs) := by
  change execCmpHit core c addr reserved regs s = _
  unfold execCmpHit
  dsimp only
  rw [if_neg (by simp [hrun, hhit]), action_of_hit, ha]
  rfl

theorem cmpHit_reports (reserved : Bool) (regs : CoreRegs) (ha : s.get (DBG_CMP_CTL_ACTION core.val c.val) = 1) :
    exec (.cmpHit core c addr reserved regs) s = .next ((s.hitNoted core.val c.val).raiseLim 0x1208 (srcCore core.val)
      [(18, 1, core.val), (19, 1, c.val), (20, 8, addr.toNat)]) := by
  change execCmpHit core c addr reserved regs s = _
  unfold execCmpHit
  dsimp only
  rw [if_neg (by simp [hrun, hhit]), action_of_hit, ha]
  rfl

theorem cmpHit_counts (reserved : Bool) (regs : CoreRegs) {x : Nat} (ha : s.get (DBG_CMP_CTL_ACTION core.val c.val) = x + 2) :
    exec (.cmpHit core c addr reserved regs) s = .next (s.hitNoted core.val c.val) := by
  change execCmpHit core c addr reserved regs s = _
  unfold execCmpHit
  dsimp only
  rw [if_neg (by simp [hrun, hhit]), action_of_hit, ha]
  rfl

/-- A comparator's match, by its ACTION (R525). -/
theorem cmpHit_spec (reserved : Bool) (regs : CoreRegs) {act : Nat} (ha : act = s.get (DBG_CMP_CTL_ACTION core.val c.val)) :
    ∃ t, exec (.cmpHit core c addr reserved regs) s = .next t ∧ t.flag (DBG_CMP_CTL_HIT core.val c.val) = true ∧
      t.get (DBG_CMP_CTL_HITS core.val c.val) = (s.get (DBG_CMP_CTL_HITS core.val c.val) + 1) % 65536 ∧
      (act = 0 → HaltAsked s t core.val (2 + c.val) reserved regs ∧
        Framed (.cores :: evParts) (DBG_CMP_CTL core.val c.val :: haltKeys core.val) s t) ∧
      (act = 1 → t.ev.seq = (if s.mayRaise 0x1208 (srcCore core.val) then s.ev.seq + 1 else s.ev.seq) ∧
        Framed evParts (DBG_CMP_CTL core.val c.val :: bookKeys) s t) ∧
      (2 ≤ act → Framed [] [DBG_CMP_CTL core.val c.val] s t) := by
  have hnoted := hitNoted_fr s core.val c.val
  have hkeys := cmpCtl_not_halt core c
  obtain _ | _ | act := act
  · have hask := askHalt_fr (s.hitNoted core.val c.val) core.val (2 + c.val) reserved regs
    obtain ⟨hflag, hcount⟩ := hit_of_fr s _ _ hask hkeys
    refine ⟨_, cmpHit_halts hrun hhit reserved regs ha.symm, hflag, hcount, fun _ => ⟨?_, ?_⟩, nofun, nofun⟩
    · exact (askHalt_asked (s.hitNoted core.val c.val) core.isLt (by have := c.isLt; omega) reserved regs).congr
        (hitNoted_mayHalt s _ _ core.isLt c.isLt _) rfl rfl rfl (fun _ => rfl) rfl rfl
    · exact ((hnoted.mono (by simp) (by simp)).trans (hask.mono (List.Subset.refl _) (by simp))).frame
  · have hraise := raiseLim_fr (s.hitNoted core.val c.val) 0x1208 (srcCore core.val)
      [(18, 1, core.val), (19, 1, c.val), (20, 8, addr.toNat)]
    obtain ⟨hflag, hcount⟩ := hit_of_fr s _ _ hraise fun hk => hkeys (List.mem_cons_of_mem _ (List.mem_cons_of_mem _ hk))
    refine ⟨_, cmpHit_reports hrun hhit reserved regs ha.symm, hflag, hcount, nofun, fun _ => ⟨raiseLim_seq .., ?_⟩,
      fun h2 => absurd h2 (by omega)⟩
    exact ((hnoted.mono (by simp) (by simp)).trans (hraise.mono (List.Subset.refl _) (by simp))).frame
  · obtain ⟨hflag, hcount⟩ := hit_of_fr s _ _ (Fr.refl [] [] (s.hitNoted core.val c.val)) List.not_mem_nil
    exact ⟨_, cmpHit_counts hrun hhit reserved regs ha.symm, hflag, hcount, nofun, nofun, fun _ => hnoted.frame⟩

end

/-- Settles O60: accesses by the part of the address space that they reach, halts by `askHalt_asked`, comparators by
`cmpHit_spec`. -/
theorem debugAccessComplete : Obligations.DebugAccessComplete := by
  refine ⟨fun s v ecc => ⟨accessRead_none s v ecc, accessWrite_none s v, fun hoff hreach =>
    ⟨fun hop => accessRead_beyond hoff hreach hop ecc, accessWrite_beyond hoff hreach⟩⟩, ?_, ?_, ?_, ?_, ?_⟩
  · intro s v ecc a n sz k w hoff hreach ha hn hsz hk hw
    have hsizes := size_cases v
    rw [← hsz] at hsizes
    have hlevel := accessStored_level s v
    have hbadSize : sz < 4 ∨ dbgRegister k = false ∨ (sz = 8 ∧ dbgRegister (k + 4) = false) →
        (sz ≠ 4 ∧ sz ≠ 8) ∨ dbgRegister k = false ∨ (sz = 8 ∧ dbgRegister (k + 4) = false) :=
      fun h => h.imp_left fun h => by omega
    refine ⟨fun hop => ⟨fun hbad => ?_, fun hok hlo hl => ?_, fun hok hl => ⟨fun hlo => ?_, fun h1 h2 => ?_,
      fun b h1 h2 hb => ⟨fun hs => ?_, fun x hs hx => ?_⟩⟩, fun hok hreg => ⟨fun hbad => ?_, fun h4 hkr href => ?_,
        fun u h4 hkr hl hg hq hu => ?_⟩⟩, fun hop => ⟨fun hbad => ?_, fun hok hl => ?_, fun hok hl => ⟨fun hlo => ?_,
          fun h1 h2 => ?_, fun b h1 h2 hb => ?_, fun hreg hbad => ?_, fun hreg h4 hkr href => ?_,
            fun hreg h4 hkr hg hd hp hq => ?_⟩⟩⟩
    · exact accessRead_status hoff hreach ha hsz hop ecc (by decide) (dbgRead_badArg _ _ hbad)
    · exact accessRead_status hoff hreach ha hsz hop ecc (by decide) (dbgRead_level _ _ hok hlo (hlevel.symm ▸ hl))
    · have he := dbgRead_tcm (s.accessStored v) ecc hok (hlevel.symm ▸ hl) hlo
      rw [get_accessStored_core, ← hn] at he
      exact accessRead_data hoff hreach ha hsz hop ecc he
    · exact accessRead_data hoff hreach ha hsz hop ecc (dbgRead_sram _ _ hok (hlevel.symm ▸ hl) h1 h2)
    · have hrange := dbgRangeOk_bank hok h1 h2
      rw [hb, ← accessStored_secretBank s v (by omega)] at hs
      exact accessRead_status hoff hreach ha hsz hop ecc (by decide) (dbgRead_secret _ _ hok (hlevel.symm ▸ hl) h1 h2 hs)
    · have hrange := dbgRangeOk_bank hok h1 h2
      rw [hb, ← accessStored_secretBank s v (by omega)] at hs
      obtain ⟨hst, hdata, hframe⟩ := shown_bank s v a ecc rfl
      rw [← hb, ← hx] at hdata
      exact ⟨_, accessRead_eq hoff hreach ha hsz hop ecc (dbgRead_bank _ _ hok (hlevel.symm ▸ hl) h1 h2 hs), hst, hdata, hframe⟩
    · have he := dbgRead_reg (s.accessStored v) ecc hok hreg hk
      rw [dbgRegRead_badArg _ _ (hbadSize hbad)] at he
      exact accessRead_status hoff hreach ha hsz hop ecc (by decide) he
    · have he := dbgRead_reg (s.accessStored v) ecc hok hreg hk
      rw [h4, dbgRegRead_refused _ _ hkr (by rwa [hlevel, accessStored_gated]), ← h4] at he
      exact accessRead_status hoff hreach ha hsz hop ecc (by decide) he
    · subst hu
      exact accessRead_register hoff hreach ha hsz hop ecc hok hreg hk h4 hkr hl hg hq
    · exact accessWrite_status hoff hreach ha hsz hop (by decide) (dbgWrite_badArg _ _ hbad)
    · exact accessWrite_status hoff hreach ha hsz hop (by decide) (dbgWrite_level _ _ hok (hlevel.symm ▸ hl))
    · subst hw
      exact accessWrite_tcm hoff hreach ha hsz hop hok hl hlo (by rw [hn])
    · subst hw
      exact accessWrite_sram hoff hreach ha hsz hop hok hl h1 h2
    · subst hw hb
      have he := dbgWrite_bank (s.accessStored v) (s.rd64 DBG_DATA_LO DBG_DATA_HI) hok (hlevel.symm ▸ hl) h1 h2
      exact ⟨_, accessWrite_eq hoff hreach ha hsz hop he, shown_bankWrite s v (by omega) _ rfl⟩
    · have he := dbgWrite_reg (s.accessStored v) (s.rd64 DBG_DATA_LO DBG_DATA_HI) hok (hlevel.symm ▸ hl) hreg hk
      rw [dbgRegWrite_badArg _ _ (hbadSize hbad)] at he
      exact accessWrite_status hoff hreach ha hsz hop (by decide) he
    · have he := dbgWrite_reg (s.accessStored v) (s.rd64 DBG_DATA_LO DBG_DATA_HI) hok (hlevel.symm ▸ hl) hreg hk
      rw [h4, dbgRegWrite_refused _ _ hkr (by rwa [accessStored_gated]), ← h4] at he
      exact accessWrite_status hoff hreach ha hsz hop (by decide) he
    · have he := dbgWrite_reg (s.accessStored v) (s.rd64 DBG_DATA_LO DBG_DATA_HI) hok (hlevel.symm ▸ hl) hreg hk
      rw [h4, dbgRegWrite_written _ _ hkr (by rwa [accessStored_gated]) hd hp hq, ← h4] at he
      exact ⟨_, accessWrite_eq hoff hreach ha hsz hop he, shown_status _ (show stOK < 256 by decide)⟩
  · intro s core reserved regs n hn
    subst hn
    refine ⟨fun hoff i hi => ?_, fun hoff hl i hi => ?_, fun hoff hl => ⟨coreHalt_spec core hoff hl reserved regs, fun hh =>
      ⟨coreResume_halted core hoff hl hh, coreStep_halted core hoff hl hh regs⟩, fun hh =>
      ⟨coreResume_running core hoff hl hh, coreStep_running core hoff hl hh regs⟩⟩⟩
    · obtain ⟨body, e⟩ := coreRow_viaTap (s := s) hi
      rw [e, viaTap_off hoff]
    · obtain ⟨body, e⟩ := coreRow_viaTap (s := s) hi
      exact ⟨_, e, viaTap_beyond hoff (by rw [dbgReaches_coreCtl, decide_eq_false hl]) body⟩
  · intro s core regs n due hn hdue
    refine ⟨fun hd => haltDeferredExpiry_none hn (hdue.symm.trans hd) regs, fun hd => ?_⟩
    exact ⟨_, haltDeferredExpiry_due hn (hdue.symm.trans hd) regs, haltDeferred_spec (hn ▸ core.isLt) regs _ rfl⟩
  · intro s v n r w hn hr hw
    refine ⟨fun hoff => congrArg Host.Outcome.next (viaTap_off hoff _ _), fun hoff hl => ?_, fun hoff hl hh => ?_,
      fun hoff hl hh => ?_⟩
    · exact ⟨_, rfl, viaTap_beyond hoff ((dbgReaches_regData s).trans (decide_eq_false hl)) _⟩
    · exact ⟨_, regDataWrite_running v hn hoff hl hh, captured_error _, captured_framed (Fr.refl [] [] _) true⟩
    · have e := regDataWrite_halted v hn hr hw hoff hl hh
      refine ⟨⟨_, e, captured_ok _⟩, fun hi => ?_, fun h1 h2 => regWritten_gpr e h1 h2, fun hpc => regWritten_pc (hpc ▸ e),
        fun h1 h2 h3 h4 => regWritten_csr e h1 h2 h3 h4⟩
      rw [setCoreReg_ignored _ _ hi] at e
      exact ⟨_, e, captured_ok _, captured_framed (Fr.refl [] [] _) false⟩
  · intro s core c addr reserved regs n act hn ha
    subst hn
    exact ⟨fun h => cmpHit_none h reserved regs, fun hrun hhit => cmpHit_spec hrun hhit reserved regs ha⟩

end Sys2Proof.Machine
end

section
/-! SUPPORT.  Items popped from and pushed to a queue by a data ring (R199, R206 to R208, R299, R300). -/

namespace Sys2Proof.Machine

open Sys2Proof

/-! ### Pointers -/

theorem Queue.size_pos (x : Queue) : 0 < x.size := Nat.two_pow_pos _

theorem Queue.adv_adv (x : Queue) (p m n : Nat) : x.adv (x.adv p m) n = x.adv p (m + n) := by
  unfold Queue.adv
  rw [Nat.mod_add_mod, Nat.add_assoc]

theorem Queue.pos_adv (x : Queue) (p m n : Nat) : x.pos (x.adv p m + n) = x.pos (p + (m + n)) := by
  unfold Queue.pos Queue.adv
  rw [show 2 * x.size = x.size * 2 from Nat.mul_comm _ _, ← Nat.mod_mod_of_dvd ((p + m) % (x.size * 2) + n) (Dvd.intro 2 rfl),
    Nat.mod_add_mod, Nat.mod_mod_of_dvd _ (Dvd.intro 2 rfl), Nat.add_assoc]

/-- The words between R and a pointer, after R has passed one of them. -/
theorem upTo_passed {r p m : Nat} (hm : 0 < m) (h : 0 < (p + m - r) % m) :
    (p + m - (r + 1) % m) % m + 1 = (p + m - r) % m := by
  have hr : r < p + m := by
    by_contra hle
    rw [Nat.sub_eq_zero_of_le (by omega), Nat.zero_mod] at h
    exact absurd h (lt_irrefl 0)
  have hlt := Nat.mod_lt (r + 1) hm
  have hlt' := Nat.mod_lt (p + m - r) hm
  have hdiv := Nat.div_add_mod (r + 1) m
  have hq := Nat.div_add_mod (p + m - r) m
  generalize (r + 1) % m = a at *
  generalize (p + m - r) % m = c at *
  generalize (r + 1) / m = j at *
  generalize (p + m - r) / m = k at *
  have e : p + m - a = c - 1 + m * (k + j) := by
    rw [Nat.mul_add]
    omega
  rw [e, Nat.add_mul_mod_self_left, Nat.mod_eq_of_lt (by omega)]
  omega

/-! ### Pops -/

/-- A queue whose R has passed n words, with `left` data words of the packet still to be popped. -/
def Queue.passed (x : Queue) (n left : Nat) : Queue := { x with r := x.adv x.r n, left := left }

theorem Queue.passed_passed (x : Queue) (m n a b : Nat) : (x.passed m a).passed n b = x.passed (m + n) b := by
  unfold Queue.passed
  exact congrArg (fun r => ({ x with r := r, left := b } : Queue)) (x.adv_adv x.r m n)

theorem Queue.count_passed {x : Queue} (h : 0 < x.count) (left : Nat) : (x.passed 1 left).count + 1 = x.count :=
  upTo_passed (m := 2 * x.size) (by have := x.size_pos; omega) h

/-- The data words of a packet that are still to be popped after a pop of v (R208). -/
def Queue.leftAfter (x : Queue) (v : Word) : Nat :=
  if x.packet then (if x.headIsLength then bitsAt v.toNat 0 16 else x.left - 1) else 0

/-- From s to u only queue q has changed, by pops. -/
structure PopsTo (s u : State) (q : Nat) (y : Queue) : Prop where
  queue : u.queue q = some y
  others : ∀ p, p ≠ q → u.queue p = s.queue p
  epoch : u.epochOf = s.epochOf
  fr : Fr [.que] [] s u

theorem setQueue_fr (s : State) (q : Nat) (x : Option Queue) : Fr [.que] [] s (s.setQueue q x) :=
  fr_mk (Fr.refl _ _ s) (State.setQueue_keeps _ _ (Keeps.refl s)) rfl

theorem popsTo_setQueue (s : State) (q : Nat) (y : Queue) : PopsTo s (s.setQueue q (some y)) q y :=
  ⟨by rw [queue_setQueue, if_pos rfl], fun p hp => by rw [queue_setQueue, if_neg hp], rfl, setQueue_fr s q _⟩

theorem PopsTo.trans {s u t : State} {q : Nat} {y z : Queue} (h : PopsTo s u q y) (k : PopsTo u t q z) : PopsTo s t q z :=
  ⟨k.queue, fun p hp => (k.others p hp).trans (h.others p hp), k.epoch.trans h.epoch, h.fr.trans k.fr⟩

theorem engineBank_of_fr {ps : List Part} {ks : List Nat} {s t : State} (h : Fr ps ks s t) (hp : Part.mnt ∉ ps) (q : Nat) :
    t.engineBank q = s.engineBank q := by
  have hmnt : { t.mnt with acts := s.mnt.acts } = s.mnt := h.frame.part .mnt hp
  exact (congrArg (fun m : MntState => Tab.get natId m.bankMap (queueBank q)) hmnt :)

theorem itemAt_eq {s : State} {q : Nat} {x : Queue} (hx : s.queue q = some x) (i : Nat) :
    s.itemAt q i = s.word (s.serving (s.engineBank q)) (x.pos (x.r + i)) := by
  unfold State.itemAt
  rw [hx]

/-- The items behind those that have been popped. -/
theorem itemAt_passed {s u : State} {q n left : Nat} {x : Queue} (hx : s.queue q = some x) (h : PopsTo s u q (x.passed n left))
    (i : Nat) : u.itemAt q i = s.itemAt q (n + i) := by
  have hmem : u.mem.words = s.mem.words := h.fr.frame.part .words (by simp)
  rw [itemAt_eq hx, itemAt_eq h.queue, engineBank_of_fr h.fr (by simp), serving_fr h.fr (by simp)]
  unfold State.word
  rw [hmem, show (x.passed n left).pos ((x.passed n left).r + i) = x.pos (x.r + (n + i)) from x.pos_adv x.r n i]

/-- A clean item is popped as it stands. -/
theorem popItem_clean {s : State} {q : Nat} {x : Queue} (hx : s.queue q = some x) (hr : x.ready = true)
    (hp : (s.itemAt q 0).poison = false) : s.popItem q .clean =
      (s.setQueue q (some (x.passed 1 (x.leftAfter (s.itemAt q 0).data))),
        some { item := (s.itemAt q 0).data, isLen := x.headIsLength, uncorr := false, epoch := (s.epochOf q).toNat }) := by
  rw [itemAt_eq hx, Nat.add_zero] at hp ⊢
  have hread : s.readBank (s.engineBank q) (x.pos x.r) .clean 2 =
      (s, (s.word (s.serving (s.engineBank q)) (x.pos x.r)).data, false) := by
    unfold State.readBank
    dsimp only
    rw [if_neg (by rw [hp]; decide)]
  unfold State.popItem
  rw [hx]
  dsimp only
  rw [if_neg (by rw [hr]; decide), hread]
  dsimp only
  rw [hx, if_neg (by simp), if_neg (by simp), if_neg Bool.false_ne_true, Bool.false_and, Bool.or_false]
  rfl

/-- The items of a queue that a run of pops finds clean, and that belong to one packet where the queue has packets. -/
structure CleanRun (s : State) (q : Nat) (x : Queue) (found : List (Nat × Ecc)) (pos k : Nat) : Prop where
  here : s.queue q = some x
  there : k ≤ x.count
  data : x.packet = true → k ≤ x.left
  clean : ∀ i, i < k → (s.itemAt q i).poison = false ∧ eccAt found (pos + i) = .clean

/-- A data word as a clean pop delivers it. -/
def State.dataItem (s : State) (q i : Nat) : Popped :=
  { item := (s.itemAt q i).data, isLen := false, uncorr := false, epoch := (s.epochOf q).toNat }

theorem CleanRun.ready {s : State} {q pos k : Nat} {x : Queue} {found : List (Nat × Ecc)} (h : CleanRun s q x found pos (k + 1)) :
    x.ready = true ∧ x.headIsLength = false := by
  have hcount := h.there
  have hleft : x.packet = true → x.left ≠ 0 := fun hp => by
    have := h.data hp
    omega
  have hhead : (x.packet && decide (x.left = 0)) = false := by
    cases hp : x.packet
    · rfl
    · simp [hleft hp]
  unfold Queue.ready Queue.sealed Queue.headIsLength
  rw [hhead, decide_eq_true (show 0 < x.count by omega)]
  exact ⟨rfl, rfl⟩

/-- The data words that are still to be popped after k words of them. -/
def Queue.leftBy (x : Queue) (k : Nat) : Nat := if x.packet then x.left - k else 0

theorem CleanRun.step {s : State} {q pos k : Nat} {x : Queue} {found : List (Nat × Ecc)} (h : CleanRun s q x found pos (k + 1)) :
    s.popItem q (eccAt found pos) = (s.setQueue q (some (x.passed 1 (x.leftBy 1))), some (s.dataItem q 0)) ∧
      CleanRun (s.setQueue q (some (x.passed 1 (x.leftBy 1)))) q (x.passed 1 (x.leftBy 1)) found (pos + 1) k := by
  obtain ⟨hready, hhead⟩ := h.ready
  have hcount := h.there
  have hpops := popsTo_setQueue s q (x.passed 1 (x.leftBy 1))
  have hleft : x.leftAfter (s.itemAt q 0).data = x.leftBy 1 := by
    unfold Queue.leftAfter
    rw [hhead]
    rfl
  refine ⟨?_, hpops.queue, ?_, fun hp => ?_, fun i hi => ?_⟩
  · rw [show eccAt found pos = .clean from (h.clean 0 (by omega)).2, popItem_clean h.here hready (h.clean 0 (by omega)).1, hleft, hhead]
    rfl
  · have := Queue.count_passed (x := x) (by omega) (x.leftBy 1)
    omega
  · have hpacket : x.packet = true := hp
    have := h.data hpacket
    change k ≤ x.leftBy 1
    unfold Queue.leftBy
    rw [hpacket, if_pos rfl]
    omega
  · obtain ⟨hpoison, hecc⟩ := h.clean (1 + i) (by omega)
    rw [itemAt_passed h.here hpops, show pos + 1 + i = pos + (1 + i) by omega]
    exact ⟨hpoison, hecc⟩

/-- A run of clean data words pops them all, in order. -/
theorem popItems_clean {q : Nat} {found : List (Nat × Ecc)} (k : Nat) {s : State} {x : Queue} {pos : Nat}
    (h : CleanRun s q x found pos (k + 1)) :
    ∃ u, s.popItems q found pos (k + 1) = (u, (upto (k + 1)).map (s.dataItem q)) ∧
      PopsTo s u q (x.passed (k + 1) (x.leftBy (k + 1))) := by
  induction k generalizing s x pos with
  | zero =>
    refine ⟨_, ?_, popsTo_setQueue s q _⟩
    unfold State.popItems
    rw [h.step.1]
    rfl
  | succ k ih =>
    obtain ⟨hpop, hrest⟩ := h.step
    obtain ⟨u, hu, hpops⟩ := ih hrest
    have hfirst := popsTo_setQueue s q (x.passed 1 (x.leftBy 1))
    refine ⟨u, ?_, ?_⟩
    · unfold State.popItems
      rw [hpop]
      dsimp only
      rw [hu]
      have hitems : (s.setQueue q (some (x.passed 1 (x.leftBy 1)))).dataItem q = fun i => s.dataItem q (i + 1) := by
        funext i
        unfold State.dataItem
        rw [itemAt_passed h.here hfirst, hfirst.epoch, Nat.add_comm 1 i]
      rw [hitems, upto, upto, List.range_succ_eq_map (n := k + 1), List.map_cons, List.map_map]
      rfl
    · have hqueue : (x.passed 1 (x.leftBy 1)).passed (k + 1) ((x.passed 1 (x.leftBy 1)).leftBy (k + 1)) =
          x.passed (k + 1 + 1) (x.leftBy (k + 1 + 1)) := by
        rw [Queue.passed_passed, Nat.add_comm 1 (k + 1)]
        congr 1
        unfold Queue.leftBy Queue.passed
        dsimp only
        split
        · omega
        · rfl
      rw [hqueue] at hpops
      exact hfirst.trans hpops

end Sys2Proof.Machine
end

section
/-! SUPPORT.  Entries of data rings written back to the host, and ring faults (R288, R290, R298, R299). -/

namespace Sys2Proof.Machine

open Sys2Proof

/-! ### Rings -/

theorem ring_setRing (s : State) (n m : Nat) (r : Ring) : (s.setRing n r).ring m = if m = n then r else s.ring m :=
  Tab.get_put ring0 s.host.rings n m r

@[simp] theorem ring_setRing_self (s : State) (n : Nat) (r : Ring) : (s.setRing n r).ring n = r := by
  rw [ring_setRing, if_pos rfl]

theorem ringMsg_c (s : State) (n : Nat) : ((s.ringMsg n).ring n).c = (s.ring n).c := by
  have hset : ((s.setRing n { s.ring n with unsig := 0 }).ring n).c = (s.ring n).c := by rw [ring_setRing_self]
  unfold State.ringMsg
  dsimp only
  split
  · exact hset
  · exact hset

/-- Signalling an entry leaves the ring's index. -/
theorem ringSignal_c (s : State) (n : Nat) : ((s.ringSignal n).ring n).c = (s.ring n).c := by
  unfold State.ringSignal
  extract_lets r t
  have hset : (t.ring n).c = (s.ring n).c :=
    (congrArg Ring.c (ring_setRing_self s n { r with unsig := r.unsig + 1, since := if r.unsig = 0 then s.time else r.since }) :)
  split
  · exact (ringMsg_c t n).trans hset
  · exact hset

/-- The buffer that an entry's items fill. -/
def itemBytes (items : List Word) : List Byte := items.foldr (fun w l => leBytes 8 w.toNat ++ l) []

/-- What the host is sent for an entry: its buffer, and its device part (R298). -/
def State.entryWrites (s : State) (n : Nat) (e : DEntry) (items : List Word) (seq flags epoch : Nat) : List Out :=
  [.hostWrite e.addr (itemBytes items),
    .hostWrite (s.entryAddr n (s.ring n).c 32 + 16) (writeBackBytes (8 * items.length) seq flags epoch s.time)]

section
variable (s : State) (n : Nat) (e : DEntry) (items : List Word) (seq flags epoch : Nat)

/-- The entry has been written and the index moved on; the mirror and the message are still to come. -/
def State.entryWritten : State :=
  ((s.emit (.hostWrite e.addr (itemBytes items))).emit (.hostWrite (s.entryAddr n (s.ring n).c 32 + 16)
    (writeBackBytes (8 * items.length) seq flags epoch s.time))).setRing n
      { s.ring n with c := ((s.ring n).c + 1) % (2 * s.ringSize n) }

theorem writeBackEntry_eq : s.writeBackEntry n e items seq flags epoch =
    ((s.entryWritten n e items seq flags epoch).mirror n (((s.ring n).c + 1) % (2 * s.ringSize n))).ringSignal n := rfl

theorem writeBackEntry_c : ((s.writeBackEntry n e items seq flags epoch).ring n).c = ((s.ring n).c + 1) % (2 * s.ringSize n) := by
  rw [writeBackEntry_eq, ringSignal_c]
  exact congrArg Ring.c (ring_setRing_self ..)

theorem entryWritten_fr : Fr [.rings, .out] [] s (s.entryWritten n e items seq flags epoch) :=
  fr_setRing (emit_fr (emit_fr (Fr.refl _ _ s) (by simp) _) (by simp) _) (by simp) _ _

theorem writeBackEntry_fr : Fr [.rings, .out] [] s (s.writeBackEntry n e items seq flags epoch) := by
  rw [writeBackEntry_eq]
  exact fr_ringSignal (fr_mirror (entryWritten_fr s n e items seq flags epoch) (by simp) _ _) (by simp) (by simp) _

theorem writeBackEntry_out :
    s.out ++ s.entryWrites n e items seq flags epoch <+: (s.writeBackEntry n e items seq flags epoch).out := by
  have hwritten : (s.entryWritten n e items seq flags epoch).out = s.out ++ s.entryWrites n e items seq flags epoch :=
    List.append_assoc ..
  rw [writeBackEntry_eq, ← hwritten]
  exact (fr_ringSignal (fr_mirror (Fr.refl [.rings, .out] [] _) (by simp) _ _) (by simp) (by simp) _).keeps.out

end

/-! ### Ring faults -/

theorem ringKey_status_not_book {n : Nat} (hn : n < 1024) : ringKey n 0x1C ∉ bookKeys ∧ ringKey n 0x1C ≠ HIF_RINGFAULTS ∧
    ringKey n 0x1C ≠ HIF_SAT_RINGFAULTS.reg := by
  have hsmall : ∀ n : Fin 64, ringKey n.val 0x1C ∉ bookKeys := by decide
  unfold HIF_RINGFAULTS HIF_SAT_RINGFAULTS HIF_SAT
  by_cases h : n < 64
  · have := hsmall ⟨n, h⟩
    refine ⟨this, ?_⟩
    unfold ringKey
    rw [if_pos h]
    simp only [ne_eq]
    omega
  · refine ⟨fun hk => ?_, ?_⟩
    · have := bookKeys_lt hk
      unfold ringKey at this
      rw [if_neg h] at this
      omega
    · unfold ringKey
      rw [if_neg h]
      simp only [ne_eq]
      omega

/-- A ring fault is counted and reported, and its cause is shown (R290). -/
theorem ringFault_spec (s : State) {n cause : Nat} (hn : n < 1024) (hc : cause < 4) (value : Nat) :
    RingFault s (s.ringFault n cause value) n cause := by
  obtain ⟨hbook, hcount, hsat⟩ := ringKey_status_not_book hn
  have hset : Fr [] [ringKey n 0x1C] s ((s.set (ringSTATE n) 2).set (ringCAUSE n) cause) :=
    fr_set (f := ringCAUSE n) (fr_set (f := ringSTATE n) (Fr.refl _ _ s) (by simp [ringSTATE]) 2) (by simp [ringCAUSE]) cause
  have hfault := count_raiseLim_fr ((s.set (ringSTATE n) 2).set (ringCAUSE n) cause) HIF_RINGFAULTS HIF_SAT_RINGFAULTS 0x8903
    (srcHif (if n < 64 then 0 else 1)) [(18, 2, n), (20, 1, cause), (21, 4, value)]
  have hkept : ringKey n 0x1C ∉ HIF_RINGFAULTS :: HIF_SAT_RINGFAULTS.reg :: bookKeys := by simp [hbook, hcount, hsat]
  refine ⟨?_, ?_, ?_, ?_⟩
  · refine (hfault.get (f := ringSTATE n) hkept).trans ?_
    rw [State.get_set_apart _ (by simp [fldsApart, ringSTATE, ringCAUSE]), State.get_set_self _ _ (by simp [ringSTATE])]
    simp [ringSTATE]
  · refine (hfault.get (f := ringCAUSE n) hkept).trans ?_
    rw [State.get_set_self _ _ (by simp [ringCAUSE])]
    exact Nat.mod_eq_of_lt hc
  · have hlim := (raiseLim_fr (((s.set (ringSTATE n) 2).set (ringCAUSE n) cause).count HIF_RINGFAULTS HIF_SAT_RINGFAULTS 1) 0x8903
      (srcHif (if n < 64 then 0 else 1)) [(18, 2, n), (20, 1, cause), (21, 4, value)]).frame.reg HIF_RINGFAULTS (by decide)
    unfold State.ringFault
    dsimp only
    rw [hlim, rd_count _ _ _ (by decide) (by decide), hset.frame.reg _ (by simpa using hcount.symm)]
  · exact ((hset.mono (by simp) (by simp)).trans (hfault.mono (List.Subset.refl _) (by simp))).frame

/-! ### Entries filled from a queue -/

/-- The data of k items of a queue, from a position behind R on. -/
def State.itemsFrom (s : State) (q first k : Nat) : List Word := (upto k).map fun i => (s.itemAt q (first + i)).data

/-- An entry written back with items that have been popped. -/
theorem filled_of_pops {s u : State} {n q first k : Nat} {x : Queue} (e : DEntry) (h : PopsTo s u q (x.passed (first + k) 0))
    (seq flags : Nat) :
    Filled s (u.writeBackEntry n e (s.itemsFrom q first k) seq flags (s.epochOf q).toNat) n q e x first k seq flags := by
  have hwrite := writeBackEntry_fr u n e (s.itemsFrom q first k) seq flags (s.epochOf q).toNat
  have hque : ∀ p, (u.writeBackEntry n e (s.itemsFrom q first k) seq flags (s.epochOf q).toNat).queue p = u.queue p := fun p =>
    congrArg (fun w : QueState => Tab.get none0 w.queues p) (hwrite.frame.part .que (by simp))
  have hring : u.ring = s.ring := congrArg (fun (t : Tab Ring) n => Tab.get ring0 t n) (h.fr.frame.part .rings (by simp))
  have hsize : u.ringSize n = s.ringSize n := congrArg (2 ^ ·) (h.fr.get (by simp))
  have hout : u.out = s.out := h.fr.frame.part .out (by simp)
  have haddr : u.entryAddr n (s.ring n).c 32 = s.entryAddr n (s.ring n).c 32 := by
    unfold State.entryAddr State.rd64
    rw [hsize, h.fr.frame.reg _ (by simp), h.fr.frame.reg _ (by simp)]
  have htime : u.time = s.time := h.fr.frame.part .time (by simp)
  refine ⟨(hque q).trans h.queue, ?_, ?_, fun p hp => (hque p).trans (h.others p hp), ?_⟩
  · have hsent := writeBackEntry_out u n e (s.itemsFrom q first k) seq flags (s.epochOf q).toNat
    rw [hout, State.entryWrites, hring, haddr, htime] at hsent
    rw [show (s.itemsFrom q first k).length = k by simp [State.itemsFrom, upto]] at hsent
    exact hsent
  · rw [writeBackEntry_c, hring, hsize]
  · exact (h.fr.frame.mono (by simp) (by simp)).trans (hwrite.frame.mono (by simp) (by simp))

/-- Non-packet service: the items present fill one entry (R299). -/
theorem fillEntry_clean {s : State} {n q k : Nat} {x : Queue} {e : DEntry} {found : List (Nat × Ecc)} {partly : Bool}
    (hx : s.queue q = some x) (hpacket : x.packet = false) (hk : k = min (e.len.toNat / 8) x.count) (h0 : 0 < k)
    (hp : k = e.len.toNat / 8 ∨ partly = true)
    (hclean : ∀ i, i < k → (s.itemAt q i).poison = false ∧ eccAt found i = .clean) :
    Filled s (s.fillEntry n q e found partly) n q e x 0 k 0 16 := by
  obtain ⟨j, rfl⟩ : ∃ j, k = j + 1 := ⟨k - 1, by omega⟩
  have hrun : CleanRun s q x found 0 (j + 1) :=
    ⟨hx, by omega, fun h => by simp [hpacket] at h, fun i hi => by rw [Nat.zero_add]; exact hclean i hi⟩
  obtain ⟨u, hu, hpops⟩ := popItems_clean j hrun
  have hleft : x.leftBy (j + 1) = 0 := by
    unfold Queue.leftBy
    rw [hpacket]
    rfl
  have hcount : s.published q = x.count := by
    unfold State.published
    rw [hx]
  have hfill : s.fillEntry n q e found partly = u.writeBackEntry n e (s.itemsFrom q 0 (j + 1)) 0 16 (s.epochOf q).toNat := by
    unfold State.fillEntry
    dsimp only
    rw [hcount, ← hk, if_neg (by simp; intro h; exact hp.resolve_left (by omega)), hu, upto, List.range_succ_eq_map, List.map_cons]
    dsimp only
    have hany : ((s.dataItem q 0) :: ((List.range j).map Nat.succ).map (s.dataItem q)).any Popped.uncorr = false := by
      simp [State.dataItem]
    rw [hany, State.itemsFrom, upto, List.range_succ_eq_map]
    simp [State.dataItem, Function.comp_def, b2n]
  rw [hfill]
  rw [hleft, ← Nat.zero_add (j + 1)] at hpops
  exact filled_of_pops e hpops 0 16

end Sys2Proof.Machine
end

section
/-! SUPPORT.  Packets of a data ring: their words, and an uncorrectable length word (R206, R208, R211, R299). -/

namespace Sys2Proof.Machine

open Sys2Proof

/-! ### A queue that a fault resets -/

theorem Queue.cleared_cleared (x : Queue) : x.cleared.cleared = x.cleared := by
  unfold Queue.cleared
  cases hp : x.packet <;> cases hs : x.slot <;> cases hc : x.copy <;> simp

theorem queue_of_que {s t : State} (h : t.que = s.que) (q : Nat) : t.queue q = s.queue q := by
  unfold State.queue
  rw [h]

theorem queueClear_queue (s : State) (q p : Nat) :
    (s.queueClear q).queue p = if p = q then (s.queue q).map Queue.cleared else s.queue p := by
  unfold State.queueClear
  cases hx : s.queue q with
  | none =>
    dsimp only
    split
    next h => rw [h, hx]; rfl
    next => rfl
  | some x =>
    exact (queue_setQueue s q p (some x.cleared) :)

theorem queueFault_queue (s : State) (q cause p : Nat) :
    (s.queueFault q cause).queue p = if p = q then (s.queue q).map Queue.cleared else s.queue p := by
  rw [← queueClear_queue]
  unfold State.queueFault
  split
  next h => unfold State.queueClear; rw [h]
  next x h =>
    dsimp only
    exact queue_of_que (((noteFault_fr (y := 2) (s := _) _ _).frame.part .que (by simp)).trans (State.raiseSt_que ..)) p

/-- A queue that has been left alone or reset. -/
def QueueKept (x : Queue) (q : Nat) (t : State) : Prop := t.queue q = some x ∨ t.queue q = some x.cleared

section
variable {x : Queue} {q : Nat} {s t : State}

theorem QueueKept.of_que (h : QueueKept x q s) (hq : t.que = s.que) : QueueKept x q t := by
  unfold QueueKept
  rwa [queue_of_que hq]

theorem QueueKept.queueFault (h : QueueKept x q s) (p cause : Nat) : QueueKept x q (s.queueFault p cause) := by
  unfold QueueKept
  rw [queueFault_queue]
  split
  next hp =>
    subst hp
    obtain h | h := h
    · exact .inr (by rw [h]; rfl)
    · exact .inr (by rw [h]; exact congrArg some x.cleared_cleared)
  next => exact h

theorem QueueKept.foldl {α : Type} {f : State → α → State} (hf : ∀ t a, QueueKept x q t → QueueKept x q (f t a)) (l : List α)
    (h : QueueKept x q s) : QueueKept x q (l.foldl f s) := by
  induction l generalizing s with
  | nil => exact h
  | cons a l ih => exact ih (hf s a h)

theorem QueueKept.retireBank (h : QueueKept x q s) (b : Nat) : QueueKept x q (s.retireBank b) := by
  unfold State.retireBank
  refine QueueKept.foldl (fun t p ht => ht.queueFault p 2) _ (h.of_que ?_)
  exact (reportFault_fr _ 2 _ _ _ _ _).frame.part .que (by decide)

theorem startRemap_que (s : State) (b : Nat) : (s.startRemap b).que = s.que := by
  unfold State.startRemap
  dsimp only
  split
  · exact (submitOwn_fr _ (by simp [State.onGrant]) _ _ _).frame.part .que (by decide)
  · rfl

theorem QueueKept.bankFailing (h : QueueKept x q s) (b : Nat) (ue : Bool) : QueueKept x q (s.bankFailing b ue) := by
  unfold State.bankFailing
  dsimp only
  split
  · split
    · exact h
    split
    · exact h
    split
    · split
      · exact h.retireBank b
      · exact h
    · exact h.of_que (startRemap_que s b)
  · split
    · split
      · split
        · exact h.retireBank _
        · exact h
      split
      · exact h.of_que rfl
      · exact h
    · exact h.of_que rfl

theorem setBankUes_que (s : State) (b n : Nat) : (s.setBankUes b n).que = s.que := rfl

theorem QueueKept.foundUE (h : QueueKept x q s) (b w : Nat) (v : Word) (e n : Nat) : QueueKept x q (s.foundUE b w v e n) := by
  unfold State.foundUE
  extract_lets a c d
  have hcount : (a.countUE b 1).que = s.que := 
    ((countUE_fr a b 1).frame.part .que (by simp)).trans (State.putWord_que ..)
  have hlast : c.que = s.que :=
    (setBankUes_que ..).trans (((lastError_fr (a.countUE b 1) b w true e).frame.part .que (by simp)).trans hcount)
  have hreport : d.que = c.que := (reportFault_fr c 2 _ _ _ _ _).frame.part .que (by decide)
  exact (h.of_que (hreport.trans hlast)).bankFailing b true

/-- A read that finds an uncorrectable error reports it, and may retire the bank of the queue. -/
theorem readBank_bad (hx : s.queue q = some x) (b w : Nat) {ecc : Ecc} (n : Nat)
    (hbad : (s.word (s.serving b) w).poison = true ∨ eccUe ecc = true) :
    (s.readBank b w ecc n).2.2 = true ∧ QueueKept x q (s.readBank b w ecc n).1 := by
  unfold State.readBank
  dsimp only
  split
  · exact ⟨rfl, .inl hx⟩
  next hpoison =>
    cases ecc with
    | clean => exact absurd (hbad.resolve_left hpoison) Bool.false_ne_true
    | ce e => exact absurd (hbad.resolve_left hpoison) Bool.false_ne_true
    | ue v e => exact ⟨rfl, QueueKept.foundUE (.inl hx) _ _ _ _ _⟩

/-- An uncorrectable length word resets the queue (R206, R211). -/
theorem popItem_badLength (hx : s.queue q = some x) (hr : x.ready = true) (hlen : x.headIsLength = true) {ecc : Ecc}
    (hbad : (s.itemAt q 0).poison = true ∨ eccUe ecc = true) : (s.popItem q ecc).1.queue q = some x.cleared := by
  rw [itemAt_eq hx, Nat.add_zero] at hbad
  obtain ⟨hue, hkept⟩ := readBank_bad hx (s.engineBank q) (x.pos x.r) 2 hbad
  unfold State.popItem
  rw [hx]
  dsimp only
  rw [if_neg (by rw [hr]; decide)]
  generalize s.readBank (s.engineBank q) (x.pos x.r) ecc 2 = r at hue hkept
  obtain ⟨t, v, bad⟩ := r
  dsimp only at hue hkept ⊢
  split
  next hmoved =>
    refine hkept.resolve_left fun h => ?_
    rw [h] at hmoved
    simp at hmoved
  next =>
    rw [if_pos ⟨hue, hlen⟩, queueFault_queue, if_pos rfl]
    obtain h | h := hkept
    · rw [h]; rfl
    · rw [h]; exact congrArg some x.cleared_cleared

end

/-! ### A packet without errors -/

section
variable {s : State} {n q k : Nat} {x : Queue} {found : List (Nat × Ecc)} (hx : s.queue q = some x) (hpacket : x.packet = true)
  (hr : x.ready = true) (hleft : x.left = 0) (hk : k = bitsAt (s.itemAt q 0).data.toNat 0 16) (hcount : k + 1 ≤ x.count)
  (hclean : ∀ i, i ≤ k → (s.itemAt q i).poison = false ∧ eccAt found i = .clean)

/-- The length word as a clean pop delivers it. -/
def State.lengthItem (s : State) (q : Nat) : Popped :=
  { item := (s.itemAt q 0).data, isLen := true, uncorr := false, epoch := (s.epochOf q).toNat }

include hx hpacket hr hleft hk hcount hclean

/-- A clean packet is popped as a whole: its length word, then its data words. -/
theorem popPacket_clean : s.popItem q (eccAt found 0) = (s.setQueue q (some (x.passed 1 k)), some (s.lengthItem q)) ∧
    ∃ u, (s.setQueue q (some (x.passed 1 k))).popItems q found 1 k =
        (u, (upto k).map ((s.setQueue q (some (x.passed 1 k))).dataItem q)) ∧
      PopsTo s u q (x.passed (1 + k) 0) := by
  have hhead : x.headIsLength = true := by
    unfold Queue.headIsLength
    rw [hpacket, decide_eq_true hleft]
    rfl
  have hpops := popsTo_setQueue s q (x.passed 1 k)
  have hafter : x.leftAfter (s.itemAt q 0).data = k := by
    unfold Queue.leftAfter
    rw [if_pos hpacket, if_pos hhead, hk]
  refine ⟨?_, ?_⟩
  · rw [(hclean 0 (Nat.zero_le _)).2, popItem_clean hx hr (hclean 0 (Nat.zero_le _)).1, hafter, hhead]
    rfl
  · obtain _ | j := k
    · exact ⟨_, rfl, hpops⟩
    · have hrun : CleanRun (s.setQueue q (some (x.passed 1 (j + 1)))) q (x.passed 1 (j + 1)) found 1 (j + 1) := by
        refine ⟨hpops.queue, ?_, fun _ => Nat.le_refl _, fun i hi => ?_⟩
        · have := Queue.count_passed (x := x) (by omega) (j + 1)
          omega
        · rw [itemAt_passed hx hpops]
          exact hclean (1 + i) (by omega)
      obtain ⟨u, hu, hrest⟩ := popItems_clean j hrun
      refine ⟨u, hu, ?_⟩
      have hend : (x.passed 1 (j + 1)).leftBy (j + 1) = 0 := by
        unfold Queue.leftBy
        rw [show (x.passed 1 (j + 1)).packet = true from hpacket, if_pos rfl]
        exact Nat.sub_self _
      rw [hend, Queue.passed_passed] at hrest
      exact hpops.trans hrest

/-- A clean packet that fits one entry fills it (R299). -/
theorem takePacket_clean {e : DEntry} (hfits : k ≤ e.len.toNat / 8) :
    Filled s (s.takePacket n q [e] k found) n q e x 1 k (bitsAt (s.itemAt q 0).data.toNat 16 16)
      (19 + 4 * b2n (bitAt (s.itemAt q 0).data.toNat 32)) := by
  obtain ⟨hpop, u, hu, hpops⟩ := popPacket_clean hx hpacket hr hleft hk hcount hclean
  have hfirst := popsTo_setQueue s q (x.passed 1 k)
  have hlen : ((upto k).map ((s.setQueue q (some (x.passed 1 k))).dataItem q)).length = k := by simp [upto]
  have hdata : ((upto k).map ((s.setQueue q (some (x.passed 1 k))).dataItem q)).map Popped.item = s.itemsFrom q 1 k := by
    rw [List.map_map]
    refine List.map_congr_left fun i _ => ?_
    change ((s.setQueue q (some (x.passed 1 k))).itemAt q i).data = _
    rw [itemAt_passed hx hfirst]
  have hany : ((upto k).map ((s.setQueue q (some (x.passed 1 k))).dataItem q)).any Popped.uncorr = false := by
    simp [State.dataItem]
  have htake : s.takePacket n q [e] k found = u.writeBackEntry n e (s.itemsFrom q 1 k)
      (bitsAt (s.itemAt q 0).data.toNat 16 16) (19 + 4 * b2n (bitAt (s.itemAt q 0).data.toNat 32)) (s.epochOf q).toNat := by
    unfold State.takePacket
    rw [hpop]
    dsimp only
    rw [hu]
    dsimp only
    rw [if_neg (by rw [hlen]; exact lt_irrefl k)]
    unfold State.fillPacket
    dsimp only
    rw [List.take_of_length_le (by rw [hlen]; exact hfits), List.drop_eq_nil_of_le (by rw [hlen]; exact hfits), if_pos rfl, hdata,
      hany, show (s.lengthItem q).item = (s.itemAt q 0).data from rfl, show (s.lengthItem q).epoch = (s.epochOf q).toNat from rfl]
    congr 1
    simp [b2n]
    omega
  rw [htake]
  exact filled_of_pops e hpops _ _

end

/-- The first entries of a list that hold k words are one where the first holds them. -/
theorem entriesFor_eq_single {e : DEntry} {es : List DEntry} {k : Nat} (h : entriesFor (e :: es) k = [e])
    (hw : k ≤ entriesWords (e :: es)) : k ≤ e.len.toNat / 8 := by
  by_contra hk
  unfold entriesFor at h
  rw [if_neg hk] at h
  cases es with
  | nil =>
    have : entriesWords [e] = e.len.toNat / 8 := Nat.zero_add _
    omega
  | cons f fs =>
    unfold entriesFor at h
    split at h <;> simp at h

end Sys2Proof.Machine
end

section
/-! SUPPORT.  Words that a data ring pushes to a queue (R199, R204, R300). -/

namespace Sys2Proof.Machine

open Sys2Proof

/-! ### Pointers of a push -/

theorem upTo_pushed {r w m : Nat} (hr : r < m) (h : (w + m - r) % m + 1 < m) :
    ((w + 1) % m + m - r) % m = (w + m - r) % m + 1 := by
  have hw := Nat.div_add_mod (w + 1) m
  have hq := Nat.div_add_mod (w + m - r) m
  have hlt := Nat.mod_lt (w + 1) (show 0 < m by omega)
  generalize (w + 1) % m = a at *
  generalize (w + m - r) % m = c at *
  generalize (w + 1) / m = j at *
  generalize (w + m - r) / m = k at *
  have hsum : a + m - r + m * j = c + 1 + m * k := by omega
  calc (a + m - r) % m = (a + m - r + m * j) % m := (Nat.add_mul_mod_self_left _ _ _).symm
    _ = (c + 1 + m * k) % m := by rw [hsum]
    _ = c + 1 := by rw [Nat.add_mul_mod_self_left, Nat.mod_eq_of_lt h]

theorem Queue.free_le (x : Queue) : x.free ≤ x.size := Nat.sub_le _ _

/-- A queue after one word has been pushed: one word less is free. -/
theorem free_pushed {x y : Queue} (hr : x.r < 2 * x.size) (hf : 0 < x.free) (hw : y.w = x.adv x.w 1) (hyr : y.r = x.r)
    (hs : y.size = x.size) : y.free + 1 = x.free := by
  have hup : y.upTo y.w = x.upTo x.w + 1 := by
    unfold Queue.upTo Queue.adv at *
    rw [hw, hyr, hs]
    unfold Queue.free Queue.upTo at hf
    exact upTo_pushed hr (by omega)
  unfold Queue.free at *
  rw [hup, hs]
  omega

theorem Queue.pos_lt {x : Queue} (h : x.base + x.size ≤ 8192) (p : Nat) : x.pos p < 8192 := by
  have := Nat.mod_lt p x.size_pos
  unfold Queue.pos
  omega

/-- The places of fewer words than the queue has differ. -/
theorem Queue.pos_ne (x : Queue) (p : Nat) {i : Nat} (h1 : 0 < i) (h2 : i < x.size) : x.pos (p + i) ≠ x.pos p := by
  unfold Queue.pos
  intro h
  have hmod : (p + i) % x.size = p % x.size := by omega
  have hdvd : x.size ∣ i := by
    have := (Nat.modEq_iff_dvd' (Nat.le_add_right p i)).mp (Eq.symm hmod : p ≡ p + i [MOD x.size])
    rwa [Nat.add_sub_cancel_left] at this
  exact absurd (Nat.le_of_dvd h1 hdvd) (by omega)

/-! ### What a push depends on -/

theorem heldBack_of {s u : State} {q : Nat} {x y : Queue} (hx : s.queue q = some x) (hy : u.queue q = some y)
    (hprod : y.prod = x.prod) (h : Fr [.que, .words, .mem, .rings] [] s u) : u.heldBack q = s.heldBack q := by
  have hpace : u.pace = s.pace := h.frame.part .pace (by decide)
  have hmnt : { u.mnt with acts := s.mnt.acts } = s.mnt := h.frame.part .mnt (by decide)
  have hmat : u.logMat = s.logMat := by
    have hmap : u.mnt.matMap = s.mnt.matMap := (congrArg MntState.matMap hmnt :)
    unfold State.logMat State.physMat
    rw [hmap]
  have hpacer : u.queuePacer q = s.queuePacer q := by
    unfold State.queuePacer State.regionOf
    rw [hx, hy]
    dsimp only
    rw [hprod, hpace, hmat, engineBank_of_fr h (by decide)]
  unfold State.heldBack
  rw [hpacer]
  cases s.queuePacer q with
  | none => rfl
  | some p => exact congrArg (fun v => decide (2 ≤ v)) (h.get (by simp))

/-! ### Pushes -/

/-- The queue after n words have been pushed to it outside packets. -/
def State.filledBy (s : State) (q : Nat) (x : Queue) (n : Nat) : Queue := { s.pushed q x n with len := 0 }

/-- From s to u the first j words of ws have been pushed to queue q outside packets, the ring having had i before. -/
structure PushesTo (s u : State) (n q i : Nat) (x : Queue) (ws : List Word) (j : Nat) : Prop where
  queue : u.queue q = some (s.filledBy q x j)
  ring : u.ring n = { s.ring n with pushed := i + j }
  written : ∀ a w, a < j → ws[a]? = some w → ∀ b ∈ s.copiesOf (s.engineBank q) (x.pos (x.w + a)), u.word b.1 b.2 = wordOf w
  kept : ∀ b a, a < 8192 → (∀ c, c < j → (b, a) ∉ s.copiesOf (s.engineBank q) (x.pos (x.w + c))) → u.word b a = s.word b a
  others : ∀ p, p ≠ q → u.queue p = s.queue p
  fr : Fr [.que, .words, .mem, .rings] [] s u

/-- What a push to a queue outside packets needs. -/
structure Takes (s : State) (q : Nat) (x : Queue) : Prop where
  here : s.queue q = some x
  plain : x.packet = false
  serves : s.bankRetired (s.engineBank q) = false
  inside : x.base + x.size ≤ 8192
  pointer : x.r < 2 * x.size

section
variable {s : State} {q : Nat} {x : Queue} (h : Takes s q x)
include h

theorem canPush_iff (start : Bool) : s.canPush q start = decide (0 < x.free) := by
  unfold State.canPush Queue.need
  rw [h.here]
  dsimp only
  rw [h.plain, if_pos rfl, h.serves, Bool.not_false, Bool.and_true]
  rfl

theorem pushItem_plain (w : Word) (start last : Bool) : s.pushItem q w start last =
    (s.writeBank (s.engineBank q) (x.pos x.w) (wordOf w)).setQueue q (some (s.filledBy q x 1)) := by
  have hheld : (s.writeBank (s.engineBank q) (x.pos x.w) (wordOf w)).heldBack q = s.heldBack q := by
    have hw := writeBank_fr s (s.engineBank q) (x.pos x.w) (wordOf w)
    have hx : (s.writeBank (s.engineBank q) (x.pos x.w) (wordOf w)).queue q = some x :=
      (queue_of_que (hw.frame.part .que (by simp)) q).trans h.here
    exact heldBack_of h.here hx rfl (hw.mono (by simp) (by simp))
  have htime : (s.writeBank (s.engineBank q) (x.pos x.w) (wordOf w)).time = s.time :=
    (writeBank_fr s (s.engineBank q) (x.pos x.w) (wordOf w)).frame.part .time (by simp)
  unfold State.pushItem
  rw [h.here]
  dsimp only
  rw [if_pos h.plain]
  unfold State.putItem
  rw [h.here]
  dsimp only
  change State.setQueue (s.writeBank (s.engineBank q) (x.pos x.w) (wordOf w)) q (some
    { x with w := x.adv x.w 1,
             pw := if (s.writeBank (s.engineBank q) (x.pos x.w) (wordOf w)).heldBack q then x.pw else x.adv x.w 1,
             freshAt := if (s.writeBank (s.engineBank q) (x.pos x.w) (wordOf w)).heldBack q then x.freshAt
               else (s.writeBank (s.engineBank q) (x.pos x.w) (wordOf w)).time,
             len := if x.packet then x.len + 1 else 0 }) = _
  rw [hheld, htime, if_neg (c := x.packet = true) (by rw [h.plain]; decide)]
  rfl

/-- The state after one word. -/
def State.onePushed (s : State) (n q i : Nat) (x : Queue) (w : Word) : State :=
  (((s.writeBank (s.engineBank q) (x.pos x.w) (wordOf w)).setQueue q (some (s.filledBy q x 1))).setRing n
    { s.ring n with pushed := i + 1 })

theorem pushesTo_one (n i : Nat) (w : Word) (ws : List Word) : PushesTo s (s.onePushed n q i x w) n q i x (w :: ws) 1 := by
  have hwrite := writeBank_fr s (s.engineBank q) (x.pos x.w) (wordOf w)
  have hword (b a : Nat) (ha : a < 8192) : (s.onePushed n q i x w).word b a =
      if (b, a) ∈ s.copiesOf (s.engineBank q) (x.pos x.w) then wordOf w else s.word b a :=
    word_writeBank s (Queue.pos_lt h.inside _) ha (wordOf w)
  refine ⟨?_, ring_setRing_self .., fun a v ha hv b hb => ?_, fun b a ha hn => ?_, fun p hp => ?_, ?_⟩
  · exact (queue_setQueue _ q q _).trans (if_pos rfl)
  · obtain rfl : a = 0 := by omega
    obtain rfl : w = v := by simpa using hv
    rw [Nat.add_zero] at hb
    rw [hword _ _ (by rw [copiesOf_addr hb]; exact Queue.pos_lt h.inside _), if_pos hb]
  · rw [hword b a ha, if_neg (show (b, a) ∉ s.copiesOf (s.engineBank q) (x.pos x.w) from hn 0 (by omega))]
  · refine (queue_setQueue _ q p _).trans ((if_neg hp).trans ?_)
    exact queue_of_que (hwrite.frame.part .que (by simp)) p
  · refine fr_setRing ?_ (by simp) n _
    exact (hwrite.mono (by simp) (by simp)).trans ((setQueue_fr _ q _).mono (by simp) (by simp))

theorem pushWords_step {n i : Nat} (hf : 0 < x.free) (start last : Bool) (w : Word) (ws : List Word) :
    s.pushWords n q start last i (w :: ws) = (s.onePushed n q i x w).pushWords n q start last (i + 1) ws := by
  have hring : ((s.writeBank (s.engineBank q) (x.pos x.w) (wordOf w)).setQueue q (some (s.filledBy q x 1))).ring n = s.ring n :=
    congrArg (fun t => Tab.get ring0 t n) ((writeBank_fr s (s.engineBank q) (x.pos x.w) (wordOf w)).frame.part .rings (by simp))
  unfold State.pushWords
  rw [canPush_iff h, decide_eq_true hf, if_neg (by decide), pushItem_plain h]
  dsimp only
  rw [hring]
  cases ws <;> rfl

/-- The queue takes more after a word. -/
theorem Takes.next {u : State} {n i : Nat} {w : Word} (hu : u = s.onePushed n q i x w) : Takes u q (s.filledBy q x 1) := by
  subst hu
  have hone := pushesTo_one h n i w []
  refine ⟨hone.queue, h.plain, ?_, h.inside, h.pointer⟩
  have hbank : (s.onePushed n q i x w).engineBank q = s.engineBank q := engineBank_of_fr hone.fr (by decide) q
  unfold State.bankRetired at *
  rw [hbank, hone.fr.get (by simp)]
  exact h.serves

/-- One word, and then more. -/
theorem PushesTo.cons {u : State} {n i j : Nat} {w : Word} {ws : List Word} (hj : j + 1 ≤ x.size)
    (k : PushesTo (s.onePushed n q i x w) u n q (i + 1) (s.filledBy q x 1) ws j) : PushesTo s u n q i x (w :: ws) (j + 1) := by
  have hone := pushesTo_one h n i w ws
  have hbank : (s.onePushed n q i x w).engineBank q = s.engineBank q := engineBank_of_fr hone.fr (by decide) q
  have hcopies : (s.onePushed n q i x w).copiesOf = s.copiesOf := funext fun b => funext fun a =>
    copiesOf_fr hone.fr (by simp) (by decide) b a
  have hheld : (s.onePushed n q i x w).heldBack q = s.heldBack q := heldBack_of h.here hone.queue rfl hone.fr
  have htime : (s.onePushed n q i x w).time = s.time := hone.fr.frame.part .time (by decide)
  have hpos (a : Nat) : (s.filledBy q x 1).pos ((s.filledBy q x 1).w + a) = x.pos (x.w + (a + 1)) := by
    rw [Nat.add_comm a 1]
    exact x.pos_adv x.w 1 a
  have hwritten := k.written
  have hkept := k.kept
  rw [hbank, hcopies] at hwritten hkept
  refine ⟨?_, ?_, fun a v ha hv b hb => ?_, fun b a ha hn => ?_, fun p hp => (k.others p hp).trans (hone.others p hp),
    hone.fr.trans k.fr⟩
  · rw [k.queue]
    unfold State.filledBy State.pushed
    rw [hheld, htime]
    simp only [Option.some.injEq]
    have hadv : x.adv (x.adv x.w 1) j = x.adv x.w (j + 1) := by rw [Queue.adv_adv, Nat.add_comm]
    cases s.heldBack q <;> simp only [Bool.false_eq_true, if_true, if_false] <;> rw [← hadv] <;> rfl
  · rw [k.ring, hone.ring, show i + (j + 1) = i + 1 + j by omega]
  · obtain _ | a := a
    · have hfirst := hone.written 0 v (by omega) hv b hb
      have haddr : b.2 = x.pos x.w := copiesOf_addr hb
      rw [← hfirst]
      refine hkept b.1 b.2 (by rw [haddr]; exact Queue.pos_lt h.inside _) fun c hc hmem => ?_
      have hsame : b.2 = x.pos (x.w + (c + 1)) := by rw [← hpos]; exact copiesOf_addr hmem
      exact x.pos_ne x.w (i := c + 1) (by omega) (by omega) (hsame.symm.trans haddr)
    · exact hwritten a v (by omega) hv b (by rw [hpos]; exact hb)
  · rw [hkept b a ha fun c hc hmem => hn (c + 1) (by omega) (by rw [← hpos]; exact hmem)]
    exact hone.kept b a ha fun c hc => by
      obtain rfl : c = 0 := by omega
      exact hn 0 (by omega)

end

/-- Words are pushed in order as long as the queue takes them (R300). -/
theorem pushWords_plain {n q : Nat} {start last : Bool} (ws : List Word) {s : State} {x : Queue} {i : Nat} (h : Takes s q x)
    (hj : 0 < min ws.length x.free) :
    PushesTo s (s.pushWords n q start last i ws) n q i x ws (min ws.length x.free) := by
  induction ws generalizing s x i with
  | nil => simp at hj
  | cons w ws ih =>
    have hf : 0 < x.free := by omega
    have hfree : (s.filledBy q x 1).free + 1 = x.free := free_pushed h.pointer hf rfl rfl rfl
    have hsize := x.free_le
    rw [pushWords_step h hf]
    by_cases hmore : 0 < min ws.length (s.filledBy q x 1).free
    · have hrest := PushesTo.cons (w := w) h (by omega) (ih (i := i + 1) (h.next (n := n) (i := i) (w := w) rfl) hmore)
      rw [List.length_cons, ← hfree, Nat.add_min_add_right]
      exact hrest
    · have hlast : min (w :: ws).length x.free = 1 := by
        rw [List.length_cons, ← hfree]
        omega
      have hend : (s.onePushed n q i x w).pushWords n q start last (i + 1) ws = s.onePushed n q i x w := by
        cases ws with
        | nil => rfl
        | cons v ws =>
          have hfull : ¬ 0 < (s.filledBy q x 1).free := fun hpos => hmore (by
            rw [List.length_cons]
            omega)
          unfold State.pushWords
          rw [canPush_iff (h.next (n := n) (i := i) (w := w) rfl), decide_eq_false hfull, if_pos rfl]
      rw [hlast, hend]
      exact pushesTo_one h n i w ws

end Sys2Proof.Machine
end

section
/-! PROOF.  The rows of the data rings (R298 to R300). -/

namespace Sys2Proof.Machine

open Sys2Proof

/-! ### Write-back of a device-to-host ring -/

section
variable {s : State} {ring : RingId} {l : List DEntry} {found : List (Nat × Ecc)} {n : Nat} (hn : n = ring.val)
include hn

theorem writeback_none (h : s.ringRuns n 3 = false ∨ s.dmaOn = false ∨ s.posted n < l.length ∨ s.boundQueue n = none ∨ l = []) :
    exec (.dataRingWriteback ring l found) s = .next s := by
  subst hn
  change execDataRingWriteback ring l found s = _
  unfold execDataRingWriteback
  dsimp only
  by_cases hpre : s.ringRuns ring.val 3 = false ∨ s.dmaOn = false ∨ s.posted ring.val < l.length
  · rw [if_pos hpre]
  · rw [if_neg hpre]
    have hrest : s.boundQueue ring.val = none ∨ l = [] := by
      obtain h | h | h | h := h
      · exact absurd (.inl h) hpre
      · exact absurd (.inr (.inl h)) hpre
      · exact absurd (.inr (.inr h)) hpre
      · exact h
    obtain hnone | rfl := hrest
    · rw [hnone]
    · cases s.boundQueue ring.val <;> rfl

variable {q : Nat} {x : Queue} {e : DEntry} {es : List DEntry} (hl : l = e :: es) (hruns : s.ringRuns n 3 = true)
  (hdma : s.dmaOn = true) (hposted : l.length ≤ s.posted n) (hbound : s.boundQueue n = some q) (hx : s.queue q = some x)

/-- The row of a ring that serves its queue, by the queue's consumer and mode. -/
def State.writebackOf (s : State) (n q : Nat) (x : Queue) (e : DEntry) (es : List DEntry) (found : List (Nat × Ecc)) : State :=
  if x.cons ≠ 3 then s
  else if x.packet = false then
    if DEntryOk e = false then s.ringFault n 2 (s.ring n).c else s.fillEntry n q e found (decide (s.get (ringUS n) = 0))
  else if s.headReady q = false then s
  else if (s.itemAt q 0).poison || eccUe (eccAt found 0) then (s.popItem q (eccAt found 0)).1
  else if s.published q < bitsAt (s.itemAt q 0).data.toNat 0 16 + 1 ∨
      entriesWords (e :: es) < bitsAt (s.itemAt q 0).data.toNat 0 16 then s
  else if (entriesFor (e :: es) (bitsAt (s.itemAt q 0).data.toNat 0 16)).all DEntryOk = false then s.ringFault n 2 (s.ring n).c
  else s.takePacket n q (entriesFor (e :: es) (bitsAt (s.itemAt q 0).data.toNat 0 16)) (bitsAt (s.itemAt q 0).data.toNat 0 16) found

include hl hruns hdma hposted hbound hx in
theorem writeback_eq : exec (.dataRingWriteback ring l found) s = .next (s.writebackOf n q x e es found) := by
  subst hn hl
  change execDataRingWriteback ring (e :: es) found s = _
  unfold execDataRingWriteback
  dsimp only
  rw [if_neg (by simp only [hruns, hdma]; simp; simpa using hposted), hbound]
  dsimp only
  rw [hx]
  unfold State.writebackOf
  dsimp only
  split_ifs <;> rfl

end

section
variable {s : State} {n q k : Nat} {x : Queue} {e : DEntry} {es : List DEntry} {found : List (Nat × Ecc)}
  (hx : s.queue q = some x) (hcons : x.cons = 3)
include hx

theorem published_eq : s.published q = x.count := by
  unfold State.published
  rw [hx]

include hcons

/-- Non-packet service, by the number k of items that the entry takes. -/
theorem writebackOf_plain (hpacket : x.packet = false) (hk : k = min (e.len.toNat / 8) x.count) :
    (DEntryOk e = false → s.writebackOf n q x e es found = s.ringFault n 2 (s.ring n).c) ∧
    (DEntryOk e = true → k = 0 ∨ (k < e.len.toNat / 8 ∧ s.get (ringUS n) ≠ 0) → s.writebackOf n q x e es found = s) ∧
    (DEntryOk e = true → 0 < k → k = e.len.toNat / 8 ∨ s.get (ringUS n) = 0 → s.writebackOf n q x e es found =
      s.fillEntry n q e found (decide (s.get (ringUS n) = 0))) := by
  have hof : s.writebackOf n q x e es found = if DEntryOk e = false then s.ringFault n 2 (s.ring n).c
      else s.fillEntry n q e found (decide (s.get (ringUS n) = 0)) := by
    unfold State.writebackOf
    rw [if_neg (by simp [hcons]), if_pos hpacket]
  rw [hof]
  refine ⟨fun h => if_pos h, fun h hno => ?_, fun h _ _ => if_neg (by simp [h])⟩
  rw [if_neg (by simp [h])]
  unfold State.fillEntry
  dsimp only
  rw [published_eq hx, ← hk, if_pos (hno.imp_right fun h => ⟨h.1, decide_eq_false h.2⟩)]

/-- Packet service, up to the packet itself. -/
theorem writebackOf_packet (hpacket : x.packet = true) (hk : k = bitsAt (s.itemAt q 0).data.toNat 0 16) :
    (s.headReady q = false → s.writebackOf n q x e es found = s) ∧
    (s.headReady q = true → (s.itemAt q 0).poison = true ∨ eccUe (eccAt found 0) = true →
      s.writebackOf n q x e es found = (s.popItem q (eccAt found 0)).1) ∧
    (s.headReady q = true → (s.itemAt q 0).poison = false → eccUe (eccAt found 0) = false →
      (x.count < k + 1 ∨ entriesWords (e :: es) < k → s.writebackOf n q x e es found = s) ∧
      (k + 1 ≤ x.count → k ≤ entriesWords (e :: es) →
        ((entriesFor (e :: es) k).all DEntryOk = false → s.writebackOf n q x e es found = s.ringFault n 2 (s.ring n).c) ∧
        ((entriesFor (e :: es) k).all DEntryOk = true →
          s.writebackOf n q x e es found = s.takePacket n q (entriesFor (e :: es) k) k found))) := by
  have hlen := published_eq hx
  subst hk
  unfold State.writebackOf
  rw [if_neg (by simp [hcons]), if_neg (by simp [hpacket]), hlen]
  refine ⟨fun h => if_pos h, fun h hbad => ?_, fun h hp he => ⟨fun hno => ?_, fun h1 h2 => ⟨fun hbad => ?_, fun hok => ?_⟩⟩⟩
  · rw [if_neg (by simp [h]), if_pos (by simpa using hbad)]
  · rw [if_neg (by simp [h]), if_neg (by simp [hp, he]), if_pos hno]
  · rw [if_neg (by simp [h]), if_neg (by simp [hp, he]), if_neg (by omega), if_pos hbad]
  · rw [if_neg (by simp [h]), if_neg (by simp [hp, he]), if_neg (by omega), if_neg (by simp [hok])]

end

/-! ### Entries of popped items -/

section
variable {s u : State} {n q k : Nat} {x : Queue} {e : DEntry} {found : List (Nat × Ecc)} {partly : Bool}
  (hx : s.queue q = some x) (hk : k = min (e.len.toNat / 8) x.count) (h0 : 0 < k) (hp : k = e.len.toNat / 8 ∨ partly = true)
include hx hk h0 hp

theorem fillEntry_pops {p : Popped} {ps : List Popped} (hpops : s.popItems q found 0 k = (u, p :: ps)) :
    s.fillEntry n q e found partly =
      u.writeBackEntry n e (p.item :: ps.map Popped.item) 0 (16 + 8 * b2n ((p :: ps).any Popped.uncorr)) p.epoch := by
  unfold State.fillEntry
  dsimp only
  rw [published_eq hx, ← hk, if_neg (by simp; refine ⟨by omega, fun h => hp.resolve_left (by omega)⟩), hpops]

theorem fillEntry_none (hpops : s.popItems q found 0 k = (u, [])) : s.fillEntry n q e found partly = u := by
  unfold State.fillEntry
  dsimp only
  rw [published_eq hx, ← hk, if_neg (by simp; refine ⟨by omega, fun h => hp.resolve_left (by omega)⟩), hpops]

end

/-- An entry that has been written back with popped items (R298, R299). -/
theorem writeBackEntry_sent (u : State) (n : Nat) (e : DEntry) (p : Popped) (ps : List Popped) (seq flags : Nat) :
    ((u.writeBackEntry n e (p.item :: ps.map Popped.item) seq flags p.epoch).ring n).c = ((u.ring n).c + 1) % (2 * u.ringSize n) ∧
      (u.out ++ [.hostWrite e.addr (((p :: ps).map Popped.item).foldr (fun w b => leBytes 8 w.toNat ++ b) []),
        .hostWrite (u.entryAddr n (u.ring n).c 32 + 16) (writeBackBytes (8 * (ps.length + 1)) seq flags p.epoch u.time)]) <+:
          (u.writeBackEntry n e (p.item :: ps.map Popped.item) seq flags p.epoch).out ∧
      Framed [.rings, .out] [] u (u.writeBackEntry n e (p.item :: ps.map Popped.item) seq flags p.epoch) := by
  refine ⟨writeBackEntry_c .., ?_, (writeBackEntry_fr ..).frame⟩
  have hsent := writeBackEntry_out u n e (p.item :: ps.map Popped.item) seq flags p.epoch
  unfold State.entryWrites at hsent
  rw [List.length_cons, List.length_map] at hsent
  exact hsent

/-- A packet that a reset of its queue cut off is counted (R212, R299). -/
theorem discard_counted (v : State) : ((v.count HDR_DISCARDS HDR_SAT_DISCARDS 1).rd HDR_DISCARDS).toNat =
      min 0xFFFFFFFF ((v.rd HDR_DISCARDS).toNat + 1) ∧
    Framed [] [HDR_DISCARDS, HDR_SAT_DISCARDS.reg] v (v.count HDR_DISCARDS HDR_SAT_DISCARDS 1) :=
  ⟨rd_count _ _ _ (by decide) (by decide), (fr_count (Fr.refl _ _ v) (by simp) (by simp) 1).frame⟩

theorem takePacket_pops {s u v : State} {n q k : Nat} {need : List DEntry} {found : List (Nat × Ecc)} {len : Popped}
    {items : List Popped} (hlen : s.popItem q (eccAt found 0) = (u, some len)) (hitems : u.popItems q found 1 k = (v, items)) :
    s.takePacket n q need k found =
      if items.length < k then v.count HDR_DISCARDS HDR_SAT_DISCARDS 1 else v.fillPacket n len need items true := by
  unfold State.takePacket
  rw [hlen]
  dsimp only
  rw [hitems]

/-! ### The time limit of a partly filled entry -/

section
variable {s : State} {ring : RingId} {e : DEntry} {found : List (Nat × Ecc)} {n : Nat} (hn : n = ring.val)
include hn

theorem coalTimeout_none (h : s.ringRuns n 3 = false ∨ s.dmaOn = false ∨ s.posted n = 0 ∨ s.get (ringUS n) = 0 ∨
    s.boundQueue n = none) : exec (.dataRingCoalTimeout ring e found) s = .next s := by
  subst hn
  change execDataRingCoalTimeout ring e found s = _
  unfold execDataRingCoalTimeout
  dsimp only
  by_cases hpre : s.ringRuns ring.val 3 = false ∨ s.dmaOn = false ∨ s.posted ring.val = 0 ∨ s.get (ringUS ring.val) = 0
  · rw [if_pos hpre]
  · have hnone : s.boundQueue ring.val = none := by
      simp only [not_or] at hpre
      simpa [hpre] using h
    rw [if_neg hpre, hnone]

variable {q : Nat} {x : Queue} (hruns : s.ringRuns n 3 = true) (hdma : s.dmaOn = true) (hposted : 0 < s.posted n)
  (hus : 0 < s.get (ringUS n)) (hbound : s.boundQueue n = some q) (hx : s.queue q = some x)
include hruns hdma hposted hus hbound hx

theorem coalTimeout_waits (h : x.cons ≠ 3 ∨ x.packet = true ∨ s.elapsed x.freshAt (s.get (ringUS n) * 1000) = false) :
    exec (.dataRingCoalTimeout ring e found) s = .next s := by
  subst hn
  change execDataRingCoalTimeout ring e found s = _
  unfold execDataRingCoalTimeout
  dsimp only
  rw [if_neg (by simp only [hruns, hdma]; simp; omega), hbound]
  dsimp only
  rw [hx]
  exact if_pos h

theorem coalTimeout_due (hcons : x.cons = 3) (hpacket : x.packet = false)
    (hdue : s.elapsed x.freshAt (s.get (ringUS n) * 1000) = true) : exec (.dataRingCoalTimeout ring e found) s =
      .next (if DEntryOk e = false then s.ringFault n 2 (s.ring n).c else s.fillEntry n q e found true) := by
  subst hn
  change execDataRingCoalTimeout ring e found s = _
  unfold execDataRingCoalTimeout
  dsimp only
  rw [if_neg (by simp only [hruns, hdma]; simp; omega), hbound]
  dsimp only
  rw [hx]
  dsimp only
  rw [if_neg (by simp [hcons, hpacket, hdue])]
  split_ifs <;> rfl

end

/-! ### Fetches of a host-to-device ring -/

section
variable {s : State} {ring : RingId} {e : DEntry} {words : List Word} {n : Nat} (hn : n = ring.val)
include hn

theorem fetch_none (h : s.ringRuns n 3 = false ∨ s.dmaOn = false ∨ s.ringEmpty n = true ∨ s.boundQueue n = none) :
    exec (.dataRingFetch ring e words) s = .next s := by
  subst hn
  change execDataRingFetch ring e words s = _
  unfold execDataRingFetch
  dsimp only
  by_cases hpre : s.ringRuns ring.val 3 = false ∨ s.dmaOn = false ∨ s.ringEmpty ring.val = true
  · rw [if_pos hpre]
  · have hnone : s.boundQueue ring.val = none := by
      simp only [not_or] at hpre
      simpa [hpre] using h
    rw [if_neg hpre, hnone]

/-- The words of an entry that are still to be pushed have been pushed as far as the queue took them. -/
def State.fetched (s : State) (n q : Nat) (e : DEntry) (words : List Word) : State :=
  s.pushWords n q (e.hflags.getLsbD 0) (e.hflags.getLsbD 1) (s.ring n).pushed ((words.take (e.len.toNat / 8)).drop (s.ring n).pushed)

/-- An entry that has been used up: C moves on, and the host is told (R288, R300). -/
def State.entryUsed (s : State) (n : Nat) : State :=
  (s.setRing n { s.ring n with c := ((s.ring n).c + 1) % (2 * s.ringSize n), pushed := 0 }).mirror n
    (((s.ring n).c + 1) % (2 * s.ringSize n))

variable {q : Nat} {x : Queue} (hruns : s.ringRuns n 3 = true) (hdma : s.dmaOn = true) (hfull : s.ringEmpty n = false)
  (hbound : s.boundQueue n = some q) (hx : s.queue q = some x)
include hruns hdma hfull hbound hx

theorem fetch_eq : exec (.dataRingFetch ring e words) s =
    .next (if x.prod ≠ 3 then s else if DEntryOk e = false then s.ringFault n 2 (s.ring n).c
      else if ((s.fetched n q e words).ring n).pushed < e.len.toNat / 8 then s.fetched n q e words
      else (s.fetched n q e words).entryUsed n) := by
  subst hn
  change execDataRingFetch ring e words s = _
  unfold execDataRingFetch
  dsimp only
  rw [if_neg (by simp [hruns, hdma, hfull]), hbound]
  dsimp only
  rw [hx]
  dsimp only
  unfold State.fetched
  split_ifs <;> rfl

end

theorem entryUsed_spec (u : State) (n : Nat) :
    (u.entryUsed n).ring n = { u.ring n with c := ((u.ring n).c + 1) % (2 * u.ringSize n), pushed := 0 } ∧
      (u.entryUsed n).out = u.out ++ [.hostWrite (BitVec.ofNat 64 ((u.rd64 (ringMirrorLo n) (ringMirrorLo n + 4)).toNat / 8 * 8))
        (leBytes 8 (((u.ring n).c + 1) % (2 * u.ringSize n)))] ∧ Framed [.rings, .out] [] u (u.entryUsed n) :=
  ⟨ring_setRing_self .., rfl, (fr_mirror (fr_setRing (Fr.refl _ _ u) (by simp) _ _) (by simp) _ _).frame⟩

/-- A queue that takes no first word takes none. -/
theorem pushWords_none {s : State} {n q i : Nat} {start last : Bool} {ws : List Word}
    (h : ws = [] ∨ s.canPush q (start && decide (i = 0)) = false) : s.pushWords n q start last i ws = s := by
  cases ws with
  | nil => rfl
  | cons w ws =>
    unfold State.pushWords
    rw [if_pos (h.resolve_left (by simp))]

/-- Settles O42: clean items by `popItems_clean` and `takePacket_clean`, a bad length word by `popItem_badLength`, pushed words by
`pushWords_plain`. -/
theorem dataRingsComplete : Obligations.DataRingsComplete := by
  refine ⟨fun s ring l found n hn => ⟨writeback_none hn, fun qi x e es hl hruns hdma hposted hbound hx => ?_⟩,
    fun s ring e found n hn => ⟨coalTimeout_none hn, fun qi x k hruns hdma hposted hus hbound hx hk =>
      ⟨coalTimeout_waits hn hruns hdma hposted hus hbound hx, fun hcons hpacket hdue => ?_⟩⟩,
    fun s ring e words n hn => ⟨fetch_none hn, fun qi x d ws hruns hdma hfull hbound hx hd hws => ?_⟩⟩
  · have hlt : n < 1024 := hn ▸ ring.isLt
    have heq := writeback_eq (found := found) hn hl hruns hdma hposted hbound hx
    rw [heq]
    refine ⟨fun hcons => congrArg _ (if_pos hcons), fun k hcons hpacket hk => ?_, fun k need hcons hpacket hk hneed => ?_⟩
    · obtain ⟨hfault, hwait, hfill⟩ := writebackOf_plain (n := n) (e := e) (es := es) (found := found) hx hcons hpacket hk
      refine ⟨fun hbad => ⟨_, congrArg _ (hfault hbad), ringFault_spec s hlt (by decide) _⟩, fun hok hno => congrArg _ (hwait hok hno),
        fun hok h0 hp => ?_⟩
      rw [hfill hok h0 hp]
      have hp' : k = e.len.toNat / 8 ∨ decide (s.get (ringUS n) = 0) = true := hp.imp_right decide_eq_true
      refine ⟨fun hclean => ⟨_, rfl, fillEntry_clean hx hpacket hk h0 hp' hclean⟩, fun u p ps hpops => ?_, fun u hpops => ?_⟩
      · rw [fillEntry_pops hx hk h0 hp' hpops]
        exact ⟨_, rfl, writeBackEntry_sent u n e p ps 0 _⟩
      · rw [fillEntry_none hx hk h0 hp' hpops]
    · obtain ⟨hwait, hbadLen, hgood⟩ := writebackOf_packet (n := n) (e := e) (es := es) (found := found) hx hcons hpacket hk
      subst hl hneed
      refine ⟨fun h => congrArg _ (hwait h), fun h hleft hbad => ⟨_, congrArg _ (hbadLen h hbad), ?_⟩, fun h hp he => ?_⟩
      · have hready : x.ready = true := by simpa [State.headReady, hx] using h
        exact popItem_badLength hx hready (by simp [Queue.headIsLength, hpacket, hleft]) hbad
      · obtain ⟨hshort, hpacked⟩ := hgood h hp he
        refine ⟨fun hno => congrArg _ (hshort hno), fun h1 h2 hbad => ⟨_, congrArg _ ((hpacked h1 h2).1 hbad),
          ringFault_spec s hlt (by decide) _⟩, fun h1 h2 hok => ?_⟩
        rw [(hpacked h1 h2).2 hok]
        refine ⟨fun hone hleft hclean => ?_, fun u len v items hlen hitems => ?_⟩
        · have hready : x.ready = true := by simpa [State.headReady, hx] using h
          rw [hone]
          exact ⟨_, rfl, takePacket_clean hx hpacket hready hleft hk h1 hclean (entriesFor_eq_single hone h2)⟩
        · rw [takePacket_pops hlen hitems]
          refine ⟨fun hall => by rw [if_neg (by omega)], fun hcut => ?_⟩
          rw [if_pos hcut]
          exact ⟨_, rfl, discard_counted v⟩
  · rw [coalTimeout_due hn hruns hdma hposted hus hbound hx hcons hpacket hdue]
    refine ⟨fun hbad => ?_, fun hok h0 => ?_, fun hok h0 hclean => ?_, fun hok h0 u hpops => ?_⟩
    · rw [if_pos hbad]
      exact ⟨_, rfl, ringFault_spec s (hn ▸ ring.isLt) (by decide) _⟩
    all_goals rw [if_neg (by simp [hok])]
    · unfold State.fillEntry
      dsimp only
      rw [published_eq hx, ← hk, if_pos (.inl h0)]
    · exact ⟨_, rfl, fillEntry_clean hx hpacket hk h0 (.inr rfl) hclean⟩
    · rw [fillEntry_none hx hk h0 (.inr rfl) hpops]
  · rw [fetch_eq hn hruns hdma hfull hbound hx]
    refine ⟨fun hprod => congrArg _ (if_pos hprod), fun hprod hbad => ?_, fun hprod hok u hu => ?_⟩
    · rw [if_neg (by simp [hprod]), if_pos hbad]
      exact ⟨_, rfl, ringFault_spec s (hn ▸ ring.isLt) (by decide) _⟩
    rw [if_neg (by simp [hprod]), if_neg (by simp [hok])]
    have hfetched : s.fetched n qi e words = u := by
      rw [hu, hws, hd]
      rfl
    rw [hfetched]
    refine ⟨fun hmore => by rw [if_pos hmore], fun hall => ?_, fun j hpacket hserves hinside hr hj h0 => ?_, fun hnone => ?_⟩
    · rw [if_neg (by omega)]
      exact ⟨_, rfl, entryUsed_spec u n⟩
    · subst hj
      obtain ⟨hqueue, hring, hwritten, hkept, hothers, hfr⟩ :=
        pushWords_plain (start := e.hflags.getLsbD 0) (last := e.hflags.getLsbD 1) (n := n) (i := d) ws
          ⟨hx, hpacket, hserves, hinside, hr⟩ h0
      rw [← hu] at hqueue hring hwritten hkept hothers hfr
      exact ⟨hqueue, hring, hwritten, hkept, hothers, hfr.frame⟩
    · rw [hu, pushWords_none hnone]

end Sys2Proof.Machine
end

section
/-! SUPPORT.  The end of an activity of the arbiter: what the grants that follow it may change, and the places that stay taken
(R369, R373, R418, R471, R473). -/

namespace Sys2Proof.Machine

open Sys2Proof

section
variable (s : State)

theorem libReg_mem_grantKeys (m : Nat) : COL_CTX_LIB (matCol m) (matG m) ∈ grantKeys := by
  have hc : matCol m < 256 := matCol_lt m
  have hg : matG m < 2 := matG_lt m
  refine List.mem_append_right _ (List.mem_map.mpr ⟨matOf (matCol m) (matG m), List.mem_range.mpr ?_, ?_⟩)
  · unfold matOf
    omega
  · have h1 : matCol (matOf (matCol m) (matG m)) = matCol m := by
      unfold matOf matCol
      omega
    have h2 : matG (matOf (matCol m) (matG m)) = matG m := by
      unfold matOf matG matCol
      omega
    rw [h1, h2]

theorem slotRegs_mem_grantKeys (k : Fin 3) :
    CFG_SLOT_STATE k ∈ grantKeys ∧ CFG_SLOT_ARV k ∈ grantKeys ∧ CFG_SLOT_SIZE k ∈ grantKeys := by
  revert k
  decide

theorem onGrant_fr (t : Task) : Fr grantParts grantKeys s (s.onGrant t) := by
  unfold State.onGrant
  split
  next k =>
    obtain ⟨h1, h2, h3⟩ := slotRegs_mem_grantKeys k
    have h : Fr grantParts grantKeys s (((s.setFlag (CFG_SLOT_STATE_VALID k.val) false).wr (CFG_SLOT_ARV k.val) 0).wr
        (CFG_SLOT_SIZE k.val) 0) := fr_wr (fr_wr (fr_setFlag (Fr.refl _ _ s) h1 _) h2 _) h3 _
    exact fr_mk h (by simp) rfl
  · exact fr_setBit (Fr.refl _ _ s) (libReg_mem_grantKeys _) _
  · exact fr_mk (Fr.refl _ _ s) (by simp) rfl
  · exact Fr.refl _ _ s

theorem setActs_fr (acts : List Act) : Fr grantParts grantKeys s (s.setActs acts) :=
  fr_mk (Fr.refl _ _ s) (by simp) rfl

theorem grant_fr (a : Act) : Fr grantParts grantKeys s (s.grant a) :=
  (fr_count (setActs_fr s _) (by decide) (by decide) _).trans (onGrant_fr _ _)

theorem grantAll_fr (l : List Act) : Fr grantParts grantKeys s (s.grantAll l) := by
  induction l generalizing s with
  | nil => exact Fr.refl _ _ s
  | cons a l ih =>
    refine Fr.trans ?_ (ih _)
    exact fr_ite (grant_fr s a) (Fr.refl _ _ s)

theorem release_fr (place : Nat) : Fr grantParts grantKeys s (s.release place) :=
  (setActs_fr s _).trans (grantAll_fr _ _)

theorem onGrant_mnt (t : Task) : (s.onGrant t).mnt = s.mnt := by
  cases t <;> rfl

theorem grant_acts (a : Act) : (s.grant a).mnt.acts = grantIn s.mnt.acts a := by
  unfold State.grant
  dsimp only
  rw [onGrant_mnt, State.count_mnt]
  rfl

theorem place_grantIn (acts : List Act) (a : Act) : (grantIn acts a).map Act.place = acts.map Act.place := by
  unfold grantIn
  rw [List.map_map]
  refine List.map_congr_left fun h _ => ?_
  dsimp only [Function.comp_apply]
  split
  · rfl
  · split <;> rfl

theorem place_grantAll (l : List Act) : (s.grantAll l).mnt.acts.map Act.place = s.mnt.acts.map Act.place := by
  induction l generalizing s with
  | nil => rfl
  | cons a l ih =>
    refine (ih _).trans ?_
    split
    · rw [grant_acts, place_grantIn]
    · rfl

/-- An activity that resumes when the one at a place ends. -/
def Act.resumed (place : Nat) (a : Act) : Act := if a.st = .suspended place then { a with st := .running } else a

theorem Act.resumed_place (place : Nat) (a : Act) : (a.resumed place).place = a.place := by
  unfold Act.resumed
  split <;> rfl

/-- The places that stay taken when an activity ends. -/
theorem places_release (place : Nat) :
    (s.release place).mnt.acts.map Act.place = (s.mnt.acts.filter (fun a => decide (a.place ≠ place))).map Act.place := by
  refine (place_grantAll _ _).trans ?_
  show (((s.mnt.acts.filter _).map (Act.resumed place)).map Act.place) = _
  rw [List.map_map]
  exact List.map_congr_left fun a _ => a.resumed_place place

/-- The place of an activity that has ended is free. -/
theorem place_release (place : Nat) : ∀ b ∈ (s.release place).mnt.acts, b.place ≠ place := by
  intro b hb
  have hmem := List.mem_map_of_mem (f := Act.place) hb
  rw [places_release] at hmem
  obtain ⟨a, ha, hab⟩ := List.mem_map.mp hmem
  exact hab ▸ of_decide_eq_true (List.mem_filter.mp ha).2

end

end Sys2Proof.Machine
end

section
/-! SUPPORT.  Rhizoids that fail: what a group's record becomes, and what the rest of the device keeps (R97 to R102). -/

namespace Sys2Proof.Machine

open Sys2Proof

/-! ### A group's record -/

theorem rhz_setRhz (s : State) (c i g d j h : Nat) (r : Rhz) :
    (s.setRhz c i g r).rhz d j h = if groupKey d j h = groupKey c i g then r else s.rhz d j h := Tab.get_put ..

theorem rhz_setRhz_self (s : State) (c i g : Nat) (r : Rhz) : (s.setRhz c i g r).rhz c i g = r := Tab.get_put_self ..

/-- The records of groups depend on the table of groups alone. -/
theorem rhz_of_groups {s t : State} (h : t.col.groups = s.col.groups) (c i g : Nat) : t.rhz c i g = s.rhz c i g := by
  unfold State.rhz
  rw [h]

theorem groups_of_fr {ps : List Part} {ks : List Nat} {s t : State} (h : Fr ps ks s t) (hp : Part.col ∉ ps) :
    t.col.groups = s.col.groups := congrArg ColState.groups (h.frame.part .col hp)

theorem held_of_fr {ps : List Part} {ks : List Nat} {s t : State} (h : Fr ps ks s t) (hp : Part.rings ∉ ps) (m : Nat) :
    (t.ring m).held = (s.ring m).held := held_of_host (h.frame.part .rings hp) m

theorem fr_setRhz {ps : List Part} {ks : List Nat} {s0 s : State} (h : Fr ps ks s0 s) (hp : Part.col ∈ ps) (c i g : Nat) (r : Rhz) :
    Fr ps ks s0 (s.setRhz c i g r) := fr_col h hp _

theorem mem_delNat {x y : Nat} {l : List Nat} : x ∈ delNat y l ↔ x ∈ l ∧ x ≠ y := by
  simp [delNat]

/-! ### A record that gets worse -/

/-- Failed rhizoids stay failed, and a position that stands on a rhizoid leaves it only when that rhizoid fails. -/
structure Worse (r r' : Rhz) : Prop where
  failed : ∀ x ∈ r.failed, x ∈ r'.failed
  carries : ∀ p x, r.carries p x = true → x ∈ r'.failed ∨ r'.carries p x = true

theorem Worse.refl (r : Rhz) : Worse r r := ⟨fun _ h => h, fun _ _ h => .inr h⟩

theorem Worse.trans {r r' r'' : Rhz} (h : Worse r r') (k : Worse r' r'') : Worse r r'' :=
  ⟨fun x hx => k.failed x (h.failed x hx), fun p x hc => (h.carries p x hc).elim (fun hf => .inl (k.failed x hf)) (k.carries p x)⟩

/-- The rhizoid that a position stands on, by the moves of its group. -/
def standsOn (l : List (Nat × Nat)) (p x : Nat) : Bool :=
  match l.find? (fun e => decide (e.1 = p)) with
  | some e => decide (e.2 = x)
  | none => decide (p = x)

theorem carries_eq (r : Rhz) (p x : Nat) : r.carries p x = standsOn r.moved p x := rfl

/-- A position stays where it stands while the moves to another rhizoid are undone. -/
theorem standsOn_filter_ne {l : List (Nat × Nat)} {idx p x : Nat} (hx : x ≠ idx) (h : standsOn l p x = true) :
    standsOn (l.filter (fun e => decide (e.2 ≠ idx))) p x = true := by
  unfold standsOn at h ⊢
  induction l with
  | nil => exact h
  | cons e l ih =>
    by_cases hp : e.1 = p
    · rw [List.find?_cons_of_pos (by simpa using hp)] at h
      have hex : e.2 = x := by simpa using h
      rw [List.filter_cons_of_pos (by simp [hex, hx]), List.find?_cons_of_pos (by simpa using hp)]
      exact h
    · rw [List.find?_cons_of_neg (by simpa using hp)] at h
      by_cases he : e.2 = idx
      · rw [List.filter_cons_of_neg (by simp [he])]
        exact ih h
      · rw [List.filter_cons_of_pos (by simp [he]), List.find?_cons_of_neg (by simpa using hp)]
        exact ih h

/-- A group whose position is left without a spare. -/
theorem worse_exhausted (r : Rhz) : Worse r { r with exhausted := true } := ⟨fun _ h => h, fun _ _ h => .inr h⟩

/-- The record of a group one of whose rhizoids fails (R99). -/
def Rhz.fails (r : Rhz) (idx : Nat) : Rhz :=
  { r with failed := r.failed ++ [idx], strikes := delNat idx r.strikes, used := if 64 ≤ idx then insNat idx r.used else r.used,
           moved := r.moved.filter (fun e => decide (e.2 ≠ idx)) }

theorem mem_failed_fails (r : Rhz) (idx : Nat) : idx ∈ (r.fails idx).failed := List.mem_append_right _ (List.mem_singleton_self _)

theorem worse_fails (r : Rhz) (idx : Nat) : Worse r (r.fails idx) := by
  refine ⟨fun x hx => List.mem_append_left _ hx, fun p x h => ?_⟩
  by_cases hx : x = idx
  · exact .inl (hx ▸ mem_failed_fails r idx)
  · exact .inr (standsOn_filter_ne hx h)

/-- A working rhizoid that fails takes no spare with it. -/
theorem usable_fails {r : Rhz} {idx : Nat} (h : idx < 64) : (r.fails idx).usable = r.usable := by
  unfold Rhz.usable Rhz.fails
  refine List.filter_congr fun x hx => ?_
  have hne : x ≠ idx := by
    simp only [List.mem_cons, List.not_mem_nil, or_false] at hx
    omega
  simp [mem_delNat, hne, Nat.not_le.mpr h]

/-! ### The steps of a failure -/

/-- What the work of a column agent on the fabric's lanes holds beside its rhizoids. -/
def State.laneView (s : State) :
    List (Nat × CmdRef) × Tab (Option Nat) × Tab (BitVec 2) × List (Nat × CmdRef) × Tab Nat × Tab (List Nat × List Nat) :=
  (s.col.retests, s.col.restoring, s.col.kept, s.col.repairs, s.col.ahead, s.col.own)

/-- From s to t rhizoids may have failed and been exhausted, and nothing else has happened to the fabric. -/
structure Sparing (ks : List Nat) (s t : State) : Prop where
  fr : Fr (.col :: .mnt :: evParts) ks s t
  view : t.laneView = s.laneView
  held : ∀ m, (t.ring m).held = (s.ring m).held
  worse : ∀ d j h, Worse (s.rhz d j h) (t.rhz d j h)

section
variable {ks : List Nat} {s t u : State}

theorem Sparing.refl (ks : List Nat) (s : State) : Sparing ks s s :=
  ⟨Fr.refl _ _ s, rfl, fun _ => rfl, fun _ _ _ => Worse.refl _⟩

theorem Sparing.trans (h : Sparing ks s t) (k : Sparing ks t u) : Sparing ks s u :=
  ⟨h.fr.trans k.fr, k.view.trans h.view, fun m => (k.held m).trans (h.held m), fun d j g => (h.worse d j g).trans (k.worse d j g)⟩

theorem Sparing.mono {ls : List Nat} (h : Sparing ks s t) (hk : ks ⊆ ls) : Sparing ls s t :=
  ⟨h.fr.mono (List.Subset.refl _) hk, h.view, h.held, h.worse⟩

/-- What touches neither the groups nor the completions. -/
theorem sparing_of_fr {ps : List Part} (h : Fr ps ks s t) (hp : ps ⊆ .col :: .mnt :: evParts) (hr : Part.rings ∉ ps)
    (hcol : ∃ o w, t.col = { s.col with open_ := o, out := w }) : Sparing ks s t := by
  obtain ⟨o, w, hcol⟩ := hcol
  have hg : t.col.groups = s.col.groups := by rw [hcol]
  exact ⟨h.mono hp (List.Subset.refl _), by rw [State.laneView, hcol]; rfl, held_of_fr h hr,
    fun d j g => by rw [rhz_of_groups hg]; exact Worse.refl _⟩

theorem sparing_setRhz (c i g : Nat) {r : Rhz} (h : Worse (s.rhz c i g) r) : Sparing ks s (s.setRhz c i g r) := by
  refine ⟨fr_setRhz (Fr.refl _ _ s) (by simp) c i g r, rfl, fun _ => rfl, fun d j k => ?_⟩
  rw [rhz_setRhz]
  split
  next he =>
    have : s.rhz d j k = s.rhz c i g := by unfold State.rhz; rw [he]
    exact this ▸ h
  · exact Worse.refl _

theorem sparing_raise (hk : bookKeys ⊆ ks) (code src : Nat) (data : List (Nat × Nat × Nat)) :
    Sparing ks s (s.raise code src data) := by
  have hg : (s.raise code src data).col = s.col := (raise_fr s code src data).frame.part .col (by decide)
  exact ⟨(raise_fr s code src data).mono (by simp) hk, by rw [State.laneView, hg]; rfl, raise_held s code src data,
    fun d j g => by rw [rhz_of_groups (congrArg _ hg)]; exact Worse.refl _⟩

theorem sparing_count {k : Nat} {f : Fld} (hk : k ∈ ks) (hf : f.reg ∈ ks) (n : Nat) : Sparing ks s (s.count k f n) :=
  sparing_of_fr (ps := []) (fr_count (Fr.refl _ _ s) hk hf n) (by simp) (by simp) ⟨_, _, State.count_col ..⟩

theorem sparing_setOpen {y : Nat} (hk : LSUP_STATUS y ∈ ks) (c : Nat) (l : List FaultItem) : Sparing ks s (s.setOpen y c l) :=
  sparing_of_fr (ps := [.col]) (setOpen_fr (Fr.refl _ _ s) (by simp) hk c l) (by simp) (by simp) ⟨_, _, rfl⟩

theorem sparing_noteFault {y : Nat} (hk : supKeys y ⊆ ks) (code src : Nat) : Sparing ks s (s.noteFault y code src) :=
  sparing_of_fr (ps := []) ((noteFault_fr s y code src).mono (by simp) hk) (by simp) (by simp)
    ⟨_, _, (noteFault_fr s y code src).frame.part .col (by simp)⟩

theorem supStatus_mem (y : Nat) : LSUP_STATUS y ∈ supKeys y := by simp [supKeys]

theorem sparing_reportFault {y : Nat} (hk : supKeys y ++ bookKeys ⊆ ks) (c : Nat) (x : FaultItem) (code src : Nat)
    (data : List (Nat × Nat × Nat)) : Sparing ks s (s.reportFault y c x code src data) := by
  have h1 : supKeys y ⊆ ks := fun k h => hk (List.mem_append_left _ h)
  have h2 : bookKeys ⊆ ks := fun k h => hk (List.mem_append_right _ h)
  exact (sparing_raise h2 code src data).trans ((sparing_noteFault h1 code src).trans (sparing_setOpen (h1 (supStatus_mem y)) c _))

theorem sparing_wantReloc (m : Nat) : Sparing ks s (s.wantReloc m) :=
  sparing_of_fr (ps := [.mnt]) ((wantReloc_fr s m).mono (by simp) (by simp)) (by simp) (by simp) ⟨_, _, rfl⟩

theorem sparing_setUseOut (m use : Nat) : Sparing ks s (s.setUseOut m use) :=
  sparing_of_fr (ps := [.col]) (fr_col (Fr.refl _ _ s) (by simp) _) (by simp) (by simp) ⟨_, _, rfl⟩

theorem sparing_setFlag {f : Fld} (hf : f.reg ∈ ks) (b : Bool) : Sparing ks s (s.setFlag f b) :=
  sparing_of_fr (ps := []) (fr_setFlag (Fr.refl _ _ s) hf b) (by simp) (by simp) ⟨_, _, rfl⟩

/-- What holds of a state and is kept by an operation on a mat holds after that operation on a group's dependents. -/
theorem onDependents_ind {P : State → Prop} (c : Nat) (d : Bool × Bool) {f : State → Nat → State} (h : P s)
    (hf : ∀ t m, P t → P (f t m)) : P (s.onDependents c d f) := by
  have h1 : P (if d.1 then f s (matOf c 0) else s) := by
    split
    · exact hf _ _ h
    · exact h
  unfold State.onDependents
  dsimp only
  by_cases hd : d.2 = true
  · rw [if_pos hd]
    exact hf _ _ h1
  · rw [if_neg hd]
    exact h1

theorem sparing_onDependents (c : Nat) (d : Bool × Bool) {f : State → Nat → State} (hf : ∀ t m, Sparing ks t (f t m)) :
    Sparing ks s (s.onDependents c d f) :=
  onDependents_ind c d (P := Sparing ks s) (Sparing.refl ks s) fun t m h => h.trans (hf t m)

theorem groups_onDependents (c : Nat) (d : Bool × Bool) {f : State → Nat → State}
    (hf : ∀ t m, (f t m).col.groups = t.col.groups) : (s.onDependents c d f).col.groups = s.col.groups :=
  onDependents_ind c d (P := fun t => t.col.groups = s.col.groups) rfl fun t m h => (hf t m).trans h

end

/-! ### A group is exhausted, a rhizoid fails -/

/-- Registers that a group may write that is to be spared, or is exhausted. -/
def spareKeys (c i g : Nat) : List Nat :=
  [COL_TRUNK_DIS c (g / 2), LSUP_CONFLICTS 2] ++ supKeys i ++ supKeys 2 ++ bookKeys

/-- Registers that a failing rhizoid of a group may write. -/
def failKeys (c i g : Nat) : List Nat := [COL_RHZ_FAILS c, COL_RHZ_SAT c] ++ spareKeys c i g

theorem spareKeys_fail (c i g : Nat) : spareKeys c i g ⊆ failKeys c i g := List.subset_append_right _ _

theorem spareKeys_report (c i g : Nat) : supKeys i ++ bookKeys ⊆ spareKeys c i g := fun k h => by
  simp only [spareKeys, List.mem_append] at h ⊢
  tauto

theorem spareKeys_submit (c i g : Nat) : LSUP_CONFLICTS 2 :: supKeys 2 ++ bookKeys ⊆ spareKeys c i g := fun k h => by
  simp only [spareKeys, List.mem_append, List.mem_cons] at h ⊢
  tauto

/-- The lanes of a group stand in one register. -/
theorem laneDis_position (c g p : Nat) : (laneDis c (positionLane g p)).reg = COL_TRUNK_DIS c (g / 2) := by
  have h := (Config.rhzLane p).isLt
  unfold laneDis positionLane
  dsimp only
  congr 1
  omega

section
variable (s : State) (c i g p : Nat) (d : Bool × Bool)

/-- A group that has just been exhausted: what follows its record. -/
def State.exhaustUse : State :=
  match groupUse c i g with
  | 0 => s.setFlag (laneDis c (positionLane g p)) true
  | 1 => s.setUseOut (matOf c (i / 2)) 0
  | 2 => s.onDependents c d (fun s m => s.setUseOut m 1)
  | 3 => (s.setUseOut (matOf c 0) 2).setUseOut (matOf c 1) 2
  | 4 => s.onDependents c d (fun s m => s.setUseOut m 3)
  | _ => s

/-- The report of a group that is exhausted. -/
def State.exhaustReported : State :=
  (s.setRhz c i g { s.rhz c i g with exhausted := true }).reportFault i c (.group i g) 0x8303 (srcAgent c (8 + i))
    [(18, 1, i), (19, 1, g), (20, 1, groupUse c i g), (21, 1, b2n d.1 + 2 * b2n d.2)]

theorem exhaust_eq : s.exhaust c i g p d =
    ((s.exhaustReported c i g d).exhaustUse c i g p d).onDependents c d State.wantReloc := rfl

theorem sparing_exhaustUse : Sparing (spareKeys c i g) s (s.exhaustUse c i g p d) ∧
    (s.exhaustUse c i g p d).col.groups = s.col.groups := by
  unfold State.exhaustUse
  split
  · exact ⟨sparing_setFlag (by rw [laneDis_position]; simp [spareKeys]) _, rfl⟩
  · exact ⟨sparing_setUseOut _ _, rfl⟩
  · exact ⟨sparing_onDependents _ _ fun _ _ => sparing_setUseOut _ _, groups_onDependents _ _ fun _ _ => rfl⟩
  · exact ⟨(sparing_setUseOut _ _).trans (sparing_setUseOut _ _), rfl⟩
  · exact ⟨sparing_onDependents _ _ fun _ _ => sparing_setUseOut _ _, groups_onDependents _ _ fun _ _ => rfl⟩
  · exact ⟨Sparing.refl _ _, rfl⟩

theorem raise_col (code src : Nat) (data : List (Nat × Nat × Nat)) : (s.raise code src data).col = s.col :=
  (raise_fr s code src data).frame.part .col (by decide)

/-- A report adds to the open faults, and touches nothing else of the columns. -/
theorem reportFault_col (y : Nat) (x : FaultItem) (code src : Nat) (data : List (Nat × Nat × Nat)) :
    ∃ o, (s.reportFault y c x code src data).col = { s.col with open_ := o } := by
  have hnote : ((s.raise code src data).noteFault y code src).col = s.col :=
    Eq.trans ((noteFault_fr _ y code src).frame.part .col (by simp)) (raise_col s code src data)
  have hopen : ∀ (u : State) (l : List FaultItem), ∃ o, (u.setOpen y c l).col = { u.col with open_ := o } := fun _ _ => ⟨_, rfl⟩
  obtain ⟨o, ho⟩ := hopen ((s.raise code src data).noteFault y code src)
    (if x ∈ ((s.raise code src data).noteFault y code src).openFaults y c then
      ((s.raise code src data).noteFault y code src).openFaults y c
    else ((s.raise code src data).noteFault y code src).openFaults y c ++ [x])
  exact ⟨o, Eq.trans ho (by rw [hnote])⟩

theorem groups_reportFault (y : Nat) (x : FaultItem) (code src : Nat) (data : List (Nat × Nat × Nat)) :
    (s.reportFault y c x code src data).col.groups = s.col.groups := by
  obtain ⟨o, ho⟩ := reportFault_col s c y x code src data
  rw [ho]

theorem exhaust_sparing : Sparing (spareKeys c i g) s (s.exhaust c i g p d) := by
  rw [exhaust_eq]
  refine Sparing.trans ?_ ((sparing_exhaustUse _ c i g p d).1.trans (sparing_onDependents _ _ fun _ _ => sparing_wantReloc _))
  exact (sparing_setRhz c i g (worse_exhausted _)).trans (sparing_reportFault (spareKeys_report c i g) ..)

theorem rhz_exhaust : (s.exhaust c i g p d).rhz c i g = { s.rhz c i g with exhausted := true } := by
  have h : (s.exhaust c i g p d).col.groups = (s.setRhz c i g { s.rhz c i g with exhausted := true }).col.groups := by
    rw [exhaust_eq, groups_onDependents (f := State.wantReloc) _ _ fun _ _ => rfl, (sparing_exhaustUse _ c i g p d).2]
    exact groups_reportFault _ _ _ _ _ _ _
  rw [rhz_of_groups h, rhz_setRhz_self]

/-- A spare swap's request (R100). -/
theorem submitOwn_held {t : Task} (ht : ∀ u : State, u.onGrant t = u) (locks : List Lock) (requester resource m : Nat) :
    ((s.submitOwn t locks requester resource).ring m).held = (s.ring m).held := by
  have hraw : ∀ u : State, ((u.submitRaw t locks requester resource none).1.ring m).held = (u.ring m).held := by
    intro u
    refine held_of_host ?_ m
    unfold State.submitRaw
    split
    · rfl
    · dsimp only
      split <;> dsimp only
      · unfold State.grant
        dsimp only
        rw [ht, State.count_host]
        rfl
      · rw [State.count_host]
        rfl
  have hsubmit : ((s.submit t locks requester resource none).1.ring m).held = (s.ring m).held := by
    unfold State.submit
    dsimp only
    rw [hraw]
    split
    · rw [raise_held]
      exact held_of_host (by rw [State.count_host]) m
    · rfl
  unfold State.submitOwn
  split
  next u heq =>
    rw [heq] at hsubmit
    exact hsubmit
  next u r _ heq =>
    rw [heq] at hsubmit
    exact hsubmit

theorem sparing_submitOwn {t : Task} (ht : ∀ u : State, u.onGrant t = u) (locks : List Lock) (requester resource : Nat) :
    Sparing (spareKeys c i g) s (s.submitOwn t locks requester resource) := by
  have h := submitOwn_fr s ht locks requester resource
  have hcol : (s.submitOwn t locks requester resource).col = s.col := h.frame.part .col (by decide)
  exact ⟨h.mono (by simp) (spareKeys_submit c i g), by rw [State.laneView, hcol]; rfl, submitOwn_held s ht locks requester resource,
    fun d j k => by rw [rhz_of_groups (congrArg _ hcol)]; exact Worse.refl _⟩

theorem spareOrExhaust_sparing : Sparing (spareKeys c i g) s (s.spareOrExhaust c i g p d) := by
  unfold State.spareOrExhaust
  split
  · exact exhaust_sparing s c i g p d
  split
  · exact Sparing.refl _ s
  · exact sparing_submitOwn s c i g (by simp [State.onGrant]) _ _ _

/-- The count and the report of one failed rhizoid (R99). -/
theorem rhizoidFails_eq (idx by_ : Nat) : s.rhizoidFails c i g idx by_ =
    ((s.setRhz c i g ((s.rhz c i g).fails idx)).count (COL_RHZ_FAILS c) (COL_RHZ_SAT_RHZ_FAILS c) 1).reportFault i c
      (.rhizoid i g idx) 0x8301 (srcAgent c (8 + i)) [(18, 1, i), (19, 1, g), (20, 1, idx), (21, 1, by_)] := rfl

theorem rhizoidFails_sparing (idx by_ : Nat) : Sparing (failKeys c i g) s (s.rhizoidFails c i g idx by_) := by
  rw [rhizoidFails_eq]
  refine (sparing_setRhz c i g (worse_fails _ idx)).trans (Sparing.trans ?_
    (sparing_reportFault (fun k h => spareKeys_fail c i g (spareKeys_report c i g h)) ..))
  exact sparing_count (by simp [failKeys]) (by simp [failKeys, COL_RHZ_SAT_RHZ_FAILS]) 1

theorem rhz_rhizoidFails (idx by_ : Nat) : (s.rhizoidFails c i g idx by_).rhz c i g = (s.rhz c i g).fails idx := by
  rw [rhizoidFails_eq, rhz_of_groups (groups_reportFault _ _ _ _ _ _ _), rhz_of_groups (congrArg ColState.groups (State.count_col ..)),
    rhz_setRhz_self]

theorem failRhizoid_eq (idx by_ : Nat) : s.failRhizoid c i g idx by_ d =
    if idx < 64 then (s.rhizoidFails c i g idx by_).spareOrExhaust c i g idx d
    else match (s.rhz c i g).moved.find? (fun e => decide (e.2 = idx)) with
      | some e => (s.rhizoidFails c i g idx by_).spareOrExhaust c i g e.1 d
      | none => (s.rhizoidFails c i g idx by_).closeFault i c (.rhizoid i g idx) := rfl

/-- What follows the report of a failed rhizoid. -/
theorem failRhizoid_after (idx by_ : Nat) :
    Sparing (spareKeys c i g) (s.rhizoidFails c i g idx by_) (s.failRhizoid c i g idx by_ d) := by
  rw [failRhizoid_eq]
  split
  · exact spareOrExhaust_sparing _ c i g idx d
  split
  · exact spareOrExhaust_sparing _ c i g _ d
  · exact sparing_setOpen (spareKeys_report c i g (List.mem_append_left _ (supStatus_mem i))) c _

theorem failRhizoid_sparing (idx by_ : Nat) : Sparing (failKeys c i g) s (s.failRhizoid c i g idx by_ d) :=
  (rhizoidFails_sparing s c i g idx by_).trans ((failRhizoid_after s c i g d idx by_).mono (spareKeys_fail c i g))

theorem mem_failed_failRhizoid (idx by_ : Nat) : idx ∈ ((s.failRhizoid c i g idx by_ d).rhz c i g).failed := by
  refine ((failRhizoid_after s c i g d idx by_).worse c i g).failed idx ?_
  rw [rhz_rhizoidFails]
  exact mem_failed_fails _ idx

theorem exhausted_failRhizoid {idx : Nat} (hidx : idx < 64) (hu : (s.rhz c i g).usable = []) (by_ : Nat) :
    ((s.failRhizoid c i g idx by_ d).rhz c i g).exhausted = true := by
  have hu' : ((s.rhizoidFails c i g idx by_).rhz c i g).usable = [] := by rw [rhz_rhizoidFails, usable_fails hidx, hu]
  rw [failRhizoid_eq, if_pos hidx, State.spareOrExhaust, if_pos hu', rhz_exhaust]

/-! ### The counts of a column's failures -/

theorem fails_not_book (c : Nat) : COL_RHZ_FAILS c ∉ bookKeys := not_mem_bookKeys (by unfold COL_RHZ_FAILS; omega)

/-- A register of a column is not one of a supervisor's, nor one that raising an event writes. -/
theorem column_not_report {k : Nat} (h : 0x200000 ≤ k) (hlt : k < 0x300000) (y : Nat) : k ∉ supKeys y ++ bookKeys := fun hm => by
  obtain hm | hm := List.mem_append.mp hm
  · have := supKeys_le hm
    omega
  · have := bookKeys_lt hm
    omega

/-- A register of a column that is not its lanes' is not written when a group is spared or exhausted. -/
theorem not_mem_spareKeys {k : Nat} (h : 0x200000 ≤ k) (hlt : k < 0x300000) (hdis : k ≠ COL_TRUNK_DIS c (g / 2)) :
    k ∉ spareKeys c i g := fun hm => by
  simp only [spareKeys, List.mem_append, List.mem_cons, List.not_mem_nil, or_false] at hm
  obtain (((hm | hm) | hm) | hm) | hm := hm
  · exact hdis hm
  · unfold LSUP_CONFLICTS at hm
    omega
  · have := supKeys_le hm
    omega
  · have := supKeys_le hm
    omega
  · have := bookKeys_lt hm
    omega

theorem not_mem_failKeys {k : Nat} (h : 0x200000 ≤ k) (hlt : k < 0x300000) (hfails : k ≠ COL_RHZ_FAILS c) (hsat : k ≠ COL_RHZ_SAT c)
    (hdis : k ≠ COL_TRUNK_DIS c (g / 2)) : k ∉ failKeys c i g := fun hm => by
  obtain hm | hm := List.mem_append.mp hm
  · simp only [List.mem_cons, List.not_mem_nil, or_false] at hm
    exact hm.elim hfails hsat
  · exact not_mem_spareKeys c i g h hlt hdis hm

/-- A failed rhizoid is counted (R99). -/
theorem rd_failRhizoid (hc : c < 256) (idx by_ : Nat) :
    ((s.failRhizoid c i g idx by_ d).rd (COL_RHZ_FAILS c)).toNat = min 0xFFFFFFFF ((s.rd (COL_RHZ_FAILS c)).toNat + 1) := by
  have hlow : 0x200000 ≤ COL_RHZ_FAILS c ∧ COL_RHZ_FAILS c < 0x300000 := by
    unfold COL_RHZ_FAILS
    omega
  rw [(failRhizoid_after s c i g d idx by_).fr.frame.reg _
      (not_mem_spareKeys c i g hlow.1 hlow.2 (by unfold COL_RHZ_FAILS COL_TRUNK_DIS; omega)),
    rhizoidFails_eq, (reportFault_fr ..).frame.reg _ (column_not_report hlow.1 hlow.2 i)]
  exact rd_count _ _ _ (by simp only [COL_RHZ_SAT_RHZ_FAILS, COL_RHZ_SAT, COL_RHZ_FAILS]; omega) (by decide)

end

end Sys2Proof.Machine
end

section
/-! PROOF.  Soundings of rhizoids, and the rhizoids that they miss (R98, R99, R118). -/

namespace Sys2Proof.Machine

open Sys2Proof

/-! ### The end of a REPAIR of a group -/

section
variable (s : State) (c i g : Nat)

theorem finish_col (r : CmdRef) (status : Nat) (result : Word) : (s.finish r status result).col = s.col :=
  (finish_books s r status result).col

theorem fr_post (x : Compl) : Fr [.rings, .out] bookKeys s (s.post x) := by
  unfold State.post
  dsimp only
  split
  · exact fr_produce (Fr.refl _ _ s) (by simp) (by simp) _ _ _
  · exact fr_setRing (Fr.refl _ _ s) (by simp) _ _

theorem finish_acts (r : CmdRef) (status : Nat) (result : Word) : (s.finish r status result).mnt.acts = s.mnt.acts := by
  unfold State.finish
  dsimp only
  split
  · split
    · rfl
    · exact (fr_post _ _).frame.part .acts (by decide)
  · exact (fr_post _ _).frame.part .acts (by decide)

/-- A REPAIR that ends takes its own entry from the list of repairs. -/
theorem endRepair_col : ∃ l, (s.endRepair c i g).col = { s.col with repairs := l } := by
  unfold State.endRepair
  dsimp only
  split
  · exact ⟨_, rfl⟩
  split
  · exact ⟨_, rfl⟩
  · exact ⟨_, finish_col _ _ _ _⟩

theorem endRepair_fr : Fr (.col :: .cmds :: evParts) bookKeys s (s.endRepair c i g) := by
  unfold State.endRepair
  dsimp only
  split
  · exact Fr.refl _ _ s
  split
  · exact Fr.refl _ _ s
  · exact fr_finish (fr_col (Fr.refl _ _ s) (by simp) _) (by simp) (List.Subset.refl _) _ _ _

theorem endRepair_acts : (s.endRepair c i g).mnt.acts = s.mnt.acts := by
  unfold State.endRepair
  dsimp only
  split
  · rfl
  split
  · rfl
  · exact finish_acts _ _ _ _

/-- Without a REPAIR of a group nothing ends. -/
theorem endRepair_none (h : s.col.repairs = []) : s.endRepair c i g = s := by
  unfold State.endRepair
  dsimp only
  rw [h]
  split <;> rfl

theorem releaseRepair_fr : Fr grantParts grantKeys s (s.releaseRepair c i g) := by
  unfold State.releaseRepair
  split
  · exact release_fr s _
  · exact Fr.refl _ _ s

/-- The sounding of a group ahead of the regular order is complete. -/
def State.soundedAhead : State := ((s.setAhead c i g 0).releaseRepair c i g).endRepair c i g

theorem soundedAhead_fr : Fr (.col :: .cmds :: evParts ++ grantParts) (bookKeys ++ grantKeys) s (s.soundedAhead c i g) := by
  have h1 : Fr (.col :: .cmds :: evParts ++ grantParts) (bookKeys ++ grantKeys) s (s.setAhead c i g 0) :=
    fr_col (Fr.refl _ _ s) (by simp) _
  exact h1.trans (((releaseRepair_fr _ c i g).mono (List.subset_append_right _ _) (List.subset_append_right _ _)).trans
    ((endRepair_fr _ c i g).mono (List.subset_append_left _ _) (List.subset_append_left _ _)))

theorem soundedAhead_col : ∃ l, (s.soundedAhead c i g).col = { (s.setAhead c i g 0).col with repairs := l } := by
  obtain ⟨l, hl⟩ := endRepair_col ((s.setAhead c i g 0).releaseRepair c i g) c i g
  have hcol : ((s.setAhead c i g 0).releaseRepair c i g).col = (s.setAhead c i g 0).col :=
    (releaseRepair_fr (s.setAhead c i g 0) c i g).frame.part .col (by decide)
  exact ⟨l, hl.trans (by rw [hcol])⟩

theorem rhz_soundedAhead (d j h : Nat) : (s.soundedAhead c i g).rhz d j h = s.rhz d j h := by
  obtain ⟨l, hl⟩ := soundedAhead_col s c i g
  exact rhz_of_groups (by rw [hl]; rfl) d j h

theorem aheadOf_soundedAhead : aheadOf (s.soundedAhead c i g) c i g = 0 := by
  obtain ⟨l, hl⟩ := soundedAhead_col s c i g
  have h : (s.soundedAhead c i g).col.ahead = Tab.put nat0 s.col.ahead (groupKey c i g) 0 := by rw [hl]; rfl
  rw [aheadOf, h, Tab.get_put_self]

end

/-! ### A sounding step -/

/-- A column's sounding count is none of the registers that the end of an activity writes. -/
theorem not_mem_grantKeys {k : Nat} (h : 0x200000 ≤ k) (hk : 0x400 ≤ k % 0x1000) : k ∉ grantKeys := by
  intro hm
  unfold grantKeys at hm
  obtain hm | hm := List.mem_append.mp hm
  · obtain hm | hm := List.mem_append.mp hm
    · simp only [MNT_PREEMPTS, MNT_SAT, List.mem_cons, List.not_mem_nil, or_false] at hm
      omega
    · obtain ⟨j, hj, hm⟩ := List.mem_flatMap.mp hm
      have hj := List.mem_range.mp hj
      simp only [CFG_SLOT_STATE, CFG_SLOT_ARV, CFG_SLOT_SIZE, List.mem_cons, List.not_mem_nil, or_false] at hm
      omega
  · obtain ⟨m, -, rfl⟩ := List.mem_map.mp hm
    have hg := matG_lt m
    have hc := matCol_lt m
    unfold COL_CTX_LIB at *
    omega

theorem fails_not_grant (c : Nat) : COL_RHZ_FAILS c ∉ grantKeys :=
  not_mem_grantKeys (by unfold COL_RHZ_FAILS; omega) (by unfold COL_RHZ_FAILS; omega)

section
variable (s : State) (c : ColId) (i : Fin 4) (g : Fin 56) (x : Fin 66) (quiet pass : Bool)

/-- The record of a group when a rhizoid of it has been visited (R98). -/
def Rhz.visited (r : Rhz) (x : Nat) : Rhz := { r with missed := delNat x r.missed }

/-- The group after a rhizoid was sounded, before the sounding of the group is complete. -/
def State.sounded (x : Nat) (pass : Bool) (c i g : Nat) : State :=
  let t := s.visited c i g x
  let r := t.rhz c i g
  let ahead := s.aheadNow c i g
  if x ∈ r.failed then t
  else if pass then t.setRhz c i g { r with strikes := delNat x r.strikes }
  else if x ∈ r.strikes ∨ 2 ≤ ahead ∧ ahead ≤ 4 then t.failRhizoid c i g x (if ahead = 5 then 0 else ahead) (t.dependents c i g)
  else t.setRhz c i g { r with strikes := insNat x r.strikes }

theorem soundingStep_idle (h : (quiet = false ∧ x.val < 64) ∨
    (s.flag (COL_RHZ_CTL_SOUND_EN c.val) = false ∧ s.aheadNow c.val i.val g.val = 0)) :
    exec (.soundingStep c i g x quiet pass) s = .next s := by
  change execSoundingStep c i g x quiet pass s = _
  unfold execSoundingStep
  dsimp only
  rw [if_pos h]

theorem soundingStep_runs (hq : quiet = true ∨ 64 ≤ x.val)
    (hs : s.flag (COL_RHZ_CTL_SOUND_EN c.val) = true ∨ s.aheadNow c.val i.val g.val ≠ 0) :
    exec (.soundingStep c i g x quiet pass) s = .next (if x.val = 65 ∧ s.aheadNow c.val i.val g.val ≠ 0
      then (s.sounded x.val pass c.val i.val g.val).soundedAhead c.val i.val g.val
      else s.sounded x.val pass c.val i.val g.val) := by
  change execSoundingStep c i g x quiet pass s = _
  unfold execSoundingStep
  dsimp only
  rw [if_neg]
  · exact (apply_ite Host.Outcome.next _ _ _).symm
  · rintro (⟨h1, h2⟩ | ⟨h1, h2⟩)
    · obtain h | h := hq
      · simp [h] at h1
      · omega
    · simp [h1, h2] at hs

theorem rhz_visited (c i g x : Nat) : (s.visited c i g x).rhz c i g = (s.rhz c i g).visited x := rhz_setRhz_self ..

theorem visited_sparing (ks : List Nat) (c i g x : Nat) : Fr [.col] ks s (s.visited c i g x) :=
  fr_setRhz (Fr.refl _ _ s) (by simp) _ _ _ _

/-- The record of a group after a sounding that fails no rhizoid. -/
def Rhz.sounded (r : Rhz) (x : Nat) (pass : Bool) : Rhz :=
  { r with missed := delNat x r.missed,
           strikes := if x ∈ r.failed then r.strikes else if pass then delNat x r.strikes else insNat x r.strikes }

/-- A sounding that passes, or fails for the first time, notes it in the group's record alone. -/
theorem sounded_noted (c i g x : Nat) (h : x ∈ (s.rhz c i g).failed ∨ pass = true ∨
    (x ∉ (s.rhz c i g).strikes ∧ (s.aheadNow c i g < 2 ∨ 4 < s.aheadNow c i g))) :
    (s.sounded x pass c i g).rhz c i g = (s.rhz c i g).sounded x pass ∧ Fr [.col] [] s (s.sounded x pass c i g) ∧
      (s.sounded x pass c i g).col.ahead = s.col.ahead := by
  have hv := rhz_visited s c i g x
  have hfr : Fr [.col] [] s (s.visited c i g x) := visited_sparing s [] c i g x
  unfold State.sounded
  dsimp only
  rw [hv]
  by_cases hf : x ∈ (s.rhz c i g).failed
  · have hf' : x ∈ ((s.rhz c i g).visited x).failed := hf
    rw [if_pos hf', hv]
    exact ⟨by simp [Rhz.visited, Rhz.sounded, hf], hfr, rfl⟩
  have hf' : x ∉ ((s.rhz c i g).visited x).failed := hf
  rw [if_neg hf']
  cases hp : pass with
  | true =>
    rw [if_pos rfl, rhz_setRhz_self]
    exact ⟨by simp [Rhz.visited, Rhz.sounded, hf], fr_setRhz hfr (by simp) _ _ _ _, rfl⟩
  | false =>
    obtain h | h | ⟨hstrike, hahead⟩ := h
    · exact absurd h hf
    · simp [hp] at h
    rw [if_neg (by simp), if_neg (by rintro (h | h); exact hstrike h; omega), rhz_setRhz_self]
    exact ⟨by simp [Rhz.visited, Rhz.sounded, hf], fr_setRhz hfr (by simp) _ _ _ _, rfl⟩

theorem sounded_fails (c i g x : Nat) (hf : x ∉ (s.rhz c i g).failed)
    (h : x ∈ (s.rhz c i g).strikes ∨ (2 ≤ s.aheadNow c i g ∧ s.aheadNow c i g ≤ 4)) :
    s.sounded x false c i g = (s.visited c i g x).failRhizoid c i g x
      (if s.aheadNow c i g = 5 then 0 else s.aheadNow c i g) ((s.visited c i g x).dependents c i g) := by
  unfold State.sounded
  dsimp only
  have hf' : x ∉ ((s.rhz c i g).visited x).failed := hf
  have h' : x ∈ ((s.rhz c i g).visited x).strikes ∨ (2 ≤ s.aheadNow c i g ∧ s.aheadNow c i g ≤ 4) := h
  rw [rhz_visited, if_neg hf', if_neg (by simp), if_pos h']

theorem soundingStep_row (r : Rhz) (hq : quiet = true ∨ 64 ≤ x.val)
    (hs : s.flag (COL_RHZ_CTL_SOUND_EN c.val) = true ∨ s.aheadNow c.val i.val g.val ≠ 0) (hr : r = s.rhz c.val i.val g.val) :
    (x.val ∈ r.failed ∨ pass = true ∨ (x.val ∉ r.strikes ∧
        (s.aheadNow c.val i.val g.val < 2 ∨ 4 < s.aheadNow c.val i.val g.val)) →
      ∃ t, exec (.soundingStep c i g x quiet pass) s = .next t ∧
        t.rhz c.val i.val g.val = { r with
          missed := delNat x.val r.missed,
          strikes := if x.val ∈ r.failed then r.strikes
            else if pass then delNat x.val r.strikes else insNat x.val r.strikes } ∧
        (x.val = 65 → aheadOf t c.val i.val g.val = 0) ∧
        (x.val ≠ 65 ∨ s.aheadNow c.val i.val g.val = 0 → Framed [.col] [] s t)) ∧
    (x.val ∉ r.failed → pass = false →
        x.val ∈ r.strikes ∨ (2 ≤ s.aheadNow c.val i.val g.val ∧ s.aheadNow c.val i.val g.val ≤ 4) →
      ∃ t, exec (.soundingStep c i g x quiet pass) s = .next t ∧ x.val ∈ (t.rhz c.val i.val g.val).failed ∧
        (t.rd (COL_RHZ_FAILS c.val)).toNat = min 0xFFFFFFFF ((s.rd (COL_RHZ_FAILS c.val)).toNat + 1) ∧
        (x.val < 64 → r.usable = [] → (t.rhz c.val i.val g.val).exhausted = true)) := by
  subst hr
  rw [soundingStep_runs s c i g x quiet pass hq hs]
  refine ⟨fun h => ⟨_, rfl, ?_⟩, fun hf hp h => ⟨_, rfl, ?_⟩⟩
  · obtain ⟨hrhz, hfr, hahead⟩ := sounded_noted s pass c.val i.val g.val x.val h
    by_cases he : x.val = 65 ∧ s.aheadNow c.val i.val g.val ≠ 0
    · rw [if_pos he]
      exact ⟨(rhz_soundedAhead ..).trans hrhz, fun _ => aheadOf_soundedAhead .., fun hn => (hn.elim (absurd he.1) he.2).elim⟩
    · rw [if_neg he]
      refine ⟨hrhz, fun hx => ?_, fun _ => hfr.frame⟩
      have hnow : s.aheadNow c.val i.val g.val = 0 := by
        by_contra hne
        exact he ⟨hx, hne⟩
      have hof : aheadOf s c.val i.val g.val = 0 := by
        by_contra hne
        rw [State.aheadNow, if_pos hne] at hnow
        exact hne hnow
      unfold aheadOf at hof ⊢
      rw [hahead, hof]
  · subst hp
    rw [sounded_fails s c.val i.val g.val x.val hf h]
    generalize (if s.aheadNow c.val i.val g.val = 5 then 0 else s.aheadNow c.val i.val g.val) = by_
    generalize hd : (s.visited c.val i.val g.val x.val).dependents c.val i.val g.val = d
    generalize hv : s.visited c.val i.val g.val x.val = v
    have hrv : v.rhz c.val i.val g.val = (s.rhz c.val i.val g.val).visited x.val := hv ▸ rhz_visited ..
    have hu : (s.rhz c.val i.val g.val).usable = [] → (v.rhz c.val i.val g.val).usable = [] := fun h => by rw [hrv]; exact h
    have hcount : ((v.failRhizoid c.val i.val g.val x.val by_ d).rd (COL_RHZ_FAILS c.val)).toNat =
        min 0xFFFFFFFF ((v.rd (COL_RHZ_FAILS c.val)).toNat + 1) :=
      rd_failRhizoid _ _ _ _ _ c.isLt _ _
    have hrd : v.rd (COL_RHZ_FAILS c.val) = s.rd (COL_RHZ_FAILS c.val) := by
      rw [← hv]
      exact (visited_sparing s [] ..).frame.reg _ (by simp)
    rw [hrd] at hcount
    split
    · refine ⟨?_, ?_, fun hx husable => ?_⟩
      · rw [rhz_soundedAhead]
        exact mem_failed_failRhizoid ..
      · rw [(soundedAhead_fr _ _ _ _).frame.reg]
        · exact hcount
        · exact fun hk => (List.mem_append.mp hk).elim (fails_not_book c.val) (fails_not_grant c.val)
      · rw [rhz_soundedAhead]
        exact exhausted_failRhizoid _ _ _ _ _ hx (hu husable) _
    · exact ⟨mem_failed_failRhizoid .., hcount, fun hx husable => exhausted_failRhizoid _ _ _ _ _ hx (hu husable) _⟩

end

theorem soundMiss_row (s : State) (c : ColId) (i : Fin 4) (g : Fin 56) (x : Fin 64) :
    (s.flag (COL_RHZ_CTL_SOUND_EN c.val) = true →
      ∃ t, exec (.soundMiss c i g x) s = .next t ∧ t.rhz c.val i.val g.val = { s.rhz c.val i.val g.val with
          missed := insNat x.val (s.rhz c.val i.val g.val).missed } ∧ Framed [.col] [] s t) ∧
    (s.flag (COL_RHZ_CTL_SOUND_EN c.val) = false → exec (.soundMiss c i g x) s = .next s) := by
  have hexec : exec (.soundMiss c i g x) s = if s.flag (COL_RHZ_CTL_SOUND_EN c.val) then
      .next (s.setRhz c.val i.val g.val { s.rhz c.val i.val g.val with
        missed := insNat x.val (s.rhz c.val i.val g.val).missed }) else .next s := rfl
  rw [hexec]
  refine ⟨fun h => ⟨_, if_pos h, rhz_setRhz_self .., (fr_setRhz (Fr.refl _ _ s) (by simp) _ _ _ _).frame⟩, fun h => ?_⟩
  rw [if_neg (by simp [h])]

end Sys2Proof.Machine
end

section
/-! PROOF.  A spare swap, and what its end means for the lane that uses the position (R100 to R102, R107). -/

namespace Sys2Proof.Machine

open Sys2Proof

/-! ### The lane of a position that has been spared -/

/-- What the end of a sparing or a re-test of a lane may change of the fabric: the lane's own records and the open faults. -/
def LaneOnly (s t : State) : Prop :=
  ∃ a b x o, t.col = { s.col with restoring := a, kept := b, retests := x, open_ := o }

theorem LaneOnly.refl (s : State) : LaneOnly s s := ⟨_, _, _, _, rfl⟩

theorem LaneOnly.trans {s t u : State} (h : LaneOnly s t) (k : LaneOnly t u) : LaneOnly s u := by
  obtain ⟨_, _, _, _, h⟩ := h
  obtain ⟨_, _, _, _, k⟩ := k
  exact ⟨_, _, _, _, k.trans (by rw [h])⟩

theorem LaneOnly.of_col {s t : State} (h : t.col = s.col) : LaneOnly s t := ⟨_, _, _, _, h⟩

theorem LaneOnly.groups {s t : State} (h : LaneOnly s t) : t.col.groups = s.col.groups := by
  obtain ⟨_, _, _, _, h⟩ := h
  rw [h]

theorem LaneOnly.out {s t : State} (h : LaneOnly s t) : t.col.out = s.col.out := by
  obtain ⟨_, _, _, _, h⟩ := h
  rw [h]

theorem LaneOnly.repairs {s t : State} (h : LaneOnly s t) : t.col.repairs = s.col.repairs := by
  obtain ⟨_, _, _, _, h⟩ := h
  rw [h]

/-- Registers that a lane's return to service writes. -/
def laneKeys (c lane : Nat) : List Nat := [(laneDis c lane).reg] ++ supKeys 1 ++ supKeys 3 ++ bookKeys

section
variable (s : State) (c lane : Nat)

theorem endRetest_fr (status : Nat) : Fr (.col :: .cmds :: evParts) bookKeys s (s.endRetest c lane status) := by
  unfold State.endRetest
  split
  · exact Fr.refl _ _ s
  · exact fr_finish (fr_col (Fr.refl _ _ s) (by simp) _) (by simp) (List.Subset.refl _) _ _ _

theorem endRetest_lane (status : Nat) : LaneOnly s (s.endRetest c lane status) := by
  unfold State.endRetest
  split
  · exact LaneOnly.refl s
  · exact ⟨_, _, _, _, finish_col _ _ _ _⟩

/-- The faults of a lane are closed at its two owners. -/
def State.laneClosed : State := (s.closeFault 1 c (.lane lane)).closeFault 3 c (.lane lane)

theorem laneClosed_fr : Fr [.col] (supKeys 1 ++ supKeys 3) s (s.laneClosed c lane) :=
  ((closeFault_fr s 1 c _).mono (List.Subset.refl _) (List.subset_append_left _ _)).trans
    ((closeFault_fr _ 3 c _).mono (List.Subset.refl _) (List.subset_append_right _ _))

theorem laneClosed_lane : LaneOnly s (s.laneClosed c lane) := ⟨_, _, _, _, rfl⟩

/-- A lane that works again, before the REPAIR that waits for it ends. -/
def State.laneBack (g outcome : Nat) : State :=
  ((({ s with col := { s.col with restoring := Tab.put none0 s.col.restoring (c * 256 + lane) none } } : State).setFlag
    (laneDis c lane) false).laneClosed c lane).raise 0x0306 (srcTrunk c g) [(18, 1, lane), (19, 1, outcome)]

theorem restoreLane_eq (g outcome : Nat) : s.restoreLane c lane g outcome = (s.laneBack c lane g outcome).endRetest c lane stOK := rfl

theorem laneBack_fr (g outcome : Nat) : Fr (.col :: evParts) (laneKeys c lane) s (s.laneBack c lane g outcome) := by
  have h1 : Fr (.col :: evParts) (laneKeys c lane) s
      { s with col := { s.col with restoring := Tab.put none0 s.col.restoring (c * 256 + lane) none } } :=
    fr_col (Fr.refl _ _ s) (by simp) _
  have h2 := fr_setFlag h1 (f := laneDis c lane) (by simp [laneKeys]) false
  refine (h2.trans ((laneClosed_fr _ c lane).mono (by simp) ?_)).trans ((raise_fr _ _ _ _).mono (by simp) ?_)
  · intro k hk
    simp only [laneKeys, List.mem_append] at hk ⊢
    tauto
  · exact List.subset_append_right _ _

theorem laneBack_lane (g outcome : Nat) : LaneOnly s (s.laneBack c lane g outcome) := by
  refine LaneOnly.trans ?_ (LaneOnly.of_col (raise_col _ _ _ _))
  exact LaneOnly.trans ⟨_, _, _, _, rfl⟩ (laneClosed_lane _ c lane)

theorem restoreLane_fr (g outcome : Nat) :
    Fr (.col :: .cmds :: evParts) (laneKeys c lane) s (s.restoreLane c lane g outcome) :=
  ((laneBack_fr s c lane g outcome).mono (by simp) (List.Subset.refl _)).trans
    ((endRetest_fr _ c lane stOK).mono (List.Subset.refl _) (List.subset_append_right _ _))

theorem restoreLane_lane (g outcome : Nat) : LaneOnly s (s.restoreLane c lane g outcome) :=
  (laneBack_lane s c lane g outcome).trans (endRetest_lane _ c lane stOK)

/-- A token that an end of a lane has kept (R101). -/
def State.keptAt (s : State) (q lane : Nat) : BitVec 2 := Tab.get code0 s.col.kept (q * 256 + lane)

/-- An end of a lane keeps a token, or, with 0, none. -/
def State.keepAt (s : State) (q lane : Nat) (v : BitVec 2) : State :=
  { s with col := { s.col with kept := Tab.put code0 s.col.kept (q * 256 + lane) v } }

theorem keepAt_fr (q k : Nat) (v : BitVec 2) : Fr [.col] [] s (s.keepAt q k v) := fr_col (Fr.refl _ _ s) (by simp) _

theorem keepAt_lane (q k : Nat) (v : BitVec 2) : LaneOnly s (s.keepAt q k v) := ⟨_, _, _, _, rfl⟩

/-- One end of a lane sends the token that it has kept (R101). -/
def State.sendEnd (g : Nat) : State :=
  if s.keptAt (matOf c g) lane = 0 then s
  else if (s.keepAt (matOf c g) lane 0).laneBuf (matOf c g) lane = 0 then
    (s.keepAt (matOf c g) lane 0).setLaneBuf (matOf c g) lane (s.keptAt (matOf c g) lane)
  else s.keepAt (matOf c g) lane 0

theorem sendKept_eq : s.sendKept c lane =
    if s.laneOut c lane then s else (s.sendEnd c lane 0).sendEnd c lane 1 := rfl

theorem sendEnd_fr (g : Nat) : Fr [.col, .ctx] [] s (s.sendEnd c lane g) := by
  have h := (keepAt_fr s (matOf c g) lane 0).mono (qs := [.col, .ctx]) (ls := []) (by simp) (by simp)
  exact fr_ite (Fr.refl _ _ s) (fr_ite (fr_ctx h (by simp) _) h)

theorem sendEnd_lane (g : Nat) : LaneOnly s (s.sendEnd c lane g) := by
  unfold State.sendEnd
  split
  · exact LaneOnly.refl s
  split
  · exact keepAt_lane s _ _ _
  · exact keepAt_lane s _ _ _

theorem sendKept_fr : Fr [.col, .ctx] [] s (s.sendKept c lane) := by
  rw [sendKept_eq]
  exact fr_ite (Fr.refl _ _ s) ((sendEnd_fr s c lane 0).trans (sendEnd_fr _ c lane 1))

theorem sendKept_lane : LaneOnly s (s.sendKept c lane) := by
  rw [sendKept_eq]
  split
  · exact LaneOnly.refl s
  · exact (sendEnd_lane s c lane 0).trans (sendEnd_lane _ c lane 1)

/-- What the end of a spare swap decides of a lane, before a kept token is sent. -/
def State.laneDecided : State :=
  match Tab.get none0 s.col.restoring (c * 256 + lane) with
  | none => if s.laneOut c lane then s else s.laneClosed c lane
  | some g =>
    if s.laneDead c lane then
      ({ s with col := { s.col with restoring := Tab.put none0 s.col.restoring (c * 256 + lane) none } } : State).endRetest
        c lane stHW_FAULT
    else if s.laneOut c lane then s
    else s.restoreLane c lane g 1

theorem laneSpared_eq : s.laneSpared c lane = (s.laneDecided c lane).sendKept c lane := rfl

theorem laneDecided_fr : Fr (.col :: .cmds :: evParts) (laneKeys c lane) s (s.laneDecided c lane) := by
  unfold State.laneDecided
  split
  · refine fr_ite (Fr.refl _ _ s) ((laneClosed_fr s c lane).mono (by simp) fun k hk => ?_)
    simp only [laneKeys, List.mem_append] at hk ⊢
    tauto
  · refine fr_ite ?_ (fr_ite (Fr.refl _ _ s) (restoreLane_fr s c lane _ 1))
    exact (fr_col (Fr.refl _ _ s) (by simp) _).trans
      ((endRetest_fr _ c lane _).mono (List.Subset.refl _) (List.subset_append_right _ _))

theorem laneDecided_lane : LaneOnly s (s.laneDecided c lane) := by
  unfold State.laneDecided
  split
  · split
    · exact LaneOnly.refl s
    · exact laneClosed_lane s c lane
  · split
    · exact LaneOnly.trans ⟨_, _, _, _, rfl⟩ (endRetest_lane _ c lane _)
    split
    · exact LaneOnly.refl s
    · exact restoreLane_lane s c lane _ 1

theorem laneSpared_fr : Fr (.col :: .ctx :: .cmds :: evParts) (laneKeys c lane) s (s.laneSpared c lane) :=
  ((laneDecided_fr s c lane).mono (by simp) (List.Subset.refl _)).trans
    ((sendKept_fr _ c lane).mono (by simp) (List.nil_subset _))

theorem laneSpared_lane : LaneOnly s (s.laneSpared c lane) :=
  (laneDecided_lane s c lane).trans (sendKept_lane _ c lane)

end

/-! ### Uses out of service (R102) -/

section
variable (s : State) (c i g p : Nat) (d : Bool × Bool)

theorem useOut_setUseOut_self (m : Nat) {use : Nat} (h : use < 4) : (s.setUseOut m use).useOut m use = true := by
  unfold State.useOut State.setUseOut
  dsimp only
  rw [Tab.get_put_self, BitVec.getLsbD_or, BitVec.getLsbD_shiftLeft]
  simp [h]

theorem useOut_setUseOut_mono {m use : Nat} (h : s.useOut m use = true) (n u : Nat) : (s.setUseOut n u).useOut m use = true := by
  unfold State.useOut State.setUseOut at *
  dsimp only
  rw [Tab.get_put]
  split
  next he =>
    rw [he] at h
    rw [BitVec.getLsbD_or, h, Bool.true_or]
  · exact h

theorem useOut_of_out {s t : State} (h : t.col.out = s.col.out) (m use : Nat) : t.useOut m use = s.useOut m use := by
  unfold State.useOut
  rw [h]

theorem exhaust_out : (s.exhaust c i g p d).col.out = ((s.exhaustReported c i g d).exhaustUse c i g p d).col.out := by
  rw [exhaust_eq]
  exact onDependents_ind (P := fun t => t.col.out = ((s.exhaustReported c i g d).exhaustUse c i g p d).col.out) c d rfl
    fun _ _ h => h

/-- An exhausted group's use is out of service. -/
theorem useOut_exhaust : (groupUse c i g = 1 → (s.exhaust c i g p d).useOut (matOf c (i / 2)) 0 = true) ∧
    (groupUse c i g = 3 → (s.exhaust c i g p d).useOut (matOf c 0) 2 = true ∧ (s.exhaust c i g p d).useOut (matOf c 1) 2 = true) := by
  constructor
  · intro hu
    rw [useOut_of_out (exhaust_out s c i g p d), State.exhaustUse, hu]
    exact useOut_setUseOut_self _ _ (by decide)
  · intro hu
    rw [useOut_of_out (exhaust_out s c i g p d), useOut_of_out (exhaust_out s c i g p d), State.exhaustUse, hu]
    exact ⟨useOut_setUseOut_mono _ (useOut_setUseOut_self _ _ (by decide)) _ _, useOut_setUseOut_self _ _ (by decide)⟩

/-- An exhausted group's dependents are to move. -/
theorem wanted_exhaust : (d.1 = true → matOf c 0 ∈ (s.exhaust c i g p d).mnt.wanted) ∧
    (d.2 = true → matOf c 1 ∈ (s.exhaust c i g p d).mnt.wanted) := by
  rw [exhaust_eq]
  generalize (s.exhaustReported c i g d).exhaustUse c i g p d = t
  unfold State.onDependents
  dsimp only
  constructor
  · intro h
    rw [if_pos h]
    split
    · exact mem_insNat.mpr (.inr (mem_wanted_wantReloc ..))
    · exact mem_wanted_wantReloc ..
  · intro h
    rw [if_pos h]
    exact mem_wanted_wantReloc ..

/-! ### The move to a spare (R100) -/

/-- A position has moved to a spare whose sounding passed. -/
def State.movedTo (sp : Nat) : State :=
  (((s.setRhz c i g { s.rhz c i g with moved := (s.rhz c i g).moved ++ [(p, sp)] }).raise 0x0302 (srcAgent c (8 + i))
    [(18, 1, i), (19, 1, g), (20, 1, p), (21, 1, sp)]).count (COL_RHZ_SWAPS c) (COL_RHZ_SAT_RHZ_SWAPS c) 1).closePosition c i g p

/-- A spare has been tried. -/
def State.tried (sp : Nat) : State := s.setRhz c i g { s.rhz c i g with used := insNat sp (s.rhz c i g).used }

theorem moveToSpare_pass (sp : Nat) (l : List Nat) (oks : List Bool) :
    s.moveToSpare c i g p d (sp :: l) (true :: oks) = (s.tried c i g sp).movedTo c i g p sp := rfl

theorem moveToSpare_fail (sp : Nat) (l : List Nat) (oks : List Bool) :
    s.moveToSpare c i g p d (sp :: l) (false :: oks) = (s.tried c i g sp).moveToSpare c i g p d l oks := rfl

theorem moveToSpare_none (oks : List Bool) : s.moveToSpare c i g p d [] oks = s.exhaust c i g p d := by
  cases oks <;> rfl

theorem rhz_tried (sp : Nat) : (s.tried c i g sp).rhz c i g = { s.rhz c i g with used := insNat sp (s.rhz c i g).used } :=
  rhz_setRhz_self ..

theorem tried_fr (sp : Nat) : Fr [.col] [] s (s.tried c i g sp) := fr_setRhz (Fr.refl _ _ s) (by simp) _ _ _ _

theorem movedTo_fr (sp : Nat) :
    Fr (.col :: evParts) ([COL_RHZ_SWAPS c, COL_RHZ_SAT c] ++ supKeys i ++ bookKeys) s (s.movedTo c i g p sp) := by
  have h1 : Fr (.col :: evParts) ([COL_RHZ_SWAPS c, COL_RHZ_SAT c] ++ supKeys i ++ bookKeys) s
      (s.setRhz c i g { s.rhz c i g with moved := (s.rhz c i g).moved ++ [(p, sp)] }) := fr_setRhz (Fr.refl _ _ s) (by simp) _ _ _ _
  refine setOpen_fr (fr_count (h1.trans ((raise_fr _ _ _ _).mono (by simp) (List.subset_append_right _ _))) (by simp) ?_ 1) (by simp) ?_ _ _
  · simp [COL_RHZ_SAT_RHZ_SWAPS]
  · simp [supKeys]

theorem movedTo_groups (sp : Nat) : ∃ o, (s.movedTo c i g p sp).col =
    { (s.setRhz c i g { s.rhz c i g with moved := (s.rhz c i g).moved ++ [(p, sp)] }).col with open_ := o } := by
  have hclose : ∀ u : State, ∃ o, (u.closePosition c i g p).col = { u.col with open_ := o } := fun u => ⟨_, rfl⟩
  obtain ⟨o, ho⟩ := hclose (((s.setRhz c i g { s.rhz c i g with moved := (s.rhz c i g).moved ++ [(p, sp)] }).raise 0x0302
    (srcAgent c (8 + i)) [(18, 1, i), (19, 1, g), (20, 1, p), (21, 1, sp)]).count (COL_RHZ_SWAPS c) (COL_RHZ_SAT_RHZ_SWAPS c) 1)
  exact ⟨o, ho.trans (by rw [State.count_col, raise_col])⟩

theorem rhz_movedTo (sp : Nat) : (s.movedTo c i g p sp).rhz c i g =
    { s.rhz c i g with moved := (s.rhz c i g).moved ++ [(p, sp)] } := by
  obtain ⟨o, ho⟩ := movedTo_groups s c i g p sp
  rw [rhz_of_groups (s := s.setRhz c i g { s.rhz c i g with moved := (s.rhz c i g).moved ++ [(p, sp)] }) (by rw [ho]),
    rhz_setRhz_self]

theorem repairs_movedTo (sp : Nat) : (s.movedTo c i g p sp).col.repairs = s.col.repairs := by
  obtain ⟨o, ho⟩ := movedTo_groups s c i g p sp
  rw [ho]
  rfl

theorem swaps_low {c : Nat} (hc : c < 256) : 0x200000 ≤ COL_RHZ_SWAPS c ∧ COL_RHZ_SWAPS c < 0x300000 := by
  unfold COL_RHZ_SWAPS
  omega

theorem rd_movedTo (hc : c < 256) (sp : Nat) : ((s.movedTo c i g p sp).rd (COL_RHZ_SWAPS c)).toNat =
    min 0xFFFFFFFF ((s.rd (COL_RHZ_SWAPS c)).toNat + 1) := by
  obtain ⟨hlow, hhigh⟩ := swaps_low hc
  have hclose : ∀ u : State, (u.closePosition c i g p).rd (COL_RHZ_SWAPS c) = u.rd (COL_RHZ_SWAPS c) := fun u =>
    (setOpen_fr (ks := supKeys i) (Fr.refl [.col] _ u) (by simp) (supStatus_mem i) _ _).frame.reg _
      fun h => column_not_report hlow hhigh i (List.mem_append_left _ h)
  unfold State.movedTo
  rw [hclose, rd_count _ _ _ (by simp only [COL_RHZ_SAT_RHZ_SWAPS, COL_RHZ_SAT, COL_RHZ_SWAPS]; omega) (by decide),
    (raise_fr _ _ _ _).frame.reg _ fun h => column_not_report hlow hhigh i (List.mem_append_right _ h)]
  rfl

end

/-! ### The row -/

section
variable (s : State) (c : ColId) (i : Fin 4) (g : Fin 56) (p : Fin 64) (ok0 ok1 : Bool)

/-- A spare swap ends: its lane, its place in the arbiter, and a REPAIR that waits for it. -/
def State.swapEnded (s : State) (c i g p place : Nat) : State :=
  ((if (i = 1 ∨ i = 2) ∧ g < 16 then s.laneSpared c (positionLane g p) else s).release place).endRepair c i g

theorem spareSwap_eq {a : Act} (ha : s.runningTask (isSwapOf c.val i.val g.val p.val) = some a) :
    exec (.spareSwap c i g p ok0 ok1) s = .next ((s.moveToSpare c.val i.val g.val p.val (s.dependents c.val i.val g.val)
      (s.rhz c.val i.val g.val).usable [ok0, ok1]).swapEnded c.val i.val g.val p.val a.place) := by
  change execSpareSwap c i g p ok0 ok1 s = _
  unfold execSpareSwap
  dsimp only
  rw [ha]
  rfl

end

section
variable (s : State) (c i g p place : Nat)

/-- The lane of a position of a trunk group, after the position's sparing. -/
def State.laneOfSpared : State := if (i = 1 ∨ i = 2) ∧ g < 16 then s.laneSpared c (positionLane g p) else s

theorem laneOfSpared_fr : Fr (.col :: .ctx :: .cmds :: evParts) (COL_TRUNK_DIS c (g / 2) :: supKeys 1 ++ supKeys 3 ++ bookKeys) s
    (s.laneOfSpared c i g p) := by
  have h := laneSpared_fr s c (positionLane g p)
  rw [laneKeys, laneDis_position] at h
  exact fr_ite h (Fr.refl _ _ s)

theorem laneOfSpared_lane : LaneOnly s (s.laneOfSpared c i g p) := by
  unfold State.laneOfSpared
  split
  · exact laneSpared_lane s c _
  · exact LaneOnly.refl s

theorem swapEnded_eq : s.swapEnded c i g p place = ((s.laneOfSpared c i g p).release place).endRepair c i g := rfl

theorem release_col : (s.release place).col = s.col := (release_fr s place).frame.part .col (by decide)

theorem swapEnded_groups : (s.swapEnded c i g p place).col.groups = s.col.groups := by
  rw [swapEnded_eq]
  obtain ⟨l, hl⟩ := endRepair_col ((s.laneOfSpared c i g p).release place) c i g
  rw [hl, release_col]
  exact (laneOfSpared_lane s c i g p).groups

theorem swapEnded_out : (s.swapEnded c i g p place).col.out = s.col.out := by
  rw [swapEnded_eq]
  obtain ⟨l, hl⟩ := endRepair_col ((s.laneOfSpared c i g p).release place) c i g
  rw [hl, release_col]
  exact (laneOfSpared_lane s c i g p).out

theorem swapEnded_places : ∀ b ∈ (s.swapEnded c i g p place).mnt.acts, b.place ≠ place := by
  rw [swapEnded_eq, endRepair_acts]
  exact place_release _ place

theorem swapEnded_wanted : (s.swapEnded c i g p place).mnt.wanted = s.mnt.wanted := by
  rw [swapEnded_eq, (endRepair_fr _ c i g).wanted (by decide), (release_fr _ place).wanted (by decide),
    (laneOfSpared_fr s c i g p).wanted (by decide)]

theorem rd_swapEnded (hc : c < 256) : (s.swapEnded c i g p place).rd (COL_RHZ_SWAPS c) = s.rd (COL_RHZ_SWAPS c) := by
  obtain ⟨hlow, hhigh⟩ := swaps_low hc
  have hbook : COL_RHZ_SWAPS c ∉ bookKeys := fun h => column_not_report hlow hhigh 1 (List.mem_append_right _ h)
  rw [swapEnded_eq, (endRepair_fr _ c i g).frame.reg _ hbook, (release_fr _ place).frame.reg,
    (laneOfSpared_fr s c i g p).frame.reg]
  · simp only [List.mem_append, List.mem_cons, not_or]
    refine ⟨⟨⟨?_, fun h => ?_⟩, fun h => ?_⟩, hbook⟩
    · unfold COL_RHZ_SWAPS COL_TRUNK_DIS
      omega
    · exact column_not_report hlow hhigh 1 (List.mem_append_left _ h)
    · exact column_not_report hlow hhigh 3 (List.mem_append_left _ h)
  · exact not_mem_grantKeys hlow (by unfold COL_RHZ_SWAPS; omega)

/-- A swap of a group that carries no trunk lane, while no REPAIR waits. -/
theorem swapEnded_plain (h : s.col.repairs = []) (hu : ¬ ((i = 1 ∨ i = 2) ∧ g < 16)) :
    s.swapEnded c i g p place = s.release place := by
  unfold State.swapEnded
  rw [if_neg hu, endRepair_none]
  rw [release_col, h]

end

section
variable (s : State) (c : ColId) (i : Fin 4) (g : Fin 56) (p : Fin 64) (ok0 ok1 : Bool) (a : Act) (r : Rhz)
  (ha : s.runningTask (isSwapOf c.val i.val g.val p.val) = some a) (hr : r = s.rhz c.val i.val g.val)
include ha hr

theorem spareSwap_first (sp : Nat) (l : List Nat) (hu : r.usable = sp :: l) (h0 : ok0 = true) :
    ∃ t, exec (.spareSwap c i g p ok0 ok1) s = .next t ∧
      (t.rhz c.val i.val g.val).moved = r.moved ++ [(p.val, sp)] ∧ sp ∈ (t.rhz c.val i.val g.val).used ∧
      (t.rhz c.val i.val g.val).failed = r.failed ∧ (∀ b ∈ t.mnt.acts, b.place ≠ a.place) ∧
      (t.rd (COL_RHZ_SWAPS c.val)).toNat = min 0xFFFFFFFF ((s.rd (COL_RHZ_SWAPS c.val)).toNat + 1) ∧
      (s.col.repairs = [] → groupUse c.val i.val g.val ≠ 0 →
        Framed (.col :: evParts ++ grantParts)
          ([COL_RHZ_SWAPS c.val, COL_RHZ_SAT c.val] ++ supKeys i.val ++ bookKeys ++ grantKeys) s t) := by
  subst hr h0
  rw [spareSwap_eq s c i g p true ok1 ha, hu, moveToSpare_pass]
  have hrhz : ((((s.tried c.val i.val g.val sp).movedTo c.val i.val g.val p.val sp).swapEnded c.val i.val g.val p.val a.place).rhz
      c.val i.val g.val) = { s.rhz c.val i.val g.val with
        used := insNat sp (s.rhz c.val i.val g.val).used, moved := (s.rhz c.val i.val g.val).moved ++ [(p.val, sp)] } := by
    rw [rhz_of_groups (swapEnded_groups ..), rhz_movedTo, rhz_tried]
  refine ⟨_, rfl, ?_, ?_, ?_, swapEnded_places _ _ _ _ _ _, ?_, fun hrep huse => ?_⟩
  · rw [hrhz]
  · rw [hrhz]
    exact mem_insNat.mpr (.inl rfl)
  · rw [hrhz]
  · rw [rd_swapEnded _ _ _ _ _ _ c.isLt, rd_movedTo _ _ _ _ _ c.isLt, (tried_fr s c.val i.val g.val sp).frame.reg _ (by simp)]
  · have htrunk : ¬ ((i.val = 1 ∨ i.val = 2) ∧ g.val < 16) := fun h => huse (if_pos h)
    have hnone : ((s.tried c.val i.val g.val sp).movedTo c.val i.val g.val p.val sp).col.repairs = [] :=
      (repairs_movedTo ..).trans hrep
    rw [swapEnded_plain _ _ _ _ _ _ hnone htrunk]
    have hmoved := (tried_fr s c.val i.val g.val sp).mono (qs := .col :: evParts)
      (ls := [COL_RHZ_SWAPS c.val, COL_RHZ_SAT c.val] ++ supKeys i.val ++ bookKeys) (by simp) (by simp)
    exact ((hmoved.trans (movedTo_fr _ c.val i.val g.val p.val sp)).mono (List.subset_append_left _ _)
      (List.subset_append_left _ _)).frame.trans
      ((release_fr _ a.place).mono (List.subset_append_right _ _) (List.subset_append_right _ _)).frame

theorem spareSwap_second (sp sq : Nat) (hu : r.usable = [sp, sq]) (h0 : ok0 = false) (h1 : ok1 = true) :
    ∃ t, exec (.spareSwap c i g p ok0 ok1) s = .next t ∧
      (t.rhz c.val i.val g.val).moved = r.moved ++ [(p.val, sq)] ∧ sp ∈ (t.rhz c.val i.val g.val).used ∧
      sq ∈ (t.rhz c.val i.val g.val).used ∧ (∀ b ∈ t.mnt.acts, b.place ≠ a.place) := by
  subst hr h0 h1
  rw [spareSwap_eq s c i g p false true ha, hu, moveToSpare_fail, moveToSpare_pass]
  refine ⟨_, rfl, ?_, ?_, ?_, swapEnded_places _ _ _ _ _ _⟩ <;>
    rw [rhz_of_groups (swapEnded_groups ..), rhz_movedTo, rhz_tried, rhz_tried]
  · exact mem_insNat.mpr (.inr (mem_insNat.mpr (.inl rfl)))
  · exact mem_insNat.mpr (.inl rfl)

omit ha in
/-- Without a spare that passes, the group is exhausted. -/
theorem moveToSpare_exhausts (d : Bool × Bool)
    (h : r.usable = [] ∨ (ok0 = false ∧ (r.usable.length = 1 ∨ ok1 = false))) :
    ∃ v : State, s.moveToSpare c.val i.val g.val p.val d r.usable [ok0, ok1] = v.exhaust c.val i.val g.val p.val d ∧
      (v.rhz c.val i.val g.val).moved = r.moved := by
  subst hr
  have hle : (s.rhz c.val i.val g.val).usable.length ≤ 2 := List.length_filter_le _ _
  generalize (s.rhz c.val i.val g.val).usable = u at h hle
  match u, h, hle with
  | [], _, _ => exact ⟨s, moveToSpare_none .., rfl⟩
  | [sp], h, _ =>
    obtain rfl : ok0 = false := h.elim (fun h => absurd h (by simp)) (fun h => h.1)
    exact ⟨_, (moveToSpare_fail ..).trans (moveToSpare_none ..), (congrArg Rhz.moved (rhz_tried s c.val i.val g.val sp) :)⟩
  | [sp, sq], h, _ =>
    obtain ⟨rfl, hlast⟩ := h.resolve_left (by simp)
    obtain rfl : ok1 = false := hlast.resolve_left (by simp)
    refine ⟨_, (moveToSpare_fail ..).trans ((moveToSpare_fail ..).trans (moveToSpare_none ..)), ?_⟩
    rw [rhz_tried, rhz_tried]

theorem spareSwap_exhausts (h : r.usable = [] ∨ (ok0 = false ∧ (r.usable.length = 1 ∨ ok1 = false))) :
    ∃ t, exec (.spareSwap c i g p ok0 ok1) s = .next t ∧ (t.rhz c.val i.val g.val).exhausted = true ∧
      (t.rhz c.val i.val g.val).moved = r.moved ∧ (∀ b ∈ t.mnt.acts, b.place ≠ a.place) ∧
      (groupUse c.val i.val g.val = 1 → t.useOut (matOf c.val (i.val / 2)) 0 = true) ∧
      (groupUse c.val i.val g.val = 3 → t.useOut (matOf c.val 0) 2 = true ∧ t.useOut (matOf c.val 1) 2 = true) ∧
      ((s.dependents c.val i.val g.val).1 = true → matOf c.val 0 ∈ t.mnt.wanted) ∧
      ((s.dependents c.val i.val g.val).2 = true → matOf c.val 1 ∈ t.mnt.wanted) := by
  obtain ⟨v, hv, hmoved⟩ := moveToSpare_exhausts s c i g p ok0 ok1 r hr (s.dependents c.val i.val g.val) h
  rw [spareSwap_eq s c i g p ok0 ok1 ha, ← hr, hv]
  generalize s.dependents c.val i.val g.val = d
  have hrhz := rhz_of_groups (swapEnded_groups (v.exhaust c.val i.val g.val p.val d) c.val i.val g.val p.val a.place)
    c.val i.val g.val
  rw [rhz_exhaust] at hrhz
  have hout := swapEnded_out (v.exhaust c.val i.val g.val p.val d) c.val i.val g.val p.val a.place
  obtain ⟨hport, hcontrol⟩ := useOut_exhaust v c.val i.val g.val p.val d
  obtain ⟨hwant0, hwant1⟩ := wanted_exhaust v c.val i.val g.val p.val d
  refine ⟨_, rfl, by rw [hrhz], by rw [hrhz]; exact hmoved, swapEnded_places _ _ _ _ _ _, ?_, ?_, ?_, ?_⟩
  · exact fun hu => (useOut_of_out hout _ _).trans (hport hu)
  · exact fun hu => ⟨(useOut_of_out hout _ _).trans (hcontrol hu).1, (useOut_of_out hout _ _).trans (hcontrol hu).2⟩
  · rw [swapEnded_wanted]
    exact hwant0
  · rw [swapEnded_wanted]
    exact hwant1

end

end Sys2Proof.Machine
end

section
/-! SUPPORT.  Failed rhizoids of a trunk lane, its tokens, and the end of the REPAIR that waits for its re-test (R101, R107,
R118). -/

namespace Sys2Proof.Machine

open Sys2Proof

/-! ### The end of a command that the device holds -/

theorem ended_finish (u : State) (r : CmdRef) (status : Nat) (result : Word) :
    Ended u (u.finish r status result) r status result := by
  constructor
  · intro hkept
    have hpost := posted_post (s := u) (u := { u with host := { u.host with cmds := u.host.cmds.filter (fun c => decide
      (¬ (c.ring = r.ring ∧ c.id = r.id ∧ c.opcode = r.opcode))) } })
      { ring := r.ring, id := r.id, status := status, final := true, opcode := r.opcode, result := result }
      (List.prefix_refl _) fun _ => rfl
    unfold State.finish
    dsimp only
    split
    next c heq =>
      rw [if_neg (by simp [hkept c heq])]
      exact hpost
    · exact hpost
  · have hcmds : (u.finish r status result).host.cmds = u.host.cmds.filter (fun c => decide (¬ (c.ring = r.ring ∧
      c.id = r.id ∧ c.opcode = r.opcode))) := (finish_books u r status result).host_cmds
    unfold State.cmdOf
    rw [hcmds, List.find?_eq_none]
    intro x hx
    have := (List.mem_filter.1 hx).2
    simp only [decide_eq_true_eq] at this ⊢
    exact this

/-- From s to u a command's completion has not been given, nor any like it, though the device may hold the command no more. -/
structure Pending (s u : State) (r : CmdRef) (x : Compl) : Prop where
  cmd : u.cmdOf r.ring r.id r.opcode = s.cmdOf r.ring r.id r.opcode ∨ u.cmdOf r.ring r.id r.opcode = none
  out : s.out <+: u.out
  held : ∀ m, (u.ring m).held.count x = (s.ring m).held.count x

theorem Pending.trans {s t u : State} {r : CmdRef} {x : Compl} (h : Pending s t r x) (k : Pending t u r x) : Pending s u r x :=
  ⟨k.cmd.elim (fun e => h.cmd.imp e.trans e.trans) .inr, h.out.trans k.out, fun m => (k.held m).trans (h.held m)⟩

theorem Posted.back {s u t : State} {x : Compl} (h : Posted u t x) (ho : s.out <+: u.out)
    (hh : ∀ m, (u.ring m).held.count x = (s.ring m).held.count x) : Posted s t x := by
  obtain ⟨a, ha⟩ | h := h
  · refine .inl ⟨a, ?_⟩
    have hlen := ho.length_le
    rw [show u.out.length = s.out.length + (u.out.length - s.out.length) by omega, ← List.drop_drop] at ha
    exact List.mem_of_mem_drop ha
  · exact .inr (by rw [h, hh])

/-- A command that ends as it is due has ended for whatever came before. -/
theorem Ended.back {s u t : State} {r : CmdRef} {status : Nat} {result : Word} (h : Ended u t r status result)
    (k : Pending s u r { ring := r.ring, id := r.id, status := status, final := true, opcode := r.opcode, result := result }) :
    Ended s t r status result := by
  refine ⟨fun hkept => (h.posted fun c hc => ?_).back k.out k.held, h.gone⟩
  obtain e | e := k.cmd
  · exact hkept c (e ▸ hc)
  · rw [e] at hc
    cases hc

/-- What an operation keeps, so that a command may still end as it would have before. -/
structure Held (s u : State) : Prop where
  cmds : u.host.cmds = s.host.cmds
  out : s.out <+: u.out
  held : ∀ m, (u.ring m).held = (s.ring m).held

theorem Held.trans {s t u : State} (h : Held s t) (k : Held t u) : Held s u :=
  ⟨k.cmds.trans h.cmds, h.out.trans k.out, fun m => (k.held m).trans (h.held m)⟩

theorem Held.pending {s u : State} (h : Held s u) (r : CmdRef) (x : Compl) : Pending s u r x :=
  ⟨.inl (by rw [State.cmdOf, h.cmds]; rfl), h.out, fun m => by rw [h.held m]⟩

theorem held_fr {ps : List Part} {ks : List Nat} {s t : State} (h : Fr ps ks s t) (hc : Part.cmds ∉ ps)
    (hh : ∀ m, (t.ring m).held = (s.ring m).held) : Held s t := ⟨h.frame.part .cmds hc, h.keeps.out, hh⟩

theorem ended_endRetest {s u : State} (h : Held s u) (c lane status : Nat) {r : Nat × CmdRef}
    (hr : u.col.retests.find? (fun e => decide (e.1 = c * 256 + lane)) = some r) :
    Ended s (u.endRetest c lane status) r.2 status 0 := by
  unfold State.endRetest
  rw [hr]
  have hrest : Held s { u with col := { u.col with
      retests := u.col.retests.filter (fun x => decide (x.1 ≠ c * 256 + lane)) } } := ⟨h.cmds, h.out, h.held⟩
  exact (ended_finish _ r.2 status 0).back (hrest.pending r.2 _)

theorem endRetest_none {u : State} (h : u.col.retests = []) (c lane status : Nat) : u.endRetest c lane status = u := by
  unfold State.endRetest
  rw [h]
  rfl

/-! ### Failed rhizoids that the sounding of a lane finds -/

section
variable (s : State) (c lane by_ : Nat) (d : Bool × Bool)

/-- Registers that the failures of a lane's rhizoids may write. -/
def laneFailKeys (c lane : Nat) : List Nat := failKeys c 1 (lane / 16) ++ failKeys c 2 (lane / 16)

/-- One rhizoid that the sounding of a lane finds. -/
def State.failOne (w : Fin 2 × Fin 66) : State :=
  if w.2.val ∉ (s.rhz c (1 + w.1.val) (lane / 16)).failed ∧
      (lanePositions lane).any (fun p => (s.rhz c (1 + w.1.val) (lane / 16)).carries p w.2.val) then
    s.failRhizoid c (1 + w.1.val) (lane / 16) w.2.val by_ d
  else s

theorem failLane_cons (w : Fin 2 × Fin 66) (l : List (Fin 2 × Fin 66)) :
    s.failLane c lane by_ d (w :: l) = (s.failOne c lane by_ d w).failLane c lane by_ d l := rfl

theorem failOne_sparing (w : Fin 2 × Fin 66) : Sparing (laneFailKeys c lane) s (s.failOne c lane by_ d w) := by
  unfold State.failOne
  split
  · refine (failRhizoid_sparing s c _ _ d _ by_).mono ?_
    obtain ⟨j, x⟩ := w
    fin_cases j
    · exact List.subset_append_left _ _
    · exact List.subset_append_right _ _
  · exact Sparing.refl _ s

theorem failLane_sparing (l : List (Fin 2 × Fin 66)) : Sparing (laneFailKeys c lane) s (s.failLane c lane by_ d l) := by
  induction l generalizing s with
  | nil => exact Sparing.refl _ s
  | cons w l ih => exact (failOne_sparing s c lane by_ d w).trans (ih _)

/-- Whatever rhizoid of the lane the sounding finds has failed then. -/
theorem failLane_failed (l : List (Fin 2 × Fin 66)) : ∀ w ∈ l,
    (w.2.val ∈ (s.rhz c (1 + w.1.val) (lane / 16)).failed ∨
      (lanePositions lane).any (fun p => (s.rhz c (1 + w.1.val) (lane / 16)).carries p w.2.val) = true) →
    w.2.val ∈ ((s.failLane c lane by_ d l).rhz c (1 + w.1.val) (lane / 16)).failed := by
  induction l generalizing s with
  | nil => exact fun w hw => absurd hw List.not_mem_nil
  | cons v l ih =>
    intro w hw h
    have hworse := (failOne_sparing s c lane by_ d v).worse c (1 + w.1.val) (lane / 16)
    rw [failLane_cons]
    obtain rfl | hw := List.mem_cons.mp hw
    · refine ((failLane_sparing _ c lane by_ d l).worse _ _ _).failed _ ?_
      by_cases hf : w.2.val ∈ (s.rhz c (1 + w.1.val) (lane / 16)).failed
      · exact hworse.failed _ hf
      · rw [State.failOne, if_pos ⟨hf, h.resolve_left hf⟩]
        exact mem_failed_failRhizoid ..
    · refine ih _ w hw ?_
      obtain h | h := h
      · exact .inl (hworse.failed _ h)
      · obtain ⟨p, hp, hcarries⟩ := List.any_eq_true.mp h
        exact (hworse.carries p _ hcarries).imp_right fun hc => List.any_eq_true.mpr ⟨p, hp, hc⟩

theorem not_mem_laneFailKeys {k : Nat} (h : 0x200000 ≤ k) (hlt : k < 0x300000) (hfails : k ≠ COL_RHZ_FAILS c)
    (hsat : k ≠ COL_RHZ_SAT c) (hdis : k ≠ COL_TRUNK_DIS c (lane / 16 / 2)) : k ∉ laneFailKeys c lane := fun hm =>
  (List.mem_append.mp hm).elim (not_mem_failKeys c 1 _ h hlt hfails hsat hdis) (not_mem_failKeys c 2 _ h hlt hfails hsat hdis)

end

/-! ### What a lane's state depends on -/

section
variable {s t : State} {ps : List Part} {ks : List Nat}

theorem gateStatus_low (q : Nat) : 0x200800 ≤ COL_GATE_STATUS (matCol q) (matG q) ∧ COL_GATE_STATUS (matCol q) (matG q) < 0x300000 := by
  have hc := matCol_lt q
  have hg := matG_lt q
  unfold COL_GATE_STATUS
  omega

theorem activeSlot_fr (h : Fr ps ks s t) {q : Nat} (hk : COL_GATE_STATUS (matCol q) (matG q) ∉ ks) :
    t.activeSlot q = s.activeSlot q := h.get (f := gACTIVE q) hk

theorem drivesNow_fr (h : Fr ps ks s t) (hown : t.col.own = s.col.own)
    (hk : ∀ q, COL_GATE_STATUS (matCol q) (matG q) ∉ ks) (q lane : Nat) : t.drivesNow q lane = s.drivesNow q lane := by
  unfold State.drivesNow State.laneDriver State.ownCode State.ownOf
  rw [activeSlot_fr h (hk _), activeSlot_fr h (hk _), hown]

theorem laneBuf_fr (h : Fr ps ks s t) (hp : Part.ctx ∉ ps) {q : Nat} (hk : COL_GATE_STATUS (matCol q) (matG q) ∉ ks) (lane : Nat) :
    t.laneBuf q lane = s.laneBuf q lane := by
  have hctx : t.ctx = s.ctx := h.frame.part .ctx hp
  unfold State.laneBuf State.holds State.slot
  rw [activeSlot_fr h hk, hctx]

theorem laneOut_of_groups (h : t.col.groups = s.col.groups) (c lane : Nat) : t.laneOut c lane = s.laneOut c lane := by
  unfold State.laneOut State.needsSpare State.rhz
  rw [h]

variable (s)

theorem laneBuf_setLaneBuf_self (q lane : Nat) (v : BitVec 2) : (s.setLaneBuf q lane v).laneBuf q lane = v := by
  unfold State.laneBuf State.holds State.setLaneBuf
  show Tab.get code0 ((s.setSlot _ _ _).slot _ (s.activeSlot _)).holds.lanes _ = v
  rw [slot_setSlot_self, Tab.get_put, if_pos rfl]

theorem activeSlot_lt (q : Nat) : s.activeSlot q < 4 := (Nat.mod_lt _ (by decide) : _ % 2 ^ 2 < 2 ^ 2)

theorem laneBuf_setLaneBuf_ne {q r : Nat} (h : r ≠ q) (lane k : Nat) (v : BitVec 2) :
    (s.setLaneBuf q lane v).laneBuf r k = s.laneBuf r k := by
  have hq := activeSlot_lt s q
  have hr := activeSlot_lt s r
  unfold State.laneBuf State.holds State.setLaneBuf
  show Tab.get code0 ((s.setSlot _ _ _).slot _ (s.activeSlot _)).holds.lanes _ = _
  have hslot : ∀ x, (s.setSlot q (s.activeSlot q) x).slot r (s.activeSlot r) = s.slot r (s.activeSlot r) := fun x =>
    Tab.get_put_ne slot0 s.ctx.slots (by omega) x
  rw [hslot]

/-! ### A token that a lane has kept -/

section
variable (c lane : Nat)

theorem keptAt_keepAt_self (q k : Nat) (v : BitVec 2) : (s.keepAt q k v).keptAt q k = v := Tab.get_put_self code0 s.col.kept _ _

theorem keptAt_keepAt_ne {q r : Nat} (k : Nat) (h : r ≠ q) (v : BitVec 2) : (s.keepAt q k v).keptAt r k = s.keptAt r k :=
  Tab.get_put_ne code0 s.col.kept (by omega) v

theorem laneBuf_keepAt (q k r j : Nat) (v : BitVec 2) : (s.keepAt q k v).laneBuf r j = s.laneBuf r j := rfl

theorem sendEnd_self (g : Nat) (hb : s.laneBuf (matOf c g) lane = 0) :
    (s.sendEnd c lane g).laneBuf (matOf c g) lane = s.keptAt (matOf c g) lane ∧ (s.sendEnd c lane g).keptAt (matOf c g) lane = 0 := by
  unfold State.sendEnd
  split
  next h => exact ⟨hb.trans h.symm, h⟩
  · rw [if_pos (by rw [laneBuf_keepAt, hb])]
    exact ⟨laneBuf_setLaneBuf_self .., keptAt_keepAt_self s _ _ 0⟩

theorem sendEnd_other {g e : Nat} (he : matOf c e ≠ matOf c g) :
    (s.sendEnd c lane g).laneBuf (matOf c e) lane = s.laneBuf (matOf c e) lane ∧
      (s.sendEnd c lane g).keptAt (matOf c e) lane = s.keptAt (matOf c e) lane := by
  unfold State.sendEnd
  split
  · exact ⟨rfl, rfl⟩
  split
  · exact ⟨laneBuf_setLaneBuf_ne _ he .., keptAt_keepAt_ne s lane he 0⟩
  · exact ⟨rfl, keptAt_keepAt_ne s lane he 0⟩

theorem matOf_ne (c : Nat) : matOf c 0 ≠ matOf c 1 := by
  unfold matOf
  omega

/-- An end whose buffer is empty has its kept token again once the lane is in service. -/
theorem sendKept_end (hin : s.laneOut c lane = false) {g : Nat} (hg : g < 2)
    (hb : s.laneBuf (matOf c g) lane = 0) :
    (s.sendKept c lane).laneBuf (matOf c g) lane = s.keptAt (matOf c g) lane ∧
      (s.sendKept c lane).keptAt (matOf c g) lane = 0 := by
  rw [sendKept_eq, if_neg (by simp [hin])]
  obtain rfl | rfl : g = 0 ∨ g = 1 := by omega
  · obtain ⟨h1, h2⟩ := sendEnd_self s c lane 0 hb
    obtain ⟨k1, k2⟩ := sendEnd_other (s.sendEnd c lane 0) c lane (matOf_ne c)
    exact ⟨k1.trans h1, k2.trans h2⟩
  · obtain ⟨k1, k2⟩ := sendEnd_other s c lane (matOf_ne c).symm
    obtain ⟨h1, h2⟩ := sendEnd_self (s.sendEnd c lane 0) c lane 1 (k1.trans hb)
    exact ⟨h1.trans k2, h2⟩

end

end

end Sys2Proof.Machine
end

section
/-! PROOF.  The rows on trunk lanes: timeouts, contention and re-tests (R101, R106, R107, R118). -/

namespace Sys2Proof.Machine

open Sys2Proof

/-! ### Registers of a lane -/

section
variable {c : Nat} (hc : c < 256)
include hc

theorem trunkFaults_low : 0x200000 ≤ COL_TRUNK_FAULTS c ∧ COL_TRUNK_FAULTS c < 0x300000 := by
  unfold COL_TRUNK_FAULTS
  omega

theorem trunkDis_low {lane : Nat} (hl : lane < 256) : 0x200000 ≤ (laneDis c lane).reg ∧ (laneDis c lane).reg < 0x300000 := by
  show 0x200000 ≤ COL_TRUNK_DIS c (lane / 32) ∧ COL_TRUNK_DIS c (lane / 32) < 0x300000
  unfold COL_TRUNK_DIS
  omega

omit hc in
theorem gateStatus_not_laneFail {lane : Nat} (hl : lane < 256) (q : Nat) : COL_GATE_STATUS (matCol q) (matG q) ∉ laneFailKeys c lane := by
  obtain ⟨h1, h2⟩ := gateStatus_low q
  have hg := matG_lt q
  refine not_mem_laneFailKeys c lane (by omega) h2 ?_ ?_ ?_ <;>
    simp only [COL_GATE_STATUS, COL_RHZ_FAILS, COL_RHZ_SAT, COL_TRUNK_DIS] <;> omega

end

theorem laneDis_fits (c lane : Nat) : (laneDis c lane).lo + (laneDis c lane).w ≤ 32 := by
  unfold laneDis
  dsimp only
  omega

theorem flag_setFlag_laneDis (s : State) (c lane : Nat) (b : Bool) : (s.setFlag (laneDis c lane) b).flag (laneDis c lane) = b :=
  State.flag_setFlag_self s _ (laneDis_fits c lane) rfl b

theorem flag_setFlag_laneDis_ne (s : State) (c : Nat) {lane j : Nat} (h : j ≠ lane) (b : Bool) :
    (s.setFlag (laneDis c lane) b).flag (laneDis c j) = s.flag (laneDis c j) := by
  refine State.flag_setFlag_apart s ((fldsApart_iff _ _).mpr ?_) b
  unfold laneDis COL_TRUNK_DIS
  dsimp only
  omega

/-! ### A lane that waits (R101) -/

section
variable (s : State) (c k g : Nat) (np : Bool)

/-- Whether the sender's token stays for the lane's return: the far end has it not. -/
def State.keepsToken (s : State) (c k g : Nat) : Bool :=
  decide (s.laneBuf (matOf c g) k ≠ 0) && decide (s.laneBuf (matOf c (1 - g)) k = 0)

theorem keepsToken_iff : s.keepsToken c k g = true ↔ s.laneBuf (matOf c g) k ≠ 0 ∧ s.laneBuf (matOf c (1 - g)) k = 0 := by
  rw [State.keepsToken, Bool.and_eq_true, decide_eq_true_iff, decide_eq_true_iff]

/-- The count and the report of a lane's timeout. -/
def State.timeoutReported : State :=
  (s.count (COL_TRUNK_FAULTS c) (COL_RHZ_SAT_TRUNK_FAULTS c) 1).reportFault (if g = 0 then 3 else 1) c (.lane k) 0x8305
    (srcTrunk c g) [(18, 1, k), (19, 1, b2n np), (20, 1, b2n (s.keepsToken c k g))]

/-- A lane's timeout before the sounding of its rhizoids. -/
def State.timedOut : State :=
  (if s.keepsToken c k g then (s.timeoutReported c k g np).keepAt (matOf c g) k (s.laneBuf (matOf c g) k)
    else s.timeoutReported c k g np).setLaneBuf (matOf c g) k 0

theorem timeoutReported_fr : Fr (.col :: evParts) ([COL_TRUNK_FAULTS c, COL_RHZ_SAT c] ++ supKeys 1 ++ supKeys 3 ++ bookKeys) s
    (s.timeoutReported c k g np) := by
  have hcount : Fr (.col :: evParts) ([COL_TRUNK_FAULTS c, COL_RHZ_SAT c] ++ supKeys 1 ++ supKeys 3 ++ bookKeys) s
      (s.count (COL_TRUNK_FAULTS c) (COL_RHZ_SAT_TRUNK_FAULTS c) 1) :=
    fr_count (Fr.refl _ _ s) (by simp) (by simp [COL_RHZ_SAT_TRUNK_FAULTS]) 1
  refine hcount.trans ((reportFault_fr _ _ _ _ _ _ _).mono (List.Subset.refl _) fun x hx => ?_)
  simp only [List.mem_append] at hx ⊢
  split at hx <;> tauto

theorem timeoutReported_col : ∃ o, (s.timeoutReported c k g np).col = { s.col with open_ := o } := by
  obtain ⟨o, ho⟩ := reportFault_col (s.count (COL_TRUNK_FAULTS c) (COL_RHZ_SAT_TRUNK_FAULTS c) 1) c (if g = 0 then 3 else 1)
    (.lane k) 0x8305 (srcTrunk c g) [(18, 1, k), (19, 1, b2n np), (20, 1, b2n (s.keepsToken c k g))]
  exact ⟨o, Eq.trans ho (by rw [State.count_col])⟩

theorem timedOut_lane : LaneOnly s (s.timedOut c k g np) := by
  obtain ⟨o, ho⟩ := timeoutReported_col s c k g np
  have h : LaneOnly s (s.timeoutReported c k g np) := ⟨_, _, _, _, ho⟩
  unfold State.timedOut
  split
  · exact h.trans (keepAt_lane _ _ _ _)
  · exact h

theorem timedOut_fr : Fr (.col :: .ctx :: evParts) ([COL_TRUNK_FAULTS c, COL_RHZ_SAT c] ++ supKeys 1 ++ supKeys 3 ++ bookKeys) s
    (s.timedOut c k g np) := by
  have h := (timeoutReported_fr s c k g np).mono (qs := .col :: .ctx :: evParts) (by simp) (List.Subset.refl _)
  exact fr_ctx (fr_ite (h.trans ((keepAt_fr _ _ _ _).mono (by simp) (by simp))) h) (by simp) _

theorem timedOut_buf : (s.timedOut c k g np).laneBuf (matOf c g) k = 0 := laneBuf_setLaneBuf_self ..

theorem timedOut_restoring : (s.timedOut c k g np).col.restoring = s.col.restoring := by
  obtain ⟨o, ho⟩ := timeoutReported_col s c k g np
  have h : (s.timeoutReported c k g np).col.restoring = s.col.restoring := by rw [ho]
  unfold State.timedOut
  split <;> exact h

/-- The token that waits: the sender's own, unless the far end has one. -/
theorem timedOut_kept (hkept : s.keptAt (matOf c g) k = 0) : (s.timedOut c k g np).keptAt (matOf c g) k =
    if s.laneBuf (matOf c (1 - g)) k = 0 then s.laneBuf (matOf c g) k else 0 := by
  obtain ⟨o, ho⟩ := timeoutReported_col s c k g np
  have hsame : (s.timeoutReported c k g np).keptAt (matOf c g) k = s.keptAt (matOf c g) k := by
    unfold State.keptAt
    rw [ho]
  unfold State.timedOut
  by_cases hfar : s.laneBuf (matOf c (1 - g)) k = 0
  · rw [if_pos hfar]
    by_cases hb : s.laneBuf (matOf c g) k = 0
    · rw [if_neg (fun h => ((keepsToken_iff s c k g).mp h).1 hb), hb]
      exact hsame.trans hkept
    · rw [if_pos ((keepsToken_iff s c k g).mpr ⟨hb, hfar⟩)]
      exact keptAt_keepAt_self _ _ _ _
  · rw [if_neg hfar, if_neg (fun h => hfar ((keepsToken_iff s c k g).mp h).2)]
    exact hsame.trans hkept

theorem rd_timedOut (hc : c < 256) : ((s.timedOut c k g np).rd (COL_TRUNK_FAULTS c)).toNat =
    min 0xFFFFFFFF ((s.rd (COL_TRUNK_FAULTS c)).toNat + 1) := by
  obtain ⟨hlow, hhigh⟩ := trunkFaults_low hc
  have h : (s.timedOut c k g np).rd (COL_TRUNK_FAULTS c) = (s.timeoutReported c k g np).rd (COL_TRUNK_FAULTS c) := by
    unfold State.timedOut
    split <;> rfl
  rw [h, State.timeoutReported, (reportFault_fr ..).frame.reg _ (column_not_report hlow hhigh _)]
  exact rd_count _ _ _ (by simp only [COL_RHZ_SAT_TRUNK_FAULTS, COL_RHZ_SAT, COL_TRUNK_FAULTS]; omega) (by decide)

/-- The lane of a column is in service: its faults are closed, and the tokens that it kept are sent. -/
theorem laneSpared_inService (hnone : Tab.get none0 s.col.restoring (c * 256 + k) = none) (hin : s.laneOut c k = false) :
    s.laneSpared c k = (s.laneClosed c k).sendKept c k := by
  rw [laneSpared_eq, State.laneDecided, hnone]
  simp only [hin]
  rfl

end

theorem not_mem_laneKeys {c lane k : Nat} (h : 0x200000 ≤ k) (hlt : k < 0x300000) (hdis : k ≠ (laneDis c lane).reg) :
    k ∉ laneKeys c lane := fun hm => by
  simp only [laneKeys, List.mem_append, List.mem_singleton] at hm
  obtain ((hm | hm) | hm) | hm := hm
  · exact hdis hm
  · exact column_not_report h hlt 1 (List.mem_append_left _ hm)
  · exact column_not_report h hlt 3 (List.mem_append_left _ hm)
  · exact column_not_report h hlt 1 (List.mem_append_right _ hm)

theorem laneBuf_count (s : State) (c n q k : Nat) : (s.count (COL_TRUNK_FAULTS c) (COL_RHZ_SAT_TRUNK_FAULTS c) n).laneBuf q k =
    s.laneBuf q k := by
  have h : Fr [] [COL_TRUNK_FAULTS c, COL_RHZ_SAT c] s (s.count (COL_TRUNK_FAULTS c) (COL_RHZ_SAT_TRUNK_FAULTS c) n) :=
    fr_count (Fr.refl _ _ s) (by simp) (by simp [COL_RHZ_SAT_TRUNK_FAULTS]) n
  have hg := matG_lt q
  refine laneBuf_fr h (by simp) ?_ k
  simp only [COL_GATE_STATUS, COL_TRUNK_FAULTS, COL_RHZ_SAT, List.mem_cons, List.not_mem_nil, or_false]
  omega

section
variable (s : State) (c : ColId) (k : Fin 256) (g : Fin 2)

theorem trunkTimeout_eq (np : Bool) (failed : List (Fin 2 × Fin 66)) (hdis : s.flag (laneDis c.val k.val) = false)
    (hin : s.laneOut c.val k.val = false) (hdrives : s.drivesNow (matOf c.val g.val) k.val = true)
    (hphase : np = true ∨ s.laneBuf (matOf c.val g.val) k.val ≠ 0) :
    ∃ d, exec (.trunkTimeout c k g np failed) s =
      .next (((s.timedOut c.val k.val g.val np).failLane c.val k.val 1 d failed).laneSpared c.val k.val) := by
  have hguard : ¬ (s.flag (laneDis c.val k.val) = true ∨ s.laneOut c.val k.val = true ∨
      s.drivesNow (matOf c.val g.val) k.val = false ∨ (np = false ∧ s.laneBuf (matOf c.val g.val) k.val = 0)) := by
    simp only [hdis, hin, hdrives]
    rintro (h | h | h | ⟨h1, h2⟩)
    · cases h
    · cases h
    · cases h
    · obtain h | h := hphase
      · simp [h] at h1
      · exact h h2
  refine ⟨(s.timedOut c.val k.val g.val np).dependents c.val 1 (k.val / 16), ?_⟩
  change execTrunkTimeout c k g np failed s = _
  unfold execTrunkTimeout
  dsimp only
  rw [if_neg hguard, laneBuf_count]
  rfl

theorem trunkTimeout_row (np : Bool) (failed : List (Fin 2 × Fin 66)) (b : BitVec 2) (hdis : s.flag (laneDis c.val k.val) = false)
    (hin : s.laneOut c.val k.val = false) (hdrives : s.drivesNow (matOf c.val g.val) k.val = true)
    (hb : b = s.laneBuf (matOf c.val g.val) k.val) (hphase : np = true ∨ b ≠ 0) :
    ∃ t, exec (.trunkTimeout c k g np failed) s = .next t ∧
      (t.rd (COL_TRUNK_FAULTS c.val)).toNat = min 0xFFFFFFFF ((s.rd (COL_TRUNK_FAULTS c.val)).toNat + 1) ∧
      (∀ w ∈ failed, (lanePositions k.val).any (fun p => (s.rhz c.val (1 + w.1.val) (k.val / 16)).carries p w.2.val) = true →
        w.2.val ∈ (t.rhz c.val (1 + w.1.val) (k.val / 16)).failed) ∧
      (failed = [] → Tab.get code0 s.col.kept (matOf c.val g.val * 256 + k.val) = 0 →
        Tab.get none0 s.col.restoring (c.val * 256 + k.val) = none → t.flag (laneDis c.val k.val) = false ∧
        t.laneBuf (matOf c.val g.val) k.val = (if s.laneBuf (matOf c.val (1 - g.val)) k.val = 0 then b else 0) ∧
        Tab.get code0 t.col.kept (matOf c.val g.val * 256 + k.val) = 0 ∧
        Framed (.col :: .ctx :: evParts) ([COL_TRUNK_FAULTS c.val, COL_RHZ_SAT c.val] ++ supKeys 1 ++ supKeys 3 ++ bookKeys)
          s t) := by
  subst hb
  obtain ⟨d, hexec⟩ := trunkTimeout_eq s c k g np failed hdis hin hdrives hphase
  have hout := timedOut_lane s c.val k.val g.val np
  refine ⟨_, hexec, ?_, fun w hw hcarries => ?_, fun hnil hkept hnone => ?_⟩
  · obtain ⟨hlow, hhigh⟩ := trunkFaults_low c.isLt
    have hk := k.isLt
    rw [(laneSpared_fr _ c.val k.val).frame.reg _ (not_mem_laneKeys hlow hhigh ?_),
      (failLane_sparing _ c.val k.val 1 d failed).fr.frame.reg _ (not_mem_laneFailKeys _ _ hlow hhigh ?_ ?_ ?_),
      rd_timedOut s c.val k.val g.val np c.isLt]
    · unfold COL_RHZ_FAILS COL_TRUNK_FAULTS
      omega
    · unfold COL_RHZ_SAT COL_TRUNK_FAULTS
      omega
    · unfold COL_TRUNK_DIS COL_TRUNK_FAULTS
      omega
    · unfold laneDis COL_TRUNK_DIS COL_TRUNK_FAULTS
      dsimp only
      omega
  · rw [rhz_of_groups (laneSpared_lane _ c.val k.val).groups]
    refine failLane_failed _ c.val k.val 1 d failed w hw (.inr ?_)
    rw [rhz_of_groups hout.groups]
    exact hcarries
  · subst hnil
    have hspared : (s.timedOut c.val k.val g.val np).laneSpared c.val k.val =
        ((s.timedOut c.val k.val g.val np).laneClosed c.val k.val).sendKept c.val k.val :=
      laneSpared_inService _ _ _ (by rw [timedOut_restoring, hnone]) (by rw [laneOut_of_groups hout.groups, hin])
    have hclosed := laneClosed_fr (s.timedOut c.val k.val g.val np) c.val k.val
    have hlane := laneClosed_lane (s.timedOut c.val k.val g.val np) c.val k.val
    have hfr : Fr (.col :: .ctx :: evParts) ([COL_TRUNK_FAULTS c.val, COL_RHZ_SAT c.val] ++ supKeys 1 ++ supKeys 3 ++ bookKeys) s
        (((s.timedOut c.val k.val g.val np).laneClosed c.val k.val).sendKept c.val k.val) := by
      refine (timedOut_fr s c.val k.val g.val np).trans ((hclosed.mono (by simp) fun x hx => ?_).trans
        ((sendKept_fr _ c.val k.val).mono (by simp) (List.nil_subset _)))
      simp only [List.mem_append] at hx ⊢
      tauto
    have hbuf : ((s.timedOut c.val k.val g.val np).laneClosed c.val k.val).laneBuf (matOf c.val g.val) k.val = 0 := by
      obtain ⟨h1, h2⟩ := gateStatus_low (matOf c.val g.val)
      rw [laneBuf_fr hclosed (by decide), timedOut_buf]
      intro h
      obtain h | h := List.mem_append.mp h
      · have := supKeys_le h
        omega
      · have := supKeys_le h
        omega
    have hend := sendKept_end ((s.timedOut c.val k.val g.val np).laneClosed c.val k.val) c.val k.val
      (by rw [laneOut_of_groups hlane.groups, laneOut_of_groups hout.groups, hin]) g.isLt hbuf
    have hfinal : ((s.timedOut c.val k.val g.val np).failLane c.val k.val 1 d []).laneSpared c.val k.val =
        ((s.timedOut c.val k.val g.val np).laneClosed c.val k.val).sendKept c.val k.val := hspared
    have hkeeps : ((s.timedOut c.val k.val g.val np).laneClosed c.val k.val).keptAt (matOf c.val g.val) k.val =
        if s.laneBuf (matOf c.val (1 - g.val)) k.val = 0 then s.laneBuf (matOf c.val g.val) k.val else 0 :=
      timedOut_kept s c.val k.val g.val np hkept
    rw [hfinal]
    refine ⟨(hfr.flag ?_).trans hdis, hend.1.trans hkeeps, hend.2, hfr.frame⟩
    obtain ⟨hlow, hhigh⟩ := trunkDis_low c.isLt k.isLt
    simp only [List.mem_append, List.mem_cons, List.not_mem_nil, or_false, not_or]
    refine ⟨⟨⟨?_, fun h => ?_⟩, fun h => ?_⟩, fun h => ?_⟩
    · show COL_TRUNK_DIS c.val (k.val / 32) ≠ _ ∧ COL_TRUNK_DIS c.val (k.val / 32) ≠ _
      have hk := k.isLt
      unfold COL_TRUNK_DIS COL_TRUNK_FAULTS COL_RHZ_SAT
      omega
    · exact column_not_report hlow hhigh 1 (List.mem_append_left _ h)
    · exact column_not_report hlow hhigh 3 (List.mem_append_left _ h)
    · exact column_not_report hlow hhigh 1 (List.mem_append_right _ h)

/-! ### Contention (R106) -/

/-- A lane that is disabled for contention, before the report. -/
def State.contended (s : State) (c k : Nat) : State :=
  ((((s.setFlag (laneDis c k) true).count (COL_TRUNK_FAULTS c) (COL_RHZ_SAT_TRUNK_FAULTS c) 1).setLaneBuf (matOf c 0) k 0).setLaneBuf
    (matOf c 1) k 0)

omit c k g in
theorem rd_setLaneBuf (q lane : Nat) (v : BitVec 2) (r : Nat) : (s.setLaneBuf q lane v).rd r = s.rd r := rfl

theorem contended_regs : Fr [.ctx] [COL_TRUNK_FAULTS c.val, COL_RHZ_SAT c.val] (s.setFlag (laneDis c.val k.val) true)
    (s.contended c.val k.val) :=
  fr_ctx (fr_ctx (fr_count (Fr.refl _ _ _) (by simp) (by simp [COL_RHZ_SAT_TRUNK_FAULTS]) 1) (by simp) _) (by simp) _

theorem laneDis_not_counted (j : Nat) (hj : j < 256) : (laneDis c.val j).reg ∉ [COL_TRUNK_FAULTS c.val, COL_RHZ_SAT c.val] := by
  show COL_TRUNK_DIS c.val (j / 32) ∉ _
  simp only [COL_TRUNK_DIS, COL_TRUNK_FAULTS, COL_RHZ_SAT, List.mem_cons, List.not_mem_nil, or_false]
  omega

/-- Registers that a reported fault of a lane writes. -/
theorem lane_not_report (j : Nat) (hj : j < 256) (y : Nat) : (laneDis c.val j).reg ∉ supKeys y ++ bookKeys :=
  column_not_report (trunkDis_low c.isLt hj).1 (trunkDis_low c.isLt hj).2 y

theorem trunkContention_row (hdis : s.flag (laneDis c.val k.val) = false) :
    ∃ t, exec (.trunkContention c k g) s = .next t ∧ t.flag (laneDis c.val k.val) = true ∧
      (∀ j, j < 256 → j ≠ k.val → t.flag (laneDis c.val j) = s.flag (laneDis c.val j)) ∧
      (t.rd (COL_TRUNK_FAULTS c.val)).toNat = min 0xFFFFFFFF ((s.rd (COL_TRUNK_FAULTS c.val)).toNat + 1) ∧
      t.laneBuf (matOf c.val 0) k.val = 0 ∧ t.laneBuf (matOf c.val 1) k.val = 0 ∧
      Framed (.col :: .ctx :: evParts) ([(laneDis c.val k.val).reg, COL_TRUNK_FAULTS c.val, COL_RHZ_SAT c.val] ++ supKeys 1 ++
        supKeys 3 ++ bookKeys) s t := by
  obtain ⟨data, hexec⟩ : ∃ data, exec (.trunkContention c k g) s = .next ((s.contended c.val k.val).reportFault
      (if g.val = 0 then 1 else 3) c.val (.lane k.val) 0xC304 (srcTrunk c.val g.val) data) := by
    refine ⟨[(18, 1, k.val), (19, 1, (s.contended c.val k.val).activePair c.val), (20, 1, if g.val = 0 then 1 else 3)], ?_⟩
    change execTrunkContention c k g s = _
    unfold execTrunkContention
    dsimp only
    rw [if_neg (by simp [hdis])]
    rfl
  generalize hy : (if g.val = 0 then 1 else 3) = y at hexec
  have hsup : supKeys y ⊆ supKeys 1 ++ supKeys 3 := by
    split at hy <;> subst hy
    · exact List.subset_append_left _ _
    · exact List.subset_append_right _ _
  have hset : Fr [.ctx] [(laneDis c.val k.val).reg] s (s.setFlag (laneDis c.val k.val) true) :=
    fr_setFlag (Fr.refl _ _ s) (by simp) true
  have hreport := reportFault_fr (s.contended c.val k.val) y c.val (.lane k.val) 0xC304 (srcTrunk c.val g.val) data
  have hbuf : ∀ q, ((s.contended c.val k.val).reportFault y c.val (.lane k.val) 0xC304 (srcTrunk c.val g.val) data).laneBuf q k.val =
      (s.contended c.val k.val).laneBuf q k.val := fun q => by
    obtain ⟨h1, h2⟩ := gateStatus_low q
    exact laneBuf_fr hreport (by decide) (column_not_report (by omega) h2 y) k.val
  refine ⟨_, hexec, ?_, fun j hj hne => ?_, ?_, ?_, ?_, ?_⟩
  · rw [hreport.flag (lane_not_report c k.val k.isLt y), (contended_regs s c k).flag (laneDis_not_counted c k.val k.isLt),
      flag_setFlag_laneDis]
  · rw [hreport.flag (lane_not_report c j hj y), (contended_regs s c k).flag (laneDis_not_counted c j hj),
      flag_setFlag_laneDis_ne s c.val hne]
  · obtain ⟨hlow, hhigh⟩ := trunkFaults_low c.isLt
    rw [hreport.frame.reg _ (column_not_report hlow hhigh y)]
    have hrd : (s.setFlag (laneDis c.val k.val) true).rd (COL_TRUNK_FAULTS c.val) = s.rd (COL_TRUNK_FAULTS c.val) :=
      hset.frame.reg _ fun h => laneDis_not_counted c k.val k.isLt (by simp [← List.mem_singleton.mp h])
    rw [State.contended, rd_setLaneBuf, rd_setLaneBuf, ← hrd]
    exact rd_count _ _ _ (by simp only [COL_RHZ_SAT_TRUNK_FAULTS, COL_RHZ_SAT, COL_TRUNK_FAULTS]; omega) (by decide)
  · rw [hbuf]
    exact (laneBuf_setLaneBuf_ne _ (matOf_ne c.val) ..).trans (laneBuf_setLaneBuf_self ..)
  · rw [hbuf]
    exact laneBuf_setLaneBuf_self ..
  · refine (((hset.mono (by simp) fun x hx => ?_).trans ((contended_regs s c k).mono (by simp) fun x hx => ?_)).trans
      (hreport.mono (by simp) fun x hx => ?_)).frame
    · simp [List.mem_singleton.mp hx]
    · simp only [List.mem_append, List.mem_cons, List.not_mem_nil, or_false] at hx ⊢
      tauto
    · simp only [List.mem_append] at hx ⊢
      exact hx.elim (fun h => by have := List.mem_append.mp (hsup h); tauto) .inr

end

end Sys2Proof.Machine
end

section
/-! PROOF.  The re-test of a disabled lane, and the rows on rhizoids and lanes together (R97 to R107, R118). -/

namespace Sys2Proof.Machine

open Sys2Proof

/-! ### A lane that returns to service -/

section
variable (s : State) (c : ColId) (k : Fin 256) (g outcome : Nat)

/-- The flags of a column's lanes when one of them is back in service. -/
theorem flag_laneBack (j : Nat) (hj : j < 256) : (s.laneBack c.val k.val g outcome).flag (laneDis c.val j) =
    if j = k.val then false else s.flag (laneDis c.val j) := by
  have hbook : (laneDis c.val j).reg ∉ bookKeys := fun h => lane_not_report c j hj 1 (List.mem_append_right _ h)
  have hsup : (laneDis c.val j).reg ∉ supKeys 1 ++ supKeys 3 := fun h => (List.mem_append.mp h).elim
    (fun h => lane_not_report c j hj 1 (List.mem_append_left _ h)) (fun h => lane_not_report c j hj 3 (List.mem_append_left _ h))
  unfold State.laneBack
  rw [(raise_fr _ _ _ _).flag hbook, (laneClosed_fr _ _ _).flag hsup]
  split
  next h => rw [h, flag_setFlag_laneDis]
  next h =>
    rw [flag_setFlag_laneDis_ne _ _ h]
    rfl

theorem held_laneBack (m : Nat) : ((s.laneBack c.val k.val g outcome).ring m).held = (s.ring m).held :=
  raise_held _ _ _ _ m

theorem retests_laneBack : (s.laneBack c.val k.val g outcome).col.retests = s.col.retests := by
  unfold State.laneBack
  rw [raise_col]
  rfl

theorem laneBack_held : Held s (s.laneBack c.val k.val g outcome) :=
  held_fr (laneBack_fr s c.val k.val g outcome) (by decide) (held_laneBack s c k g outcome)

end

/-! ### The row (R107) -/

/-- What a re-test decides once the sounding of the lane is over. -/
def State.retested (u : State) (c k g : Nat) : Option (Fin 2) → State
  | some e => (u.wantReloc (matOf c e.val)).endRetest c k stHW_FAULT
  | none => if u.laneDead c k then u.endRetest c k stHW_FAULT
    else if u.laneOut c k then { u with col := { u.col with restoring := Tab.put none0 u.col.restoring (c * 256 + k) (some g) } }
    else u.restoreLane c k g 0

section
variable (s u : State) (c : ColId) (k : Fin 256) (g : Fin 2) (failed : List (Fin 2 × Fin 66)) (stray : Option (Fin 2))
  (hdis : s.flag (laneDis c.val k.val) = true) (hdead : s.laneDead c.val k.val = false)
  (hnone : Tab.get none0 s.col.restoring (c.val * 256 + k.val) = none)
  (hu : u = s.failLane c.val k.val 0 (s.dependents c.val 1 (k.val / 16)) failed)

include hdis hdead hnone hu in
theorem laneRetest_eq : exec (.laneRetest c k g failed stray) s = .next (u.retested c.val k.val g.val
    (stray.filter (fun e => !u.drivesNow (matOf c.val e.val) k.val))) := by
  subst hu
  change execLaneRetest c k g failed stray s = _
  unfold execLaneRetest
  dsimp only
  rw [if_neg (by simp [hdis, hdead, hnone])]
  cases Option.filter (fun e : Fin 2 => !(s.failLane c.val k.val 0 (s.dependents c.val 1 (k.val / 16)) failed).drivesNow
    (matOf c.val e.val) k.val) stray with
  | some e => rfl
  | none =>
    unfold State.retested
    dsimp only
    split
    · rfl
    · split <;> rfl

include hu

theorem retest_sparing : Sparing (laneFailKeys c.val k.val) s u := hu ▸ failLane_sparing s c.val k.val 0 _ failed

theorem retest_drives (q : Nat) : u.drivesNow q k.val = s.drivesNow q k.val := by
  have h := retest_sparing s u c k failed hu
  have hown : u.col.own = s.col.own := congrArg (fun v => v.2.2.2.2.2) h.view
  exact drivesNow_fr h.fr hown (gateStatus_not_laneFail k.isLt) q k.val

theorem retest_held : Held s u :=
  have h := retest_sparing s u c k failed hu
  held_fr h.fr (by decide) h.held

theorem retest_retests : u.col.retests = s.col.retests := congrArg Prod.fst (retest_sparing s u c k failed hu).view

include hdis hdead hnone

theorem laneRetest_drives (hstray : ∀ e, stray = some e → s.drivesNow (matOf c.val e.val) k.val = true) :
    exec (.laneRetest c k g failed stray) s = .next (u.retested c.val k.val g.val none) := by
  rw [laneRetest_eq s u c k g failed stray hdis hdead hnone hu, Option.filter_eq_none_iff.mpr]
  intro e he
  rw [retest_drives s u c k failed hu, hstray e he]
  decide

theorem laneRetest_back (hstray : ∀ e, stray = some e → s.drivesNow (matOf c.val e.val) k.val = true)
    (hlive : u.laneDead c.val k.val = false) (hin : u.laneOut c.val k.val = false) :
    ∃ t, exec (.laneRetest c k g failed stray) s = .next t ∧ t.flag (laneDis c.val k.val) = false ∧
      (∀ j, j < 256 → j ≠ k.val → t.flag (laneDis c.val j) = u.flag (laneDis c.val j)) ∧
      (∀ r, s.col.retests.find? (fun e => decide (e.1 = c.val * 256 + k.val)) = some r → Ended s t r.2 stOK 0) ∧
      (s.col.retests = [] → Framed (.col :: evParts) ([(laneDis c.val k.val).reg] ++ supKeys 1 ++ supKeys 3 ++ bookKeys) u t) := by
  have hflag : ∀ j, j < 256 → (u.restoreLane c.val k.val g.val 0).flag (laneDis c.val j) =
      if j = k.val then false else u.flag (laneDis c.val j) := fun j hj => by
    rw [restoreLane_eq, (endRetest_fr _ _ _ _).flag fun h => lane_not_report c j hj 1 (List.mem_append_right _ h),
      flag_laneBack u c k g.val 0 j hj]
  have hexec : exec (.laneRetest c k g failed stray) s = .next (u.restoreLane c.val k.val g.val 0) := by
    rw [laneRetest_drives s u c k g failed stray hdis hdead hnone hu hstray, State.retested, if_neg (by simp [hlive]),
      if_neg (by simp [hin])]
  refine ⟨_, hexec, ?_, fun j hj hne => ?_, fun r hr => ?_, fun hempty => ?_⟩
  · rw [hflag k.val k.isLt, if_pos rfl]
  · rw [hflag j hj, if_neg hne]
  · rw [restoreLane_eq]
    refine ended_endRetest ((retest_held s u c k failed hu).trans (laneBack_held u c k g.val 0)) _ _ _ ?_
    rw [retests_laneBack, retest_retests s u c k failed hu, hr]
  · rw [restoreLane_eq, endRetest_none (by rw [retests_laneBack, retest_retests s u c k failed hu, hempty])]
    exact (laneBack_fr u c.val k.val g.val 0).frame

theorem laneRetest_waits (hstray : ∀ e, stray = some e → s.drivesNow (matOf c.val e.val) k.val = true)
    (hlive : u.laneDead c.val k.val = false) (hout : u.laneOut c.val k.val = true) :
    ∃ t, exec (.laneRetest c k g failed stray) s = .next t ∧
      Tab.get none0 t.col.restoring (c.val * 256 + k.val) = some g.val ∧ Framed [.col] [] u t := by
  refine ⟨_, laneRetest_drives s u c k g failed stray hdis hdead hnone hu hstray, ?_⟩
  rw [State.retested, if_neg (by simp [hlive]), if_pos hout]
  exact ⟨(Tab.get_put_self none0 u.col.restoring (c.val * 256 + k.val) (some g.val) :), (fr_col (Fr.refl _ _ u) (by simp) _).frame⟩

theorem laneRetest_dead (hstray : ∀ e, stray = some e → s.drivesNow (matOf c.val e.val) k.val = true)
    (hdead' : u.laneDead c.val k.val = true) :
    ∃ t, exec (.laneRetest c k g failed stray) s = .next t ∧ t.flag (laneDis c.val k.val) = u.flag (laneDis c.val k.val) ∧
      (∀ r, s.col.retests.find? (fun e => decide (e.1 = c.val * 256 + k.val)) = some r → Ended s t r.2 stHW_FAULT 0) := by
  refine ⟨_, laneRetest_drives s u c k g failed stray hdis hdead hnone hu hstray, ?_⟩
  rw [State.retested, if_pos hdead']
  refine ⟨(endRetest_fr u _ _ _).flag fun h => lane_not_report c k.val k.isLt 1 (List.mem_append_right _ h), fun r hr => ?_⟩
  exact ended_endRetest (retest_held s u c k failed hu) _ _ _ (by rw [retest_retests s u c k failed hu, hr])

theorem laneRetest_stray (e : Fin 2) (hstray : stray = some e) (hdrives : s.drivesNow (matOf c.val e.val) k.val = false) :
    ∃ t, exec (.laneRetest c k g failed stray) s = .next t ∧ matOf c.val e.val ∈ t.mnt.wanted ∧
      t.flag (laneDis c.val k.val) = u.flag (laneDis c.val k.val) ∧
      (∀ r, s.col.retests.find? (fun e => decide (e.1 = c.val * 256 + k.val)) = some r → Ended s t r.2 stHW_FAULT 0) := by
  have hwant := wantReloc_fr u (matOf c.val e.val)
  have hend := endRetest_fr (u.wantReloc (matOf c.val e.val)) c.val k.val stHW_FAULT
  have hexec : exec (.laneRetest c k g failed stray) s =
      .next ((u.wantReloc (matOf c.val e.val)).endRetest c.val k.val stHW_FAULT) := by
    rw [laneRetest_eq s u c k g failed stray hdis hdead hnone hu, hstray, Option.filter_some_pos]
    · rfl
    · rw [retest_drives s u c k failed hu, hdrives]
      rfl
  refine ⟨_, hexec, ?_, ?_, fun r hr => ?_⟩
  · rw [hend.wanted (by decide)]
    exact mem_wanted_wantReloc ..
  · rw [hend.flag fun h => lane_not_report c k.val k.isLt 1 (List.mem_append_right _ h), hwant.flag (by simp)]
  · refine ended_endRetest ((retest_held s u c k failed hu).trans (held_fr hwant (by decide) (held_of_fr hwant (by decide)))) _ _ _ ?_
    exact (congrArg _ (retest_retests s u c k failed hu)).trans hr

end

/-- Settles O38: soundings note, take away and fail a rhizoid; a spare swap takes the lowest spare that passes, or exhausts the
group; and a trunk lane's tokens, faults and re-tests follow its rhizoids'. -/
theorem rhizoidsAndLanesComplete : Obligations.RhizoidsAndLanesComplete := by
  refine ⟨fun s c i g x quiet pass r => soundingStep_row s c i g x quiet pass r,
    fun s c i g x quiet pass => soundingStep_idle s c i g x quiet pass, soundMiss_row,
    fun s c i g p ok0 ok1 a r ha hr => ⟨spareSwap_first s c i g p ok0 ok1 a r ha hr, spareSwap_second s c i g p ok0 ok1 a r ha hr,
      spareSwap_exhausts s c i g p ok0 ok1 a r ha hr⟩,
    fun s c k g np failed b hdis hin hdrives hb hphase => trunkTimeout_row s c k g np failed b hdis hin hdrives hb hphase,
    fun s c k g hdis => trunkContention_row s c k g hdis, fun s u c k g failed stray hdis hdead hnone hu => ?_⟩
  refine ⟨fun h => by rw [hu, h]; rfl, fun hstray => ⟨?_, ?_, ?_⟩, ?_⟩
  · exact laneRetest_back s u c k g failed stray hdis hdead hnone hu hstray
  · exact laneRetest_waits s u c k g failed stray hdis hdead hnone hu hstray
  · exact laneRetest_dead s u c k g failed stray hdis hdead hnone hu hstray
  · exact laneRetest_stray s u c k g failed stray hdis hdead hnone hu

end Sys2Proof.Machine
end

section
/-! PROOF.  Words of an AX stream: the first one, those that follow, a last one that fails a check, and truncation (R157 to
R160). -/

namespace Sys2Proof.Machine

open Sys2Proof

/-! ### The instances -/

section
variable (s : State) (n : Nat)

theorem axAt_setAx_self (x : Ax) : (s.setAx n x).axAt n = x := Tab.get_put_self ax0 s.ctx.ax n x

theorem axAt_setAx_ne {m : Nat} (h : m ≠ n) (x : Ax) : (s.setAx n x).axAt m = s.axAt m := Tab.get_put_ne ax0 s.ctx.ax h x

theorem fr_setAx {ps : List Part} {ks : List Nat} {s0 s : State} (h : Fr ps ks s0 s) (hp : Part.ctx ∈ ps) (n : Nat) (x : Ax) :
    Fr ps ks s0 (s.setAx n x) := fr_ctx h hp _

theorem axAt_fr {ps : List Part} {ks : List Nat} {s t : State} (h : Fr ps ks s t) (hp : Part.ctx ∉ ps) (m : Nat) :
    t.axAt m = s.axAt m := by
  have hctx : t.ctx = s.ctx := h.frame.part .ctx hp
  unfold State.axAt
  rw [hctx]

theorem axStatus_fields :
    fldsApart (CFG_AX_STATUS_STATE n) (CFG_AX_STATUS_LAST_STATUS n) = true ∧
      fldsApart (CFG_AX_STATUS_LAST_STATUS n) (CFG_AX_STATUS_STATE n) = true := by
  constructor <;> exact (fldsApart_iff _ _).mpr (by simp [CFG_AX_STATUS_STATE, CFG_AX_STATUS_LAST_STATUS])

/-! ### The return of a status (R159) -/

theorem get_emit (o : Out) (f : Fld) : (s.emit o).get f = s.get f := rfl

theorem axReturn_eq (status : Nat) : s.axReturn n status =
    (((s.setAx n { s.axAt n with words := [], rejecting := false }).set (CFG_AX_STATUS_STATE n) 0).set
      (CFG_AX_STATUS_LAST_STATUS n) status).emit (.token (s.physMat (s.axAt n).hostMat) (.ax n) status) := rfl

theorem axReturn_fr (status : Nat) : Fr [.ctx, .out] [CFG_AX_STATUS n] s (s.axReturn n status) := by
  have h : Fr [.ctx, .out] [CFG_AX_STATUS n] s (s.setAx n { s.axAt n with words := [], rejecting := false }) :=
    fr_setAx (Fr.refl _ _ s) (by simp) _ _
  have hset := fr_set (f := CFG_AX_STATUS_LAST_STATUS n) (fr_set (f := CFG_AX_STATUS_STATE n) h (by simp [CFG_AX_STATUS_STATE]) 0)
    (by simp [CFG_AX_STATUS_LAST_STATUS]) status
  exact emit_fr hset (by simp) _

theorem axReturn_words (status : Nat) : ((s.axReturn n status).axAt n).words = [] := congrArg Ax.words
  (axAt_setAx_self s n { s.axAt n with words := [], rejecting := false })

theorem axReturn_out (status : Nat) :
    (s.axReturn n status).out = s.out ++ [Out.token (s.physMat (s.axAt n).hostMat) (.ax n) status] := rfl

theorem axReturn_state (status : Nat) : (s.axReturn n status).get (CFG_AX_STATUS_STATE n) = 0 := by
  rw [axReturn_eq, get_emit, State.get_set_apart _ (axStatus_fields n).2, State.get_set_self _ _ (by simp [CFG_AX_STATUS_STATE])]
  rfl

theorem axReturn_last {status : Nat} (h : status < 256) : (s.axReturn n status).get (CFG_AX_STATUS_LAST_STATUS n) = status := by
  rw [axReturn_eq, get_emit, State.get_set_self _ _ (by simp [CFG_AX_STATUS_LAST_STATUS])]
  exact Nat.mod_eq_of_lt h

theorem axReject_eq (status : Nat) : ∃ data, s.axReject n status = (s.raise 0x8406 srcConfig data).axReturn n status := ⟨_, rfl⟩

/-- A stream that is rejected: its words are gone, the port is idle, and the status is returned to its host mat. -/
structure Rejected (s t : State) (n status : Nat) : Prop where
  words : (t.axAt n).words = []
  state : t.get (CFG_AX_STATUS_STATE n) = 0
  last : t.get (CFG_AX_STATUS_LAST_STATUS n) = status
  answer : Out.token (s.physMat (s.axAt n).hostMat) (.ax n) status ∈ t.out.drop s.out.length
  fr : Fr (.ctx :: evParts) (CFG_AX_STATUS n :: bookKeys) s t

theorem axReject_rejected {status : Nat} (h : status < 256) : Rejected s (s.axReject n status) n status := by
  obtain ⟨data, hdata⟩ := axReject_eq s n status
  rw [hdata]
  have hraise := raise_fr s 0x8406 srcConfig data
  have hmap : (s.raise 0x8406 srcConfig data).physMat (s.axAt n).hostMat = s.physMat (s.axAt n).hostMat := by
    unfold State.physMat
    rw [(raise_books 0x8406 srcConfig data (Books.refl s)).mnt_matMap]
  refine ⟨axReturn_words _ n status, axReturn_state _ n status, axReturn_last _ n h, ?_, ?_⟩
  · obtain ⟨l, hl⟩ := hraise.keeps.out
    rw [axReturn_out, axAt_fr hraise (by decide), hmap, ← hl, List.append_assoc, List.drop_left]
    exact List.mem_append_right _ (List.mem_singleton_self _)
  · exact (hraise.mono (by simp) (by simp)).trans ((axReturn_fr _ n status).mono (by simp [evParts]) (by simp))

end

/-! ### The first word -/

theorem axStreamWord_idle (s : State) (n : Fin 4) (w : BitVec 32) (ok : Bool) (hen : s.flag (CFG_AX_STATUS_EN n.val) = true)
    (hst : s.get (CFG_AX_STATUS_STATE n.val) ≤ 1) (hw : (s.axAt n.val).words = []) :
    exec (.axStreamWord n w ok) s = .next (s.axBegin n.val w) := by
  change execAxStreamWord n w ok s = _
  unfold execAxStreamWord
  dsimp only
  rw [if_neg (by simp [hen]), if_neg (by omega), if_pos hw]

theorem unstage_state (s : State) : s.unstage.get CFG_STAGE_STATE = 0 := by
  show (((s.set CFG_STAGE_STATE 0).set CFG_STAGE_KIND 0).wr CFG_STAGE_BYTES 0).get CFG_STAGE_STATE = 0
  have h : ∀ u : State, (u.wr CFG_STAGE_BYTES 0).get CFG_STAGE_STATE = u.get CFG_STAGE_STATE := fun u => by
    unfold State.get
    rw [State.rd_wr_ne u (by decide)]
  rw [h, State.get_set_apart _ (by decide), State.get_set_self _ _ (by decide)]
  rfl

theorem unstage_fr (s : State) : Fr [.img] [CFG_STAGE, CFG_STAGE_BYTES] s s.unstage := by
  have h : Fr [.img] [CFG_STAGE, CFG_STAGE_BYTES] s (((s.set CFG_STAGE_STATE 0).set CFG_STAGE_KIND 0).wr CFG_STAGE_BYTES 0) :=
    fr_wr (fr_set (fr_set (Fr.refl _ _ s) (by decide) _) (by decide) _) (by decide) _
  exact fr_mk h (State.unstage_keeps (Keeps.refl s)) rfl

/-- The staging buffer as a stream claims it: an image or pack that waits there is dropped. -/
def State.axClaimed (s : State) (stage : Nat) : State := if stage = 3 then s.unstage else s

theorem axClaimed_fr (s : State) (stage : Nat) : Fr [.img] [CFG_STAGE, CFG_STAGE_BYTES] s (s.axClaimed stage) :=
  fr_ite (unstage_fr s) (Fr.refl _ _ s)

theorem axClaimed_state (s : State) (stage : Nat) (h : s.get CFG_STAGE_STATE = 0 ∨ stage = 3) :
    (s.axClaimed stage).get CFG_STAGE_STATE = 0 := by
  unfold State.axClaimed
  split
  · exact unstage_state s
  next hn => exact h.resolve_right hn

theorem get_setAx (s : State) (n : Nat) (x : Ax) (f : Fld) : (s.setAx n x).get f = s.get f := rfl

section
variable (n : Nat)

theorem axWords_apart : fldsApart (CFG_AX_WORDS_WORDS n) CFG_STAGE_STATE = true := by
  refine (fldsApart_iff _ _).mpr (.inl ?_)
  simp only [CFG_AX_WORDS_WORDS, CFG_AX_WORDS, CFG_STAGE_STATE, CFG_STAGE]
  omega

theorem axStatus_words : fldsApart (CFG_AX_STATUS_STATE n) (CFG_AX_WORDS_WORDS n) = true := by
  refine (fldsApart_iff _ _).mpr (.inl ?_)
  simp only [CFG_AX_WORDS_WORDS, CFG_AX_WORDS, CFG_AX_STATUS_STATE, CFG_AX_STATUS]
  omega

theorem axStatus_stage : fldsApart (CFG_AX_STATUS_STATE n) CFG_STAGE_STATE = true := by
  refine (fldsApart_iff _ _).mpr (.inl ?_)
  simp only [CFG_AX_STATUS_STATE, CFG_AX_STATUS, CFG_STAGE_STATE, CFG_STAGE]
  omega

theorem axBegin_claims (s : State)
    (h : ¬ ((s.get CFG_STAGE_STATE ≠ 0 ∧ s.get CFG_STAGE_STATE ≠ 3) ∨ s.mnt.fwStaged.isSome = true)) :
    s.axBegin n 0x5A3C0E71#32 = ((((s.set (CFG_AX_WORDS_WORDS n) 1).axClaimed (s.get CFG_STAGE_STATE)).set
      (CFG_AX_STATUS_STATE n) 1).setAx n { ((s.set (CFG_AX_WORDS_WORDS n) 1).axClaimed (s.get CFG_STAGE_STATE)).axAt n with
        words := [0x5A3C0E71#32], rejecting := false,
        wordAt := ((s.set (CFG_AX_WORDS_WORDS n) 1).axClaimed (s.get CFG_STAGE_STATE)).time }) := by
  have h' : ¬ ((s.get CFG_STAGE_STATE ≠ 0 ∧ s.get CFG_STAGE_STATE ≠ 3) ∨
      (s.set (CFG_AX_WORDS_WORDS n) 1).mnt.fwStaged.isSome = true) := h
  unfold State.axBegin
  dsimp only
  rw [if_neg h', if_neg (by simp)]
  rfl

end

theorem axBegin_row (s : State) (n : Fin 4) (ok : Bool) (hen : s.flag (CFG_AX_STATUS_EN n.val) = true)
    (hst : s.get (CFG_AX_STATUS_STATE n.val) ≤ 1) (hw : (s.axAt n.val).words = [])
    (hstage : s.get CFG_STAGE_STATE = 0 ∨ s.get CFG_STAGE_STATE = 3) (hfw : s.mnt.fwStaged = none) :
    ∃ t, exec (.axStreamWord n 0x5A3C0E71#32 ok) s = .next t ∧ (t.axAt n.val).words = [0x5A3C0E71#32] ∧
      t.get (CFG_AX_STATUS_STATE n.val) = 1 ∧ t.get (CFG_AX_WORDS_WORDS n.val) = 1 ∧ t.get CFG_STAGE_STATE = 0 ∧
      (∀ m, m ≠ n.val → t.axAt m = s.axAt m) ∧
      Framed [.ctx, .img] [CFG_AX_STATUS n.val, CFG_AX_WORDS n.val, CFG_STAGE, CFG_STAGE_BYTES] s t := by
  have hbusy : ¬ ((s.get CFG_STAGE_STATE ≠ 0 ∧ s.get CFG_STAGE_STATE ≠ 3) ∨ s.mnt.fwStaged.isSome = true) := by
    rw [hfw]
    rintro (⟨h0, h3⟩ | h)
    · exact hstage.elim h0 h3
    · cases h
  rw [axStreamWord_idle s n _ ok hen hst hw, axBegin_claims n.val s hbusy]
  have hcount : Fr [.ctx, .img] [CFG_AX_STATUS n.val, CFG_AX_WORDS n.val, CFG_STAGE, CFG_STAGE_BYTES] s
      (s.set (CFG_AX_WORDS_WORDS n.val) 1) := fr_set (Fr.refl _ _ s) (by simp [CFG_AX_WORDS_WORDS]) 1
  have hclaim := axClaimed_fr (s.set (CFG_AX_WORDS_WORDS n.val) 1) (s.get CFG_STAGE_STATE)
  generalize hu : (s.set (CFG_AX_WORDS_WORDS n.val) 1).axClaimed (s.get CFG_STAGE_STATE) = u at hclaim
  have hax : ∀ m, u.axAt m = s.axAt m := fun m => axAt_fr hclaim (by decide) m
  have hstageU : u.get CFG_STAGE_STATE = 0 := by
    rw [← hu]
    exact axClaimed_state _ _ (hstage.imp_left (State.get_set_apart s (axWords_apart n.val) 1).trans)
  have hwords : u.get (CFG_AX_WORDS_WORDS n.val) = 1 := by
    rw [hclaim.get (by simp [CFG_AX_WORDS_WORDS, CFG_AX_WORDS, CFG_STAGE, CFG_STAGE_BYTES]; omega),
      State.get_set_self _ _ (by simp [CFG_AX_WORDS_WORDS])]
    rfl
  have hset : Fr [.ctx, .img] [CFG_AX_STATUS n.val, CFG_AX_WORDS n.val, CFG_STAGE, CFG_STAGE_BYTES] u
      (u.set (CFG_AX_STATUS_STATE n.val) 1) := fr_set (Fr.refl _ _ u) (by simp [CFG_AX_STATUS_STATE]) 1
  refine ⟨_, rfl, ?_, ?_, ?_, ?_, fun m hm => ?_, ?_⟩
  · rw [axAt_setAx_self]
  · rw [get_setAx, State.get_set_self _ _ (by simp [CFG_AX_STATUS_STATE])]
    rfl
  · rw [get_setAx, State.get_set_apart _ (axStatus_words n.val), hwords]
  · rw [get_setAx, State.get_set_apart _ (axStatus_stage n.val), hstageU]
  · rw [axAt_setAx_ne _ _ hm]
    exact hax m
  · exact (hcount.trans ((hclaim.mono (by simp) (by simp)).trans (fr_setAx hset (by simp) _ _))).frame

/-! ### The words that follow -/

section
variable (s : State) (n : Fin 4) (w : BitVec 32) (ok : Bool) (ws : List (BitVec 32))
  (hen : s.flag (CFG_AX_STATUS_EN n.val) = true) (hst : s.get (CFG_AX_STATUS_STATE n.val) ≤ 1) (hws : (s.axAt n.val).words = ws)

/-- A word of a stream has been taken into the staging buffer. -/
def State.axKept (s : State) (n : Nat) (ws : List (BitVec 32)) : State :=
  (s.set (CFG_AX_WORDS_WORDS n) ws.length).setAx n { s.axAt n with words := ws, wordAt := s.time }

theorem axKept_fr (n : Nat) : Fr [.ctx] [CFG_AX_WORDS n] s (s.axKept n ws) :=
  fr_setAx (fr_set (Fr.refl _ _ s) (by simp [CFG_AX_WORDS_WORDS]) _) (by simp) _ _

theorem axAt_axKept (n : Nat) : (s.axKept n ws).axAt n = { s.axAt n with words := ws, wordAt := s.time } := axAt_setAx_self ..

include hen hst hws

theorem axStreamWord_more (hne : ws ≠ []) (hlen : ws.length = 1 → 83 ≤ w.toNat ∧ w.toNat ≤ 2097152) :
    exec (.axStreamWord n w ok) s = .next (if (ws ++ [w]).length < axCount (ws ++ [w]) then s.axKept n.val (ws ++ [w])
      else (s.axKept n.val (ws ++ [w])).axComplete n.val ok) := by
  subst hws
  change execAxStreamWord n w ok s = _
  unfold execAxStreamWord
  dsimp only
  rw [if_neg (by simp [hen]), if_neg (by omega), if_neg hne, if_neg]
  · exact (apply_ite Host.Outcome.next _ _ _).symm
  · rintro ⟨h2, hout⟩
    rw [List.length_append, List.length_singleton] at h2
    have := hlen (by omega)
    omega

theorem axKept_row (hne : ws ≠ []) (hshort : ws.length = 1 → 83 ≤ w.toNat) (hmore : ws.length + 1 < axCount (ws ++ [w]))
    (hmax : axCount (ws ++ [w]) ≤ 2097152) :
    ∃ t, exec (.axStreamWord n w ok) s = .next t ∧ (t.axAt n.val).words = ws ++ [w] ∧
      t.get (CFG_AX_WORDS_WORDS n.val) = ws.length + 1 ∧ (∀ m, m ≠ n.val → t.axAt m = s.axAt m) ∧
      Framed [.ctx] [CFG_AX_WORDS n.val] s t := by
  have hlen : ws.length = 1 → 83 ≤ w.toNat ∧ w.toNat ≤ 2097152 := fun h => by
    obtain ⟨v, rfl⟩ := List.length_eq_one_iff.mp h
    exact ⟨hshort h, hmax⟩
  have hcount : (ws ++ [w]).length = ws.length + 1 := by simp
  rw [axStreamWord_more s n w ok ws hen hst hws hne hlen, if_pos (by rw [hcount]; exact hmore)]
  refine ⟨_, rfl, by rw [axAt_axKept], ?_, fun m hm => axAt_setAx_ne _ _ hm _, (axKept_fr s _ _).frame⟩
  rw [State.axKept, get_setAx, State.get_set_self _ _ (by simp [CFG_AX_WORDS_WORDS]), hcount]
  exact Nat.mod_eq_of_lt (show ws.length + 1 < 4194304 by omega)

omit hen hst hws in
theorem axCheck_lt (x : Ax) (ws : List (BitVec 32)) (ok : Bool) : axCheck x ws ok < 256 := by
  unfold axCheck
  repeat' split
  all_goals decide

/-- The last word of a stream, after which a check fails. -/
theorem axRejected_row (h2 : 2 ≤ ws.length) (hlast : ws.length + 1 = axCount ws)
    (hcheck : axCheck (s.axAt n.val) (ws ++ [w]) ok ≠ stOK) :
    ∃ t, exec (.axStreamWord n w ok) s = .next t ∧ (t.axAt n.val).words = [] ∧ t.get (CFG_AX_STATUS_STATE n.val) = 0 ∧
      t.get (CFG_AX_STATUS_LAST_STATUS n.val) = axCheck (s.axAt n.val) (ws ++ [w]) ok ∧
      Out.token (s.physMat (s.axAt n.val).hostMat) (.ax n.val) (axCheck (s.axAt n.val) (ws ++ [w]) ok) ∈
        t.out.drop s.out.length ∧
      Framed (.ctx :: evParts) (CFG_AX_STATUS n.val :: CFG_AX_WORDS n.val :: bookKeys) s t := by
  have hne : ws ≠ [] := by
    rintro rfl
    simp at h2
  have hdone : ¬ (ws ++ [w]).length < axCount (ws ++ [w]) := by
    have hsame : axCount (ws ++ [w]) = axCount ws := by
      unfold axCount
      rw [List.getD_append _ _ _ _ (by omega)]
    rw [hsame, List.length_append, List.length_singleton]
    omega
  have hx := axAt_axKept s (ws ++ [w]) n.val
  have hchecked : axCheck ((s.axKept n.val (ws ++ [w])).axAt n.val) ((s.axKept n.val (ws ++ [w])).axAt n.val).words ok =
      axCheck (s.axAt n.val) (ws ++ [w]) ok := by
    rw [hx]
    rfl
  have hcomplete : (s.axKept n.val (ws ++ [w])).axComplete n.val ok =
      (s.axKept n.val (ws ++ [w])).axReject n.val (axCheck (s.axAt n.val) (ws ++ [w]) ok) := by
    unfold State.axComplete
    dsimp only
    rw [hchecked, if_pos hcheck]
  rw [axStreamWord_more s n w ok ws hen hst hws hne (fun h => by omega), if_neg hdone, hcomplete]
  obtain ⟨hwords, hstate, hlast, hanswer, hfr⟩ :=
    axReject_rejected (s.axKept n.val (ws ++ [w])) n.val (axCheck_lt (s.axAt n.val) (ws ++ [w]) ok)
  have hhost : ((s.axKept n.val (ws ++ [w])).axAt n.val).hostMat = (s.axAt n.val).hostMat := by rw [hx]
  rw [hhost] at hanswer
  refine ⟨_, rfl, hwords, hstate, hlast, hanswer, ?_⟩
  exact ((axKept_fr s (ws ++ [w]) n.val).mono (by simp) (by simp)).frame.trans (hfr.mono (by simp) fun k hk => by
    obtain rfl | hk := List.mem_cons.mp hk
    · simp
    · exact List.mem_cons_of_mem _ (List.mem_cons_of_mem _ hk)).frame

end

theorem axTruncated_row (s : State) (n : Fin 4) (hst : s.get (CFG_AX_STATUS_STATE n.val) = 1) (hne : (s.axAt n.val).words ≠ [])
    (hlate : s.elapsed (s.axAt n.val).wordAt 1000000 = true) :
    ∃ t, exec (.axTruncated n) s = .next t ∧ (t.axAt n.val).words = [] ∧ t.get (CFG_AX_STATUS_STATE n.val) = 0 ∧
      t.get (CFG_AX_STATUS_LAST_STATUS n.val) = stTRUNCATED ∧
      Out.token (s.physMat (s.axAt n.val).hostMat) (.ax n.val) stTRUNCATED ∈ t.out.drop s.out.length ∧
      Framed (.ctx :: evParts) (CFG_AX_STATUS n.val :: bookKeys) s t := by
  have hexec : exec (.axTruncated n) s = .next (s.axReject n.val stTRUNCATED) := by
    change execAxTruncated n s = _
    unfold execAxTruncated
    dsimp only
    rw [if_pos ⟨hst, hne, hlate⟩]
  obtain ⟨hwords, hstate, hlast, hanswer, hfr⟩ := axReject_rejected s n.val (status := stTRUNCATED) (by decide)
  exact ⟨_, hexec, hwords, hstate, hlast, hanswer, hfr.frame⟩

end Sys2Proof.Machine
end

section
/-! SUPPORT.  What the rules and stations of a pack, laid when its last entry has been written, leave alone: the contexts and the
library, the staging buffer, and the commands and completions of the host (R222 to R241, R373). -/

namespace Sys2Proof.Machine

open Sys2Proof

/-- The parts of a state that tracks and tallies have no hand in. -/
def State.packView (s : State) : CtxState × ImgState × List Cmd × (Nat → List Compl) :=
  (s.ctx, s.img, s.host.cmds, fun m => (s.ring m).held)

section
variable (s : State)

theorem packView_fr {ps : List Part} {ks : List Nat} {s t : State} (h : Fr ps ks s t) (hctx : Part.ctx ∉ ps) (himg : Part.img ∉ ps)
    (hcmds : Part.cmds ∉ ps) (hheld : ∀ m, (t.ring m).held = (s.ring m).held) : t.packView = s.packView :=
  Prod.ext (h.frame.part .ctx hctx) (Prod.ext (h.frame.part .img himg) (Prod.ext (h.frame.part .cmds hcmds) (funext hheld)))

theorem packView_ite {t u v : State} {c : Prop} [Decidable c] (h1 : t.packView = v.packView) (h2 : u.packView = v.packView) :
    (if c then t else u).packView = v.packView := by
  split
  · exact h1
  · exact h2

theorem packView_foldl {α : Type} {f : State → α → State} (hf : ∀ t a, (f t a).packView = t.packView) (l : List α) :
    (l.foldl f s).packView = s.packView := by
  induction l generalizing s with
  | nil => rfl
  | cons a l ih => exact (ih _).trans (hf s a)

theorem packView_wr (k : Nat) (v : Reg) : (s.wr k v).packView = s.packView := rfl

theorem packView_tal (x : TalState) : ({ s with tal := x } : State).packView = s.packView := rfl

theorem packView_count (k : Nat) (f : Fld) (n : Nat) : (s.count k f n).packView = s.packView := by
  have h : Fr [] [k, f.reg] s (s.count k f n) := fr_count (Fr.refl _ _ s) (by simp) (by simp) n
  exact packView_fr h (by simp) (by simp) (by simp) (held_of_fr h (by simp))

theorem packView_raise (code src : Nat) (data : List (Nat × Nat × Nat)) : (s.raise code src data).packView = s.packView :=
  packView_fr (raise_fr s code src data) (by decide) (by decide) (by decide) (raise_held s code src data)

theorem packView_raiseLim (code src : Nat) (data : List (Nat × Nat × Nat)) : (s.raiseLim code src data).packView = s.packView :=
  packView_fr (raiseLim_fr s code src data) (by decide) (by decide) (by decide) (raiseLim_held s code src data)

theorem packView_emit (o : Out) : (s.emit o).packView = s.packView := rfl

theorem packView_settlePin (v : Nat) : (s.settlePin v).packView = s.packView :=
  packView_fr (settlePin_fr s v) (by simp) (by simp) (by simp) (held_of_fr (settlePin_fr s v) (by simp))

theorem packView_settlePins (vs : List Nat) : (s.settlePins vs).packView = s.packView :=
  packView_foldl s packView_settlePin vs

/-! ### Tallies, their records and their actions -/

variable (t : Nat)

theorem packView_trackCount (i : Nat) : (s.trackCount t i).packView = s.packView := packView_count ..

theorem packView_updTally (id : Nat) (f : Tally → Tally) : (s.updTally t id f).packView = s.packView := rfl

theorem packView_drainRecords (e : Nat) (l : List (Nat × Tally)) : (s.drainRecords e l).packView = s.packView := by
  induction l generalizing s with
  | nil => rfl
  | cons x l ih =>
    obtain ⟨u, x⟩ := x
    unfold State.drainRecords
    dsimp only
    refine packView_ite (ih s) (packView_ite rfl ((ih _).trans ?_))
    exact packView_foldl s (fun v i => packView_emit v _) _

theorem packView_offerRecord (x : Tally) : (s.offerRecord t x).packView = s.packView := by
  unfold State.offerRecord
  dsimp only
  refine packView_ite rfl (packView_ite ?_ ((packView_drainRecords _ _ _).trans (packView_drainRecords _ _ _)))
  exact (packView_raiseLim _ _ _ _).trans ((packView_trackCount _ _ _).trans (packView_drainRecords _ _ _))

theorem packView_removeTally (id : Nat) (expire : Bool) : (s.removeTally t id expire).packView = s.packView := by
  unfold State.removeTally
  split
  · rfl
  · dsimp only
    refine packView_ite ((packView_raiseLim _ _ _ _).trans ?_) ?_
    · exact (packView_trackCount _ _ _).trans (packView_offerRecord _ _ _)
    · exact (packView_trackCount _ _ _).trans (packView_offerRecord _ _ _)

theorem packView_actMissed (id cause : Nat) : (s.actMissed t id cause).packView = s.packView :=
  (packView_raiseLim _ _ _ _).trans (packView_trackCount _ _ _)

theorem packView_schedule (st id : Nat) (birth : BitVec 48) : (s.schedule t st id birth).packView = s.packView := by
  unfold State.schedule
  dsimp only
  refine packView_ite (packView_actMissed _ _ _ _) (packView_ite (packView_actMissed _ _ _ _) (packView_ite ?_ rfl))
  exact packView_settlePin _ _

theorem packView_stepActs (old new : BitVec 48) (l : List Action) : (s.stepActs t old new l).packView = s.packView := by
  unfold State.stepActs
  refine packView_foldl s (fun u a => ?_) l
  dsimp only
  refine packView_ite rfl ?_
  have hmiss : ∀ (v : State) (b : Bool), (if b then v.actMissed t a.tally 2 else v).packView = v.packView := fun v b =>
    packView_ite (packView_actMissed _ _ _ _) rfl
  have hfirst : ∀ (v : State) (b : Bool),
      (if b then v.updTally t a.tally (fun x => x.withFlag flACTED) else v).packView = v.packView := fun v b => packView_ite rfl rfl
  refine packView_ite ?_ ((packView_settlePin _ _).trans ?_) <;>
    exact (hfirst _ _).trans ((hmiss _ _).trans rfl)

theorem packView_decideTally (id : Nat) : (s.decideTally t id).packView = s.packView := by
  unfold State.decideTally
  split
  · rfl
  · exact packView_foldl (State.updTally _ _ _ _) (fun u st => packView_schedule u t st id _) _

theorem packView_noteTally (id : Nat) (cfg : Reg) (v : NoteVal) : (s.noteTally t id cfg v).packView = s.packView := by
  unfold State.noteTally
  dsimp only
  have hlate : ∀ (u : State) (b : Bool),
      (if b then (u.updTally t id (fun x => x.withFlag flLATE_NOTE)).trackCount t 6 else u).packView = u.packView := fun u b =>
    packView_ite (packView_trackCount _ _ _) rfl
  refine packView_ite ((packView_removeTally _ _ _ _).trans (hlate _ _)) (packView_ite (hlate _ _) (packView_ite ?_ (hlate _ _)))
  exact (packView_decideTally _ _ _).trans (hlate _ _)

/-! ### Positions -/

theorem packView_fresh : s.fresh.2.packView = s.packView := rfl

theorem packView_tallyPoints (new : BitVec 48) (id : Nat) : (s.tallyPoints t new id).packView = s.packView := by
  unfold State.tallyPoints
  split
  · rfl
  next x _ =>
    lift_lets
    intro d falls moved dec decided noted lim
    have hdecided : decided.packView = s.packView := packView_ite (packView_decideTally moved t id) (packView_updTally s t id _)
    have hnoted : noted.packView = s.packView := by
      refine (packView_foldl decided (fun v st => ?_) _).trans hdecided
      refine packView_ite ?_ rfl
      exact (packView_noteTally _ _ _ _ _).trans (packView_ite (packView_fresh v) rfl)
    exact packView_ite ((packView_removeTally noted t id true).trans hnoted) hnoted

theorem packView_moveOne (new : BitVec 48) : (s.moveOne t new).packView = s.packView := by
  unfold State.moveOne
  dsimp only
  refine packView_ite rfl ((packView_foldl _ (fun v id => packView_tallyPoints v t new id) _).trans ?_)
  exact (packView_stepActs _ _ _ _ _).trans rfl

theorem packView_moveTrack (new : BitVec 48) : (s.moveTrack t new).packView = s.packView := by
  unfold State.moveTrack
  dsimp only
  refine packView_ite (packView_moveOne s t new) ((packView_foldl _ (fun v u => ?_) _).trans (packView_moveOne s t new))
  exact packView_ite (packView_moveOne v u new) rfl

theorem packView_configTrack (cfg : Reg) (note rec_ : BitVec 16) (maxT travel dec : Nat) :
    (s.configTrack t cfg note rec_ maxT travel dec).packView = s.packView := by
  unfold State.configTrack
  dsimp only
  refine packView_ite rfl ?_
  split
  · exact packView_moveTrack _ _ _
  · rfl
  · rfl

theorem packView_setFlag (f : Fld) (b : Bool) : (s.setFlag f b).packView = s.packView := rfl

theorem packView_flushTrack : (s.flushTrack t).packView = s.packView := by
  unfold State.flushTrack
  dsimp only
  rw [packView_settlePins, packView_setFlag, packView_tal]
  rfl

/-! ### Frames of tallies -/

theorem packView_st_ite {a b : CmdRes} {c : Prop} [Decidable c] (h1 : a.st.packView = s.packView) (h2 : b.st.packView = s.packView) :
    (if c then a else b).st.packView = s.packView := by
  split
  · exact h1
  · exact h2

theorem packView_ends (status : Nat) : (s.ends status).st.packView = s.packView := rfl

theorem packView_trackSet (r : CmdRef) (track op b10 b11 b12 b13 : Byte) (h14 h16 h18 : BitVec 16) (w20 w24 : BitVec 32) :
    (State.trackSet r track op b10 b11 b12 b13 h14 h16 h18 w20 w24 s).st.packView = s.packView := by
  unfold State.trackSet
  dsimp only
  refine packView_st_ite s (packView_ends _ _) ?_
  split
  · refine packView_st_ite s (packView_ends _ _) (packView_st_ite s (packView_ends _ _) (packView_st_ite s (packView_ends _ _)
      (packView_st_ite s (packView_ends _ _) ?_)))
    exact packView_configTrack ..
  · exact packView_st_ite s (packView_ends _ _) rfl
  · exact packView_st_ite s (packView_ends _ _) (packView_flushTrack s _)
  · exact packView_st_ite s (packView_ends _ _) (packView_st_ite s rfl (packView_st_ite s (packView_ends _ _) rfl))
  · exact packView_ends _ _

theorem packView_stationSet (station : BitVec 16) (kind track trigger flags zone field value pin : Byte) (offset : BitVec 32)
    (win holdoff : BitVec 16) :
    (State.stationSet station kind track trigger flags zone field value pin offset win holdoff s).st.packView = s.packView := by
  unfold State.stationSet
  dsimp only
  refine packView_st_ite s (packView_ends _ _) (packView_st_ite s (packView_ends _ _) (packView_st_ite s (packView_ends _ _) ?_))
  rw [packView_ends, packView_settlePins, packView_tal, packView_wr, packView_wr, packView_wr, packView_wr]

theorem packView_layTally (f : Frame) : (layTally s f).1.packView = s.packView := by
  unfold layTally
  split
  · exact packView_trackSet ..
  · exact packView_stationSet ..
  · rfl

theorem packView_layTallies (fs : List Frame) (b : Bool) : (layAll layTally fs (s, b)).1.packView = s.packView := by
  induction fs generalizing s b with
  | nil => rfl
  | cons f fs ih => exact (ih _ _).trans (packView_layTally s f)

end

end Sys2Proof.Machine
end

section
/-! SUPPORT.  A pack's run: its rules and schedules, its end, its failure, and the entry that it submits next (R373, R398, R471). -/

namespace Sys2Proof.Machine

open Sys2Proof

/-! ### Completions of other commands -/

theorem pending_fr {ps : List Part} {ks : List Nat} {s t : State} (h : Fr ps ks s t) (hc : Part.cmds ∉ ps)
    (hh : ∀ m, (t.ring m).held = (s.ring m).held) (r : CmdRef) (x : Compl) : Pending s t r x := (held_fr h hc hh).pending r x

theorem pending_view {s t : State} (h : t.packView = s.packView) (ho : s.out <+: t.out) (r : CmdRef) (x : Compl) :
    Pending s t r x := by
  have hheld : (fun m => (t.ring m).held) = fun m => (s.ring m).held := congrArg (fun v => v.2.2.2) h
  exact Held.pending ⟨congrArg (fun v => v.2.2.1) h, ho, congrFun hheld⟩ r x

theorem count_held_post (s : State) {x y : Compl} (hne : y ≠ x) (m : Nat) :
    ((s.post y).ring m).held.count x = (s.ring m).held.count x := by
  unfold State.post
  dsimp only
  split
  · rw [produce_held]
  · rw [ring_setRing]
    split
    next h =>
      rw [List.count_append, List.count_singleton, h]
      simp [hne]
    · rfl

/-- A command's completion with another status gives nothing that the command waits for. -/
theorem pending_finish (s : State) (q : CmdRef) {status : Nat} (result : Word) (r : CmdRef) {x : Compl} (hne : status ≠ x.status) :
    Pending s (s.finish q status result) r x := by
  have hkeeps : Keeps s (s.finish q status result) := (fr_finish (Fr.refl (.cmds :: evParts) bookKeys s) (by simp) (by simp) _ _ _).keeps
  refine ⟨?_, hkeeps.out, fun m => ?_⟩
  · have hcmds : (s.finish q status result).host.cmds = s.host.cmds.filter (fun c => decide (¬ (c.ring = q.ring ∧
      c.id = q.id ∧ c.opcode = q.opcode))) := (finish_books s q status result).host_cmds
    unfold State.cmdOf
    rw [hcmds, List.find?_filter]
    by_cases hq : r.ring = q.ring ∧ r.id = q.id ∧ r.opcode = q.opcode
    · refine .inr (List.find?_eq_none.mpr fun c _ => ?_)
      obtain ⟨h1, h2, h3⟩ := hq
      simp only [h1, h2, h3]
      simp
      tauto
    · refine .inl (congrArg (fun p => s.host.cmds.find? p) (funext fun c => ?_))
      by_cases hc : c.ring = r.ring ∧ c.id = r.id ∧ c.opcode = r.opcode
      · obtain ⟨h1, h2, h3⟩ := hc
        simp [h1, h2, h3]
        tauto
      · simp [hc]
  · unfold State.finish
    dsimp only
    have hx : ∀ c : Compl, c.status = status → c ≠ x := fun c hc he => hne (by rw [← hc, he])
    split
    · split
      · rfl
      · exact count_held_post _ (hx _ rfl) m
    · exact count_held_post _ (hx _ rfl) m

/-! ### Rules and schedules of a pack -/

/-- What a pack's rules and schedules leave as it is: they may refuse a swap that waited for a schedule, and nothing else of the
host's changes. -/
structure PackLaid (s t : State) : Prop where
  lib : t.ctx.lib = s.ctx.lib
  img : t.img = s.img
  pending : ∀ r x, x.status ≠ stREFUSED → Pending s t r x

theorem PackLaid.trans {s t u : State} (h : PackLaid s t) (k : PackLaid t u) : PackLaid s u :=
  ⟨k.lib.trans h.lib, k.img.trans h.img, fun r x hx => (h.pending r x hx).trans (k.pending r x hx)⟩

theorem packLaid_view {s t : State} (h : t.packView = s.packView) (ho : s.out <+: t.out) : PackLaid s t :=
  ⟨congrArg (fun v => v.1.lib) h, congrArg (fun v => v.2.1) h, fun r x _ => pending_view h ho r x⟩

theorem PackLaid.refl (s : State) : PackLaid s s := packLaid_view rfl (List.prefix_refl _)

theorem packLaid_setGroup (s : State) (g : Nat) (x : Group) : PackLaid s (s.setGroup g x) :=
  have h : Held s (s.setGroup g x) := ⟨rfl, List.prefix_refl _, fun _ => rfl⟩
  ⟨rfl, rfl, fun r y _ => h.pending r y⟩

theorem packLaid_finishRef (s : State) (o : Option CmdRef) : PackLaid s (s.finishRef o stREFUSED 0) := by
  cases o with
  | none => exact PackLaid.refl s
  | some q =>
    exact ⟨congrArg CtxState.lib (finish_books s q stREFUSED 0).ctx, (finish_books s q stREFUSED 0).img,
      fun r x hx => pending_finish s q 0 r (Ne.symm hx)⟩

theorem packLaid_refused (s : State) (l : List SwapReq) : PackLaid s (l.foldl (fun s r => s.finishRef r.ref stREFUSED 0) s) := by
  induction l generalizing s with
  | nil => exact PackLaid.refl s
  | cons y l ih => exact (packLaid_finishRef s y.ref).trans (ih _)

theorem packLaid_refuseWhen2 (s : State) (g : Nat) : PackLaid s (s.refuseWhen2 g) :=
  (packLaid_setGroup s g _).trans (packLaid_refused _ _)

theorem packLaid_scheduleSet (s : State) (group pacer mode count : Byte) (first : Word) (phases : List (BitVec 32)) :
    PackLaid s (State.scheduleSet group pacer mode count first phases s).st := by
  unfold State.scheduleSet
  dsimp only
  split
  · exact (packLaid_setGroup s _ _).trans (packLaid_refuseWhen2 _ _)
  split
  · exact PackLaid.refl s
  split
  · exact packLaid_setGroup s _ _
  split
  · exact PackLaid.refl s
  · exact packLaid_setGroup s _ _

theorem packLaid_laySchedule (s : State) (f : Frame) : PackLaid s (laySchedule s f).1 := by
  unfold laySchedule
  split
  · exact (packLaid_scheduleSet s _ _ _ _ _ _).trans (packLaid_setGroup _ _ _)
  · exact PackLaid.refl s

theorem packLaid_laySchedules (fs : List Frame) (r : Laid) : PackLaid r.1 (layAll laySchedule fs r).1 := by
  induction fs generalizing r with
  | nil => exact PackLaid.refl _
  | cons f fs ih =>
    exact (packLaid_laySchedule r.1 f).trans (ih ((laySchedule r.1 f).1, r.2 && (laySchedule r.1 f).2))

/-- The rules and schedules of a pack. -/
def State.rulesLaid (s : State) (fs : List Frame) : State := (layAll laySchedule fs (layAll layTally fs (s, true))).1

theorem packLaid_rulesLaid (s : State) (fs : List Frame) : PackLaid s (s.rulesLaid fs) := by
  have hkeeps : Keeps s (layAll layTally fs (s, true)).1 := layAll_keeps (Keeps.refl s) (fun t f ht => layTally_keeps f ht) fs
  exact (packLaid_view (packView_layTallies s fs true) hkeeps.out).trans (packLaid_laySchedules fs _)

/-! ### The end and the failure of a pack -/

section
variable (s : State) (p : PackRun)

theorem setPack_fr (o : Option PackRun) : Fr [.img] [] s (s.setPack o) := fr_mk (Fr.refl _ _ s) (by simp) rfl

theorem chainPack_fr : Fr [.img] [] s (s.chainPack p) := by
  unfold State.chainPack
  split
  · exact Fr.refl _ _ s
  · exact fr_mk (Fr.refl _ _ s) (by simp) rfl

theorem pack_chainPack : (s.chainPack p).img.pack = s.img.pack := by
  unfold State.chainPack
  split <;> rfl

/-- A command that has ended has ended still when the staging buffer is emptied. -/
theorem Ended.unstage {s t : State} {r : CmdRef} {status : Nat} {result : Word} (h : Ended s t r status result) :
    Ended s t.unstage r status result := by
  have haux : ∀ n, t.unstage.get ⟨ringAux n, 0, 6⟩ = t.get ⟨ringAux n, 0, 6⟩ := fun n => by
    refine (unstage_fr t).get ?_
    simp only [ringAux, ringKey, CFG_STAGE, CFG_STAGE_BYTES, List.mem_cons, List.not_mem_nil, or_false]
    split <;> omega
  refine ⟨fun hkept => ?_, h.gone⟩
  obtain hsent | hheld := h.posted hkept
  · exact .inl hsent
  · refine .inr ?_
    rw [haux]
    exact hheld

theorem nextEntry_done (hp : s.img.pack = some p) (hl : p.left = []) : s.nextEntry = s.endPack p := by
  unfold State.nextEntry
  rw [hp]
  dsimp only
  rw [hl]

/-- A pack whose rules are applied, before PACK_LOAD completes. -/
def State.packApplied : State :=
  (((s.setPack none).rulesLaid (s.ownFrames p.image)).raise 0x0C07 srcConfig [(18, 2, p.written)]).chainPack p

theorem endPack_eq : s.endPack p = ((s.packApplied p).finish p.ref stOK (BitVec.ofNat 64 p.written)).unstage := rfl

theorem packApplied_laid : (s.packApplied p).ctx.lib = s.ctx.lib ∧ (s.packApplied p).img.pack = none ∧
    ∀ r x, x.status ≠ stREFUSED → Pending s (s.packApplied p) r x := by
  have hlaid := packLaid_rulesLaid (s.setPack none) (s.ownFrames p.image)
  have hview := packView_raise ((s.setPack none).rulesLaid (s.ownFrames p.image)) 0x0C07 srcConfig [(18, 2, p.written)]
  have hraise := packLaid_view hview (raise_fr _ _ _ _).keeps.out
  have hchain := chainPack_fr (((s.setPack none).rulesLaid (s.ownFrames p.image)).raise 0x0C07 srcConfig [(18, 2, p.written)]) p
  have hctx : (s.packApplied p).ctx = (((s.setPack none).rulesLaid (s.ownFrames p.image)).raise 0x0C07 srcConfig
    [(18, 2, p.written)]).ctx := hchain.frame.part .ctx (by simp)
  refine ⟨?_, ?_, fun r x hx => ?_⟩
  · rw [hctx]
    exact hraise.lib.trans hlaid.lib
  · refine (pack_chainPack _ p).trans ?_
    rw [hraise.img, hlaid.img]
    rfl
  · exact (pending_fr (setPack_fr s none) (by simp) (fun _ => rfl) r x).trans ((hlaid.pending r x hx).trans
      ((hraise.pending r x hx).trans (pending_fr hchain (by simp) (held_of_fr hchain (by simp)) r x)))

theorem unstage_pack : s.unstage.img.pack = s.img.pack := rfl

theorem endPack_row : (s.endPack p).ctx.lib = s.ctx.lib ∧ (s.endPack p).img.pack = none ∧ (s.endPack p).get CFG_STAGE_STATE = 0 ∧
    Ended s (s.endPack p) p.ref stOK (BitVec.ofNat 64 p.written) := by
  obtain ⟨hlib, hpack, hpending⟩ := packApplied_laid s p
  rw [endPack_eq]
  have hbooks := finish_books (s.packApplied p) p.ref stOK (BitVec.ofNat 64 p.written)
  refine ⟨?_, ?_, unstage_state _, ((ended_finish _ p.ref stOK _).back (hpending _ _ (show stOK ≠ stREFUSED by decide))).unstage⟩
  · exact (congrArg CtxState.lib hbooks.ctx).trans hlib
  · rw [unstage_pack, hbooks.img]
    exact hpack

/-! ### A pack that fails -/

/-- The entries that a pack leaves unwritten show no VALID. -/
def State.entriesDropped (l : List (Nat × Nat)) : State :=
  l.foldl (fun s x => s.setBit (COL_CTX_LIB (matCol (s.physMat x.1)) (matG (s.physMat x.1))) x.2 false) s

theorem entriesDropped_fr (l : List (Nat × Nat)) : Fr [] grantKeys s (s.entriesDropped l) :=
  fr_foldl (Fr.refl _ _ s) (fun _ _ h => fr_setBit h (libReg_mem_grantKeys _) _) l

theorem bit_setBit_clear (k i : Nat) : (s.setBit k i false).bit k i = false := flag_setFlag_false s ⟨k, i, 1⟩

/-- A bit that is clear stays so while others are cleared. -/
theorem bit_setBit_clear_mono {s : State} {k i : Nat} (h : s.bit k i = false) (j m : Nat) : (s.setBit j m false).bit k i = false := by
  by_cases he : j = k
  · subst he
    by_cases hi : i = m
    · subst hi
      exact bit_setBit_clear s j i
    · exact (bit_setBit_ne s j hi false).trans h
  · refine (State.flag_setFlag_apart s (f := ⟨j, m, 1⟩) (g := ⟨k, i, 1⟩) ?_ false).trans h
    simp [fldsApart, he]

theorem bit_entriesDropped_mono {k i : Nat} (l : List (Nat × Nat)) (h : s.bit k i = false) :
    (s.entriesDropped l).bit k i = false := by
  induction l generalizing s with
  | nil => exact h
  | cons x l ih => exact ih _ (bit_setBit_clear_mono h _ _)

theorem bit_entriesDropped (l : List (Nat × Nat)) {y : Nat × Nat} (hy : y ∈ l) :
    (s.entriesDropped l).bit (COL_CTX_LIB (matCol (s.physMat y.1)) (matG (s.physMat y.1))) y.2 = false := by
  induction l generalizing s with
  | nil => cases hy
  | cons x l ih =>
    obtain rfl | hy := List.mem_cons.mp hy
    · exact bit_entriesDropped_mono _ l (bit_setBit_clear s _ _)
    · exact ih (s.setBit (COL_CTX_LIB (matCol (s.physMat x.1)) (matG (s.physMat x.1))) x.2 false) hy

/-- A pack that fails, before PACK_LOAD completes. -/
def State.packDropped : State := (({ s with img := { s.img with pack := none } } : State).chainPack p).entriesDropped p.left

theorem failPack_eq (hp : s.img.pack = some p) (status : Nat) :
    s.failPack status = ((s.packDropped p).finish p.ref status 0).unstage := by
  unfold State.failPack
  rw [hp]
  rfl

theorem packDropped_fr : Fr [.img] grantKeys s (s.packDropped p) := by
  have h1 : Fr [.img] grantKeys s { s with img := { s.img with pack := none } } := fr_mk (Fr.refl _ _ s) (by simp) rfl
  exact h1.trans (((chainPack_fr _ p).mono (by simp) (by simp)).trans ((entriesDropped_fr _ _).mono (by simp) (by simp)))

theorem packDropped_pack : (s.packDropped p).img.pack = none := by
  have h := (entriesDropped_fr (({ s with img := { s.img with pack := none } } : State).chainPack p) p.left).frame.part .img (by simp)
  exact (congrArg ImgState.pack h).trans (pack_chainPack _ p)

theorem physMat_chainPack (m : Nat) : (({ s with img := { s.img with pack := none } } : State).chainPack p).physMat m = s.physMat m := by
  unfold State.chainPack
  split <;> rfl

theorem failPack_row (hp : s.img.pack = some p) (status : Nat) :
    (s.failPack status).img.pack = none ∧ (s.failPack status).get CFG_STAGE_STATE = 0 ∧ (s.failPack status).ctx = s.ctx ∧
      (∀ y ∈ p.left, (s.failPack status).bit (COL_CTX_LIB (matCol (s.physMat y.1)) (matG (s.physMat y.1))) y.2 = false) ∧
      Ended s (s.failPack status) p.ref status 0 := by
  rw [failPack_eq s p hp]
  have hbooks := finish_books (s.packDropped p) p.ref status 0
  have hfr := packDropped_fr s p
  refine ⟨?_, unstage_state _, ?_, fun y hy => ?_, ?_⟩
  · rw [unstage_pack, hbooks.img]
    exact packDropped_pack s p
  · exact hbooks.ctx.trans (hfr.frame.part .ctx (by simp))
  · have hlow : ∀ q, 0x200000 ≤ COL_CTX_LIB (matCol q) (matG q) := fun q => by
      unfold COL_CTX_LIB
      omega
    have hstage : COL_CTX_LIB (matCol (s.physMat y.1)) (matG (s.physMat y.1)) ∉ [CFG_STAGE, CFG_STAGE_BYTES] := by
      have := hlow (s.physMat y.1)
      simp only [CFG_STAGE, CFG_STAGE_BYTES, List.mem_cons, List.not_mem_nil, or_false]
      omega
    have hfinish := fr_finish (Fr.refl (.cmds :: evParts) bookKeys (s.packDropped p)) (by simp) (by simp) p.ref status 0
    unfold State.bit
    rw [(unstage_fr _).flag hstage, hfinish.flag (not_mem_bookKeys (Nat.le_trans (by decide) (hlow (s.physMat y.1))))]
    have h := bit_entriesDropped (({ s with img := { s.img with pack := none } } : State).chainPack p) p.left hy
    rw [physMat_chainPack] at h
    exact h
  · exact ((ended_finish _ p.ref status 0).back (pending_fr hfr (by simp) (held_of_fr hfr (by simp)) _ _)).unstage

end

end Sys2Proof.Machine
end

section
/-! PROOF.  LIBRARY_LOAD writes one entry of a pack; the words of AX streams (R99, R157 to R160, R373). -/

namespace Sys2Proof.Machine

open Sys2Proof

/-! ### What the end of an activity leaves of a pack -/

section
variable (s : State) (place : Nat)

theorem pack_onGrant (t : Task) : (s.onGrant t).img.pack = s.img.pack := by
  cases t <;> rfl

theorem pack_grant (a : Act) : (s.grant a).img.pack = s.img.pack := by
  unfold State.grant
  dsimp only
  rw [pack_onGrant, State.count_img]
  rfl

theorem pack_grantAll (l : List Act) : (s.grantAll l).img.pack = s.img.pack := by
  induction l generalizing s with
  | nil => rfl
  | cons a l ih =>
    refine (ih _).trans ?_
    split
    · exact pack_grant s a
    · rfl

theorem pack_release : (s.release place).img.pack = s.img.pack := pack_grantAll _ _

theorem cfgId_not_grant : CFG_ID ∉ grantKeys := by
  intro hm
  unfold grantKeys at hm
  simp only [List.mem_append, List.mem_flatMap, List.mem_map, List.mem_cons, List.not_mem_nil, or_false, MNT_PREEMPTS, MNT_SAT,
    CFG_ID, CFG_SLOT_STATE, CFG_SLOT_ARV, CFG_SLOT_SIZE, COL_CTX_LIB] at hm
  obtain (hm | ⟨k, -, hm⟩) | ⟨m, -, hm⟩ := hm <;> omega

theorem ownFrames_release (i : Image) : (s.release place).ownFrames i = s.ownFrames i := by
  have h : (s.release place).get CFG_ID_DEVNUM = s.get CFG_ID_DEVNUM := (release_fr s place).get cfgId_not_grant
  unfold State.ownFrames
  rw [h]

theorem ctx_release : (s.release place).ctx = s.ctx := (release_fr s place).frame.part .ctx (by decide)

theorem physMat_release (m : Nat) : (s.release place).physMat m = s.physMat m := by
  have hmap : (s.release place).mnt.matMap = s.mnt.matMap :=
    (congrArg MntState.matMap ((release_fr s place).frame.part .mnt (by decide)) :)
  unfold State.physMat
  rw [hmap]

theorem release_pending (r : CmdRef) (x : Compl) : Pending s (s.release place) r x :=
  pending_fr (release_fr s place) (by decide) (held_of_fr (release_fr s place) (by decide)) r x

theorem entry_of_lib {s t : State} (h : t.ctx.lib = s.ctx.lib) (m e : Nat) : t.entry m e = s.entry m e := by
  unfold State.entry
  rw [h]

end

/-! ### The entry that is written, and the next one -/

section
variable (s : State)

theorem setEntry_fr (m e : Nat) (x : LibEntry) (valid : Bool) :
    Fr [.ctx] [COL_CTX_LIB (matCol m) (matG m)] s (s.setEntry m e x valid) :=
  fr_setFlag (fr_ctx (Fr.refl _ _ s) (by simp) _) (by simp) _

theorem entry_setEntry_self (m e : Nat) (x : LibEntry) (valid : Bool) : (s.setEntry m e x valid).entry m e = x :=
  Tab.get_put_self lib0 s.ctx.lib _ _

theorem entry_setEntry_ne {m e n f : Nat} (he : e < 16) (hf : f < 16) (h : (n, f) ≠ (m, e)) (x : LibEntry) (valid : Bool) :
    (s.setEntry m e x valid).entry n f = s.entry n f := by
  refine Tab.get_put_ne lib0 s.ctx.lib (fun hk => h ?_) _
  have : n = m ∧ f = e := by omega
  rw [this.1, this.2]

theorem submitRaw_lib (m e : Nat) (locks : List Lock) (requester resource : Nat) :
    (s.submitRaw (.libLoad m e) locks requester resource none).1.ctx = s.ctx ∧
      (s.submitRaw (.libLoad m e) locks requester resource none).1.img = s.img := by
  unfold State.submitRaw
  split
  · exact ⟨rfl, rfl⟩
  · dsimp only
    split <;> dsimp only
    · unfold State.grant State.onGrant
      dsimp only
      exact ⟨State.count_ctx .., State.count_img ..⟩
    · exact ⟨State.count_ctx .., State.count_img ..⟩

theorem submit_lib (m e : Nat) (locks : List Lock) (requester resource : Nat) :
    (s.submit (.libLoad m e) locks requester resource none).1.ctx = s.ctx ∧
      (s.submit (.libLoad m e) locks requester resource none).1.img = s.img := by
  unfold State.submit
  dsimp only
  obtain ⟨hctx, himg⟩ := submitRaw_lib (match s.mnt.acts.find? (fun h => meetHolder
      { place := 33, task := .libLoad m e, locks := locks, st := .waiting, requester := requester, ref := none, since := s.time,
        resource := resource } h ≠ .both ∧ ((requester = 0 ∧ h.requester = 1) ∨ (requester = 1 ∧ h.requester = 0))) with
    | some h => (s.count (LSUP_CONFLICTS 2) (LSUP_SAT_CONFLICTS 2) 1).raise 0x4101 (srcSuper 2)
        [(18, 1, resource % 256), (19, 1, 2), (20, 1, taskCode (.libLoad m e)), (21, 1, taskCode h.task)]
    | none => s) m e locks requester resource
  refine ⟨hctx.trans ?_, himg.trans ?_⟩
  · split
    · exact ((raise_fr _ _ _ _).frame.part .ctx (by decide)).trans (State.count_ctx ..)
    · rfl
  · split
    · exact ((raise_fr _ _ _ _).frame.part .img (by decide)).trans (State.count_img ..)
    · rfl

theorem interim_fr (r : CmdRef) : Fr [.rings, .out] bookKeys s (s.interim r) :=
  fr_ite (Fr.refl _ _ s) (fr_post s _)

/-- While entries are to come, a pack goes on with the next one. -/
theorem nextEntry_goes {p : PackRun} (hp : s.img.pack = some p) (hl : p.left ≠ []) :
    s.nextEntry.ctx = s.ctx ∧ ∃ b, s.nextEntry.img.pack = some { p with queued := b } := by
  unfold State.nextEntry
  rw [hp]
  dsimp only
  split
  next h => exact absurd h hl
  next m e l _ =>
    obtain ⟨hctx, himg⟩ := submit_lib s m e [Lock.lib (s.physMat m) (some e)] 3 e
    generalize s.submit (.libLoad m e) [Lock.lib (s.physMat m) (some e)] 3 e none = r at hctx himg
    obtain ⟨u, x⟩ := r
    dsimp only at hctx himg
    have hsame : u.img.pack = some { p with queued := p.queued } := by rw [himg, hp]
    have hwait : ∀ v : State, v.ctx = s.ctx → v.img.pack = some p →
        (if p.queued then v else (v.interim p.ref).setPack (some { p with queued := true })).ctx = s.ctx ∧
          ∃ b, (if p.queued then v else (v.interim p.ref).setPack (some { p with queued := true })).img.pack =
            some { p with queued := b } := by
      intro v hvctx hvpack
      split
      · exact ⟨hvctx, p.queued, hvpack⟩
      · exact ⟨((interim_fr v p.ref).frame.part .ctx (by decide)).trans hvctx, true, rfl⟩
    cases x with
    | running place => exact ⟨hctx, _, hsame⟩
    | noSpace => exact hwait _ hctx (by rw [← hp, ← himg]; rfl)
    | waiting place => exact hwait _ hctx (by rw [← hp, ← himg]; rfl)

end

/-! ### The rows -/

section
variable (s : State) (mat : MatId) (entry : Fin 16) (a : Act) (p : PackRun)
  (ha : s.runningTask (fun t => decide (t = .libLoad (s.logMat mat.val) entry.val)) = some a) (hp : s.img.pack = some p)
  (hnv : s.pow.nvHeld = false)

/-- A pack with one entry more written. -/
def PackRun.wrote (p : PackRun) (x : Nat × Nat) : PackRun :=
  { p with left := p.left.filter (fun e => decide (e ≠ x)), written := p.written + 1 }

/-- The granted write of an entry has ended well. -/
def State.libWritten (s : State) (mat entry : Nat) (a : Act) (p : PackRun) : State :=
  ((s.release a.place).setEntry mat entry (packEntry ((s.release a.place).ownFrames p.image) (s.logMat mat, entry)
    ((s.release a.place).entry mat entry)) true).setPack (some (p.wrote (s.logMat mat, entry)))

include ha hp hnv in
theorem libraryLoad_eq (pass : Bool) : exec (.libraryLoad mat entry pass) s = .next (if pass then
    (s.libWritten mat.val entry.val a p).nextEntry else (s.release a.place).failPack stHW_FAULT) := by
  change execLibraryLoad mat entry pass s = _
  unfold execLibraryLoad
  dsimp only
  rw [ha, hp]
  dsimp only
  rw [if_neg (by simp [hnv])]
  cases pass <;> rfl

theorem libWritten_entry : (s.libWritten mat.val entry.val a p).entry mat.val entry.val =
    packEntry (s.ownFrames p.image) (s.logMat mat.val, entry.val) (s.entry mat.val entry.val) := by
  have h := entry_setEntry_self (s.release a.place) mat.val entry.val (packEntry ((s.release a.place).ownFrames p.image)
    (s.logMat mat.val, entry.val) ((s.release a.place).entry mat.val entry.val)) true
  rw [ownFrames_release, entry_of_lib (congrArg CtxState.lib (ctx_release s a.place))] at h
  rw [← h, State.libWritten, ownFrames_release, entry_of_lib (congrArg CtxState.lib (ctx_release s a.place))]
  rfl

theorem libWritten_others {m e : Nat} (he : e < 16) (h : (m, e) ≠ (mat.val, entry.val)) :
    (s.libWritten mat.val entry.val a p).entry m e = s.entry m e :=
  (entry_setEntry_ne (s.release a.place) entry.isLt he h _ true).trans
    (entry_of_lib (congrArg CtxState.lib (ctx_release s a.place)) m e)

theorem libWritten_pending (r : CmdRef) (x : Compl) : Pending s (s.libWritten mat.val entry.val a p) r x := by
  have hset := setEntry_fr (s.release a.place) mat.val entry.val (packEntry ((s.release a.place).ownFrames p.image)
    (s.logMat mat.val, entry.val) ((s.release a.place).entry mat.val entry.val)) true
  have hpack := setPack_fr ((s.release a.place).setEntry mat.val entry.val (packEntry ((s.release a.place).ownFrames p.image)
    (s.logMat mat.val, entry.val) ((s.release a.place).entry mat.val entry.val)) true)
    (some (p.wrote (s.logMat mat.val, entry.val)))
  exact ((release_pending s a.place r x).trans (pending_fr hset (by simp) (held_of_fr hset (by simp)) r x)).trans
    (pending_fr hpack (by simp) (held_of_fr hpack (by simp)) r x)

include ha hp hnv

theorem libraryLoad_pass :
    ∃ t, exec (.libraryLoad mat entry true) s = .next t ∧
      t.entry mat.val entry.val =
        packEntry (s.ownFrames p.image) (s.logMat mat.val, entry.val) (s.entry mat.val entry.val) ∧
      (∀ m e, (m, e) ≠ (mat.val, entry.val) → e < 16 → t.entry m e = s.entry m e) ∧
      (p.left.filter (fun e => decide (e ≠ (s.logMat mat.val, entry.val))) ≠ [] →
        ∃ q, t.img.pack = some q ∧ q.left = p.left.filter (fun e => decide (e ≠ (s.logMat mat.val, entry.val))) ∧
          q.written = p.written + 1 ∧ q.ref = p.ref ∧ q.image = p.image) ∧
      (p.left.filter (fun e => decide (e ≠ (s.logMat mat.val, entry.val))) = [] →
        t.img.pack = none ∧ t.get CFG_STAGE_STATE = 0 ∧ Ended s t p.ref stOK (BitVec.ofNat 64 (p.written + 1))) := by
  have hpack : (s.libWritten mat.val entry.val a p).img.pack = some (p.wrote (s.logMat mat.val, entry.val)) := rfl
  refine ⟨_, libraryLoad_eq s mat entry a p ha hp hnv true, ?_⟩
  rw [if_pos rfl]
  by_cases hleft : (p.wrote (s.logMat mat.val, entry.val)).left = []
  · obtain ⟨hlib, hnone, hstage, hended⟩ := endPack_row (s.libWritten mat.val entry.val a p) (p.wrote (s.logMat mat.val, entry.val))
    rw [nextEntry_done _ _ hpack hleft]
    refine ⟨?_, fun m e hne he => ?_, fun hn => absurd hleft hn, fun _ => ⟨hnone, hstage, ?_⟩⟩
    · exact (entry_of_lib hlib _ _).trans (libWritten_entry s mat entry a p)
    · exact (entry_of_lib hlib _ _).trans (libWritten_others s mat entry a p he hne)
    · exact hended.back (libWritten_pending s mat entry a p _ _)
  · obtain ⟨hctx, b, hq⟩ := nextEntry_goes (s.libWritten mat.val entry.val a p) hpack hleft
    have hlib := congrArg CtxState.lib hctx
    refine ⟨?_, fun m e hne he => ?_, fun _ => ⟨_, hq, rfl, rfl, rfl, rfl⟩, fun hn => absurd hn hleft⟩
    · exact (entry_of_lib hlib _ _).trans (libWritten_entry s mat entry a p)
    · exact (entry_of_lib hlib _ _).trans (libWritten_others s mat entry a p he hne)

theorem libraryLoad_fail :
    ∃ t, exec (.libraryLoad mat entry false) s = .next t ∧ t.img.pack = none ∧ t.get CFG_STAGE_STATE = 0 ∧
      (∀ m e, t.entry m e = s.entry m e) ∧
      (∀ y ∈ p.left, t.bit (COL_CTX_LIB (matCol (s.physMat y.1)) (matG (s.physMat y.1))) y.2 = false) ∧
      Ended s t p.ref stHW_FAULT 0 := by
  obtain ⟨hnone, hstage, hctx, hbits, hended⟩ := failPack_row (s.release a.place) p ((pack_release s a.place).trans hp) stHW_FAULT
  refine ⟨_, libraryLoad_eq s mat entry a p ha hp hnv false, ?_⟩
  rw [if_neg (by simp)]
  refine ⟨hnone, hstage, fun m e => ?_, fun y hy => ?_, hended.back (release_pending s a.place _ _)⟩
  · exact entry_of_lib (congrArg CtxState.lib (hctx.trans (ctx_release s a.place))) m e
  · have h := hbits y hy
    rw [physMat_release] at h
    exact h

end

/-- Settles O14: an entry of a pack is written by its LIBRARY_LOAD, and the last one, or one that fails, ends the pack; the words
of an AX stream are kept in order until it is rejected. -/
theorem packAndAxStreamsAdvance : Obligations.PackAndAxStreamsAdvance := by
  refine ⟨fun s mat entry a p => libraryLoad_pass s mat entry a p, fun s mat entry a p => libraryLoad_fail s mat entry a p,
    fun s n ok => axBegin_row s n ok, fun s n w ok ws => axKept_row s n w ok ws, fun s n w ok ws => axRejected_row s n w ok ws,
    axTruncated_row⟩

end Sys2Proof.Machine
end
